-- ==== Sys2Proof/Word.lean ====
section
/-! DEFINITION. The word types the manual counts bits in (R11, R13): bytes of a structure, 32-bit register words,
postmarks, and the plainest conversions between a signed value and its two's-complement code. -/

namespace Sys2Proof

/-- One byte of a structure the device sends, receives or stores (R13). -/
abbrev Byte := BitVec 8
/-- One 32-bit register word (R15). -/
abbrev Word := BitVec 32
/-- A postmark or another 64-bit value (R50). -/
abbrev Word64 := BitVec 64

end Sys2Proof
end

