-- ==== Sys2Proof/Types.lean ====
section
/-! DEFINITION. The operands of the block's commands: reports, frames and blocks in the manual's own layouts. -/

namespace Sys2Proof

/-- The accessors of R421. -/
inductive Accessor where
  | pa | pb | twb | sp
deriving DecidableEq, Repr

/-- The two endpoints, PA of host A and PB of host B (R285). -/
inductive Endpoint where
  | pa | pb
deriving DecidableEq, Repr

/-- A report slot (R72): RTYPE, byte 1 (CC and flags), and the 48 bits of DATA. -/
structure Report where
  rtype : Byte
  flags : Byte
  data : BitVec 48
deriving DecidableEq, Repr

/-- One upstream frame as it arrives (R65, R68): whether it came in at the RX pins or, in split operation, at the TX pins; the
16 header bytes with HCRC; and the four command and three bulk sections, each with its CRC-32 at the end. -/
structure UpFrame where
  rx : Bool
  hdr : List Byte
  secs : List (List Byte)
deriving DecidableEq, Repr

/-- What a stage reports of itself while the ring is measured (R85), in 1/256 ns: its turnaround, and the difference
between its section delay and its probe delay. -/
structure OwnDelay where
  turn : BitVec 32
  diff : BitVec 32
deriving DecidableEq, Repr

/-- What an alert response read meets (R379, R377): the address of the target that answers, none where none does, and whether
SDA is low where the bus is checked before it. -/
structure AlertRead where
  answer : Option (BitVec 7)
  sdaLow : Bool
deriving DecidableEq, Repr

/-- What a store access meets besides its data (R342): nothing, a corrected single-bit error, a double-bit error at an
address with the word as read, or a block whose read-back fails twice. -/
inductive StoreCase where
  | fine
  | corrected
  | uncorrectable (a : BitVec 24) (word : List Byte)
  | writeFail (a : BitVec 24)
deriving DecidableEq, Repr

/-- What the partner shows on one CC line (R384). -/
inductive Term where
  | opn
  | rd
  | ra
  | rp
deriving DecidableEq, Repr

/-- An object of a partner's Source_Capabilities (R392): a fixed supply in 50 mV and 10 mA, an SPR programmable supply
from a minimum to a maximum in 100 mV with its current in 50 mA, or any other object. -/
inductive Pdo where
  | fixed (volt : BitVec 10) (curr : BitVec 10)
  | pps (lo hi : Byte) (curr : BitVec 7)
  | other
deriving DecidableEq, Repr

/-- The sender of a host command and the fields of its descriptor outside ARG (R290, R293): its path, SEQ, TAG, the
flags IRQ and LOCAL, the command ring index, and the bytes that follow the descriptor of a service-port transfer (R403). -/
structure Sender where
  path : Accessor
  seq : BitVec 32
  tag : BitVec 32
  irq : Bool
  lcl : Bool
  cidx : BitVec 16
  extra : List Byte
deriving DecidableEq, Repr

/-- How a transfer of TWA ends (R375, R376): with the bytes read, with a byte or the address not acknowledged, or with
arbitration lost. -/
inductive TwaResult where
  | ok (bytes : List Byte)
  | nak
  | arbLost
deriving DecidableEq, Repr

/-- What phase A of a tick latches from the pins (R45, R197, R249, R267, R318, R381, R411): the levels of EMERG_N, WAKE_IN
and MR_N, AUTH1 and AUTH0, the throttle balls, the die temperature in Q16.16 °C, the pin SVC_VBUS_SNS in mV, and the
supplies that are good, numbered as PM_SUP. -/
structure Pins where
  emergN : Bool
  wakeIn : Bool
  mrN : Bool
  auth : BitVec 2
  gpio : BitVec 4
  tDie : BitVec 32
  vbusSns : BitVec 12
  supplies : Byte
deriving DecidableEq, Repr

end Sys2Proof
end

