-- ==== Sys2Proof/Syntax.lean ====
section
/-! DEFINITION. The commands the block takes: one constructor per row of the opcode table, those
with operands first. -/

namespace Sys2Proof

/-- A command: an access by an accessor, an input that arrives, a host command, or the expiry of a timer or filter. -/
inductive Instr where
  /-- TICK_EDGE (R45): A tick edge starts the fixed five-phase work of one tick: latch, arrivals, timers, laws and
  emit. Operands: with the pins that phase A latches. -/
  | tickEdge (p : Pins)
  /-- SYNC_CAPTURE (R58): A captured SYNC_IN edge updates the frequency accumulator and the rate word of the postmark
  discipline. Operands: captured at postmark `pm`. -/
  | syncCapture (pm : Word64)
  /-- RG_CMD_RESET (R84): A write of RG_CMD.RESET resets one ring, which sends SAFEALL where required and returns to
  DOWN. Operands: by an accessor, of ring `r`. -/
  | rgCmdReset (a : Accessor) (r : Fin 8)
  /-- RG_CMD_CLRCNT (R93): A write of RG_CMD.CLRCNT clears the ring's error counters. Operands: by an accessor, of ring
  `r`. -/
  | rgCmdClrcnt (a : Accessor) (r : Fin 8)
  /-- TRAINING_FRAME_RETURN (R84): A returning training frame advances LOCK to COUNT, or COUNT to MEASURE or IDENT, or
  fails on overcount. Operands: with the count found from TX and, in SPLIT-TRAIN, from RX. -/
  | trainingFrameReturn (r : Fin 8) (n m : Byte)
  /-- LOCK_TIMEOUT (R84): No training SOF has returned within 1 ms, so the ring reverses the RX lane and tries split
  training. Operands: of ring `r`. -/
  | lockTimeout (r : Fin 8)
  /-- MEASURE_COMPLETE (R85): Probe measurement ends; delays and report latency are written, or training fails with
  LATENCY. Operands: of ring `r`: by position, the round trips of the probe tokens from the TX end and from the RX end and
  what the stage reports of itself; and the loop delay, in 1/256 ns. -/
  | measureComplete (r : Fin 8) (fwd rev : List (List (BitVec 32))) (own : List OwnDelay) (dloop : BitVec 32)
  /-- TRAIN_RETRY (R84): 10 ms in FAILED with EN = 1 return the ring to DOWN to train again. Operands: of ring `r`. -/
  | trainRetry (r : Fin 8)
  /-- UPSTREAM_FRAME (R68): A ring's upstream frame is latched, and its reports and bulk answer are processed in phase
  B. Operands: of ring `r`, as it arrives. -/
  | upstreamFrame (r : Fin 8) (f : UpFrame)
  /-- NOT_REPORTING (R74): MISS_LIM consecutive ticks without a valid report mark the channel not reporting. Operands:
  of channel `c`. -/
  | notReporting (c : Fin 256)
  /-- BREAK_BEACON (R89): A latched break beacon sets BREAK_POS and schedules split operation at b + 8. Operands: of
  position `pos`, sent in the frame numbered `fnum`. -/
  | breakBeacon (r : Fin 8) (pos : Fin 32) (fnum : BitVec 16)
  /-- RX_SOF_LOSS (R89): Three ticks without a valid SOF and without a beacon place the break on the link into RX.
  Operands: of ring `r`. -/
  | rxSofLoss (r : Fin 8)
  /-- SPLIT_START (R90): At tick T the ring begins split operation in 12-tick cycles, and phases on it are commanded
  SAFE. Operands: of ring `r`. -/
  | splitStart (r : Fin 8)
  /-- SPLIT_TRAIN_TIMEOUT (R84): In SPLIT-TRAIN neither end locks within 1 ms, so a RING_TRAIN_FAIL record is written
  and the ring enters FAILED. Operands: of ring `r`. -/
  | splitTrainTimeout (r : Fin 8)
  /-- STRAY_TOKEN (R79): A token that reaches the controller's RX, or an invalid token, is discarded and counted.
  Operands: on ring `r`. -/
  | strayToken (r : Fin 8)
  /-- STAGE_EVENT (R336): A stage EVT received in the bulk area is turned into a STAGE_EVENT record. Operands: the
  oldest event received on ring `r`. -/
  | stageEvent (r : Fin 8)
  /-- IDENTITY_MATCH (R103): A received identity block is checked against the directory entry, and the channel matches
  or is quarantined. Operands: of the answer of channel `c`. -/
  | identityMatch (c : Fin 256)
  /-- CONFIG_PIECE_ACK (R98): A stage's answer to the configuration piece completes its enumeration, or quarantines it
  with CONFIG_NAK. Operands: of the answer of channel `c`. -/
  | configPieceAck (c : Fin 256)
  /-- REIDENT (R109): A write of CD_ENT[c].REIDENT requests re-identification of the channel at the next frame
  boundary. Operands: by an accessor, of channel `c`. -/
  | reident (a : Accessor) (c : Fin 256)
  /-- LOOP_FOLLOW_ERR (R133): A following-error count reaches FE_TIME and the slot enters its fault action. Operands:
  of slot `t`. -/
  | loopFollowErr (t : Fin 256)
  /-- TICK_OVERRUN (R138): Phase D reaches 880 − GUARD cycles with a scheduled slot unfinished; evaluation stops and an
  engine fault is raised. Operands: stopping before slot `t`. -/
  | tickOverrun (t : Fin 256)
  /-- FECLR (R134): A write of LE_CMD.FECLR releases the named slot from its fault action. Operands: by an accessor, of
  slot `t`. -/
  | feclr (a : Accessor) (t : Fin 256)
  /-- CLRPEAK (R139): A write of LE_CMD.CLRPEAK clears LE_RUN.PEAK. Operands: by an accessor. -/
  | clrpeak (a : Accessor)
  /-- STAGE_HOLD (R139): A write of LE_CTRL.STAGE_HOLD holds staged LE_ writes, or releases them together for the next
  tick boundary. Operands: by an accessor: a write of LE_CTRL, which also writes GUARD. -/
  | stageHold (a : Accessor) (guard : BitVec 7) (hold : Bool)
  /-- PREP_TIMEOUT (R156): 16 ticks after the lead's RUN, phases still not reporting leave the usable set, and the rail
  enters RAMP or takes the fault path. Operands: of rail `n`. -/
  | prepTimeout (n : Fin 16)
  /-- DWELL_END (R160): The shed/add dwell expires, so changes and identification are allowed again. Operands: of rail
  `n`. -/
  | dwellEnd (n : Fin 16)
  /-- CAPACITY_END (R164): 1000 ticks below 7/8 of capacity end the rail's capacity request. Operands: of rail `n`. -/
  | capacityEnd (n : Fin 16)
  /-- PHASE_SENSE_FAIL (R165): A phase's current sense is judged failed, its trim is frozen and its channel is set
  DEGRADED. Operands: of the phase at hop count `h` of rail `n`. -/
  | phaseSenseFail (n : Fin 16) (h : Fin 32)
  /-- READY_TIMEOUT (R178): No converting report within FD_TIME.READY in WAIT removes the feeder for READY. Operands:
  of feeder `i`. -/
  | readyTimeout (i : Fin 8)
  /-- HVOK_RETURN (R176): HVOK ticks with SUPPLY clear return a feeder removed for HVLOSS to WAIT. Operands: of feeder
  `i`. -/
  | hvokReturn (i : Fin 8)
  /-- FEEDER_RUN_RESEND (R178): RUN is sent again every 16 ticks to a waiting feeder whose health stays SAFE. Operands:
  of feeder `i`. -/
  | feederRunResend (i : Fin 8)
  /-- SENSE_CLEAR_RETURN (R179): 1000 reports with SENSE = 0 clear DEGRADED and release the feeder loop to AUTO.
  Operands: of feeder `i`. -/
  | senseClearReturn (i : Fin 8)
  /-- BUS_WINDOW (R182): A bus window count reaches its filter and raises a warning, or a fault action. Operands: of
  threshold `w`: UVW, OVW, UVF, OVF. -/
  | busWindow (w : Fin 4)
  /-- FD_CMD_REMOVE (R177): FD_CMD.REMOVE removes the named feeder with reason HOST, or is refused. Operands: by an
  accessor, of feeder `i`. -/
  | fdCmdRemove (a : Accessor) (i : Fin 8)
  /-- FD_CMD_READMIT (R176): FD_CMD.READMIT returns a removed feeder to WAIT. Operands: by an accessor, of feeder `i`.
  -/
  | fdCmdReadmit (a : Accessor) (i : Fin 8)
  /-- STRING_CLOSE_TIMEOUT (R193): A string not closed within BS_TIME.CLOSE goes to LOCKOUT. Operands: of string `j`.
  -/
  | stringCloseTimeout (j : Fin 8)
  /-- STRING_OFF_TIMEOUT (R191): 100 ticks after a shelf disable, a string's slot changes from STR_SET CLOSE = 0 to
  SAFE. Operands: of string `j`. -/
  | stringOffTimeout (j : Fin 8)
  /-- BS_CMD_OPEN (R194): BS_CMD.OPEN opens the named string to OPEN. Operands: by an accessor, of string `j`. -/
  | bsCmdOpen (a : Accessor) (j : Fin 8)
  /-- BS_CMD_CLOSE (R194): BS_CMD.CLOSE returns a LOCKOUT string to OPEN. Operands: by an accessor, of string `j`. -/
  | bsCmdClose (a : Accessor) (j : Fin 8)
  /-- TRAMP_EXPIRY (R212): TRAMP elapses in RAMP and the channel trips with reason RAMP. Operands: of fuse `f`. -/
  | trampExpiry (f : Fin 64)
  /-- FUSE_TRIP (R217): A channel in RAMP or ON trips for INST, THERM, SENSE, CURVE, RAMP or FOLLOW. Operands: of fuse
  `f`. -/
  | fuseTrip (f : Fin 64)
  /-- FUSE_RETRY (R219): The back-off of a TRIPPED channel ends and the channel ramps again. Operands: of fuse `f`. -/
  | fuseRetry (f : Fin 64)
  /-- RCNT_RESET (R219): RWIN seconds in ON without a break return RCNT to 0. Operands: of fuse `f`. -/
  | rcntReset (f : Fin 64)
  /-- FUSE_TSENSE (R215): The FET sensor is judged implausible and the thermal model takes over. Operands: of fuse `f`.
  -/
  | fuseTsense (f : Fin 64)
  /-- FEED_REVERT (R221): The primary has been available for REVT × 100 ms and the group reverts to it. Operands: of
  feed group `n`. -/
  | feedRevert (n : Fin 16)
  /-- FEED_XFER (R222): The kerf after t_off has passed and the incoming channel's first enable leaves. Operands: of
  feed group `n`. -/
  | feedXfer (n : Fin 16)
  /-- FEED_STUCK (R222): No off confirmation within 100 ticks; the group stays on its old source and raises a feed
  fault. Operands: of feed group `n`. -/
  | feedStuck (n : Fin 16)
  /-- FU_CMD_ON (R212): FU[f].CMD.ON enables a fuse channel or its group. Operands: by an accessor, of fuse `f`. -/
  | fuCmdOn (a : Accessor) (f : Fin 64)
  /-- FU_CMD_OFF (R212): FU[f].CMD.OFF disables a fuse channel or its group. Operands: by an accessor, of fuse `f`. -/
  | fuCmdOff (a : Accessor) (f : Fin 64)
  /-- FU_CMD_RESET (R212): FU[f].CMD.RESET leaves LOCKOUT and clears IMPL. Operands: by an accessor, of fuse `f`. -/
  | fuCmdReset (a : Accessor) (f : Fin 64)
  /-- FU_CMD_XFER (R221): FU[f].CMD.XFER requests a host feed change of the group. Operands: by an accessor, of fuse
  `f`. -/
  | fuCmdXfer (a : Accessor) (f : Fin 64)
  /-- SQ_CMD_ON (R235): SQ_CMD.ON sets the sequence request to on. Operands: by an accessor. -/
  | sqCmdOn (a : Accessor)
  /-- SQ_CMD_OFF (R235): SQ_CMD.OFF sets the sequence request to off. Operands: by an accessor. -/
  | sqCmdOff (a : Accessor)
  /-- SQ_CMD_CLRFLT (R240): SQ_CMD.CLRFLT releases the FAULT_N sources whose cause has ended. Operands: by an accessor.
  -/
  | sqCmdClrflt (a : Accessor)
  /-- SQ_CMD_STEPON (R236): SQ_CMD.STEPON re-enables a step in HOSTOFF, FAILED or SHED. Operands: by an accessor, of
  step `t`. -/
  | sqCmdStepon (a : Accessor) (t : Fin 32)
  /-- SQ_CMD_STEPOFF (R236): SQ_CMD.STEPOFF takes a step's target off and sets the step to HOSTOFF. Operands: by an
  accessor, of step `t`. -/
  | sqCmdStepoff (a : Accessor) (t : Fin 32)
  /-- SQ_CMD_CLRCNT (R242): SQ_CMD.CLRCNT clears every rail counter and SQ_SAT. Operands: by an accessor. -/
  | sqCmdClrcnt (a : Accessor)
  /-- STEP_COMPLETE (R228): A step's window count reaches FILT and the step completes. Operands: of step `t`. -/
  | stepComplete (t : Fin 32)
  /-- STEP_TIMEOUT (R228): A step's power-up or power-down timeout expires. Operands: of step `t`. -/
  | stepTimeout (t : Fin 32)
  /-- MR_SHORT (R238): An MR_N press released after 50 ms to 4 s acts as SHACT selects. Operands: after a press of `ms`
  milliseconds. -/
  | mrShort (ms : BitVec 16)
  /-- MR_LONG (R238): An MR_N press released after more than 4 s, before FORCET, is recorded. Operands: after a press
  of `ms` milliseconds. -/
  | mrLong (ms : BitVec 16)
  /-- SUPERVISION_ENTRY (R241): A rail supervision count reaches SFILT and an undervoltage or overvoltage entry is
  counted. Operands: of rail `n`, for undervoltage or overvoltage. -/
  | supervisionEntry (n : Fin 16) (ov : Bool)
  /-- CAP_RELEASE (R246): The release count reaches REL and the cap is released. Operands: of cap `k`: 0 hub, 1 to 16
  rails, 17 to 32 feed groups. -/
  | capRelease (k : Fin 33)
  /-- AVG_WINDOW (R257): An averaging window of 2^k ticks completes and replaces the channel's shown averages.
  Operands: of channel `c`. -/
  | avgWindow (c : Fin 256)
  /-- TM_PK_READ (R258): A read of a TM_PK_ field returns the accessor's hold and empties it. Operands: by an accessor,
  of hold `q` in the order of the registers. -/
  | tmPkRead (a : Accessor) (q : Fin 8)
  /-- TM_CHSTAT_READ (R265): A read of TM_CHSTAT copies the shown averages into the accessor's shadow. Operands: by an
  accessor. -/
  | tmChstatRead (a : Accessor)
  /-- THERM_DIE (R268): A die temperature count reaches CFILT at TWARN or TCRIT. Operands: at TWARN or TCRIT. -/
  | thermDie (crit : Bool)
  /-- THERM_DIE_CLEAR (R268): T_die below threshold minus THYST for CFILT ticks clears HOT or CRIT. Operands: of HOT or
  CRIT. -/
  | thermDieClear (crit : Bool)
  /-- THERM_RATE (R272): At the end of a rate window the temperature rise rate is compared with RLIM. Operands: for
  limit `j`. -/
  | thermRate (j : Fin 8)
  /-- THERM_STAGE (R273): A stage temperature count reaches TH_SFILT at its warning or fault temperature. Operands: of
  channel `c`, at its warning or fault temperature. -/
  | thermStage (c : Fin 256) (flt : Bool)
  /-- PACED_OPERATION_START (R270): A paced data-plane operation starts once its class's throttle pause has passed.
  Operands: of class `k`: PA, PB, store writes, relay pieces, snapshot entries. -/
  | pacedOperationStart (k : Fin 5)
  /-- MP_CMD_APPROVE (R280): MP_CMD.APPROVE approves the plan named in MP_APPRNUM. Operands: by an accessor. -/
  | mpCmdApprove (a : Accessor)
  /-- MP_CMD_REJECT (R280): MP_CMD.REJECT rejects the plan named in MP_APPRNUM. Operands: by an accessor. -/
  | mpCmdReject (a : Accessor)
  /-- MP_CMD_RUNNOW (R284): MP_CMD.RUNNOW ends the planning period at the next frame boundary. Operands: by an
  accessor. -/
  | mpCmdRunnow (a : Accessor)
  /-- MP_CMD_REBASE (R278): MP_CMD.REBASE takes every next result as its baseline. Operands: by an accessor. -/
  | mpCmdRebase (a : Accessor)
  /-- MEASUREMENT_BLOCK (R275): A phase stage's measurement block arrives by UPDATA for the on-resistance result.
  Operands: the oldest block received on ring `r`. -/
  | measurementBlock (r : Fin 8)
  /-- HQ_CQ_DB (R288): A command ring producer doorbell is latched, or ignored as invalid. Operands: of an endpoint,
  with the index written. -/
  | hqCqDb (e : Endpoint) (ix : BitVec 16)
  /-- HQ_CPL_DB (R288): A completion ring consumer doorbell is latched, or ignored as invalid. Operands: of an
  endpoint, with the index written. -/
  | hqCplDb (e : Endpoint) (ix : BitVec 16)
  /-- HQ_EVQ_DB (R288): An event ring consumer doorbell is latched, or ignored as invalid. Operands: of an endpoint,
  with the index written. -/
  | hqEvqDb (e : Endpoint) (ix : BitVec 16)
  /-- HQ_TEL_DB (R288): A telemetry ring consumer doorbell is latched, or ignored as invalid. Operands: of an endpoint,
  with the index written. -/
  | hqTelDb (e : Endpoint) (ix : BitVec 16)
  /-- DESCRIPTOR_FETCH (R296): A descriptor read completes; the descriptors are latched, paired and handed to the
  dispatcher. Operands: of an endpoint: the descriptors that the oldest read under way returns. -/
  | descriptorFetch (e : Endpoint) (ds : List (List Byte))
  /-- PAIR_WINDOW_EXPIRY (R313): A pairing window expires, and the gated first copy executes or is dead-lettered.
  Operands: of sequence number `q`. -/
  | pairWindowExpiry (q : BitVec 32)
  /-- AU_VERDICT (R315): A verdict written to AU_VERDICT.ACTION through TWB resolves a held divergence. Operands:
  through TWB. -/
  | auVerdict (act : BitVec 2)
  /-- VERDICT_TIMEOUT (R315): VWAIT passes without a verdict and both copies are dead-lettered as DIVERGED. Operands:
  of sequence number `q`. -/
  | verdictTimeout (q : BitVec 32)
  /-- PH_COPY_DONE (R301): A PH_COPY transfer completes and the hole returns to its former state. Operands: of a hole:
  whether the host access succeeded, and what came from host memory. -/
  | phCopyDone (hole : Fin 64) (ok : Bool) (data : List Byte)
  /-- PH_CLAIM (R301): An OP claim write takes a free inbound or readout pigeonhole for an endpoint. Operands: by an
  endpoint. -/
  | phClaim (e : Endpoint) (hole : Fin 64)
  /-- PH_RELEASE (R301): An OP release write by the holder returns a pigeonhole to FREE. Operands: by an endpoint. -/
  | phRelease (e : Endpoint) (hole : Fin 64)
  /-- PH_BAR2_WRITE (R302): A BAR2 write reaches a pigeonhole, or is discarded as a violation. Operands: by an
  endpoint, at an offset of the window. -/
  | phBar2Write (e : Endpoint) (ofs : BitVec 18) (data : List Byte)
  /-- PH_RECLAIM (R303): A pigeonhole idle for HQ_PHTO, or of a downed endpoint, is reclaimed to FREE. Operands: of a
  hole. -/
  | phReclaim (hole : Fin 64)
  /-- HOST_DMA_ERR (R299): A ring DMA completes with an error or times out and the ring is disabled. Operands: of an
  endpoint, on ring `k`: command, completion, event, telemetry. -/
  | hostDmaErr (e : Endpoint) (k : Fin 4)
  /-- MSIX_MESSAGE (R304): At the end of a tick an MSI-X message is sent for ring moderation or a routed cause.
  Operands: of an endpoint, on vector `v`. -/
  | msixMessage (e : Endpoint) (v : Fin 16)
  /-- ENDPOINT_DOWN (R286): An endpoint's link, PERST_N or REFCLK goes down and its queue group resets. -/
  | endpointDown (e : Endpoint)
  /-- ENDPOINT_UP (R286): An endpoint whose link, PERST_N or REFCLK had gone down comes back, its link trains and
  HQ_STATUS.LINK reads 1 so the host can rebuild its path. -/
  | endpointUp (e : Endpoint)
  /-- NOP (R291): Host command NOP does nothing and completes. -/
  | nop (h : Sender)
  /-- QUERY_REG (R291): Host command QUERY_REG reads registers into a result hole. -/
  | queryReg (h : Sender) (ofs : BitVec 16) (cnt : Byte)
  /-- QUERY_CHAN (R291): Host command QUERY_CHAN writes a channel's averages, latest values and health into a result
  hole. -/
  | queryChan (h : Sender) (c : Byte)
  /-- PH_COPY (R291): Host command PH_COPY starts a DMA copy between host memory and a pigeonhole. -/
  | phCopy (h : Sender) (hole dir : Byte) (len : BitVec 16) (addr : Word64)
  /-- CFG_LOAD (R347): Host command CFG_LOAD writes a hole into the inactive configuration buffer. -/
  | cfgLoad (h : Sender) (hole : Byte) (ofs : Word) (len : BitVec 16)
  /-- CFG_COMMIT (R347): Host command CFG_COMMIT starts the checks and commit of the loaded image. -/
  | cfgCommit (h : Sender) (len : Word)
  /-- RAIL_VSET (R291): Host command RAIL_VSET sets VR_VSET of a rail. -/
  | railVset (h : Sender) (n : Byte) (v : Word)
  /-- RAIL_ON (R291): Host command RAIL_ON enables a rail, or acts as STEPON of its step. -/
  | railOn (h : Sender) (n : Byte)
  /-- RAIL_OFF (R236): Gated host command RAIL_OFF disables a rail. -/
  | railOff (h : Sender) (n : Byte)
  /-- FUSE_ON (R291): Host command FUSE_ON acts as FU[f].CMD.ON. -/
  | fuseOn (h : Sender) (f : Byte)
  /-- FUSE_OFF (R291): Gated host command FUSE_OFF acts as FU[f].CMD.OFF. -/
  | fuseOff (h : Sender) (f : Byte)
  /-- FUSE_RESET (R291): Host command FUSE_RESET acts as FU[f].CMD.RESET. -/
  | fuseReset (h : Sender) (f : Byte)
  /-- FG_ON (R220): Host command FG_ON enables a feed group. -/
  | fgOn (h : Sender) (n : Byte)
  /-- FG_OFF (R220): Gated host command FG_OFF disables a feed group. -/
  | fgOff (h : Sender) (n : Byte)
  /-- FG_XFER (R221): Gated host command FG_XFER changes a feed group to its other source. -/
  | fgXfer (h : Sender) (n : Byte)
  /-- BUS_VSET (R173): Host command BUS_VSET sets FD_VSET.VSET. -/
  | busVset (h : Sender) (v : BitVec 16)
  /-- FEEDER_REMOVE (R177): Host command FEEDER_REMOVE removes a feeder with reason HOST, or completes REFUSED. -/
  | feederRemove (h : Sender) (i : Byte)
  /-- FEEDER_READMIT (R176): Host command FEEDER_READMIT returns a removed feeder to WAIT. -/
  | feederReadmit (h : Sender) (i : Byte)
  /-- CAP_SET (R291): Host command CAP_SET sets a cap's CAPW or the hold-up hub cap. -/
  | capSet (h : Sender) (kind n : Byte) (w : BitVec 16)
  /-- THROT_SET (R247): Host command THROT_SET sets or ends this host's throttle request for an output. -/
  | throtSet (h : Sender) (k on : Byte)
  /-- SEQ_ON (R235): Host command SEQ_ON sets the sequence request to on. -/
  | seqOn (h : Sender)
  /-- SEQ_OFF (R235): Gated host command SEQ_OFF sets the sequence request to off. -/
  | seqOff (h : Sender)
  /-- SEQ_STEPON (R236): Host command SEQ_STEPON re-enables a step. -/
  | seqStepon (h : Sender) (t : Byte)
  /-- SEQ_STEPOFF (R236): Gated host command SEQ_STEPOFF sets a step to HOSTOFF. -/
  | seqStepoff (h : Sender) (t : Byte)
  /-- SEQ_CLRFLT (R240): Host command SEQ_CLRFLT acts as SQ_CMD.CLRFLT. -/
  | seqClrflt (h : Sender)
  /-- LOOP_SETPT (R126): Host command LOOP_SETPT writes a slot's SETPT in phase B, or is refused. -/
  | loopSetpt (h : Sender) (t : Byte) (v : Word)
  /-- LOOP_MODE (R131): Gated host command LOOP_MODE requests AUTO or MAN for a scarf-capable slot. -/
  | loopMode (h : Sender) (t mode : Byte)
  /-- LOOP_MANOUT (R128): Host command LOOP_MANOUT sets a slot's MAN_OUT. -/
  | loopManout (h : Sender) (t : Byte) (v : Word)
  /-- CHAN_REIDENT (R109): Host command CHAN_REIDENT requests re-identification of a channel. -/
  | chanReident (h : Sender) (c : Byte)
  /-- RING_RESET (R84): Gated host command RING_RESET acts as RG_CMD.RESET. -/
  | ringReset (h : Sender) (r : Byte)
  /-- PLAN_APPROVE (R280): Host command PLAN_APPROVE approves an advised plan. -/
  | planApprove (h : Sender) (num : Word)
  /-- PLAN_REJECT (R280): Host command PLAN_REJECT rejects an advised plan. -/
  | planReject (h : Sender) (num : Word)
  /-- EV_READ (R337): Host command EV_READ reads recorder records into a readout hole. -/
  | evRead (h : Sender) (hole region cnt : Byte) (start : Word)
  /-- EV_NOTE (R336): Host command EV_NOTE writes a HOST_NOTE record, subject to the sender's rate limit. -/
  | evNote (h : Sender) (code : BitVec 16) (pay : List Byte)
  /-- EV_CLEAR (R334): Gated host command EV_CLEAR checks a clear token and clears the chosen regions. -/
  | evClear (h : Sender) (hole scope : Byte)
  /-- UPD_BEGIN (R352): Host command UPD_BEGIN opens or resumes an image download. -/
  | updBegin (h : Sender) (size : Word) (digest : List Byte)
  /-- UPD_PIECE (R352): Host command UPD_PIECE stores one 4 KiB piece of the bundle. Operands: and what the store
  meets. -/
  | updPiece (h : Sender) (hole : Byte) (piece : Word) (k : StoreCase)
  /-- UPD_ACTIVATE (R352): Gated host command UPD_ACTIVATE marks the verified image PENDING. -/
  | updActivate (h : Sender)
  /-- UPD_STAGES (R358): Gated host command UPD_STAGES starts the stage relay round on a ring. -/
  | updStages (h : Sender) (r : Byte)
  /-- UPD_ABORT (R352): Host command UPD_ABORT closes the download and keeps its bitmap. -/
  | updAbort (h : Sender)
  /-- AU_MODE (R321): Gated host command AU_MODE changes the pairing mode at the next frame boundary. -/
  | auMode (h : Sender) (mode : Byte)
  /-- DEV_RESET (R408): Gated host command DEV_RESET starts a host-command reset after its completion. -/
  | devReset (h : Sender)
  /-- DEV_SLEEP (R413): Gated host command DEV_SLEEP requests sleep, or is refused. -/
  | devSleep (h : Sender)
  /-- RECORD_WRITE (R27): A write slot opens and the recorder writes the next due rewrite, WRAP or queued record.
  Operands: and what the store meets. -/
  | recordWrite (k : StoreCase)
  /-- RECORD_CLOSE (R328): QUIET ticks without a repeat close an open record. Operands: of the open record of a class
  and source. -/
  | recordClose (cls : BitVec 4) (src : BitVec 16)
  /-- EV_CMD_REGISTER (R330): EV_CMD.REGISTER raises a manual trigger with a REG_MANUAL record. Operands: by an
  accessor. -/
  | evCmdRegister (a : Accessor)
  /-- NV_CMD_REFRNOW (R343): NV_CMD.REFRNOW starts an imprint refresh pass. Operands: by an accessor. -/
  | nvCmdRefrnow (a : Accessor)
  /-- REFRESH_BLOCK (R343): One store block is read and rewritten every 64 ticks of a refresh pass. Operands: and what
  the store meets. -/
  | refreshBlock (k : StoreCase)
  /-- UP_CMD_CONFIRM (R355): UP_CMD.CONFIRM gives host confirmation for the running TRIAL image. Operands: by an
  accessor. -/
  | upCmdConfirm (a : Accessor)
  /-- UP_CMD_RLYSTOP (R361): UP_CMD.RLYSTOP ends every relay round. Operands: by an accessor. -/
  | upCmdRlystop (a : Accessor)
  /-- RELAY_VERIFY_RESULT (R359): A stage reports its buffer verification, and it becomes a relay source or fails.
  Operands: the oldest result received on ring `r`. -/
  | relayVerifyResult (r : Fin 8)
  /-- RELAY_RELEASE (R360): An owner releases a verified stage, which is sent the write command and marked UPD.
  Operands: of the stage at channel `c`. -/
  | relayRelease (c : Fin 256)
  /-- RELAY_WRITE_DONE (R359): After the write window the stage is re-identified, UPD clears and its owner sends RUN.
  Operands: of the stage at channel `c`. -/
  | relayWriteDone (c : Fin 256)
  /-- RELAY_SKIP (R360): A verified stage not released within RWAIT is skipped. Operands: of the stage at channel `c`.
  -/
  | relaySkip (c : Fin 256)
  /-- RELAY_RESUME (R361): A paused relay round resumes when its ring is next in RUN. Operands: of the round of ring
  `r`. -/
  | relayResume (r : Fin 8)
  /-- TWB_ADDRESS (R365): An address phase on TWB selects the register or page address, or the alert response address.
  Operands: with the bytes of a word that its START cut off; for a wake that it causes, whether the main supplies are
  good, and the ACLK cycles to tick 0. -/
  | twbAddress (addr : BitVec 7) (read : Bool) (part : Fin 4) (mainGood : Bool) (aclk : Word)
  /-- TWB_PAGE_WRITE (R365): A data byte to the page address sets the TWB page. Operands: with the data byte. -/
  | twbPageWrite (b : Byte)
  /-- TWB_POINTER_WRITE (R366): The first data byte to the register address sets the pointer, or is not acknowledged.
  Operands: with the data byte. -/
  | twbPointerWrite (b : Byte)
  /-- TWB_WORD_WRITE (R367): The fourth byte of a word completes a 32-bit register write through TWB. Operands: with
  the word. -/
  | twbWordWrite (w : Word)
  /-- TWB_STOP (R367): A STOP ends a TWB transaction and discards an incomplete word. Operands: with the bytes of the
  word in hand that are complete; for a read, 0 says that the last word was sent whole. -/
  | twbStop (part : Fin 4)
  /-- TWB_ABORT (R371): A START in mid-byte aborts the byte in progress and begins a new address phase. Operands: with
  the bytes of the word in hand that are complete. -/
  | twbAbort (part : Fin 4)
  /-- TWB_HOLD_TIMEOUT (R368): A register access not done within 10 ms is abandoned and SCL is released. Operands: of a
  write of a word, or of a read. -/
  | twbHoldTimeout (wr : Bool) (w : Word)
  /-- TWB_ALERT_RESPONSE (R373): A read of 0x0C while TWB_ALERT_N is asserted returns the device address, with
  arbitration. Operands: against the byte of another target; 0xFF where there is none. -/
  | twbAlertResponse (other : Byte)
  /-- TWA_POLL (R378): A poll entry falls due and TWA starts its write-then-read transfer. Operands: of an entry, with
  SDA low or not where the bus is checked. -/
  | twaPoll (i : Fin 16) (sdaLow : Bool)
  /-- TWA_POLL_RESULT (R378): A poll transfer completes or fails, and the result, limits, failure count and lockout are
  applied. Operands: of the transfer in progress. -/
  | twaPollResult (x : TwaResult)
  /-- TWA_ALERT (R379): TWA_ALERT_N low leads to an alert response read and immediate polls of the answering target.
  Operands: what the alert response read meets. -/
  | twaAlert (a : AlertRead)
  /-- PORT_ATTACH (R383): A partner termination stable for tCCDebounce attaches the service port in the matching role.
  Operands: with the terminations on CC1 and CC2. -/
  | portAttach (c1 c2 : Term)
  /-- SOURCE_DETACH (R386): Rd removed for tPDDebounce detaches a source port; the switch opens and VBUS discharges.
  Operands: seen first at postmark `pm`. -/
  | sourceDetach (pm : Word64)
  /-- SP_CMD_HRST (R395): SP_CMD.HRST sends a PD Hard Reset. Operands: by an accessor. -/
  | spCmdHrst (a : Accessor)
  /-- SP_CMD_ERRREC (R383): SP_CMD.ERRREC puts the port into ERROR_RECOVERY. Operands: by an accessor. -/
  | spCmdErrrec (a : Accessor)
  /-- SP_CMD_DEAUTH (R405): SP_CMD.DEAUTH ends the USB service session. Operands: by an accessor. -/
  | spCmdDeauth (a : Accessor)
  /-- PD_REQUEST (R388): A sink's Request is accepted, starting a voltage ramp, or rejected. Operands: of an object
  position, with its voltage and current. -/
  | pdRequest (pos : BitVec 3) (volt : BitVec 11) (curr : BitVec 10)
  /-- PD_SOURCE_CAPS (R392): Source_Capabilities received as sink are answered with the selected Request. Operands:
  with the objects of the partner. -/
  | pdSourceCaps (l : List Pdo)
  /-- USB_COMMAND (R403): A command transfer on bulk OUT is executed through the dispatcher with the session check.
  Operands: with the bytes of the transfer. -/
  | usbCommand (bytes : List Byte)
  /-- AUTH (R405): Vendor request AUTH checks a session token and opens a session at its level. Operands: with the
  token. -/
  | auth (t : List Byte)
  /-- KEY_WRITE (R404): Vendor request KEY_WRITE writes a public key slot while unlocked in recovery mode. Operands: of
  a slot, with the key. -/
  | keyWrite (k : Byte) (key : List Byte)
  /-- USB_STANDARD_REQUEST (R402): A USB standard request on control endpoint 0, such as SET_CONFIGURATION, is answered
  and may configure the device (SP_STATUS.USBCFG). Operands: with its request code and value. -/
  | usbStandardRequest (req : Byte) (value : BitVec 16)
  /-- SERVICE_BOOT (R398): VSVC rises with the main supplies absent and the sill starts in service boot. Operands: with
  the level of BOOTSEL and the ACLK cycles since the time base stopped. -/
  | serviceBoot (bootsel : Bool) (aclk : Word)
  /-- PROMOTION (R399): A vehicle wake during service boot promotes the device in place to full start-up. Operands:
  with the supplies that are good. -/
  | promotion (good : Byte)
  /-- SUPPLY_FAULT (R411): A main supply stays below its fault level for 2 µs outside sleep and the device resets.
  Operands: of main supply `k`. -/
  | supplyFault (k : Fin 6)
  /-- START_UP (R412): On release the device locks its PLLs, chooses a slot, starts its cores, loads its configuration
  and trains its rings. Operands: with the level of BOOTSEL, the supplies that are good, and the ACLK cycles since the
  time base stopped. -/
  | startUp (bootsel : Bool) (good : Byte) (aclk : Word)
  /-- SLEEP_POWER_DOWN (R414): After parking, the checkpoint and SLEEP_ENTER are written and everything except the
  always-on parts powers down. Operands: for a wake that occurred during entry, whether the main supplies are good, and
  the ACLK cycles to tick 0. -/
  | sleepPowerDown (mainGood : Bool) (aclk : Word)
  /-- WAKE_EVENT (R416): An enabled wake source is latched and the wake starts. Operands: of source `k`, whether the
  main supplies are good, and the ACLK cycles to tick 0. -/
  | wakeEvent (k : Fin 5) (mainGood : Bool) (aclk : Word)
  /-- MAIN_SUPPLIES_GOOD (R417): After a wake event in sleep, the main supplies become good and the 1.5 ms wake
  sequence starts from that moment. Operands: with the ACLK cycles to tick 0. -/
  | mainSuppliesGood (aclk : Word)
  /-- BOUNDARY_SCAN (R454): TESTEN high holds the device in the reset of RESET_N low and activates the IEEE 1149.1 TAP;
  TESTEN low returns the TAP to Test-Logic-Reset. Operands: with the level of TESTEN. -/
  | boundaryScan (testen : Bool)
  /-- REGISTER_WRITE (R424): A register write without a row of its own writes or stages every field of its word.
  Operands: by an accessor: whether it is a whole word, the offset, the value. -/
  | registerWrite (a : Accessor) (whole : Bool) (ofs : BitVec 16) (v : Word)
  /-- RC_READ (R432): A read of an RC field returns the set bits and clears exactly those. Operands: by an accessor. -/
  | rcRead (a : Accessor) (ofs : BitVec 16)
  /-- LL_READ (R433): A read of an LL field returns the low word and latches the high word in the accessor's shadow.
  Operands: by an accessor. -/
  | llRead (a : Accessor) (ofs : BitVec 16)
  /-- REGISTER_READ_BUS_ERROR (R15): A register read of another width or alignment, or of a reserved or unimplemented
  location, raises a bus error reported as R423 sets out. Operands: by an accessor, of a whole word or another width. -/
  | registerReadBusError (a : Accessor) (ofs : BitVec 16) (whole : Bool)
  /-- FRAME_BOUNDARY (R42): The frame position returns to 0, the frame number increments and every frame-boundary
  action falls due. -/
  | frameBoundary
  /-- SYNC_MISS (R59): No capture has arrived by the expected target plus TB_SYNC_WIN, so a miss is counted. -/
  | syncMiss
  /-- BUS_CAPACITY (R184): The bus loop's output stays at OUT_MAX in force for SATT ticks and a capacity request
  begins. -/
  | busCapacity
  /-- BUS_CAPACITY_END (R184): 1000 ticks below 7/8 of OUT_MAX in force end the bus capacity request. -/
  | busCapacityEnd
  /-- SLOW_LOSS (R196): The slow-path count reaches SLOWF and loss is declared in the next tick. -/
  | slowLoss
  /-- HOLDUP_TAKEN (R199): The tick of the latest leg's application edge arrives, so TAKEN is set. -/
  | holdupTaken
  /-- EMERG_ASSERT (R197): EMERG_N low for EMFILT ticks sets EMERG, which can declare loss and shed classes. -/
  | emergAssert
  /-- EMERG_CLEAR (R197): EMERG_N high for EMFILT ticks clears EMERG. -/
  | emergClear
  /-- HANDBACK_START (R204): The hand-back count reaches HBT and hand-back to the feeders begins. -/
  | handbackStart
  /-- STEP_BEGIN (R229): The next step begins in the tick after the previous one completed, and its target is enabled
  or disabled. -/
  | stepBegin
  /-- MINOFF_END (R231): MINOFF ms pass and the sequence returns to OFF. -/
  | minoffEnd
  /-- SEQ_RETRY (R231): The back-off ends and the sequence starts again from SQ step 0. -/
  | seqRetry
  /-- RSTOUT_RELEASE (R240): RSTDLY ms after entering ON, RSTOUT_N is released. -/
  | rstoutRelease
  /-- MR_FORCEOFF (R239): A press that reaches FORCET sets FORCE; off commands are substituted and the sequence goes to
  MINOFF. -/
  | mrForceoff
  /-- FORCE_CLEAR (R239): The release of MR_N clears FORCE. -/
  | forceClear
  /-- SNAPSHOT_ENTRY_WRITE (R264): One snapshot entry is written to each enabled telemetry ring, or discarded when that
  ring is full. -/
  | snapshotEntryWrite
  /-- THERM_LEVEL (R269): At schedule position 1023 the mean die temperature sets the throttle level. -/
  | thermLevel
  /-- PLAN_PERIOD_END (R279): The planning period ends and the margin planner proposes a re-plan. -/
  | planPeriodEnd
  /-- PLANNER_WRITE (R282): The planner writes its changes in the frame after the plan or approval, or retries while a
  field is pending. -/
  | plannerWrite
  /-- PLAN_EXPIRED (R280): An advised plan is not approved within MP_ADVEXP and expires. -/
  | planExpired
  /-- ID_CHIP (R276): An identification chip ends and the next chip's perturbation sign applies. -/
  | idChip
  /-- ID_RESUME (R277): An identification run resumes, or restarts, at a chip boundary 64 ticks after its pause ends.
  -/
  | idResume
  /-- DIVERGE_PULSE_END (R316): The DPULSE time after an ungated divergence ends. -/
  | divergePulseEnd
  /-- AUTH_CHANGE (R318): A brace pin code stable for BFILT ticks becomes the authority in force. -/
  | authChange
  /-- AU_TOKCMD_GO (R319): AU_TOKCMD.GO submits an authority token and draws a new nonce. Operands: through TWB. -/
  | auTokcmdGo
  /-- AUTH_TOKEN_CHECK (R319): The token check completes; an accepted token sets the authority and its lease. -/
  | authTokenCheck
  /-- LEASE_EXPIRY (R320): An authority lease counts down to 0 and the authority becomes none. -/
  | leaseExpiry
  /-- COMMIT_CHECKS_DONE (R347): The commit checks finish; the batch is scheduled for a frame boundary or the commit is
  rejected. -/
  | commitChecksDone
  /-- LEASE_BELOW_ONE_SECOND (R380): An authority lease counting down falls below 1 s and sets TW_ALERT.LEASE. -/
  | leaseBelowOneSecond
  /-- CLEAR_OVERWRITE_DONE (R334): The background zero overwrite of a clear completes and CLRBUSY clears. -/
  | clearOverwriteDone
  /-- REFRESH_START (R343): NV_REFR.AGE reaches INTERVAL and a refresh pass starts. -/
  | refreshStart
  /-- UPD_CONFIRM (R355): A TRIAL image meets every health condition and becomes GOOD. -/
  | updConfirm
  /-- UPD_FALLBACK (R355): A TRIAL image unconfirmed after 120 s of service becomes FAILED. -/
  | updFallback
  /-- UPD_VERIFIED (R353): The image verification started by the last piece ends up to 60 ms later; the slot becomes
  VERIFIED or FAILED and the piece's completion is written. -/
  | updVerified
  /-- TWB_WORD_READ (R367): Sending the first byte of a word performs a 32-bit register read through TWB. -/
  | twbWordRead
  /-- TWA_PROTOCOL_ERROR (R376): An unexpected START or STOP during a TWA transfer abandons it for one retry. -/
  | twaProtocolError
  /-- TWA_SCL_TIMEOUT (R376): SCL held low beyond STRMAX fails the TWA transfer. -/
  | twaSclTimeout
  /-- SINK_DETACH (R386): VBUS falls below the disconnect level and the sink port detaches. -/
  | sinkDetach
  /-- ACCESSORY_DETACH (R383): An audio or debug accessory's termination is removed for tPDDebounce. -/
  | accessoryDetach
  /-- DISCHARGE_END (R383): VBUS falls below 0.80 V and the port returns to UNATTACHED. -/
  | dischargeEnd
  /-- DISCHARGE_TIMEOUT (R383): 650 ms of discharge without reaching 0.80 V end DISCHARGE with DISCHTO. -/
  | dischargeTimeout
  /-- ERROR_RECOVERY_END (R383): tErrorRecovery elapses with VBUS low and the port returns to UNATTACHED. -/
  | errorRecoveryEnd
  /-- PS_RDY_TIMEOUT (R388): 250 ms after the last ramp step without settling, the device sends Hard Reset. -/
  | psRdyTimeout
  /-- PPS_TIMEOUT (R391): 15 s without a Request under a PPS source contract return the port to fixed 5 V. -/
  | ppsTimeout
  /-- PD_ACCEPT (R396): An Accept received as sink writes the transition mark. -/
  | pdAccept
  /-- PD_PS_RDY (R396): A PS_RDY received as sink puts the contract in force and clears the transition mark. -/
  | pdPsRdy
  /-- PPS_KEEPALIVE (R393): Under a PPS sink contract, the Request is repeated every PPSKA seconds. -/
  | ppsKeepalive
  /-- PR_SWAP (R394): A received PR_Swap is accepted or rejected by role and PRS. -/
  | prSwap
  /-- DR_SWAP (R394): A received DR_Swap is accepted as DFP and rejected as UFP. -/
  | drSwap
  /-- PD_HARD_RESET (R395): A Hard Reset ends any swap and renegotiates the contract from vSafe5V. -/
  | pdHardReset
  /-- PD_NOT_SUPPORTED (R7): An unsupported PD message is answered with Not_Supported. -/
  | pdNotSupported
  /-- USB_RESPONSE_READ (R403): The host reads the response on bulk IN and the OUT endpoint accepts the next command.
  -/
  | usbResponseRead
  /-- GET_STATE (R404): Vendor request GET_STATE returns the session and boot state. -/
  | getState
  /-- GET_NONCE (R404): Vendor request GET_NONCE returns a new session nonce. -/
  | getNonce
  /-- DEAUTH (R404): Vendor request DEAUTH ends the session. -/
  | deauth
  /-- KEY_LOCK (R344): Vendor request KEY_LOCK sets KEYLOCK permanently. -/
  | keyLock
  /-- USB_STALL (R404): Any other control request is answered with STALL. -/
  | usbStall
  /-- SESSION_EXPIRY (R405): The session's LIFE counts down to 0 and the session ends. -/
  | sessionExpiry
  /-- DRP_TOGGLE (R382): While unattached as DRP, the port alternates between presenting Rp and Rd on the 75 ms toggle
  period. -/
  | drpToggle
  /-- VSVC_LOSS (R396): VSVC fails; the sill stops or resets and any transition mark is kept for the next start. -/
  | vsvcLoss
  /-- POWER_ON_RESET (R408): VIN_AON and VSVC are both in fault and the whole device resets. -/
  | powerOnReset
  /-- RESET_N_ASSERT (R408): RESET_N low resets the device except the always-on domain. -/
  | resetNAssert
  /-- WATCHDOG_EXPIRY (R410): The unserviced watchdog expires and halts the management plane or resets the device. -/
  | watchdogExpiry
  /-- PM_CMD_RESET (R408): PM_CMD.RESET through TWB starts a host-command reset. Operands: through TWB. -/
  | pmCmdReset
  /-- CLOCK_LOSS (R34): A PLL loses lock or the reference stops; the device resets and asserts FAULT_N. -/
  | clockLoss
  /-- ACLK_FALLBACK (R35): The 32.768 kHz crystal stops and the always-on domain changes to its internal oscillator. -/
  | aclkFallback
  /-- MGMT_HALT (R21): A lockstep mismatch or uncorrectable SRAM error halts the management cores and asserts FAULT_N.
  -/
  | mgmtHalt
  /-- START_UP_END (R412): Every enabled ring is in RUN, SPLIT or FAILED; the state becomes RUN and SQ_CTRL.AUTO acts.
  -/
  | startUpEnd
  /-- PM_CMD_SLEEP (R413): PM_CMD.SLEEP through TWB requests sleep, or is refused. Operands: through TWB. -/
  | pmCmdSleep
  /-- SLEEP_WAITS_DONE (R414): Every sleep-entry wait ends and the device proceeds to park at the next frame boundary.
  -/
  | sleepWaitsDone
  /-- WAKE_COMPLETE (R417): 1.5 ms after the wake the device is in full service and a WAKE record is written. -/
  | wakeComplete
  /-- VIN_AON_FAULT (R411): VIN_AON falls below its fault level while VSVC is good, so the always-on domain runs on
  from VSVC and the fault is latched in PM_SUPFLT. -/
  | vinAonFault
deriving DecidableEq, Repr

end Sys2Proof
end

