-- ==== Sys2Proof/Decode.lean ====
section
/-! DEFINITION. Commands spelled as words. The block takes its commands as accesses and events; the opcode table gives none
of them an encoding. -/

namespace Sys2Proof

/-- The command that a word of `nbits` bits spells: none, since no row of the table has bits. -/
def decodeTableWord (_nbits _w : Nat) : Option Instr := none

end Sys2Proof
end

