-- ==== Sys2Proof/Machine/Arith.lean ====
section
/-! DEFINITION. Arithmetic the chapters share: two's-complement codes (R11), rounding half away from zero and
saturation (R12), saturating counters (R465), little-endian bytes (R13), and bits of a word. -/

namespace Sys2Proof.Machine

/-- The signed value of a `w`-bit code (R11). -/
def toS (w v : Nat) : Int := if 2 * (v % 2 ^ w) < 2 ^ w then (v % 2 ^ w : Nat) else (v % 2 ^ w : Nat) - (2 ^ w : Nat)

/-- The `w`-bit code of a signed value, which the caller has saturated. -/
def ofS (w : Nat) (x : Int) : Nat := (x % (2 ^ w : Nat)).toNat

/-- A value held within limits; the lower limit wins where they cross. -/
def clampI (lo hi x : Int) : Int := max lo (min hi x)

/-- A Nat held within limits. -/
def clampN (lo hi x : Nat) : Nat := max lo (min hi x)

/-- Saturation to `w` signed bits (R12). -/
def satS (w : Nat) (x : Int) : Int := clampI (-(2 ^ (w - 1) : Nat)) ((2 ^ (w - 1) : Nat) - 1) x

/-- Saturation to `w` unsigned bits (R12). -/
def satU (w : Nat) (x : Int) : Nat := (clampI 0 ((2 ^ w : Nat) - 1) x).toNat

/-- Division rounded half away from zero (R12); `b` is positive. -/
def rdiv (a b : Int) : Int := if a < 0 then -((2 * (-a) + b) / (2 * b)) else (2 * a + b) / (2 * b)

/-- A shift right by `k` rounded half away from zero, or a shift left for negative `k` (R12). -/
def rshift (a : Int) (k : Int) : Int :=
  if k ≤ 0 then a * (2 ^ (-k).toNat : Nat) else rdiv a (2 ^ k.toNat : Nat)

/-- A product of two Q16.16 values, rounded to Q16.16 and saturated (R11, R12). -/
def qmul (a b : Int) : Int := satS 32 (rdiv (a * b) 65536)

/-- A whole number as a Q16.16 value, saturated. -/
def qOf (n : Int) : Int := satS 32 (n * 65536)

/-- A count one higher, staying at its `w`-bit maximum (R465). -/
def incSat (w v : Nat) : Nat := min (v + 1) (2 ^ w - 1)

/-- A count raised by `n`, staying at its `w`-bit maximum (R465). -/
def addSat (w v n : Nat) : Nat := min (v + n) (2 ^ w - 1)

/-- A setting whose 0 acts as 1. -/
def act1 (v : Nat) : Nat := if v = 0 then 1 else v

/-- Bit `i` of a word. -/
def bitOf (v i : Nat) : Bool := v / 2 ^ i % 2 = 1

/-- Bits `[lo + w - 1 : lo]` of a word. -/
def bitsOf (v lo w : Nat) : Nat := v / 2 ^ lo % 2 ^ w

/-- A word with bit `i` set or cleared. -/
def setBit (v i : Nat) (b : Bool) : Nat :=
  if bitOf v i = b then v else if b then v + 2 ^ i else v - 2 ^ i

/-- A word with the bits `[lo + w - 1 : lo]` replaced. -/
def setBits (v lo w x : Nat) : Nat := v - bitsOf v lo w * 2 ^ lo + x % 2 ^ w * 2 ^ lo

/-- The number of bits set among the low `n`. -/
def popc (v n : Nat) : Nat := ((List.range n).filter (bitOf v)).length

/-- The bits set among the low `n`, in ascending order. -/
def bitList (v n : Nat) : List Nat := (List.range n).filter (bitOf v)

/-- The word whose set bits are those of the list. -/
def maskOf (l : List Nat) : Nat := l.foldl (fun m i => setBit m i true) 0

/-- The low `n` bytes of a value, least significant first (R13). -/
def le (n v : Nat) : List Nat := (List.range n).map (fun i => v / 256 ^ i % 256)

/-- The value of little-endian bytes (R13). -/
def ofLe : List Nat → Nat
  | [] => 0
  | b :: r => b % 256 + 256 * ofLe r

/-- The value of the `n` bytes from offset `o` of a structure (R13). -/
def leAt (l : List Nat) (o n : Nat) : Nat := ofLe ((l.drop o).take n)

/-- A byte list cut or filled with zeros to length `n`. -/
def fit (n : Nat) (l : List Nat) : List Nat := l.take n ++ List.replicate (n - l.length) 0

/-- The smallest value for which a count of units covers `a` of size `b` (rounding up). -/
def cdiv (a b : Nat) : Nat := (a + (b - 1)) / b

/-- The first index of a list below `n` that meets a test. -/
def firstIx (n : Nat) (p : Nat → Bool) : Option Nat := (List.range n).find? p

/-- `f` applied for every index below `n`, in ascending order. -/
def forIx {α : Type} (n : Nat) (f : Nat → α → α) (a : α) : α := (List.range n).foldl (fun x i => f i x) a

/-- `f` applied for every element of a list, in order. -/
def forL {α β : Type} (l : List β) (f : β → α → α) (a : α) : α := l.foldl (fun x i => f i x) a

/-- The sum of `f` over the indices below `n`. -/
def sumIx (n : Nat) (f : Nat → Int) : Int := (List.range n).foldl (fun x i => x + f i) 0

/-- The integer square root. -/
def isqrt (n : Nat) : Nat := Nat.sqrt n

end Sys2Proof.Machine
end

