-- ==== Sys2Proof/Machine/RegDef.lean ====
section
/-! DEFINITION. What the register tables of the manual say of one field: where it lies, its access code (R16), its
reset value, and the boundary at which a staged write applies (R17). -/

namespace Sys2Proof.Machine

/-- Access codes of R16. -/
inductive Acc where
  | rw | ro | rc | wo | ll | lh
deriving DecidableEq, Repr

/-- Apply column of R17: `none` for fields that software does not stage. -/
inductive App where
  | frame | tick | now | none
deriving DecidableEq, Repr

/-- Whether a field is one for the whole device, one for each endpoint (R305, R440) or one for each accessor (R421). -/
inductive Per where
  | one | ep | acc
deriving DecidableEq, Repr

/-- One register field. `off` is the byte offset of its word for the first element; an array steps by `s1` (n1
elements) and within an element by `s2` (n2 elements). `rstx` lists elements whose reset value is not `rst`. -/
structure Reg where
  id : Nat
  off : Nat
  lo : Nat
  w : Nat
  acc : Acc
  rst : Nat := 0
  app : App := .none
  s1 : Nat := 0
  n1 : Nat := 1
  s2 : Nat := 0
  n2 : Nat := 1
  per : Per := .one
  rstx : List (Nat × Nat) := []
deriving DecidableEq, Repr

end Sys2Proof.Machine
end

