-- ==== Sys2Proof/Machine/Tbl.lean ====
section
/-! DEFINITION. Sparse tables: lists of (key, value) pairs, keys strictly rising, no entry equal to the value that
an unlisted key has. The register file, the per-unit internal state and both memories are such tables, so equal
contents are equal lists. -/

namespace Sys2Proof.Machine

/-- A sparse table from Nat keys. -/
abbrev Tbl (α : Type) := List (Nat × α)

/-- The value at a key; `d` is what an unlisted key holds. -/
def Tbl.get {α : Type} (d : α) (t : Tbl α) (k : Nat) : α :=
  match t with
  | [] => d
  | (k', v) :: r => if k' = k then v else Tbl.get d r k

/-- The table without any entry at `k`. -/
def Tbl.erase {α : Type} (t : Tbl α) (k : Nat) : Tbl α :=
  t.filter (fun e => e.1 != k)

/-- An entry put in key order. -/
def Tbl.ins {α : Type} (t : Tbl α) (k : Nat) (v : α) : Tbl α :=
  match t with
  | [] => [(k, v)]
  | (k', v') :: r => if k < k' then (k, v) :: (k', v') :: r else (k', v') :: Tbl.ins r k v

/-- A write: the entry replaces the old one, and writing the default removes it, which keeps the canonical form. -/
def Tbl.set {α : Type} [DecidableEq α] (d : α) (t : Tbl α) (k : Nat) (v : α) : Tbl α :=
  if v = d then Tbl.erase t k else Tbl.ins (Tbl.erase t k) k v

/-- The canonical form: keys strictly rising and no entry equal to the default. -/
def Tbl.wf {α : Type} [DecidableEq α] (d : α) : Tbl α → Bool
  | [] => true
  | [e] => decide (e.2 ≠ d)
  | e :: e' :: r => decide (e.2 ≠ d) && decide (e.1 < e'.1) && Tbl.wf d (e' :: r)

/-- A change of one entry by a function of its present value. -/
def Tbl.upd {α : Type} [DecidableEq α] (d : α) (t : Tbl α) (k : Nat) (f : α → α) : Tbl α :=
  Tbl.set d t k (f (Tbl.get d t k))

end Sys2Proof.Machine
end

