-- ==== Sys2Proof/Machine/Dev.lean ====
section
/-! DEFINITION. The device's internal state beside its register fields: one structure per unit of a chapter, plain
data, each with the value it has after reset as its default. Register fields live in the one register file `regs`. -/

namespace Sys2Proof.Machine

/-- What the device sends to the outside: frames, ring entries, messages and answers, oldest first. -/
inductive Emission where
  /-- A downstream frame (R65): ring, lane (0 TX, 1 RX), FT, the 16 header bytes, the seven sections with their CRCs. -/
  | frame (ring lane ft : Nat) (hdr : List Nat) (secs : List (List Nat))
  /-- A training frame (FT 0x03) with its header, or idle pairs with none, on a ring in a training state (R84). -/
  | train (ring state : Nat) (hdr : List Nat)
  /-- A token of the controller (R78, R81): ring, lane (0 TX, 1 RX), TD. -/
  | token (ring lane td : Nat)
  /-- A ring entry written to host memory (R293, R297, R298): endpoint, ring, address, bytes. -/
  | dma (ep ring addr : Nat) (bytes : List Nat)
  /-- The index mirror block (R289). -/
  | mirror (ep addr : Nat) (bytes : List Nat)
  /-- A read of descriptors issued (R296): endpoint, address, number of descriptors. -/
  | fetch (ep addr n : Nat)
  /-- A PH_COPY transfer started (R291): endpoint, direction, hole, host address, length. -/
  | phCopy (ep dir hole addr len : Nat)
  /-- An MSI-X message (R304, R439). -/
  | msix (ep vec : Nat)
  /-- The data of a register read: accessor, offset, value (R425). -/
  | readData (acc ofs val : Nat)
  /-- A bus error answered to its path (R423): accessor, offset, kind, direction. -/
  | busError (acc ofs kind dir : Nat)
  /-- An ERR_NONFATAL message of an endpoint (R423). -/
  | errNonfatal (ep : Nat)
  /-- A byte answered or an acknowledge withheld on TWB (R366, R367, R373). -/
  | twb (byte : Nat)
  /-- A TWB byte not acknowledged. -/
  | twbNak
  /-- A TWA transfer started: address, pointer, length (R378); address 0x0C is the alert response (R379). -/
  | twa (addr ptr len : Nat)
  /-- TWA bus recovery pulses and a STOP (R377). -/
  | twaRecover
  /-- A PD message sent: message name code, objects (R387 to R396). -/
  | pd (msg : Nat) (objs : List Nat)
  /-- A USB response or control answer (R403, R404). -/
  | usb (bytes : List Nat)
  /-- A control request answered with STALL (R404). -/
  | usbStall
deriving DecidableEq, Repr

/-- A command in a channel's slot: opcode and 48-bit argument (R69, R70). -/
structure Cmd where
  opc : Nat := 0
  arg : Nat := 0
deriving DecidableEq, Repr

/-- The time base (R41 to R60). The counters TB_TICK, TB_FRAME_NUM and TB_FRAME_POS are register fields. -/
structure TimeBase where
  /-- Ticks since power-on; the model's own unbounded count behind the windowed comparisons of R44. -/
  now : Nat := 0
  /-- Postmark of the last tick edge, and of the edges before it, newest first. -/
  pm : Nat := 0
  hist : List Nat := []
  /-- The 32-bit fraction accumulator of R53. -/
  frac : Nat := 0
  /-- The time base runs (false while it is stopped, R54). -/
  run : Bool := true
  /-- A FRAME_BOUNDARY step opened this tick's edge, and its pins are still to be latched. -/
  frameOpen : Bool := false
  /-- How far the work of the present tick has come (R45): 0 inputs are latched and reports processed; 1 the reports have been
  judged and commands are handed over; 2 phase B is over, and timers and filters are evaluated. -/
  stage : Nat := 0
  /-- Commands handed to the control plane in the present tick (R28). -/
  handed : Nat := 0
  /-- A rate word that takes effect at the next tick edge, and a forward step of that edge (R58). -/
  rateNext : Option Int := none
  stepNext : Nat := 0
  /-- Captures that belong to the next tick, since they are valid at its edge or later (R46). -/
  capLate : List Nat := []
  /-- The last accepted capture. -/
  lastCap : Option Nat := none
  /-- Captures within LOCKTHR in a row, and misses in a row (R59). -/
  lockRun : Nat := 0
  missRun : Nat := 0
  /-- The next target a pulse is expected at. -/
  expect : Option Nat := none
  /-- SYNC_MODE as last seen at a boundary. -/
  modeSeen : Nat := 0
  /-- SYNC_OUT level and the ticks it stays high. -/
  syncOut : Bool := false
  syncHigh : Nat := 0
  /-- P_stop, kept by the always-on domain while the time base is stopped (R54). -/
  pStop : Nat := 0
deriving DecidableEq, Repr

/-- One bulk exchange placed in a frame, waiting for its answer (R77). -/
structure Exch where
  /-- Tick of the frame that carried it. -/
  tick : Nat := 0
  /-- 0 grant for ATTN; 1 grant for identity; 2 configuration piece; 3 relay seed piece; 4 relay grant; 5 relay control. -/
  kind : Nat := 0
  pos : Nat := 0
  xfer : Nat := 0
  seq : Nat := 0
  /-- Sends so far. -/
  tries : Nat := 0
  data : List Nat := []
deriving DecidableEq, Repr

/-- One ring port (R84 to R92). -/
structure RingSt where
  /-- SPLIT-TRAIN is in progress while RG_STATUS.STATE reads 6 (R84). -/
  splitTrain : Bool := false
  /-- In SPLIT-TRAIN, an end has locked. -/
  ends : Bool := false
  /-- Tick at which the present state was entered, and at which training began. -/
  since : Nat := 0
  trainAt : Nat := 0
  /-- The training under way is one at wake (R84, R86). -/
  wake : Bool := false
  /-- A ring reset waits for its SAFEALL headers; headers left (R73, R84). -/
  resetPend : Bool := false
  safeAll : Nat := 0
  /-- Headers still to carry PARK (R73, R88). -/
  park : Nat := 0
  parked : Bool := false
  /-- Upstream frames latched for the tick in progress: bit 0 at RX, bit 1 at TX. -/
  seen : Nat := 0
  /-- Frames that came in after the reports of their tick were judged; they are latched in the next tick (R46). -/
  late : List UpFrame := []
  /-- Ticks in a row without a valid SOF. -/
  noSof : Nat := 0
  /-- The slots of the last frames sent, newest first: tick edge, and the 32 slots as 64-bit words (R68, R69). -/
  sent : List (Nat × List Nat) := []
  /-- In split operation, the positions below this one form chain U (R89). -/
  brk : Nat := 0
  /-- Tick T at which split operation begins or began; the phase of its 12-tick cycle (R89, R90). -/
  splitT : Option Nat := none
  splitOn : Bool := false
  /-- Bulk work waiting: grants for ATTN, oldest first; grants for identity; configuration pieces in ascending order; relay
  exchanges (R77, R102). -/
  attn : List Exch := []
  asks : List Exch := []
  pieces : List Exch := []
  work : List Exch := []
  /-- Exchanges in flight, oldest first. -/
  flight : List Exch := []
  /-- Positions of the enumeration whose identity is still to be known; no configuration piece passes them (R102). -/
  idAsk : List Nat := []
  /-- Bulk arrivals waiting for their own step: stage events and measurement blocks, (position, bytes). -/
  evts : List (Nat × List Nat) := []
  meas : List (Nat × List Nat) := []
  /-- Verification results of stage images waiting for their own step: position, result (R359). -/
  vers : List (Nat × Nat) := []
  /-- Answers of relay exchanges waiting for the update function: (position, kind, 1 ACK 0 failed). -/
  rans : List (Nat × Nat × Nat) := []
  /-- One-way probe delay of each position from the end that reaches it, in 1/8192 ns, as measured (R85, R151). -/
  hops : List Int := []
  /-- The probe tokens of MEASURE are to be sent (R85). -/
  probes : Bool := false
  /-- IDENT in every slot is due in the next frame (R102). -/
  identAll : Bool := false
  /-- Positions of the enumeration not yet matched or quarantined. -/
  idLeft : List Nat := []
  /-- Tick in which the last position was settled; IDENT ends in the following tick. -/
  idDone : Option Nat := none
  /-- Stages counted and identities before sleep, for the check of a wake training (R84). -/
  oldCount : Nat := 0
  /-- The ring is up by a wake training: its stages kept their image buffers while they were parked (R88, R361). -/
  bufs : Bool := false
deriving DecidableEq, Repr

/-- One channel's sample in raw report codes (R100). -/
structure Samp where
  has : Bool := false
  v : Nat := 0
  i : Nat := 0
  t : Nat := 0
  /-- LIMIT 0, TRIP 1, SENSE 2, SUPPLY 3, HOT 4, ROLEF 5 (R100). -/
  fl : Nat := 0
  pm : Nat := 0
  /-- Tick edge at which the stage sampled. -/
  tick : Nat := 0
deriving DecidableEq, Repr

/-- One channel beside its directory entry (R94 to R109). -/
structure ChanSt where
  /-- The sample control-plane functions use, and the one telemetry uses (R74, R106). -/
  smp : Samp := {}
  tel : Samp := {}
  /-- A valid report was latched in the tick in progress; its RTYPE. -/
  fresh : Bool := false
  rtype : Nat := 0
  /-- The last slot came back unchanged (R68). -/
  same : Bool := false
  /-- Consecutive ticks without a valid report (R74). -/
  miss : Nat := 0
  /-- Conditions QUAR and MATCH of R105; the others are register fields. -/
  quar : Bool := false
  matched : Bool := false
  /-- A FUNCTION quarantine may be released by the next match (R108). -/
  release : Bool := false
  /-- The position has been matched or quarantined since its ring came up: from then on SAFE and NOREP follow its reports. -/
  enum : Bool := false
  /-- Health before the first change of the tick in hand, and the reasons of a quarantine that began in it (R107, R108); the
  tick in which QREASON was last written. -/
  was : Option Nat := none
  qnew : List Nat := []
  qat : Option Nat := none
  /-- A re-identification is requested by a write, or due to a commit that released a FUNCTION quarantine; the tick from which
  a frame boundary carries the latter out; one is under way (R108, R109). -/
  reid : Bool := false
  reidOwn : Option Nat := none
  reiding : Bool := false
  /-- Identity requests sent again so far. -/
  asks : Nat := 0
  /-- Answer of the identity request: 0 none yet, 1 a block, 2 none after the retries. -/
  idAns : Nat := 0
  /-- Answer of the configuration piece: 0 none yet, 1 ACK, 2 NAK after the retries. -/
  cfgAns : Nat := 0
  /-- The identity block last received (R97), and the one of the last enumeration, empty if none came (R84). -/
  idb : List Nat := []
  idEnum : List Nat := []
  /-- The block that answers the request in hand. -/
  idNew : List Nat := []
  /-- One-shot commands waiting, oldest first, and the command counter (R69, R71). -/
  q : List Cmd := []
  cc : Nat := 0
  /-- Last REGDATA value read (R72). -/
  regData : Nat := 0
deriving DecidableEq, Repr

/-- An entry of the recorder's input queue (R26), before it has a record number. -/
structure Ent where
  pm : Nat := 0
  code : Nat := 0
  cls : Nat := 0
  src : Nat := 0
  sev : Nat := 0
  rep : Nat := 1
  sat : Bool := false
  pay : List Nat := []
  /-- Tick in which it joined, and its place within that tick (R27). -/
  tick : Nat := 0
  key : Nat := 0
  /-- Links the entry to its open record, or 0. -/
  openId : Nat := 0
  /-- The clear under way waits for the entry to be written (R334). -/
  clr : Bool := false
deriving DecidableEq, Repr

/-- A record still open for folding (R328). -/
structure OpenRec where
  oid : Nat := 0
  code : Nat := 0
  cls : Nat := 0
  src : Nat := 0
  rep : Nat := 1
  lastPm : Nat := 0
  lastTick : Nat := 0
  /-- Set once the record has been written: its number, epoch and REPEAT at that write. -/
  written : Option (Nat × Nat × Nat) := none
deriving DecidableEq, Repr

/-- A closed record whose rewrite is due (R328). -/
structure Rewrite where
  rnum : Nat := 0
  epoch : Nat := 0
  rep : Nat := 1
  sat : Bool := false
  lastPm : Nat := 0
deriving DecidableEq, Repr

/-- A token bucket of R329, in millionths of a token. -/
structure Bucket where
  used : Bool := false
  lvl : Nat := 0
  last : Nat := 0
  drop : Nat := 0
  rate : Nat := 0
  burst : Nat := 0
deriving DecidableEq, Repr

/-- Where a completion goes: sender (0 PA, 1 PB, 2 TWB, 3 SP), SEQ, TAG, IRQ, LOCAL, ring index, and the count of
falls of the sender's endpoint when the copy was fetched (R293, R322). -/
structure HCtx where
  src : Nat := 0
  seq : Nat := 0
  tag : Nat := 0
  irq : Bool := false
  lcl : Bool := false
  cidx : Nat := 0
  gen : Nat := 0
deriving DecidableEq, Repr

/-- A clear that waits for the entries queued before it (R334): scope, key class, nonce, hole, copies to complete. -/
structure ClearOp where
  scope : Nat
  kcls : Nat
  nonce : Nat
  hole : Nat
  ctxs : List HCtx
deriving DecidableEq, Repr

/-- The recorder beside its registers (R324 to R337). -/
structure RecSt where
  queue : List Ent := []
  opens : List OpenRec := []
  rewrites : List Rewrite := []
  nextOid : Nat := 1
  /-- Buckets by code; HOST_NOTE by code and sender (R329). -/
  buckets : Tbl Bucket := []
  /-- Entries refused by the queue and not yet reported (R335). -/
  refused : Nat := 0
  /-- The next record carries DROP (R324). -/
  drop : Bool := false
  /-- Earliest tick of the next write (R27). -/
  nextWrite : Nat := 0
  /-- Records in the rolling region, and in it since the last clear. -/
  count : Nat := 0
  /-- Slot of the rolling region that the next new record takes. -/
  head : Nat := 0
  /-- An authorised clear under way (R334), and its CLEAR record once it must be written next. -/
  clr : Option ClearOp := none
  clrRec : Option (List Nat) := none
  /-- Scope of the background overwrite under way. -/
  zeroing : Option Nat := none
  /-- EV_RNUM has wrapped to 0 and the WRAP record is still to be written (R326). -/
  wrap : Bool := false
  /-- The clear nonce (R333). -/
  nonce : Nat := 0
deriving DecidableEq, Repr

/-- One loop slot (R113, R120 to R134): accumulators as 64-bit codes. -/
structure SlotSt where
  a0 : Nat := 0
  a1 : Nat := 0
  a2 : Nat := 0
  a3 : Nat := 0
  /-- Following-error count (R132). -/
  fe : Nat := 0
  /-- Mode at the last evaluation, for scarf-capable slots. -/
  wasMan : Bool := false
  /-- The slot has been started and not evaluated since (R136). -/
  started : Bool := false
  /-- A function request for a mode: some true holds MAN, some false holds AUTO (R131). -/
  force : Option Bool := none
  /-- The next evaluation presets A0 as R129 sets out, after FECLR (R134). -/
  preset : Bool := false
  /-- FECLR acts at the next tick boundary. -/
  feclr : Bool := false
deriving DecidableEq, Repr

/-- The loop engine beside its registers. -/
structure LoopSt where
  slot : Tbl SlotSt := []
  /-- Function values by index, Q16.16 (R115). -/
  fv : Tbl Int := []
  /-- Function inputs by index, Q16.16 (R115). -/
  fi : Tbl Int := []
  /-- Phase D of this tick stops before this slot (R138). -/
  ovrAt : Option Nat := none
  /-- The slots evaluated in the last phase D, and the slots' states at its end (R139). -/
  ran : List Nat := []
  seen : Tbl SlotSt := []
  /-- Function requests by slot (R131): bit 0 the bus function holds MAN, bit 1 the shelf holds MAN, bit 2 the shelf
  holds AUTO. -/
  hold : Tbl Nat := []
  /-- Limits in force of the bus loop where they are not its register limits (R175): slot, minimum, maximum. -/
  lim : Option (Nat × Int × Int) := none
deriving DecidableEq, Repr

/-- One phase of a rail, by hop count (R148, R158, R163, R165). -/
structure PhSt where
  trim : Int := 0
  /-- Current sense failed; the trim is frozen (R165). -/
  failed : Bool := false
  /-- Latched open fault (R163). -/
  isOpen : Bool := false
  /-- The last valid current samples, newest first, at most 8 (R158). -/
  hist : List Int := []
  /-- Balance evaluations in a row outside the plausibility limit (R165). -/
  bad : Nat := 0
  /-- K_T of the planner's on-resistance model, Q16.16 °C/A², once there is one (R165, R275). -/
  kT : Option Int := none
  /-- Tick of the last RUN sent while in service (R166). -/
  runAt : Nat := 0
deriving DecidableEq, Repr

/-- One rail beside its registers (R156 to R167). -/
structure RailSt where
  /-- Tick at which the PREP timeout expires. -/
  prepEnd : Nat := 0
  /-- Ranks that left the usable set for this start (R156). -/
  prepOut : List Nat := []
  /-- Tick of the last change of the active set (R160). -/
  change : Option Nat := none
  /-- Ticks in a row below 7/8 of the capacity, and the tick in which the request was raised (R164). -/
  capLow : Nat := 0
  thrAt : Nat := 0
  /-- The lead has been in service since PREP began (R157). -/
  leadIn : Bool := false
  /-- A host request that waits: until no higher claim stands against it, an ON also until the rail is OFF (R25, R156). -/
  pend : Option Bool := none
  /-- I_rail of the last 8 ticks, newest first (R159). -/
  iHist : List Int := []
  /-- Tick of the stop procedure: the mask 0 leaves in the next frame, then SAFE (R156). -/
  stopAt : Option Nat := none
  /-- A changed mask waits for the lead's slot; the lead opcode it displaced (R147). -/
  maskNew : Bool := false
  late : List Nat := []
  /-- The lead opcode of the next frame: 0 LEAD_ROT, 1 LEAD_REF, 2 LEAD_RIP, 3 LEAD_LIM (R147). -/
  leadOp : Nat := 0
  /-- The planner's identification term, Q16.16 V (R154). -/
  pid : Int := 0
  /-- vref of the last tick, Q16.16 V. -/
  vref : Int := 0
deriving DecidableEq, Repr

/-- One feeder beside its registers (R176 to R179). -/
structure FeederSt where
  /-- Tick of entry to the present state. -/
  since : Nat := 0
  /-- Ticks in a row with SUPPLY = 0 (R176). -/
  hvok : Nat := 0
  /-- Tick of the last RUN sent while its health stays SAFE (R178). -/
  runAt : Option Nat := none
  /-- Reports in a row with SENSE = 0 after a sense fault (R179). -/
  sense : Nat := 0
  /-- A removal of this tick, recorded at its end: the causes that held, the postmark of the first (R176). -/
  rem : Option (Nat × Nat) := none
deriving DecidableEq, Repr

/-- The bus function beside its registers (R169 to R185). -/
structure BusSt where
  /-- The sequencer has enabled the bus. -/
  on : Bool := false
  /-- The slewed set-point VS, Q16.16 V (R172). -/
  vs : Int := 0
  /-- START has been entered and VS is still to be preset to V_bus. -/
  preset : Bool := false
  feeder : Tbl FeederSt := []
  /-- Window counts and whether each has acted: UVW, OVW, UVF, OVF (R182). -/
  win : Tbl (Nat × Bool) := []
  /-- Ticks in a row at OUT_MAX in force, and below 7/8 of it (R184). -/
  sat : Nat := 0
  low : Nat := 0
deriving DecidableEq, Repr

/-- A plan of the hold-up planner (R200 to R203). -/
structure Plan where
  pm : Nat := 0
  /-- Elapsed time in ms. -/
  tel : Nat := 0
  standby : Bool := false
  /-- The snapshot's boundary was at or after TAKEN. -/
  mayShed : Bool := false
  keep : Nat := 0
  isShort : Bool := false
  eavail : Int := 0
  need : List Int := []
  /-- Energies of the strings, mJ. -/
  str : List Nat := []
  /-- Classes with ENDSHED whose target is reached. -/
  ended : Nat := 0
deriving DecidableEq, Repr

/-- The battery shelf beside its registers (R187 to R206). -/
structure ShelfSt where
  /-- Next string CONNECT takes (R193). -/
  next : Nat := 0
  /-- Closing deadline of each CLOSING string; end of the CLOSE = 0 time of each string switched off. -/
  closeEnd : Tbl Nat := []
  offEnd : Tbl (Option Nat) := []
  /-- Legs that have become available since they entered CHARGE (R194). -/
  avail : Nat := 0
  /-- I_c of R195, Q16.16 A. -/
  ic : Int := 0
  /-- Slow-path count and the postmark of its first tick's sample (R196). -/
  slow : Nat := 0
  slowPm : Nat := 0
  /-- Tick of the last declaration of loss. -/
  declAt : Option Nat := none
  /-- EMERG_N counts, low and high (R197). -/
  emLow : Nat := 0
  emHigh : Nat := 0
  /-- Tick from which t_el runs, and the tick of R199 at which TAKEN is set. -/
  lossAt : Nat := 0
  takenAt : Option Nat := none
  /-- Tick in which TAKEN was set. -/
  takenSince : Nat := 0
  /-- Hand-back count and step (R204, R205), and the tick of step 3. -/
  hbCnt : Nat := 0
  hbStep : Nat := 0
  hbTick : Nat := 0
  /-- The plan that applies at the next frame boundary, and whether a hold-up plan has applied since the loss. -/
  plan : Option Plan := none
  planned : Bool := false
  /-- Sums over the frame: string currents, fuse powers, rail powers, Q16.16, and ticks summed. -/
  iSum : Tbl Int := []
  pFuse : Tbl Int := []
  pRail : Tbl Int := []
  ticks : Nat := 0
  /-- Classes whose loads are to be shed in this step (R203). -/
  shedReq : Nat := 0
deriving DecidableEq, Repr

/-- One fuse or port-switch channel beside its record (R208 to R219). -/
structure FuseSt where
  /-- Enable holds (single feeds); a host request that waits until no higher claim stands against it (R25, R223). -/
  want : Bool := false
  pend : Option Bool := none
  /-- Accumulator A of the breaker curve (R214). -/
  acc : Nat := 0
  /-- Thermal model poles and T_fet in use, Q16.16 °C (R215). -/
  dt0 : Int := 0
  dt1 : Int := 0
  dt2 : Int := 0
  tfet : Int := 0
  /-- Ticks in a row with the sensor off the model by more than TDEV, and with T_fet at TMAX or above (R215, R217). -/
  dev : Nat := 0
  therm : Nat := 0
  /-- Tick of entry to RAMP; the ramp has been preset, and that in the tick in which TRAMP expired (R212). -/
  rampAt : Nat := 0
  preset : Bool := false
  inTime : Bool := false
  /-- Edge at which the stage applies the first EN = 1. -/
  enAt : Option Nat := none
  /-- End of the back-off; tick of entry to ON (R219). -/
  backEnd : Nat := 0
  onAt : Nat := 0
  /-- IINST and DVDT last sent to the stage (R208). -/
  sentI : Nat := 0
  sentD : Nat := 0
  /-- Reports in a row with SUPPLY = 1 (R221). -/
  supply : Nat := 0
  /-- Edge and postmark of the sample that reported the last trip; the tick of that trip, and the edge at which the stage
  applies its EN = 0 (R222). -/
  tripEdge : Option (Nat × Nat) := none
  tripAt : Nat := 0
  offEdge : Nat := 0
  /-- The channel had matched when last seen (R215). -/
  matched : Bool := false
deriving DecidableEq, Repr

/-- A change of a feed group in progress (R222). -/
structure Change where
  out : Nat := 0
  inc : Nat := 0
  at_ : Nat := 0
  /-- Edge at which the outgoing channel applies EN = 0. -/
  offEdge : Nat := 0
  /-- t_off and its postmark, and the tick in which it became known. -/
  toff : Option (Nat × Nat) := none
  known : Nat := 0
  started : Bool := false
  ein : Option Nat := none
deriving DecidableEq, Repr

/-- One feed group (R220 to R223). -/
structure GroupSt where
  en : Bool := false
  shed : Bool := false
  pend : Option Bool := none
  /-- A host feed change waits for the next selection (R221). -/
  req : Bool := false
  /-- Ticks in a row in which the primary has been available while the secondary is selected. -/
  rev : Nat := 0
  chg : Option Change := none
  stuck : Bool := false
  down : Bool := false
deriving DecidableEq, Repr

/-- The values of the port switch's PS_SET, set by the service port function (R208, R224). -/
structure PortSw where
  vout : Nat := 0
  ilim : Nat := 0
  en : Bool := false
  disch : Bool := false
deriving DecidableEq, Repr

/-- One step of the sequence beside its record (R228). -/
structure StepSt where
  /-- Tick in which the step began, and its count. -/
  beg : Nat := 0
  cnt : Nat := 0
  /-- The step waits its TODN without a test (R232). -/
  blind : Bool := false
  /-- STEPON waits until the shed of the target ends. -/
  pendOn : Bool := false
deriving DecidableEq, Repr

/-- The sequencer beside its registers (R226 to R243). -/
structure SeqSt where
  step : Tbl StepSt := []
  /-- Tick of entry to the present state. -/
  since : Nat := 0
  /-- The step to begin, and the tick from which it may (R229). -/
  next : Option (Nat × Nat) := none
  /-- The power-down under way: 0 by request, 1 a failure, 2 one that ends in LOCKED (R231, R234). -/
  downWhy : Nat := 0
  /-- The step whose failure started the power-down. -/
  failStep : Option Nat := none
  /-- The tick at which RSTOUT_N is released. -/
  rstAt : Option Nat := none
  /-- A short press whose request is to be applied after the dispatcher's requests of the tick (R235, R238). -/
  press : Bool := false
  /-- The tick of the last request that set REQ (R235). -/
  reqAt : Option Nat := none
  /-- The power-down under way has had a failure (R232). -/
  pd : Bool := false
  /-- An off request was taken during UP: the current step runs to its end (R235). -/
  offTaken : Bool := false
  /-- Sources that hold FAULT_N (R240): 0 management halt, 1 clock loss, 2 watchdog reset, 3 supply reset, 4 overrun,
  5 LOCKED, 6 ISOLATE, 7 power-down fault, 8 global fault. -/
  fault : Nat := 0
  /-- Supervision counts by rail and threshold, with whether each entry was counted (R241). -/
  sup : Tbl (Nat × Bool) := []
deriving DecidableEq, Repr

/-- What the governor's policy computed from one frame (R251, R252). -/
structure GovPlan where
  igov : Int := 0
  grants : List Nat := []
  head : Int := 0
  isShort : Bool := false
  pm : Nat := 0
deriving DecidableEq, Repr

/-- The budget governor beside its registers (R244 to R254). Caps are numbered 0 hub, 1 to 16 rails, 17 to 32 groups. -/
structure GovSt where
  /-- Release counts by cap (R246). -/
  rel : Tbl Nat := []
  /-- Sums of the frame: P_hub, P_chg, V_bus and P_fg by group, and ticks summed (R251). -/
  hub : Int := 0
  chg : Int := 0
  vbus : Int := 0
  fg : Tbl Int := []
  ticks : Nat := 0
  plan : Option GovPlan := none
  /-- Last value issued by group, and frames since (R253). -/
  issued : Tbl (Option (Nat × Nat)) := []
  /-- Host throttle requests: bit 4·source + output (R247). -/
  req : Nat := 0
  /-- A configuration has applied; the tick after which a frame boundary begins to drive the pins; they are driven (R248). -/
  cfg : Bool := false
  from_ : Option Nat := none
  driven : Bool := false
  /-- The pins of THROT0 to THROT3 that the device drives low (R248, R249). -/
  low : Nat := 0
deriving DecidableEq, Repr

/-- Four quantities V, I, P and T in Q16.16 or sums of them, with a count of held ticks (R256, R257). -/
structure Quad where
  v : Int := 0
  i : Int := 0
  p : Int := 0
  t : Int := 0
  held : Nat := 0
deriving DecidableEq, Repr

/-- One channel in the telemetry engine (R256 to R265). -/
structure TelCh where
  /-- The window in progress: its exponent, whether it has begun, and its sums. -/
  k : Nat := 0
  running : Bool := false
  sum : Quad := {}
  /-- A completed window not yet shown, and the averages shown. -/
  done : Option Quad := none
  shown : Quad := {}
  /-- Holds by consumer and quantity: 8·consumer + index in the order of TM_PK_VMAX on; consumers PA, PB, TWB, SP and
  the snapshot path (R258). -/
  pk : Tbl (Option Int) := []
  /-- Energies in 2^−16 µJ (R259). -/
  eout : Nat := 0
  ein : Nat := 0
  /-- Sums of the snapshot window, and whether any sample was in force in it. -/
  snap : Quad := {}
  seen : Bool := false
  /-- The sample in force is a held one. -/
  stale : Bool := false
deriving DecidableEq, Repr

/-- The telemetry engine beside its registers. -/
structure TelSt where
  ch : Tbl TelCh := []
  /-- Averages shadowed by accessor at a read of TM_CHSTAT (R265). -/
  shadow : Tbl Quad := []
  ehub : Nat := 0
  echg : Nat := 0
  /-- The snapshot window: started, tick and postmarks of its start, newest first; it began when SNAP_EN applied. -/
  on : Bool := false
  start : Nat := 0
  hist : List Nat := []
  part : Bool := false
  hub : Int := 0
  chg : Int := 0
  vbus : Int := 0
  /-- Entries formed and not yet written. -/
  entries : List (List Nat) := []
deriving DecidableEq, Repr

/-- One rate-of-rise window of an object (R272). -/
structure RateSt where
  /-- Window exponent in use, ticks and sum so far; a tick of it had no sample in force. -/
  k : Nat := 0
  n : Nat := 0
  sum : Int := 0
  bad : Bool := false
  prev : Option Int := none
  /-- The rate of the window that ended in this tick. -/
  rate : Option Int := none
deriving DecidableEq, Repr

/-- The thermal monitor beside its registers (R267 to R273). -/
structure ThermSt where
  /-- Sum and number of the T_die values of the schedule cycle, and whether the level is to be set (R269). -/
  sum : Int := 0
  n : Nat := 0
  lvlDue : Bool := false
  /-- The level in force from the next tick (R269). -/
  lvlNext : Option Nat := none
  /-- Ticks in a row at or above TWARN and TCRIT, and below each less THYST (R268). -/
  warn : Nat := 0
  crit : Nat := 0
  warnLow : Nat := 0
  critLow : Nat := 0
  /-- Windows by limit and object: 512·j, plus 0 for the die or 1 + channel (R272). -/
  rate : Tbl RateSt := []
  /-- Counts by channel and threshold, 2·channel + 1 for the fault, and whether the count has acted (R273). -/
  stg : Tbl (Nat × Bool) := []
  /-- End of the last operation of each paced class: 0 PA, 1 PB, 2 store writes, 3 relay blocks, 4 snapshots; and the
  classes whose next operation has started (R270). -/
  paceEnd : Tbl (Option Nat) := []
  paceGo : Nat := 0
deriving DecidableEq, Repr

/-- A result of the margin planner (R274, R278), Q16.16. -/
structure MpRes where
  val : Int := 0
  stale : Bool := false
  base : Option Int := none
deriving DecidableEq, Repr

/-- Sums of a least-squares slope. -/
structure Regr where
  n : Int := 0
  sx : Int := 0
  sy : Int := 0
  sxx : Int := 0
  sxy : Int := 0
deriving DecidableEq, Repr

/-- What the planner keeps of a string (R274, QTY 8 and 9). -/
structure StrMeas where
  /-- Mean voltage and current of the last frame. -/
  last : Option (Int × Int) := none
  quot : List Int := []
  /-- Ticks at rest, the voltage of the last rest point, the energy counted since it. -/
  rest : Nat := 0
  restV : Option Int := none
  e : Int := 0
  factor : Option Int := none
deriving DecidableEq, Repr

/-- One change of a plan (R279): the output, its field and bits, the object, the value in force, the proposed value and
the value to write, its mark (0 APPLIED, 1 CLAMPED, 2 ADVISED, 3 REFUSED) and the attempts at writing it. -/
structure PlanItem where
  o : Nat
  reg : Reg
  ix : Nat
  lo : Nat
  w : Nat
  obj : Nat
  old : Nat
  prop : Nat
  new : Nat
  mark : Nat
  tries : Nat := 0
deriving DecidableEq, Repr

/-- The margin planner beside its registers (R274 to R282). -/
structure MpSt where
  /-- Results by 256·QTY + object; they survive every reset (R278). -/
  res : Tbl (Option MpRes) := []
  since : Nat := 0
  runNow : Bool := false
  /-- Sums over the frame by channel, and ticks summed. -/
  sum : Tbl Quad := []
  vbus : Int := 0
  ticks : Nat := 0
  /-- Slopes by 256·QTY + object; measurement blocks by channel: number and sum of the quotients. -/
  regr : Tbl Regr := []
  blocks : Tbl (Nat × Int) := []
  str : Tbl StrMeas := []
  /-- The identification run: start of its chip grid, end of the chip in hand, shift register, active count at its
  start, tick since which no pause condition has held. -/
  grid : Nat := 0
  chipEnd : Nat := 0
  lfsr : Nat := 0x3FF
  startM : Nat := 0
  clearAt : Option Nat := none
  /-- Rails identified in this period. -/
  idDone : Nat := 0
  /-- The advised plan, its expiry, the changes to write and the frame from which they may be written. -/
  advice : List PlanItem := []
  advEnd : Nat := 0
  todo : List PlanItem := []
  todoAt : Nat := 0
  /-- References that differ from the value in force: by field, element and bit (R279). -/
  ref : Tbl (Option Nat) := []
deriving DecidableEq, Repr

/-- A command waiting in the dispatcher (R28): its 64 descriptor bytes and the copies that complete with it, or a write of
WO bits as accessor, offset and value (R426); the tick it was latched in and its rank in that tick (R29). -/
structure DispItem where
  bytes : List Nat := []
  ctxs : List HCtx := []
  reg : Option (Nat × Nat × Nat) := none
  /-- What the store meets when a piece is written (R342). -/
  store : StoreCase := .fine
  tick : Nat := 0
  rank : Nat := 0
deriving DecidableEq, Repr

/-- A read of descriptors under way (R296). -/
structure FetchReq where
  tick : Nat
  n : Nat
deriving DecidableEq, Repr

/-- One endpoint beside its HQ_ group (R285 to R304). -/
structure HostEp where
  /-- Falls of the endpoint so far. -/
  gen : Nat := 0
  /-- Descriptor reads under way, the index after the last read issued, completion entries reserved. -/
  reads : List FetchReq := []
  issued : Nat := 0
  resv : Nat := 0
  /-- Entries written and not signalled, and the tick of the oldest, for vectors 0 and 1 (R304). -/
  mod0 : Option (Nat × Nat) := none
  mod1 : Option (Nat × Nat) := none
  /-- Vectors whose message is due. -/
  msi : Nat := 0
  /-- MSI-X of the function: enabled, function mask, vector masks, pending bits (R7, R285). Nothing in the opcode table writes
  configuration space or BAR4: they begin as a host that uses the vectors sets them (DESIGN CHOICE, log entry 65). -/
  msixOn : Bool := true
  msixMaskAll : Bool := false
  msixMask : Nat := 0
  msixPend : Nat := 0
  /-- AER of the function: uncorrectable error status and mask, as the PCI Express standard numbers the bits (R7, R423). -/
  aerStat : Nat := 0
  aerMask : Nat := 0
  /-- Records waiting to be written to the event ring, oldest first: the tick in which each was recorded, its bytes (R297). -/
  evq : List (Nat × List Nat) := []
  /-- An index changed in this tick (R289). -/
  mirror : Bool := false
deriving DecidableEq, Repr

/-- A PH_COPY under way (R301). -/
structure CopyOp where
  hole : Nat
  dir : Nat
  len : Nat
  back : Nat
  ctx : HCtx
  addr : Nat := 0
  /-- Its host access has begun: it waits for the pause of its endpoint's class (R270). -/
  sent : Bool := true
deriving DecidableEq, Repr

/-- A completion waiting for the end of its tick (R294, R296): the copy, STATUS, RESULT, REASON. -/
structure CplItem where
  ctx : HCtx
  status : Nat
  result : Nat
  reason : Nat
deriving DecidableEq, Repr

/-- The host interface beside its registers. -/
structure HostSt where
  ep : Tbl HostEp := []
  /-- Descriptors latched and not yet paired, as endpoint, index and bytes with the copy's context (R296, R310). -/
  arr : List (HCtx × List Nat) := []
  dq : List DispItem := []
  /-- Completions of the tick in hand, in the order of execution. -/
  cpls : List CplItem := []
  copies : List CopyOp := []
  /-- Tick of the last change of each hole; holes whose holder went down while in DEVICE (R303). -/
  phAt : Tbl Nat := []
  phDrop : Nat := 0
deriving DecidableEq, Repr

/-- A copy in the pairing table or in a held divergence (R310, R315). -/
structure CopyRec where
  ctx : HCtx
  dig : Nat
  bytes : List Nat
deriving DecidableEq, Repr

/-- An entry of the pairing table (R310). -/
structure PairEnt where
  seq : Nat
  at_ : Nat
  gated : Bool
  copy : CopyRec
deriving DecidableEq, Repr

/-- A held divergence (R315): host A's and host B's copies. -/
structure HeldDiv where
  seq : Nat
  at_ : Nat
  a : CopyRec
  b : CopyRec
deriving DecidableEq, Repr

/-- Pairing and authority beside the AU_ registers (R306 to R322). -/
structure AuSt where
  table : List PairEnt := []
  held : List HeldDiv := []
  /-- AU_HSEQ has been set since TWIN was entered. -/
  hset : Bool := false
  /-- End of the DIVERGE_N pulse. -/
  pulseEnd : Option Nat := none
  /-- Ticks for which the pin code has been latched unchanged; the present code has been acted on (R318). -/
  pinRun : Nat := 0
  nonce : Nat := 0
  /-- A token under check: its bytes and the nonce it had to carry; the authority and lease of one that passed, in force from
  the next tick (R319). -/
  tok : Option (List Nat × Nat) := none
  tokOk : Option (Nat × Nat) := none
  /-- A token's lease runs; ticks of the present 10 ms; LEASE below 1 s has been reported (R320, R380). -/
  leaseOn : Bool := false
  leaseTick : Nat := 0
  leaseLow : Bool := false
  /-- Mode to apply at the next frame boundary (R321). -/
  newMode : Option Nat := none
deriving DecidableEq, Repr

/-- A configuration commit under way (R347): its buffer and length, the copies that complete with it, whether step 5
has begun and the first tick whose boundary it may apply at (R23), and the fields (id, element) that later register
writes have taken out of its batch (R427). -/
structure CommitJob where
  buf : Nat
  len : Nat
  ctxs : List HCtx
  staged : Bool := false
  okAt : Nat := 0
  moved : List (Nat × Nat) := []
  /-- The configuration of a start-up (R348): no record, no mark, no completion. -/
  boot : Bool := false
deriving DecidableEq, Repr

/-- One relay round beside its UP_RLY word (R357 to R361). -/
structure RelaySt where
  /-- Included channels of the type in progress still to be filled, and the stage types after it. -/
  todo : List Nat := []
  types : List Nat := []
  /-- The channel being filled, and the next piece. -/
  target : Option Nat := none
  piece : Nat := 0
  /-- Filled channels whose verification answer is outstanding. -/
  await : List Nat := []
  /-- Verified channels waiting for their release, with the tick of the answer. -/
  ready : List (Nat × Nat) := []
  /-- Relay sources of the type in progress. -/
  sources : List Nat := []
  /-- Channels in their write window, with the edge at which the stage applied the write command; the channels whose
  re-identification after the window is under way. -/
  window : List (Nat × Nat) := []
  reids : List Nat := []
deriving DecidableEq, Repr

/-- The update function and the store's upkeep beside their registers (R340 to R361). -/
structure UpSt where
  /-- Digest of the download record; digest of each slot's last verification. -/
  dig : List Nat := []
  slotDig : Tbl (List Nat) := []
  /-- The verification under way, with the copies of the last piece and the hole it came in (256: none). -/
  verify : Option (List HCtx × Nat) := none
  /-- Ticks of service since the end of start-up or the last management halt, ticks of the present second of the 120 s,
  and whether the host confirmed in this start (R355). -/
  svc : Nat := 0
  trialTick : Nat := 0
  conf : Bool := false
  /-- The configuration applied at this start without rejection (R355); a trial failed since the last start (R354). -/
  clean : Bool := false
  failed : Bool := false
  /-- Next block of the refresh pass, the tick of the last, and ticks of the present hour of AGE (R343). -/
  refr : Option Nat := none
  refrAt : Nat := 0
  ageTick : Nat := 0
  relay : Tbl RelaySt := []
deriving DecidableEq, Repr

/-- A TWA transfer in progress: its poll entry, and whether a protocol error has used its retry (R376). -/
structure TwaXfer where
  entry : Nat
  retried : Bool := false
  arb : Nat := 0
deriving DecidableEq, Repr

/-- The two-wire ports beside their registers (R364 to R379). -/
structure TwSt where
  /-- TWB transaction: 0 none; 1 write to the register address before its pointer; 2 after it; 3 read from the register
  address; 4 write to the page address before its byte; 5 after it; 6 read from the page address; 7 read of 0x0C. -/
  bus : Nat := 0
  /-- The word last read is still being sent. -/
  sending : Bool := false
  xfer : Option TwaXfer := none
  /-- Tick after the last poll of each entry; entries to be polled at once. -/
  last : Tbl Nat := []
  now : List Nat := []
  /-- The bus is checked before the next transfer (R377). -/
  check : Bool := false
  araAt : Option Nat := none
  /-- A TWB address phase started the wake under way (R372). -/
  woke : Bool := false
deriving DecidableEq, Repr

/-- A voltage change of the service port as source (R388): the contract it leads to, the tick of the next step, and the
tick of the last one. -/
structure Xsition where
  pos : Nat
  volt : Nat
  curr : Nat
  pps : Bool
  next : Nat
  last : Option Nat := none
  /-- The return to 5 V of R391, which ends in Source_Capabilities. -/
  back : Bool := false
deriving DecidableEq, Repr

/-- The service port beside its registers (R381 to R407). -/
structure SpSt where
  /-- Unattached, the port presents Rp; tick of the last toggle (R382). -/
  rp : Bool := false
  toggleAt : Nat := 0
  xs : Option Xsition := none
  /-- V codes of the last 8 valid port-switch reports. -/
  reps : List Nat := []
  /-- Tick of entry to the present state of SP_STATUS.ATT. -/
  since : Nat := 0
  /-- Tick of the last Request taken as source, and of the last accepted one as sink (R391, R393). -/
  reqAt : Nat := 0
  kaAt : Nat := 0
  /-- Objects last requested as sink: position, voltage, current, PPS. -/
  ask : Option (Nat × Nat × Nat × Bool) := none
  /-- The swap in progress: 0 none, 1 PR_Swap, 2 DR_Swap (R395); a DR_Swap has been sent for this contract (R394). -/
  swap : Nat := 0
  drs : Bool := false
  /-- A source Hard Reset sequence waits for VBUS to reach vSafe0V (R395). -/
  hr : Bool := false
  /-- The transition mark, kept in a system record (R396): old and target voltage. -/
  mark : Option (Nat × Nat) := none
  /-- The policy engine starts again while attached: Hard Reset comes first (R400). -/
  again : Bool := false
  /-- USB: the response waiting to be read, and result bytes of the command in hand. -/
  resp : Option (List Nat) := none
  res : List Nat := []
  /-- The nonce of GET_NONCE, and ticks of the present minute of the session (R404, R405). -/
  nonce : Option Nat := none
  sessTick : Nat := 0
deriving DecidableEq, Repr

/-- Reset, power and sleep beside the PM_ registers (R408 to R419). -/
structure PwrSt where
  /-- A device reset is in force; the device is asleep; a wake is under way, and whether it waits for the main supplies. -/
  held : Bool := false
  asleep : Bool := false
  waking : Bool := false
  waitMain : Bool := false
  /-- A wake source occurred during entry (R416). -/
  wakePend : Bool := false
  /-- Sleep entry: 0 none; 1 the waits of step 2; 2 park at the next frame boundary; 3 parking. -/
  entry : Nat := 0
  /-- Tick in which entry began. -/
  entryAt : Nat := 0
  /-- A host-command reset starts at the next frame boundary (R408). -/
  rstReq : Bool := false
  /-- FORCE was set where no control plane ran; its first tick is still to act on it (R239). -/
  forcePend : Bool := false
  /-- The postmark checkpoint (R55). -/
  ck : Option Nat := none
  /-- The clock-loss flag (R34), kept by the always-on domain. -/
  clockLost : Bool := false
  /-- Recovery mode (R356). -/
  recovery : Bool := false
  /-- Tick at which the present start or wake began. -/
  startAt : Nat := 0
  /-- First ticks after a wake in which the bus and the shelf take over from the reports (R418). -/
  resume : Bool := false
  resumeLegs : Bool := false
  /-- START_UP has run since the last release (R412). -/
  booted : Bool := false
  /-- WAKE_IN high and MR_N low as last latched; they bar sleep (R413). -/
  wakeIn : Bool := false
  mrLow : Bool := false
  /-- The present start follows a power-on reset (R408). -/
  por : Bool := true
  /-- Rings whose relay round a reset ended; their RELAY_END is written at the next start (R361). -/
  rlyLost : List Nat := []
deriving DecidableEq, Repr

/-- A staged register write waiting for its boundary (R17, R427): the batch of its last writer (0 COMMIT, 1 PA, 2 PB,
3 TWB, 4 SP, 5 MP, as IN_REJ.SRC codes them), the field, its element and the value. -/
structure Staged where
  batch : Nat
  reg : Reg
  ix : Nat
  val : Nat
deriving DecidableEq, Repr

/-- The device but for its two memories and its command queue. -/
structure Dev where
  /-- The register file: field id, then element, to value; an unlisted element holds its reset value. -/
  regs : Tbl (Tbl Nat) := []
  staged : List Staged := []
  /-- Causes of R438 with a bit that rose in this tick, per endpoint for cause 22 (bits 22 and 23). -/
  rise : Nat := 0
  /-- Uses made of the free values; the model's own counter, no state of the hardware. -/
  freeCtr : Nat := 0
  /-- What left the device since the step of the last tick edge began. -/
  out : List Emission := []
  /-- Target faults latched for the sequencer (R227): kind, number, cause. -/
  tfq : List (Nat × Nat × Nat) := []
  /-- Channels whose conditions a commit changed and whose health phase B is to evaluate (R30). -/
  reval : List Nat := []
  tb : TimeBase := {}
  ring : Tbl RingSt := []
  ch : Tbl ChanSt := []
  rcd : RecSt := {}
  le : LoopSt := {}
  vr : Tbl RailSt := []
  ph : Tbl PhSt := []
  bus : BusSt := {}
  bs : ShelfSt := {}
  fuse : Tbl FuseSt := []
  grp : Tbl GroupSt := []
  ps : PortSw := {}
  seq : SeqSt := {}
  gov : GovSt := {}
  tm : TelSt := {}
  th : ThermSt := {}
  mp : MpSt := {}
  host : HostSt := {}
  au : AuSt := {}
  commit : Option CommitJob := none
  up : UpSt := {}
  tw : TwSt := {}
  sp : SpSt := {}
  pw : PwrSt := {}
deriving DecidableEq, Repr

end Sys2Proof.Machine
end

