-- ==== Sys2Proof/Machine/Mem.lean ====
section
/-! DEFINITION. The two memories of the device, the non-volatile store (R340, 16 MiB) and the pigeonhole window (R285,
R300, 256 KiB), and the device together with them. A memory is a list of cells in canonical form: addresses strictly
rising, no cell equal to the 0 that an unlisted address reads as. -/

namespace Sys2Proof.Machine

/-- A memory (Host.Cell: an address and a byte). -/
abbrev Mem := List Host.Cell

/-- The byte an address reads as when nothing is listed for it. The manual gives no content for a store or window that
nothing has written; the model reads 0 (DESIGN CHOICE, log entry 3). -/
def Mem.blank : BitVec 8 := 0

/-- The byte at an address. -/
def Mem.rd (m : Mem) (a : Nat) : Nat := (Tbl.get Mem.blank m a).toNat

/-- A byte is written. -/
def Mem.wr (m : Mem) (a v : Nat) : Mem := Tbl.set Mem.blank m a (BitVec.ofNat 8 v)

/-- `n` bytes from an address. -/
def Mem.bytes (m : Mem) (a n : Nat) : List Nat := (List.range n).map (fun i => Mem.rd m (a + i))

/-- Bytes are written from an address on. -/
def Mem.put (m : Mem) (a : Nat) (l : List Nat) : Mem :=
  match l with
  | [] => m
  | b :: r => Mem.put (Mem.wr m a b) (a + 1) r

/-- Every address for which `p` holds becomes blank. -/
def Mem.drop (m : Mem) (p : Nat → Bool) : Mem := m.filter (fun e => !p e.1)

/-- The canonical form. -/
def Mem.wf (m : Mem) : Bool := Tbl.wf Mem.blank m

/-- The device with its memories: the non-volatile store and the pigeonhole window. -/
structure Sys where
  dev : Dev := {}
  nv : Mem := []
  ph : Mem := []
deriving DecidableEq, Repr

/-- A change that leaves both memories. -/
def Sys.on (s : Sys) (f : Dev → Dev) : Sys := { s with dev := f s.dev }

end Sys2Proof.Machine
end

