-- ==== Sys2Proof/Machine/State.lean ====
section
/-! DEFINITION. The state of the block: the device with its memories, and the queue of commands that wait. -/

namespace Sys2Proof.Machine

/-- The block's state: the device (Machine/Dev.lean) with its store and pigeonhole window, and the waiting commands, first in,
first out. -/
structure State where
  sys : Sys := {}
  pending : List Instr := []
deriving DecidableEq, Repr

/-- The reasons a step can fault. -/
inductive Fault where
  /-- Raised by no command: the manual gives every command an effect. Safe. -/
  | none
deriving DecidableEq, Repr

/-- The reasons a step can be refused. -/
inductive Refusal where
  /-- Raised by an arm of `exec` whose command has no meaning yet. Safe. -/
  | notModelled (mnemonic : String)
deriving DecidableEq, Repr

/-- The machine right after a power-on reset has been released: every register field at its reset value, every internal
state at its default, nothing stored, no command waiting. -/
def State.reset : State := { sys := { dev := {}, nv := [], ph := [] }, pending := [] }

end Sys2Proof.Machine
end

