-- ==== Sys2Proof/Machine/Crypto.lean ====
section
/-! DEFINITION. CRC-32 (R8), SHA-256 and ECDSA P-256 verification (R7 names the standards; their definitions are
PRESUMED from FIPS 180-4 and FIPS 186-4). Byte strings are lists of Nat below 256. -/

namespace Sys2Proof.Machine

/-- One bit of the reflected CRC-32 register (R8). -/
def crcBit (c : Nat) : Nat := if c % 2 = 1 then (c / 2) ^^^ 0xEDB88320 else c / 2

/-- One byte of the reflected CRC-32 register. -/
def crcByte (c b : Nat) : Nat := forIx 8 (fun _ x => crcBit x) (c ^^^ (b % 256))

/-- CRC-32 of a byte string: initial value and final XOR 0xFFFF_FFFF (R8). -/
def crc32 (l : List Nat) : Nat := (l.foldl crcByte 0xFFFFFFFF) ^^^ 0xFFFFFFFF

/-! ### Byte strings in big-endian order -/

/-- The big-endian value of a byte string. -/
def ofBe (l : List Nat) : Nat := l.foldl (fun a b => a * 256 + b % 256) 0

/-- The `n` big-endian bytes of a value. -/
def be (n v : Nat) : List Nat := (le n v).reverse

/-- A message cut into pieces of `n`, by fuel. -/
def pieces (n : Nat) : Nat → List Nat → List (List Nat)
  | 0, _ => []
  | f + 1, l => if l.isEmpty then [] else l.take n :: pieces n f (l.drop n)

/-! ### SHA-256

The eight working words are one number of 256 bits with the word `a` lowest, so that a round moves the words by one multiplication
and writes two of them. -/

/-- The primes below 312, of which there are 64. -/
def primes64 : List Nat :=
  (List.range 312).filter (fun n => decide (2 ≤ n) && (List.range 18).all (fun k => decide (k < 2) || decide (n ≤ k) || n % k != 0))

/-- The first 32 bits of the fractional part of the `k`-th root of `p`, which is below 8: the bits of the root found from the
highest down. -/
def rootFrac (k p : Nat) : Nat :=
  (List.range 37).foldl (fun x i => if (x + 2 ^ (36 - i)) ^ k ≤ p * 2 ^ (32 * k) then x + 2 ^ (36 - i) else x) 0 % 2 ^ 32

/-- Packed words, the first lowest. -/
def packWords (l : List Nat) : Nat := l.foldr (fun w v => w % 2 ^ 32 + v * 2 ^ 32) 0

/-- Word `i` of a packed number. -/
def wordAt (v i : Nat) : Nat := bitsOf v (32 * i) 32

/-- The exclusive or of the rotations of a word to the right by each amount. -/
def spin (x : Nat) (amounts : List Nat) : Nat := amounts.foldl (fun y n => y ^^^ ((x * 2 ^ 32 + x) / 2 ^ n % 2 ^ 32)) 0

/-- The message words of a block lengthened by `n` words derived from the 16 before each. -/
def shaExtend : Nat → List Nat → List Nat
  | 0, ws => ws
  | n + 1, ws =>
    let back := fun (k : Nat) => ws.getD (ws.length - k) 0
    let grown := back 16 + (spin (back 15) [7, 18] ^^^ back 15 / 8) + back 7 + (spin (back 2) [17, 19] ^^^ back 2 / 1024)
    shaExtend n (ws ++ [grown % 2 ^ 32])

/-- One round on the packed words; `kw` is the sum of its constant and its message word. -/
def shaTurn (v kw : Nat) : Nat :=
  let choice := (wordAt v 4 &&& wordAt v 5) + (wordAt v 6 - (wordAt v 4 &&& wordAt v 6))
  let most := wordAt v 0 &&& wordAt v 1 ||| (wordAt v 2 &&& (wordAt v 0 ||| wordAt v 1))
  let t := wordAt v 7 + spin (wordAt v 4) [6, 11, 25] + choice + kw
  setBits (v * 2 ^ 32 % 2 ^ 256) 128 32 (wordAt v 3 + t) + (t + spin (wordAt v 0) [2, 13, 22] + most) % 2 ^ 32

/-- One 64-byte block, with the round constants `ks`. -/
def shaBlock (ks : List Nat) (h : Nat) (blk : List Nat) : Nat :=
  let ws := shaExtend 48 ((pieces 4 16 blk).map ofBe)
  let v := (ks.zip ws).foldl (fun (v : Nat) (x : Nat × Nat) => shaTurn v (x.1 + x.2)) h
  packWords ((List.range 8).map (fun i => wordAt h i + wordAt v i))

/-- SHA-256 of a byte string: the start value from the square roots of the first eight primes, the constants from the cube roots
of the first 64. -/
def sha256 (m : List Nat) : List Nat :=
  let n := m.length
  let p := m ++ [0x80] ++ List.replicate ((119 - n % 64) % 64) 0 ++ be 8 (8 * n)
  let h := (pieces 64 (p.length / 64 + 1) p).foldl (shaBlock (primes64.map (rootFrac 3)))
    (packWords ((primes64.take 8).map (rootFrac 2)))
  ((List.range 8).map (fun i => be 4 (wordAt h i))).flatten

/-! ### ECDSA P-256 -/

/-- The field prime of P-256. -/
def p256p : Nat := 0xffffffff00000001000000000000000000000000ffffffffffffffffffffffff
/-- The group order of P-256. -/
def p256n : Nat := 0xffffffff00000000ffffffffffffffffbce6faada7179e84f3b9cac2fc632551
/-- The constant b of P-256. -/
def p256b : Nat := 0x5ac635d8aa3a93e7b3ebbd55769886bc651d06b0cc53b0f63bce3c3e27d2604b
/-- The base point of P-256. -/
def p256g : Nat × Nat :=
  (0x6b17d1f2e12c4247f8bce6e563a440f277037d812deb33a0f4a13945d898c296,
   0x4fe342e2fe1a7f9b8ee7eb4a7c0f9e162bce33576b315ececbb6406837bf51f5)

/-- `a` to the power `e` mod `m`, by fuel over the bits of `e`. -/
def powMod (m : Nat) : Nat → Nat → Nat → Nat
  | 0, _, _ => 1
  | f + 1, a, e => if e = 0 then 1
    else
      let h := powMod m f (a * a % m) (e / 2)
      if e % 2 = 1 then a * h % m else h

/-- The inverse mod a prime. -/
def invMod (m a : Nat) : Nat := powMod m 260 (a % m) (m - 2)

/-- The sum of two points; `none` is the point at infinity. -/
def ecAdd (p q : Option (Nat × Nat)) : Option (Nat × Nat) :=
  match p, q with
  | none, q => q
  | p, none => p
  | some (x1, y1), some (x2, y2) =>
    let m := p256p
    if x1 = x2 ∧ (y1 + y2) % m = 0 then none
    else
      let l := if x1 = x2 then (3 * x1 * x1 + (m - 3)) * invMod m (2 * y1) % m
        else (y2 + m - y1) * invMod m (x2 + m - x1) % m
      let x := (l * l + 2 * m - x1 - x2) % m
      some (x, (l * (x1 + m - x) + m - y1) % m)

/-- A multiple of a point, by fuel over the bits of the factor. -/
def ecMul : Nat → Nat → Option (Nat × Nat) → Option (Nat × Nat)
  | 0, _, _ => none
  | f + 1, k, p => if k = 0 then none
    else
      let h := ecMul f (k / 2) (ecAdd p p)
      if k % 2 = 1 then ecAdd p h else h

/-- ECDSA verification of a signature (r, s) over a SHA-256 digest with the public key (x, y); values are big-endian
numbers of 32 bytes. -/
def ecdsaVerify (x y : Nat) (digest : List Nat) (r s : Nat) : Bool :=
  let n := p256n
  let m := p256p
  if r = 0 ∨ n ≤ r ∨ s = 0 ∨ n ≤ s then false
  else if m ≤ x ∨ m ≤ y ∨ y * y % m ≠ (x * x * x + (m - 3) * x + p256b) % m then false
  else
    let z := ofBe digest
    let w := invMod n s
    match ecAdd (ecMul 260 (z * w % n) (some p256g)) (ecMul 260 (r * w % n) (some (x, y))) with
    | none => false
    | some (px, _) => decide (px % n = r)

end Sys2Proof.Machine
end

