-- ==== Sys2Proof/Machine/Operands.lean ====
section
/-! DEFINITION. The operand forms read into the numbers the meanings use: report fields (R72, R100), bulk bytes,
accessor and endpoint indices (R421). -/

namespace Sys2Proof.Machine

/-- The batch and accessor index of an accessor: 0 PA, 1 PB, 2 TWB, 3 SP (GL_WHO.ACC, R437). -/
def accIx : Accessor → Nat
  | .pa => 0
  | .pb => 1
  | .twb => 2
  | .sp => 3

/-- 0 for PA, 1 for PB. -/
def epIx : Endpoint → Nat
  | .pa => 0
  | .pb => 1

/-- Bytes as numbers. -/
def natBytes (l : List Byte) : List Nat := l.map BitVec.toNat

/-- Bytes 2 and 3 of a report: V (R100). -/
def repV (r : Report) : Nat := bitsOf r.data.toNat 0 16
/-- Bytes 4 and 5: the code of I. -/
def repI (r : Report) : Nat := bitsOf r.data.toNat 16 16
/-- Byte 6 and byte 7 [1:0]: T. -/
def repT (r : Report) : Nat := bitsOf r.data.toNat 32 10
/-- Byte 7 [7:2]: LIMIT, TRIP, SENSE, SUPPLY, HOT, ROLEF from bit 0. -/
def repFl (r : Report) : Nat := bitsOf r.data.toNat 42 6
/-- The report is a SAMPLE or SAFE report, which carries sampled data (R72, R100). -/
def repSampled (r : Report) : Bool := decide (r.rtype = 1) || decide (r.rtype = 3)
/-- The report has a defined RTYPE (R72). -/
def repValid (r : Report) : Bool := repSampled r || decide (r.rtype = 2)
/-- LPROT (R72). -/
def repLprot (r : Report) : Bool := bitOf r.flags.toNat 6
/-- ATTN (R72). -/
def repAttn (r : Report) : Bool := bitOf r.flags.toNat 7

/-- Report flags as bits of the sample's flag word (R100). -/
def flLimit : Nat := 0
/-- TRIP (R100). -/
def flTrip : Nat := 1
/-- SENSE (R100). -/
def flSense : Nat := 2
/-- SUPPLY (R100). -/
def flSupply : Nat := 3
/-- HOT (R100). -/
def flHot : Nat := 4
/-- ROLEF (R100). -/
def flRolef : Nat := 5

end Sys2Proof.Machine
end

