-- ==== Sys2Proof/Config.lean ====
section
/-! DEFINITION. What one implementation fixes and the manual leaves open: free values. None of them has a body, so
nothing in Lean can evaluate one or prove a value of it; a statement that mentions one holds for every value. -/

namespace Sys2Proof.Config

/-- A fresh value for every use, numbered by the plain counter of State (nonces, unstated results). -/
opaque freeValue : Nat → Nat

/-- The unique die identifier behind GL_UID (R437). -/
opaque dieUid : Nat

/-- The LCLK cycles phase D really used in a tick, below the admitted sum that bounds it (R119, LE_RUN.LAST). -/
opaque cyclesUsed : Nat → Nat

end Sys2Proof.Config
end

