-- ==== Sys2Proof/Machine/Regs0.lean ====
section
/-! DEFINITION. The register fields of the manual's tables: time base, rings, channel directory, loop engine and rails. One definition per field, its place, access, reset value and apply boundary as its table row gives them. -/

namespace Sys2Proof.Machine.R

/-- TB_CTRL.SYNC_MODE: 0 off; 1 slew only; 2 forward step allowed in ACQUIRE; 3 acts as 1 (R61) -/
def TB_CTRL_SYNC_MODE : Reg := { id := 0, off := 0x800, lo := 0, w := 2, acc := .rw, app := .frame }
/-- TB_CTRL.SYNCOUT_EN: 1 enables SYNC_OUT (R61) -/
def TB_CTRL_SYNCOUT_EN : Reg := { id := 1, off := 0x800, lo := 2, w := 1, acc := .rw, app := .frame }
/-- TB_CTRL.SYNCOUT_MODE: 0 tick; 1 postmark (R60) (R61) -/
def TB_CTRL_SYNCOUT_MODE : Reg := { id := 2, off := 0x800, lo := 3, w := 1, acc := .rw, app := .frame }
/-- TB_STATUS.LOCK: 0 FREE; 1 ACQUIRE; 2 LOCKED; 3 HOLDOVER (R61) -/
def TB_STATUS_LOCK : Reg := { id := 3, off := 0x804, lo := 0, w := 2, acc := .ro }
/-- TB_STATUS.PEND: 1 while a staged TB_ write waits (R61) -/
def TB_STATUS_PEND : Reg := { id := 4, off := 0x804, lo := 2, w := 1, acc := .ro }
/-- TB_STATUS.CONT_EST: last stop bridged on the internal oscillator (R54) (R61) -/
def TB_STATUS_CONT_EST : Reg := { id := 5, off := 0x804, lo := 3, w := 1, acc := .ro }
/-- TB_STATUS.POR_GAP: postmark restarted from checkpoint (R55) (R61) -/
def TB_STATUS_POR_GAP : Reg := { id := 6, off := 0x804, lo := 4, w := 1, acc := .ro }
/-- TB_STATUS.CK_INVALID: no valid checkpoint at the last power-on reset (R61) -/
def TB_STATUS_CK_INVALID : Reg := { id := 7, off := 0x804, lo := 5, w := 1, acc := .ro }
/-- TB_TICK: tick counter (R41) (R61) -/
def TB_TICK : Reg := { id := 8, off := 0x808, lo := 0, w := 32, acc := .ro }
/-- TB_FRAME_NUM: frame number (R42) (R61) -/
def TB_FRAME_NUM : Reg := { id := 9, off := 0x80C, lo := 0, w := 32, acc := .ro }
/-- TB_FRAME_POS: frame position 0–999 (R61) -/
def TB_FRAME_POS : Reg := { id := 10, off := 0x810, lo := 0, w := 10, acc := .ro }
/-- TB_PM_LO: postmark bits [31:0] at the read; latches [63:32] (R61) -/
def TB_PM_LO : Reg := { id := 11, off := 0x814, lo := 0, w := 64, acc := .ll }
/-- TB_PM_HI: latched postmark bits [63:32] (R61) -/
def TB_PM_HI : Reg := { id := 12, off := 0x818, lo := 0, w := 32, acc := .lh, per := .acc }
/-- TB_SYNC_PERIOD: pulse period in ns, 1,000,000–1,000,000,000; reset 1 s (R61) -/
def TB_SYNC_PERIOD : Reg := { id := 13, off := 0x81C, lo := 0, w := 32, acc := .rw, rst := 0x3B9ACA00, app := .frame }
/-- TB_SYNC_WIN: acceptance and miss window in ns; reset 1 ms (R61) -/
def TB_SYNC_WIN : Reg := { id := 14, off := 0x820, lo := 0, w := 32, acc := .rw, rst := 0xF4240, app := .frame }
/-- TB_SYNC_GAIN.KP: phase shift 0–15 (R61) -/
def TB_SYNC_GAIN_KP : Reg := { id := 15, off := 0x824, lo := 0, w := 4, acc := .rw, rst := 0x1, app := .frame }
/-- TB_SYNC_GAIN.KI: frequency shift 0–15 (R61) -/
def TB_SYNC_GAIN_KI : Reg := { id := 16, off := 0x824, lo := 8, w := 4, acc := .rw, rst := 0x4, app := .frame }
/-- TB_SYNC_GAIN.MISS_LIM: consecutive misses before HOLDOVER, 1–15; 0 acts as 1 (R61) -/
def TB_SYNC_GAIN_MISS_LIM : Reg := { id := 17, off := 0x824, lo := 16, w := 4, acc := .rw, rst := 0x3, app := .frame }
/-- TB_SYNC_GAIN.LOCK_N: captures within LOCKTHR needed to lock, 1–15; 0 acts as 1 (R61) -/
def TB_SYNC_GAIN_LOCK_N : Reg := { id := 18, off := 0x824, lo := 24, w := 4, acc := .rw, rst := 0x4, app := .frame }
/-- TB_SYNC_LOCKTHR: lock threshold in ns; reset 100 ns (R61) -/
def TB_SYNC_LOCKTHR : Reg := { id := 19, off := 0x828, lo := 0, w := 32, acc := .rw, rst := 0x64, app := .frame }
/-- TB_SYNC_STEPLIM: forward-step threshold in ns; reset 10,000 ns (R61) -/
def TB_SYNC_STEPLIM : Reg := { id := 20, off := 0x82C, lo := 0, w := 32, acc := .rw, rst := 0x2710, app := .frame }
/-- TB_SYNC_ERR: last offset e, signed ns (R61) -/
def TB_SYNC_ERR : Reg := { id := 21, off := 0x830, lo := 0, w := 32, acc := .ro }
/-- TB_RATE: current rate word, signed 2^−32 counts/ns (R61) -/
def TB_RATE : Reg := { id := 22, off := 0x834, lo := 0, w := 32, acc := .ro }
/-- TB_FREQ: freq_acc, signed 2^−32 counts/ns (R61) -/
def TB_FREQ : Reg := { id := 23, off := 0x838, lo := 0, w := 32, acc := .ro }
/-- TB_SYNC_CAP_LO: last capture bits [31:0]; latches [63:32] (R61) -/
def TB_SYNC_CAP_LO : Reg := { id := 24, off := 0x83C, lo := 0, w := 64, acc := .ll }
/-- TB_SYNC_CAP_HI: latched capture bits [63:32] (R61) -/
def TB_SYNC_CAP_HI : Reg := { id := 25, off := 0x840, lo := 0, w := 32, acc := .lh, per := .acc }
/-- TB_EVT.OUTLIER: a capture was discarded (R61) -/
def TB_EVT_OUTLIER : Reg := { id := 26, off := 0x844, lo := 0, w := 1, acc := .rc }
/-- TB_EVT.MISS: a pulse was missed (R61) -/
def TB_EVT_MISS : Reg := { id := 27, off := 0x844, lo := 1, w := 1, acc := .rc }
/-- TB_EVT.HOLDOVER: HOLDOVER was entered (R61) -/
def TB_EVT_HOLDOVER : Reg := { id := 28, off := 0x844, lo := 2, w := 1, acc := .rc }
/-- TB_EVT.STEP: a forward step was applied (R61) -/
def TB_EVT_STEP : Reg := { id := 29, off := 0x844, lo := 3, w := 1, acc := .rc }
/-- TB_SYNCOUT_CFG.SHIFT: period 2^SHIFT ticks, 1–20 (R61) -/
def TB_SYNCOUT_CFG_SHIFT : Reg := { id := 30, off := 0x848, lo := 0, w := 5, acc := .rw, rst := 0xA, app := .frame }
/-- TB_SYNCOUT_CFG.WIDTH: pulse width, 1–65,535 ticks (R61) -/
def TB_SYNCOUT_CFG_WIDTH : Reg := { id := 31, off := 0x848, lo := 16, w := 16, acc := .rw, rst := 0x1, app := .frame }
/-- TB_SYNCOUT_OFS: tick offset OFS for mode 0 (R61) -/
def TB_SYNCOUT_OFS : Reg := { id := 32, off := 0x84C, lo := 0, w := 20, acc := .rw, app := .frame }
/-- TB_CK_LO: last checkpoint bits [31:0]; latches [63:32] (R61) -/
def TB_CK_LO : Reg := { id := 33, off := 0x850, lo := 0, w := 64, acc := .ll }
/-- TB_CK_HI: latched checkpoint bits [63:32] (R61) -/
def TB_CK_HI : Reg := { id := 34, off := 0x854, lo := 0, w := 32, acc := .lh, per := .acc }
/-- RG_CTRL.EN: 1 enables the ring; set by configuration (R93) -/
def RG_CTRL_EN : Reg := { id := 35, off := 0x2000, lo := 0, w := 1, acc := .rw, app := .frame, s1 := 0x100, n1 := 8 }
/-- RG_CMD.RESET: 1 starts a ring reset (R84) (R93) -/
def RG_CMD_RESET : Reg := { id := 36, off := 0x2004, lo := 0, w := 1, acc := .wo, app := .now, s1 := 0x100, n1 := 8 }
/-- RG_CMD.CLRCNT: 1 clears the counters at 0x014–0x024 (R93) -/
def RG_CMD_CLRCNT : Reg := { id := 37, off := 0x2004, lo := 1, w := 1, acc := .wo, app := .now, s1 := 0x100, n1 := 8 }
/-- RG_STATUS.STATE: 0 DOWN; 1 LOCK; 2 COUNT; 3 MEASURE; 4 IDENT; 5 RUN; 6 SPLIT (SPLIT-TRAIN included); 7 FAILED (R93) -/
def RG_STATUS_STATE : Reg := { id := 38, off := 0x2008, lo := 0, w := 3, acc := .ro, s1 := 0x100, n1 := 8 }
/-- RG_STATUS.PEND: 1 while a staged RG_ write waits (R93) -/
def RG_STATUS_PEND : Reg := { id := 39, off := 0x2008, lo := 3, w := 1, acc := .ro, s1 := 0x100, n1 := 8 }
/-- RG_STATUS.NSTAGES: stages found, 0–32 (R93) -/
def RG_STATUS_NSTAGES : Reg := { id := 40, off := 0x2008, lo := 4, w := 6, acc := .ro, s1 := 0x100, n1 := 8 }
/-- RG_STATUS.BREAK_POS: position whose input link failed (R93) -/
def RG_STATUS_BREAK_POS : Reg := { id := 41, off := 0x2008, lo := 16, w := 5, acc := .ro, s1 := 0x100, n1 := 8 }
/-- RG_STATUS.BREAK_VALID: BREAK_POS is valid (R93) -/
def RG_STATUS_BREAK_VALID : Reg := { id := 42, off := 0x2008, lo := 21, w := 1, acc := .ro, s1 := 0x100, n1 := 8 }
/-- RG_STATUS.BREAK_CTRL: the break lies on the link into RX (R93) -/
def RG_STATUS_BREAK_CTRL : Reg := { id := 43, off := 0x2008, lo := 22, w := 1, acc := .ro, s1 := 0x100, n1 := 8 }
/-- RG_LAT.L: report latency L, ticks (R75) (R93) -/
def RG_LAT_L : Reg := { id := 44, off := 0x200C, lo := 0, w := 3, acc := .ro, s1 := 0x100, n1 := 8 }
/-- RG_LAT.D_LOOP: loop delay, ns (R93) -/
def RG_LAT_D_LOOP : Reg := { id := 45, off := 0x200C, lo := 16, w := 16, acc := .ro, s1 := 0x100, n1 := 8 }
/-- RG_CFG.MISS_LIM: missed reports before not reporting, 1–255; 0 acts as 1 (R93) -/
def RG_CFG_MISS_LIM : Reg := { id := 46, off := 0x2010, lo := 0, w := 8, acc := .rw, rst := 0x8, app := .frame, s1 := 0x100, n1 := 8 }
/-- RG_CFG.BULK_RETRY: bulk re-sends per piece, 1–7; 0 acts as 1 (R93) -/
def RG_CFG_BULK_RETRY : Reg := { id := 47, off := 0x2010, lo := 8, w := 3, acc := .rw, rst := 0x3, app := .frame, s1 := 0x100, n1 := 8 }
/-- RG_CRCERR: sections received bad at RX, saturating (R93) -/
def RG_CRCERR : Reg := { id := 48, off := 0x2014, lo := 0, w := 32, acc := .ro, s1 := 0x100, n1 := 8 }
/-- RG_HDRERR: headers received bad at RX, saturating (R93) -/
def RG_HDRERR : Reg := { id := 49, off := 0x2018, lo := 0, w := 32, acc := .ro, s1 := 0x100, n1 := 8 }
/-- RG_LATECNT: frames received with LATE, saturating (R93) -/
def RG_LATECNT : Reg := { id := 50, off := 0x201C, lo := 0, w := 32, acc := .ro, s1 := 0x100, n1 := 8 }
/-- RG_STRAY: tokens discarded at RX or invalid, saturating (R93) -/
def RG_STRAY : Reg := { id := 51, off := 0x2020, lo := 0, w := 32, acc := .ro, s1 := 0x100, n1 := 8 }
/-- RG_BULKRTX: bulk re-sends, saturating (R93) -/
def RG_BULKRTX : Reg := { id := 52, off := 0x2024, lo := 0, w := 32, acc := .ro, s1 := 0x100, n1 := 8 }
/-- RG_EVT.BREAK: a break was detected (R93) -/
def RG_EVT_BREAK : Reg := { id := 53, off := 0x2028, lo := 0, w := 1, acc := .rc, s1 := 0x100, n1 := 8 }
/-- RG_EVT.TRAIN_FAIL: training failed (R93) -/
def RG_EVT_TRAIN_FAIL : Reg := { id := 54, off := 0x2028, lo := 1, w := 1, acc := .rc, s1 := 0x100, n1 := 8 }
/-- RG_EVT.OVERCOUNT: more than 32 stages counted (R93) -/
def RG_EVT_OVERCOUNT : Reg := { id := 55, off := 0x2028, lo := 2, w := 1, acc := .rc, s1 := 0x100, n1 := 8 }
/-- RG_EVT.LATENCY: L would exceed 6 (R93) -/
def RG_EVT_LATENCY : Reg := { id := 56, off := 0x2028, lo := 3, w := 1, acc := .rc, s1 := 0x100, n1 := 8 }
/-- RG_EVT.LATE: a frame arrived with LATE (R93) -/
def RG_EVT_LATE : Reg := { id := 57, off := 0x2028, lo := 4, w := 1, acc := .rc, s1 := 0x100, n1 := 8 }
/-- RG_EVT.STRAY: a token was discarded at RX (R93) -/
def RG_EVT_STRAY : Reg := { id := 58, off := 0x2028, lo := 5, w := 1, acc := .rc, s1 := 0x100, n1 := 8 }
/-- RG_EVT.BULKFAIL: a bulk transfer failed (R93) -/
def RG_EVT_BULKFAIL : Reg := { id := 59, off := 0x2028, lo := 6, w := 1, acc := .rc, s1 := 0x100, n1 := 8 }
/-- RG_TRAINTIME: duration of the last training, µs (R93) -/
def RG_TRAINTIME : Reg := { id := 60, off := 0x202C, lo := 0, w := 16, acc := .ro, s1 := 0x100, n1 := 8 }
/-- RG_HOPDLY[p].FWD: δ_p from TX, 0.125 ns units, p = 0–31 (R93) -/
def RG_HOPDLY_FWD : Reg := { id := 61, off := 0x2080, lo := 0, w := 16, acc := .ro, s1 := 0x100, n1 := 8, s2 := 4, n2 := 32 }
/-- RG_HOPDLY[p].REV: delay to position p from RX, 0.125 ns units (R93) -/
def RG_HOPDLY_REV : Reg := { id := 62, off := 0x2080, lo := 16, w := 16, acc := .ro, s1 := 0x100, n1 := 8, s2 := 4, n2 := 32 }
/-- CD_ENT[c].EXP_TYPE: expected stage type (R94) (R110) -/
def CD_ENT_EXP_TYPE : Reg := { id := 63, off := 0x2800, lo := 0, w := 4, acc := .ro, s1 := 0x10, n1 := 256 }
/-- CD_ENT[c].ROLE: role code (R94) (R110) -/
def CD_ENT_ROLE : Reg := { id := 64, off := 0x2800, lo := 4, w := 4, acc := .ro, s1 := 0x10, n1 := 256 }
/-- CD_ENT[c].OWNK: owner kind (R95) (R110) -/
def CD_ENT_OWNK : Reg := { id := 65, off := 0x2800, lo := 8, w := 3, acc := .ro, s1 := 0x10, n1 := 256 }
/-- CD_ENT[c].OWNN: owner number (R95) (R110) -/
def CD_ENT_OWNN : Reg := { id := 66, off := 0x2800, lo := 12, w := 4, acc := .ro, s1 := 0x10, n1 := 256 }
/-- CD_ENT[c].UNIT: index within owner (R95) (R110) -/
def CD_ENT_UNIT : Reg := { id := 67, off := 0x2800, lo := 16, w := 6, acc := .ro, s1 := 0x10, n1 := 256 }
/-- CD_ENT[c].FW_PAT: expected patch level (R110) -/
def CD_ENT_FW_PAT : Reg := { id := 68, off := 0x2804, lo := 0, w := 8, acc := .ro, s1 := 0x10, n1 := 256 }
/-- CD_ENT[c].FW_MIN: expected minor version (R110) -/
def CD_ENT_FW_MIN : Reg := { id := 69, off := 0x2804, lo := 8, w := 8, acc := .ro, s1 := 0x10, n1 := 256 }
/-- CD_ENT[c].FW_MAJ: expected major version (R110) -/
def CD_ENT_FW_MAJ : Reg := { id := 70, off := 0x2804, lo := 16, w := 8, acc := .ro, s1 := 0x10, n1 := 256 }
/-- CD_ENT[c].VERPOL: version policy (R104) (R110) -/
def CD_ENT_VERPOL : Reg := { id := 71, off := 0x2804, lo := 24, w := 2, acc := .ro, s1 := 0x10, n1 := 256 }
/-- CD_ENT[c].HOLDOVER: holdover, 1–1000 ms (R110) -/
def CD_ENT_HOLDOVER : Reg := { id := 72, off := 0x2808, lo := 0, w := 10, acc := .ro, rst := 0x14, s1 := 0x10, n1 := 256 }
/-- CD_ENT[c].SAFE: 0 OFF; 1 HOLD (R96) (R110) -/
def CD_ENT_SAFE : Reg := { id := 73, off := 0x2808, lo := 10, w := 2, acc := .ro, s1 := 0x10, n1 := 256 }
/-- CD_ENT[c].MIN_SVN: lowest accepted security version (R110) -/
def CD_ENT_MIN_SVN : Reg := { id := 74, off := 0x2808, lo := 16, w := 8, acc := .ro, s1 := 0x10, n1 := 256 }
/-- CD_ENT[c].HEALTH: health code (R106) (R110) -/
def CD_ENT_HEALTH : Reg := { id := 75, off := 0x280C, lo := 0, w := 4, acc := .ro, s1 := 0x10, n1 := 256 }
/-- CD_ENT[c].QREASON: quarantine reason (R108) (R110) -/
def CD_ENT_QREASON : Reg := { id := 76, off := 0x280C, lo := 4, w := 4, acc := .ro, s1 := 0x10, n1 := 256 }
/-- CD_ENT[c].COND.NOREP: condition NOREP (R105) (R110) -/
def CD_ENT_COND_NOREP : Reg := { id := 77, off := 0x280C, lo := 8, w := 1, acc := .ro, s1 := 0x10, n1 := 256 }
/-- CD_ENT[c].COND.SAFE: condition SAFE (R110) -/
def CD_ENT_COND_SAFE : Reg := { id := 78, off := 0x280C, lo := 9, w := 1, acc := .ro, s1 := 0x10, n1 := 256 }
/-- CD_ENT[c].COND.DEGR: condition DEGR (R110) -/
def CD_ENT_COND_DEGR : Reg := { id := 79, off := 0x280C, lo := 10, w := 1, acc := .ro, s1 := 0x10, n1 := 256 }
/-- CD_ENT[c].COND.UPD: condition UPD (R110) -/
def CD_ENT_COND_UPD : Reg := { id := 80, off := 0x280C, lo := 11, w := 1, acc := .ro, s1 := 0x10, n1 := 256 }
/-- CD_ENT[c].LPROT: a report with LPROT has been latched since the last read (R110) -/
def CD_ENT_LPROT : Reg := { id := 81, off := 0x280C, lo := 12, w := 1, acc := .rc, s1 := 0x10, n1 := 256 }
/-- CD_ENT[c].PEND: 1 while an accepted commit waits for the boundary at which it applies, for every entry, whether or not its values change (R431) (R110) -/
def CD_ENT_PEND : Reg := { id := 82, off := 0x280C, lo := 13, w := 1, acc := .ro, s1 := 0x10, n1 := 256 }
/-- CD_ENT[c].REIDENT: 1 requests re-identification (R109) (R110) -/
def CD_ENT_REIDENT : Reg := { id := 83, off := 0x280C, lo := 14, w := 1, acc := .wo, app := .now, s1 := 0x10, n1 := 256 }
/-- CD_ENT[c].QCOUNT: quarantine entries, saturating at 255 (R110) -/
def CD_ENT_QCOUNT : Reg := { id := 84, off := 0x280C, lo := 16, w := 8, acc := .ro, s1 := 0x10, n1 := 256 }
/-- CD_ENT[c].SEEN_TYPE: STYPE of the last valid identity block; 0 if none (R110) -/
def CD_ENT_SEEN_TYPE : Reg := { id := 85, off := 0x280C, lo := 24, w := 4, acc := .ro, s1 := 0x10, n1 := 256 }
/-- LE_CTRL.GUARD: reserved cycles per tick, 0–80 (R137); values above 80 act as 80 (R139) -/
def LE_CTRL_GUARD : Reg := { id := 86, off := 0x3800, lo := 0, w := 7, acc := .rw, app := .tick }
/-- LE_CTRL.STAGE_HOLD: 1 holds staged LE_ writes; 0 releases them (R139) -/
def LE_CTRL_STAGE_HOLD : Reg := { id := 87, off := 0x3800, lo := 8, w := 1, acc := .rw, app := .now }
/-- LE_STATUS.PEND: 1 while a staged LE_ write waits (R139) -/
def LE_STATUS_PEND : Reg := { id := 88, off := 0x3804, lo := 0, w := 1, acc := .ro }
/-- LE_STATUS.HELD: 1 while STAGE_HOLD holds staged writes (R139) -/
def LE_STATUS_HELD : Reg := { id := 89, off := 0x3804, lo := 1, w := 1, acc := .ro }
/-- LE_LOAD.MAX: worst admitted load of the active schedule, cycles (R139) -/
def LE_LOAD_MAX : Reg := { id := 90, off := 0x3808, lo := 0, w := 10, acc := .ro }
/-- LE_LOAD.POS: first schedule position with that load (R139) -/
def LE_LOAD_POS : Reg := { id := 91, off := 0x3808, lo := 16, w := 10, acc := .ro }
/-- LE_RUN.LAST: LCLK cycles actually used in phase D of the last tick, at most the sum of the admitted costs of the slots evaluated (R119) (R139) -/
def LE_RUN_LAST : Reg := { id := 92, off := 0x380C, lo := 0, w := 10, acc := .ro }
/-- LE_RUN.PEAK: highest LAST since reset or CLRPEAK (R139) -/
def LE_RUN_PEAK : Reg := { id := 93, off := 0x380C, lo := 16, w := 10, acc := .ro }
/-- LE_EVT.OVERRUN: a tick overran (R138) (R139) -/
def LE_EVT_OVERRUN : Reg := { id := 94, off := 0x3810, lo := 0, w := 1, acc := .rc }
/-- LE_EVT.FE: a slot entered its fault action (R133) (R139) -/
def LE_EVT_FE : Reg := { id := 95, off := 0x3810, lo := 1, w := 1, acc := .rc }
/-- LE_EVT.SCARF: a scarf transfer took place (R139) -/
def LE_EVT_SCARF : Reg := { id := 96, off := 0x3810, lo := 2, w := 1, acc := .rc }
/-- LE_EVT.SCARF_CLAMP: a transfer's preset was clamped (R129) (R139) -/
def LE_EVT_SCARF_CLAMP : Reg := { id := 97, off := 0x3810, lo := 3, w := 1, acc := .rc }
/-- LE_EVT.GUARD_REF: a GUARD value was refused (R137) (R139) -/
def LE_EVT_GUARD_REF : Reg := { id := 98, off := 0x3810, lo := 4, w := 1, acc := .rc }
/-- LE_OVRCNT: overrun ticks, saturating (R139) -/
def LE_OVRCNT : Reg := { id := 99, off := 0x3814, lo := 0, w := 32, acc := .ro }
/-- LE_CMD.SLOT: slot named by FECLR (R139) -/
def LE_CMD_SLOT : Reg := { id := 100, off := 0x3818, lo := 0, w := 8, acc := .wo, app := .now }
/-- LE_CMD.FECLR: 1 clears the named slot's fault action (R134) (R139) -/
def LE_CMD_FECLR : Reg := { id := 101, off := 0x3818, lo := 8, w := 1, acc := .wo, app := .now }
/-- LE_CMD.CLRPEAK: 1 clears LE_RUN.PEAK (R139) -/
def LE_CMD_CLRPEAK : Reg := { id := 102, off := 0x3818, lo := 9, w := 1, acc := .wo, app := .now }
/-- LE_REJ.LOAD: worst load found by the last failed budget check (R139) -/
def LE_REJ_LOAD : Reg := { id := 103, off := 0x381C, lo := 0, w := 10, acc := .ro }
/-- LE_REJ.POS: its schedule position (R139) -/
def LE_REJ_POS : Reg := { id := 104, off := 0x381C, lo := 16, w := 10, acc := .ro }
/-- LE_FEFLAG[j]: j = 0–7; bit b is 1 while slot 32j + b is in its fault action (R139) -/
def LE_FEFLAG : Reg := { id := 105, off := 0x3820, lo := 0, w := 32, acc := .ro, s2 := 4, n2 := 8 }
/-- LE_SATFLAG[j]: j = 0–7; bit b: a clamp changed the output of slot 32j + b since the last read, in any mode (R118) (R139) -/
def LE_SATFLAG : Reg := { id := 106, off := 0x3840, lo := 0, w := 32, acc := .rc, s2 := 4, n2 := 8 }
/-- LE_STSEL.SLOT: slot whose state is read (R139) -/
def LE_STSEL_SLOT : Reg := { id := 107, off := 0x3860, lo := 0, w := 8, acc := .rw, per := .acc, app := .now }
/-- LE_STSEL.ACC: accumulator A0–A3 (R139) -/
def LE_STSEL_ACC : Reg := { id := 108, off := 0x3860, lo := 8, w := 2, acc := .rw, per := .acc, app := .now }
/-- LE_STATE_LO: selected accumulator bits [31:0], as at the end of the last phase D; latches [63:32] (R139) -/
def LE_STATE_LO : Reg := { id := 109, off := 0x3864, lo := 0, w := 64, acc := .ll }
/-- LE_STATE_HI: latched accumulator bits [63:32] (R139) -/
def LE_STATE_HI : Reg := { id := 110, off := 0x3868, lo := 0, w := 32, acc := .lh, per := .acc }
/-- LE_SCARF[i].SLOT: i = 0–15; slot assigned by the commit from the SCARF bits (R127); not written by an image (R139) -/
def LE_SCARF_SLOT : Reg := { id := 111, off := 0x3880, lo := 0, w := 8, acc := .ro, s2 := 8, n2 := 16 }
/-- LE_SCARF[i].VALID: entry assigned by the commit (R127); not written by an image (R139) -/
def LE_SCARF_VALID : Reg := { id := 112, off := 0x3880, lo := 8, w := 1, acc := .ro, s2 := 8, n2 := 16 }
/-- LE_SCARF[i].MODE: requested mode: 0 AUTO; 1 MAN; set by register writes and by LOOP_MODE alike (R131) (R139) -/
def LE_SCARF_MODE : Reg := { id := 113, off := 0x3880, lo := 9, w := 1, acc := .rw, app := .tick, s2 := 8, n2 := 16 }
/-- LE_SCARF[i].ACT: mode in force (R139) -/
def LE_SCARF_ACT : Reg := { id := 114, off := 0x3880, lo := 10, w := 1, acc := .ro, s2 := 8, n2 := 16 }
/-- LE_SCARF[i].FORCED: a function request holds the mode (R131) (R139) -/
def LE_SCARF_FORCED : Reg := { id := 115, off := 0x3880, lo := 11, w := 1, acc := .ro, s2 := 8, n2 := 16 }
/-- LE_SCARF[i].MAN_OUT: manual output, Q16.16 (R128, R130) (R139) -/
def LE_SCARF_MAN_OUT : Reg := { id := 116, off := 0x3884, lo := 0, w := 32, acc := .rw, app := .tick, s2 := 8, n2 := 16 }
/-- LE_OUT[s]: s = 0–255; output of slot s, Q16.16 (R139) -/
def LE_OUT : Reg := { id := 117, off := 0x3C00, lo := 0, w := 32, acc := .ro, s2 := 4, n2 := 256 }
/-- LS[s].TYPE: slot type (R119) (R140) -/
def LS_TYPE : Reg := { id := 118, off := 0x4000, lo := 0, w := 3, acc := .ro, s1 := 0x40, n1 := 256 }
/-- LS[s].EN: slot enabled (R140) -/
def LS_EN : Reg := { id := 119, off := 0x4000, lo := 3, w := 1, acc := .ro, s1 := 0x40, n1 := 256 }
/-- LS[s].RATE: rate exponent k, 0–10 (R140) -/
def LS_RATE : Reg := { id := 120, off := 0x4000, lo := 4, w := 4, acc := .ro, s1 := 0x40, n1 := 256 }
/-- LS[s].OFS: schedule offset, < 2^RATE (R140) -/
def LS_OFS : Reg := { id := 121, off := 0x4000, lo := 8, w := 10, acc := .ro, s1 := 0x40, n1 := 256 }
/-- LS[s].PARENT: parent slot number (R140) -/
def LS_PARENT : Reg := { id := 122, off := 0x4000, lo := 18, w := 8, acc := .ro, s1 := 0x40, n1 := 256 }
/-- LS[s].PAR_EN: set-point from parent (R124) (R140) -/
def LS_PAR_EN : Reg := { id := 123, off := 0x4000, lo := 26, w := 1, acc := .ro, s1 := 0x40, n1 := 256 }
/-- LS[s].SCARF: scarf-capable (R127) (R140) -/
def LS_SCARF : Reg := { id := 124, off := 0x4000, lo := 27, w := 1, acc := .ro, s1 := 0x40, n1 := 256 }
/-- LS[s].OPT: type option (R119) (R140) -/
def LS_OPT : Reg := { id := 125, off := 0x4000, lo := 28, w := 1, acc := .ro, s1 := 0x40, n1 := 256 }
/-- LS[s].FAULT: slot in its fault action (R140) -/
def LS_FAULT : Reg := { id := 126, off := 0x4000, lo := 29, w := 1, acc := .ro, s1 := 0x40, n1 := 256 }
/-- LS[s].PEND: a staged write to this slot waits (R140) -/
def LS_PEND : Reg := { id := 127, off := 0x4000, lo := 30, w := 1, acc := .ro, s1 := 0x40, n1 := 256 }
/-- LS[s].INSEL: input selector (R115) (R140) -/
def LS_INSEL : Reg := { id := 128, off := 0x4004, lo := 0, w := 16, acc := .ro, s1 := 0x40, n1 := 256 }
/-- LS[s].OUTSEL: output target (R115) (R140) -/
def LS_OUTSEL : Reg := { id := 129, off := 0x4004, lo := 16, w := 16, acc := .ro, s1 := 0x40, n1 := 256 }
/-- LS[s].SETPT: set-point, Q16.16 (R126) (R140) -/
def LS_SETPT : Reg := { id := 130, off := 0x4008, lo := 0, w := 32, acc := .rw, app := .tick, s1 := 0x40, n1 := 256 }
/-- LS[s].C[i]: i = 0–7; coefficient, signed (R116) (R140) -/
def LS_C : Reg := { id := 131, off := 0x400C, lo := 0, w := 32, acc := .rw, app := .tick, s1 := 0x40, n1 := 256, s2 := 4, n2 := 8 }
/-- LS[s].SH[0]: shift of C0, −16 – +15 (R140) -/
def LS_SH_0 : Reg := { id := 132, off := 0x402C, lo := 0, w := 5, acc := .rw, app := .tick, s1 := 0x40, n1 := 256 }
/-- LS[s].SH[1]: shift of C1 (R140) -/
def LS_SH_1 : Reg := { id := 133, off := 0x402C, lo := 8, w := 5, acc := .rw, app := .tick, s1 := 0x40, n1 := 256 }
/-- LS[s].SH[2]: shift of C2 (R140) -/
def LS_SH_2 : Reg := { id := 134, off := 0x402C, lo := 16, w := 5, acc := .rw, app := .tick, s1 := 0x40, n1 := 256 }
/-- LS[s].SH[3]: shift of C3 (R140) -/
def LS_SH_3 : Reg := { id := 135, off := 0x402C, lo := 24, w := 5, acc := .rw, app := .tick, s1 := 0x40, n1 := 256 }
/-- LS[s].SH[4]: shift of C4 (R140) -/
def LS_SH_4 : Reg := { id := 136, off := 0x4030, lo := 0, w := 5, acc := .rw, app := .tick, s1 := 0x40, n1 := 256 }
/-- LS[s].SH[5]: shift of C5 (R140) -/
def LS_SH_5 : Reg := { id := 137, off := 0x4030, lo := 8, w := 5, acc := .rw, app := .tick, s1 := 0x40, n1 := 256 }
/-- LS[s].SH[6]: shift of C6 (R140) -/
def LS_SH_6 : Reg := { id := 138, off := 0x4030, lo := 16, w := 5, acc := .rw, app := .tick, s1 := 0x40, n1 := 256 }
/-- LS[s].SH[7]: shift of C7 (R140) -/
def LS_SH_7 : Reg := { id := 139, off := 0x4030, lo := 24, w := 5, acc := .rw, app := .tick, s1 := 0x40, n1 := 256 }
/-- LS[s].OUT_MAX: upper output limit, Q16.16 (R140) -/
def LS_OUT_MAX : Reg := { id := 140, off := 0x4034, lo := 0, w := 32, acc := .rw, app := .tick, s1 := 0x40, n1 := 256 }
/-- LS[s].OUT_MIN: lower output limit, Q16.16 (R140) -/
def LS_OUT_MIN : Reg := { id := 141, off := 0x4038, lo := 0, w := 32, acc := .rw, app := .tick, s1 := 0x40, n1 := 256 }
/-- LS[s].FE_LIM: following-error limit mantissa (R132) (R140) -/
def LS_FE_LIM : Reg := { id := 142, off := 0x403C, lo := 0, w := 16, acc := .rw, app := .tick, s1 := 0x40, n1 := 256 }
/-- LS[s].FE_SC: limit scale: 2^(4 × FE_SC − 12) (R140) -/
def LS_FE_SC : Reg := { id := 143, off := 0x403C, lo := 16, w := 2, acc := .rw, app := .tick, s1 := 0x40, n1 := 256 }
/-- LS[s].FE_TIME: ticks above limit before the action, 1–1023; 0 acts as 1 (R140) -/
def LS_FE_TIME : Reg := { id := 144, off := 0x403C, lo := 18, w := 10, acc := .rw, app := .tick, s1 := 0x40, n1 := 256 }
/-- LS[s].FE_ACT: fault action (R133) (R140) -/
def LS_FE_ACT : Reg := { id := 145, off := 0x403C, lo := 28, w := 2, acc := .ro, s1 := 0x40, n1 := 256 }
/-- LS[s].FE_EN: supervision enabled (R140) -/
def LS_FE_EN : Reg := { id := 146, off := 0x403C, lo := 30, w := 1, acc := .ro, s1 := 0x40, n1 := 256 }
/-- VR_CFG.LEADPOS: lead position 0–31 (R141) (R168) -/
def VR_CFG_LEADPOS : Reg := { id := 147, off := 0x8000, lo := 0, w := 5, acc := .ro, s1 := 0x80, n1 := 16 }
/-- VR_CFG.RING: ring 0–7 (R168) -/
def VR_CFG_RING : Reg := { id := 148, off := 0x8000, lo := 5, w := 3, acc := .ro, s1 := 0x80, n1 := 16 }
/-- VR_CFG.NPH: N, 1–32; 0: rail not configured (R168) -/
def VR_CFG_NPH : Reg := { id := 149, off := 0x8000, lo := 8, w := 6, acc := .ro, s1 := 0x80, n1 := 16 }
/-- VR_CFG.MINPH: minimum active phases, 1–N (R168) -/
def VR_CFG_MINPH : Reg := { id := 150, off := 0x8000, lo := 14, w := 6, acc := .ro, s1 := 0x80, n1 := 16 }
/-- VR_CFG.DIV: remote-sense divider 2^DIV (R168) -/
def VR_CFG_DIV : Reg := { id := 151, off := 0x8000, lo := 20, w := 2, acc := .ro, s1 := 0x80, n1 := 16 }
/-- VR_CFG.THRSEL: throttle output 0–3 for R164 (R168) -/
def VR_CFG_THRSEL : Reg := { id := 152, off := 0x8000, lo := 22, w := 2, acc := .ro, s1 := 0x80, n1 := 16 }
/-- VR_CFG.THR_EN: 1: R164 requests throttling (R168) -/
def VR_CFG_THR_EN : Reg := { id := 153, off := 0x8000, lo := 24, w := 1, acc := .ro, s1 := 0x80, n1 := 16 }
/-- VR_FSW.FSW: per-phase frequency, 250–1500 kHz (R168) -/
def VR_FSW_FSW : Reg := { id := 154, off := 0x8004, lo := 0, w := 11, acc := .ro, s1 := 0x80, n1 := 16 }
/-- VR_FSW.TTRIP: T_TRIP_MIN, 0.125 ns, computed by the commit from NPH and FSW (R142); not written by an image (R168) -/
def VR_FSW_TTRIP : Reg := { id := 155, off := 0x8004, lo := 16, w := 16, acc := .ro, s1 := 0x80, n1 := 16 }
/-- VR_VIN.VINSEL: V_IN source, R115 input coding (R155) (R168) -/
def VR_VIN_VINSEL : Reg := { id := 156, off := 0x8008, lo := 0, w := 16, acc := .ro, s1 := 0x80, n1 := 16 }
/-- VR_VSET: output target, Q16.16 V (R154) (R168) -/
def VR_VSET : Reg := { id := 157, off := 0x800C, lo := 0, w := 32, acc := .rw, app := .tick, s1 := 0x80, n1 := 16 }
/-- VR_LL: load line, 0–2000 µΩ; larger values act as 2000 (R168) -/
def VR_LL : Reg := { id := 158, off := 0x8010, lo := 0, w := 11, acc := .rw, app := .tick, s1 := 0x80, n1 := 16 }
/-- VR_RIP.AMP: ripple injection amplitude, 0.01 mV (R168) -/
def VR_RIP_AMP : Reg := { id := 159, off := 0x8014, lo := 0, w := 16, acc := .rw, app := .tick, s1 := 0x80, n1 := 16 }
/-- VR_RIP.TAU: ripple time constant, 1–65,535 ns; 0 acts as 1 (R168) -/
def VR_RIP_TAU : Reg := { id := 160, off := 0x8014, lo := 16, w := 16, acc := .rw, app := .tick, s1 := 0x80, n1 := 16 }
/-- VR_LIM.ILIM: phase cycle current limit, 2 mA (R168) -/
def VR_LIM_ILIM : Reg := { id := 161, off := 0x8018, lo := 0, w := 16, acc := .rw, app := .tick, s1 := 0x80, n1 := 16 }
/-- VR_LIM.VBLANK: blank threshold above reference, 0.1 mV (R168) -/
def VR_LIM_VBLANK : Reg := { id := 162, off := 0x8018, lo := 16, w := 16, acc := .rw, app := .tick, s1 := 0x80, n1 := 16 }
/-- VR_SHED.HYST: shed hysteresis, 0.25 A (R168) -/
def VR_SHED_HYST : Reg := { id := 163, off := 0x801C, lo := 0, w := 8, acc := .rw, app := .tick, s1 := 0x80, n1 := 16 }
/-- VR_SHED.SHED_EN: 1 enables R159 (R168) -/
def VR_SHED_SHED_EN : Reg := { id := 164, off := 0x801C, lo := 8, w := 1, acc := .rw, app := .tick, s1 := 0x80, n1 := 16 }
/-- VR_SHED.DWELL: dwell, 200–65,535 ticks; values below 200 act as 200 (R168) -/
def VR_SHED_DWELL : Reg := { id := 165, off := 0x801C, lo := 16, w := 16, acc := .rw, rst := 0xC8, app := .tick, s1 := 0x80, n1 := 16 }
/-- VR_ADD[j]: j = 0–7; byte b holds ADD[4j + b + 1], 0.25 A (R168) -/
def VR_ADD : Reg := { id := 166, off := 0x8020, lo := 0, w := 32, acc := .rw, app := .tick, s1 := 0x80, n1 := 16, s2 := 4, n2 := 8 }
/-- VR_SNS.TOL: sense plausibility tolerance, 1–100%; 0 acts as 1 (R168) -/
def VR_SNS_TOL : Reg := { id := 167, off := 0x8040, lo := 0, w := 8, acc := .rw, rst := 0xA, app := .tick, s1 := 0x80, n1 := 16 }
/-- VR_SNS.DERATE: current-limit reduction, 1/256 (R165) (R168) -/
def VR_SNS_DERATE : Reg := { id := 168, off := 0x8040, lo := 8, w := 8, acc := .rw, rst := 0x20, app := .tick, s1 := 0x80, n1 := 16 }
/-- VR_SNS.DIMIN: minimum current rise per fire, 2 mA; reset 2.000 A (R168) -/
def VR_SNS_DIMIN : Reg := { id := 169, off := 0x8040, lo := 16, w := 16, acc := .rw, rst := 0x3E8, app := .tick, s1 := 0x80, n1 := 16 }
/-- VR_STATUS.STATE: 0 OFF; 1 PREP; 2 RAMP; 3 ON; 4 RAMPDN (R168) -/
def VR_STATUS_STATE : Reg := { id := 170, off := 0x8044, lo := 0, w := 3, acc := .ro, s1 := 0x80, n1 := 16 }
/-- VR_STATUS.PEND: 1 while a staged VR_ write waits (R168) -/
def VR_STATUS_PEND : Reg := { id := 171, off := 0x8044, lo := 3, w := 1, acc := .ro, s1 := 0x80, n1 := 16 }
/-- VR_STATUS.NACT: active phases m (R168) -/
def VR_STATUS_NACT : Reg := { id := 172, off := 0x8044, lo := 4, w := 6, acc := .ro, s1 := 0x80, n1 := 16 }
/-- VR_STATUS.NUSE: usable phases (R168) -/
def VR_STATUS_NUSE : Reg := { id := 173, off := 0x8044, lo := 10, w := 6, acc := .ro, s1 := 0x80, n1 := 16 }
/-- VR_STATUS.THR: capacity request active (R164) (R168) -/
def VR_STATUS_THR : Reg := { id := 174, off := 0x8044, lo := 16, w := 1, acc := .ro, s1 := 0x80, n1 := 16 }
/-- VR_STATUS.IDPAUSE: identification held off (R162) (R168) -/
def VR_STATUS_IDPAUSE : Reg := { id := 175, off := 0x8044, lo := 17, w := 1, acc := .ro, s1 := 0x80, n1 := 16 }
/-- VR_STATUS.DERATED: ILIM_eff reduced (R165) (R168) -/
def VR_STATUS_DERATED : Reg := { id := 176, off := 0x8044, lo := 18, w := 1, acc := .ro, s1 := 0x80, n1 := 16 }
/-- VR_STATUS.FLT: the last stop was a fault; clears at the next enable (R168) -/
def VR_STATUS_FLT : Reg := { id := 177, off := 0x8044, lo := 19, w := 1, acc := .ro, s1 := 0x80, n1 := 16 }
/-- VR_STATUS.DWELL: dwell running (R168) -/
def VR_STATUS_DWELL : Reg := { id := 178, off := 0x8044, lo := 20, w := 1, acc := .ro, s1 := 0x80, n1 := 16 }
/-- VR_ACTMASK: active set, bit h per hop count (R168) -/
def VR_ACTMASK : Reg := { id := 179, off := 0x8048, lo := 0, w := 32, acc := .ro, s1 := 0x80, n1 := 16 }
/-- VR_USEMASK: usable set, bit h per hop count (R168) -/
def VR_USEMASK : Reg := { id := 180, off := 0x804C, lo := 0, w := 32, acc := .ro, s1 := 0x80, n1 := 16 }
/-- VR_VREF.CODE: VREF code last sent (R154) (R168) -/
def VR_VREF_CODE : Reg := { id := 181, off := 0x8050, lo := 0, w := 16, acc := .ro, s1 := 0x80, n1 := 16 }
/-- VR_VREF.TON: TON code last sent (R155) (R168) -/
def VR_VREF_TON : Reg := { id := 182, off := 0x8050, lo := 16, w := 16, acc := .ro, s1 := 0x80, n1 := 16 }
/-- VR_THOP.THOP: T_HOP, 1/256 ns (R151) (R168) -/
def VR_THOP_THOP : Reg := { id := 183, off := 0x8054, lo := 0, w := 16, acc := .ro, s1 := 0x80, n1 := 16 }
/-- VR_THOP.MAXSTEP: largest step of the rotation in force, hops (R168) -/
def VR_THOP_MAXSTEP : Reg := { id := 184, off := 0x8054, lo := 16, w := 5, acc := .ro, s1 := 0x80, n1 := 16 }
/-- VR_EVT.OPEN: a phase failed open (R163) (R168) -/
def VR_EVT_OPEN : Reg := { id := 185, off := 0x8058, lo := 0, w := 1, acc := .rc, s1 := 0x80, n1 := 16 }
/-- VR_EVT.SENSE: a phase sense failed (R165) (R168) -/
def VR_EVT_SENSE : Reg := { id := 186, off := 0x8058, lo := 1, w := 1, acc := .rc, s1 := 0x80, n1 := 16 }
/-- VR_EVT.DERATE: the limit was reduced (R165) (R168) -/
def VR_EVT_DERATE : Reg := { id := 187, off := 0x8058, lo := 2, w := 1, acc := .rc, s1 := 0x80, n1 := 16 }
/-- VR_EVT.CAPACITY: a capacity request began (R164) (R168) -/
def VR_EVT_CAPACITY : Reg := { id := 188, off := 0x8058, lo := 3, w := 1, acc := .rc, s1 := 0x80, n1 := 16 }
/-- VR_EVT.ROTFIX: phases added to keep the 16-hop limit (R150) (R168) -/
def VR_EVT_ROTFIX : Reg := { id := 189, off := 0x8058, lo := 4, w := 1, acc := .rc, s1 := 0x80, n1 := 16 }
/-- VR_EVT.FAULT: a rail fault stopped the rail (R157) (R168) -/
def VR_EVT_FAULT : Reg := { id := 190, off := 0x8058, lo := 5, w := 1, acc := .rc, s1 := 0x80, n1 := 16 }
/-- VR_TRSEL.HOP: hop count of the phase shown at 0x60 (R168) -/
def VR_TRSEL_HOP : Reg := { id := 191, off := 0x805C, lo := 0, w := 5, acc := .rw, per := .acc, app := .now, s1 := 0x80, n1 := 16 }
/-- VR_TRIM.TRIM: trim of the selected phase, signed, −128 to +128 (R168) -/
def VR_TRIM_TRIM : Reg := { id := 192, off := 0x8060, lo := 0, w := 9, acc := .ro, s1 := 0x80, n1 := 16 }
/-- VR_TRIM.FROZEN: trim frozen (R165) (R168) -/
def VR_TRIM_FROZEN : Reg := { id := 193, off := 0x8060, lo := 9, w := 1, acc := .ro, s1 := 0x80, n1 := 16 }
/-- VR_TRIM.ACTIVE: phase active (R168) -/
def VR_TRIM_ACTIVE : Reg := { id := 194, off := 0x8060, lo := 10, w := 1, acc := .ro, s1 := 0x80, n1 := 16 }
/-- VR_TRIM.USABLE: phase usable (R148) (R168) -/
def VR_TRIM_USABLE : Reg := { id := 195, off := 0x8060, lo := 11, w := 1, acc := .ro, s1 := 0x80, n1 := 16 }
/-- VR_CNT.SHEDS: sheds, saturating at 65,535 (R168) -/
def VR_CNT_SHEDS : Reg := { id := 196, off := 0x8064, lo := 0, w := 16, acc := .ro, s1 := 0x80, n1 := 16 }
/-- VR_CNT.ADDS: adds of every kind, saturating at 65,535 (R168) -/
def VR_CNT_ADDS : Reg := { id := 197, off := 0x8064, lo := 16, w := 16, acc := .ro, s1 := 0x80, n1 := 16 }
/-- VR_FCNT.OPEN: phases failed open since the last commit, saturating (R168) -/
def VR_FCNT_OPEN : Reg := { id := 198, off := 0x8068, lo := 0, w := 8, acc := .ro, s1 := 0x80, n1 := 16 }
/-- VR_FCNT.SENSE: phases with failed sense, now (R168) -/
def VR_FCNT_SENSE : Reg := { id := 199, off := 0x8068, lo := 8, w := 8, acc := .ro, s1 := 0x80, n1 := 16 }

/-- Part of the list of every field. -/
def list0_0 : List Reg := [TB_CTRL_SYNC_MODE, TB_CTRL_SYNCOUT_EN, TB_CTRL_SYNCOUT_MODE, TB_STATUS_LOCK, TB_STATUS_PEND, TB_STATUS_CONT_EST, TB_STATUS_POR_GAP, TB_STATUS_CK_INVALID, TB_TICK, TB_FRAME_NUM, TB_FRAME_POS, TB_PM_LO, TB_PM_HI, TB_SYNC_PERIOD, TB_SYNC_WIN, TB_SYNC_GAIN_KP, TB_SYNC_GAIN_KI, TB_SYNC_GAIN_MISS_LIM, TB_SYNC_GAIN_LOCK_N, TB_SYNC_LOCKTHR]
/-- Part of the list of every field. -/
def list0_1 : List Reg := [TB_SYNC_STEPLIM, TB_SYNC_ERR, TB_RATE, TB_FREQ, TB_SYNC_CAP_LO, TB_SYNC_CAP_HI, TB_EVT_OUTLIER, TB_EVT_MISS, TB_EVT_HOLDOVER, TB_EVT_STEP, TB_SYNCOUT_CFG_SHIFT, TB_SYNCOUT_CFG_WIDTH, TB_SYNCOUT_OFS, TB_CK_LO, TB_CK_HI, RG_CTRL_EN, RG_CMD_RESET, RG_CMD_CLRCNT, RG_STATUS_STATE, RG_STATUS_PEND]
/-- Part of the list of every field. -/
def list0_2 : List Reg := [RG_STATUS_NSTAGES, RG_STATUS_BREAK_POS, RG_STATUS_BREAK_VALID, RG_STATUS_BREAK_CTRL, RG_LAT_L, RG_LAT_D_LOOP, RG_CFG_MISS_LIM, RG_CFG_BULK_RETRY, RG_CRCERR, RG_HDRERR, RG_LATECNT, RG_STRAY, RG_BULKRTX, RG_EVT_BREAK, RG_EVT_TRAIN_FAIL, RG_EVT_OVERCOUNT, RG_EVT_LATENCY, RG_EVT_LATE, RG_EVT_STRAY, RG_EVT_BULKFAIL]
/-- Part of the list of every field. -/
def list0_3 : List Reg := [RG_TRAINTIME, RG_HOPDLY_FWD, RG_HOPDLY_REV, CD_ENT_EXP_TYPE, CD_ENT_ROLE, CD_ENT_OWNK, CD_ENT_OWNN, CD_ENT_UNIT, CD_ENT_FW_PAT, CD_ENT_FW_MIN, CD_ENT_FW_MAJ, CD_ENT_VERPOL, CD_ENT_HOLDOVER, CD_ENT_SAFE, CD_ENT_MIN_SVN, CD_ENT_HEALTH, CD_ENT_QREASON, CD_ENT_COND_NOREP, CD_ENT_COND_SAFE, CD_ENT_COND_DEGR]
/-- Part of the list of every field. -/
def list0_4 : List Reg := [CD_ENT_COND_UPD, CD_ENT_LPROT, CD_ENT_PEND, CD_ENT_REIDENT, CD_ENT_QCOUNT, CD_ENT_SEEN_TYPE, LE_CTRL_GUARD, LE_CTRL_STAGE_HOLD, LE_STATUS_PEND, LE_STATUS_HELD, LE_LOAD_MAX, LE_LOAD_POS, LE_RUN_LAST, LE_RUN_PEAK, LE_EVT_OVERRUN, LE_EVT_FE, LE_EVT_SCARF, LE_EVT_SCARF_CLAMP, LE_EVT_GUARD_REF, LE_OVRCNT]
/-- Part of the list of every field. -/
def list0_5 : List Reg := [LE_CMD_SLOT, LE_CMD_FECLR, LE_CMD_CLRPEAK, LE_REJ_LOAD, LE_REJ_POS, LE_FEFLAG, LE_SATFLAG, LE_STSEL_SLOT, LE_STSEL_ACC, LE_STATE_LO, LE_STATE_HI, LE_SCARF_SLOT, LE_SCARF_VALID, LE_SCARF_MODE, LE_SCARF_ACT, LE_SCARF_FORCED, LE_SCARF_MAN_OUT, LE_OUT, LS_TYPE, LS_EN]
/-- Part of the list of every field. -/
def list0_6 : List Reg := [LS_RATE, LS_OFS, LS_PARENT, LS_PAR_EN, LS_SCARF, LS_OPT, LS_FAULT, LS_PEND, LS_INSEL, LS_OUTSEL, LS_SETPT, LS_C, LS_SH_0, LS_SH_1, LS_SH_2, LS_SH_3, LS_SH_4, LS_SH_5, LS_SH_6, LS_SH_7]
/-- Part of the list of every field. -/
def list0_7 : List Reg := [LS_OUT_MAX, LS_OUT_MIN, LS_FE_LIM, LS_FE_SC, LS_FE_TIME, LS_FE_ACT, LS_FE_EN, VR_CFG_LEADPOS, VR_CFG_RING, VR_CFG_NPH, VR_CFG_MINPH, VR_CFG_DIV, VR_CFG_THRSEL, VR_CFG_THR_EN, VR_FSW_FSW, VR_FSW_TTRIP, VR_VIN_VINSEL, VR_VSET, VR_LL, VR_RIP_AMP]
/-- Part of the list of every field. -/
def list0_8 : List Reg := [VR_RIP_TAU, VR_LIM_ILIM, VR_LIM_VBLANK, VR_SHED_HYST, VR_SHED_SHED_EN, VR_SHED_DWELL, VR_ADD, VR_SNS_TOL, VR_SNS_DERATE, VR_SNS_DIMIN, VR_STATUS_STATE, VR_STATUS_PEND, VR_STATUS_NACT, VR_STATUS_NUSE, VR_STATUS_THR, VR_STATUS_IDPAUSE, VR_STATUS_DERATED, VR_STATUS_FLT, VR_STATUS_DWELL, VR_ACTMASK]
/-- Part of the list of every field. -/
def list0_9 : List Reg := [VR_USEMASK, VR_VREF_CODE, VR_VREF_TON, VR_THOP_THOP, VR_THOP_MAXSTEP, VR_EVT_OPEN, VR_EVT_SENSE, VR_EVT_DERATE, VR_EVT_CAPACITY, VR_EVT_ROTFIX, VR_EVT_FAULT, VR_TRSEL_HOP, VR_TRIM_TRIM, VR_TRIM_FROZEN, VR_TRIM_ACTIVE, VR_TRIM_USABLE, VR_CNT_SHEDS, VR_CNT_ADDS, VR_FCNT_OPEN, VR_FCNT_SENSE]
/-- Every field of this file. -/
def all0 : List Reg := list0_0 ++ list0_1 ++ list0_2 ++ list0_3 ++ list0_4 ++ list0_5 ++ list0_6 ++ list0_7 ++ list0_8 ++ list0_9

end Sys2Proof.Machine.R
end

