-- ==== Sys2Proof/Machine/Regs1.lean ====
section
/-! DEFINITION. The register fields of the manual's tables: feeders, shelf, fuses, sequencer and governor. One definition per field, its place, access, reset value and apply boundary as its table row gives them. -/

namespace Sys2Proof.Machine.R

/-- FD_CTRL.DROOP_EN: 1 enables droop (R172) (R186) -/
def FD_CTRL_DROOP_EN : Reg := { id := 200, off := 0x8800, lo := 0, w := 1, acc := .rw, app := .frame }
/-- FD_CTRL.REV_EN: 1 allows feeder commands below 0 A (R175) (R186) -/
def FD_CTRL_REV_EN : Reg := { id := 201, off := 0x8800, lo := 1, w := 1, acc := .rw, app := .frame }
/-- FD_STATUS.STATE: 0 OFF; 1 START; 2 REG (R186) -/
def FD_STATUS_STATE : Reg := { id := 202, off := 0x8804, lo := 0, w := 2, acc := .ro }
/-- FD_STATUS.PEND: 1 while a staged FD_ write waits (R186) -/
def FD_STATUS_PEND : Reg := { id := 203, off := 0x8804, lo := 2, w := 1, acc := .ro }
/-- FD_STATUS.NOFEED: no feeder sharing (R186) -/
def FD_STATUS_NOFEED : Reg := { id := 204, off := 0x8804, lo := 3, w := 1, acc := .ro }
/-- FD_STATUS.BATREG: the battery shelf holds bus regulation (R186) -/
def FD_STATUS_BATREG : Reg := { id := 205, off := 0x8804, lo := 4, w := 1, acc := .ro }
/-- FD_STATUS.CAP: capacity request active (R184) (R186) -/
def FD_STATUS_CAP : Reg := { id := 206, off := 0x8804, lo := 5, w := 1, acc := .ro }
/-- FD_STATUS.VB_HOLD: no bus source; V_bus held (R171) (R186) -/
def FD_STATUS_VB_HOLD : Reg := { id := 207, off := 0x8804, lo := 6, w := 1, acc := .ro }
/-- FD_STATUS.NSHARE: sharing feeders, 0–8 (R186) -/
def FD_STATUS_NSHARE : Reg := { id := 208, off := 0x8804, lo := 7, w := 4, acc := .ro }
/-- FD_VSET.VSET: bus target, 1 mV, 44,000–52,000 (R173) (R186) -/
def FD_VSET_VSET : Reg := { id := 209, off := 0x8808, lo := 0, w := 16, acc := .rw, rst := 0xBB80, app := .frame }
/-- FD_VSET.SLEW: set-point slew, 0.1 mV per tick, 1–65,535; 0 acts as 1 (R186) -/
def FD_VSET_SLEW : Reg := { id := 210, off := 0x8808, lo := 16, w := 16, acc := .rw, rst := 0xA, app := .frame }
/-- FD_DROOP.DROOP: droop, 0.01 mΩ, 0–5000; larger values act as 5000 (R186) -/
def FD_DROOP_DROOP : Reg := { id := 211, off := 0x880C, lo := 0, w := 16, acc := .rw, app := .frame }
/-- FD_WIN_UV.UVW: undervoltage warning, 10 mV; reset 43.00 V (R186) -/
def FD_WIN_UV_UVW : Reg := { id := 212, off := 0x8810, lo := 0, w := 16, acc := .rw, rst := 0x10CC, app := .frame }
/-- FD_WIN_UV.UVF: undervoltage fault, 10 mV; reset 40.00 V (R186) -/
def FD_WIN_UV_UVF : Reg := { id := 213, off := 0x8810, lo := 16, w := 16, acc := .rw, rst := 0xFA0, app := .frame }
/-- FD_WIN_OV.OVW: overvoltage warning, 10 mV; reset 53.00 V (R186) -/
def FD_WIN_OV_OVW : Reg := { id := 214, off := 0x8814, lo := 0, w := 16, acc := .rw, rst := 0x14B4, app := .frame }
/-- FD_WIN_OV.OVF: overvoltage fault, 10 mV; reset 55.00 V (R186) -/
def FD_WIN_OV_OVF : Reg := { id := 215, off := 0x8814, lo := 16, w := 16, acc := .rw, rst := 0x157C, app := .frame }
/-- FD_FILT.WFILT: warning filter, 1–65,535 ticks; 0 acts as 1 (R186) -/
def FD_FILT_WFILT : Reg := { id := 216, off := 0x8818, lo := 0, w := 16, acc := .rw, rst := 0x64, app := .frame }
/-- FD_FILT.FFILT: fault filter, 1–65,535 ticks; 0 acts as 1 (R186) -/
def FD_FILT_FFILT : Reg := { id := 217, off := 0x8818, lo := 16, w := 16, acc := .rw, rst := 0x14, app := .frame }
/-- FD_TIME.READY: WAIT timeout, 1–65,535 ticks; 0 acts as 1 (R186) -/
def FD_TIME_READY : Reg := { id := 218, off := 0x881C, lo := 0, w := 16, acc := .rw, rst := 0x1388, app := .frame }
/-- FD_TIME.RAMPT: weight ramp, 1–65,535 ticks; 0 acts as 1 (R186) -/
def FD_TIME_RAMPT : Reg := { id := 219, off := 0x881C, lo := 16, w := 16, acc := .rw, rst := 0x3E8, app := .frame }
/-- FD_CAPT.SATT: saturation time before capacity request, 1–65,535 ticks; 0 acts as 1 (R186) -/
def FD_CAPT_SATT : Reg := { id := 220, off := 0x8820, lo := 0, w := 16, acc := .rw, rst := 0x64, app := .frame }
/-- FD_CAPT.HVOK: SUPPLY-clear time before HVLOSS return, 1–65,535 ticks; 0 acts as 1 (R186) -/
def FD_CAPT_HVOK : Reg := { id := 221, off := 0x8820, lo := 16, w := 16, acc := .rw, rst := 0x2710, app := .frame }
/-- FD_CMD.FEEDER: feeder index named by the command (R186) -/
def FD_CMD_FEEDER : Reg := { id := 222, off := 0x8824, lo := 0, w := 3, acc := .wo, app := .now }
/-- FD_CMD.REMOVE: 1 removes the feeder with reason HOST (R177) (R186) -/
def FD_CMD_REMOVE : Reg := { id := 223, off := 0x8824, lo := 3, w := 1, acc := .wo, app := .now }
/-- FD_CMD.READMIT: 1 returns a REMOVED feeder to WAIT (R186) -/
def FD_CMD_READMIT : Reg := { id := 224, off := 0x8824, lo := 4, w := 1, acc := .wo, app := .now }
/-- FD_EVT.REMOVE: a feeder was removed (R186) -/
def FD_EVT_REMOVE : Reg := { id := 225, off := 0x8828, lo := 0, w := 1, acc := .rc }
/-- FD_EVT.READMIT: a feeder returned to WAIT (R186) -/
def FD_EVT_READMIT : Reg := { id := 226, off := 0x8828, lo := 1, w := 1, acc := .rc }
/-- FD_EVT.UVW: undervoltage warning (R186) -/
def FD_EVT_UVW : Reg := { id := 227, off := 0x8828, lo := 2, w := 1, acc := .rc }
/-- FD_EVT.UVF: undervoltage fault (R186) -/
def FD_EVT_UVF : Reg := { id := 228, off := 0x8828, lo := 3, w := 1, acc := .rc }
/-- FD_EVT.OVW: overvoltage warning (R186) -/
def FD_EVT_OVW : Reg := { id := 229, off := 0x8828, lo := 4, w := 1, acc := .rc }
/-- FD_EVT.OVF: overvoltage fault (R186) -/
def FD_EVT_OVF : Reg := { id := 230, off := 0x8828, lo := 5, w := 1, acc := .rc }
/-- FD_EVT.CAPACITY: capacity request began (R186) -/
def FD_EVT_CAPACITY : Reg := { id := 231, off := 0x8828, lo := 6, w := 1, acc := .rc }
/-- FD_EVT.REFUSED: a remove request was refused (R186) -/
def FD_EVT_REFUSED : Reg := { id := 232, off := 0x8828, lo := 7, w := 1, acc := .rc }
/-- FD_EVT.NOFEED: no feeder was left sharing (R186) -/
def FD_EVT_NOFEED : Reg := { id := 233, off := 0x8828, lo := 8, w := 1, acc := .rc }
/-- FD_VBUS: V_bus, Q16.16 V (R186) -/
def FD_VBUS : Reg := { id := 234, off := 0x882C, lo := 0, w := 32, acc := .ro }
/-- FD_SETPT: SP_bus, Q16.16 V (R186) -/
def FD_SETPT : Reg := { id := 235, off := 0x8830, lo := 0, w := 32, acc := .ro }
/-- FD_IFED: I_fed, Q16.16 A (R186) -/
def FD_IFED : Reg := { id := 236, off := 0x8834, lo := 0, w := 32, acc := .ro }
/-- FD_ICAP: I_cap, Q16.16 A; 0 when no feeder shares (R186) -/
def FD_ICAP : Reg := { id := 237, off := 0x8838, lo := 0, w := 32, acc := .ro }
/-- FD_FM[i].W: base weight, 1–255; 0 acts as 1 (R186) -/
def FD_FM_W : Reg := { id := 238, off := 0x8880, lo := 0, w := 8, acc := .rw, rst := 0x1, app := .frame, s2 := 16, n2 := 8 }
/-- FD_FM[i].HOTW: weight factor while HOT, 1–255 in 1/256; 0 acts as 1 (R186) -/
def FD_FM_HOTW : Reg := { id := 239, off := 0x8880, lo := 8, w := 8, acc := .rw, rst := 0x80, app := .frame, s2 := 16, n2 := 8 }
/-- FD_FM[i].AGE: ageing factor, UQ1.15, 0x4000–0x8000; values outside act as the nearer limit (R186) -/
def FD_FM_AGE : Reg := { id := 240, off := 0x8880, lo := 16, w := 16, acc := .rw, rst := 0x8000, app := .frame, s2 := 16, n2 := 8 }
/-- FD_FM[i].ILIM: module current limit, 4 mA (R170) (R186) -/
def FD_FM_ILIM : Reg := { id := 241, off := 0x8884, lo := 0, w := 16, acc := .rw, app := .frame, s2 := 16, n2 := 8 }
/-- FD_FM[i].STATE: 0 IDLE; 1 WAIT; 2 RAMP; 3 SHARE; 4 REMOVED (R186) -/
def FD_FM_STATE : Reg := { id := 242, off := 0x8888, lo := 0, w := 3, acc := .ro, s2 := 16, n2 := 8 }
/-- FD_FM[i].REASON: removal reason (R176); 0 none (R186) -/
def FD_FM_REASON : Reg := { id := 243, off := 0x8888, lo := 3, w := 4, acc := .ro, s2 := 16, n2 := 8 }
/-- FD_FM[i].HOT: HOT factor applied (R186) -/
def FD_FM_HOT : Reg := { id := 244, off := 0x8888, lo := 7, w := 1, acc := .ro, s2 := 16, n2 := 8 }
/-- FD_FM[i].OPENLOOP: share forwarded open-loop (R179) (R186) -/
def FD_FM_OPENLOOP : Reg := { id := 245, off := 0x8888, lo := 8, w := 1, acc := .ro, s2 := 16, n2 := 8 }
/-- FD_FM[i].RMP: ramp factor, 0–1024 (R186) -/
def FD_FM_RMP : Reg := { id := 246, off := 0x8888, lo := 16, w := 11, acc := .ro, s2 := 16, n2 := 8 }
/-- FD_FM[i].NREM: removals, saturating at 65,535 (R186) -/
def FD_FM_NREM : Reg := { id := 247, off := 0x888C, lo := 0, w := 16, acc := .ro, s2 := 16, n2 := 8 }
/-- FD_FM[i].NRET: returns to WAIT, saturating at 65,535 (R186) -/
def FD_FM_NRET : Reg := { id := 248, off := 0x888C, lo := 16, w := 16, acc := .ro, s2 := 16, n2 := 8 }
/-- BS_CTRL.HU_EN: 1 arms loss detection (R196) (R207) -/
def BS_CTRL_HU_EN : Reg := { id := 249, off := 0x8C00, lo := 0, w := 1, acc := .rw, app := .frame }
/-- BS_CTRL.CHG_EN: 1 enables charging (R195) (R207) -/
def BS_CTRL_CHG_EN : Reg := { id := 250, off := 0x8C00, lo := 1, w := 1, acc := .rw, app := .frame }
/-- BS_CTRL.EM_EN: 1 acts on EMERG_N (R197) (R207) -/
def BS_CTRL_EM_EN : Reg := { id := 251, off := 0x8C00, lo := 2, w := 1, acc := .rw, app := .frame }
/-- BS_STATUS.STATE: 0 OFF; 1 CONNECT; 2 READY; 3 HOLDUP; 4 HANDBACK (R207) -/
def BS_STATUS_STATE : Reg := { id := 252, off := 0x8C04, lo := 0, w := 3, acc := .ro }
/-- BS_STATUS.PEND: 1 while a staged BS_ write waits (R207) -/
def BS_STATUS_PEND : Reg := { id := 253, off := 0x8C04, lo := 3, w := 1, acc := .ro }
/-- BS_STATUS.TAKEN: takeover complete (R199) (R207) -/
def BS_STATUS_TAKEN : Reg := { id := 254, off := 0x8C04, lo := 4, w := 1, acc := .ro }
/-- BS_STATUS.EMERG: filtered EMERG_N asserted (R207) -/
def BS_STATUS_EMERG : Reg := { id := 255, off := 0x8C04, lo := 5, w := 1, acc := .ro }
/-- BS_STATUS.SHORT: class 0 need exceeds the forecast (R207) -/
def BS_STATUS_SHORT : Reg := { id := 256, off := 0x8C04, lo := 6, w := 1, acc := .ro }
/-- BS_STATUS.STANDBY: the plan in force is a standby plan (R200) (R207) -/
def BS_STATUS_STANDBY : Reg := { id := 257, off := 0x8C04, lo := 7, w := 1, acc := .ro }
/-- BS_STATUS.NSTR: strings CLOSED (R207) -/
def BS_STATUS_NSTR : Reg := { id := 258, off := 0x8C04, lo := 8, w := 4, acc := .ro }
/-- BS_STATUS.NLEG: legs available (R207) -/
def BS_STATUS_NLEG : Reg := { id := 259, off := 0x8C04, lo := 12, w := 4, acc := .ro }
/-- BS_STATUS.SHED: bit k: class k shed (R207) -/
def BS_STATUS_SHED : Reg := { id := 260, off := 0x8C04, lo := 16, w := 8, acc := .ro }
/-- BS_STATUS.KEEP: c of the plan in force (R207) -/
def BS_STATUS_KEEP : Reg := { id := 261, off := 0x8C04, lo := 24, w := 3, acc := .ro }
/-- BS_DETA.SLOWF: slow-path filter, 1–65,535 ticks; 0 acts as 1 (R207) -/
def BS_DETA_SLOWF : Reg := { id := 262, off := 0x8C08, lo := 0, w := 16, acc := .rw, rst := 0x32, app := .frame }
/-- BS_DETA.VLOSS: leg detector level, 1 mV; sent at each leg RUN (R207) -/
def BS_DETA_VLOSS : Reg := { id := 263, off := 0x8C08, lo := 16, w := 16, acc := .rw, rst := 0xA410, app := .frame }
/-- BS_DETB.DVDT: leg detector slope, 0.01 V/ms; sent at each leg RUN (R207) -/
def BS_DETB_DVDT : Reg := { id := 264, off := 0x8C0C, lo := 0, w := 12, acc := .rw, rst := 0xC8, app := .frame }
/-- BS_DETB.DETN: detector samples minus 1 (R207) -/
def BS_DETB_DETN : Reg := { id := 265, off := 0x8C0C, lo := 12, w := 3, acc := .rw, rst := 0x3, app := .frame }
/-- BS_DETB.EMFILT: EMERG_N filter, 1–255 ticks; 0 acts as 1 (R207) -/
def BS_DETB_EMFILT : Reg := { id := 266, off := 0x8C0C, lo := 16, w := 8, acc := .rw, rst := 0x2, app := .frame }
/-- BS_DETB.EMCLS: highest class kept under EMERG (R207) -/
def BS_DETB_EMCLS : Reg := { id := 267, off := 0x8C0C, lo := 24, w := 3, acc := .rw, rst := 0x3, app := .frame }
/-- BS_HB.NFEED: feeders needed for hand-back, 1–8; 0 acts as 1 (R207) -/
def BS_HB_NFEED : Reg := { id := 268, off := 0x8C10, lo := 0, w := 4, acc := .rw, rst := 0x1, app := .frame }
/-- BS_HB.HBT: hand-back count, 1–65,535 ticks; 0 acts as 1 (R207) -/
def BS_HB_HBT : Reg := { id := 269, off := 0x8C10, lo := 16, w := 16, acc := .rw, rst := 0x2710, app := .frame }
/-- BS_SLEW.HSLEW: hand-back leg slew, 1 mA per tick; 0 acts as 1 (R207) -/
def BS_SLEW_HSLEW : Reg := { id := 270, off := 0x8C14, lo := 0, w := 16, acc := .rw, rst := 0x32, app := .frame }
/-- BS_SLEW.CSLEW: charge slew, 1 mA per tick; 0 acts as 1 (R207) -/
def BS_SLEW_CSLEW : Reg := { id := 271, off := 0x8C14, lo := 16, w := 16, acc := .rw, rst := 0xA, app := .frame }
/-- BS_CHG.ICHG: total charge current, 10 mA (R207) -/
def BS_CHG_ICHG : Reg := { id := 272, off := 0x8C18, lo := 0, w := 16, acc := .rw, app := .frame }
/-- BS_CHG.VCHG: charge voltage, 1 mV; reset 54.000 V (R207) -/
def BS_CHG_VCHG : Reg := { id := 273, off := 0x8C18, lo := 16, w := 16, acc := .rw, rst := 0xD2F0, app := .frame }
/-- BS_TAPER.VTAPER: taper band, 1 mV; 0 acts as 1 (R207) -/
def BS_TAPER_VTAPER : Reg := { id := 274, off := 0x8C1C, lo := 0, w := 16, acc := .rw, rst := 0x1F4, app := .frame }
/-- BS_TAPER.VMATCH: string matching window, 1 mV (R193) (R207) -/
def BS_TAPER_VMATCH : Reg := { id := 275, off := 0x8C1C, lo := 16, w := 16, acc := .rw, rst := 0x1F4, app := .frame }
/-- BS_PLAN.ETA: leg efficiency, per mille, 500–1000 (R207) -/
def BS_PLAN_ETA : Reg := { id := 276, off := 0x8C20, lo := 0, w := 10, acc := .rw, rst := 0x3B6, app := .frame }
/-- BS_PLAN.ETAR: rail efficiency, per mille, 500–1000 (R207) -/
def BS_PLAN_ETAR : Reg := { id := 277, off := 0x8C20, lo := 16, w := 10, acc := .rw, rst := 0x384, app := .frame }
/-- BS_RSV.VMIN: string floor, 1 mV; reset 44.000 V (R207) -/
def BS_RSV_VMIN : Reg := { id := 278, off := 0x8C24, lo := 0, w := 16, acc := .rw, rst := 0xABE0, app := .frame }
/-- BS_RSV.ERES: energy reserve, 1 J (R207) -/
def BS_RSV_ERES : Reg := { id := 279, off := 0x8C24, lo := 16, w := 16, acc := .rw, rst := 0x1F4, app := .frame }
/-- BS_TIME.CLOSE: closing timeout, 1–65,535 ticks; 0 acts as 1 (R207) -/
def BS_TIME_CLOSE : Reg := { id := 280, off := 0x8C28, lo := 0, w := 16, acc := .rw, rst := 0x3E8, app := .frame }
/-- BS_CMD.STRING: string named by the command (R207) -/
def BS_CMD_STRING : Reg := { id := 281, off := 0x8C2C, lo := 0, w := 3, acc := .wo, app := .now }
/-- BS_CMD.OPEN: 1 opens the string (R194) (R207) -/
def BS_CMD_OPEN : Reg := { id := 282, off := 0x8C2C, lo := 3, w := 1, acc := .wo, app := .now }
/-- BS_CMD.CLOSE: 1 returns a LOCKOUT string to OPEN (R207) -/
def BS_CMD_CLOSE : Reg := { id := 283, off := 0x8C2C, lo := 4, w := 1, acc := .wo, app := .now }
/-- BS_EVT.LOSS: loss declared (R207) -/
def BS_EVT_LOSS : Reg := { id := 284, off := 0x8C30, lo := 0, w := 1, acc := .rc }
/-- BS_EVT.TAKEN: takeover completed (R207) -/
def BS_EVT_TAKEN : Reg := { id := 285, off := 0x8C30, lo := 1, w := 1, acc := .rc }
/-- BS_EVT.EMERG: EMERG set (R207) -/
def BS_EVT_EMERG : Reg := { id := 286, off := 0x8C30, lo := 2, w := 1, acc := .rc }
/-- BS_EVT.SHED: a plan shed a class (R207) -/
def BS_EVT_SHED : Reg := { id := 287, off := 0x8C30, lo := 3, w := 1, acc := .rc }
/-- BS_EVT.SHORT: SHORT was set (R207) -/
def BS_EVT_SHORT : Reg := { id := 288, off := 0x8C30, lo := 4, w := 1, acc := .rc }
/-- BS_EVT.HANDBACK: hand-back completed (R207) -/
def BS_EVT_HANDBACK : Reg := { id := 289, off := 0x8C30, lo := 5, w := 1, acc := .rc }
/-- BS_EVT.STROPEN: a string opened (R194) (R207) -/
def BS_EVT_STROPEN : Reg := { id := 290, off := 0x8C30, lo := 6, w := 1, acc := .rc }
/-- BS_EVT.LEGLOSS: a leg went OUT (R207) -/
def BS_EVT_LEGLOSS : Reg := { id := 291, off := 0x8C30, lo := 7, w := 1, acc := .rc }
/-- BS_EVT.UNAVAIL: loss declared with no shelf available (R207) -/
def BS_EVT_UNAVAIL : Reg := { id := 292, off := 0x8C30, lo := 8, w := 1, acc := .rc }
/-- BS_EAVAIL: E_avail of the last plan, mJ, signed, saturating to 32 bits (R207) -/
def BS_EAVAIL : Reg := { id := 293, off := 0x8C34, lo := 0, w := 32, acc := .ro }
/-- BS_VBAT: V_bat, Q16.16 V (R207) -/
def BS_VBAT : Reg := { id := 294, off := 0x8C38, lo := 0, w := 32, acc := .ro }
/-- BS_TEL.TEL: t_el of the last plan, ms, saturating (R207) -/
def BS_TEL_TEL : Reg := { id := 295, off := 0x8C3C, lo := 0, w := 16, acc := .ro }
/-- BS_CLASS[k].TGT: k = 0–7; hold-up target, ms (R207) -/
def BS_CLASS_TGT : Reg := { id := 296, off := 0x8C40, lo := 0, w := 16, acc := .rw, app := .frame, s2 := 4, n2 := 8 }
/-- BS_CLASS[k].ENDSHED: 1 sheds the class when TGT is reached (R207) -/
def BS_CLASS_ENDSHED : Reg := { id := 297, off := 0x8C40, lo := 16, w := 1, acc := .rw, app := .frame, s2 := 4, n2 := 8 }
/-- BS_LCLS_F[j]: j = 0–7; bits [4b+3:4b] class of fuse index 8j + b (R207) -/
def BS_LCLS_F : Reg := { id := 298, off := 0x8C60, lo := 0, w := 32, acc := .rw, rst := 0xFFFFFFFF, app := .frame, s2 := 4, n2 := 8 }
/-- BS_LCLS_R[j]: j = 0–1; bits [4b+3:4b] class of RAIL(8j + b) (R207) -/
def BS_LCLS_R : Reg := { id := 299, off := 0x8C80, lo := 0, w := 32, acc := .rw, rst := 0xFFFFFFFF, app := .frame, s2 := 4, n2 := 2 }
/-- BS_OCV[i].V: i = 0–7; point voltage, 1 mV (R207) -/
def BS_OCV_V : Reg := { id := 300, off := 0x8CA0, lo := 0, w := 16, acc := .rw, app := .frame, s2 := 4, n2 := 8 }
/-- BS_OCV[i].E: point energy, 1 J (R207) -/
def BS_OCV_E : Reg := { id := 301, off := 0x8CA0, lo := 16, w := 16, acc := .rw, app := .frame, s2 := 4, n2 := 8 }
/-- BS_STR[j].CAP: j = 0–7; capacity factor, UQ1.15, 0x4000–0x8000 (R207) -/
def BS_STR_CAP : Reg := { id := 302, off := 0x8CC0, lo := 0, w := 16, acc := .rw, rst := 0x8000, app := .frame, s2 := 16, n2 := 8 }
/-- BS_STR[j].RS: string resistance, 1 µΩ (R207) -/
def BS_STR_RS : Reg := { id := 303, off := 0x8CC0, lo := 16, w := 16, acc := .rw, app := .frame, s2 := 16, n2 := 8 }
/-- BS_STR[j].STATE: 0 OFF; 1 OPEN; 2 CLOSING; 3 CLOSED; 4 LOCKOUT (R207) -/
def BS_STR_STATE : Reg := { id := 304, off := 0x8CC4, lo := 0, w := 3, acc := .ro, s2 := 16, n2 := 8 }
/-- BS_STR[j].E: E_j of the last plan, mJ (R207) -/
def BS_STR_E : Reg := { id := 305, off := 0x8CC8, lo := 0, w := 32, acc := .ro, s2 := 16, n2 := 8 }
/-- BS_STR[j].IMAX: string current limit carried in STR_SET, 4 mA; must be non-zero for a configured string (R188, R189) (R207) -/
def BS_STR_IMAX : Reg := { id := 306, off := 0x8CCC, lo := 0, w := 16, acc := .rw, app := .frame, s2 := 16, n2 := 8 }
/-- BS_LEG[k].W: k = 0–7; leg weight, 1–255; 0 acts as 1 (R207) -/
def BS_LEG_W : Reg := { id := 307, off := 0x8D40, lo := 0, w := 8, acc := .rw, rst := 0x1, app := .frame, s2 := 8, n2 := 8 }
/-- BS_LEG[k].ILIM: leg current limit, 4 mA (R207) -/
def BS_LEG_ILIM : Reg := { id := 308, off := 0x8D40, lo := 16, w := 16, acc := .rw, app := .frame, s2 := 8, n2 := 8 }
/-- BS_LEG[k].STATE: 0 IDLE; 1 CHARGE; 2 HOLD; 3 OUT (R207) -/
def BS_LEG_STATE : Reg := { id := 309, off := 0x8D44, lo := 0, w := 3, acc := .ro, s2 := 8, n2 := 8 }
/-- FU[f].CFG.CHAN: channel number of the fuse (R225) -/
def FU_CFG_CHAN : Reg := { id := 310, off := 0x9000, lo := 0, w := 8, acc := .ro, s1 := 0x20, n1 := 64 }
/-- FU[f].CFG.FG: feed group number (R225) -/
def FU_CFG_FG : Reg := { id := 311, off := 0x9000, lo := 8, w := 4, acc := .ro, s1 := 0x20, n1 := 64 }
/-- FU[f].CFG.INFG: member of a feed group (R225) -/
def FU_CFG_INFG : Reg := { id := 312, off := 0x9000, lo := 12, w := 1, acc := .ro, s1 := 0x20, n1 := 64 }
/-- FU[f].CFG.PRIO: 0 primary; 1 secondary (R225) -/
def FU_CFG_PRIO : Reg := { id := 313, off := 0x9000, lo := 13, w := 1, acc := .ro, s1 := 0x20, n1 := 64 }
/-- FU[f].CFG.PORTSW: role port switch (R225) -/
def FU_CFG_PORTSW : Reg := { id := 314, off := 0x9000, lo := 14, w := 1, acc := .ro, s1 := 0x20, n1 := 64 }
/-- FU[f].CFG.VALID: record in use (R225) -/
def FU_CFG_VALID : Reg := { id := 315, off := 0x9000, lo := 15, w := 1, acc := .ro, s1 := 0x20, n1 := 64 }
/-- FU[f].CFG.KERF: primary only: kerf, 2–200 µs (R225) -/
def FU_CFG_KERF : Reg := { id := 316, off := 0x9000, lo := 16, w := 8, acc := .ro, rst := 0xA, s1 := 0x20, n1 := 64 }
/-- FU[f].CFG.REVERT: primary only: revert to the primary (R221) (R225) -/
def FU_CFG_REVERT : Reg := { id := 317, off := 0x9000, lo := 24, w := 1, acc := .ro, s1 := 0x20, n1 := 64 }
/-- FU[f].CFG.REVT: primary only: revert wait, 100 ms units; 0 acts as 1 (R225) -/
def FU_CFG_REVT : Reg := { id := 318, off := 0x9000, lo := 25, w := 7, acc := .ro, s1 := 0x20, n1 := 64 }
/-- FU[f].LIM.IINST: instantaneous trip, 10 mA (R208, R213) (R225) -/
def FU_LIM_IINST : Reg := { id := 319, off := 0x9004, lo := 0, w := 16, acc := .rw, app := .tick, s1 := 0x20, n1 := 64 }
/-- FU[f].LIM.IINR: ramp current limit ICL, 10 mA (R216) (R225) -/
def FU_LIM_IINR : Reg := { id := 320, off := 0x9004, lo := 16, w := 16, acc := .rw, app := .tick, s1 := 0x20, n1 := 64 }
/-- FU[f].INR.DVDT: gate slew, 0.1 V/ms (R225) -/
def FU_INR_DVDT : Reg := { id := 321, off := 0x9008, lo := 0, w := 12, acc := .rw, app := .tick, s1 := 0x20, n1 := 64 }
/-- FU[f].INR.TRAMP: ramp timeout, 1–65,535 ms; 0 acts as 1 (R225) -/
def FU_INR_TRAMP : Reg := { id := 322, off := 0x9008, lo := 16, w := 16, acc := .rw, rst := 0x64, app := .tick, s1 := 0x20, n1 := 64 }
/-- FU[f].WSEL: 0–7 curve point p; 8–10 pole k; 11 model; 12 A; 13 T_fet (R225) -/
def FU_WSEL : Reg := { id := 323, off := 0x900C, lo := 0, w := 4, acc := .rw, per := .acc, app := .now, s1 := 0x20, n1 := 64 }
/-- FU[f].TMAX: temperature trip, °C; reset 150 °C (R225) -/
def FU_TMAX : Reg := { id := 324, off := 0x900C, lo := 8, w := 8, acc := .rw, rst := 0x96, app := .tick, s1 := 0x20, n1 := 64 }
/-- FU[f].CSCALE: curve scaling, 1/128, 64–128; values outside act as the nearer limit (R225) -/
def FU_CSCALE : Reg := { id := 325, off := 0x900C, lo := 16, w := 8, acc := .rw, rst := 0x80, app := .tick, s1 := 0x20, n1 := 64 }
/-- FU[f].WDATA: WSEL 0–7: [15:0] I[p], 10 mA; [23:16] c[p]. WSEL 8–10: [15:0] RTH, 0.001 K/W; [20:16] S. WSEL 11: [15:0] RON, µΩ; [23:16] TAMB, code − 64 °C; [31:24] TDEV, °C. WSEL 12: A, read-only. WSEL 13: T_fet, Q16.16 °C, read-only. Unlisted bits reserved (R225) -/
def FU_WDATA : Reg := { id := 326, off := 0x9010, lo := 0, w := 32, acc := .rw, app := .tick, s1 := 0x20, n1 := 64 }
/-- FU[f].RTY.NRTY: retries before lockout, 0–15 (R225) -/
def FU_RTY_NRTY : Reg := { id := 327, off := 0x9014, lo := 0, w := 4, acc := .rw, rst := 0x3, app := .tick, s1 := 0x20, n1 := 64 }
/-- FU[f].RTY.BOFF: back-off, 10 ms units; 0 acts as 1 (R225) -/
def FU_RTY_BOFF : Reg := { id := 328, off := 0x9014, lo := 8, w := 8, acc := .rw, rst := 0xA, app := .tick, s1 := 0x20, n1 := 64 }
/-- FU[f].RTY.DOUBLE: 1 doubles the back-off per retry (R219) (R225) -/
def FU_RTY_DOUBLE : Reg := { id := 329, off := 0x9014, lo := 16, w := 1, acc := .rw, app := .tick, s1 := 0x20, n1 := 64 }
/-- FU[f].RTY.RWIN: on-time that resets RCNT, 1–255 s; 0 acts as 1 (R225) -/
def FU_RTY_RWIN : Reg := { id := 330, off := 0x9014, lo := 24, w := 8, acc := .rw, rst := 0x3C, app := .tick, s1 := 0x20, n1 := 64 }
/-- FU[f].STATUS.STATE: 0 IDLE; 1 OFF; 2 RAMP; 3 ON; 4 TRIPPED; 5 LOCKOUT; 6 SHED (R225) -/
def FU_STATUS_STATE : Reg := { id := 331, off := 0x9018, lo := 0, w := 3, acc := .ro, s1 := 0x20, n1 := 64 }
/-- FU[f].STATUS.PEND: 1 while a staged write to this record waits (R225) -/
def FU_STATUS_PEND : Reg := { id := 332, off := 0x9018, lo := 3, w := 1, acc := .ro, s1 := 0x20, n1 := 64 }
/-- FU[f].STATUS.SEL: selected source of its group (R225) -/
def FU_STATUS_SEL : Reg := { id := 333, off := 0x9018, lo := 4, w := 1, acc := .ro, s1 := 0x20, n1 := 64 }
/-- FU[f].STATUS.TMOD: T_fet from the model (R215) (R225) -/
def FU_STATUS_TMOD : Reg := { id := 334, off := 0x9018, lo := 5, w := 1, acc := .ro, s1 := 0x20, n1 := 64 }
/-- FU[f].STATUS.IMPL: sensor implausible (R225) -/
def FU_STATUS_IMPL : Reg := { id := 335, off := 0x9018, lo := 6, w := 1, acc := .ro, s1 := 0x20, n1 := 64 }
/-- FU[f].STATUS.XFER: primary only: change in progress (R222) (R225) -/
def FU_STATUS_XFER : Reg := { id := 336, off := 0x9018, lo := 7, w := 1, acc := .ro, s1 := 0x20, n1 := 64 }
/-- FU[f].STATUS.RCNT: retries used (R225) -/
def FU_STATUS_RCNT : Reg := { id := 337, off := 0x9018, lo := 8, w := 4, acc := .ro, s1 := 0x20, n1 := 64 }
/-- FU[f].STATUS.GMAN: primary only: host-selected source (R221) (R225) -/
def FU_STATUS_GMAN : Reg := { id := 338, off := 0x9018, lo := 12, w := 1, acc := .ro, s1 := 0x20, n1 := 64 }
/-- FU[f].STATUS.REASON: last trip reason (R217) (R225) -/
def FU_STATUS_REASON : Reg := { id := 339, off := 0x9018, lo := 13, w := 3, acc := .ro, s1 := 0x20, n1 := 64 }
/-- FU[f].STATUS.NTRIP: trips, saturating at 65,535 (R225) -/
def FU_STATUS_NTRIP : Reg := { id := 340, off := 0x9018, lo := 16, w := 16, acc := .ro, s1 := 0x20, n1 := 64 }
/-- FU[f].EVT.TRIP: the channel tripped (R225) -/
def FU_EVT_TRIP : Reg := { id := 341, off := 0x901C, lo := 0, w := 1, acc := .rc, s1 := 0x20, n1 := 64 }
/-- FU[f].EVT.LOCKOUT: LOCKOUT entered (R225) -/
def FU_EVT_LOCKOUT : Reg := { id := 342, off := 0x901C, lo := 1, w := 1, acc := .rc, s1 := 0x20, n1 := 64 }
/-- FU[f].EVT.IMPL: the sensor became implausible (R225) -/
def FU_EVT_IMPL : Reg := { id := 343, off := 0x901C, lo := 2, w := 1, acc := .rc, s1 := 0x20, n1 := 64 }
/-- FU[f].EVT.CREJ: staged limits refused (R213) (R225) -/
def FU_EVT_CREJ : Reg := { id := 344, off := 0x901C, lo := 3, w := 1, acc := .rc, s1 := 0x20, n1 := 64 }
/-- FU[f].EVT.XFER: primary only: a change completed (R225) -/
def FU_EVT_XFER : Reg := { id := 345, off := 0x901C, lo := 4, w := 1, acc := .rc, s1 := 0x20, n1 := 64 }
/-- FU[f].EVT.STUCK: primary only: no off confirmation (R222) (R225) -/
def FU_EVT_STUCK : Reg := { id := 346, off := 0x901C, lo := 5, w := 1, acc := .rc, s1 := 0x20, n1 := 64 }
/-- FU[f].EVT.GDOWN: primary only: no source available (R225) -/
def FU_EVT_GDOWN : Reg := { id := 347, off := 0x901C, lo := 6, w := 1, acc := .rc, s1 := 0x20, n1 := 64 }
/-- FU[f].CMD.ON: 1 enables the channel, or its group when written to the primary (R225) -/
def FU_CMD_ON : Reg := { id := 348, off := 0x901C, lo := 16, w := 1, acc := .wo, app := .now, s1 := 0x20, n1 := 64 }
/-- FU[f].CMD.OFF: 1 disables the channel or group (R225) -/
def FU_CMD_OFF : Reg := { id := 349, off := 0x901C, lo := 17, w := 1, acc := .wo, app := .now, s1 := 0x20, n1 := 64 }
/-- FU[f].CMD.RESET: 1 leaves LOCKOUT and clears IMPL (R225) -/
def FU_CMD_RESET : Reg := { id := 350, off := 0x901C, lo := 18, w := 1, acc := .wo, app := .now, s1 := 0x20, n1 := 64 }
/-- FU[f].CMD.XFER: primary only: host feed change (R221) (R225) -/
def FU_CMD_XFER : Reg := { id := 351, off := 0x901C, lo := 19, w := 1, acc := .wo, app := .now, s1 := 0x20, n1 := 64 }
/-- SQ_CTRL.AUTO: 1 sets REQ to on at the end of start-up (R235) (R243) -/
def SQ_CTRL_AUTO : Reg := { id := 352, off := 0x9800, lo := 0, w := 1, acc := .rw, app := .frame }
/-- SQ_CTRL.NRTY: sequence retries, 0–7 (R243) -/
def SQ_CTRL_NRTY : Reg := { id := 353, off := 0x9800, lo := 1, w := 3, acc := .rw, app := .frame }
/-- SQ_CTRL.DOUBLE: 1 doubles BOFF per retry (R243) -/
def SQ_CTRL_DOUBLE : Reg := { id := 354, off := 0x9800, lo := 4, w := 1, acc := .rw, app := .frame }
/-- SQ_CTRL.GACT: global fault action (R234) (R243) -/
def SQ_CTRL_GACT : Reg := { id := 355, off := 0x9800, lo := 5, w := 1, acc := .rw, rst := 0x1, app := .frame }
/-- SQ_CTRL.SHACT: short-press action (R238) (R243) -/
def SQ_CTRL_SHACT : Reg := { id := 356, off := 0x9800, lo := 6, w := 2, acc := .rw, app := .frame }
/-- SQ_CTRL.FORCET: force-off time, 2–15 s; values below 2 act as 2 (R243) -/
def SQ_CTRL_FORCET : Reg := { id := 357, off := 0x9800, lo := 8, w := 4, acc := .rw, rst := 0x8, app := .frame }
/-- SQ_CFG.NSTEP: steps, 0–32 (R243) -/
def SQ_CFG_NSTEP : Reg := { id := 358, off := 0x9804, lo := 0, w := 6, acc := .ro }
/-- SQ_CFG.RSTDLY: RSTOUT_N release delay, 0–255 ms (R243) -/
def SQ_CFG_RSTDLY : Reg := { id := 359, off := 0x9804, lo := 8, w := 8, acc := .rw, rst := 0xA, app := .frame }
/-- SQ_CFG.SFILT: supervision filter, 1–65,535 ticks; 0 acts as 1 (R243) -/
def SQ_CFG_SFILT : Reg := { id := 360, off := 0x9804, lo := 16, w := 16, acc := .rw, rst := 0x64, app := .frame }
/-- SQ_TIME.MINOFF: minimum off time, 1–65,535 ms; 0 acts as 1 (R243) -/
def SQ_TIME_MINOFF : Reg := { id := 361, off := 0x9808, lo := 0, w := 16, acc := .rw, rst := 0xA, app := .frame }
/-- SQ_TIME.BOFF: retry back-off, 1–65,535 ms; 0 acts as 1 (R243) -/
def SQ_TIME_BOFF : Reg := { id := 362, off := 0x9808, lo := 16, w := 16, acc := .rw, rst := 0x64, app := .frame }
/-- SQ_STATUS.STATE: 0 OFF; 1 UP; 2 ON; 3 DOWN; 4 MINOFF; 5 BACKOFF; 6 LOCKED (R243) -/
def SQ_STATUS_STATE : Reg := { id := 363, off := 0x980C, lo := 0, w := 3, acc := .ro }
/-- SQ_STATUS.PEND: 1 while a staged SQ_ write waits (R243) -/
def SQ_STATUS_PEND : Reg := { id := 364, off := 0x980C, lo := 3, w := 1, acc := .ro }
/-- SQ_STATUS.STEP: current step (R243) -/
def SQ_STATUS_STEP : Reg := { id := 365, off := 0x980C, lo := 4, w := 5, acc := .ro }
/-- SQ_STATUS.RCNT: retries used (R243) -/
def SQ_STATUS_RCNT : Reg := { id := 366, off := 0x980C, lo := 9, w := 3, acc := .ro }
/-- SQ_STATUS.REQ: latched request: 1 on (R243) -/
def SQ_STATUS_REQ : Reg := { id := 367, off := 0x980C, lo := 12, w := 1, acc := .ro }
/-- SQ_STATUS.FORCE: force-off active (R239) (R243) -/
def SQ_STATUS_FORCE : Reg := { id := 368, off := 0x980C, lo := 13, w := 1, acc := .ro }
/-- SQ_STATUS.FAULT: a sequencer source holds FAULT_N (R243) -/
def SQ_STATUS_FAULT : Reg := { id := 369, off := 0x980C, lo := 14, w := 1, acc := .ro }
/-- SQ_STATUS.PDFAULT: the last power-down had a failure (R232) (R243) -/
def SQ_STATUS_PDFAULT : Reg := { id := 370, off := 0x980C, lo := 15, w := 1, acc := .ro }
/-- SQ_STATUS.RSTREL: RSTOUT_N released (R243) -/
def SQ_STATUS_RSTREL : Reg := { id := 371, off := 0x980C, lo := 16, w := 1, acc := .ro }
/-- SQ_CMD.ON: 1 sets REQ to on (R243) -/
def SQ_CMD_ON : Reg := { id := 372, off := 0x9810, lo := 0, w := 1, acc := .wo, app := .now }
/-- SQ_CMD.OFF: 1 sets REQ to off (R243) -/
def SQ_CMD_OFF : Reg := { id := 373, off := 0x9810, lo := 1, w := 1, acc := .wo, app := .now }
/-- SQ_CMD.CLRFLT: 1 releases ended FAULT_N sources (R240) (R243) -/
def SQ_CMD_CLRFLT : Reg := { id := 374, off := 0x9810, lo := 2, w := 1, acc := .wo, app := .now }
/-- SQ_CMD.STEPON: 1 re-enables the named step (R236) (R243) -/
def SQ_CMD_STEPON : Reg := { id := 375, off := 0x9810, lo := 3, w := 1, acc := .wo, app := .now }
/-- SQ_CMD.STEP: step named by STEPON or STEPOFF (R243) -/
def SQ_CMD_STEP : Reg := { id := 376, off := 0x9810, lo := 4, w := 5, acc := .wo, app := .now }
/-- SQ_CMD.CLRCNT: 1 clears all rail counters and SQ_SAT (R243) -/
def SQ_CMD_CLRCNT : Reg := { id := 377, off := 0x9810, lo := 9, w := 1, acc := .wo, app := .now }
/-- SQ_CMD.STEPOFF: 1 sets the named step to HOSTOFF (R236) (R243) -/
def SQ_CMD_STEPOFF : Reg := { id := 378, off := 0x9810, lo := 10, w := 1, acc := .wo, app := .now }
/-- SQ_EVT.ON: the sequence reached ON (R243) -/
def SQ_EVT_ON : Reg := { id := 379, off := 0x9814, lo := 0, w := 1, acc := .rc }
/-- SQ_EVT.OFF: the sequence reached OFF (R243) -/
def SQ_EVT_OFF : Reg := { id := 380, off := 0x9814, lo := 1, w := 1, acc := .rc }
/-- SQ_EVT.TIMEOUT: a step timed out (R243) -/
def SQ_EVT_TIMEOUT : Reg := { id := 381, off := 0x9814, lo := 2, w := 1, acc := .rc }
/-- SQ_EVT.FAIL: a step failed (R243) -/
def SQ_EVT_FAIL : Reg := { id := 382, off := 0x9814, lo := 3, w := 1, acc := .rc }
/-- SQ_EVT.RETRY: a retry began (R243) -/
def SQ_EVT_RETRY : Reg := { id := 383, off := 0x9814, lo := 4, w := 1, acc := .rc }
/-- SQ_EVT.LOCKOUT: LOCKED was entered (R243) -/
def SQ_EVT_LOCKOUT : Reg := { id := 384, off := 0x9814, lo := 5, w := 1, acc := .rc }
/-- SQ_EVT.PDFAULT: a power-down failure occurred (R243) -/
def SQ_EVT_PDFAULT : Reg := { id := 385, off := 0x9814, lo := 6, w := 1, acc := .rc }
/-- SQ_EVT.MRSHORT: short press (R243) -/
def SQ_EVT_MRSHORT : Reg := { id := 386, off := 0x9814, lo := 7, w := 1, acc := .rc }
/-- SQ_EVT.MRLONG: long press (R243) -/
def SQ_EVT_MRLONG : Reg := { id := 387, off := 0x9814, lo := 8, w := 1, acc := .rc }
/-- SQ_EVT.FORCEOFF: force-off occurred (R243) -/
def SQ_EVT_FORCEOFF : Reg := { id := 388, off := 0x9814, lo := 9, w := 1, acc := .rc }
/-- SQ_EVT.GLOBAL: global fault (R243) -/
def SQ_EVT_GLOBAL : Reg := { id := 389, off := 0x9814, lo := 10, w := 1, acc := .rc }
/-- SQ_EVT.SUPV: rail supervision entry (R241) (R243) -/
def SQ_EVT_SUPV : Reg := { id := 390, off := 0x9814, lo := 11, w := 1, acc := .rc }
/-- SQ_EVT.REFUSED: a request or step command was refused (R243) -/
def SQ_EVT_REFUSED : Reg := { id := 391, off := 0x9814, lo := 12, w := 1, acc := .rc }
/-- SQ_FLT.STEP: step of the last fault (R243) -/
def SQ_FLT_STEP : Reg := { id := 392, off := 0x9818, lo := 0, w := 5, acc := .ro }
/-- SQ_FLT.CAUSE: 0 none; 1 TIMEOUT; 2 TARGET; 3 LOOP; 4 SUPV; 5 GLOBAL (R243) -/
def SQ_FLT_CAUSE : Reg := { id := 393, off := 0x9818, lo := 5, w := 3, acc := .ro }
/-- SQ_FLT.PD: the fault occurred in power-down (R243) -/
def SQ_FLT_PD : Reg := { id := 394, off := 0x9818, lo := 8, w := 1, acc := .ro }
/-- SQ_SAT[0]: [15:0] STARTS saturated, bit n per rail; [31:16] UV (R243) -/
def SQ_SAT_0 : Reg := { id := 395, off := 0x9820, lo := 0, w := 32, acc := .ro }
/-- SQ_SAT[1]: [15:0] OV; [31:16] STO (R243) -/
def SQ_SAT_1 : Reg := { id := 396, off := 0x9824, lo := 0, w := 32, acc := .ro }
/-- SQ_SAT[2]: [15:0] RETRY; [31:16] PDF (R243) -/
def SQ_SAT_2 : Reg := { id := 397, off := 0x9828, lo := 0, w := 32, acc := .ro }
/-- SQ_STEPST[j]: j = 0–3; bits [4b+3:4b] state of step 8j + b (R230) (R243) -/
def SQ_STEPST : Reg := { id := 398, off := 0x9830, lo := 0, w := 32, acc := .ro, s2 := 4, n2 := 4 }
/-- SQ_STEP[s].KIND: target kind (R226) (R243) -/
def SQ_STEP_KIND : Reg := { id := 399, off := 0x9840, lo := 0, w := 3, acc := .ro, s2 := 16, n2 := 32 }
/-- SQ_STEP[s].TGT: target number (R243) -/
def SQ_STEP_TGT : Reg := { id := 400, off := 0x9840, lo := 4, w := 6, acc := .ro, s2 := 16, n2 := 32 }
/-- SQ_STEP[s].FACT: fault action in ON (R233) (R243) -/
def SQ_STEP_FACT : Reg := { id := 401, off := 0x9840, lo := 10, w := 2, acc := .ro, s2 := 16, n2 := 32 }
/-- SQ_STEP[s].WSC: threshold scale (R243) -/
def SQ_STEP_WSC : Reg := { id := 402, off := 0x9840, lo := 12, w := 2, acc := .ro, s2 := 16, n2 := 32 }
/-- SQ_STEP[s].DTHR: power-down threshold, signed (R243) -/
def SQ_STEP_DTHR : Reg := { id := 403, off := 0x9840, lo := 16, w := 16, acc := .ro, s2 := 16, n2 := 32 }
/-- SQ_STEP[s].SRC: window source, R115 coding (R243) -/
def SQ_STEP_SRC : Reg := { id := 404, off := 0x9844, lo := 0, w := 16, acc := .ro, s2 := 16, n2 := 32 }
/-- SQ_STEP[s].FILT: glitch filter, ticks (R243) -/
def SQ_STEP_FILT : Reg := { id := 405, off := 0x9844, lo := 16, w := 16, acc := .ro, s2 := 16, n2 := 32 }
/-- SQ_STEP[s].WLO: window lower limit, signed (R243) -/
def SQ_STEP_WLO : Reg := { id := 406, off := 0x9848, lo := 0, w := 16, acc := .ro, s2 := 16, n2 := 32 }
/-- SQ_STEP[s].WHI: window upper limit, signed (R243) -/
def SQ_STEP_WHI : Reg := { id := 407, off := 0x9848, lo := 16, w := 16, acc := .ro, s2 := 16, n2 := 32 }
/-- SQ_STEP[s].TOUP: power-up timeout, 10 µs (R243) -/
def SQ_STEP_TOUP : Reg := { id := 408, off := 0x984C, lo := 0, w := 16, acc := .ro, s2 := 16, n2 := 32 }
/-- SQ_STEP[s].TODN: power-down timeout, 10 µs (R243) -/
def SQ_STEP_TODN : Reg := { id := 409, off := 0x984C, lo := 16, w := 16, acc := .ro, s2 := 16, n2 := 32 }
/-- SQ_RAIL[n].STARTS: n = 0–15; counters of R242 (R243) -/
def SQ_RAIL_STARTS : Reg := { id := 410, off := 0x9A40, lo := 0, w := 16, acc := .ro, s2 := 16, n2 := 16 }
/-- SQ_RAIL[n].UV: undervoltage entries (R243) -/
def SQ_RAIL_UV : Reg := { id := 411, off := 0x9A40, lo := 16, w := 16, acc := .ro, s2 := 16, n2 := 16 }
/-- SQ_RAIL[n].OV: overvoltage entries (R243) -/
def SQ_RAIL_OV : Reg := { id := 412, off := 0x9A44, lo := 0, w := 16, acc := .ro, s2 := 16, n2 := 16 }
/-- SQ_RAIL[n].STO: step timeouts (R243) -/
def SQ_RAIL_STO : Reg := { id := 413, off := 0x9A44, lo := 16, w := 16, acc := .ro, s2 := 16, n2 := 16 }
/-- SQ_RAIL[n].RETRY: retries caused (R243) -/
def SQ_RAIL_RETRY : Reg := { id := 414, off := 0x9A48, lo := 0, w := 16, acc := .ro, s2 := 16, n2 := 16 }
/-- SQ_RAIL[n].PDF: faults during power-down (R243) -/
def SQ_RAIL_PDF : Reg := { id := 415, off := 0x9A48, lo := 16, w := 16, acc := .ro, s2 := 16, n2 := 16 }
/-- SQ_RAIL[n].SUV: undervoltage threshold, 1 mV; 0 disables (R243) -/
def SQ_RAIL_SUV : Reg := { id := 416, off := 0x9A4C, lo := 0, w := 15, acc := .rw, app := .frame, s2 := 16, n2 := 16 }
/-- SQ_RAIL[n].SUV_F: 1: an entry raises a target fault (R243) -/
def SQ_RAIL_SUV_F : Reg := { id := 417, off := 0x9A4C, lo := 15, w := 1, acc := .rw, app := .frame, s2 := 16, n2 := 16 }
/-- SQ_RAIL[n].SOV: overvoltage threshold, 1 mV; 0 disables (R243) -/
def SQ_RAIL_SOV : Reg := { id := 418, off := 0x9A4C, lo := 16, w := 15, acc := .rw, app := .frame, s2 := 16, n2 := 16 }
/-- SQ_RAIL[n].SOV_F: 1: an entry raises a target fault (R243) -/
def SQ_RAIL_SOV_F : Reg := { id := 419, off := 0x9A4C, lo := 31, w := 1, acc := .rw, app := .frame, s2 := 16, n2 := 16 }
/-- CP_CTRL.CHGLIM: 1 limits charge current (R251) (R255) -/
def CP_CTRL_CHGLIM : Reg := { id := 420, off := 0x9C00, lo := 0, w := 1, acc := .rw, app := .frame }
/-- CP_CTRL.BUSSEL: THROT output for the bus capacity request (R255) -/
def CP_CTRL_BUSSEL : Reg := { id := 421, off := 0x9C00, lo := 1, w := 2, acc := .rw, app := .frame }
/-- CP_CTRL.BUS_EN: 1: the bus capacity request asserts THROT (R247) (R255) -/
def CP_CTRL_BUS_EN : Reg := { id := 422, off := 0x9C00, lo := 3, w := 1, acc := .rw, app := .frame }
/-- CP_STATUS.PEND: 1 while a staged CP_ write waits (R255) -/
def CP_STATUS_PEND : Reg := { id := 423, off := 0x9C04, lo := 0, w := 1, acc := .ro }
/-- CP_STATUS.HUHUB: hold-up cap in force (R250) (R255) -/
def CP_STATUS_HUHUB : Reg := { id := 424, off := 0x9C04, lo := 1, w := 1, acc := .ro }
/-- CP_STATUS.SHORT: headroom below the sum of GMIN (R252) (R255) -/
def CP_STATUS_SHORT : Reg := { id := 425, off := 0x9C04, lo := 2, w := 1, acc := .ro }
/-- CP_STATUS.THR: bit k: THROTk asserted (R255) -/
def CP_STATUS_THR : Reg := { id := 426, off := 0x9C04, lo := 4, w := 4, acc := .ro }
/-- CP_REL.REL: release count, 1–65,535 ticks; 0 acts as 1 (R255) -/
def CP_REL_REL : Reg := { id := 427, off := 0x9C08, lo := 0, w := 16, acc := .rw, rst := 0x3E8, app := .frame }
/-- CP_GPOL.GDEAD: grant change that forces an issue, W (R255) -/
def CP_GPOL_GDEAD : Reg := { id := 428, off := 0x9C0C, lo := 0, w := 16, acc := .rw, rst := 0x32, app := .frame }
/-- CP_GPOL.GREF: frames between issues, 1–255; 0 acts as 1 (R255) -/
def CP_GPOL_GREF : Reg := { id := 429, off := 0x9C0C, lo := 16, w := 8, acc := .rw, rst := 0x64, app := .frame }
/-- CP_HUB.CAPW: hub cap, W; 0 disables (R255) -/
def CP_HUB_CAPW : Reg := { id := 430, off := 0x9C10, lo := 0, w := 16, acc := .rw, app := .frame }
/-- CP_HUB.K: average shift, 0–10; larger values act as 10 (R255) -/
def CP_HUB_K : Reg := { id := 431, off := 0x9C10, lo := 16, w := 4, acc := .rw, app := .frame }
/-- CP_HUB.THRSEL: THROT output (R255) -/
def CP_HUB_THRSEL : Reg := { id := 432, off := 0x9C10, lo := 20, w := 2, acc := .rw, app := .frame }
/-- CP_HUB.THR_EN: 1: assertion drives THROT (R255) -/
def CP_HUB_THR_EN : Reg := { id := 433, off := 0x9C10, lo := 22, w := 1, acc := .rw, app := .frame }
/-- CP_HUB.HYST: release hysteresis, 1/256 (R255) -/
def CP_HUB_HYST : Reg := { id := 434, off := 0x9C10, lo := 24, w := 8, acc := .rw, rst := 0x10, app := .frame }
/-- CP_HUCAP.HUCAP: hub cap in hold-up, W; 0 disables (R250) (R255) -/
def CP_HUCAP_HUCAP : Reg := { id := 435, off := 0x9C14, lo := 0, w := 16, acc := .rw, app := .frame }
/-- CP_EVT.HUB: the hub cap was asserted (R255) -/
def CP_EVT_HUB : Reg := { id := 436, off := 0x9C18, lo := 0, w := 1, acc := .rc }
/-- CP_EVT.RAIL: a rail cap was asserted (R255) -/
def CP_EVT_RAIL : Reg := { id := 437, off := 0x9C18, lo := 1, w := 1, acc := .rc }
/-- CP_EVT.FG: a feed-group cap was asserted (R255) -/
def CP_EVT_FG : Reg := { id := 438, off := 0x9C18, lo := 2, w := 1, acc := .rc }
/-- CP_EVT.SHORT: SHORT was set (R255) -/
def CP_EVT_SHORT : Reg := { id := 439, off := 0x9C18, lo := 3, w := 1, acc := .rc }
/-- CP_EVT.GRANT: a grant was issued (R255) -/
def CP_EVT_GRANT : Reg := { id := 440, off := 0x9C18, lo := 4, w := 1, acc := .rc }
/-- CP_GPIO.OUT: bit k: level of GPIOk output, 1 released (R255) -/
def CP_GPIO_OUT : Reg := { id := 441, off := 0x9C1C, lo := 0, w := 4, acc := .rw, rst := 0xF, app := .now }
/-- CP_GPIO.IN: bit k: GPIOk input level (R249) (R255) -/
def CP_GPIO_IN : Reg := { id := 442, off := 0x9C1C, lo := 8, w := 4, acc := .ro }
/-- CP_PIN.MODE: bits [2k+1:2k]: mode of pin k (R249) (R255) -/
def CP_PIN_MODE : Reg := { id := 443, off := 0x9C20, lo := 0, w := 8, acc := .ro }
/-- CP_FORCE: bit k: host asserts THROTk (R255) -/
def CP_FORCE : Reg := { id := 444, off := 0x9C24, lo := 0, w := 4, acc := .rw, app := .frame }
/-- CP_PHUB: hub average, Q16.16 W (R255) -/
def CP_PHUB : Reg := { id := 445, off := 0x9C28, lo := 0, w := 32, acc := .ro }
/-- CP_ICHG: I_gov in force, Q16.16 A (R255) -/
def CP_ICHG : Reg := { id := 446, off := 0x9C2C, lo := 0, w := 32, acc := .ro }
/-- CP_ASSERT.HUB: hub cap asserted (R255) -/
def CP_ASSERT_HUB : Reg := { id := 447, off := 0x9C30, lo := 0, w := 1, acc := .ro }
/-- CP_ASSERT.BUS: bus capacity request active (R255) -/
def CP_ASSERT_BUS : Reg := { id := 448, off := 0x9C30, lo := 1, w := 1, acc := .ro }
/-- CP_ASSERT.RAILCAP: a rail capacity request active (R255) -/
def CP_ASSERT_RAILCAP : Reg := { id := 449, off := 0x9C30, lo := 2, w := 1, acc := .ro }
/-- CP_ASSERT.FORCE: a host assertion active (R255) -/
def CP_ASSERT_FORCE : Reg := { id := 450, off := 0x9C30, lo := 3, w := 1, acc := .ro }
/-- CP_ASSERT2.RAIL: bit n: RAILn cap asserted (R255) -/
def CP_ASSERT2_RAIL : Reg := { id := 451, off := 0x9C34, lo := 0, w := 16, acc := .ro }
/-- CP_ASSERT2.FG: bit n: FGn cap asserted (R255) -/
def CP_ASSERT2_FG : Reg := { id := 452, off := 0x9C34, lo := 16, w := 16, acc := .ro }
/-- CP_RAIL[n]: n = 0–15; rail cap, layout of CP_HUB (R255) -/
def CP_RAIL : Reg := { id := 453, off := 0x9C40, lo := 0, w := 32, acc := .rw, rst := 0x10000000, app := .frame, s2 := 4, n2 := 16 }
/-- CP_FG[n]: n = 0–15; feed-group cap, layout of CP_HUB (R255) -/
def CP_FG : Reg := { id := 454, off := 0x9C80, lo := 0, w := 32, acc := .rw, rst := 0x10000000, app := .frame, s2 := 4, n2 := 16 }
/-- CP_GW[n].GMIN: minimum grant, W (R255) -/
def CP_GW_GMIN : Reg := { id := 455, off := 0x9CC0, lo := 0, w := 16, acc := .rw, app := .frame, s2 := 4, n2 := 16 }
/-- CP_GW[n].GW: grant weight; 0: no grant (R255) -/
def CP_GW_GW : Reg := { id := 456, off := 0x9CC0, lo := 16, w := 8, acc := .rw, app := .frame, s2 := 4, n2 := 16 }
/-- CP_GRANT[n]: grant in force, W (R255) -/
def CP_GRANT : Reg := { id := 457, off := 0x9D00, lo := 0, w := 16, acc := .ro, s2 := 4, n2 := 16 }
/-- CP_PRAIL[n]: rail average, Q16.16 W (R255) -/
def CP_PRAIL : Reg := { id := 458, off := 0x9D40, lo := 0, w := 32, acc := .ro, s2 := 4, n2 := 16 }
/-- CP_PFG[n]: feed-group average, Q16.16 W (R255) -/
def CP_PFG : Reg := { id := 459, off := 0x9D80, lo := 0, w := 32, acc := .ro, s2 := 4, n2 := 16 }

/-- Part of the list of every field. -/
def list1_0 : List Reg := [FD_CTRL_DROOP_EN, FD_CTRL_REV_EN, FD_STATUS_STATE, FD_STATUS_PEND, FD_STATUS_NOFEED, FD_STATUS_BATREG, FD_STATUS_CAP, FD_STATUS_VB_HOLD, FD_STATUS_NSHARE, FD_VSET_VSET, FD_VSET_SLEW, FD_DROOP_DROOP, FD_WIN_UV_UVW, FD_WIN_UV_UVF, FD_WIN_OV_OVW, FD_WIN_OV_OVF, FD_FILT_WFILT, FD_FILT_FFILT, FD_TIME_READY, FD_TIME_RAMPT]
/-- Part of the list of every field. -/
def list1_1 : List Reg := [FD_CAPT_SATT, FD_CAPT_HVOK, FD_CMD_FEEDER, FD_CMD_REMOVE, FD_CMD_READMIT, FD_EVT_REMOVE, FD_EVT_READMIT, FD_EVT_UVW, FD_EVT_UVF, FD_EVT_OVW, FD_EVT_OVF, FD_EVT_CAPACITY, FD_EVT_REFUSED, FD_EVT_NOFEED, FD_VBUS, FD_SETPT, FD_IFED, FD_ICAP, FD_FM_W, FD_FM_HOTW]
/-- Part of the list of every field. -/
def list1_2 : List Reg := [FD_FM_AGE, FD_FM_ILIM, FD_FM_STATE, FD_FM_REASON, FD_FM_HOT, FD_FM_OPENLOOP, FD_FM_RMP, FD_FM_NREM, FD_FM_NRET, BS_CTRL_HU_EN, BS_CTRL_CHG_EN, BS_CTRL_EM_EN, BS_STATUS_STATE, BS_STATUS_PEND, BS_STATUS_TAKEN, BS_STATUS_EMERG, BS_STATUS_SHORT, BS_STATUS_STANDBY, BS_STATUS_NSTR, BS_STATUS_NLEG]
/-- Part of the list of every field. -/
def list1_3 : List Reg := [BS_STATUS_SHED, BS_STATUS_KEEP, BS_DETA_SLOWF, BS_DETA_VLOSS, BS_DETB_DVDT, BS_DETB_DETN, BS_DETB_EMFILT, BS_DETB_EMCLS, BS_HB_NFEED, BS_HB_HBT, BS_SLEW_HSLEW, BS_SLEW_CSLEW, BS_CHG_ICHG, BS_CHG_VCHG, BS_TAPER_VTAPER, BS_TAPER_VMATCH, BS_PLAN_ETA, BS_PLAN_ETAR, BS_RSV_VMIN, BS_RSV_ERES]
/-- Part of the list of every field. -/
def list1_4 : List Reg := [BS_TIME_CLOSE, BS_CMD_STRING, BS_CMD_OPEN, BS_CMD_CLOSE, BS_EVT_LOSS, BS_EVT_TAKEN, BS_EVT_EMERG, BS_EVT_SHED, BS_EVT_SHORT, BS_EVT_HANDBACK, BS_EVT_STROPEN, BS_EVT_LEGLOSS, BS_EVT_UNAVAIL, BS_EAVAIL, BS_VBAT, BS_TEL_TEL, BS_CLASS_TGT, BS_CLASS_ENDSHED, BS_LCLS_F, BS_LCLS_R]
/-- Part of the list of every field. -/
def list1_5 : List Reg := [BS_OCV_V, BS_OCV_E, BS_STR_CAP, BS_STR_RS, BS_STR_STATE, BS_STR_E, BS_STR_IMAX, BS_LEG_W, BS_LEG_ILIM, BS_LEG_STATE, FU_CFG_CHAN, FU_CFG_FG, FU_CFG_INFG, FU_CFG_PRIO, FU_CFG_PORTSW, FU_CFG_VALID, FU_CFG_KERF, FU_CFG_REVERT, FU_CFG_REVT, FU_LIM_IINST]
/-- Part of the list of every field. -/
def list1_6 : List Reg := [FU_LIM_IINR, FU_INR_DVDT, FU_INR_TRAMP, FU_WSEL, FU_TMAX, FU_CSCALE, FU_WDATA, FU_RTY_NRTY, FU_RTY_BOFF, FU_RTY_DOUBLE, FU_RTY_RWIN, FU_STATUS_STATE, FU_STATUS_PEND, FU_STATUS_SEL, FU_STATUS_TMOD, FU_STATUS_IMPL, FU_STATUS_XFER, FU_STATUS_RCNT, FU_STATUS_GMAN, FU_STATUS_REASON]
/-- Part of the list of every field. -/
def list1_7 : List Reg := [FU_STATUS_NTRIP, FU_EVT_TRIP, FU_EVT_LOCKOUT, FU_EVT_IMPL, FU_EVT_CREJ, FU_EVT_XFER, FU_EVT_STUCK, FU_EVT_GDOWN, FU_CMD_ON, FU_CMD_OFF, FU_CMD_RESET, FU_CMD_XFER, SQ_CTRL_AUTO, SQ_CTRL_NRTY, SQ_CTRL_DOUBLE, SQ_CTRL_GACT, SQ_CTRL_SHACT, SQ_CTRL_FORCET, SQ_CFG_NSTEP, SQ_CFG_RSTDLY]
/-- Part of the list of every field. -/
def list1_8 : List Reg := [SQ_CFG_SFILT, SQ_TIME_MINOFF, SQ_TIME_BOFF, SQ_STATUS_STATE, SQ_STATUS_PEND, SQ_STATUS_STEP, SQ_STATUS_RCNT, SQ_STATUS_REQ, SQ_STATUS_FORCE, SQ_STATUS_FAULT, SQ_STATUS_PDFAULT, SQ_STATUS_RSTREL, SQ_CMD_ON, SQ_CMD_OFF, SQ_CMD_CLRFLT, SQ_CMD_STEPON, SQ_CMD_STEP, SQ_CMD_CLRCNT, SQ_CMD_STEPOFF, SQ_EVT_ON]
/-- Part of the list of every field. -/
def list1_9 : List Reg := [SQ_EVT_OFF, SQ_EVT_TIMEOUT, SQ_EVT_FAIL, SQ_EVT_RETRY, SQ_EVT_LOCKOUT, SQ_EVT_PDFAULT, SQ_EVT_MRSHORT, SQ_EVT_MRLONG, SQ_EVT_FORCEOFF, SQ_EVT_GLOBAL, SQ_EVT_SUPV, SQ_EVT_REFUSED, SQ_FLT_STEP, SQ_FLT_CAUSE, SQ_FLT_PD, SQ_SAT_0, SQ_SAT_1, SQ_SAT_2, SQ_STEPST, SQ_STEP_KIND]
/-- Part of the list of every field. -/
def list1_10 : List Reg := [SQ_STEP_TGT, SQ_STEP_FACT, SQ_STEP_WSC, SQ_STEP_DTHR, SQ_STEP_SRC, SQ_STEP_FILT, SQ_STEP_WLO, SQ_STEP_WHI, SQ_STEP_TOUP, SQ_STEP_TODN, SQ_RAIL_STARTS, SQ_RAIL_UV, SQ_RAIL_OV, SQ_RAIL_STO, SQ_RAIL_RETRY, SQ_RAIL_PDF, SQ_RAIL_SUV, SQ_RAIL_SUV_F, SQ_RAIL_SOV, SQ_RAIL_SOV_F]
/-- Part of the list of every field. -/
def list1_11 : List Reg := [CP_CTRL_CHGLIM, CP_CTRL_BUSSEL, CP_CTRL_BUS_EN, CP_STATUS_PEND, CP_STATUS_HUHUB, CP_STATUS_SHORT, CP_STATUS_THR, CP_REL_REL, CP_GPOL_GDEAD, CP_GPOL_GREF, CP_HUB_CAPW, CP_HUB_K, CP_HUB_THRSEL, CP_HUB_THR_EN, CP_HUB_HYST, CP_HUCAP_HUCAP, CP_EVT_HUB, CP_EVT_RAIL, CP_EVT_FG, CP_EVT_SHORT]
/-- Part of the list of every field. -/
def list1_12 : List Reg := [CP_EVT_GRANT, CP_GPIO_OUT, CP_GPIO_IN, CP_PIN_MODE, CP_FORCE, CP_PHUB, CP_ICHG, CP_ASSERT_HUB, CP_ASSERT_BUS, CP_ASSERT_RAILCAP, CP_ASSERT_FORCE, CP_ASSERT2_RAIL, CP_ASSERT2_FG, CP_RAIL, CP_FG, CP_GW_GMIN, CP_GW_GW, CP_GRANT, CP_PRAIL, CP_PFG]
/-- Every field of this file. -/
def all1 : List Reg := list1_0 ++ list1_1 ++ list1_2 ++ list1_3 ++ list1_4 ++ list1_5 ++ list1_6 ++ list1_7 ++ list1_8 ++ list1_9 ++ list1_10 ++ list1_11 ++ list1_12

end Sys2Proof.Machine.R
end

