-- ==== Sys2Proof/Machine/Regs2.lean ====
section
/-! DEFINITION. The register fields of the manual's tables: telemetry, thermal monitor, margin planner, host queues, pairing. One definition per field, its place, access, reset value and apply boundary as its table row gives them. -/

namespace Sys2Proof.Machine.R

/-- TM_CTRL.SNAP_EN: 1 enables snapshots (R261) (R266) -/
def TM_CTRL_SNAP_EN : Reg := { id := 460, off := 0xA000, lo := 0, w := 1, acc := .rw, app := .frame }
/-- TM_STATUS.PEND: 1 while a staged TM_ write waits (R266) -/
def TM_STATUS_PEND : Reg := { id := 461, off := 0xA004, lo := 0, w := 1, acc := .ro }
/-- TM_STATUS.BUSY: entries of a snapshot remain unwritten (R266) -/
def TM_STATUS_BUSY : Reg := { id := 462, off := 0xA004, lo := 1, w := 1, acc := .ro }
/-- TM_SNAP.SPER: snapshot period, 1–255 frames; 0 acts as 1 (R266) -/
def TM_SNAP_SPER : Reg := { id := 463, off := 0xA008, lo := 0, w := 8, acc := .rw, rst := 0x1, app := .frame }
/-- TM_AVGK0.PH: k for phase, 0–20; larger values act as 20 (R266) -/
def TM_AVGK0_PH : Reg := { id := 464, off := 0xA00C, lo := 0, w := 5, acc := .rw, rst := 0xA, app := .frame }
/-- TM_AVGK0.LEAD: k for lead phase (R266) -/
def TM_AVGK0_LEAD : Reg := { id := 465, off := 0xA00C, lo := 8, w := 5, acc := .rw, rst := 0xA, app := .frame }
/-- TM_AVGK0.FUSE: k for fuse (R266) -/
def TM_AVGK0_FUSE : Reg := { id := 466, off := 0xA00C, lo := 16, w := 5, acc := .rw, rst := 0xA, app := .frame }
/-- TM_AVGK0.PSW: k for port switch (R266) -/
def TM_AVGK0_PSW : Reg := { id := 467, off := 0xA00C, lo := 24, w := 5, acc := .rw, rst := 0xA, app := .frame }
/-- TM_AVGK1.STR: k for battery string (R266) -/
def TM_AVGK1_STR : Reg := { id := 468, off := 0xA010, lo := 0, w := 5, acc := .rw, rst := 0xA, app := .frame }
/-- TM_AVGK1.LEG: k for converter leg (R266) -/
def TM_AVGK1_LEG : Reg := { id := 469, off := 0xA010, lo := 8, w := 5, acc := .rw, rst := 0xA, app := .frame }
/-- TM_AVGK1.FM: k for feeder module (R266) -/
def TM_AVGK1_FM : Reg := { id := 470, off := 0xA010, lo := 16, w := 5, acc := .rw, rst := 0xA, app := .frame }
/-- TM_SNAPNUM: SNAP of the last snapshot due (R266) -/
def TM_SNAPNUM : Reg := { id := 471, off := 0xA014, lo := 0, w := 32, acc := .ro }
/-- TM_SKIP: skipped snapshots, saturating (R266) -/
def TM_SKIP : Reg := { id := 472, off := 0xA018, lo := 0, w := 32, acc := .ro }
/-- TM_DROPA: entries discarded for host A, saturating (R266) -/
def TM_DROPA : Reg := { id := 473, off := 0xA01C, lo := 0, w := 32, acc := .ro }
/-- TM_DROPB: entries discarded for host B, saturating (R266) -/
def TM_DROPB : Reg := { id := 474, off := 0xA020, lo := 0, w := 32, acc := .ro }
/-- TM_EVT.SKIP: a snapshot was skipped (R264) (R266) -/
def TM_EVT_SKIP : Reg := { id := 475, off := 0xA024, lo := 0, w := 1, acc := .rc }
/-- TM_EVT.DROPA: an entry was discarded for host A (R266) -/
def TM_EVT_DROPA : Reg := { id := 476, off := 0xA024, lo := 1, w := 1, acc := .rc }
/-- TM_EVT.DROPB: an entry was discarded for host B (R266) -/
def TM_EVT_DROPB : Reg := { id := 477, off := 0xA024, lo := 2, w := 1, acc := .rc }
/-- TM_SEL.CH: per accessor; channel shown at 0x02C–0x07C (R266) -/
def TM_SEL_CH : Reg := { id := 478, off := 0xA028, lo := 0, w := 8, acc := .rw, app := .now, per := .acc }
/-- TM_CHSTAT.VALID: a sample is in force (R266) -/
def TM_CHSTAT_VALID : Reg := { id := 479, off := 0xA02C, lo := 0, w := 1, acc := .ro }
/-- TM_CHSTAT.STALE: the sample in force is held (R74) (R266) -/
def TM_CHSTAT_STALE : Reg := { id := 480, off := 0xA02C, lo := 1, w := 1, acc := .ro }
/-- TM_CHSTAT.EMPTY: per accessor; bit per hold, VMAX first, in the order of 0x040–0x05C (R266) -/
def TM_CHSTAT_EMPTY : Reg := { id := 481, off := 0xA02C, lo := 2, w := 8, acc := .ro, rst := 0xFF }
/-- TM_CHSTAT.HELD: HELD of the shown window; the read fills the shadow (R265) (R266) -/
def TM_CHSTAT_HELD : Reg := { id := 482, off := 0xA02C, lo := 10, w := 21, acc := .ro }
/-- TM_AV_V: average V, Q16.16 (R257, R265) (R266) -/
def TM_AV_V : Reg := { id := 483, off := 0xA030, lo := 0, w := 32, acc := .ro }
/-- TM_AV_I: average I, Q16.16 (R266) -/
def TM_AV_I : Reg := { id := 484, off := 0xA034, lo := 0, w := 32, acc := .ro }
/-- TM_AV_P: average P, Q16.16 (R266) -/
def TM_AV_P : Reg := { id := 485, off := 0xA038, lo := 0, w := 32, acc := .ro }
/-- TM_AV_T: average T, Q16.16 (R266) -/
def TM_AV_T : Reg := { id := 486, off := 0xA03C, lo := 0, w := 32, acc := .ro }
/-- TM_PK_VMAX: per accessor; held maximum V (R258) (R266) -/
def TM_PK_VMAX : Reg := { id := 487, off := 0xA040, lo := 0, w := 32, acc := .rc }
/-- TM_PK_VMIN: held minimum V (R266) -/
def TM_PK_VMIN : Reg := { id := 488, off := 0xA044, lo := 0, w := 32, acc := .rc }
/-- TM_PK_IMAX: held maximum I (R266) -/
def TM_PK_IMAX : Reg := { id := 489, off := 0xA048, lo := 0, w := 32, acc := .rc }
/-- TM_PK_IMIN: held minimum I (R266) -/
def TM_PK_IMIN : Reg := { id := 490, off := 0xA04C, lo := 0, w := 32, acc := .rc }
/-- TM_PK_PMAX: held maximum P (R266) -/
def TM_PK_PMAX : Reg := { id := 491, off := 0xA050, lo := 0, w := 32, acc := .rc }
/-- TM_PK_PMIN: held minimum P (R266) -/
def TM_PK_PMIN : Reg := { id := 492, off := 0xA054, lo := 0, w := 32, acc := .rc }
/-- TM_PK_TMAX: held maximum T (R266) -/
def TM_PK_TMAX : Reg := { id := 493, off := 0xA058, lo := 0, w := 32, acc := .rc }
/-- TM_PK_TMIN: held minimum T (R266) -/
def TM_PK_TMIN : Reg := { id := 494, off := 0xA05C, lo := 0, w := 32, acc := .rc }
/-- TM_EOUT_LO: EOUT µJ bits [31:0]; latches [63:32] (R259) (R266) -/
def TM_EOUT_LO : Reg := { id := 495, off := 0xA060, lo := 0, w := 64, acc := .ll }
/-- TM_EOUT_HI: latched EOUT bits [63:32] (R266) -/
def TM_EOUT_HI : Reg := { id := 496, off := 0xA064, lo := 0, w := 32, acc := .lh, per := .acc }
/-- TM_EIN_LO: EIN µJ bits [31:0]; latches [63:32] (R266) -/
def TM_EIN_LO : Reg := { id := 497, off := 0xA068, lo := 0, w := 64, acc := .ll }
/-- TM_EIN_HI: latched EIN bits [63:32] (R266) -/
def TM_EIN_HI : Reg := { id := 498, off := 0xA06C, lo := 0, w := 32, acc := .lh, per := .acc }
/-- TM_LAST_V: V in force, Q16.16 (R266) -/
def TM_LAST_V : Reg := { id := 499, off := 0xA070, lo := 0, w := 32, acc := .ro }
/-- TM_LAST_I: I in force, Q16.16 (R266) -/
def TM_LAST_I : Reg := { id := 500, off := 0xA074, lo := 0, w := 32, acc := .ro }
/-- TM_LAST_P: P in force, Q16.16 (R266) -/
def TM_LAST_P : Reg := { id := 501, off := 0xA078, lo := 0, w := 32, acc := .ro }
/-- TM_LAST_T: T in force, Q16.16 (R266) -/
def TM_LAST_T : Reg := { id := 502, off := 0xA07C, lo := 0, w := 32, acc := .ro }
/-- TM_EHUB_LO: EHUB µJ bits [31:0]; latches [63:32] (R266) -/
def TM_EHUB_LO : Reg := { id := 503, off := 0xA080, lo := 0, w := 64, acc := .ll }
/-- TM_EHUB_HI: latched EHUB bits [63:32] (R266) -/
def TM_EHUB_HI : Reg := { id := 504, off := 0xA084, lo := 0, w := 32, acc := .lh, per := .acc }
/-- TM_ECHG_LO: ECHG µJ bits [31:0]; latches [63:32] (R266) -/
def TM_ECHG_LO : Reg := { id := 505, off := 0xA088, lo := 0, w := 64, acc := .ll }
/-- TM_ECHG_HI: latched ECHG bits [63:32] (R266) -/
def TM_ECHG_HI : Reg := { id := 506, off := 0xA08C, lo := 0, w := 32, acc := .lh, per := .acc }
/-- TM_SNAPSEL[j]: j = 0–7; bit b includes channel 32j + b in snapshots (R266) -/
def TM_SNAPSEL : Reg := { id := 507, off := 0xA0A0, lo := 0, w := 32, acc := .rw, app := .frame, s2 := 4, n2 := 8 }
/-- TH_CTRL.LVLMIN: lowest throttle level, 0–7 (R269) (R283) -/
def TH_CTRL_LVLMIN : Reg := { id := 508, off := 0xA800, lo := 0, w := 3, acc := .rw, app := .frame }
/-- TH_CTRL.CRIT_ACT: 1: TCRIT raises a global fault (R268) (R283) -/
def TH_CTRL_CRIT_ACT : Reg := { id := 509, off := 0xA800, lo := 3, w := 1, acc := .rw, rst := 0x1, app := .frame }
/-- TH_STATUS.LEVEL: throttle level in force (R283) -/
def TH_STATUS_LEVEL : Reg := { id := 510, off := 0xA804, lo := 0, w := 3, acc := .ro }
/-- TH_STATUS.PEND: 1 while a staged TH_ write waits (R283) -/
def TH_STATUS_PEND : Reg := { id := 511, off := 0xA804, lo := 3, w := 1, acc := .ro }
/-- TH_STATUS.HOT: die at or above TWARN (R283) -/
def TH_STATUS_HOT : Reg := { id := 512, off := 0xA804, lo := 4, w := 1, acc := .ro }
/-- TH_STATUS.CRIT: die at or above TCRIT (R283) -/
def TH_STATUS_CRIT : Reg := { id := 513, off := 0xA804, lo := 5, w := 1, acc := .ro }
/-- TH_DIE: T_die, Q16.16 °C (R267) (R283) -/
def TH_DIE : Reg := { id := 514, off := 0xA808, lo := 0, w := 32, acc := .ro }
/-- TH_DIEAVG: M of the last schedule cycle, Q16.16 °C (R283) -/
def TH_DIEAVG : Reg := { id := 515, off := 0xA80C, lo := 0, w := 32, acc := .ro }
/-- TH_LVL.TL0: level-1 threshold, °C; reset 110 °C (R283) -/
def TH_LVL_TL0 : Reg := { id := 516, off := 0xA810, lo := 0, w := 8, acc := .rw, rst := 0x6E, app := .frame }
/-- TH_LVL.TSTEP: level step, 1–15 °C; 0 acts as 1 (R283) -/
def TH_LVL_TSTEP : Reg := { id := 517, off := 0xA810, lo := 8, w := 8, acc := .rw, rst := 0x5, app := .frame }
/-- TH_LVL.THYST: hysteresis, °C (R283) -/
def TH_LVL_THYST : Reg := { id := 518, off := 0xA810, lo := 16, w := 8, acc := .rw, rst := 0x3, app := .frame }
/-- TH_DLIM.TWARN: die warning, °C; reset 125 °C (R283) -/
def TH_DLIM_TWARN : Reg := { id := 519, off := 0xA814, lo := 0, w := 8, acc := .rw, rst := 0x7D, app := .frame }
/-- TH_DLIM.TCRIT: die critical, °C; reset 145 °C (R283) -/
def TH_DLIM_TCRIT : Reg := { id := 520, off := 0xA814, lo := 8, w := 8, acc := .rw, rst := 0x91, app := .frame }
/-- TH_DLIM.CFILT: die filter, 1–65,535 ticks; 0 acts as 1 (R283) -/
def TH_DLIM_CFILT : Reg := { id := 521, off := 0xA814, lo := 16, w := 16, acc := .rw, rst := 0x64, app := .frame }
/-- TH_PAUSE[1]: pause at level 1, ticks (R283) -/
def TH_PAUSE_1 : Reg := { id := 522, off := 0xA818, lo := 8, w := 8, acc := .rw, rst := 0x1, app := .frame }
/-- TH_PAUSE[2]: pause at level 2, ticks (R283) -/
def TH_PAUSE_2 : Reg := { id := 523, off := 0xA818, lo := 16, w := 8, acc := .rw, rst := 0x2, app := .frame }
/-- TH_PAUSE[3]: pause at level 3, ticks (R283) -/
def TH_PAUSE_3 : Reg := { id := 524, off := 0xA818, lo := 24, w := 8, acc := .rw, rst := 0x4, app := .frame }
/-- TH_PAUSE[4]: pause at level 4, ticks (R283) -/
def TH_PAUSE_4 : Reg := { id := 525, off := 0xA81C, lo := 0, w := 8, acc := .rw, rst := 0x8, app := .frame }
/-- TH_PAUSE[5]: pause at level 5, ticks (R283) -/
def TH_PAUSE_5 : Reg := { id := 526, off := 0xA81C, lo := 8, w := 8, acc := .rw, rst := 0x10, app := .frame }
/-- TH_PAUSE[6]: pause at level 6, ticks (R283) -/
def TH_PAUSE_6 : Reg := { id := 527, off := 0xA81C, lo := 16, w := 8, acc := .rw, rst := 0x20, app := .frame }
/-- TH_PAUSE[7]: pause at level 7, ticks (R283) -/
def TH_PAUSE_7 : Reg := { id := 528, off := 0xA81C, lo := 24, w := 8, acc := .rw, rst := 0x40, app := .frame }
/-- TH_RATE[j].W: j = 0–2; window exponent 10–20; values outside act as the nearer limit (R283) -/
def TH_RATE_W : Reg := { id := 529, off := 0xA820, lo := 0, w := 5, acc := .rw, rst := 0xA, app := .frame, s2 := 4, n2 := 3, rstx := [(1, 0xE), (2, 0x14)] }
/-- TH_RATE[j].DIE: 1 applies the limit to the die (R283) -/
def TH_RATE_DIE : Reg := { id := 530, off := 0xA820, lo := 8, w := 1, acc := .rw, app := .frame, s2 := 4, n2 := 3 }
/-- TH_RATE[j].STG: 1 applies the limit to supervised channels (R283) -/
def TH_RATE_STG : Reg := { id := 531, off := 0xA820, lo := 9, w := 1, acc := .rw, app := .frame, s2 := 4, n2 := 3 }
/-- TH_RATE[j].ACT: 1: a channel exceedance raises a stage thermal fault (R273) (R283) -/
def TH_RATE_ACT : Reg := { id := 532, off := 0xA820, lo := 10, w := 1, acc := .rw, app := .frame, s2 := 4, n2 := 3 }
/-- TH_RATE[j].RLIM: rate limit, 0.1 °C/s (R283) -/
def TH_RATE_RLIM : Reg := { id := 533, off := 0xA820, lo := 16, w := 16, acc := .rw, rst := 0x7D0, app := .frame, s2 := 4, n2 := 3, rstx := [(1, 0x1F4), (2, 0x32)] }
/-- TH_STG[r].TWARN: r = 0–6; stage warning, °C (R283) -/
def TH_STG_TWARN : Reg := { id := 534, off := 0xA830, lo := 0, w := 8, acc := .rw, rst := 0x7D, app := .frame, s2 := 4, n2 := 7 }
/-- TH_STG[r].TFAULT: stage fault, °C (R283) -/
def TH_STG_TFAULT : Reg := { id := 535, off := 0xA830, lo := 8, w := 8, acc := .rw, rst := 0x8C, app := .frame, s2 := 4, n2 := 7 }
/-- TH_STG[r].ACT: 1: TFAULT raises a stage thermal fault (R283) -/
def TH_STG_ACT : Reg := { id := 536, off := 0xA830, lo := 16, w := 1, acc := .rw, app := .frame, s2 := 4, n2 := 7 }
/-- TH_SFILT: stage filter, 1–65,535 ticks; 0 acts as 1 (R283) -/
def TH_SFILT : Reg := { id := 537, off := 0xA84C, lo := 0, w := 16, acc := .rw, rst := 0x64, app := .frame }
/-- TH_EVT.LEVEL: the throttle level changed (R283) -/
def TH_EVT_LEVEL : Reg := { id := 538, off := 0xA850, lo := 0, w := 1, acc := .rc }
/-- TH_EVT.DIEWARN: TWARN reached (R283) -/
def TH_EVT_DIEWARN : Reg := { id := 539, off := 0xA850, lo := 1, w := 1, acc := .rc }
/-- TH_EVT.DIECRIT: TCRIT reached (R283) -/
def TH_EVT_DIECRIT : Reg := { id := 540, off := 0xA850, lo := 2, w := 1, acc := .rc }
/-- TH_EVT.DRATE: die rate limit exceeded (R283) -/
def TH_EVT_DRATE : Reg := { id := 541, off := 0xA850, lo := 3, w := 1, acc := .rc }
/-- TH_EVT.SWARN: a stage reached its warning (R283) -/
def TH_EVT_SWARN : Reg := { id := 542, off := 0xA850, lo := 4, w := 1, acc := .rc }
/-- TH_EVT.SFAULT: a stage reached its fault temperature (R283) -/
def TH_EVT_SFAULT : Reg := { id := 543, off := 0xA850, lo := 5, w := 1, acc := .rc }
/-- TH_EVT.SRATE: a stage rate limit was exceeded (R283) -/
def TH_EVT_SRATE : Reg := { id := 544, off := 0xA850, lo := 6, w := 1, acc := .rc }
/-- TH_LAST.CH: channel of the last stage event (R283) -/
def TH_LAST_CH : Reg := { id := 545, off := 0xA854, lo := 0, w := 8, acc := .ro }
/-- TH_LAST.LIM: 0 warning; 1 fault; 2–4 rate limit j = 0–2 (R283) -/
def TH_LAST_LIM : Reg := { id := 546, off := 0xA854, lo := 8, w := 3, acc := .ro }
/-- TH_PAUSECNT: pause ticks inserted, all classes, saturating (R283) -/
def TH_PAUSECNT : Reg := { id := 547, off := 0xA858, lo := 0, w := 32, acc := .ro }
/-- MP_CTRL.MODE: 0 advise; 1 apply within bounds (R284) -/
def MP_CTRL_MODE : Reg := { id := 548, off := 0xAC00, lo := 0, w := 1, acc := .rw, app := .frame }
/-- MP_CTRL.ID_EN: 1 enables identification (R276) (R284) -/
def MP_CTRL_ID_EN : Reg := { id := 549, off := 0xAC00, lo := 1, w := 1, acc := .rw, app := .frame }
/-- MP_CTRL.MEAS_EN: 1 enables measurement (R274) (R284) -/
def MP_CTRL_MEAS_EN : Reg := { id := 550, off := 0xAC00, lo := 2, w := 1, acc := .rw, app := .frame }
/-- MP_CTRL.PERIOD: planning period, 1–65,535 s; 0 acts as 1 (R284) -/
def MP_CTRL_PERIOD : Reg := { id := 551, off := 0xAC00, lo := 16, w := 16, acc := .rw, rst := 0xE10, app := .frame }
/-- MP_STATUS.PEND: 1 while a staged MP_ write waits (R284) -/
def MP_STATUS_PEND : Reg := { id := 552, off := 0xAC04, lo := 0, w := 1, acc := .ro }
/-- MP_STATUS.ADVPEND: an advised plan awaits approval (R284) -/
def MP_STATUS_ADVPEND : Reg := { id := 553, off := 0xAC04, lo := 1, w := 1, acc := .ro }
/-- MP_PLANNUM: number of the last plan (R284) -/
def MP_PLANNUM : Reg := { id := 554, off := 0xAC08, lo := 0, w := 32, acc := .ro }
/-- MP_ID.AMP: perturbation amplitude, 0.1 mV, 1–20; values above 20 act as 20 (R284) -/
def MP_ID_AMP : Reg := { id := 555, off := 0xAC0C, lo := 0, w := 5, acc := .rw, rst := 0xA, app := .frame }
/-- MP_ID.CHIP: chip length 2^CHIP ticks (R284) -/
def MP_ID_CHIP : Reg := { id := 556, off := 0xAC0C, lo := 5, w := 2, acc := .rw, rst := 0x2, app := .frame }
/-- MP_ID.MAXP: pauses allowed per run, 1–15; 0 acts as 1 (R284) -/
def MP_ID_MAXP : Reg := { id := 557, off := 0xAC0C, lo := 8, w := 4, acc := .rw, rst := 0x8, app := .frame }
/-- MP_ID.RAILMASK: bit n: identify RAILn (R284) -/
def MP_ID_RAILMASK : Reg := { id := 558, off := 0xAC0C, lo := 16, w := 16, acc := .rw, app := .frame }
/-- MP_CMD.APPROVE: 1 approves the plan named in MP_APPRNUM (R284) -/
def MP_CMD_APPROVE : Reg := { id := 559, off := 0xAC10, lo := 0, w := 1, acc := .wo, app := .now }
/-- MP_CMD.REJECT: 1 rejects that plan (R284) -/
def MP_CMD_REJECT : Reg := { id := 560, off := 0xAC10, lo := 1, w := 1, acc := .wo, app := .now }
/-- MP_CMD.RUNNOW: 1 ends the period at the next frame boundary (R284) -/
def MP_CMD_RUNNOW : Reg := { id := 561, off := 0xAC10, lo := 2, w := 1, acc := .wo, app := .now }
/-- MP_CMD.REBASE: 1 takes every next result as its baseline (R278) (R284) -/
def MP_CMD_REBASE : Reg := { id := 562, off := 0xAC10, lo := 3, w := 1, acc := .wo, app := .now }
/-- MP_APPRNUM: plan number named by APPROVE or REJECT (R284) -/
def MP_APPRNUM : Reg := { id := 563, off := 0xAC14, lo := 0, w := 32, acc := .rw, app := .now }
/-- MP_EVT.PLAN: a plan was made (R284) -/
def MP_EVT_PLAN : Reg := { id := 564, off := 0xAC18, lo := 0, w := 1, acc := .rc }
/-- MP_EVT.APPLIED: a change was written (R284) -/
def MP_EVT_APPLIED : Reg := { id := 565, off := 0xAC18, lo := 1, w := 1, acc := .rc }
/-- MP_EVT.CLAMPED: a change was limited by bounds (R284) -/
def MP_EVT_CLAMPED : Reg := { id := 566, off := 0xAC18, lo := 2, w := 1, acc := .rc }
/-- MP_EVT.EXPIRED: an advised plan expired (R284) -/
def MP_EVT_EXPIRED : Reg := { id := 567, off := 0xAC18, lo := 3, w := 1, acc := .rc }
/-- MP_EVT.IDDONE: an identification run completed (R284) -/
def MP_EVT_IDDONE : Reg := { id := 568, off := 0xAC18, lo := 4, w := 1, acc := .rc }
/-- MP_EVT.IDABORT: a run ended without result (R277) (R284) -/
def MP_EVT_IDABORT : Reg := { id := 569, off := 0xAC18, lo := 5, w := 1, acc := .rc }
/-- MP_EVT.REFUSED: an approval or a change was refused (R284) -/
def MP_EVT_REFUSED : Reg := { id := 570, off := 0xAC18, lo := 6, w := 1, acc := .rc }
/-- MP_ADVEXP: approval window, 1–65,535 s; 0 acts as 1 (R284) -/
def MP_ADVEXP : Reg := { id := 571, off := 0xAC1C, lo := 0, w := 16, acc := .rw, rst := 0x258, app := .frame }
/-- MP_RSEL.OBJ: channel, rail or string number; 0 for die and store (R284) -/
def MP_RSEL_OBJ : Reg := { id := 572, off := 0xAC20, lo := 0, w := 8, acc := .rw, app := .now, per := .acc }
/-- MP_RSEL.QTY: quantity code 0–11 (R274) (R284) -/
def MP_RSEL_QTY : Reg := { id := 573, off := 0xAC20, lo := 8, w := 4, acc := .rw, app := .now, per := .acc }
/-- MP_RES: last result of the selection, Q16.16 in the unit of R274 (R284) -/
def MP_RES : Reg := { id := 574, off := 0xAC24, lo := 0, w := 32, acc := .ro }
/-- MP_RBASE: baseline of the selection, Q16.16 (R284) -/
def MP_RBASE : Reg := { id := 575, off := 0xAC28, lo := 0, w := 32, acc := .ro }
/-- MP_IDSTAT.CHIP: chip of the run in progress (R284) -/
def MP_IDSTAT_CHIP : Reg := { id := 576, off := 0xAC2C, lo := 0, w := 10, acc := .ro }
/-- MP_IDSTAT.PAUSES: pauses in this run (R284) -/
def MP_IDSTAT_PAUSES : Reg := { id := 577, off := 0xAC2C, lo := 10, w := 4, acc := .ro }
/-- MP_IDSTAT.RAIL: rail being identified (R284) -/
def MP_IDSTAT_RAIL : Reg := { id := 578, off := 0xAC2C, lo := 16, w := 4, acc := .ro }
/-- MP_IDSTAT.ACTIVE: a run is in progress (R284) -/
def MP_IDSTAT_ACTIVE : Reg := { id := 579, off := 0xAC2C, lo := 20, w := 1, acc := .ro }
/-- MP_IDSTAT.PAUSED: the run is paused (R277) (R284) -/
def MP_IDSTAT_PAUSED : Reg := { id := 580, off := 0xAC2C, lo := 21, w := 1, acc := .ro }
/-- MP_BND[o].LO: lower bound (R284) -/
def MP_BND_LO : Reg := { id := 581, off := 0xAC40, lo := 0, w := 16, acc := .rw, rst := 0xE00, app := .frame, s2 := 8, n2 := 10, rstx := [(8, 0x0)] }
/-- MP_BND[o].HI: upper bound (R284) -/
def MP_BND_HI : Reg := { id := 582, off := 0xAC40, lo := 16, w := 16, acc := .rw, rst := 0x1200, app := .frame, s2 := 8, n2 := 10, rstx := [(8, 0x50)] }
/-- MP_BND[o].STEP: largest change per plan (R284) -/
def MP_BND_STEP : Reg := { id := 583, off := 0xAC44, lo := 0, w := 16, acc := .rw, rst := 0x80, app := .frame, s2 := 8, n2 := 10, rstx := [(8, 0x8)] }
/-- HQ_CQ_BASE_LO.ADDR: command ring base bits [31:12] (R287) (R305) -/
def HQ_CQ_BASE_LO_ADDR : Reg := { id := 584, off := 0x1000, lo := 12, w := 20, acc := .rw, app := .frame, per := .ep }
/-- HQ_CQ_BASE_HI: command ring base bits [63:32] (R305) -/
def HQ_CQ_BASE_HI : Reg := { id := 585, off := 0x1004, lo := 0, w := 32, acc := .rw, app := .frame, per := .ep }
/-- HQ_CQ_CFG.LOG2SZ: ring size exponent, 4–12; values outside act as the nearer limit (R305) -/
def HQ_CQ_CFG_LOG2SZ : Reg := { id := 586, off := 0x1008, lo := 0, w := 4, acc := .rw, rst := 0x4, app := .frame, per := .ep }
/-- HQ_CQ_CFG.EN: 1 enables the ring (R305) -/
def HQ_CQ_CFG_EN : Reg := { id := 587, off := 0x1008, lo := 4, w := 1, acc := .rw, app := .frame, per := .ep }
/-- HQ_CQ_DB.PI: host producer index (R288) (R305) -/
def HQ_CQ_DB_PI : Reg := { id := 588, off := 0x100C, lo := 0, w := 16, acc := .wo, app := .now, per := .ep }
/-- HQ_CQ_IDX.CI: descriptors fetched (R305) -/
def HQ_CQ_IDX_CI : Reg := { id := 589, off := 0x1010, lo := 0, w := 16, acc := .ro, per := .ep }
/-- HQ_CQ_IDX.PI: producer index in force (R305) -/
def HQ_CQ_IDX_PI : Reg := { id := 590, off := 0x1010, lo := 16, w := 16, acc := .ro, per := .ep }
/-- HQ_CPL_BASE_LO.ADDR: completion ring base bits [31:12] (R305) -/
def HQ_CPL_BASE_LO_ADDR : Reg := { id := 591, off := 0x1020, lo := 12, w := 20, acc := .rw, app := .frame, per := .ep }
/-- HQ_CPL_BASE_HI: completion ring base bits [63:32] (R305) -/
def HQ_CPL_BASE_HI : Reg := { id := 592, off := 0x1024, lo := 0, w := 32, acc := .rw, app := .frame, per := .ep }
/-- HQ_CPL_CFG.LOG2SZ: as HQ_CQ_CFG.LOG2SZ (R305) -/
def HQ_CPL_CFG_LOG2SZ : Reg := { id := 593, off := 0x1028, lo := 0, w := 4, acc := .rw, rst := 0x4, app := .frame, per := .ep }
/-- HQ_CPL_CFG.EN: 1 enables the ring (R305) -/
def HQ_CPL_CFG_EN : Reg := { id := 594, off := 0x1028, lo := 4, w := 1, acc := .rw, app := .frame, per := .ep }
/-- HQ_CPL_CFG.ICOUNT: entries per vector 0 message (R304), 1–255; 0 acts as 1 (R305) -/
def HQ_CPL_CFG_ICOUNT : Reg := { id := 595, off := 0x1028, lo := 8, w := 8, acc := .rw, rst := 0x1, app := .frame, per := .ep }
/-- HQ_CPL_CFG.ITIME: longest wait before vector 0, 1–65,535 ticks; 0 acts as 1 (R305) -/
def HQ_CPL_CFG_ITIME : Reg := { id := 596, off := 0x1028, lo := 16, w := 16, acc := .rw, rst := 0x64, app := .frame, per := .ep }
/-- HQ_CPL_DB.CI: host consumer index (R305) -/
def HQ_CPL_DB_CI : Reg := { id := 597, off := 0x102C, lo := 0, w := 16, acc := .wo, app := .now, per := .ep }
/-- HQ_CPL_IDX.PI: entries written (R305) -/
def HQ_CPL_IDX_PI : Reg := { id := 598, off := 0x1030, lo := 0, w := 16, acc := .ro, per := .ep }
/-- HQ_CPL_IDX.CI: consumer index in force (R305) -/
def HQ_CPL_IDX_CI : Reg := { id := 599, off := 0x1030, lo := 16, w := 16, acc := .ro, per := .ep }
/-- HQ_EVQ_BASE_LO.ADDR: event ring base bits [31:12] (R305) -/
def HQ_EVQ_BASE_LO_ADDR : Reg := { id := 600, off := 0x1040, lo := 12, w := 20, acc := .rw, app := .frame, per := .ep }
/-- HQ_EVQ_BASE_HI: event ring base bits [63:32] (R305) -/
def HQ_EVQ_BASE_HI : Reg := { id := 601, off := 0x1044, lo := 0, w := 32, acc := .rw, app := .frame, per := .ep }
/-- HQ_EVQ_CFG.LOG2SZ: as HQ_CQ_CFG.LOG2SZ (R305) -/
def HQ_EVQ_CFG_LOG2SZ : Reg := { id := 602, off := 0x1048, lo := 0, w := 4, acc := .rw, rst := 0x4, app := .frame, per := .ep }
/-- HQ_EVQ_CFG.EN: 1 enables the ring (R305) -/
def HQ_EVQ_CFG_EN : Reg := { id := 603, off := 0x1048, lo := 4, w := 1, acc := .rw, app := .frame, per := .ep }
/-- HQ_EVQ_CFG.ICOUNT: entries per vector 1 message, 1–255; 0 acts as 1 (R305) -/
def HQ_EVQ_CFG_ICOUNT : Reg := { id := 604, off := 0x1048, lo := 8, w := 8, acc := .rw, rst := 0x1, app := .frame, per := .ep }
/-- HQ_EVQ_CFG.ITIME: longest wait before vector 1, 1–65,535 ticks; 0 acts as 1 (R305) -/
def HQ_EVQ_CFG_ITIME : Reg := { id := 605, off := 0x1048, lo := 16, w := 16, acc := .rw, rst := 0x64, app := .frame, per := .ep }
/-- HQ_EVQ_DB.CI: host consumer index (R305) -/
def HQ_EVQ_DB_CI : Reg := { id := 606, off := 0x104C, lo := 0, w := 16, acc := .wo, app := .now, per := .ep }
/-- HQ_EVQ_IDX.PI: entries written (R305) -/
def HQ_EVQ_IDX_PI : Reg := { id := 607, off := 0x1050, lo := 0, w := 16, acc := .ro, per := .ep }
/-- HQ_EVQ_IDX.CI: consumer index in force (R305) -/
def HQ_EVQ_IDX_CI : Reg := { id := 608, off := 0x1050, lo := 16, w := 16, acc := .ro, per := .ep }
/-- HQ_TEL_BASE_LO.ADDR: telemetry ring base bits [31:12] (R305) -/
def HQ_TEL_BASE_LO_ADDR : Reg := { id := 609, off := 0x1060, lo := 12, w := 20, acc := .rw, app := .frame, per := .ep }
/-- HQ_TEL_BASE_HI: telemetry ring base bits [63:32] (R305) -/
def HQ_TEL_BASE_HI : Reg := { id := 610, off := 0x1064, lo := 0, w := 32, acc := .rw, app := .frame, per := .ep }
/-- HQ_TEL_CFG.LOG2SZ: as HQ_CQ_CFG.LOG2SZ (R305) -/
def HQ_TEL_CFG_LOG2SZ : Reg := { id := 611, off := 0x1068, lo := 0, w := 4, acc := .rw, rst := 0x4, app := .frame, per := .ep }
/-- HQ_TEL_CFG.EN: 1 enables the ring (R305) -/
def HQ_TEL_CFG_EN : Reg := { id := 612, off := 0x1068, lo := 4, w := 1, acc := .rw, app := .frame, per := .ep }
/-- HQ_TEL_DB.CI: host consumer index (R305) -/
def HQ_TEL_DB_CI : Reg := { id := 613, off := 0x106C, lo := 0, w := 16, acc := .wo, app := .now, per := .ep }
/-- HQ_TEL_IDX.PI: entries written (R305) -/
def HQ_TEL_IDX_PI : Reg := { id := 614, off := 0x1070, lo := 0, w := 16, acc := .ro, per := .ep }
/-- HQ_TEL_IDX.CI: consumer index in force (R305) -/
def HQ_TEL_IDX_CI : Reg := { id := 615, off := 0x1070, lo := 16, w := 16, acc := .ro, per := .ep }
/-- HQ_MIR_LO.ADDR: mirror block address bits [31:4] (R289) (R305) -/
def HQ_MIR_LO_ADDR : Reg := { id := 616, off := 0x1080, lo := 4, w := 28, acc := .rw, app := .frame, per := .ep }
/-- HQ_MIR_HI: mirror block address bits [63:32] (R305) -/
def HQ_MIR_HI : Reg := { id := 617, off := 0x1084, lo := 0, w := 32, acc := .rw, app := .frame, per := .ep }
/-- HQ_MIR_CFG.EN: 1 enables the mirror block (R305) -/
def HQ_MIR_CFG_EN : Reg := { id := 618, off := 0x1088, lo := 0, w := 1, acc := .rw, app := .frame, per := .ep }
/-- HQ_PHTO: idle time before reclaim, 1–65,535 ms; 0 acts as 1; reset 10 s (R303) (R305) -/
def HQ_PHTO : Reg := { id := 619, off := 0x108C, lo := 0, w := 16, acc := .rw, rst := 0x2710, app := .frame, per := .ep }
/-- HQ_STATUS.PEND: 1 while a staged HQ_ write waits (R305) -/
def HQ_STATUS_PEND : Reg := { id := 620, off := 0x1090, lo := 0, w := 1, acc := .ro, per := .ep }
/-- HQ_STATUS.LINK: the endpoint's link is up (R305) -/
def HQ_STATUS_LINK : Reg := { id := 621, off := 0x1090, lo := 1, w := 1, acc := .ro, per := .ep }
/-- HQ_STATUS.FETCH: command and completion rings both enabled (R305) -/
def HQ_STATUS_FETCH : Reg := { id := 622, off := 0x1090, lo := 2, w := 1, acc := .ro, per := .ep }
/-- HQ_EVT.DBERR: an invalid doorbell was ignored (R288) (R305) -/
def HQ_EVT_DBERR : Reg := { id := 623, off := 0x1094, lo := 0, w := 1, acc := .rc, per := .ep }
/-- HQ_EVT.EVDROP: an event entry was discarded (R297) (R305) -/
def HQ_EVT_EVDROP : Reg := { id := 624, off := 0x1094, lo := 1, w := 1, acc := .rc, per := .ep }
/-- HQ_EVT.PHVIOL: a pigeonhole write was ignored or discarded (R301, R302) (R305) -/
def HQ_EVT_PHVIOL : Reg := { id := 625, off := 0x1094, lo := 2, w := 1, acc := .rc, per := .ep }
/-- HQ_EVT.DMAERR: a ring was disabled by a DMA error (R299) (R305) -/
def HQ_EVT_DMAERR : Reg := { id := 626, off := 0x1094, lo := 3, w := 1, acc := .rc, per := .ep }
/-- HQ_EVT.LATE: a descriptor read completed at or after the second tick edge following its issue (R296) (R305) -/
def HQ_EVT_LATE : Reg := { id := 627, off := 0x1094, lo := 4, w := 1, acc := .rc, per := .ep }
/-- HQ_EVT.RECLAIM: a hole of this endpoint was reclaimed (R303) (R305) -/
def HQ_EVT_RECLAIM : Reg := { id := 628, off := 0x1094, lo := 5, w := 1, acc := .rc, per := .ep }
/-- HQ_EVDROP: discarded event entries, saturating (R305) -/
def HQ_EVDROP : Reg := { id := 629, off := 0x1098, lo := 0, w := 32, acc := .ro, per := .ep }
/-- HQ_LATE: late descriptor reads, saturating (R305) -/
def HQ_LATE : Reg := { id := 630, off := 0x109C, lo := 0, w := 32, acc := .ro, per := .ep }
/-- HQ_DMAERR: ring DMA errors, saturating (R305) -/
def HQ_DMAERR : Reg := { id := 631, off := 0x10A0, lo := 0, w := 32, acc := .ro, per := .ep }
/-- HQ_PH[n].STATE: n = 0–63; 0 FREE; 1 HOST; 2 DEVICE; 3 DONE (R301) (R305) -/
def HQ_PH_STATE : Reg := { id := 632, off := 0x1400, lo := 0, w := 2, acc := .ro, s2 := 4, n2 := 64 }
/-- HQ_PH[n].HOLDER: 0 host A; 1 host B (R305) -/
def HQ_PH_HOLDER : Reg := { id := 633, off := 0x1400, lo := 2, w := 1, acc := .ro, s2 := 4, n2 := 64 }
/-- HQ_PH[n].AREA: 0 inbound; 1 readout; 2 result (R300) (R305) -/
def HQ_PH_AREA : Reg := { id := 634, off := 0x1400, lo := 3, w := 2, acc := .ro, s2 := 4, n2 := 64, rstx := [(48, 0x1), (49, 0x1), (50, 0x1), (51, 0x1), (52, 0x1), (53, 0x1), (54, 0x1), (55, 0x1), (56, 0x2), (57, 0x2), (58, 0x2), (59, 0x2), (60, 0x2), (61, 0x2), (62, 0x2), (63, 0x2)] }
/-- HQ_PH[n].OP: 1 claim; 2 release; 0 and 3 no action (R305) -/
def HQ_PH_OP : Reg := { id := 635, off := 0x1400, lo := 8, w := 2, acc := .wo, app := .now, s2 := 4, n2 := 64 }
/-- HQ_PH[n].LEN: valid bytes in DONE, 0–4096 (R305) -/
def HQ_PH_LEN : Reg := { id := 636, off := 0x1400, lo := 16, w := 13, acc := .ro, s2 := 4, n2 := 64 }
/-- AU_CTRL.MODE: mode in force: 0 SINGLE_A; 1 SINGLE_B; 2 TWIN (R306) (R323) -/
def AU_CTRL_MODE : Reg := { id := 637, off := 0x1800, lo := 0, w := 2, acc := .ro }
/-- AU_CTRL.BSRC: brace source: 0 pins; 1 TWB tokens (R318) (R323) -/
def AU_CTRL_BSRC : Reg := { id := 638, off := 0x1800, lo := 2, w := 1, acc := .ro }
/-- AU_STATUS.PEND: 1 while a staged AU_ write waits (R323) -/
def AU_STATUS_PEND : Reg := { id := 639, off := 0x1804, lo := 0, w := 1, acc := .ro }
/-- AU_STATUS.AUTH: authority in force: 0 none; 1 host A; 2 host B (R323) -/
def AU_STATUS_AUTH : Reg := { id := 640, off := 0x1804, lo := 1, w := 2, acc := .ro }
/-- AU_STATUS.PINS: AUTH1, AUTH0 as last latched (R323) -/
def AU_STATUS_PINS : Reg := { id := 641, off := 0x1804, lo := 3, w := 2, acc := .ro }
/-- AU_STATUS.DIVERGE: DIVERGE_N asserted (R316) (R323) -/
def AU_STATUS_DIVERGE : Reg := { id := 642, off := 0x1804, lo := 5, w := 1, acc := .ro }
/-- AU_STATUS.NHELD: held divergences, 0–8 (R323) -/
def AU_STATUS_NHELD : Reg := { id := 643, off := 0x1804, lo := 6, w := 4, acc := .ro }
/-- AU_STATUS.TOKST: 0 none; 1 checking; 2 accepted; 3 bad format; 4 bad nonce; 5 bad signature; 6 halted (R323) -/
def AU_STATUS_TOKST : Reg := { id := 644, off := 0x1804, lo := 10, w := 3, acc := .ro }
/-- AU_STATUS.ESET_A: E_A set (R308) (R323) -/
def AU_STATUS_ESET_A : Reg := { id := 645, off := 0x1804, lo := 13, w := 1, acc := .ro }
/-- AU_STATUS.ESET_B: E_B set (R323) -/
def AU_STATUS_ESET_B : Reg := { id := 646, off := 0x1804, lo := 14, w := 1, acc := .ro }
/-- AU_WIN.WIN: pairing window, 1–1000 ticks; 0 acts as 1, values above 1000 act as 1000 (R323) -/
def AU_WIN_WIN : Reg := { id := 647, off := 0x1808, lo := 0, w := 10, acc := .rw, rst := 0xFA, app := .frame }
/-- AU_WIN.BFILT: brace pin filter, 1–255 ticks; 0 acts as 1 (R323) -/
def AU_WIN_BFILT : Reg := { id := 648, off := 0x1808, lo := 16, w := 8, acc := .rw, rst := 0xA, app := .frame }
/-- AU_TIME.VWAIT: verdict wait, 1–65,535 ticks; 0 acts as 1 (R323) -/
def AU_TIME_VWAIT : Reg := { id := 649, off := 0x180C, lo := 0, w := 16, acc := .rw, rst := 0x3E8, app := .frame }
/-- AU_TIME.DPULSE: DIVERGE_N pulse for an ungated divergence, 1–65,535 ticks; 0 acts as 1 (R323) -/
def AU_TIME_DPULSE : Reg := { id := 650, off := 0x180C, lo := 16, w := 16, acc := .rw, rst := 0x3E8, app := .frame }
/-- AU_SEQ_A: E_A, valid while ESET_A is 1 (R323) -/
def AU_SEQ_A : Reg := { id := 651, off := 0x1810, lo := 0, w := 32, acc := .ro }
/-- AU_SEQ_B: E_B, valid while ESET_B is 1 (R323) -/
def AU_SEQ_B : Reg := { id := 652, off := 0x1814, lo := 0, w := 32, acc := .ro }
/-- AU_HSEQ: latest SEQ admitted from either endpoint since TWIN was entered (R323) -/
def AU_HSEQ : Reg := { id := 653, off := 0x1818, lo := 0, w := 32, acc := .ro }
/-- AU_NPEND: open pairing entries, 0–1024 (R323) -/
def AU_NPEND : Reg := { id := 654, off := 0x181C, lo := 0, w := 11, acc := .ro }
/-- AU_EVT.AUTH: the authority changed (R323) -/
def AU_EVT_AUTH : Reg := { id := 655, off := 0x1820, lo := 0, w := 1, acc := .rc }
/-- AU_EVT.UDIV: an ungated divergence occurred (R323) -/
def AU_EVT_UDIV : Reg := { id := 656, off := 0x1820, lo := 1, w := 1, acc := .rc }
/-- AU_EVT.GDIV: a gated divergence was held (R323) -/
def AU_EVT_GDIV : Reg := { id := 657, off := 0x1820, lo := 2, w := 1, acc := .rc }
/-- AU_EVT.VERDICT: a verdict was applied (R323) -/
def AU_EVT_VERDICT : Reg := { id := 658, off := 0x1820, lo := 3, w := 1, acc := .rc }
/-- AU_EVT.VTIMEOUT: a verdict wait expired (R323) -/
def AU_EVT_VTIMEOUT : Reg := { id := 659, off := 0x1820, lo := 4, w := 1, acc := .rc }
/-- AU_EVT.VREFUSED: a verdict named no held SEQ (R323) -/
def AU_EVT_VREFUSED : Reg := { id := 660, off := 0x1820, lo := 5, w := 1, acc := .rc }
/-- AU_EVT.NOPAIR: a gated window expired without authority (R323) -/
def AU_EVT_NOPAIR : Reg := { id := 661, off := 0x1820, lo := 6, w := 1, acc := .rc }
/-- AU_EVT.LATE: a copy was LATE or ORDER (R323) -/
def AU_EVT_LATE : Reg := { id := 662, off := 0x1820, lo := 7, w := 1, acc := .rc }
/-- AU_EVT.EVICT: an entry was closed early (R310) (R323) -/
def AU_EVT_EVICT : Reg := { id := 663, off := 0x1820, lo := 8, w := 1, acc := .rc }
/-- AU_EVT.TOKEN: a token was accepted (R323) -/
def AU_EVT_TOKEN : Reg := { id := 664, off := 0x1820, lo := 9, w := 1, acc := .rc }
/-- AU_EVT.TOKFAIL: a token was refused (R323) -/
def AU_EVT_TOKFAIL : Reg := { id := 665, off := 0x1820, lo := 10, w := 1, acc := .rc }
/-- AU_EVT.LEASE: a lease expired (R323) -/
def AU_EVT_LEASE : Reg := { id := 666, off := 0x1820, lo := 11, w := 1, acc := .rc }
/-- AU_EVT.MODE: a mode change applied (R323) -/
def AU_EVT_MODE : Reg := { id := 667, off := 0x1820, lo := 12, w := 1, acc := .rc }
/-- AU_DLCNT: recorded dead letters, saturating (R323) -/
def AU_DLCNT : Reg := { id := 668, off := 0x1824, lo := 0, w := 32, acc := .ro }
/-- AU_EVICT: entries closed early, saturating (R323) -/
def AU_EVICT : Reg := { id := 669, off := 0x1828, lo := 0, w := 32, acc := .ro }
/-- AU_DIVCNT: divergences, saturating (R323) -/
def AU_DIVCNT : Reg := { id := 670, off := 0x182C, lo := 0, w := 32, acc := .ro }
/-- AU_DIV_SEQ: SEQ of the oldest held divergence (R323) -/
def AU_DIV_SEQ : Reg := { id := 671, off := 0x1830, lo := 0, w := 32, acc := .ro }
/-- AU_DIV_DIGA: digest of host A's copy (R323) -/
def AU_DIV_DIGA : Reg := { id := 672, off := 0x1834, lo := 0, w := 32, acc := .ro }
/-- AU_DIV_DIGB: digest of host B's copy (R323) -/
def AU_DIV_DIGB : Reg := { id := 673, off := 0x1838, lo := 0, w := 32, acc := .ro }
/-- AU_VERDICT_SEQ: TWB only; SEQ named by the verdict (R323) -/
def AU_VERDICT_SEQ : Reg := { id := 674, off := 0x183C, lo := 0, w := 32, acc := .rw, app := .now }
/-- AU_VERDICT.ACTION: TWB only; 1 host A's copy; 2 host B's copy; 3 reject; 0 no action (R315) (R323) -/
def AU_VERDICT_ACTION : Reg := { id := 675, off := 0x1840, lo := 0, w := 2, acc := .wo, app := .now }
/-- AU_NONCE_LO: TWB only; nonce bits [31:0]; latches [63:32] (R323) -/
def AU_NONCE_LO : Reg := { id := 676, off := 0x1844, lo := 0, w := 64, acc := .ll }
/-- AU_NONCE_HI: TWB only; latched nonce bits [63:32] (R323) -/
def AU_NONCE_HI : Reg := { id := 677, off := 0x1848, lo := 0, w := 32, acc := .lh, per := .acc }
/-- AU_LEASE: remaining lease, 10 ms units (R320) (R323) -/
def AU_LEASE : Reg := { id := 678, off := 0x184C, lo := 0, w := 16, acc := .ro }
/-- AU_TOKCMD.GO: TWB only; 1 submits the token (R319) (R323) -/
def AU_TOKCMD_GO : Reg := { id := 679, off := 0x1850, lo := 0, w := 1, acc := .wo, app := .now }
/-- AU_TOK[w]: TWB only; w = 0–19; token bytes 4w to 4w + 3 (R323) -/
def AU_TOK : Reg := { id := 680, off := 0x1860, lo := 0, w := 32, acc := .rw, app := .now, s2 := 4, n2 := 20 }

/-- Part of the list of every field. -/
def list2_0 : List Reg := [TM_CTRL_SNAP_EN, TM_STATUS_PEND, TM_STATUS_BUSY, TM_SNAP_SPER, TM_AVGK0_PH, TM_AVGK0_LEAD, TM_AVGK0_FUSE, TM_AVGK0_PSW, TM_AVGK1_STR, TM_AVGK1_LEG, TM_AVGK1_FM, TM_SNAPNUM, TM_SKIP, TM_DROPA, TM_DROPB, TM_EVT_SKIP, TM_EVT_DROPA, TM_EVT_DROPB, TM_SEL_CH, TM_CHSTAT_VALID]
/-- Part of the list of every field. -/
def list2_1 : List Reg := [TM_CHSTAT_STALE, TM_CHSTAT_EMPTY, TM_CHSTAT_HELD, TM_AV_V, TM_AV_I, TM_AV_P, TM_AV_T, TM_PK_VMAX, TM_PK_VMIN, TM_PK_IMAX, TM_PK_IMIN, TM_PK_PMAX, TM_PK_PMIN, TM_PK_TMAX, TM_PK_TMIN, TM_EOUT_LO, TM_EOUT_HI, TM_EIN_LO, TM_EIN_HI, TM_LAST_V]
/-- Part of the list of every field. -/
def list2_2 : List Reg := [TM_LAST_I, TM_LAST_P, TM_LAST_T, TM_EHUB_LO, TM_EHUB_HI, TM_ECHG_LO, TM_ECHG_HI, TM_SNAPSEL, TH_CTRL_LVLMIN, TH_CTRL_CRIT_ACT, TH_STATUS_LEVEL, TH_STATUS_PEND, TH_STATUS_HOT, TH_STATUS_CRIT, TH_DIE, TH_DIEAVG, TH_LVL_TL0, TH_LVL_TSTEP, TH_LVL_THYST, TH_DLIM_TWARN]
/-- Part of the list of every field. -/
def list2_3 : List Reg := [TH_DLIM_TCRIT, TH_DLIM_CFILT, TH_PAUSE_1, TH_PAUSE_2, TH_PAUSE_3, TH_PAUSE_4, TH_PAUSE_5, TH_PAUSE_6, TH_PAUSE_7, TH_RATE_W, TH_RATE_DIE, TH_RATE_STG, TH_RATE_ACT, TH_RATE_RLIM, TH_STG_TWARN, TH_STG_TFAULT, TH_STG_ACT, TH_SFILT, TH_EVT_LEVEL, TH_EVT_DIEWARN]
/-- Part of the list of every field. -/
def list2_4 : List Reg := [TH_EVT_DIECRIT, TH_EVT_DRATE, TH_EVT_SWARN, TH_EVT_SFAULT, TH_EVT_SRATE, TH_LAST_CH, TH_LAST_LIM, TH_PAUSECNT, MP_CTRL_MODE, MP_CTRL_ID_EN, MP_CTRL_MEAS_EN, MP_CTRL_PERIOD, MP_STATUS_PEND, MP_STATUS_ADVPEND, MP_PLANNUM, MP_ID_AMP, MP_ID_CHIP, MP_ID_MAXP, MP_ID_RAILMASK, MP_CMD_APPROVE]
/-- Part of the list of every field. -/
def list2_5 : List Reg := [MP_CMD_REJECT, MP_CMD_RUNNOW, MP_CMD_REBASE, MP_APPRNUM, MP_EVT_PLAN, MP_EVT_APPLIED, MP_EVT_CLAMPED, MP_EVT_EXPIRED, MP_EVT_IDDONE, MP_EVT_IDABORT, MP_EVT_REFUSED, MP_ADVEXP, MP_RSEL_OBJ, MP_RSEL_QTY, MP_RES, MP_RBASE, MP_IDSTAT_CHIP, MP_IDSTAT_PAUSES, MP_IDSTAT_RAIL, MP_IDSTAT_ACTIVE]
/-- Part of the list of every field. -/
def list2_6 : List Reg := [MP_IDSTAT_PAUSED, MP_BND_LO, MP_BND_HI, MP_BND_STEP, HQ_CQ_BASE_LO_ADDR, HQ_CQ_BASE_HI, HQ_CQ_CFG_LOG2SZ, HQ_CQ_CFG_EN, HQ_CQ_DB_PI, HQ_CQ_IDX_CI, HQ_CQ_IDX_PI, HQ_CPL_BASE_LO_ADDR, HQ_CPL_BASE_HI, HQ_CPL_CFG_LOG2SZ, HQ_CPL_CFG_EN, HQ_CPL_CFG_ICOUNT, HQ_CPL_CFG_ITIME, HQ_CPL_DB_CI, HQ_CPL_IDX_PI, HQ_CPL_IDX_CI]
/-- Part of the list of every field. -/
def list2_7 : List Reg := [HQ_EVQ_BASE_LO_ADDR, HQ_EVQ_BASE_HI, HQ_EVQ_CFG_LOG2SZ, HQ_EVQ_CFG_EN, HQ_EVQ_CFG_ICOUNT, HQ_EVQ_CFG_ITIME, HQ_EVQ_DB_CI, HQ_EVQ_IDX_PI, HQ_EVQ_IDX_CI, HQ_TEL_BASE_LO_ADDR, HQ_TEL_BASE_HI, HQ_TEL_CFG_LOG2SZ, HQ_TEL_CFG_EN, HQ_TEL_DB_CI, HQ_TEL_IDX_PI, HQ_TEL_IDX_CI, HQ_MIR_LO_ADDR, HQ_MIR_HI, HQ_MIR_CFG_EN, HQ_PHTO]
/-- Part of the list of every field. -/
def list2_8 : List Reg := [HQ_STATUS_PEND, HQ_STATUS_LINK, HQ_STATUS_FETCH, HQ_EVT_DBERR, HQ_EVT_EVDROP, HQ_EVT_PHVIOL, HQ_EVT_DMAERR, HQ_EVT_LATE, HQ_EVT_RECLAIM, HQ_EVDROP, HQ_LATE, HQ_DMAERR, HQ_PH_STATE, HQ_PH_HOLDER, HQ_PH_AREA, HQ_PH_OP, HQ_PH_LEN, AU_CTRL_MODE, AU_CTRL_BSRC, AU_STATUS_PEND]
/-- Part of the list of every field. -/
def list2_9 : List Reg := [AU_STATUS_AUTH, AU_STATUS_PINS, AU_STATUS_DIVERGE, AU_STATUS_NHELD, AU_STATUS_TOKST, AU_STATUS_ESET_A, AU_STATUS_ESET_B, AU_WIN_WIN, AU_WIN_BFILT, AU_TIME_VWAIT, AU_TIME_DPULSE, AU_SEQ_A, AU_SEQ_B, AU_HSEQ, AU_NPEND, AU_EVT_AUTH, AU_EVT_UDIV, AU_EVT_GDIV, AU_EVT_VERDICT, AU_EVT_VTIMEOUT]
/-- Part of the list of every field. -/
def list2_10 : List Reg := [AU_EVT_VREFUSED, AU_EVT_NOPAIR, AU_EVT_LATE, AU_EVT_EVICT, AU_EVT_TOKEN, AU_EVT_TOKFAIL, AU_EVT_LEASE, AU_EVT_MODE, AU_DLCNT, AU_EVICT, AU_DIVCNT, AU_DIV_SEQ, AU_DIV_DIGA, AU_DIV_DIGB, AU_VERDICT_SEQ, AU_VERDICT_ACTION, AU_NONCE_LO, AU_NONCE_HI, AU_LEASE, AU_TOKCMD_GO]
/-- Part of the list of every field. -/
def list2_11 : List Reg := [AU_TOK]
/-- Every field of this file. -/
def all2 : List Reg := list2_0 ++ list2_1 ++ list2_2 ++ list2_3 ++ list2_4 ++ list2_5 ++ list2_6 ++ list2_7 ++ list2_8 ++ list2_9 ++ list2_10 ++ list2_11

end Sys2Proof.Machine.R
end

