-- ==== Sys2Proof/Machine/Regs3.lean ====
section
/-! DEFINITION. The register fields of the manual's tables: recorder, store, update, two-wire, service port, power, global and interrupts. One definition per field, its place, access, reset value and apply boundary as its table row gives them. -/

namespace Sys2Proof.Machine.R

/-- EV_CTRL.TRIG_EN: 1 lets triggers open registrations (R330) (R339) -/
def EV_CTRL_TRIG_EN : Reg := { id := 681, off := 0xB000, lo := 0, w := 1, acc := .rw, rst := 0x1, app := .frame }
/-- EV_STATUS.PEND: 1 while a staged EV_ write waits (R339) -/
def EV_STATUS_PEND : Reg := { id := 682, off := 0xB004, lo := 0, w := 1, acc := .ro }
/-- EV_STATUS.CAPT: a registration is capturing (R339) -/
def EV_STATUS_CAPT : Reg := { id := 683, off := 0xB004, lo := 1, w := 1, acc := .ro }
/-- EV_STATUS.NREG: registrations in use, 0–16 (R339) -/
def EV_STATUS_NREG : Reg := { id := 684, off := 0xB004, lo := 2, w := 5, acc := .ro }
/-- EV_STATUS.CLRBUSY: background overwrite of a clear in progress (R334) (R339) -/
def EV_STATUS_CLRBUSY : Reg := { id := 685, off := 0xB004, lo := 7, w := 1, acc := .ro }
/-- EV_STATUS.NOPEN: open records, 0–32 (R328) (R339) -/
def EV_STATUS_NOPEN : Reg := { id := 686, off := 0xB004, lo := 8, w := 6, acc := .ro }
/-- EV_STATUS.EPOCH: region epoch (R326); kept in the store (R339) -/
def EV_STATUS_EPOCH : Reg := { id := 687, off := 0xB004, lo := 16, w := 16, acc := .ro }
/-- EV_RNUM: number the next record will take; kept in the store (R339) -/
def EV_RNUM : Reg := { id := 688, off := 0xB008, lo := 0, w := 32, acc := .ro }
/-- EV_OLDEST: oldest record number readable in the rolling region (R339) -/
def EV_OLDEST : Reg := { id := 689, off := 0xB00C, lo := 0, w := 32, acc := .ro }
/-- EV_FOLD.QUIET: quiet time that closes an open record, 1–65,535 ticks; 0 acts as 1 (R339) -/
def EV_FOLD_QUIET : Reg := { id := 690, off := 0xB010, lo := 0, w := 16, acc := .rw, rst := 0x3E8, app := .frame }
/-- EV_RLIM.RATE: default token rate, 1–65,535 per s; 0 acts as 1 (R339) -/
def EV_RLIM_RATE : Reg := { id := 691, off := 0xB014, lo := 0, w := 16, acc := .rw, rst := 0x64, app := .frame }
/-- EV_RLIM.BURST: default bucket depth, 1–255; 0 acts as 1 (R339) -/
def EV_RLIM_BURST : Reg := { id := 692, off := 0xB014, lo := 16, w := 8, acc := .rw, rst := 0x10, app := .frame }
/-- EV_CMD.REGISTER: 1 raises a manual trigger (R330) (R339) -/
def EV_CMD_REGISTER : Reg := { id := 693, off := 0xB018, lo := 0, w := 1, acc := .wo, app := .now }
/-- EV_EVT.TRIG: a registration opened (R339) -/
def EV_EVT_TRIG : Reg := { id := 694, off := 0xB01C, lo := 0, w := 1, acc := .rc }
/-- EV_EVT.REFUSED: a trigger was refused (R331) (R339) -/
def EV_EVT_REFUSED : Reg := { id := 695, off := 0xB01C, lo := 1, w := 1, acc := .rc }
/-- EV_EVT.SUPP: an entry was rate-suppressed (R329) (R339) -/
def EV_EVT_SUPP : Reg := { id := 696, off := 0xB01C, lo := 2, w := 1, acc := .rc }
/-- EV_EVT.QREF: the queue refused an entry (R26) (R339) -/
def EV_EVT_QREF : Reg := { id := 697, off := 0xB01C, lo := 3, w := 1, acc := .rc }
/-- EV_EVT.WRAP: record numbers wrapped (R326) (R339) -/
def EV_EVT_WRAP : Reg := { id := 698, off := 0xB01C, lo := 4, w := 1, acc := .rc }
/-- EV_EVT.CLEAR: a clear applied (R334) (R339) -/
def EV_EVT_CLEAR : Reg := { id := 699, off := 0xB01C, lo := 5, w := 1, acc := .rc }
/-- EV_EVT.FRKERR: a record failed its franking (R325) (R339) -/
def EV_EVT_FRKERR : Reg := { id := 700, off := 0xB01C, lo := 6, w := 1, acc := .rc }
/-- EV_QREF: entries refused by the queue, saturating (R339) -/
def EV_QREF : Reg := { id := 701, off := 0xB020, lo := 0, w := 32, acc := .ro }
/-- EV_SUPP: entries rate-suppressed, saturating (R339) -/
def EV_SUPP : Reg := { id := 702, off := 0xB024, lo := 0, w := 32, acc := .ro }
/-- EV_FRKERR: franking failures on read, saturating (R339) -/
def EV_FRKERR : Reg := { id := 703, off := 0xB028, lo := 0, w := 32, acc := .ro }
/-- EV_NONCE_LO: clear nonce bits [31:0]; latches [63:32] (R333) (R339) -/
def EV_NONCE_LO : Reg := { id := 704, off := 0xB02C, lo := 0, w := 64, acc := .ll }
/-- EV_NONCE_HI: latched nonce bits [63:32] (R339) -/
def EV_NONCE_HI : Reg := { id := 705, off := 0xB030, lo := 0, w := 32, acc := .lh, per := .acc }
/-- EV_RSEL.REGION: per accessor; 0 rolling; 1 registered (R339) -/
def EV_RSEL_REGION : Reg := { id := 706, off := 0xB034, lo := 0, w := 1, acc := .rw, app := .now, per := .acc }
/-- EV_RPOS: per accessor; record number or position read at EV_RWIN (R337) (R339) -/
def EV_RPOS : Reg := { id := 707, off := 0xB038, lo := 0, w := 32, acc := .rw, app := .now, per := .acc }
/-- EV_ROVR[i].CODE: i = 0–15; code with its own limit; 0x0000 unused (R339) -/
def EV_ROVR_CODE : Reg := { id := 708, off := 0xB040, lo := 0, w := 16, acc := .rw, app := .frame, s2 := 8, n2 := 16 }
/-- EV_ROVR[i].BURST: bucket depth, 1–255; 0 acts as 1 (R339) -/
def EV_ROVR_BURST : Reg := { id := 709, off := 0xB040, lo := 16, w := 8, acc := .rw, rst := 0x10, app := .frame, s2 := 8, n2 := 16 }
/-- EV_ROVR[i].RATE: token rate, 1–65,535 per s; 0 acts as 1 (R339) -/
def EV_ROVR_RATE : Reg := { id := 710, off := 0xB044, lo := 0, w := 16, acc := .rw, rst := 0x64, app := .frame, s2 := 8, n2 := 16 }
/-- EV_TRIG[j].CODE: j = 0–7; trigger code (R339) -/
def EV_TRIG_CODE : Reg := { id := 711, off := 0xB0C0, lo := 0, w := 16, acc := .rw, app := .frame, s2 := 4, n2 := 8 }
/-- EV_TRIG[j].EN: entry enabled (R339) -/
def EV_TRIG_EN : Reg := { id := 712, off := 0xB0C0, lo := 16, w := 1, acc := .rw, app := .frame, s2 := 4, n2 := 8 }
/-- EV_TRIG[j].SEVMODE: 0 match CODE; 1 match any code with SEV ≥ SEV (R339) -/
def EV_TRIG_SEVMODE : Reg := { id := 713, off := 0xB0C0, lo := 17, w := 1, acc := .rw, app := .frame, s2 := 4, n2 := 8 }
/-- EV_TRIG[j].SEV: severity for SEVMODE 1 (R339) -/
def EV_TRIG_SEV : Reg := { id := 714, off := 0xB0C0, lo := 18, w := 4, acc := .rw, rst := 0x3, app := .frame, s2 := 4, n2 := 8 }
/-- EV_REGD[i].TRNUM: i = 0–15; RNUM of the trigger record (R339) -/
def EV_REGD_TRNUM : Reg := { id := 715, off := 0xB100, lo := 0, w := 32, acc := .ro, s2 := 16, n2 := 16 }
/-- EV_REGD[i].EPOCH: epoch of the trigger record (R339) -/
def EV_REGD_EPOCH : Reg := { id := 716, off := 0xB104, lo := 0, w := 16, acc := .ro, s2 := 16, n2 := 16 }
/-- EV_REGD[i].STATE: 0 free; 1 capturing; 2 complete (R339) -/
def EV_REGD_STATE : Reg := { id := 717, off := 0xB104, lo := 16, w := 2, acc := .ro, s2 := 16, n2 := 16 }
/-- EV_REGD[i].NPRE: pre-trigger records held, 0–256 (R339) -/
def EV_REGD_NPRE : Reg := { id := 718, off := 0xB104, lo := 18, w := 9, acc := .ro, s2 := 16, n2 := 16 }
/-- EV_REGD[i].NPOST: post-trigger records held, 0–768 (R339) -/
def EV_REGD_NPOST : Reg := { id := 719, off := 0xB108, lo := 0, w := 10, acc := .ro, s2 := 16, n2 := 16 }
/-- EV_REGD[i].NTRIG: triggers during capture, saturating (R331) (R339) -/
def EV_REGD_NTRIG : Reg := { id := 720, off := 0xB108, lo := 16, w := 16, acc := .ro, s2 := 16, n2 := 16 }
/-- EV_REGD[i].CODE: code of the trigger record (R339) -/
def EV_REGD_CODE : Reg := { id := 721, off := 0xB10C, lo := 0, w := 16, acc := .ro, s2 := 16, n2 := 16 }
/-- EV_RWIN[w]: w = 0–15; bytes 4w to 4w + 3 of the record at EV_RSEL and EV_RPOS; 0 when none (R339) -/
def EV_RWIN : Reg := { id := 722, off := 0xB200, lo := 0, w := 32, acc := .ro, s2 := 4, n2 := 16 }
/-- NV_STATUS.PEND: 1 while a staged NV_ write waits (R362) -/
def NV_STATUS_PEND : Reg := { id := 723, off := 0xB400, lo := 0, w := 1, acc := .ro }
/-- NV_STATUS.BUSY: store writes queued (R362) -/
def NV_STATUS_BUSY : Reg := { id := 724, off := 0xB400, lo := 1, w := 1, acc := .ro }
/-- NV_STATUS.CFGBUF: configuration buffer in force (R362) -/
def NV_STATUS_CFGBUF : Reg := { id := 725, off := 0xB400, lo := 2, w := 1, acc := .ro }
/-- NV_STATUS.CFGVALID: a configuration applied at this start (R348) (R362) -/
def NV_STATUS_CFGVALID : Reg := { id := 726, off := 0xB400, lo := 3, w := 1, acc := .ro }
/-- NV_STATUS.REFBUSY: refresh pass in progress (R343) (R362) -/
def NV_STATUS_REFBUSY : Reg := { id := 727, off := 0xB400, lo := 4, w := 1, acc := .ro }
/-- NV_STATUS.KEYLOCK: key store locked (R344); kept in the store (R362) -/
def NV_STATUS_KEYLOCK : Reg := { id := 728, off := 0xB400, lo := 5, w := 1, acc := .ro }
/-- NV_STATUS.KEYVALID: bit k: key slot k valid (R362) -/
def NV_STATUS_KEYVALID : Reg := { id := 729, off := 0xB400, lo := 6, w := 4, acc := .ro }
/-- NV_CFGGEN: GEN of the configuration in force (R362) -/
def NV_CFGGEN : Reg := { id := 730, off := 0xB404, lo := 0, w := 32, acc := .ro }
/-- NV_REFR.INTERVAL: refresh interval, 1–65,535 h; 0 acts as 1; reset 2184 h (R362) -/
def NV_REFR_INTERVAL : Reg := { id := 731, off := 0xB408, lo := 0, w := 16, acc := .rw, rst := 0x888, app := .frame }
/-- NV_REFR.AGE: hours since the last complete pass, saturating; kept in the store (R362) -/
def NV_REFR_AGE : Reg := { id := 732, off := 0xB408, lo := 16, w := 16, acc := .ro }
/-- NV_CORR: corrected words, saturating (R362) -/
def NV_CORR : Reg := { id := 733, off := 0xB40C, lo := 0, w := 32, acc := .ro }
/-- NV_UNCORR: uncorrectable words, saturating (R362) -/
def NV_UNCORR : Reg := { id := 734, off := 0xB410, lo := 0, w := 32, acc := .ro }
/-- NV_FAILADDR: store address of the last failure (R342) (R362) -/
def NV_FAILADDR : Reg := { id := 735, off := 0xB414, lo := 0, w := 32, acc := .ro }
/-- NV_IMPM.MARGIN: imprint margin of the last self-test, mV (R362) -/
def NV_IMPM_MARGIN : Reg := { id := 736, off := 0xB418, lo := 0, w := 16, acc := .ro }
/-- NV_EVT.CORR: a word was corrected (R362) -/
def NV_EVT_CORR : Reg := { id := 737, off := 0xB41C, lo := 0, w := 1, acc := .rc }
/-- NV_EVT.UNCORR: an uncorrectable word was read (R362) -/
def NV_EVT_UNCORR : Reg := { id := 738, off := 0xB41C, lo := 1, w := 1, acc := .rc }
/-- NV_EVT.WFAIL: a block write failed (R362) -/
def NV_EVT_WFAIL : Reg := { id := 739, off := 0xB41C, lo := 2, w := 1, acc := .rc }
/-- NV_EVT.REFDONE: a refresh pass completed (R362) -/
def NV_EVT_REFDONE : Reg := { id := 740, off := 0xB41C, lo := 3, w := 1, acc := .rc }
/-- NV_EVT.CFGINV: a configuration buffer failed at start-up (R362) -/
def NV_EVT_CFGINV : Reg := { id := 741, off := 0xB41C, lo := 4, w := 1, acc := .rc }
/-- NV_CMD.REFRNOW: 1 starts a refresh pass (R362) -/
def NV_CMD_REFRNOW : Reg := { id := 742, off := 0xB420, lo := 0, w := 1, acc := .wo, app := .now }
/-- UP_CTRL.HOSTCONF: 1: confirmation also needs UP_CMD.CONFIRM (R355) (R363) -/
def UP_CTRL_HOSTCONF : Reg := { id := 743, off := 0xB800, lo := 0, w := 1, acc := .rw, app := .frame }
/-- UP_STATUS.PEND: 1 while a staged UP_ write waits (R363) -/
def UP_STATUS_PEND : Reg := { id := 744, off := 0xB804, lo := 0, w := 1, acc := .ro }
/-- UP_STATUS.RUNSLOT: 0 slot A; 1 slot B (R363) -/
def UP_STATUS_RUNSLOT : Reg := { id := 745, off := 0xB804, lo := 1, w := 1, acc := .ro }
/-- UP_STATUS.SLOTA: state of slot A (R351) (R363) -/
def UP_STATUS_SLOTA : Reg := { id := 746, off := 0xB804, lo := 2, w := 3, acc := .ro }
/-- UP_STATUS.SLOTB: state of slot B (R363) -/
def UP_STATUS_SLOTB : Reg := { id := 747, off := 0xB804, lo := 5, w := 3, acc := .ro }
/-- UP_STATUS.STARTS: trial starts, 0–3 (R354) (R363) -/
def UP_STATUS_STARTS : Reg := { id := 748, off := 0xB804, lo := 8, w := 2, acc := .ro }
/-- UP_STATUS.DLOPEN: a download is open (R363) -/
def UP_STATUS_DLOPEN : Reg := { id := 749, off := 0xB804, lo := 10, w := 1, acc := .ro }
/-- UP_STATUS.BOOT: 0 normal; 1 trial; 2 fallback; 3 recovery (R363) -/
def UP_STATUS_BOOT : Reg := { id := 750, off := 0xB804, lo := 11, w := 2, acc := .ro }
/-- UP_SVN.FLOOR: lowest admissible SVN (R355) (R363) -/
def UP_SVN_FLOOR : Reg := { id := 751, off := 0xB808, lo := 0, w := 16, acc := .ro }
/-- UP_SVN.RUN: SVN of the running image (R363) -/
def UP_SVN_RUN : Reg := { id := 752, off := 0xB808, lo := 16, w := 16, acc := .ro }
/-- UP_VER_RUN: version word of the running image (R349) (R363) -/
def UP_VER_RUN : Reg := { id := 753, off := 0xB80C, lo := 0, w := 32, acc := .ro }
/-- UP_VER_OTHER: version word of the inactive slot; 0 when EMPTY or LOADING (R363) -/
def UP_VER_OTHER : Reg := { id := 754, off := 0xB810, lo := 0, w := 32, acc := .ro }
/-- UP_DL.MISSING: pieces still missing, 0–1024 (R363) -/
def UP_DL_MISSING : Reg := { id := 755, off := 0xB814, lo := 0, w := 11, acc := .ro }
/-- UP_DL_SIZE: bundle size of the download record, B (R363) -/
def UP_DL_SIZE : Reg := { id := 756, off := 0xB818, lo := 0, w := 32, acc := .ro }
/-- UP_TRIALT: seconds of the 120 s left for confirmation; 0 when not TRIAL (R363) -/
def UP_TRIALT : Reg := { id := 757, off := 0xB81C, lo := 0, w := 8, acc := .ro }
/-- UP_RLYCFG.RWAIT: release wait, 1–65,535 s; 0 acts as 1; reset 600 s (R360) (R363) -/
def UP_RLYCFG_RWAIT : Reg := { id := 758, off := 0xB820, lo := 0, w := 16, acc := .rw, rst := 0x258, app := .frame }
/-- UP_CMD.CONFIRM: 1: host confirmation for the running TRIAL image (R363) -/
def UP_CMD_CONFIRM : Reg := { id := 759, off := 0xB824, lo := 0, w := 1, acc := .wo, app := .now }
/-- UP_CMD.RLYSTOP: 1 ends every relay round (R361) (R363) -/
def UP_CMD_RLYSTOP : Reg := { id := 760, off := 0xB824, lo := 1, w := 1, acc := .wo, app := .now }
/-- UP_EVT.VERIFIED: an image was verified (R363) -/
def UP_EVT_VERIFIED : Reg := { id := 761, off := 0xB828, lo := 0, w := 1, acc := .rc }
/-- UP_EVT.VFAIL: an image failed verification (R363) -/
def UP_EVT_VFAIL : Reg := { id := 762, off := 0xB828, lo := 1, w := 1, acc := .rc }
/-- UP_EVT.CONFIRM: the running image confirmed (R363) -/
def UP_EVT_CONFIRM : Reg := { id := 763, off := 0xB828, lo := 2, w := 1, acc := .rc }
/-- UP_EVT.FALLBACK: a TRIAL image failed (R354, R355) (R363) -/
def UP_EVT_FALLBACK : Reg := { id := 764, off := 0xB828, lo := 3, w := 1, acc := .rc }
/-- UP_EVT.RLYSTAGE: a stage finished its step 6, failed or was skipped (R363) -/
def UP_EVT_RLYSTAGE : Reg := { id := 765, off := 0xB828, lo := 4, w := 1, acc := .rc }
/-- UP_EVT.RLYPAUSE: a round paused (R363) -/
def UP_EVT_RLYPAUSE : Reg := { id := 766, off := 0xB828, lo := 5, w := 1, acc := .rc }
/-- UP_EVT.RLYEND: a round ended (R363) -/
def UP_EVT_RLYEND : Reg := { id := 767, off := 0xB828, lo := 6, w := 1, acc := .rc }
/-- UP_RLY[r].STATE: r = 0–7; 0 idle; 1 running; 2 paused; 3 ended (R363) -/
def UP_RLY_STATE : Reg := { id := 768, off := 0xB830, lo := 0, w := 3, acc := .ro, s2 := 4, n2 := 8 }
/-- UP_RLY[r].TYPE: STYPE in progress (R363) -/
def UP_RLY_TYPE : Reg := { id := 769, off := 0xB830, lo := 3, w := 3, acc := .ro, s2 := 4, n2 := 8 }
/-- UP_RLY[r].SRC: position of the present relay source (R363) -/
def UP_RLY_SRC : Reg := { id := 770, off := 0xB830, lo := 6, w := 5, acc := .ro, s2 := 4, n2 := 8 }
/-- UP_RLY[r].SRCV: SRC valid; 0: the controller seeds (R363) -/
def UP_RLY_SRCV : Reg := { id := 771, off := 0xB830, lo := 11, w := 1, acc := .ro, s2 := 4, n2 := 8 }
/-- UP_RLY[r].NDONE: stages written and matched, 0–32 (R363) -/
def UP_RLY_NDONE : Reg := { id := 772, off := 0xB830, lo := 12, w := 6, acc := .ro, s2 := 4, n2 := 8 }
/-- UP_RLY[r].NSKIP: stages skipped (R363) -/
def UP_RLY_NSKIP : Reg := { id := 773, off := 0xB830, lo := 18, w := 6, acc := .ro, s2 := 4, n2 := 8 }
/-- UP_RLY[r].NFAIL: stages failed (R363) -/
def UP_RLY_NFAIL : Reg := { id := 774, off := 0xB830, lo := 24, w := 6, acc := .ro, s2 := 4, n2 := 8 }
/-- UP_DLMAP[w]: w = 0–31; bit b: piece 32w + b written (R363) -/
def UP_DLMAP : Reg := { id := 775, off := 0xB880, lo := 0, w := 32, acc := .ro, s2 := 4, n2 := 32 }
/-- TW_CTRL.TWA_EN: 1 enables TWA (R380) -/
def TW_CTRL_TWA_EN : Reg := { id := 776, off := 0xBC00, lo := 0, w := 1, acc := .rw, app := .frame }
/-- TW_CTRL.TWA_MODE: bus mode (R374) (R380) -/
def TW_CTRL_TWA_MODE : Reg := { id := 777, off := 0xBC00, lo := 1, w := 2, acc := .rw, rst := 0x1, app := .frame }
/-- TW_CTRL.TWA_ARA: 1 answers TWA_ALERT_N through 0x0C (R379) (R380) -/
def TW_CTRL_TWA_ARA : Reg := { id := 778, off := 0xBC00, lo := 3, w := 1, acc := .rw, app := .frame }
/-- TW_STATUS.PEND: 1 while a staged TW_ write waits (R380) -/
def TW_STATUS_PEND : Reg := { id := 779, off := 0xBC04, lo := 0, w := 1, acc := .ro }
/-- TW_STATUS.TWA_BUSY: a TWA transfer is in progress (R380) -/
def TW_STATUS_TWA_BUSY : Reg := { id := 780, off := 0xBC04, lo := 1, w := 1, acc := .ro }
/-- TW_STATUS.TWB_ALERT: TWB_ALERT_N asserted (R380) -/
def TW_STATUS_TWB_ALERT : Reg := { id := 781, off := 0xBC04, lo := 2, w := 1, acc := .ro }
/-- TW_STATUS.TWB_PAGE: TWB page in force (R365) (R380) -/
def TW_STATUS_TWB_PAGE : Reg := { id := 782, off := 0xBC04, lo := 8, w := 8, acc := .ro }
/-- TW_STATUS.TWB_PTR: TWB pointer in force (R366) (R380) -/
def TW_STATUS_TWB_PTR : Reg := { id := 783, off := 0xBC04, lo := 16, w := 8, acc := .ro }
/-- TW_TWB.ADDR: TWB register address (R380) -/
def TW_TWB_ADDR : Reg := { id := 784, off := 0xBC08, lo := 0, w := 7, acc := .ro, rst := 0x4C }
/-- TW_TWB.PADDR: TWB page address; must differ from ADDR (R380) -/
def TW_TWB_PADDR : Reg := { id := 785, off := 0xBC08, lo := 8, w := 7, acc := .ro, rst := 0x4D }
/-- TW_TWB_WMASK: bit k: TWB may write block k, counted in the order of the block table of Scope and Conventions, with both LE_ ranges as one block; bits of HQ_, AU_ and TW_ are ignored (R369) (R380) -/
def TW_TWB_WMASK : Reg := { id := 786, off := 0xBC0C, lo := 0, w := 23, acc := .ro }
/-- TW_TWA_CFG.STRMAX: longest SCL hold accepted, 1–255 ms; 0 acts as 1 (R380) -/
def TW_TWA_CFG_STRMAX : Reg := { id := 787, off := 0xBC10, lo := 0, w := 8, acc := .rw, rst := 0x19, app := .frame }
/-- TW_TWA_CFG.NARB: arbitration losses before failure, 1–15; 0 acts as 1 (R380) -/
def TW_TWA_CFG_NARB : Reg := { id := 788, off := 0xBC10, lo := 8, w := 4, acc := .rw, rst := 0x8, app := .frame }
/-- TW_TWA_CFG.NFAIL: consecutive failures before FAILED, 1–15; 0 acts as 1 (R380) -/
def TW_TWA_CFG_NFAIL : Reg := { id := 789, off := 0xBC10, lo := 12, w := 4, acc := .rw, rst := 0x3, app := .frame }
/-- TW_ALERT.DIVERGE: a gated divergence is held (R315) (R380) -/
def TW_ALERT_DIVERGE : Reg := { id := 790, off := 0xBC14, lo := 0, w := 1, acc := .rc }
/-- TW_ALERT.VTIMEOUT: a verdict wait expired (R380) -/
def TW_ALERT_VTIMEOUT : Reg := { id := 791, off := 0xBC14, lo := 1, w := 1, acc := .rc }
/-- TW_ALERT.LEASE: an authority lease fell below 1 s, or expired (R320) (R380) -/
def TW_ALERT_LEASE : Reg := { id := 792, off := 0xBC14, lo := 2, w := 1, acc := .rc }
/-- TW_ALERT.FAULT: FAULT_N became asserted (R380) -/
def TW_ALERT_FAULT : Reg := { id := 793, off := 0xBC14, lo := 3, w := 1, acc := .rc }
/-- TW_ALERT.TOKEN: a token check ended (R319) (R380) -/
def TW_ALERT_TOKEN : Reg := { id := 794, off := 0xBC14, lo := 4, w := 1, acc := .rc }
/-- TW_ALERT.WAKE: a wake completed (R380) -/
def TW_ALERT_WAKE : Reg := { id := 795, off := 0xBC14, lo := 5, w := 1, acc := .rc }
/-- TW_ALERTEN: bit per cause, layout of TW_ALERT (R373) (R380) -/
def TW_ALERTEN : Reg := { id := 796, off := 0xBC18, lo := 0, w := 6, acc := .rw, app := .frame }
/-- TW_EVT.TWA_PROTO: a TWA protocol error (R376) (R380) -/
def TW_EVT_TWA_PROTO : Reg := { id := 797, off := 0xBC1C, lo := 0, w := 1, acc := .rc }
/-- TW_EVT.TWA_FAIL: a TWA transfer failed (R380) -/
def TW_EVT_TWA_FAIL : Reg := { id := 798, off := 0xBC1C, lo := 1, w := 1, acc := .rc }
/-- TW_EVT.ARBLOST: TWA lost arbitration (R375) (R380) -/
def TW_EVT_ARBLOST : Reg := { id := 799, off := 0xBC1C, lo := 2, w := 1, acc := .rc }
/-- TW_EVT.TALERT: a TWA alert was answered (R379) (R380) -/
def TW_EVT_TALERT : Reg := { id := 800, off := 0xBC1C, lo := 3, w := 1, acc := .rc }
/-- TW_EVT.BREACH: a poll result left its limits (R378) (R380) -/
def TW_EVT_BREACH : Reg := { id := 801, off := 0xBC1C, lo := 4, w := 1, acc := .rc }
/-- TW_EVT.PFAIL: a poll entry became FAILED (R380) -/
def TW_EVT_PFAIL : Reg := { id := 802, off := 0xBC1C, lo := 5, w := 1, acc := .rc }
/-- TW_EVT.TWB_NAK: TWB did not acknowledge a byte (R366, R368, R369) (R380) -/
def TW_EVT_TWB_NAK : Reg := { id := 803, off := 0xBC1C, lo := 6, w := 1, acc := .rc }
/-- TW_EVT.TWB_PARTIAL: an incomplete TWB word was discarded (R367) (R380) -/
def TW_EVT_TWB_PARTIAL : Reg := { id := 804, off := 0xBC1C, lo := 7, w := 1, acc := .rc }
/-- TW_EVT.TWB_WAKE: a TWB address phase woke the device (R372) (R380) -/
def TW_EVT_TWB_WAKE : Reg := { id := 805, off := 0xBC1C, lo := 8, w := 1, acc := .rc }
/-- TW_TWA_ERR: TWA protocol errors, saturating (R380) -/
def TW_TWA_ERR : Reg := { id := 806, off := 0xBC20, lo := 0, w := 32, acc := .ro }
/-- TW_TWA_ARB: TWA arbitration losses, saturating (R380) -/
def TW_TWA_ARB : Reg := { id := 807, off := 0xBC24, lo := 0, w := 32, acc := .ro }
/-- TW_TWB_NAK: TWB bytes not acknowledged, address phases excluded, saturating (R380) -/
def TW_TWB_NAK : Reg := { id := 808, off := 0xBC28, lo := 0, w := 32, acc := .ro }
/-- TW_TALERT.ADDR: last address answered through 0x0C on TWA (R380) -/
def TW_TALERT_ADDR : Reg := { id := 809, off := 0xBC2C, lo := 0, w := 7, acc := .ro }
/-- TW_TALERT.VALID: ADDR is valid (R380) -/
def TW_TALERT_VALID : Reg := { id := 810, off := 0xBC2C, lo := 7, w := 1, acc := .ro }
/-- TW_POLL[i].ADDR: target address (R380) -/
def TW_POLL_ADDR : Reg := { id := 811, off := 0xBC40, lo := 0, w := 7, acc := .ro, s2 := 16, n2 := 16 }
/-- TW_POLL[i].EN: entry enabled (R380) -/
def TW_POLL_EN : Reg := { id := 812, off := 0xBC40, lo := 7, w := 1, acc := .ro, s2 := 16, n2 := 16 }
/-- TW_POLL[i].PTR: target register pointer (R380) -/
def TW_POLL_PTR : Reg := { id := 813, off := 0xBC40, lo := 8, w := 8, acc := .ro, s2 := 16, n2 := 16 }
/-- TW_POLL[i].LEN: bytes read, 1–8 (R380) -/
def TW_POLL_LEN : Reg := { id := 814, off := 0xBC40, lo := 16, w := 4, acc := .ro, s2 := 16, n2 := 16 }
/-- TW_POLL[i].PER: poll period, 10 ms units, 1–255 (R380) -/
def TW_POLL_PER : Reg := { id := 815, off := 0xBC40, lo := 24, w := 8, acc := .ro, s2 := 16, n2 := 16 }
/-- TW_POLL[i].LO: lower limit, in the coding that SIGNED selects (R380) -/
def TW_POLL_LO : Reg := { id := 816, off := 0xBC44, lo := 0, w := 16, acc := .rw, app := .frame, s2 := 16, n2 := 16 }
/-- TW_POLL[i].HI: upper limit (R380) -/
def TW_POLL_HI : Reg := { id := 817, off := 0xBC44, lo := 16, w := 16, acc := .rw, rst := 0xFFFF, app := .frame, s2 := 16, n2 := 16 }
/-- TW_POLL[i].OFS: byte offset of the checked value, 0–6, within LEN (R380) -/
def TW_POLL_OFS : Reg := { id := 818, off := 0xBC48, lo := 0, w := 3, acc := .ro, s2 := 16, n2 := 16 }
/-- TW_POLL[i].SIGNED: 1: the value and the limits are signed (R380) -/
def TW_POLL_SIGNED : Reg := { id := 819, off := 0xBC48, lo := 3, w := 1, acc := .ro, s2 := 16, n2 := 16 }
/-- TW_POLL[i].LIM_EN: 1 checks the limits (R380) -/
def TW_POLL_LIM_EN : Reg := { id := 820, off := 0xBC48, lo := 4, w := 1, acc := .ro, s2 := 16, n2 := 16 }
/-- TW_POLL[i].ACT: 1: BREACH or FAILED locks out string STR (R378) (R380) -/
def TW_POLL_ACT : Reg := { id := 821, off := 0xBC48, lo := 5, w := 1, acc := .ro, s2 := 16, n2 := 16 }
/-- TW_POLL[i].STR: string 0–7 (R380) -/
def TW_POLL_STR : Reg := { id := 822, off := 0xBC48, lo := 6, w := 3, acc := .ro, s2 := 16, n2 := 16 }
/-- TW_POLL[i].CFAIL: consecutive failures, saturating at 15 (R380) -/
def TW_POLL_CFAIL : Reg := { id := 823, off := 0xBC4C, lo := 0, w := 4, acc := .ro, s2 := 16, n2 := 16 }
/-- TW_POLL[i].BREACH: last value outside its limits (R380) -/
def TW_POLL_BREACH : Reg := { id := 824, off := 0xBC4C, lo := 4, w := 1, acc := .ro, s2 := 16, n2 := 16 }
/-- TW_POLL[i].FAILED: CFAIL reached NFAIL (R380) -/
def TW_POLL_FAILED : Reg := { id := 825, off := 0xBC4C, lo := 5, w := 1, acc := .ro, s2 := 16, n2 := 16 }
/-- TW_PRES_LO[i]: result bytes 0–3 of the last successful poll (R380) -/
def TW_PRES_LO : Reg := { id := 826, off := 0xBD40, lo := 0, w := 32, acc := .ro, s2 := 8, n2 := 16 }
/-- TW_PRES_HI[i]: result bytes 4–7 (R380) -/
def TW_PRES_HI : Reg := { id := 827, off := 0xBD44, lo := 0, w := 32, acc := .ro, s2 := 8, n2 := 16 }
/-- SP_CTRL.EN: 1 enables the port; 0 presents Rd only, without PD (R407) -/
def SP_CTRL_EN : Reg := { id := 828, off := 0xC000, lo := 0, w := 1, acc := .rw, rst := 0x1, app := .frame }
/-- SP_CTRL.ROLE: unattached role (R382); 3 acts as 1 (R407) -/
def SP_CTRL_ROLE : Reg := { id := 829, off := 0xC000, lo := 1, w := 2, acc := .rw, rst := 0x1, app := .frame }
/-- SP_CTRL.SRC_EN: source role permitted (R390) (R407) -/
def SP_CTRL_SRC_EN : Reg := { id := 830, off := 0xC000, lo := 3, w := 1, acc := .ro }
/-- SP_CTRL.PRS: PR_Swap acceptance (R394) (R407) -/
def SP_CTRL_PRS : Reg := { id := 831, off := 0xC000, lo := 4, w := 2, acc := .rw, app := .frame }
/-- SP_CTRL.DRS_AUTO: 1 requests UFP by DR_Swap (R407) -/
def SP_CTRL_DRS_AUTO : Reg := { id := 832, off := 0xC000, lo := 6, w := 1, acc := .rw, rst := 0x1, app := .frame }
/-- SP_CTRL.DBG_VBUS: 1 sources 5 V to a debug accessory (R407) -/
def SP_CTRL_DBG_VBUS : Reg := { id := 833, off := 0xC000, lo := 7, w := 1, acc := .rw, app := .frame }
/-- SP_CTRL.SVC_CTRL: power commands admitted at workshop level (R406) (R407) -/
def SP_CTRL_SVC_CTRL : Reg := { id := 834, off := 0xC000, lo := 8, w := 1, acc := .ro }
/-- SP_STATUS.PEND: 1 while a staged SP_ write waits (R407) -/
def SP_STATUS_PEND : Reg := { id := 835, off := 0xC004, lo := 0, w := 1, acc := .ro }
/-- SP_STATUS.ATT: 0 UNATTACHED; 1 ATTACHED.SNK; 2 ATTACHED.SRC; 3 AUDIO; 4 DEBUG; 5 DISCHARGE; 6 ERROR_RECOVERY; 7 reserved (R407) -/
def SP_STATUS_ATT : Reg := { id := 836, off := 0xC004, lo := 1, w := 3, acc := .ro }
/-- SP_STATUS.PROLE: 0 sink; 1 source (R407) -/
def SP_STATUS_PROLE : Reg := { id := 837, off := 0xC004, lo := 4, w := 1, acc := .ro }
/-- SP_STATUS.DROLE: 0 UFP; 1 DFP (R407) -/
def SP_STATUS_DROLE : Reg := { id := 838, off := 0xC004, lo := 5, w := 1, acc := .ro }
/-- SP_STATUS.ORIENT: active CC line (R385) (R407) -/
def SP_STATUS_ORIENT : Reg := { id := 839, off := 0xC004, lo := 6, w := 1, acc := .ro }
/-- SP_STATUS.PARTNER: 0 none; 1 sink; 2 source; 3 audio; 4 debug (R384) (R407) -/
def SP_STATUS_PARTNER : Reg := { id := 840, off := 0xC004, lo := 7, w := 3, acc := .ro }
/-- SP_STATUS.RA: powered cable seen (R407) -/
def SP_STATUS_RA : Reg := { id := 841, off := 0xC004, lo := 10, w := 1, acc := .ro }
/-- SP_STATUS.CONTRACT: explicit contract in force (R407) -/
def SP_STATUS_CONTRACT : Reg := { id := 842, off := 0xC004, lo := 11, w := 1, acc := .ro }
/-- SP_STATUS.XSITION: between Accept and PS_RDY (R407) -/
def SP_STATUS_XSITION : Reg := { id := 843, off := 0xC004, lo := 12, w := 1, acc := .ro }
/-- SP_STATUS.LEVEL: session level (R406) (R407) -/
def SP_STATUS_LEVEL : Reg := { id := 844, off := 0xC004, lo := 13, w := 2, acc := .ro }
/-- SP_STATUS.SVCBOOT: service boot in force (R398) (R407) -/
def SP_STATUS_SVCBOOT : Reg := { id := 845, off := 0xC004, lo := 15, w := 1, acc := .ro }
/-- SP_STATUS.USBCFG: USB device configured (R407) -/
def SP_STATUS_USBCFG : Reg := { id := 846, off := 0xC004, lo := 16, w := 1, acc := .ro }
/-- SP_SRC.IMAX: offered current, 50 mA, 1–60; values outside act as the nearer limit (R407) -/
def SP_SRC_IMAX : Reg := { id := 847, off := 0xC008, lo := 0, w := 6, acc := .rw, rst := 0x3C, app := .frame }
/-- SP_SRC.PDOEN: bit 0 9 V; bit 1 15 V; bit 2 20 V (R387) (R407) -/
def SP_SRC_PDOEN : Reg := { id := 848, off := 0xC008, lo := 8, w := 3, acc := .rw, rst := 0x7, app := .frame }
/-- SP_SRC.PPS_EN: 1 offers the APDO (R407) -/
def SP_SRC_PPS_EN : Reg := { id := 849, off := 0xC008, lo := 11, w := 1, acc := .rw, rst := 0x1, app := .frame }
/-- SP_SRC.SLEWDIV: ticks per 20 mV step, 1–255; 0 acts as 1 (R388) (R407) -/
def SP_SRC_SLEWDIV : Reg := { id := 850, off := 0xC008, lo := 16, w := 8, acc := .rw, rst := 0x28, app := .frame }
/-- SP_SRC.VTOL: PS_RDY tolerance, 10 mV (R407) -/
def SP_SRC_VTOL : Reg := { id := 851, off := 0xC008, lo := 24, w := 8, acc := .rw, rst := 0x19, app := .frame }
/-- SP_SNK.IOP: requested current, 50 mA, 1–60 (R392) (R407) -/
def SP_SNK_IOP : Reg := { id := 852, off := 0xC00C, lo := 0, w := 6, acc := .rw, rst := 0xA, app := .frame }
/-- SP_SNK.HV_OK: VSVC regulated above 5 V VBUS (R407) -/
def SP_SNK_HV_OK : Reg := { id := 853, off := 0xC00C, lo := 6, w := 1, acc := .ro }
/-- SP_SNK.VMAX: highest fixed voltage requested, V, 5–20 (R407) -/
def SP_SNK_VMAX : Reg := { id := 854, off := 0xC00C, lo := 8, w := 5, acc := .rw, rst := 0x5, app := .frame }
/-- SP_SNK.PPSKA: PPS re-request interval, 1–10 s; values outside act as the nearer limit (R407) -/
def SP_SNK_PPSKA : Reg := { id := 855, off := 0xC00C, lo := 16, w := 4, acc := .rw, rst := 0x8, app := .frame }
/-- SP_SNK.PPSV: PPS voltage requested, 20 mV; 0 no PPS (R407) -/
def SP_SNK_PPSV : Reg := { id := 856, off := 0xC00C, lo := 20, w := 11, acc := .rw, app := .frame }
/-- SP_CONTR.VOLT: contract voltage, 20 mV (R407) -/
def SP_CONTR_VOLT : Reg := { id := 857, off := 0xC010, lo := 0, w := 11, acc := .ro }
/-- SP_CONTR.CURR: contract current, 50 mA (R407) -/
def SP_CONTR_CURR : Reg := { id := 858, off := 0xC010, lo := 11, w := 6, acc := .ro }
/-- SP_CONTR.POS: object position (R407) -/
def SP_CONTR_POS : Reg := { id := 859, off := 0xC010, lo := 17, w := 3, acc := .ro }
/-- SP_CONTR.PPS: the contract is PPS (R407) -/
def SP_CONTR_PPS : Reg := { id := 860, off := 0xC010, lo := 20, w := 1, acc := .ro }
/-- SP_VBUS.V: VBUS, 10 mV (R381) (R407) -/
def SP_VBUS_V : Reg := { id := 861, off := 0xC014, lo := 0, w := 12, acc := .ro }
/-- SP_VBUS.VOUT: VOUT code in force, 20 mV (R407) -/
def SP_VBUS_VOUT : Reg := { id := 862, off := 0xC014, lo := 16, w := 11, acc := .ro }
/-- SP_EVT.ATTACH: an attach occurred (R407) -/
def SP_EVT_ATTACH : Reg := { id := 863, off := 0xC018, lo := 0, w := 1, acc := .rc }
/-- SP_EVT.DETACH: a detach occurred (R407) -/
def SP_EVT_DETACH : Reg := { id := 864, off := 0xC018, lo := 1, w := 1, acc := .rc }
/-- SP_EVT.CONTRACT: a contract came into force (R407) -/
def SP_EVT_CONTRACT : Reg := { id := 865, off := 0xC018, lo := 2, w := 1, acc := .rc }
/-- SP_EVT.SWAP: a role swap completed (R407) -/
def SP_EVT_SWAP : Reg := { id := 866, off := 0xC018, lo := 3, w := 1, acc := .rc }
/-- SP_EVT.HRST: a Hard Reset was sent or received (R407) -/
def SP_EVT_HRST : Reg := { id := 867, off := 0xC018, lo := 4, w := 1, acc := .rc }
/-- SP_EVT.DIT: a detach fell in a transition (R396) (R407) -/
def SP_EVT_DIT : Reg := { id := 868, off := 0xC018, lo := 5, w := 1, acc := .rc }
/-- SP_EVT.AUTH: a session opened (R407) -/
def SP_EVT_AUTH : Reg := { id := 869, off := 0xC018, lo := 6, w := 1, acc := .rc }
/-- SP_EVT.AUTHFAIL: a token failed (R407) -/
def SP_EVT_AUTHFAIL : Reg := { id := 870, off := 0xC018, lo := 7, w := 1, acc := .rc }
/-- SP_EVT.PPSTO: a PPS contract timed out (R391) (R407) -/
def SP_EVT_PPSTO : Reg := { id := 871, off := 0xC018, lo := 8, w := 1, acc := .rc }
/-- SP_EVT.DISCHTO: VBUS discharge timed out (R407) -/
def SP_EVT_DISCHTO : Reg := { id := 872, off := 0xC018, lo := 9, w := 1, acc := .rc }
/-- SP_EVT.PROMO: a service boot was promoted (R399) (R407) -/
def SP_EVT_PROMO : Reg := { id := 873, off := 0xC018, lo := 10, w := 1, acc := .rc }
/-- SP_CMD.HRST: 1 sends Hard Reset (R407) -/
def SP_CMD_HRST : Reg := { id := 874, off := 0xC01C, lo := 0, w := 1, acc := .wo, app := .now }
/-- SP_CMD.ERRREC: 1 enters ERROR_RECOVERY (R407) -/
def SP_CMD_ERRREC : Reg := { id := 875, off := 0xC01C, lo := 1, w := 1, acc := .wo, app := .now }
/-- SP_CMD.DEAUTH: 1 ends the USB session (R407) -/
def SP_CMD_DEAUTH : Reg := { id := 876, off := 0xC01C, lo := 2, w := 1, acc := .wo, app := .now }
/-- SP_CNT.HRST: Hard Resets, saturating at 65,535 (R407) -/
def SP_CNT_HRST : Reg := { id := 877, off := 0xC020, lo := 0, w := 16, acc := .ro }
/-- SP_CNT.DIT: detaches in transition, saturating (R407) -/
def SP_CNT_DIT : Reg := { id := 878, off := 0xC020, lo := 16, w := 16, acc := .ro }
/-- SP_VSNS.DIV: external VBUS divider ratio 1/(DIV + 1): 0 gives 1/1, 31 gives 1/32; reset 1/16 (R407) -/
def SP_VSNS_DIV : Reg := { id := 879, off := 0xC024, lo := 0, w := 5, acc := .ro, rst := 0xF }
/-- SP_SESS: session minutes left (R407) -/
def SP_SESS : Reg := { id := 880, off := 0xC028, lo := 0, w := 16, acc := .ro }
/-- PM_CTRL.WDOG_ACT: watchdog action: 0 management halt; 1 device reset (R410) (R420) -/
def PM_CTRL_WDOG_ACT : Reg := { id := 881, off := 0x400, lo := 0, w := 1, acc := .rw, rst := 0x1, app := .frame }
/-- PM_STATUS.STATE: 0 START; 1 RUN; 2 SLEEP_ENTRY; 3 SERVICE; 4 RECOVERY (R420) -/
def PM_STATUS_STATE : Reg := { id := 882, off := 0x404, lo := 0, w := 3, acc := .ro }
/-- PM_STATUS.PEND: 1 while a staged PM_ write waits (R420) -/
def PM_STATUS_PEND : Reg := { id := 883, off := 0x404, lo := 3, w := 1, acc := .ro }
/-- PM_STATUS.ACLK_INT: ACLK runs from the internal oscillator (R35) (R420) -/
def PM_STATUS_ACLK_INT : Reg := { id := 884, off := 0x404, lo := 4, w := 1, acc := .ro }
/-- PM_CAUSE.POR: power-on reset (R420) -/
def PM_CAUSE_POR : Reg := { id := 885, off := 0x408, lo := 0, w := 1, acc := .rc, rst := 0x1 }
/-- PM_CAUSE.RESETN: RESET_N (R420) -/
def PM_CAUSE_RESETN : Reg := { id := 886, off := 0x408, lo := 1, w := 1, acc := .rc }
/-- PM_CAUSE.WDOG: watchdog (R420) -/
def PM_CAUSE_WDOG : Reg := { id := 887, off := 0x408, lo := 2, w := 1, acc := .rc }
/-- PM_CAUSE.HOST: host-command reset (R420) -/
def PM_CAUSE_HOST : Reg := { id := 888, off := 0x408, lo := 3, w := 1, acc := .rc }
/-- PM_CAUSE.SUPPLY: supply fault (R420) -/
def PM_CAUSE_SUPPLY : Reg := { id := 889, off := 0x408, lo := 4, w := 1, acc := .rc }
/-- PM_CAUSE.CLOCK: clock loss (R420) -/
def PM_CAUSE_CLOCK : Reg := { id := 890, off := 0x408, lo := 5, w := 1, acc := .rc }
/-- PM_SUP.GOOD: bit per supply good: 0 VDD_CORE; 1 VDD_SER; 2 VDD_PCIE; 3 VDD_IO18; 4 VDD_33; 5 VDD_NVS; 6 VIN_AON; 7 VSVC (R420) -/
def PM_SUP_GOOD : Reg := { id := 891, off := 0x40C, lo := 0, w := 8, acc := .ro }
/-- PM_SUPFLT: bit per supply, layout of PM_SUP.GOOD: a fault since the last read (R420) -/
def PM_SUPFLT : Reg := { id := 892, off := 0x410, lo := 0, w := 8, acc := .rc }
/-- PM_WDOG.TIME: watchdog timeout, 1–1000 ms; 0 acts as 1, larger values act as 1000 (R420) -/
def PM_WDOG_TIME : Reg := { id := 893, off := 0x414, lo := 0, w := 10, acc := .rw, rst := 0x64, app := .frame }
/-- PM_WAKEEN: bit per wake source (R416) (R420) -/
def PM_WAKEEN : Reg := { id := 894, off := 0x418, lo := 0, w := 5, acc := .rw, rst := 0x1F, app := .frame }
/-- PM_WAKESRC: sources latched for the last wake, layout of PM_WAKEEN (R420) -/
def PM_WAKESRC : Reg := { id := 895, off := 0x41C, lo := 0, w := 5, acc := .rc }
/-- PM_SLPKEEP_LO: bit f: fuse index f stays on in sleep, f = 0–31 (R414) (R420) -/
def PM_SLPKEEP_LO : Reg := { id := 896, off := 0x420, lo := 0, w := 32, acc := .rw, app := .frame }
/-- PM_SLPKEEP_HI: bit f − 32, f = 32–63 (R420) -/
def PM_SLPKEEP_HI : Reg := { id := 897, off := 0x424, lo := 0, w := 32, acc := .rw, app := .frame }
/-- PM_PARK.VLEG: parked leg level, 1 mV; below 40,000 stops the legs (R415) (R420) -/
def PM_PARK_VLEG : Reg := { id := 898, off := 0x428, lo := 0, w := 16, acc := .rw, app := .frame }
/-- PM_SLPREF.REASON: last refusal (R413); 0 none (R420) -/
def PM_SLPREF_REASON : Reg := { id := 899, off := 0x42C, lo := 0, w := 3, acc := .ro }
/-- PM_CMD.RESET: TWB only; 1 starts a host-command reset (R420) -/
def PM_CMD_RESET : Reg := { id := 900, off := 0x430, lo := 0, w := 1, acc := .wo, app := .now }
/-- PM_CMD.SLEEP: TWB only; 1 requests sleep (R413) (R420) -/
def PM_CMD_SLEEP : Reg := { id := 901, off := 0x430, lo := 1, w := 1, acc := .wo, app := .now }
/-- PM_TIME.START: last release to end of start-up, µs, saturating (R420) -/
def PM_TIME_START : Reg := { id := 902, off := 0x434, lo := 0, w := 16, acc := .ro }
/-- PM_TIME.WAKE: last wake to full service, µs, saturating (R420) -/
def PM_TIME_WAKE : Reg := { id := 903, off := 0x434, lo := 16, w := 16, acc := .ro }
/-- PM_CNT.SLEEPS: sleep entries, saturating at 65,535 (R420) -/
def PM_CNT_SLEEPS : Reg := { id := 904, off := 0x438, lo := 0, w := 16, acc := .ro }
/-- PM_CNT.RESETS: device resets other than power-on reset, saturating at 65,535 (R420) -/
def PM_CNT_RESETS : Reg := { id := 905, off := 0x438, lo := 16, w := 16, acc := .ro }
/-- GL_DEV_ID.REV: silicon revision; the PCIe Revision ID (R285) (R437) -/
def GL_DEV_ID_REV : Reg := { id := 906, off := 0x0, lo := 0, w := 8, acc := .ro, rst := 0x1 }
/-- GL_DEV_ID.FAM: Gyquel family code (R437) -/
def GL_DEV_ID_FAM : Reg := { id := 907, off := 0x0, lo := 8, w := 8, acc := .ro, rst := 0xA }
/-- GL_DEV_ID.PART: part number; the word reads 0x4256_0A01 on the first revision (R437) -/
def GL_DEV_ID_PART : Reg := { id := 908, off := 0x0, lo := 16, w := 16, acc := .ro, rst := 0x4256 }
/-- GL_UID_LO: unique die identifier bits [31:0]; latches [63:32] (R437) -/
def GL_UID_LO : Reg := { id := 909, off := 0x4, lo := 0, w := 64, acc := .ll }
/-- GL_UID_HI: latched identifier bits [63:32] (R437) -/
def GL_UID_HI : Reg := { id := 910, off := 0x8, lo := 0, w := 32, acc := .lh, per := .acc }
/-- GL_STATUS.MHALT: the management plane is halted (R21) (R437) -/
def GL_STATUS_MHALT : Reg := { id := 911, off := 0xC, lo := 0, w := 1, acc := .ro }
/-- GL_STATUS.FAULT: FAULT_N asserted (R437) -/
def GL_STATUS_FAULT : Reg := { id := 912, off := 0xC, lo := 1, w := 1, acc := .ro }
/-- GL_STATUS.RSTOUT: RSTOUT_N asserted (R437) -/
def GL_STATUS_RSTOUT : Reg := { id := 913, off := 0xC, lo := 2, w := 1, acc := .ro, rst := 0x1 }
/-- GL_STATUS.DIVERGE: DIVERGE_N asserted (R437) -/
def GL_STATUS_DIVERGE : Reg := { id := 914, off := 0xC, lo := 3, w := 1, acc := .ro }
/-- GL_STATUS.BOOTSEL: BOOTSEL level latched at the last release (R412) (R437) -/
def GL_STATUS_BOOTSEL : Reg := { id := 915, off := 0xC, lo := 4, w := 1, acc := .ro }
/-- GL_STATUS.TESTEN: TESTEN level (R437) -/
def GL_STATUS_TESTEN : Reg := { id := 916, off := 0xC, lo := 5, w := 1, acc := .ro }
/-- GL_PEND: bit k: block k of R436 has a staged value waiting (R431) (R437) -/
def GL_PEND : Reg := { id := 917, off := 0x10, lo := 0, w := 23, acc := .ro }
/-- GL_WHO.ACC: accessor making this read: 0 PA; 1 PB; 2 TWB; 3 SP (R437) -/
def GL_WHO_ACC : Reg := { id := 918, off := 0x14, lo := 0, w := 2, acc := .ro }
/-- GL_SCRATCH: per accessor; no effect on the device (R437) -/
def GL_SCRATCH : Reg := { id := 919, off := 0x18, lo := 0, w := 32, acc := .rw, app := .now, per := .acc }
/-- IN_CAUSE: bit j: level of cause j (R438) (R440) -/
def IN_CAUSE : Reg := { id := 920, off := 0xC00, lo := 0, w := 23, acc := .ro }
/-- IN_BUSERR.PA: a bus error on PA (R423) (R440) -/
def IN_BUSERR_PA : Reg := { id := 921, off := 0xC04, lo := 0, w := 1, acc := .rc }
/-- IN_BUSERR.PB: a bus error on PB (R440) -/
def IN_BUSERR_PB : Reg := { id := 922, off := 0xC04, lo := 1, w := 1, acc := .rc }
/-- IN_BUSERR.TWB: a bus error on TWB (R440) -/
def IN_BUSERR_TWB : Reg := { id := 923, off := 0xC04, lo := 2, w := 1, acc := .rc }
/-- IN_BUSERR.WIDTH: kind 1: width or alignment (R440) -/
def IN_BUSERR_WIDTH : Reg := { id := 924, off := 0xC04, lo := 4, w := 1, acc := .rc }
/-- IN_BUSERR.LOC: kind 2: reserved or unimplemented location, or an access that the accessor may not make there (R369, R423) (R440) -/
def IN_BUSERR_LOC : Reg := { id := 925, off := 0xC04, lo := 5, w := 1, acc := .rc }
/-- IN_BUSERR.RSVBIT: kind 3: reserved bit written as 1 (R440) -/
def IN_BUSERR_RSVBIT : Reg := { id := 926, off := 0xC04, lo := 6, w := 1, acc := .rc }
/-- IN_BUSERR.READ: a read raised a bus error (R440) -/
def IN_BUSERR_READ : Reg := { id := 927, off := 0xC04, lo := 7, w := 1, acc := .rc }
/-- IN_BUSERR.WRITE: a write raised a bus error (R440) -/
def IN_BUSERR_WRITE : Reg := { id := 928, off := 0xC04, lo := 8, w := 1, acc := .rc }
/-- IN_BERR_OFS.OFS: offset of the last bus error (R440) -/
def IN_BERR_OFS_OFS : Reg := { id := 929, off := 0xC08, lo := 0, w := 16, acc := .ro }
/-- IN_BERR_OFS.ACC: its accessor: 0 PA; 1 PB; 2 TWB (R440) -/
def IN_BERR_OFS_ACC : Reg := { id := 930, off := 0xC08, lo := 16, w := 2, acc := .ro }
/-- IN_BERR_OFS.KIND: its kind, 1–3 (R423) (R440) -/
def IN_BERR_OFS_KIND : Reg := { id := 931, off := 0xC08, lo := 18, w := 2, acc := .ro }
/-- IN_BERR_OFS.WR: 1: it was a write (R440) -/
def IN_BERR_OFS_WR : Reg := { id := 932, off := 0xC08, lo := 20, w := 1, acc := .ro }
/-- IN_BERR_CNT: bus errors, saturating (R440) -/
def IN_BERR_CNT : Reg := { id := 933, off := 0xC0C, lo := 0, w := 32, acc := .ro }
/-- IN_REJ.CLASS: last rejection: 0 none; 1 admissibility; 2 conflict; 3 budget (R435) (R440) -/
def IN_REJ_CLASS : Reg := { id := 934, off := 0xC10, lo := 0, w := 2, acc := .ro }
/-- IN_REJ.SRC: 0 COMMIT; 1 PA; 2 PB; 3 TWB; 4 SP; 5 MP (R427) (R440) -/
def IN_REJ_SRC : Reg := { id := 935, off := 0xC10, lo := 2, w := 3, acc := .ro }
/-- IN_REJ.BLOCK: block index k of the first offending field (R440) -/
def IN_REJ_BLOCK : Reg := { id := 936, off := 0xC10, lo := 5, w := 5, acc := .ro }
/-- IN_REJ.OFS: offset of the first offending field (R440) -/
def IN_REJ_OFS : Reg := { id := 937, off := 0xC10, lo := 16, w := 16, acc := .ro }
/-- IN_EVT.BATCHREJ: a staged batch was discarded (R428) (R440) -/
def IN_EVT_BATCHREJ : Reg := { id := 938, off := 0xC14, lo := 0, w := 1, acc := .rc }
/-- IN_EVT.CFGREJ: a commit failed step 4 of R347 (R440) -/
def IN_EVT_CFGREJ : Reg := { id := 939, off := 0xC14, lo := 1, w := 1, acc := .rc }
/-- IN_REJCNT: discarded batches, saturating (R440) -/
def IN_REJCNT : Reg := { id := 940, off := 0xC18, lo := 0, w := 32, acc := .ro }
/-- IN_ROUTE[j]: j = 0–2; bits [4b+3:4b]: vector for cause 8j + b (R439); bits for cause 23 reserved (R440) -/
def IN_ROUTE : Reg := { id := 941, off := 0xD00, lo := 0, w := 32, acc := .rw, app := .frame, s2 := 4, n2 := 3, per := .ep }

/-- Part of the list of every field. -/
def list3_0 : List Reg := [EV_CTRL_TRIG_EN, EV_STATUS_PEND, EV_STATUS_CAPT, EV_STATUS_NREG, EV_STATUS_CLRBUSY, EV_STATUS_NOPEN, EV_STATUS_EPOCH, EV_RNUM, EV_OLDEST, EV_FOLD_QUIET, EV_RLIM_RATE, EV_RLIM_BURST, EV_CMD_REGISTER, EV_EVT_TRIG, EV_EVT_REFUSED, EV_EVT_SUPP, EV_EVT_QREF, EV_EVT_WRAP, EV_EVT_CLEAR, EV_EVT_FRKERR]
/-- Part of the list of every field. -/
def list3_1 : List Reg := [EV_QREF, EV_SUPP, EV_FRKERR, EV_NONCE_LO, EV_NONCE_HI, EV_RSEL_REGION, EV_RPOS, EV_ROVR_CODE, EV_ROVR_BURST, EV_ROVR_RATE, EV_TRIG_CODE, EV_TRIG_EN, EV_TRIG_SEVMODE, EV_TRIG_SEV, EV_REGD_TRNUM, EV_REGD_EPOCH, EV_REGD_STATE, EV_REGD_NPRE, EV_REGD_NPOST, EV_REGD_NTRIG]
/-- Part of the list of every field. -/
def list3_2 : List Reg := [EV_REGD_CODE, EV_RWIN, NV_STATUS_PEND, NV_STATUS_BUSY, NV_STATUS_CFGBUF, NV_STATUS_CFGVALID, NV_STATUS_REFBUSY, NV_STATUS_KEYLOCK, NV_STATUS_KEYVALID, NV_CFGGEN, NV_REFR_INTERVAL, NV_REFR_AGE, NV_CORR, NV_UNCORR, NV_FAILADDR, NV_IMPM_MARGIN, NV_EVT_CORR, NV_EVT_UNCORR, NV_EVT_WFAIL, NV_EVT_REFDONE]
/-- Part of the list of every field. -/
def list3_3 : List Reg := [NV_EVT_CFGINV, NV_CMD_REFRNOW, UP_CTRL_HOSTCONF, UP_STATUS_PEND, UP_STATUS_RUNSLOT, UP_STATUS_SLOTA, UP_STATUS_SLOTB, UP_STATUS_STARTS, UP_STATUS_DLOPEN, UP_STATUS_BOOT, UP_SVN_FLOOR, UP_SVN_RUN, UP_VER_RUN, UP_VER_OTHER, UP_DL_MISSING, UP_DL_SIZE, UP_TRIALT, UP_RLYCFG_RWAIT, UP_CMD_CONFIRM, UP_CMD_RLYSTOP]
/-- Part of the list of every field. -/
def list3_4 : List Reg := [UP_EVT_VERIFIED, UP_EVT_VFAIL, UP_EVT_CONFIRM, UP_EVT_FALLBACK, UP_EVT_RLYSTAGE, UP_EVT_RLYPAUSE, UP_EVT_RLYEND, UP_RLY_STATE, UP_RLY_TYPE, UP_RLY_SRC, UP_RLY_SRCV, UP_RLY_NDONE, UP_RLY_NSKIP, UP_RLY_NFAIL, UP_DLMAP, TW_CTRL_TWA_EN, TW_CTRL_TWA_MODE, TW_CTRL_TWA_ARA, TW_STATUS_PEND, TW_STATUS_TWA_BUSY]
/-- Part of the list of every field. -/
def list3_5 : List Reg := [TW_STATUS_TWB_ALERT, TW_STATUS_TWB_PAGE, TW_STATUS_TWB_PTR, TW_TWB_ADDR, TW_TWB_PADDR, TW_TWB_WMASK, TW_TWA_CFG_STRMAX, TW_TWA_CFG_NARB, TW_TWA_CFG_NFAIL, TW_ALERT_DIVERGE, TW_ALERT_VTIMEOUT, TW_ALERT_LEASE, TW_ALERT_FAULT, TW_ALERT_TOKEN, TW_ALERT_WAKE, TW_ALERTEN, TW_EVT_TWA_PROTO, TW_EVT_TWA_FAIL, TW_EVT_ARBLOST, TW_EVT_TALERT]
/-- Part of the list of every field. -/
def list3_6 : List Reg := [TW_EVT_BREACH, TW_EVT_PFAIL, TW_EVT_TWB_NAK, TW_EVT_TWB_PARTIAL, TW_EVT_TWB_WAKE, TW_TWA_ERR, TW_TWA_ARB, TW_TWB_NAK, TW_TALERT_ADDR, TW_TALERT_VALID, TW_POLL_ADDR, TW_POLL_EN, TW_POLL_PTR, TW_POLL_LEN, TW_POLL_PER, TW_POLL_LO, TW_POLL_HI, TW_POLL_OFS, TW_POLL_SIGNED, TW_POLL_LIM_EN]
/-- Part of the list of every field. -/
def list3_7 : List Reg := [TW_POLL_ACT, TW_POLL_STR, TW_POLL_CFAIL, TW_POLL_BREACH, TW_POLL_FAILED, TW_PRES_LO, TW_PRES_HI, SP_CTRL_EN, SP_CTRL_ROLE, SP_CTRL_SRC_EN, SP_CTRL_PRS, SP_CTRL_DRS_AUTO, SP_CTRL_DBG_VBUS, SP_CTRL_SVC_CTRL, SP_STATUS_PEND, SP_STATUS_ATT, SP_STATUS_PROLE, SP_STATUS_DROLE, SP_STATUS_ORIENT, SP_STATUS_PARTNER]
/-- Part of the list of every field. -/
def list3_8 : List Reg := [SP_STATUS_RA, SP_STATUS_CONTRACT, SP_STATUS_XSITION, SP_STATUS_LEVEL, SP_STATUS_SVCBOOT, SP_STATUS_USBCFG, SP_SRC_IMAX, SP_SRC_PDOEN, SP_SRC_PPS_EN, SP_SRC_SLEWDIV, SP_SRC_VTOL, SP_SNK_IOP, SP_SNK_HV_OK, SP_SNK_VMAX, SP_SNK_PPSKA, SP_SNK_PPSV, SP_CONTR_VOLT, SP_CONTR_CURR, SP_CONTR_POS, SP_CONTR_PPS]
/-- Part of the list of every field. -/
def list3_9 : List Reg := [SP_VBUS_V, SP_VBUS_VOUT, SP_EVT_ATTACH, SP_EVT_DETACH, SP_EVT_CONTRACT, SP_EVT_SWAP, SP_EVT_HRST, SP_EVT_DIT, SP_EVT_AUTH, SP_EVT_AUTHFAIL, SP_EVT_PPSTO, SP_EVT_DISCHTO, SP_EVT_PROMO, SP_CMD_HRST, SP_CMD_ERRREC, SP_CMD_DEAUTH, SP_CNT_HRST, SP_CNT_DIT, SP_VSNS_DIV, SP_SESS]
/-- Part of the list of every field. -/
def list3_10 : List Reg := [PM_CTRL_WDOG_ACT, PM_STATUS_STATE, PM_STATUS_PEND, PM_STATUS_ACLK_INT, PM_CAUSE_POR, PM_CAUSE_RESETN, PM_CAUSE_WDOG, PM_CAUSE_HOST, PM_CAUSE_SUPPLY, PM_CAUSE_CLOCK, PM_SUP_GOOD, PM_SUPFLT, PM_WDOG_TIME, PM_WAKEEN, PM_WAKESRC, PM_SLPKEEP_LO, PM_SLPKEEP_HI, PM_PARK_VLEG, PM_SLPREF_REASON, PM_CMD_RESET]
/-- Part of the list of every field. -/
def list3_11 : List Reg := [PM_CMD_SLEEP, PM_TIME_START, PM_TIME_WAKE, PM_CNT_SLEEPS, PM_CNT_RESETS, GL_DEV_ID_REV, GL_DEV_ID_FAM, GL_DEV_ID_PART, GL_UID_LO, GL_UID_HI, GL_STATUS_MHALT, GL_STATUS_FAULT, GL_STATUS_RSTOUT, GL_STATUS_DIVERGE, GL_STATUS_BOOTSEL, GL_STATUS_TESTEN, GL_PEND, GL_WHO_ACC, GL_SCRATCH, IN_CAUSE]
/-- Part of the list of every field. -/
def list3_12 : List Reg := [IN_BUSERR_PA, IN_BUSERR_PB, IN_BUSERR_TWB, IN_BUSERR_WIDTH, IN_BUSERR_LOC, IN_BUSERR_RSVBIT, IN_BUSERR_READ, IN_BUSERR_WRITE, IN_BERR_OFS_OFS, IN_BERR_OFS_ACC, IN_BERR_OFS_KIND, IN_BERR_OFS_WR, IN_BERR_CNT, IN_REJ_CLASS, IN_REJ_SRC, IN_REJ_BLOCK, IN_REJ_OFS, IN_EVT_BATCHREJ, IN_EVT_CFGREJ, IN_REJCNT]
/-- Part of the list of every field. -/
def list3_13 : List Reg := [IN_ROUTE]
/-- Every field of this file. -/
def all3 : List Reg := list3_0 ++ list3_1 ++ list3_2 ++ list3_3 ++ list3_4 ++ list3_5 ++ list3_6 ++ list3_7 ++ list3_8 ++ list3_9 ++ list3_10 ++ list3_11 ++ list3_12 ++ list3_13

end Sys2Proof.Machine.R
end

