-- ==== Sys2Proof/Machine/Ops.lean ====
section
/-! DEFINITION. The named operations every chapter shares: the register file, event bits, postmarks of the tick in
hand, free values, and the recorder's input queue (R26, R27, R328, R329). -/

namespace Sys2Proof.Machine
open R

/-! ### Register fields -/

/-- The reset value of one element of a field. -/
def Reg.rstAt (r : Reg) (ix : Nat) : Nat := Tbl.get r.rst r.rstx ix

/-- The value in force of a field element, within the field's width. -/
def Dev.rd (d : Dev) (r : Reg) (ix : Nat := 0) : Nat := Tbl.get (r.rstAt ix) (Tbl.get [] d.regs r.id) ix % 2 ^ r.w

/-- A field element takes a value, cut to the field's width. -/
def Dev.wr (d : Dev) (r : Reg) (ix v : Nat) : Dev :=
  { d with regs := Tbl.upd [] d.regs r.id (fun t => Tbl.set (r.rstAt ix) t ix (v % 2 ^ r.w)) }

/-- A field read as a signed code of its width (R11). -/
def Dev.rdS (d : Dev) (r : Reg) (ix : Nat := 0) : Int := toS r.w (d.rd r ix)

/-- A field takes the code of a signed value, saturated to its width (R12). -/
def Dev.wrS (d : Dev) (r : Reg) (ix : Nat) (x : Int) : Dev := d.wr r ix (ofS r.w (satS r.w x))

/-- A one-bit field read as a truth value. -/
def Dev.fl (d : Dev) (r : Reg) (ix : Nat := 0) : Bool := d.rd r ix != 0

/-- A one-bit field takes a truth value. -/
def Dev.wrB (d : Dev) (r : Reg) (ix : Nat) (b : Bool) : Dev := d.wr r ix b.toNat

/-- A field read where 0 acts as 1. -/
def Dev.rd1 (d : Dev) (r : Reg) (ix : Nat := 0) : Nat := act1 (d.rd r ix)

/-- A saturating counter field counts one (R465). -/
def Dev.inc (d : Dev) (r : Reg) (ix : Nat := 0) : Dev := d.wr r ix (incSat r.w (d.rd r ix))

/-- Bit `b` of a field. -/
def Dev.bit (d : Dev) (r : Reg) (ix b : Nat) : Bool := bitOf (d.rd r ix) b

/-- Bit `b` of a field takes a value. -/
def Dev.wrBit (d : Dev) (r : Reg) (ix b : Nat) (v : Bool) : Dev := d.wr r ix (setBit (d.rd r ix) b v)

/-- A field returns to its reset value in every element. -/
def Dev.clrReg (d : Dev) (r : Reg) : Dev := { d with regs := Tbl.erase d.regs r.id }

/-- Several fields return to their reset values. -/
def Dev.clrRegs (d : Dev) (rs : List Reg) : Dev := forL rs (fun r d => d.clrReg r) d

/-! ### Events and interrupts -/

/-- The interrupt cause whose event registers a field belongs to (R438). -/
def causeOf (r : Reg) (ix : Nat) : Nat :=
  if r.off < 0x400 then 2
  else if r.off < 0x800 then 3
  else if r.off < 0xC00 then 4
  else if r.off < 0x1000 then (if r.off < 0xC10 then 0 else 1)
  else if r.off < 0x1800 then 22 + ix
  else if r.off < 0x2000 then 5
  else if r.off < 0x2800 then 6
  else if r.off < 0x8000 then 7
  else if r.off < 0x8800 then 8
  else if r.off < 0x8C00 then 9
  else if r.off < 0x9000 then 10
  else if r.off < 0x9800 then 11
  else if r.off < 0x9C00 then 12
  else if r.off < 0xA000 then 13
  else if r.off < 0xA800 then 14
  else if r.off < 0xAC00 then 15
  else if r.off < 0xB000 then 16
  else if r.off < 0xB400 then 17
  else if r.off < 0xB800 then 18
  else if r.off < 0xBC00 then 19
  else if r.off < 0xC000 then 20
  else 21

/-- An event bit is set; a bit that was 0 raises its cause for this tick (R432, R439). -/
def Dev.ev (d : Dev) (r : Reg) (ix : Nat := 0) : Dev :=
  if d.fl r ix then d else { d.wr r ix 1 with rise := setBit d.rise (causeOf r ix) true }

/-- A cause of TW_ALERT is set; TWB_ALERT_N is asserted where its enable is 1, outside service boot (R373). -/
def Dev.alert (d : Dev) (r : Reg) : Dev :=
  if d.fl r then d
  else
    let d := d.wr r 0 1
    if bitOf (d.rd TW_ALERTEN) r.lo && !d.fl SP_STATUS_SVCBOOT then d.wr TW_STATUS_TWB_ALERT 0 1 else d

/-- An emission leaves the device. -/
def Dev.emit (d : Dev) (e : Emission) : Dev := { d with out := d.out ++ [e] }

/-- The free value numbered by the counter. -/
def Dev.freeV (d : Dev) : Nat := Config.freeValue d.freeCtr

/-- The counter moves on after a free value was used. -/
def Dev.freeNext (d : Dev) : Dev := { d with freeCtr := d.freeCtr + 1 }

/-! ### Ticks and postmarks -/

/-- Postmark and fraction of the edge after the last one, before any forward step (R53): 1000 ns, corrected by the
net carries and borrows of 1000 additions of the rate word to the fraction accumulator. -/
def pmAdvance (pm frac : Nat) (rate : Int) : Nat × Nat :=
  let x : Int := (frac : Int) + 1000 * rate
  (((pm : Int) + 1000 + x / (2 ^ 32 : Nat)).toNat, (x % (2 ^ 32 : Nat)).toNat)

/-- The postmark the coming tick edge will carry. -/
def Dev.pmNext (d : Dev) : Nat := (pmAdvance d.tb.pm d.tb.frac (d.rdS TB_RATE)).1 + d.tb.stepNext

/-- The tick in hand. -/
def Dev.cur (d : Dev) : Nat := d.tb.now

/-- The postmark of its edge. -/
def Dev.curPm (d : Dev) : Nat := d.tb.pm

/-- The postmark of a tick edge `k` ticks before the tick in hand (R37). -/
def Dev.pmAgo (d : Dev) (k : Nat) : Nat := if k = 0 then d.tb.pm else d.tb.hist.getD (k - 1) 0

/-- The work in hand is in phase C or later, where what begins next begins in the next tick (R45, R229). -/
def Dev.inC (d : Dev) : Bool := decide (2 ≤ d.tb.stage)

/-- Only the sill runs: service boot or recovery mode, which give no power service (R32, R38, R356). -/
def Dev.sill (d : Dev) : Bool := d.fl SP_STATUS_SVCBOOT || d.pw.recovery

/-- A deadline set at `start` with `n` ticks has been reached (R47). -/
def Dev.due (d : Dev) (deadline : Nat) : Bool := decide (deadline ≤ d.tb.now)

/-! ### The recorder's input queue -/

/-- How R335 marks a code: hardware, management or host. -/
inductive Origin where
  | hw | mgmt | host
deriving DecidableEq, Repr

/-- The mark of a code (R335). -/
def originOf (code : Nat) : Origin :=
  if code = 0x0100 ∨ code = 0x0705 ∨ code = 0x0706 ∨ code = 0x0A02 ∨ code = 0x0A03 ∨ code = 0x0B04 ∨ code = 0x0B05
      ∨ (0x0C04 ≤ code ∧ code ≤ 0x0C07) then .mgmt
  else if code = 0x0C08 then .host
  else if code < 0x0D00 then .hw
  else if code < 0x1000 then .mgmt
  else if code = 0x1003 ∨ code = 0x1005 then .hw
  else .mgmt

/-- The severity of a code (R335); the codes whose severity depends on the event get it from their own rule. -/
def sevOf (code : Nat) : Nat :=
  let l : Nat → List Nat := fun g => match g with
    | 0x01 => [2, 0, 1, 2]
    | 0x02 => [3, 3, 2, 0]
    | 0x03 => [1, 2]
    | 0x04 => [4, 3, 1]
    | 0x05 => [3, 3, 2, 2, 2]
    | 0x06 => [2, 1, 2, 3, 2]
    | 0x07 => [3, 2, 1, 4, 3, 1, 4, 2, 2]
    | 0x08 => [3, 1, 3, 1, 2, 1, 3, 3]
    | 0x09 => [0, 1, 1, 3, 2, 4, 3, 4, 2, 2, 0, 1, 4]
    | 0x0A => [2, 0, 2, 0]
    | 0x0B => [2, 1, 2, 2, 0, 1]
    | 0x0C => [2, 2, 1, 1, 3, 2, 1, 1, 0, 2, 1]
    | 0x0D => [2, 0, 1, 1, 1, 2, 2]
    | 0x0E => [1, 2, 0, 1, 3, 1, 1, 3, 0, 1, 1, 4]
    | 0x0F => [1, 0, 0, 0, 0, 1, 2, 1]
    | 0x10 => [1, 0, 0, 4, 4, 2]
    | _ => []
  (l (code / 256)).getD (code % 256) 0

/-- The place of an entry among those of its tick (R27): control plane with a source channel, control plane without,
data plane, management plane, hosts. DESIGN CHOICE: the manual does not say which hardware codes come from the data plane; the
model takes STAGE_EVENT (0x0203) and the telemetry codes 0x0C00 to 0x0C03, and every other hardware code as the control
plane's (log entry 73). -/
def entKey (code cls src : Nat) : Nat :=
  match originOf code with
  | .host => 5 * 2 ^ 40
  | .mgmt => 4 * 2 ^ 40
  | .hw =>
    if code = 0x0203 ∨ (0x0C00 ≤ code ∧ code ≤ 0x0C03) then 3 * 2 ^ 40
    else if cls = 1 then 1 * 2 ^ 40 + src
    else 2 * 2 ^ 40 + cls * 2 ^ 20 + src

/-- The queue with an entry put behind every entry of its tick whose key is not greater (R27). -/
def queueIns (q : List Ent) (e : Ent) : List Ent :=
  match q with
  | [] => [e]
  | x :: r => if x.tick = e.tick ∧ e.key < x.key then e :: x :: r else x :: queueIns r e

/-- A record closes (R328): a change since its first write falls due for rewriting, and an entry not yet written
takes the count it closes with. -/
def closeRec (r : RecSt) (o : OpenRec) (sat : Bool) : RecSt :=
  let r := { r with opens := r.opens.filter (fun x => x.oid != o.oid) }
  match o.written with
  | some (rnum, epoch, rep) =>
    if o.rep = rep then r
    else { r with rewrites := r.rewrites ++ [{ rnum := rnum, epoch := epoch, rep := o.rep, sat := sat, lastPm := o.lastPm }] }
  | none =>
    { r with queue := r.queue.map (fun e =>
        if e.openId = o.oid then
          { e with rep := o.rep, sat := sat, openId := 0, pay := e.pay.take 32 ++ le 8 o.lastPm } else e) }

/-- Every open record of a source closes, because a new record of that source joins (R328). -/
def closeSource (r : RecSt) (cls src : Nat) : RecSt :=
  forL (r.opens.filter (fun o => o.cls = cls ∧ o.src = src)) (fun o r => closeRec r o false) r

/-- The recorder refuses an entry (R26). -/
def refuseEnt (d : Dev) : Dev :=
  let d := (d.inc EV_QREF).ev EV_EVT_QREF
  { d with rcd := { d.rcd with refused := d.rcd.refused + 1, drop := true } }

/-- A hardware-sourced entry joins: it folds into its open record, or becomes a new open record (R26, R328). -/
def joinHw (d : Dev) (e : Ent) : Dev :=
  match d.rcd.opens.find? (fun o => o.code = e.code ∧ o.cls = e.cls ∧ o.src = e.src) with
  | some o =>
    let o' := { o with rep := o.rep + 1, lastPm := e.pm, lastTick := d.cur }
    let r := { d.rcd with opens := d.rcd.opens.map (fun x => if x.oid = o.oid then o' else x) }
    { d with rcd := if 65535 ≤ o'.rep then closeRec r o' true else r }
  | none =>
    if 1024 ≤ d.rcd.queue.length then refuseEnt d
    else
      let r := closeSource d.rcd e.cls e.src
      let oid := r.nextOid
      let o : OpenRec := { oid := oid, code := e.code, cls := e.cls, src := e.src, lastPm := e.pm, lastTick := d.cur }
      let r := { r with queue := queueIns r.queue { e with openId := oid }, nextOid := oid + 1, opens := r.opens ++ [o] }
      let r := if 32 < r.opens.length then (match r.opens with | o :: _ => closeRec r o false | [] => r) else r
      { d with rcd := r }

/-- RATE and BURST of a code: its override in EV_ROVR, or EV_RLIM (R329). -/
def rateOf (d : Dev) (code : Nat) : Nat × Nat :=
  match firstIx 16 (fun i => d.rd EV_ROVR_CODE i == code && code != 0) with
  | some i => (d.rd1 EV_ROVR_RATE i, d.rd1 EV_ROVR_BURST i)
  | none => (d.rd1 EV_RLIM_RATE, d.rd1 EV_RLIM_BURST)

/-- The bucket of a code, and of a sender for HOST_NOTE (R329). -/
def bucketKey (code cls : Nat) : Nat := code * 16 + (if code = 0x0C08 then cls else 0)

/-- A bucket filled up to the tick in hand; it is full after a reset and whenever RATE or BURST changed (R329). -/
def bucketNow (d : Dev) (code : Nat) (b : Bucket) : Bucket :=
  let (rate, burst) := rateOf d code
  let lvl := if b.used ∧ b.rate = rate ∧ b.burst = burst
    then min (burst * 1000000) (b.lvl + rate * (d.cur - b.last)) else burst * 1000000
  { b with used := true, lvl := lvl, last := d.cur, rate := rate, burst := burst }

/-- A management or host entry joins: rate limit first, then the room of R26. -/
def joinLimited (d : Dev) (e : Ent) : Dev :=
  let k := bucketKey e.code e.cls
  let exempt := decide (0x0D00 ≤ e.code ∧ e.code ≤ 0x0D05)
  let b := bucketNow d e.code (Tbl.get {} d.rcd.buckets k)
  let pass := exempt || decide (1000000 ≤ b.lvl)
  let b' := if exempt then Tbl.get {} d.rcd.buckets k
    else if pass then { b with lvl := b.lvl - 1000000 } else { b with drop := b.drop + 1 }
  let d := { d with rcd := { d.rcd with buckets := Tbl.set {} d.rcd.buckets k b' } }
  if !pass then
    let d := (d.inc EV_SUPP).ev EV_EVT_SUPP
    { d with rcd := { d.rcd with drop := true } }
  else if 768 ≤ d.rcd.queue.length then refuseEnt d
  else
    let r := closeSource d.rcd e.cls e.src
    { d with rcd := { r with queue := queueIns r.queue e } }

/-- An entry joins the recorder's input queue (RECORD_ENQUEUE, RECORD_FOLD). -/
def joinEnt (d : Dev) (e : Ent) : Dev :=
  let e := { e with tick := d.cur, key := entKey e.code e.cls e.src }
  match originOf e.code with
  | .hw => joinHw d { e with pay := fit 32 e.pay ++ le 8 e.pm }
  | _ => joinLimited d { e with pay := fit 40 e.pay }

/-- A record of a code, source class, source and payload detail, with a given postmark (R324, R336). -/
def Dev.recAt (d : Dev) (pm code cls src : Nat) (pay : List Nat) : Dev :=
  joinEnt d { pm := pm, code := code, cls := cls, src := src, sev := sevOf code, pay := pay }

/-- A record with the postmark of the tick in hand. -/
def Dev.recd (d : Dev) (code cls src : Nat) (pay : List Nat) : Dev := d.recAt d.curPm code cls src pay

/-! ### Per-unit internal state -/

/-- The internal state of ring `r`. -/
def Dev.rg (d : Dev) (r : Nat) : RingSt := Tbl.get {} d.ring r
/-- Ring `r` changes. -/
def Dev.setRg (d : Dev) (r : Nat) (x : RingSt) : Dev := { d with ring := Tbl.set {} d.ring r x }
/-- The internal state of channel `c`. -/
def Dev.chn (d : Dev) (c : Nat) : ChanSt := Tbl.get {} d.ch c
/-- Channel `c` changes. -/
def Dev.setCh (d : Dev) (c : Nat) (x : ChanSt) : Dev := { d with ch := Tbl.set {} d.ch c x }
/-- The internal state of loop slot `s`. -/
def Dev.slot (d : Dev) (s : Nat) : SlotSt := Tbl.get {} d.le.slot s
/-- Loop slot `s` changes. -/
def Dev.setSlot (d : Dev) (s : Nat) (x : SlotSt) : Dev := { d with le := { d.le with slot := Tbl.set {} d.le.slot s x } }
/-- A function value (R115). -/
def Dev.fv (d : Dev) (i : Nat) : Int := Tbl.get 0 d.le.fv i
/-- A function publishes a value (R115). -/
def Dev.setFv (d : Dev) (i : Nat) (x : Int) : Dev := { d with le := { d.le with fv := Tbl.set 0 d.le.fv i x } }
/-- A function input (R115). -/
def Dev.fin (d : Dev) (i : Nat) : Int := Tbl.get 0 d.le.fi i

/-- A fault of a sequencer target is latched (R227): target kind and number, cause. -/
def Dev.tfault (d : Dev) (kind num cause : Nat) : Dev := { d with tfq := d.tfq ++ [(kind, num, cause)] }

end Sys2Proof.Machine
end

