-- ==== Sys2Proof/Machine/Directory.lean ====
section
/-! DEFINITION. Channels and the channel directory: scaling of samples, one-shot commands, conditions and health,
matching and quarantine (R94 to R110). -/

namespace Sys2Proof.Machine
open R

/-- Quarantine reasons of R108. -/
def qFunction : Nat := 1
/-- RECONFIG. -/
def qReconfig : Nat := 2
/-- ABSENT. -/
def qAbsent : Nat := 3
/-- UNEXPECTED. -/
def qUnexpected : Nat := 4
/-- IDENT_FAIL. -/
def qIdentFail : Nat := 5
/-- TYPE. -/
def qType : Nat := 6
/-- IMAGE. -/
def qImage : Nat := 7
/-- SVN. -/
def qSvn : Nat := 8
/-- VERSION. -/
def qVersion : Nat := 9
/-- CONFIG_NAK. -/
def qConfigNak : Nat := 10

/-- The role code of a channel's entry (R94). -/
def roleOf (d : Dev) (c : Nat) : Nat := d.rd CD_ENT_ROLE c

/-- The channel holding a role for an owner kind, owner number and unit, lowest number first. -/
def chanFind (d : Dev) (p : Nat → Bool) : Option Nat := firstIx 256 (fun c => roleOf d c != 0 && p c)

/-- The channel of an owner kind with a unit index, for a role (R95). -/
def chanOfUnit (d : Dev) (role unit : Nat) : Option Nat :=
  chanFind d (fun c => roleOf d c == role && d.rd CD_ENT_UNIT c == unit)

/-- The channel of a fuse index: role fuse or port switch (R95). -/
def chanOfFuse (d : Dev) (f : Nat) : Option Nat :=
  chanFind d (fun c => (roleOf d c == 3 || roleOf d c == 4) && d.rd CD_ENT_UNIT c == f)

/-! ### Scaling (R101) -/

/-- Q16.16 per 1000 V codes of a role. -/
def vScale (role : Nat) : Int := if role = 1 ∨ role = 2 then 16384 else 65536
/-- Q16.16 per 1000 I codes of a role. -/
def iScale (role : Nat) : Int := if 5 ≤ role then 262144 else 131072
/-- A V code in Q16.16 volts. -/
def scaleV (role code : Nat) : Int := satS 32 (rdiv ((code : Int) * vScale role) 1000)
/-- An I code in Q16.16 amperes. -/
def scaleI (role code : Nat) : Int := satS 32 (rdiv (toS 16 code * iScale role) 1000)
/-- A T code in Q16.16 degrees Celsius. -/
def scaleT (code : Nat) : Int := (code : Int) * 16384 - 4194304

/-- A channel's V in force for control-plane functions, Q16.16 V. -/
def chV (d : Dev) (c : Nat) : Int := scaleV (roleOf d c) (d.chn c).smp.v
/-- A channel's I in force, Q16.16 A. -/
def chI (d : Dev) (c : Nat) : Int := scaleI (roleOf d c) (d.chn c).smp.i
/-- A channel's T in force, Q16.16 °C. -/
def chT (d : Dev) (c : Nat) : Int := scaleT (d.chn c).smp.t
/-- A report flag of the sample in force. -/
def chFlag (d : Dev) (c b : Nat) : Bool := bitOf (d.chn c).smp.fl b

/-! ### One-shot commands (R71) -/

/-- A one-shot command that a quarantined channel still sends (R71, R106): IDENT, and the write command of R359. -/
def quarSends (e : Cmd) : Bool := e.opc == 0x04 || (e.opc == 0x71 && e.arg % 65536 == 0x71)

/-- A one-shot command joins the channel's list; RUN is never issued for a quarantined channel (R71, R106). -/
def issue (d : Dev) (c opc arg : Nat) : Dev :=
  let x := d.chn c
  let e : Cmd := { opc := opc, arg := arg }
  if x.quar ∧ !quarSends e then d else d.setCh c { x with q := x.q ++ [e] }

/-- RUN (R70). -/
def issueRun (d : Dev) (c : Nat) : Dev := issue d c 0x01 0
/-- SAFE as a one-shot command. -/
def issueSafe (d : Dev) (c : Nat) : Dev := issue d c 0x02 0
/-- REG_WR of a stage register (R70). -/
def issueRegWr (d : Dev) (c addr data : Nat) : Dev := issue d c 0x71 (addr % 65536 + data % 2 ^ 32 * 65536)

/-! ### Health (R105 to R108) -/

/-- The health that the conditions give (R106). -/
def healthNow (d : Dev) (c : Nat) : Nat :=
  let x := d.chn c
  if x.quar then 7
  else if d.fl CD_ENT_COND_NOREP c then 6
  else if d.fl CD_ENT_COND_SAFE c then 5
  else if d.fl CD_ENT_COND_UPD c then 4
  else if d.fl CD_ENT_COND_DEGR c && x.matched then 3
  else if x.matched then 2
  else if roleOf d c ≠ 0 then 1
  else 0

/-- The health shown for a channel. -/
def health (d : Dev) (c : Nat) : Nat := d.rd CD_ENT_HEALTH c

/-- A channel's health follows its conditions; the first change of a tick keeps the health before it for the record (R107). -/
def healthEval (d : Dev) (c : Nat) : Dev :=
  let old := health d c
  let new := healthNow d c
  if old = new then d
  else
    let x := d.chn c
    (d.wr CD_ENT_HEALTH c new).setCh c { x with was := some (x.was.getD old) }

/-- A commit changed a channel's conditions at its boundary: phase B evaluates the health (R30). -/
def healthLater (d : Dev) (c : Nat) : Dev := { d with reval := if d.reval.contains c then d.reval else d.reval ++ [c] }

/-- The health of the channels that a commit touched, in phase B. -/
def revalAll (d : Dev) : Dev := forL d.reval (fun c d => healthEval d c) { d with reval := [] }

/-- The records of a channel's changes in the tick in hand: one CHAN_HEALTH with the resulting health, and CHAN_QUARANTINE
(R107, R108, R468). -/
def healthFlush (d : Dev) (c : Nat) : Dev :=
  let x := d.chn c
  let new := health d c
  let d := d.setCh c { x with was := none, qnew := [] }
  let d := match x.was with
    | some old => if old = new then d else d.recd 0x0300 1 c [old, new, d.rd CD_ENT_QREASON c]
    | none => d
  match x.qnew with
  | [] => d
  | a :: l =>
    let lo := (a :: l).foldl min a
    let second := match (a :: l).filter (fun q => q != lo) with
      | q :: qs => qs.foldl min q
      | [] => 0
    d.recd 0x0301 1 c ([lo, second, d.rd CD_ENT_QCOUNT c, 0] ++ fit 28 (x.idb.take 28))

/-- The directory's records of the tick in hand (R107). -/
def dirRecords (d : Dev) : Dev :=
  forL ((d.ch.filter (fun e => e.2.was.isSome || !e.2.qnew.isEmpty)).map Prod.fst) (fun c d => healthFlush d c) d

/-- A channel in ACTIVE or DEGRADED health is in service (R106). -/
def inService (d : Dev) (c : Nat) : Bool := health d c == 2 || health d c == 3

/-- QUAR and its reason are set (R105, R108): of two reasons of one tick the lower code stands, and a quarantine with reason
FUNCTION keeps its reason until its release. -/
def quarMark (d : Dev) (c reason : Nat) : Dev :=
  let x := d.chn c
  let same := x.qat == some d.cur
  if x.quar then
    if d.rd CD_ENT_QREASON c = qFunction ∧ !same then d
    else
      (d.wr CD_ENT_QREASON c (if same then min reason (d.rd CD_ENT_QREASON c) else reason)).setCh c
        { x with matched := false, qat := some d.cur, qnew := if x.qnew.isEmpty then [] else x.qnew ++ [reason] }
  else
    let d := d.setCh c { x with quar := true, matched := false, release := false, qnew := [reason], qat := some d.cur,
                                q := x.q.filter quarSends }
    (d.wr CD_ENT_QREASON c reason).inc CD_ENT_QCOUNT c

/-- A channel is quarantined for a reason (CHAN_QUARANTINE, R105, R107, R108). -/
def quarantine (d : Dev) (c reason : Nat) : Dev := healthEval (quarMark d c reason) c

/-- A position of ROLE 0 whose slot returns unchanged has no quarantine (R103). -/
def unusedSettled (d : Dev) (c : Nat) : Dev :=
  healthEval ((d.setCh c { d.chn c with quar := false, matched := false, release := false, reiding := false }).wr CD_ENT_QREASON c 0) c

/-- A channel has matched (R103): it leaves quarantine unless a FUNCTION quarantine is not yet releasable (R108). -/
def matchChan (d : Dev) (c : Nat) : Dev :=
  let x := d.chn c
  if x.quar ∧ d.rd CD_ENT_QREASON c = qFunction ∧ !x.release then
    d.setCh c { x with reiding := false, reid := false }
  else
    let d := d.setCh c { x with quar := false, matched := true, release := false, reiding := false }
    healthEval (d.wr CD_ENT_QREASON c 0) c

/-- A ring has enumerated again: its channels have no sample in force for telemetry until their next report (R256). -/
def telVoid (d : Dev) (r : Nat) : Dev := forIx 32 (fun p d => d.setCh (r * 32 + p) { d.chn (r * 32 + p) with tel := {} }) d

/-- The channels of a ring lose MATCH, NOREP, SAFE and UPD at a ring reset or ring-down; QUAR and DEGR stay (R105), and
a FUNCTION quarantine becomes releasable by the next match (R108). -/
def dirRingDown (d : Dev) (r : Nat) : Dev :=
  forIx 32 (fun p d =>
    let c := r * 32 + p
    let x := d.chn c
    let d := d.setCh c { x with matched := false, enum := false, rtype := 0, release := x.quar, miss := 0, fresh := false,
                                q := [], asks := 0, idAns := 0, cfgAns := 0, reiding := false, reidOwn := none }
    let d := ((d.wr CD_ENT_COND_NOREP c 0).wr CD_ENT_COND_SAFE c 0).wr CD_ENT_COND_UPD c 0
    healthEval d c) d

/-- A condition flag of a channel changes (R105). -/
def setCond (d : Dev) (r : Reg) (c : Nat) (b : Bool) : Dev :=
  if d.fl r c = b then d else healthEval (d.wrB r c b) c

/-- A bit of CAPS in the identity block last received (R97). -/
def chCaps (d : Dev) (c b : Nat) : Bool := bitOf (leAt (d.chn c).idb 16 2) b

/-! ### Reports (R72 to R74) -/

/-- A valid report of channel `c` latched with report latency `lat`: the sample, the conditions NOREP and SAFE, and
LPROT (R105, R106, R110). A quarantined channel's sample reaches telemetry only. -/
def latchReport (d : Dev) (c lat : Nat) (r : Report) : Dev :=
  let x := d.chn c
  let s : Samp := { has := true, v := repV r, i := repI r, t := repT r, fl := repFl r, pm := d.pmAgo lat, tick := d.cur - lat }
  let smp := if repSampled r ∧ !x.quar then s else x.smp
  let tel := if repSampled r then s else x.tel
  let d := d.setCh c { x with smp := smp, tel := tel, fresh := repSampled r, rtype := r.rtype.toNat, same := false,
                              miss := 0, regData := if r.rtype = 2 then r.data.toNat else x.regData }
  let d := if repLprot r then d.wr CD_ENT_LPROT c 1 else d
  if !x.enum then d
  else
    let d := d.wr CD_ENT_COND_NOREP c 0
    let d := if r.rtype = 3 then d.wr CD_ENT_COND_SAFE c 1 else if r.rtype = 1 then d.wr CD_ENT_COND_SAFE c 0 else d
    healthEval d c

/-- A tick, or a split cycle, without a valid report of the channel (R74, R90). -/
def missReport (d : Dev) (c : Nat) (same : Bool) : Dev :=
  let x := d.chn c
  d.setCh c { x with miss := if x.enum then x.miss + 1 else 0, same := same, fresh := false }

/-- The position of a channel is settled: from here SAFE follows the reports, the last one included (R105, R106). -/
def identified (d : Dev) (c : Nat) : Dev :=
  let x := d.chn c
  setCond (d.setCh c { x with reiding := false, enum := true }) CD_ENT_COND_SAFE c (x.rtype == 3)

/-- The miss limit of the channel's ring is reached (R74). -/
def missDue (d : Dev) (c : Nat) : Bool :=
  decide (d.rd1 RG_CFG_MISS_LIM (c / 32) ≤ (d.chn c).miss) && !d.fl CD_ENT_COND_NOREP c && roleOf d c != 0

/-! ### Matching (R97, R103, R104) -/

/-- The identity block's ICRC is right (R97). -/
def identOk (b : List Nat) : Bool := b.length == 32 && crc32 (b.take 28) == leAt b 28 4

/-- The running version passes the entry's policy (R104). -/
def versionOk (d : Dev) (c : Nat) (b : List Nat) : Bool :=
  let maj := leAt b 4 1
  let mn := leAt b 3 1
  let pat := leAt b 2 1
  let em := d.rd CD_ENT_FW_MAJ c
  let en := d.rd CD_ENT_FW_MIN c
  let ep := d.rd CD_ENT_FW_PAT c
  match d.rd CD_ENT_VERPOL c with
  | 0 => maj == em && mn == en && pat == ep
  | 1 => maj == em && mn == en && decide (ep ≤ pat)
  | 2 => maj == em && decide (en * 256 + ep ≤ mn * 256 + pat)
  | _ => true

/-- The CAPS bit a role needs is there (R103 check 3). -/
def capsOk (role : Nat) (b : List Nat) : Bool :=
  let caps := leAt b 16 2
  if role = 2 then bitOf caps 0 else if role = 4 then bitOf caps 1 else true

/-- Checks 1 to 6 of R103 on a position's answer: `same` slot unchanged, `b` the valid block or empty; the reason of
the first check that fails. -/
def identCheck (d : Dev) (c : Nat) (same : Bool) (b : List Nat) : Option Nat :=
  let role := roleOf d c
  if role ≠ 0 ∧ (same ∨ b = []) then some (if same then qAbsent else qIdentFail)
  else if role = 0 ∧ !same then some qUnexpected
  else if role = 0 then none
  else if leAt b 0 1 ≠ d.rd CD_ENT_EXP_TYPE c ∨ !capsOk role b then some qType
  else if leAt b 7 1 ≠ 0 then some qImage
  else if leAt b 5 1 < d.rd CD_ENT_MIN_SVN c then some qSvn
  else if !versionOk d c b then some qVersion
  else none

/-- The configuration piece of R98 for a channel. -/
def configPiece (d : Dev) (c : Nat) : List Nat :=
  let r := c / 32
  let p := c % 32
  [r, p] ++ le 2 (d.rd RG_HOPDLY_FWD (r * 32 + p)) ++ le 2 (d.rd RG_HOPDLY_REV (r * 32 + p))
    ++ le 2 (d.rd CD_ENT_HOLDOVER c) ++ [d.rd CD_ENT_SAFE c, roleOf d c, 0, 0]

end Sys2Proof.Machine
end

