-- ==== Sys2Proof/Machine/TimeBase.lean ====
section
/-! DEFINITION. The time base: tick edges, postmark, disciplining to SYNC_IN and SYNC_OUT (R41 to R61). -/

namespace Sys2Proof.Machine
open R

/-- The limit of the rate word, 200 ppm (R53). -/
def rateMax : Int := 858993

/-- A rate word saturated to its limit (R58). -/
def satRate (x : Int) : Int := clampI (-rateMax) rateMax x

/-- The schedule position of the tick in hand: bits [9:0] of the tick counter (R43). -/
def schedPos (d : Dev) : Nat := d.rd TB_TICK % 1024

/-- The window comparison of tick numbers and of sequence numbers (R44, R307). -/
def laterThan (a b : Nat) : Bool :=
  let x := (a + 2 ^ 32 - b % 2 ^ 32) % 2 ^ 32
  decide (1 ≤ x ∧ x ≤ 2 ^ 31 - 1)

/-- A tick edge: the postmark advances by R53 and any forward step, the counters advance, and a rate word that a capture or
a miss of the ended tick set comes into force (R41, R50, R58). -/
def tbEdge (d : Dev) : Dev :=
  let rate := d.rdS TB_RATE
  let (pm, frac) := pmAdvance d.tb.pm d.tb.frac rate
  let tb := d.tb
  let tb' := { tb with
    now := tb.now + 1, pm := pm + tb.stepNext, frac := frac, hist := (tb.pm :: tb.hist).take 16,
    rateNext := none, stepNext := 0, stage := 0, handed := 0 }
  let d := { d with tb := tb' }
  let d := d.wr TB_TICK 0 (d.rd TB_TICK + 1)
  match tb.rateNext with
  | some x => d.wrS TB_RATE 0 x
  | none => d

/-- The frame position and number after an edge that is no frame boundary (R42). -/
def tbFramePos (d : Dev) : Dev := d.wr TB_FRAME_POS 0 (d.rd TB_FRAME_POS + 1)

/-- The frame position and number at a frame boundary (R42). -/
def tbFrameOpen (d : Dev) : Dev := (d.wr TB_FRAME_POS 0 0).wr TB_FRAME_NUM 0 (d.rd TB_FRAME_NUM + 1)

/-- The pulse period, held within its range (R61; log entry 28). -/
def syncPeriod (d : Dev) : Nat := clampN 1000000 1000000000 (d.rd TB_SYNC_PERIOD)

/-- SYNC_OUT of the tick that has begun (R60, SYNC_OUT_PULSE); WIDTH 0 acts as 1 (log entry 27). -/
def syncOutTick (d : Dev) : Dev :=
  if !d.fl TB_CTRL_SYNCOUT_EN then { d with tb := { d.tb with syncOut := false, syncHigh := 0 } }
  else
    let shift := clampN 1 20 (d.rd TB_SYNCOUT_CFG_SHIFT)
    let width := d.rd1 TB_SYNCOUT_CFG_WIDTH
    let period := syncPeriod d
    let byPm := d.fl TB_CTRL_SYNCOUT_MODE
    let next := (pmAdvance d.tb.pm d.tb.frac (d.rdS TB_RATE)).1
    let rise := if byPm then decide (cdiv d.tb.pm period * period < next)
      else decide ((d.rd TB_TICK + 2 ^ 32 - d.rd TB_SYNCOUT_OFS) % 2 ^ shift = 0)
    let high := if byPm then min width (period / 2000) else min width (2 ^ (shift - 1))
    let left := if rise then high else d.tb.syncHigh - 1
    { d with tb := { d.tb with syncOut := decide (0 < left), syncHigh := left } }

/-- SYNC_MODE as it comes into force at a boundary (R59, first two rows). -/
def syncModeApply (d : Dev) : Dev :=
  let m := d.rd TB_CTRL_SYNC_MODE
  let was := d.tb.modeSeen
  let d := { d with tb := { d.tb with modeSeen := m } }
  if m = 0 ∧ was ≠ 0 then
    { (d.wr TB_STATUS_LOCK 0 0).wrS TB_RATE 0 (d.rdS TB_FREQ) with
      tb := { d.tb with lockRun := 0, missRun := 0, expect := none, rateNext := none } }
  else if m ≠ 0 ∧ d.rd TB_STATUS_LOCK = 0 then d.wr TB_STATUS_LOCK 0 1
  else d

/-- The limit of consecutive misses was reached while LOCKED (SYNC_HOLDOVER). -/
def syncMissCount (d : Dev) : Dev :=
  let n := d.tb.missRun + 1
  let d := { d with tb := { d.tb with missRun := n } }
  if d.rd TB_STATUS_LOCK = 2 ∧ d.rd1 TB_SYNC_GAIN_MISS_LIM ≤ n then
    let d := (d.wr TB_STATUS_LOCK 0 3).ev TB_EVT_HOLDOVER
    let d := { d with tb := { d.tb with rateNext := some (d.rdS TB_FREQ) } }
    d.recd 0x0103 0 0 []
  else d

/-- The offset of a capture from the nearest multiple of the period, in −period/2 < e ≤ +period/2 (R57). -/
def syncOffset (pm period : Nat) : Int :=
  let r := pm % period
  if 2 * r ≤ period then (r : Int) else (r : Int) - period

/-- The update of R58 by an accepted capture of offset `e`; `stepOk` admits a forward step. -/
def syncUpdate (d : Dev) (e : Int) (stepOk : Bool) : Dev :=
  let period : Int := syncPeriod d
  let q := rdiv (e * (2 ^ 32 : Nat)) period
  let freq := satRate (d.rdS TB_FREQ - rdiv q (2 ^ d.rd TB_SYNC_GAIN_KI : Nat))
  let d := d.wrS TB_FREQ 0 freq
  if stepOk ∧ d.rd TB_CTRL_SYNC_MODE = 2 ∧ e < -(d.rd TB_SYNC_STEPLIM : Int) then
    let d := { d with tb := { d.tb with stepNext := (-e).toNat, rateNext := some freq } }
    (d.ev TB_EVT_STEP).recd 0x0102 0 0 []
  else
    { d with tb := { d.tb with rateNext := some (satRate (freq - rdiv q (2 ^ d.rd TB_SYNC_GAIN_KP : Nat))) } }

/-- A capture comes within half a period of the last accepted one (R57, R59). -/
def capEarly (d : Dev) (pm : Nat) : Bool :=
  match d.tb.lastCap with
  | some c => decide (2 * (pm - c) < syncPeriod d)
  | none => false

/-- The target of a capture and the one expected after it (R57, R59). -/
def capExpect (d : Dev) (pm : Nat) : Nat :=
  let period := syncPeriod d
  ((pm : Int) - syncOffset pm period).toNat + period

/-- A capture outside the window of LOCKED is discarded and counts as a miss (R59). DESIGN CHOICE: the expected target moves on, so
its pulse is not missed as well and MISS stays clear (log entry 74). -/
def capOutside (d : Dev) (pm : Nat) : Dev :=
  syncMissCount (({ d with tb := { d.tb with expect := some (capExpect d pm) } } : Dev).ev TB_EVT_OUTLIER)

/-- The lock state after an accepted capture that was `run`-th in a row within LOCKTHR (R59). -/
def capState (d : Dev) (st run : Nat) : Dev :=
  if st = 1 then
    if d.rd1 TB_SYNC_GAIN_LOCK_N ≤ run then (d.wr TB_STATUS_LOCK 0 2).recd 0x0101 0 0 [] else d
  else if st = 3 then { d.wr TB_STATUS_LOCK 0 1 with tb := { d.tb with lockRun := 0 } }
  else d

/-- An accepted capture (R58, R59). -/
def capAccept (d : Dev) (pm : Nat) : Dev :=
  let e := syncOffset pm (syncPeriod d)
  let run := if e.natAbs ≤ d.rd TB_SYNC_LOCKTHR then d.tb.lockRun + 1 else 0
  let st := d.rd TB_STATUS_LOCK
  let d' : Dev :=
    { d with tb := { d.tb with lastCap := some pm, missRun := 0, expect := some (capExpect d pm), lockRun := run } }
  capState (syncUpdate d' e (st == 1)) st run

/-- A captured SYNC_IN edge at postmark `pm` (R56 to R59). TB_SYNC_CAP and TB_SYNC_ERR show every capture, a discarded one
too (DEDUCED from R57, which gives each capture its offset; log entry 72). -/
def syncCapture (d : Dev) (pm : Nat) : Dev :=
  if d.rd TB_CTRL_SYNC_MODE = 0 then d
  else
    let e := syncOffset pm (syncPeriod d)
    let d := (d.wr TB_SYNC_CAP_LO 0 pm).wrS TB_SYNC_ERR 0 e
    if capEarly d pm then d.ev TB_EVT_OUTLIER
    else if d.rd TB_STATUS_LOCK = 2 ∧ d.rd TB_SYNC_WIN < e.natAbs then capOutside d pm
    else capAccept d pm

/-- A capture is treated as valid at its own postmark (R46): one at the last edge or later waits for the next tick's phase
A. -/
def syncIn (d : Dev) (pm : Nat) : Dev :=
  if d.tb.pm ≤ pm then { d with tb := { d.tb with capLate := d.tb.capLate ++ [pm] } } else syncCapture d pm

/-- The captures that waited for this tick. -/
def syncLatched (d : Dev) : Dev :=
  forL d.tb.capLate (fun pm d => syncIn d pm) { d with tb := { d.tb with capLate := [] } }

/-- The expected pulse is missed in this tick: the postmark has passed its target plus the window (R59). -/
def syncMissDue (d : Dev) : Bool :=
  match d.tb.expect with
  | some t => decide (t + d.rd TB_SYNC_WIN < d.tb.pm) && d.rd TB_CTRL_SYNC_MODE != 0
  | none => false

/-- A missed pulse is counted (R59). -/
def syncMiss (d : Dev) : Dev :=
  match d.tb.expect with
  | some t =>
    let d := { d with tb := { d.tb with expect := some (t + syncPeriod d) } }
    syncMissCount (d.ev TB_EVT_MISS)
  | none => d

end Sys2Proof.Machine
end

