-- ==== Sys2Proof/Machine/Loop.lean ====
section
/-! DEFINITION. The loop engine: scheduling, the slot types' equations, cascades, scarf transfer, following-error
supervision and the run of phase D (R111 to R140, R467). -/

namespace Sys2Proof.Machine
open R

/-- Saturation to 64 signed bits (R117). -/
def sat64 (x : Int) : Int := satS 64 x
/-- Saturation to Q16.16 (R118). -/
def sat32 (x : Int) : Int := satS 32 x
/-- n(·): a Q32.32 value narrowed to Q16.16 (R118). -/
def narrow (a : Int) : Int := sat32 (rdiv a 65536)

/-- The shift of coefficient `i` of slot `s`, −16 to +15 (R116). -/
def coefShift (d : Dev) (s i : Nat) : Int :=
  let r := match i with
    | 0 => LS_SH_0
    | 1 => LS_SH_1
    | 2 => LS_SH_2
    | 3 => LS_SH_3
    | 4 => LS_SH_4
    | 5 => LS_SH_5
    | 6 => LS_SH_6
    | _ => LS_SH_7
  d.rdS r s

/-- Coefficient `i` of slot `s` (R116). -/
def coef (d : Dev) (s i : Nat) : Int := d.rdS LS_C (s * 8 + i)

/-- A product term with a given coefficient and shift: exact product, shifted, saturated to 64 bits (R117). -/
def termOf (c sh x : Int) : Int := if 0 ≤ sh then sat64 (c * x * (2 ^ sh.toNat : Nat)) else rshift (c * x) (-sh)

/-- term(i, x) of slot `s` (R118). -/
def term (d : Dev) (s i : Nat) (x : Int) : Int := termOf (coef d s i) (coefShift d s i) x

/-- Saturating addition of 64-bit sums (R117). -/
def add64 (a b : Int) : Int := sat64 (a + b)

/-- The sum of terms in the order listed, each addition saturating (R117). -/
def sum64 (l : List Int) : Int := l.foldl add64 0

/-- The output a slot holds. -/
def slotOut (d : Dev) (s : Nat) : Int := d.rdS LE_OUT s
/-- OUT_MIN in force of a slot (R175). -/
def outMin (d : Dev) (s : Nat) : Int :=
  match d.le.lim with
  | some (k, lo, _) => if k = s then lo else d.rdS LS_OUT_MIN s
  | none => d.rdS LS_OUT_MIN s
/-- OUT_MAX in force of a slot (R175). -/
def outMax (d : Dev) (s : Nat) : Int :=
  match d.le.lim with
  | some (k, _, hi) => if k = s then hi else d.rdS LS_OUT_MAX s
  | none => d.rdS LS_OUT_MAX s
/-- A value clamped into a slot's output limits. -/
def outClamp (d : Dev) (s : Nat) (x : Int) : Int := clampI (outMin d s) (outMax d s) x

/-- The value a selector in the INSEL coding names (R115, R125). -/
def selValue (d : Dev) (sel : Nat) : Int :=
  match sel / 8192 with
  | 1 =>
    let c := bitsOf sel 5 8
    match bitsOf sel 2 3 with
    | 0 => chV d c
    | 1 => chI d c
    | _ => chT d c
  | 2 => slotOut d (sel % 256)
  | 3 => d.fv (sel % 8192)
  | _ => 0

/-- The measurement Y that INSEL selects. -/
def slotY (d : Dev) (s : Nat) : Int := selValue d (d.rd LS_INSEL s)

/-- The effective set-point SP (R124). -/
def slotSP (d : Dev) (s : Nat) : Int :=
  if d.fl LS_PAR_EN s then
    let p := slotOut d (d.rd LS_PARENT s)
    if d.rd LS_TYPE s = 0 then narrow (term d s 7 p) else p
  else d.rdS LS_SETPT s

/-- The entry of LE_SCARF assigned to a slot (R127). -/
def scarfIx (d : Dev) (s : Nat) : Option Nat :=
  firstIx 16 (fun i => d.fl LE_SCARF_VALID i && d.rd LE_SCARF_SLOT i == s)

/-- The mode a scarf-capable slot is to run in: a function request, else the requested mode (R131). -/
def slotMan (d : Dev) (s : Nat) : Bool :=
  match scarfIx d s with
  | none => false
  | some i => match (d.slot s).force with
    | some b => b
    | none => d.fl LE_SCARF_MODE i

/-- ACT and FORCED of every entry of LE_SCARF follow the slot that the commit has put there (R127, R139). -/
def scarfShow (d : Dev) : Dev :=
  forIx 16 (fun i d =>
    let x := d.slot (d.rd LE_SCARF_SLOT i)
    let on := d.fl LE_SCARF_VALID i
    (d.wrB LE_SCARF_ACT i (on && x.wasMan)).wrB LE_SCARF_FORCED i (on && x.force.isSome)) d

/-- A function requests or releases a mode of a slot (R131); without a scarf entry nothing is held. -/
def slotForce (d : Dev) (s : Nat) (f : Option Bool) : Dev :=
  let d := d.setSlot s { d.slot s with force := f }
  match scarfIx d s with
  | some i => d.wrB LE_SCARF_FORCED i f.isSome
  | none => d

/-- A slot held in MAN from the boundary that started it is in MAN from its first evaluation, at the output it starts with
(R136). -/
def startInMan (d : Dev) (s : Nat) (man : Bool) : Dev :=
  match scarfIx d s with
  | some i =>
    if man ∧ (d.slot s).started then
      (d.setSlot s { d.slot s with wasMan := true, started := false }).wrS LE_SCARF_MAN_OUT i (slotOut d s)
    else d
  | none => d

/-- A holder of function requests takes or ends one on a slot: bit 0 bus MAN, bit 1 shelf MAN, bit 2 shelf AUTO, bit 3 MAN until the first reports after a wake. A slot
held in MAN by either returns only when neither holds it (R192). -/
def slotHold (d : Dev) (s b : Nat) (on : Bool) : Dev :=
  let h := setBit (Tbl.get 0 d.le.hold s) b on
  let d := { d with le := { d.le with hold := Tbl.set 0 d.le.hold s h } }
  let man := bitOf h 0 || bitOf h 1 || bitOf h 3
  startInMan (slotForce d s (if man then some true else if bitOf h 2 then some false else none)) s man

/-- Every function request on a slot ends: no function owns its input any more. -/
def holdEnd (d : Dev) (s : Nat) : Dev := slotForce { d with le := { d.le with hold := Tbl.set 0 d.le.hold s 0 } } s none

/-- A slot's manual output is set by a function (R128). -/
def slotManOut (d : Dev) (s : Nat) (x : Int) : Dev :=
  match scarfIx d s with
  | some i => d.wrS LE_SCARF_MAN_OUT i x
  | none => d

/-- The enabled slot whose OUTSEL names a function input (R115). -/
def slotOfInput (d : Dev) (idx : Nat) : Option Nat :=
  firstIx 256 (fun s => d.fl LS_EN s && d.rd LS_OUTSEL s == 8192 + idx)

/-- The enabled slot whose INSEL names a function value (R115). -/
def slotOfValue (d : Dev) (idx : Nat) : Option Nat :=
  firstIx 256 (fun s => d.fl LS_EN s && d.rd LS_INSEL s == 3 * 8192 + idx)

/-- The cost of a slot type in LCLK cycles (R119). -/
def slotCost (typ : Nat) : Nat := [8, 9, 10, 7, 4, 24].getD typ 0

/-- The slot is scheduled at a schedule position (R111). -/
def scheduled (d : Dev) (s p : Nat) : Bool :=
  d.fl LS_EN s && decide ((p + 1024 - d.rd LS_OFS s) % 2 ^ d.rd LS_RATE s = 0)

/-- The enabled slots with their OFS, RATE and cost, for the budget check. -/
def slotLoads (d : Dev) : List (Nat × Nat × Nat) :=
  ((List.range 256).filter (fun s => d.fl LS_EN s)).map
    (fun s => (d.rd LS_OFS s, d.rd LS_RATE s, slotCost (d.rd LS_TYPE s)))

/-- The load at a schedule position. -/
def loadAt (l : List (Nat × Nat × Nat)) (p : Nat) : Nat :=
  l.foldl (fun a e => if (p + 1024 - e.1) % 2 ^ e.2.1 = 0 then a + e.2.2 else a) 0

/-- The worst load and the first position that has it (R135 check 8). -/
def worstLoad (d : Dev) : Nat × Nat :=
  let l := slotLoads d
  (List.range 1024).foldl (fun w p => let x := loadAt l p; if w.1 < x then (x, p) else w) (0, 0)

/-- GUARD in force: values above 80 act as 80 (R137). -/
def guardOf (v : Nat) : Nat := min v 80

/-- The schedule position of a tick. -/
def posAt (d : Dev) (t : Nat) : Nat := (d.rd TB_TICK + 1024 * 1024 + t - d.tb.now) % 1024

/-- The first tick from `t` on at which a slot is scheduled. -/
def nextEval (d : Dev) (s t : Nat) : Nat :=
  t + ((List.range 1024).find? (fun k => scheduled d s (posAt d (t + k)))).getD 0

/-- A slot's output is replaced; a change by the clamp shows in LE_SATFLAG (R118). -/
def setOut (d : Dev) (s : Nat) (raw : Int) : Dev :=
  let o := outClamp d s raw
  let d := if o = raw then d else d.wrBit LE_SATFLAG (s / 32) (s % 32) true
  d.wrS LE_OUT s o

/-- 64-bit code of an accumulator value. -/
def acc64 (x : Int) : Nat := ofS 64 (sat64 x)

/-- A LOOP_SCARF record and event (R131): direction 0 to AUTO, 1 to MAN, and M. -/
def scarfRec (d : Dev) (s : Nat) (man : Bool) (m : Int) : Dev :=
  (d.ev LE_EVT_SCARF).recd 0x0402 5 s ([man.toNat] ++ le 4 (ofS 32 m))

/-- One evaluation of a PID slot (R120, R128 to R130). -/
def evalPid (d : Dev) (s : Nat) : Dev :=
  let x := d.slot s
  let sp := slotSP d s
  let y := slotY d s
  let man := slotMan d s
  let e := sat32 (sp - y)
  let p := term d s 0 e
  let a0 := toS 64 x.a0
  let a1 := toS 64 x.a1
  let dv := if d.fl LS_OPT s then sat32 (toS 32 (x.a2 / 2 ^ 32) - y) else sat32 (e - toS 32 x.a2)
  let a1' := add64 (term d s 3 (narrow a1)) (term d s 2 dv)
  let ff := term d s 4 sp
  let lo := outMin d s * 65536
  let hi := outMax d s * 65536
  let a2' := ofS 32 y * 2 ^ 32 + ofS 32 e
  let put := fun (d : Dev) (a0' : Int) =>
    d.setSlot s { d.slot s with a0 := acc64 a0', a1 := acc64 a1', a2 := a2', a3 := acc64 (slotOut d s * 65536), wasMan := man, preset := false, started := false }
  match scarfIx d s with
  | none =>
    let a0' := clampI lo hi (add64 a0 (term d s 1 e))
    put (setOut d s (narrow (add64 (add64 (add64 p a0') a1') ff))) a0'
  | some i =>
    let d := d.wrB LE_SCARF_ACT i man
    if man then
      let d := if x.wasMan then d
        else
          let m := slotOut d s
          scarfRec (d.wrS LE_SCARF_MAN_OUT i m) s true m
      put (setOut d s (d.rdS LE_SCARF_MAN_OUT i)) a0
    else if x.wasMan ∨ x.preset then
      let m := slotOut d s
      let pre := sat64 (m * 65536 - add64 (add64 p a1') ff)
      let a0' := clampI lo hi pre
      let d := if a0' = pre then d else d.ev LE_EVT_SCARF_CLAMP
      let d := scarfRec d s false m
      put (setOut d s (narrow (add64 (add64 (add64 p a0') a1') ff))) a0'
    else
      let a0' := clampI lo hi (add64 a0 (term d s 1 e))
      put (setOut d s (narrow (add64 (add64 (add64 p a0') a1') ff))) a0'

/-- History word `k` of a direct-form slot (R121). -/
def histWord (x : SlotSt) (k : Nat) : Int :=
  let a := match k / 2 with
    | 0 => x.a0
    | 1 => x.a1
    | 2 => x.a2
    | _ => x.a3
  toS 32 (a / 2 ^ (32 * (k % 2)))

/-- The four accumulators from history words (R121). -/
def packHist (x : SlotSt) (h : List Int) : SlotSt :=
  let w : Nat → Nat := fun k => ofS 32 (h.getD k 0)
  { x with a0 := w 0 + w 1 * 2 ^ 32, a1 := w 2 + w 3 * 2 ^ 32, a2 := w 4 + w 5 * 2 ^ 32, a3 := w 6 + w 7 * 2 ^ 32 }

/-- One evaluation of a direct-form slot with `ne` error terms of history and `nu` output terms (R121). -/
def evalDirect (d : Dev) (s ne nu : Nat) : Dev :=
  let x := d.slot s
  let e := sat32 (slotSP d s - slotY d s)
  let es := e :: (List.range ne).map (histWord x)
  let us := (List.range nu).map (fun k => histWord x (ne + k))
  let ts := (es ++ us).zipIdx.map (fun t => term d s t.2 t.1)
  let d := setOut d s (narrow (sum64 ts))
  d.setSlot s (packHist (d.slot s) (es.take ne ++ (slotOut d s :: us).take nu))

/-- One evaluation of a limiter (R122). -/
def evalLimiter (d : Dev) (s : Nat) : Dev :=
  let x := d.slot s
  let tgt := narrow (term d s 1 (slotSP d s))
  let up := narrow (term d s 0 65536)
  let dn := narrow (term d s 2 65536)
  let last := narrow (toS 64 x.a3)
  let df := sat32 (tgt - last)
  let step := if 0 ≤ df then min df up else max df (-dn)
  let d := setOut d s (sat32 (last + step))
  d.setSlot s { d.slot s with a3 := acc64 (slotOut d s * 65536) }

/-- One evaluation of a state observer (R123). -/
def evalObserver (d : Dev) (s : Nat) : Dev :=
  let x := d.slot s
  let u := slotSP d s
  let x1 := narrow (toS 64 x.a0)
  let x2 := narrow (toS 64 x.a1)
  let r := sat32 (slotY d s - x1)
  let a0 := sum64 [term d s 0 x1, term d s 1 x2, term d s 2 u, term d s 3 r]
  let a1 := sum64 [term d s 4 x1, term d s 5 x2, term d s 6 u, term d s 7 r]
  let d := setOut d s (narrow (if d.fl LS_OPT s then a1 else a0))
  d.setSlot s { d.slot s with a0 := acc64 a0, a1 := acc64 a1 }

/-- One evaluation of a slot by its type (R119). -/
def evalSlot (d : Dev) (s : Nat) : Dev :=
  match d.rd LS_TYPE s with
  | 0 => evalPid d s
  | 1 => evalDirect d s 2 2
  | 2 => evalDirect d s 3 3
  | 3 => evalDirect d s 1 1
  | 4 => evalLimiter d s
  | 5 => evalObserver d s
  | _ => d

/-- The slot's count has reached FE_TIME (R132). -/
def feDue (d : Dev) (s : Nat) : Bool :=
  d.fl LS_EN s && d.fl LS_FE_EN s && !d.fl LS_FAULT s && decide (d.rd1 LS_FE_TIME s ≤ (d.slot s).fe)

/-- A slot's output reaches the function input that OUTSEL names (R112). -/
def outToInput (d : Dev) (s : Nat) : Dev :=
  let o := d.rd LS_OUTSEL s
  if o / 8192 = 1 then { d with le := { d.le with fi := Tbl.set 0 d.le.fi (o % 8192) (slotOut d s) } } else d

/-- Phase D (SLOT_EVALUATION, R112): the scheduled slots in ascending order, up to an overrun, then their outputs to
their targets, and the cycles used (R119). -/
def phaseD (d : Dev) : Dev :=
  let p := schedPos d
  let stop := d.le.ovrAt.getD 256
  let d := if d.le.ovrAt.isSome then d.tfault 0 0 5 else d
  let run := (List.range 256).filter (fun s =>
    decide (s < stop) && scheduled d s p && !d.fl LS_FAULT s && !feDue d s)
  let d := forL run (fun s d => evalSlot d s) d
  let d := forL run (fun s d => outToInput d s) d
  let d := { d with le := { d.le with ovrAt := none, ran := run, seen := d.le.slot } }
  let sum := run.foldl (fun a s => a + slotCost (d.rd LS_TYPE s)) 0
  let used := Config.cyclesUsed d.freeCtr % (sum + 1)
  let d := d.freeNext.wr LE_RUN_LAST 0 used
  if d.rd LE_RUN_PEAK < used then d.wr LE_RUN_PEAK 0 used else d

/-- The deviation of R132 as its two sides. -/
def feSides (d : Dev) (s : Nat) : Int × Int :=
  match d.rd LS_TYPE s with
  | 4 => (narrow (term d s 1 (slotSP d s)), slotOut d s)
  | 5 => (slotY d s, narrow (toS 64 (d.slot s).a0))
  | _ => (slotSP d s, slotY d s)

/-- The limit FE_LIM × 2^(4 × FE_SC − 12) in Q16.16 (R132). -/
def feLimit (d : Dev) (s : Nat) : Int := (d.rd LS_FE_LIM s : Int) * (2 ^ (4 + 4 * d.rd LS_FE_SC s) : Nat)

/-- Phase C: the following-error counts (R132). -/
def feCounts (d : Dev) : Dev :=
  forIx 256 (fun s d =>
    if d.fl LS_EN s && d.fl LS_FE_EN s && !d.fl LS_FAULT s then
      let x := d.slot s
      let (a, b) := feSides d s
      let n := if x.wasMan then 0 else if feLimit d s < ((a - b).natAbs : Int) then x.fe + 1 else 0
      d.setSlot s { x with fe := n }
    else d) d

/-- A slot enters its fault action (R133): FAULT, LE_FEFLAG, the record, and a safe output for FE_ACT 1. What FE_ACT 2
and 3 ask of other functions is the caller's. -/
def faultAction (d : Dev) (s pm : Nat) : Dev :=
  let (a, b) := feSides d s
  let act := d.rd LS_FE_ACT s
  let d := (d.wr LS_FAULT s 1).wrBit LE_FEFLAG (s / 32) (s % 32) true
  let d := (d.ev LE_EVT_FE).recAt pm 0x0401 5 s
    (le 4 (ofS 32 (sat32 a)) ++ le 4 (ofS 32 (sat32 b)) ++ le 4 (ofS 32 (sat32 (feLimit d s))) ++ [act])
  if act = 1 then outToInput (setOut d s 0) s else d

/-- A slot leaves its fault action with its frozen states; a scarf-capable slot whose next evaluation is in AUTO presets A0
(R134). DESIGN CHOICE: the following-error count, frozen in the fault action, starts from 0; the manual says nothing of its value
on leaving by FECLR (log entry 77). -/
def faultClear (d : Dev) (s : Nat) : Dev :=
  if d.fl LS_FAULT s then
    let d := (d.wr LS_FAULT s 0).wrBit LE_FEFLAG (s / 32) (s % 32) false
    d.setSlot s { d.slot s with fe := 0, feclr := false, preset := (scarfIx d s).isSome }
  else d.setSlot s { d.slot s with feclr := false }

/-- FECLR names a slot (R134). The write is latched in the first tick after it completed (R426), whose edge is the first tick
boundary after the write: in that tick the slot is out of its fault action. -/
def feclrCmd (d : Dev) (s : Nat) : Dev := faultClear d s

/-- A slot leaves its fault action at the next tick boundary. -/
def feclrRequest (d : Dev) (s : Nat) : Dev := d.setSlot s { d.slot s with feclr := true }

/-- The owning function clears the fault action that its shed request came from, as an FECLR does (R467). -/
def feclrOwn (d : Dev) (s : Nat) : Dev := if d.fl LS_FAULT s && d.rd LS_FE_ACT s == 2 then feclrRequest d s else d

/-- Pending FECLR act at a tick boundary. -/
def feclrApply (d : Dev) : Dev :=
  forL (d.le.slot.map Prod.fst) (fun s d => if (d.slot s).feclr then faultClear d s else d) d

/-- The slot's states are zeroed and its output is 0 clamped into its limits (R136). -/
def slotReset (d : Dev) (s : Nat) : Dev :=
  let d := d.setSlot s { force := (d.slot s).force, started := true }
  outToInput (d.wrS LE_OUT s (outClamp d s 0)) s

/-- The engine overruns in this tick: phase D stops before slot `s` (R138). The engine fault and FAULT_N are the
caller's. -/
def overrun (d : Dev) (s : Nat) : Dev :=
  let sum := loadAt (slotLoads d) (schedPos d)
  let stop := 880 - guardOf (d.rd LE_CTRL_GUARD)
  let d := { d with le := { d.le with ovrAt := some s } }
  ((d.ev LE_EVT_OVERRUN).inc LE_OVRCNT).recd 0x0400 0 3
    (le 4 (d.rd TB_TICK) ++ [s] ++ le 2 stop ++ [0] ++ le 2 sum)

end Sys2Proof.Machine
end

