-- ==== Sys2Proof/Machine/Bus.lean ====
section
/-! DEFINITION. Feeder modules and the 48 V bus: measuring, set-point, sharing, feeder states, the window and the
capacity request (R169 to R186). -/

namespace Sys2Proof.Machine
open R

/-- FD_STATUS.STATE codes: OFF. -/
def fdOff : Nat := 0
/-- START. -/
def fdStart : Nat := 1
/-- REG. -/
def fdReg : Nat := 2
/-- FD_FM.STATE codes: IDLE. -/
def fmIdle : Nat := 0
/-- WAIT. -/
def fmWait : Nat := 1
/-- RAMP. -/
def fmRamp : Nat := 2
/-- SHARE. -/
def fmShare : Nat := 3
/-- REMOVED. -/
def fmRemoved : Nat := 4

/-- The feeder's internal state. -/
def Dev.fm (d : Dev) (i : Nat) : FeederSt := Tbl.get {} d.bus.feeder i
/-- A feeder changes. -/
def Dev.setFm (d : Dev) (i : Nat) (x : FeederSt) : Dev :=
  { d with bus := { d.bus with feeder := Tbl.set {} d.bus.feeder i x } }

/-- The channel of feeder `i` (R95). -/
def fmChan (d : Dev) (i : Nat) : Option Nat := chanOfUnit d 7 i
/-- The feeder loop of feeder `i` (R170). -/
def fmSlot (d : Dev) (i : Nat) : Option Nat := if (fmChan d i).isSome then slotOfInput d (0x800 + i) else none
/-- The bus loop (R170). -/
def busSlot (d : Dev) : Option Nat := slotOfInput d 0x810
/-- The bus loop's output as last evaluated, D. -/
def busD (d : Dev) : Int := match busSlot d with
  | some s => slotOut d s
  | none => 0

/-- The state of feeder `i`. -/
def fmState (d : Dev) (i : Nat) : Nat := d.rd FD_FM_STATE i
/-- Feeder `i` is sharing (R174). -/
def sharing (d : Dev) (i : Nat) : Bool := fmState d i == fmRamp || fmState d i == fmShare
/-- The sharing feeders. -/
def sharers (d : Dev) : List Nat := (List.range 8).filter (sharing d)

/-- A list of values in ascending order. -/
def sortI (l : List Int) : List Int :=
  l.foldr (fun x acc => acc.takeWhile (fun y => decide (y < x)) ++ x :: acc.dropWhile (fun y => decide (y < x))) []

/-- The median of R171: the middle value, or the rounded mean of the two middle ones. -/
def median (l : List Int) : Int :=
  let s := sortI l
  let n := s.length
  if n % 2 = 1 then s.getD (n / 2) 0 else rdiv (s.getD (n / 2 - 1) 0 + s.getD (n / 2) 0) 2

/-- A bus source's channel: a feeder module or converter leg in service with a sample (R171). -/
def busSources (d : Dev) : List Nat :=
  (List.range 256).filter (fun c => (roleOf d c == 6 || roleOf d c == 7) && inService d c && (d.chn c).smp.has)

/-- The postmark of the newest sample in force of the bus sources (R37). -/
def busPm (d : Dev) : Nat := (busSources d).foldl (fun p c => max p (d.chn c).smp.pm) 0

/-- Step 2 of R185: V_bus (R171) and I_fed (R169). -/
def busMeasure (d : Dev) : Dev :=
  let vs := (busSources d).map (chV d)
  let d := if vs.isEmpty then d.wr FD_STATUS_VB_HOLD 0 1
    else (d.wr FD_STATUS_VB_HOLD 0 0).wrS FD_VBUS 0 (median vs)
  let fed := (sharers d).foldl (fun a i => a + (match fmChan d i with
    | some c => chI d c
    | none => 0)) 0
  let d := d.wrS FD_IFED 0 fed
  (d.setFv 0x800 (d.rdS FD_VBUS)).setFv 0x801 (d.rdS FD_IFED)

/-- NSHARE and NOFEED follow the sharing feeders (BUS_NOFEED, R175). -/
def busNofeed (d : Dev) : Dev :=
  let n := (sharers d).length
  let d := d.wr FD_STATUS_NSHARE 0 n
  if d.rd FD_STATUS_STATE = fdOff ∨ 0 < n then d.wr FD_STATUS_NOFEED 0 0
  else if d.fl FD_STATUS_NOFEED then d
  else ((d.wr FD_STATUS_NOFEED 0 1).ev FD_EVT_NOFEED).recd 0x0603 0 4 []

/-! ### Feeder states (R176 to R179) -/

/-- RUN to a feeder in WAIT, or REMOVED for HEALTH or HVLOSS, in the tick in which its health is first found SAFE
(R178). -/
def feederRun (d : Dev) (i : Nat) : Dev :=
  match fmChan d i with
  | none => d
  | some c =>
    let x := d.fm i
    let st := fmState d i
    let wants := st == fmWait || (st == fmRemoved && (d.rd FD_FM_REASON i == 2 || d.rd FD_FM_REASON i == 4))
    if wants && health d c == 5 then
      if x.runAt.isSome then d else issueRun (d.setFm i { x with runAt := some d.cur }) c
    else if x.runAt.isSome then d.setFm i { x with runAt := none }
    else d

/-- RUN is due again after 16 ticks (FEEDER_RUN_RESEND, R178). -/
def feederRunDue (d : Dev) (i : Nat) : Bool :=
  match fmChan d i, (d.fm i).runAt with
  | some c, some t => health d c == 5 && d.due (t + 16)
  | _, _ => false

/-- RUN is sent again. -/
def feederRunResend (d : Dev) (i : Nat) : Dev :=
  match fmChan d i with
  | some c => issueRun (d.setFm i { d.fm i with runAt := some d.cur }) c
  | none => d

/-- A loop's share coefficient: C7 with SH[7] = −4 (R174, R198). -/
def setShare (d : Dev) (s c7 : Nat) : Dev := (d.wr LS_C (s * 8 + 7) c7).wrS LS_SH_7 s (-4)

/-- Of two reasons of one tick, the one recorded: one that returns only on READMIT comes before HEALTH and HVLOSS, then the lower
code (R176). -/
def removeReason (a b : Nat) : Nat :=
  let soft := fun (r : Nat) => r == 2 || r == 4
  if soft a == soft b then min a b else if soft a then b else a

/-- A feeder is REMOVED (R178), or a REMOVED one takes a reason that replaces its own (R176). `causes` lists every cause
that held; `pm` is the postmark of the evidence. The record of the tick is written at its end. -/
def feederRemove (d : Dev) (i reason causes pm : Nat) : Dev :=
  match fmChan d i with
  | none => d
  | some _ =>
    let was := fmState d i == fmRemoved
    let old := (d.fm i).rem
    let d := (d.wr FD_FM_STATE i fmRemoved).wr FD_FM_REASON i
      (if was && old.isSome then removeReason (d.rd FD_FM_REASON i) reason else reason)
    let d := ((d.wr FD_FM_RMP i 0).wr FD_FM_OPENLOOP i 0).wr FD_FM_HOT i 0
    let d := if was then d else (d.inc FD_FM_NREM i).setFm i { d.fm i with since := d.cur, hvok := 0, runAt := none }
    let d := d.setFm i { d.fm i with rem := some (match old with
      | some (m, p) => (m ||| causes, p)
      | none => (causes, pm)) }
    let d := match fmSlot d i with
      | some s => setShare (slotHold d s 0 true) s 0
      | none => d
    busNofeed (feederRun (d.ev FD_EVT_REMOVE) i)

/-- The FEEDER_REMOVE records of the tick, each with every cause that held (R176). -/
def busRecords (d : Dev) : Dev :=
  forIx 8 (fun i d =>
    match (d.fm i).rem, fmChan d i with
    | some (causes, pm), some c => (d.setFm i { d.fm i with rem := none }).recAt pm 0x0600 1 c (le 2 causes)
    | some _, none => d.setFm i { d.fm i with rem := none }
    | none, _ => d) d

/-- A REMOVED feeder returns to WAIT (FEEDER_READMIT record, R178). READMIT clears the fault action of a FOLLOW as FECLR does. -/
def feederReturn (d : Dev) (i : Nat) : Dev :=
  match fmChan d i with
  | none => d
  | some c =>
    let d := match fmSlot d i with
      | some s => feclrOwn d s
      | none => d
    let d := ((d.wr FD_FM_STATE i fmWait).wr FD_FM_REASON i 0).inc FD_FM_NRET i
    let d := d.setFm i { d.fm i with since := d.cur, hvok := 0, runAt := none }
    feederRun ((d.ev FD_EVT_READMIT).recd 0x0601 1 c []) i

/-- The first feeder in RAMP takes the bus from OFF to START (BUS_START, R178). -/
def busStart (d : Dev) : Dev :=
  if d.rd FD_STATUS_STATE ≠ fdOff then d
  else
    let d := { d with bus := { d.bus with preset := true, win := [], sat := 0 } }
    let d := d.wr FD_STATUS_STATE 0 fdStart
    match busSlot d with
    | some s => slotHold (feclrOwn d s) s 0 false
    | none => d

/-- A converting report in WAIT: RAMP, with the loop released to AUTO, or forwarded open-loop while the feeder is still
DEGRADED by its sense (FEEDER_RAMP_START, R178, R179). -/
def feederRampStart (d : Dev) (i c : Nat) : Dev :=
  let d := (d.wr FD_FM_STATE i fmRamp).wr FD_FM_RMP i 0
  let d := d.setFm i { d.fm i with since := d.cur, runAt := none }
  let d := match fmSlot d i with
    | some s => if d.fl CD_ENT_COND_DEGR c then d.wr FD_FM_OPENLOOP i 1 else slotHold d s 0 false
    | none => d
  busNofeed (busStart d)

/-- The removal causes that a feeder's report and health show: HEALTH, TRIP, HVLOSS as bits 2, 3, 4 (R176). -/
def feederCauses (d : Dev) (c : Nat) : Nat :=
  (!inService d c).toNat * 4 + (chFlag d c flTrip).toNat * 8 + (chFlag d c flSupply).toNat * 16

/-- Step 1 of R185 for one feeder: removals, returns and state changes on what was latched. -/
def feederCheck (d : Dev) (i : Nat) : Dev :=
  match fmChan d i with
  | none => d
  | some c =>
    let st := fmState d i
    let x := d.chn c
    let f := x.fresh && !x.quar
    let causes := feederCauses d c
    let d := if st = fmWait ∧ f ∧ x.rtype = 1 ∧ chFlag d c flRolef then feederRampStart d i c else d
    let st := fmState d i
    let d := if st = fmRamp ∨ st = fmShare then
        if causes ≠ 0 then
          let reason := if bitOf causes 3 then 3 else if bitOf causes 2 then 2 else 4
          feederRemove d i reason causes (if bitOf causes 2 ∧ !bitOf causes 3 then d.curPm else x.smp.pm)
        else if f ∧ chFlag d c flSense ∧ !d.fl FD_FM_OPENLOOP i then
          let d := (setCond d CD_ENT_COND_DEGR c true).wr FD_FM_OPENLOOP i 1
          match fmSlot d i with
          | some s => slotHold d s 0 true
          | none => d
        else d
      else if st = fmRemoved then
        let r := d.rd FD_FM_REASON i
        if (r = 2 ∨ r = 4) ∧ f ∧ chFlag d c flTrip then feederRemove d i 3 causes x.smp.pm
        else if r = 2 ∧ inService d c then feederReturn d i
        else d
      else d
    feederRun d i

/-- Step 1 of R185 for every feeder, in ascending index. -/
def feederChecks (d : Dev) : Dev := forIx 8 (fun i d => feederCheck d i) d

/-- READY_TIMEOUT is due (R178). -/
def readyDue (d : Dev) (i : Nat) : Bool :=
  fmState d i == fmWait && d.due ((d.fm i).since + d.rd1 FD_TIME_READY)

/-- HVOK ticks with SUPPLY clear have passed (R176). -/
def hvokDue (d : Dev) (i : Nat) : Bool :=
  fmState d i == fmRemoved && d.rd FD_FM_REASON i == 4 && decide (d.rd1 FD_CAPT_HVOK ≤ (d.fm i).hvok)

/-- 1000 reports in a row with SENSE = 0 have come (R179). -/
def senseClearDue (d : Dev) (i : Nat) : Bool :=
  match fmChan d i with
  | some c => d.fl CD_ENT_COND_DEGR c && decide (1000 ≤ (d.fm i).sense)
  | none => false

/-- SENSE_CLEAR_RETURN (R179). -/
def senseClear (d : Dev) (i : Nat) : Dev :=
  match fmChan d i with
  | some c =>
    let d := (setCond d CD_ENT_COND_DEGR c false).wr FD_FM_OPENLOOP i 0
    match fmSlot d i with
    | some s => if sharing d i then slotHold d s 0 false else d
    | none => d
  | none => d

/-- A host removal is judged (R177): whether it is refused, and its effect. -/
def feederHostRemove (d : Dev) (i : Nat) : Bool × Dev :=
  let st := fmState d i
  let refuse := (true, d.ev FD_EVT_REFUSED)
  if (fmChan d i).isNone ∨ st = fmIdle then refuse
  else if st = fmRamp ∨ st = fmShare then
    if sharers d = [i] ∧ d.rd FD_STATUS_STATE = fdReg ∧ !d.fl FD_STATUS_BATREG then refuse
    else (false, feederRemove d i 1 2 d.curPm)
  else if st = fmWait then (false, feederRemove d i 1 2 d.curPm)
  else if d.rd FD_FM_REASON i = 2 ∨ d.rd FD_FM_REASON i = 4 then (false, feederRemove d i 1 2 d.curPm)
  else (false, d)

/-- READMIT returns a REMOVED feeder to WAIT (R176). -/
def feederReadmit (d : Dev) (i : Nat) : Dev := if fmState d i = fmRemoved then feederReturn d i else d

/-! ### Enable and disable -/

/-- The sequencer enables the bus: idle feeders to WAIT (R178). -/
def busEnable (d : Dev) : Dev :=
  let d := { d with bus := { d.bus with on := true } }
  forIx 8 (fun i d =>
    if (fmChan d i).isSome ∧ fmState d i = fmIdle then
      let d := (d.wr FD_FM_STATE i fmWait).setFm i { since := d.cur, sense := (d.fm i).sense, rem := (d.fm i).rem }
      feederRun d i
    else d) d

/-- The sequencer disables the bus (R178). -/
def busDisable (d : Dev) : Dev :=
  let d := { d with bus := { d.bus with on := false, win := [], sat := 0 }, le := { d.le with lim := none } }
  let d := d.wr FD_STATUS_STATE 0 fdOff
  let d := forIx 8 (fun i d =>
    let d := (((d.wr FD_FM_STATE i fmIdle).wr FD_FM_REASON i 0).wr FD_FM_RMP i 0).wr FD_FM_OPENLOOP i 0
    let d := d.setFm i { sense := (d.fm i).sense, rem := (d.fm i).rem }
    match fmSlot d i with
    | some s => slotHold d s 0 true
    | none => d) d
  let d := match busSlot d with
    | some s => slotHold d s 0 true
    | none => d
  busNofeed d

/-- A commit that leaves a feeder index without a channel takes the feeder out of the machine of R178: it is IDLE. -/
def busCommit (d : Dev) : Dev :=
  let d := forIx 8 (fun i d =>
    if (fmChan d i).isSome ∨ fmState d i = fmIdle then d
    else
      let d := (((d.wr FD_FM_STATE i fmIdle).wr FD_FM_REASON i 0).wr FD_FM_RMP i 0).wr FD_FM_OPENLOOP i 0
      (d.wr FD_FM_HOT i 0).setFm i {}) d
  busNofeed d

/-! ### Every tick -/

/-- The bus function's MAN holds of R178, kept from the boundary at which a commit makes the slots theirs. -/
def busHolds (d : Dev) : Dev :=
  let d := forIx 8 (fun i d =>
    match fmSlot d i with
    | some s => if sharing d i then d else slotHold d s 0 true
    | none => d) d
  match busSlot d with
  | some s => if d.rd FD_STATUS_STATE = fdOff then slotHold d s 0 true else d
  | none => d

/-- The ramp factors of R178 (FEEDER_SHARE), the HVOK counts, the reports in a row without SENSE (R179), and the HOT flags. -/
def feederTick (d : Dev) (i : Nat) : Dev :=
  match fmChan d i with
  | none => d
  | some c =>
    let d := if fmState d i = fmRamp then
        let k := d.cur - (d.fm i).since
        let r := min 1024 (rdiv (1024 * (k : Int)) (d.rd1 FD_TIME_RAMPT)).toNat
        let d := d.wr FD_FM_RMP i r
        if r = 1024 then d.wr FD_FM_STATE i fmShare else d
      else d
    let d := d.wrB FD_FM_HOT i (sharing d i && chFlag d c flHot)
    let d := if (d.chn c).fresh && !(d.chn c).quar then
        d.setFm i { d.fm i with sense := if chFlag d c flSense then 0 else (d.fm i).sense + 1 } else d
    if fmState d i = fmRemoved then
      d.setFm i { d.fm i with hvok := if chFlag d c flSupply then 0 else (d.fm i).hvok + 1 }
    else d

/-- num_i of R174. -/
def shareNum (d : Dev) (i : Nat) : Nat :=
  let h := if d.fl FD_FM_HOT i then d.rd1 FD_FM_HOTW i else 256
  let rmp := if fmState d i = fmShare then 1024 else d.rd FD_FM_RMP i
  d.rd1 FD_FM_W i * clampN 0x4000 0x8000 (d.rd FD_FM_AGE i) * h * rmp

/-- Step 3 of R185: the weights of R174 and the limits in force of R175. -/
def busShares (d : Dev) : Dev :=
  let sh := sharers d
  let tot := sh.foldl (fun a i => a + shareNum d i) 0
  let c7 := fun i => if tot = 0 then 0 else (rdiv ((shareNum d i : Nat) * 1048576) tot).toNat
  let lims := (sh.filter (fun i => decide (0 < c7 i))).filterMap (fun i => (fmSlot d i).map (fun s => (s, c7 i)))
  let d' := forL sh (fun i d => match fmSlot d i with
    | some s => setShare d s (c7 i)
    | none => d) d
  match busSlot d, sh with
  | some b, _ :: _ =>
    let caps := lims.map (fun t => rdiv (d.rdS LS_OUT_MAX t.1 * 1048576) t.2)
    let mins := lims.map (fun t => rdiv (d.rdS LS_OUT_MIN t.1 * 1048576) t.2)
    let icap := match caps with
      | [] => 0
      | x :: xs => xs.foldl min x
    let icapmn := if !d.fl FD_CTRL_REV_EN then 0 else match mins with
      | [] => 0
      | x :: xs => xs.foldl max x
    if d.fl FD_STATUS_BATREG then { d' with le := { d'.le with lim := none } }
    else
      let d' := (d'.wrS FD_ICAP 0 icap).setFv 0x803 (sat32 icap)
      let hi := min (d.rdS LS_OUT_MAX b) icap
      let lo := min (max (d.rdS LS_OUT_MIN b) icapmn) hi
      { d' with le := { d'.le with lim := some (b, lo, hi) } }
  | _, _ => ({ d' with le := { d'.le with lim := none } }.wr FD_ICAP 0 0).setFv 0x803 0

/-- Step 4 of R185: SP_bus (R172) and the state REG. On entering START, VS is preset to the V_bus of step 2; in OFF the
set-point in force is the one the bus loop holds. -/
def busSetpoint (d : Dev) : Dev :=
  if d.rd FD_STATUS_STATE = fdOff then
    match busSlot d with
    | some s => (d.wrS FD_SETPT 0 (d.rdS LS_SETPT s)).setFv 0x802 (d.rdS LS_SETPT s)
    | none => d
  else
    let d := if d.bus.preset then { d with bus := { d.bus with vs := d.rdS FD_VBUS, preset := false } } else d
    let step := rdiv ((d.rd1 FD_VSET_SLEW : Int) * 65536) 10000
    let tgt := rdiv ((clampN 44000 52000 (d.rd FD_VSET_VSET) : Int) * 65536) 1000
    let vs := sat32 (d.bus.vs + clampI (-step) step (tgt - d.bus.vs))
    let drop := if d.fl FD_CTRL_DROOP_EN then rdiv (d.rdS FD_IFED * (min (d.rd FD_DROOP_DROOP) 5000 : Nat)) 100000 else 0
    let sp := clampI 2883584 3407872 (vs - drop)
    let d := { d with bus := { d.bus with vs := vs } }
    let d := (d.wrS FD_SETPT 0 sp).setFv 0x802 sp
    let d := match busSlot d with
      | some s => d.wrS LS_SETPT s sp
      | none => d
    if d.rd FD_STATUS_STATE = fdStart ∧ vs = tgt then d.wr FD_STATUS_STATE 0 fdReg else d

/-- MAN_OUT 0 from the tick after the first MAN evaluation (R178), and the share forwarded open-loop (R179). -/
def busManOuts (d : Dev) : Dev :=
  let d := forIx 8 (fun i d =>
    match fmSlot d i with
    | some s =>
      if sharing d i then
        if d.fl FD_FM_OPENLOOP i then slotManOut d s (narrow (term d s 7 (busD d))) else d
      else if (d.slot s).wasMan then slotManOut d s 0 else d
    | none => d) d
  match busSlot d with
  | some s => if d.rd FD_STATUS_STATE = fdOff ∧ (d.slot s).wasMan then slotManOut d s 0 else d
  | none => d

/-- Steps 2 to 4 of R185, in phase B. -/
def busPhaseB (d : Dev) : Dev :=
  busManOuts (busSetpoint (busShares (busNofeed (busMeasure (forIx 8 (fun i d => feederTick d i) (busHolds d))))))

/-- V_bus lies beyond threshold `w`: 0 UVW, 1 OVW, 2 UVF, 3 OVF (R182). -/
def winBeyond (d : Dev) (w : Nat) : Bool :=
  let v := d.rdS FD_VBUS
  let lim : Nat → Int := fun x => rdiv ((x : Int) * 65536) 100
  match w with
  | 0 => decide (v < lim (d.rd FD_WIN_UV_UVW))
  | 1 => decide (lim (d.rd FD_WIN_OV_OVW) < v)
  | 2 => decide (v < lim (d.rd FD_WIN_UV_UVF))
  | _ => decide (lim (d.rd FD_WIN_OV_OVF) < v)

/-- The filter of a threshold. -/
def winFilter (d : Dev) (w : Nat) : Nat := if w < 2 then d.rd1 FD_FILT_WFILT else d.rd1 FD_FILT_FFILT

/-- Step 5 of R185: the window counts and the capacity counts (R182, R184). -/
def busPhaseC (d : Dev) : Dev :=
  let st := d.rd FD_STATUS_STATE
  let d := if st = fdOff then { d with bus := { d.bus with win := [] } }
    else forIx 4 (fun w d =>
      let (n, acted) := Tbl.get (0, false) d.bus.win w
      let x := if winBeyond d w then (n + 1, acted) else (0, false)
      { d with bus := { d.bus with win := Tbl.set (0, false) d.bus.win w x } }) d
  match busSlot d with
  | some s =>
    let top := outMax d s
    let o := slotOut d s
    let sat := if st = fdReg ∧ o = top then d.bus.sat + 1 else 0
    let low := if !d.fl FD_STATUS_CAP then 0 else if 1000 ≤ d.bus.low then 1001
      else if 8 * o < 7 * top then d.bus.low + 1 else 0
    { d with bus := { d.bus with sat := sat, low := low } }
  | none => d

/-- A window count has reached its filter and has not acted yet (R182). -/
def winDue (d : Dev) (w : Nat) : Bool :=
  let (n, acted) := Tbl.get (0, false) d.bus.win w
  decide (winFilter d w ≤ n) && !acted

/-- A bus fault is raised to the sequencer (R182, R467). -/
def busFault (d : Dev) : Dev := d.tfault 4 0 2

/-- BUS_WINDOW (R182). -/
def busWindow (d : Dev) (w : Nat) : Dev :=
  let (n, _) := Tbl.get (0, false) d.bus.win w
  let d := { d with bus := { d.bus with win := Tbl.set (0, false) d.bus.win w (n, true) } }
  let d := d.recAt (busPm d) 0x0602 0 4 []
  match w with
  | 0 => d.ev FD_EVT_UVW
  | 1 => d.ev FD_EVT_OVW
  | 2 => busFault (d.ev FD_EVT_UVF)
  | _ => busFault (forL (sharers d) (fun i d => feederRemove d i 6 64 (busPm d)) (d.ev FD_EVT_OVF))

/-- BUS_CAPACITY is due (R184). -/
def busCapDue (d : Dev) : Bool := !d.fl FD_STATUS_CAP && decide (d.rd1 FD_CAPT_SATT ≤ d.bus.sat)

/-- BUS_CAPACITY (R184); the governor reads FD_STATUS.CAP. -/
def busCapacity (d : Dev) : Dev :=
  (((d.wr FD_STATUS_CAP 0 1).ev FD_EVT_CAPACITY).recd 0x0604 0 4 [])

/-- The capacity request has been below 7/8 for 1000 ticks (R184). -/
def busCapEndDue (d : Dev) : Bool := d.fl FD_STATUS_CAP && decide (1001 ≤ d.bus.low)

/-- BUS_CAPACITY_END (R184). -/
def busCapEnd (d : Dev) : Dev := { d.wr FD_STATUS_CAP 0 0 with bus := { d.bus with low := 0 } }

/-! ### The ring (R180, R181) -/

/-- A Q16.16 current as ICMD (R181). -/
def icmd (x : Int) : Nat := ofS 16 (clampI (-32768) 32767 (rdiv (x * 250) 65536))

/-- The standing command of a feeder's slot (R180, R181); NOP until the bus has resumed after a wake (R418). -/
def feederStd (d : Dev) (i : Nat) : Cmd :=
  let st := fmState d i
  let r := d.rd FD_FM_REASON i
  if d.pw.resume then {}
  else if st = fmIdle ∨ (st = fmRemoved ∧ (r = 3 ∨ r = 5 ∨ r = 6 ∨ r = 7)) then { opc := 2 }
  else
    let x := if sharing d i then (match fmSlot d i with
      | some s => slotOut d s
      | none => 0) else 0
    let x := if d.fl FD_CTRL_REV_EN then x else max x 0
    let vhold := (rdiv (d.rdS FD_SETPT * 1000) 65536).toNat
    { opc := 0x40, arg := icmd x + vhold % 65536 * 2 ^ 16 + d.rd FD_FM_ILIM i * 2 ^ 32 }

end Sys2Proof.Machine
end

