-- ==== Sys2Proof/Machine/Ring.lean ====
section
/-! DEFINITION. The Dexly ring ports: training, frames, the bulk area, breaks and split operation (R62 to R93), and the
enumeration of a ring's positions (R102). -/

namespace Sys2Proof.Machine
open R

/-- RG_STATUS.STATE codes (R93). -/
def rgDown : Nat := 0
/-- LOCK. -/
def rgLock : Nat := 1
/-- COUNT. -/
def rgCount : Nat := 2
/-- MEASURE. -/
def rgMeasure : Nat := 3
/-- IDENT. -/
def rgIdent : Nat := 4
/-- RUN. -/
def rgRun : Nat := 5
/-- SPLIT, SPLIT-TRAIN included. -/
def rgSplit : Nat := 6
/-- FAILED. -/
def rgFailed : Nat := 7

/-- A ring's state. -/
def ringState (d : Dev) (r : Nat) : Nat := d.rd RG_STATUS_STATE r

/-- The ring is in RUN or SPLIT. -/
def ringUp (d : Dev) (r : Nat) : Bool :=
  ringState d r == rgRun || (ringState d r == rgSplit && !(d.rg r).splitTrain)

/-- A ring enters a state in the tick in hand. -/
def ringGo (d : Dev) (r st : Nat) : Dev :=
  (d.wr RG_STATUS_STATE r st).setRg r { d.rg r with since := d.cur }

/-- A ring in DOWN with EN = 1 in force transmits idle pairs and enters LOCK (TRAINING_START, R84). The sill runs no rings
(R32, R38). -/
def trainStart (d : Dev) (r : Nat) : Dev :=
  if ringState d r = rgDown ∧ d.fl RG_CTRL_EN r ∧ !d.sill then
    let d := ringGo d r rgLock
    d.setRg r { d.rg r with trainAt := d.cur }
  else d

/-- A ring enters DOWN, its channels lose what a ring-down clears (R84, R105), and with EN = 1 it trains again. -/
def ringDown (d : Dev) (r : Nat) : Dev :=
  let x := d.rg r
  let d := d.setRg r { oldCount := x.oldCount, wake := x.wake, safeAll := x.safeAll, hops := x.hops }
  let d := (((ringGo d r rgDown).wr RG_STATUS_BREAK_VALID r 0).wr RG_STATUS_BREAK_CTRL r 0).wr RG_STATUS_BREAK_POS r 0
  trainStart (dirRingDown d r) r

/-- A ring reset, or EN becoming 0 (R84): SAFEALL in 3 headers where the ring carries frames to its stages, then DOWN. -/
def ringReset (d : Dev) (r : Nat) : Dev :=
  let st := ringState d r
  let x := d.rg r
  if st = rgIdent ∨ st = rgRun ∨ (st = rgSplit ∧ !x.splitTrain) then
    d.setRg r { x with resetPend := true, safeAll := max x.safeAll 3 }
  else if st = rgDown then trainStart d r
  else ringDown d r

/-- Nothing of an enumeration or of the bulk area is left under way. -/
def noBulk (x : RingSt) : RingSt :=
  { x with attn := [], asks := [], pieces := [], work := [], flight := [], idAsk := [], idLeft := [], idDone := none, identAll := false }

/-- Training fails: RING_TRAIN_FAIL record, TRAIN_FAIL event, FAILED (R84). -/
def trainFail (d : Dev) (r : Nat) : Dev :=
  let d := (ringGo d r rgFailed).ev RG_EVT_TRAIN_FAIL r
  let d := d.setRg r { noBulk (d.rg r) with splitTrain := false, splitOn := false, splitT := none, probes := false, wake := false }
  d.recd 0x0201 6 r []

/-- The identification of a ring begins: IDENT in every slot, then a grant to every position (R102). -/
def identStart (d : Dev) (r : Nat) : Dev :=
  let x := d.rg r
  let asks := (List.range 32).map (fun p => ({ kind := 1, pos := p } : Exch))
  let d := forIx 32 (fun p d =>
    let c := r * 32 + p
    d.setCh c { d.chn c with asks := 0, idAns := 0, cfgAns := 0 }) d
  d.setRg r { noBulk x with identAll := true, asks := asks, idAsk := List.range 32, idLeft := List.range 32 }

/-- A ring goes into IDENT. -/
def ringIdent (d : Dev) (r : Nat) : Dev := identStart (ringGo d r rgIdent) r

/-- A ring goes into MEASURE: the probe tokens of every position are due (R85). -/
def ringProbe (d : Dev) (r : Nat) : Dev :=
  let d := ringGo d r rgMeasure
  d.setRg r { noBulk (d.rg r) with probes := true, wake := false }

/-- A returning training frame with the counts found from TX, and in SPLIT-TRAIN also from RX (R84). DESIGN CHOICE: SPLIT-TRAIN
whose two counts add up to more than 32 fails with OVERCOUNT, as COUNT does; the table has no row for it (log entry 75). -/
def trainingReturn (d : Dev) (r n m : Nat) : Dev :=
  let st := ringState d r
  let x := d.rg r
  if st = rgLock then ringGo d r rgCount
  else if st = rgCount then
    if 32 < n then trainFail (d.ev RG_EVT_OVERCOUNT r) r
    else
      let d := d.wr RG_STATUS_NSTAGES r n
      if x.wake ∧ n = x.oldCount then ringIdent d r
      else ringProbe d r
  else if st = rgSplit ∧ x.splitTrain ∧ !x.splitOn then
    if 32 < n + m then trainFail (d.ev RG_EVT_OVERCOUNT r) r
    else ((d.wr RG_STATUS_NSTAGES r (n + m)).wr RG_STATUS_BREAK_POS r n).setRg r { x with ends := true, brk := n, probes := true }
  else d

/-- LOCK ends after 1 ms without a return: the RX lane reverses and each end trains as a chain (R84). -/
def lockTimeout (d : Dev) (r : Nat) : Dev :=
  let d := ringGo d r rgSplit
  d.setRg r { d.rg r with splitTrain := true, ends := false }

/-- LOCK_TIMEOUT is due: 1 ms in LOCK (R84). -/
def lockDue (d : Dev) (r : Nat) : Bool := ringState d r == rgLock && d.due ((d.rg r).since + 1000)

/-- SPLIT_TRAIN_TIMEOUT is due: 1 ms in SPLIT-TRAIN and neither end has locked (R84). -/
def splitTrainDue (d : Dev) (r : Nat) : Bool :=
  ringState d r == rgSplit && (d.rg r).splitTrain && !(d.rg r).ends && d.due ((d.rg r).since + 1000)

/-- TRAIN_RETRY is due: 10 ms in FAILED with EN = 1 (R84). -/
def trainRetryDue (d : Dev) (r : Nat) : Bool :=
  ringState d r == rgFailed && d.fl RG_CTRL_EN r && d.due ((d.rg r).since + 10000)

/-- The report latency of a loop delay in 1/256 ns (R75). -/
def latencyOf (dloop : Nat) : Nat := (968 * 256 + dloop) / 256000 + 1

/-- Half the mean of 16 round trips less the turnaround, in 1/8192 ns (R85). -/
def oneWay (trips : List Nat) (turn : Nat) : Int := (trips.foldl (fun (a : Int) (t : Nat) => a + (t : Int)) 0) - 16 * turn

/-- A delay in 1/8192 ns as a code of 0.125 ns. -/
def dlyCode (x : Int) : Nat := satU 16 (rdiv x 1024)

/-- The sum of the differences that the stages at the positions `ps` report, in 1/8192 ns. -/
def diffSum (l : List (List Nat × List Nat × Nat × Nat)) (ps : List Nat) : Int :=
  ps.foldl (fun (a : Int) p => a + 32 * (l.getD p ([], [], 0, 0)).2.2.2) 0

/-- The probe measurement ends (R84, R85): from each position's round trips from TX and from RX, turnaround and difference, the
delays of every position that an end reaches are formed and written; with the loop delay in 1/256 ns the latency is written, or
training fails with LATENCY. SPLIT-TRAIN has no loop, and its identification runs in the cycles of R90. -/
def measureDone (d : Dev) (r : Nat) (l : List (List Nat × List Nat × Nat × Nat)) (dloop : Nat) : Dev :=
  let st := ringState d r
  let x := d.rg r
  let n := d.rd RG_STATUS_NSTAGES r
  let split := decide (st = rgSplit) && x.splitTrain && x.ends && !x.splitOn
  if st = rgMeasure ∨ split then
    let lat := latencyOf dloop
    if st = rgMeasure ∧ 6 < lat then trainFail (d.ev RG_EVT_LATENCY r) r
    else
      let at' := fun (p : Nat) => l.getD p ([], [], 0, 0)
      let fwd := fun (p : Nat) => oneWay (at' p).1 (at' p).2.2.1
      let rev := fun (p : Nat) => oneWay (at' p).2.1 (at' p).2.2.1
      let d := forIx 32 (fun p d =>
        let f := decide (p < n) && (!split || decide (p < x.brk))
        let b := decide (p < n) && (!split || decide (x.brk ≤ p))
        let d := d.wr RG_HOPDLY_FWD (r * 32 + p) (if f then dlyCode (fwd p + diffSum l (List.range p)) else 0)
        d.wr RG_HOPDLY_REV (r * 32 + p) (if b then dlyCode (rev p + diffSum l ((List.range n).drop (p + 1))) else 0)) d
      let hops := (List.range n).map (fun p => if split && decide (x.brk ≤ p) then rev p else fwd p)
      let d := d.setRg r { d.rg r with hops := hops, probes := false }
      if st = rgMeasure then
        ringIdent ((d.wr RG_LAT_L r lat).wr RG_LAT_D_LOOP r (rdiv dloop 256).toNat) r
      else
        let d := identStart d r
        d.setRg r { d.rg r with splitOn := true, splitT := some (d.cur + 1) }
  else d

/-- Every position has matched or been quarantined: the ring enters RUN, or SPLIT from SPLIT-TRAIN (R84, R102). -/
def identEnd (d : Dev) (r : Nat) : Dev :=
  let x := d.rg r
  let n := d.rd RG_STATUS_NSTAGES r
  let d := telVoid (d.wr RG_TRAINTIME r (min (d.cur - x.trainAt) 65535)) r
  let d := d.setRg r { x with splitTrain := false, wake := false, bufs := x.wake, oldCount := n, idAsk := [], idDone := none, noSof := 0 }
  if ringState d r = rgSplit then
    let pos := d.rd RG_STATUS_BREAK_POS r
    ringGo (((d.wr RG_STATUS_BREAK_VALID r 1).ev RG_EVT_BREAK r).recd 0x0200 6 r [pos]) r rgSplit
  else ringGo d r rgRun

/-- IDENT ends in the tick after the one that settled its last position. -/
def identTick (d : Dev) (r : Nat) : Dev :=
  match (d.rg r).idDone with
  | some t => if t < d.cur then identEnd d r else d
  | none => d

/-- A position of the ring's enumeration is settled; after the last one IDENT ends in the following tick (R102, R109). -/
def identSettle (d : Dev) (c : Nat) : Dev :=
  let r := c / 32
  let x := d.rg r
  if x.idLeft = [] then d
  else
    let left := x.idLeft.filter (fun p => p != c % 32)
    d.setRg r { x with idLeft := left, idDone := if left = [] then some d.cur else none }

/-- Exchanges of a list in ascending order of position, with one more put in its place. -/
def byPos (l : List Exch) (e : Exch) : List Exch :=
  l.takeWhile (fun y => decide (y.pos ≤ e.pos)) ++ [e] ++ l.dropWhile (fun y => decide (y.pos ≤ e.pos))

/-- The answer of a position is checked against its entry (R103): the channel is quarantined, gets its configuration
piece, or reads ABSENT where nothing is expected. At a wake, an answer that differs from the one before sleep sends the ring
into MEASURE (R84). -/
def identityMatch (d : Dev) (c : Nat) : Dev :=
  let r := c / 32
  let x := d.chn c
  if x.idAns = 0 then d
  else
    let b := if x.idAns = 1 then x.idNew else []
    let d := d.setCh c { x with idAns := 0, idNew := [], idb := if x.idAns = 1 then b else x.idb, idEnum := b }
    let d := if x.idAns = 1 then d.wr CD_ENT_SEEN_TYPE c (leAt b 0 1) else d
    let d := d.setRg r { d.rg r with idAsk := (d.rg r).idAsk.filter (fun p => p != c % 32) }
    if (d.rg r).wake ∧ !x.reiding ∧ b ≠ x.idEnum then ringProbe d r
    else
      match identCheck d c x.same b with
      | some reason =>
        identSettle (identified (quarantine d c reason) c) c
      | none =>
        if roleOf d c = 0 then identSettle (unusedSettled d c) c
        else
          let e : Exch := { kind := 2, pos := c % 32, xfer := 1, data := configPiece d c }
          d.setRg r { d.rg r with pieces := byPos (d.rg r).pieces e }

/-- The stage's answer to its configuration piece (R98, R103 check 7). -/
def configAck (d : Dev) (c : Nat) : Dev :=
  let x := d.chn c
  if x.cfgAns = 0 then d
  else
    let d := d.setCh c { x with cfgAns := 0 }
    let d := if x.cfgAns = 1 then matchChan d c else quarantine d c qConfigNak
    identSettle (identified d c) c

/-- A re-identification request (R109): kept for the next frame boundary. -/
def reidentRequest (d : Dev) (c : Nat) : Dev := d.setCh c { d.chn c with reid := true }

/-- IDENT goes to one position; its grant follows (R109). -/
def reidentSend (d : Dev) (c : Nat) : Dev :=
  issue (d.setCh c { d.chn c with reiding := true, asks := 0, idAns := 0, cfgAns := 0 }) c 0x04 0

/-- The pending re-identifications of a channel are carried out at a frame boundary, or discarded (REIDENT_EXEC, R109): one that
a write requested, and the controller's own one that follows the release of a FUNCTION quarantine (R108). -/
def reidentExec (d : Dev) (c : Nat) : Dev :=
  let x := d.chn c
  let own := match x.reidOwn with
    | some t => decide (t ≤ d.cur)
    | none => false
  if (!x.reid && !own) || d.fl CD_ENT_COND_UPD c then d
  else
    let d := d.setCh c { x with reid := false, reidOwn := if own then none else x.reidOwn }
    let host := x.reid && !(x.quar && d.rd CD_ENT_QREASON c == qFunction)
    if (!host && !own) || !ringUp d (c / 32) || d.fl CD_ENT_COND_NOREP c || x.same then d else reidentSend d c

/-! ### The bulk area (R76, R77) -/

/-- Re-sends allowed per piece. -/
def bulkRetry (d : Dev) (r : Nat) : Nat := d.rd1 RG_CFG_BULK_RETRY r

/-- Re-sends allowed for an exchange: an identity request of an unused position is asked once (R102). -/
def exchRetry (d : Dev) (r : Nat) (e : Exch) : Nat :=
  if e.kind = 1 ∧ roleOf d (r * 32 + e.pos) = 0 then 0 else bulkRetry d r

/-- An exchange is placed again (R77): a grant for ATTN keeps its place as the oldest, an identity request starts with IDENT. -/
def exchAgain (d : Dev) (r : Nat) (e : Exch) : Dev :=
  let x := d.rg r
  match e.kind with
  | 0 => d.setRg r { x with attn := e :: x.attn }
  | 1 => issue (d.setCh (r * 32 + e.pos) { d.chn (r * 32 + e.pos) with asks := e.tries }) (r * 32 + e.pos) 0x04 0
  | 2 => d.setRg r { x with pieces := byPos x.pieces e }
  | _ => d.setRg r { x with work := e :: x.work }

/-- An exchange that was not answered is placed again, or fails and its owner is told (BULKFAIL, R77, R102, R103). `bulk` says
that the bulk area failed: a bad section, a frame that did not come, or NAK; otherwise an identity request found no identity. -/
def exchRetryOr (d : Dev) (r : Nat) (e : Exch) (bulk : Bool) : Dev :=
  let c := r * 32 + e.pos
  if e.tries < exchRetry d r e then
    exchAgain (if bulk then d.inc RG_BULKRTX r else d) r { e with tries := e.tries + 1 }
  else
    let d := if bulk then d.ev RG_EVT_BULKFAIL r else d
    match e.kind with
    | 0 => d
    | 1 => d.setCh c { d.chn c with idAns := 2 }
    | 2 => d.setCh c { d.chn c with cfgAns := 2 }
    | _ => d.setRg r { d.rg r with rans := (d.rg r).rans ++ [(e.pos, e.kind, 0)] }

/-- An identity request of the position is still to be answered. -/
def idPending (x : RingSt) (p : Nat) : Bool :=
  x.asks.any (fun e => e.pos == p) || x.flight.any (fun e => e.kind == 1 && e.pos == p)

/-- A stage event is filed for its own step. -/
def evtFile (d : Dev) (r src : Nat) (data : List Nat) : Dev := d.setRg r { d.rg r with evts := (d.rg r).evts ++ [(src, data)] }

/-- What a stage sends under a grant is filed (R76, R359, R274): an identity block that is awaited, a measurement block, the
result of a verification, an event. -/
def grantFile (d : Dev) (r typ src xfer : Nat) (data : List Nat) : Dev :=
  let c := r * 32 + src
  let x := d.rg r
  if typ = 4 then evtFile d r src data
  else if typ ≠ 3 then d
  else if xfer = 0 then
    if idPending x src && identOk (data.take 32) then
      let x := { x with asks := x.asks.filter (fun e => e.pos != src), flight := x.flight.filter (fun e => !(e.kind == 1 && e.pos == src)) }
      (d.setRg r x).setCh c { d.chn c with idAns := 1, idNew := data.take 32 }
    else d
  else if xfer = 0x0010 then d.setRg r { x with meas := x.meas ++ [(src, data)] }
  else if xfer / 256 = 1 then d.setRg r { x with vers := x.vers ++ [(src, data.headD 0)] }
  else d

/-- The bulk answer to an exchange (R77, R97). Another block under a grant for identity is filed, and the grant repeated. -/
def exchAnswer (d : Dev) (r : Nat) (e : Exch) (bad : Bool) (typ xfer : Nat) (data : List Nat) : Dev :=
  let c := r * 32 + e.pos
  if bad then exchRetryOr d r e true
  else match e.kind with
  | 0 => grantFile d r typ e.pos xfer data
  | 1 =>
    if typ = 3 ∧ xfer = 0 then
      if identOk (data.take 32) then d.setCh c { d.chn c with idAns := 1, idNew := data.take 32 } else exchRetryOr d r e false
    else if typ = 3 ∨ typ = 4 then
      let d := grantFile d r typ e.pos xfer data
      d.setRg r { d.rg r with asks := e :: (d.rg r).asks }
    else exchRetryOr d r e false
  | 2 => if typ = 6 then d.setCh c { d.chn c with cfgAns := 1 } else exchRetryOr d r e true
  | _ =>
    if typ = 6 then d.setRg r { d.rg r with rans := (d.rg r).rans ++ [(e.pos, e.kind, 1)] }
    else exchRetryOr d r e true

/-- The bulk exchange of the next frame to the positions `inC` (R77, R102). In IDENT the grants for identity come first; otherwise
the grants for ATTN, oldest first. A configuration piece waits for the identities of the positions below it. -/
def bulkPick (d : Dev) (r : Nat) (inC : Nat → Bool) : Option Exch × Dev :=
  let x := d.rg r
  let ident := ringState d r == rgIdent || x.splitTrain
  let here := fun (l : List Exch) => l.find? (fun e => inC e.pos)
  let piece := x.pieces.find? (fun e => inC e.pos && x.idAsk.all (fun p => decide (e.pos < p)))
  let first := if ident then (here x.asks <|> here x.attn) else (here x.attn <|> here x.asks)
  match first <|> piece <|> here x.work with
  | some e =>
    let x := { x with attn := x.attn.erase e, asks := x.asks.erase e, pieces := x.pieces.erase e, work := x.work.erase e,
                      flight := x.flight ++ [{ e with tick := d.cur + 1 }] }
    (some e, d.setRg r x)
  | none => (none, d)

/-- The 8-byte bulk header and the data of an exchange (R76). -/
def bulkBytes (e : Option Exch) : List Nat :=
  match e with
  | none => fit 172 []
  | some e =>
    let typ := if e.kind = 0 ∨ e.kind = 1 ∨ e.kind = 4 then 2 else 1
    fit 172 ([typ, e.pos, 32, e.data.length] ++ le 2 e.xfer ++ le 2 e.seq ++ e.data)

/-! ### Downstream frames (R65, R66, R71) -/

/-- The command of a channel's slot: the oldest one-shot command, else the standing opcode (R71). -/
def slotCmd (std : Cmd) (x : ChanSt) : Cmd × ChanSt :=
  match x.q with
  | c :: cs => (c, { x with q := cs, cc := if c.opc = 0x71 ∨ c.opc = 0x05 then (x.cc + 1) % 16 else x.cc })
  | [] => (std, x)

/-- Header FLAGS of the next frame (R66). -/
def frameFlags (d : Dev) (r : Nat) (cnt : Nat) (split : Bool) : Nat :=
  let x := d.rg r
  split.toNat * 4 + (decide (0 < x.park)).toNat * 8 + (decide (0 < x.safeAll)).toNat * 16 + r * 32 + cnt % 32 * 256

/-- A one-shot IDENT of a retry or a re-identification has left: the grant to its position follows in a later frame (R102,
R109). -/
def identGrant (d : Dev) (c opc : Nat) : Dev :=
  if opc = 4 then
    let e : Exch := { kind := 1, pos := c % 32, tries := (d.chn c).asks }
    d.setRg (c / 32) { d.rg (c / 32) with asks := (d.rg (c / 32)).asks ++ [e] }
  else d

/-- Bytes followed by their CRC-32 (R65, R67). -/
def sect (b : List Nat) : List Nat := b ++ le 4 (crc32 b)

/-- A section of `n` covered bytes whose CRC-32 is right (R67). -/
def sectOk (n : Nat) (b : List Nat) : Bool := b.length == n + 4 && crc32 (b.take n) == leAt b n 4

/-- The tick header of the coming edge (R52, R66). -/
def ringHeader (d : Dev) (flags : Nat) : List Nat := sect (le 8 d.pmNext ++ le 2 (d.rd TB_TICK + 1) ++ le 2 flags)

/-- The seven sections of a frame: 32 slots as 64-bit words, and the 172 bytes of the bulk area (R65). -/
def frameSecs (slots bulk : List Nat) : List (List Nat) :=
  (List.range 4).map (fun j => sect (((slots.drop (8 * j)).take 8).flatMap (le 8)))
    ++ [sect (bulk.take 64), sect ((bulk.drop 64).take 64), sect ((bulk.drop 128).take 44)]

/-- A command slot (R69). -/
def slotWord (c : Cmd) (cc : Nat) : Nat := c.opc % 256 + cc % 16 * 2 ^ 8 + c.arg % 2 ^ 48 * 2 ^ 16

/-- The probe tokens of MEASURE (R78, R81, R85): 16 to each position from each end that reaches it. DESIGN CHOICE: all leave with
the first training frame after MEASURE begins; the manual gives them no ticks (log entry 75). -/
def probeTokens (d : Dev) (r : Nat) : Dev :=
  let x := d.rg r
  let n := d.rd RG_STATUS_NSTAGES r
  let send := fun (lane : Nat) (ps : List Nat) (d : Dev) =>
    forL (ps.flatMap (fun p => List.replicate 16 p)) (fun p d => d.emit (.token r lane (0x80 + p))) d
  let d := send 0 (List.range (if x.splitTrain then x.brk else n)) d
  let d := send 1 ((List.range n).drop (if x.splitTrain then x.brk else 0)) d
  d.setRg r { d.rg r with probes := false }

/-- The lanes into which frames of split operation go: TX into chain U and RX into chain D, where the chain has stages (R89,
R90). -/
def splitLanes (d : Dev) (r : Nat) : List Nat :=
  (if 0 < (d.rg r).brk then [0] else []) ++ (if (d.rg r).brk < d.rd RG_STATUS_NSTAGES r then [1] else [])

/-- The positions that a lane reaches in split operation. -/
def laneHas (x : RingSt) (lane p : Nat) : Bool := if lane = 0 then decide (p < x.brk) else decide (x.brk ≤ p)

/-- A frame leaves on a lane with the bulk exchange of its positions. -/
def sendFrame (d : Dev) (r lane ft flags : Nat) (slots : List Nat) (inC : Nat → Bool) (bulk : Bool) : Dev :=
  let (e, d) := if bulk then bulkPick d r inC else (none, d)
  d.emit (.frame r lane ft (ringHeader d flags) (frameSecs slots (bulkBytes e)))

/-- The 32 command slots of the next frame: IDENT in every slot, the command that is substituted, or the channel's own (R71,
R102); one-shot commands leave their lists. -/
def frameSlots (std : Dev → Nat → Cmd) (sub : Dev → Nat → Option Cmd) (all : Bool) (d : Dev) (r : Nat) : List Nat × Dev :=
  (List.range 32).foldl (fun (acc : List Nat × Dev) p =>
    let c := r * 32 + p
    let d := acc.2
    if all then (acc.1 ++ [slotWord { opc := 0x04 } (d.chn c).cc], d)
    else match sub d c with
    | some cmd => (acc.1 ++ [slotWord cmd (d.chn c).cc], d)
    | none =>
      let (cmd, y) := slotCmd (std d c) (d.chn c)
      (acc.1 ++ [slotWord cmd y.cc], identGrant (d.setCh c y) c cmd.opc)) ([], d)

/-- The commands that are substituted in a frame: SAFE for every phase in the first outbound window of a split ring (R91), else
what FORCE asks for (R239). -/
def splitSub (sub : Dev → Nat → Option Cmd) (first : Bool) (d : Dev) (c : Nat) : Option Cmd :=
  if first && (roleOf d c == 1 || roleOf d c == 2) then some { opc := 2 } else sub d c

/-- The frame of ring `r` for the coming edge, placed in phase E of the present tick with the standing commands `std` by
channel (R65 to R71, R90); `sub` is the command that FORCE substitutes (R239). A ring in training sends training frames. -/
def ringEmit (std : Dev → Nat → Cmd) (sub : Dev → Nat → Option Cmd) (d : Dev) (r : Nat) : Dev :=
  let st := ringState d r
  let x := d.rg r
  let edge := d.cur + 1
  if (x.parked ∧ x.park = 0) ∨ st = rgDown ∨ st = rgFailed then d
  else if st = rgLock ∨ st = rgCount ∨ st = rgMeasure ∨ (st = rgSplit ∧ !x.splitOn) then
    let d := d.emit (.train r st (ringHeader d (frameFlags d r 0 false)))
    if x.probes then probeTokens d r else d
  else
    let t := x.splitT.getD 0
    let on := x.splitOn || (x.splitT.isSome && decide (t ≤ edge))
    if on ∧ (edge - t) % 12 ≠ 0 then d
    else
      let flags := frameFlags d r (if on then 0 else t - edge) x.splitT.isSome
      let (slots, d) := frameSlots std (splitSub sub (on && t == edge && !x.splitTrain)) x.identAll d r
      let d := if on then
          forL (splitLanes d r) (fun lane d => sendFrame d r lane 1 flags slots (laneHas x lane) (!x.identAll)) d
        else sendFrame d r 0 0 flags slots (fun _ => true) (!x.identAll)
      let y := d.rg r
      let d := d.setRg r { y with safeAll := y.safeAll - 1, park := y.park - 1, parked := y.parked || decide (0 < y.park), identAll := false,
                                  sent := ((edge, slots) :: y.sent).take 16 }
      if y.resetPend ∧ y.safeAll ≤ 1 then ringDown d r else d

/-- The tick edge at which a channel's stage applies a standing command ready for the frame of edge `frame` (R199): one
frame for each one-shot command ahead, the next outbound window in SPLIT, then the first edge after its command section
has come in. -/
def applyEdge (d : Dev) (c frame : Nat) : Nat :=
  let r := c / 32
  let n := (d.chn c).q.length
  let (f, late) := match (d.rg r).splitT with
    | some t => if (d.rg r).splitOn then (t + (cdiv (frame - t) 12 + n) * 12, 1024) else (frame + n, 0)
    | none => (frame + n, 0)
  let far := ringState d r == rgSplit && decide ((d.rg r).brk ≤ c % 32)
  let dly := if far then d.rd RG_HOPDLY_REV c else d.rd RG_HOPDLY_FWD c
  f + (late + dly + 64 + 16 * (85 + 68 * (c % 32 / 8))) / 8000 + 1

/-! ### Upstream frames (R68, R72 to R74, R80, R90) -/

/-- The miss counting of R74 is suspended: from detection of a break to the end of the first split cycle (R90). -/
def missSuspended (d : Dev) (r : Nat) : Bool :=
  match (d.rg r).splitT with
  | some t => decide (d.tb.now < t + 12)
  | none => false

/-- A report slot (R72). -/
def reportOf (w : Nat) : Report := { rtype := BitVec.ofNat 8 w, flags := BitVec.ofNat 8 (w / 2 ^ 8), data := BitVec.ofNat 48 (w / 2 ^ 16) }

/-- A tick, or a split cycle, without a valid report of a channel; in split operation only once misses count again (R74, R90). -/
def slotMissed (d : Dev) (r c : Nat) (same : Bool) : Dev :=
  if missSuspended d r then d.setCh c { d.chn c with same := same, fresh := false } else missReport d c same

/-- A valid report of one position; a position that shows ATTN is granted the bulk area, those first seen in one frame in
ascending order (DESIGN CHOICE: the manual says only oldest first; log entry 75). -/
def latchRep (d : Dev) (r lat p : Nat) (rep : Report) : Dev :=
  let d := latchReport d (r * 32 + p) lat rep
  let y := d.rg r
  if repAttn rep ∧ !(y.attn ++ y.flight).any (fun e => e.kind == 0 && e.pos == p) then
    d.setRg r { y with attn := y.attn ++ [{ kind := 0, pos := p }] }
  else d

/-- The slots of the positions `inC` of a frame with report latency `lat`: a slot that came back as it was sent shows that no
stage is there (R68). -/
def latchSlots (d : Dev) (r lat : Nat) (inC : Nat → Bool) (secs : List (List Nat)) : Dev :=
  let sent := ((d.rg r).sent.find? (fun s => s.1 + lat == d.cur)).map Prod.snd
  forIx 32 (fun p d =>
    let c := r * 32 + p
    let sec := secs.getD (p / 8) []
    let w := leAt sec (8 * (p % 8)) 8
    if !inC p then d
    else if !sectOk 64 sec then slotMissed d r c (d.chn c).same
    else if sent.any (fun l => l.getD p 0 == w) then slotMissed d r c true
    else if repValid (reportOf w) then latchRep d r lat p (reportOf w)
    else slotMissed d r c false) d

/-- Report latency of the frames that a ring sends now: L, or a cycle in split operation (R36, R90). -/
def ringLat (d : Dev) (r : Nat) : Nat := if ringState d r = rgSplit then 12 else d.rd RG_LAT_L r

/-- Exchanges of frames that should have come back before tick `t` are lost and placed again (R77). DESIGN CHOICE: a frame that does
not arrive counts as one with a bad bulk section (log entry 75). -/
def flightLost (d : Dev) (r t : Nat) : Dev :=
  let late := fun (e : Exch) => decide (e.tick + ringLat d r < t)
  let lost := (d.rg r).flight.filter late
  let d := d.setRg r { d.rg r with flight := (d.rg r).flight.filter (fun e => !late e) }
  forL lost (fun e d => exchRetryOr d r e true) d

/-- The bulk area of an upstream frame answers the exchange of its own frame (R76, R77). -/
def latchBulk (d : Dev) (r lat : Nat) (inC : Nat → Bool) (secs : List (List Nat)) : Dev :=
  match (d.rg r).flight.find? (fun e => e.tick + lat == d.cur && inC e.pos) with
  | none => d
  | some e =>
    let d := d.setRg r { d.rg r with flight := (d.rg r).flight.erase e }
    let b := (secs.getD 4 []).take 64 ++ (secs.getD 5 []).take 64 ++ (secs.getD 6 []).take 44
    let bad := !(sectOk 64 (secs.getD 4 []) && sectOk 64 (secs.getD 5 []) && sectOk 44 (secs.getD 6 []))
    exchAnswer d r e bad (leAt b 0 1) (leAt b 4 2) ((b.drop 8).take (leAt b 3 1))

/-- The sections of an upstream frame that arrived bad (R67). -/
def badSecs (secs : List (List Nat)) : Nat :=
  ((List.range 7).filter (fun j => !sectOk (if j = 6 then 44 else 64) (secs.getD j []))).length

/-- An upstream frame of ring `r` is latched: counters, reports, the bulk answer (R67, R68, R74, R77, R80). -/
def ringLatch (d : Dev) (r : Nat) (f : UpFrame) : Dev :=
  let x := d.rg r
  let lat := ringLat d r
  let inC := if ringState d r = rgSplit then laneHas x (if f.rx then 1 else 0) else fun _ => true
  let hdr := natBytes f.hdr
  let secs := f.secs.map natBytes
  let d := d.setRg r { x with seen := setBit x.seen (if f.rx then 0 else 1) true, noSof := 0 }
  let d := d.wr RG_CRCERR r (addSat 32 (d.rd RG_CRCERR r) (badSecs secs))
  let d := if sectOk 12 hdr then
      (if bitOf (leAt hdr 10 2) 0 then ((d.inc RG_LATECNT r).ev RG_EVT_LATE r).recAt (d.pmAgo lat) 0x0202 6 r [] else d)
    else d.inc RG_HDRERR r
  latchBulk (latchSlots d r lat inC secs) r lat inC secs

/-- The ring can latch an upstream frame that comes in at the RX pins or not: at RX in IDENT and RUN; in split operation, SPLIT-TRAIN
included, both inbound frames in tick 0 of the next cycle (R90). -/
def ringLatches (d : Dev) (r : Nat) (rx : Bool) : Bool :=
  let x := d.rg r
  !x.parked && !bitOf x.seen (if rx then 0 else 1)
    && (if ringState d r = rgSplit then
          x.splitOn && decide (x.splitT.getD 0 + 12 ≤ d.cur) && (d.cur - x.splitT.getD 0) % 12 == 0
        else (ringState d r == rgIdent || ringState d r == rgRun) && rx)

/-- The first frame of IDENT, or of RUN, can have come back by now. -/
def ringReturns (d : Dev) (r : Nat) : Bool :=
  ringState d r == rgRun || (ringState d r == rgIdent && decide ((d.rg r).since + 1 + d.rd RG_LAT_L r ≤ d.cur))

/-- The frames of the tick have been latched (R74, R89, R90): a channel whose frame did not come counts a miss, in split
operation once a cycle, and a tick without SOF counts. -/
def ringTick (d : Dev) (r : Nat) : Dev :=
  let x := d.rg r
  let split := ringState d r == rgSplit && x.splitOn
  if x.parked || !(ringReturns d r || split) then d.setRg r { x with seen := 0 }
  else
    let d := flightLost d r d.cur
    let d := if !split then (if x.seen = 0 then forIx 32 (fun p d => slotMissed d r (r * 32 + p) (d.chn (r * 32 + p)).same) d else d)
      else if (d.cur - x.splitT.getD 0) % 12 = 0 ∧ x.splitT.getD 0 < d.cur then
        forIx 32 (fun p d =>
          if bitOf x.seen (if laneHas x 1 p then 0 else 1) then d else slotMissed d r (r * 32 + p) (d.chn (r * 32 + p)).same) d
      else d
    let y := d.rg r
    d.setRg r { y with seen := 0, noSof := if split || x.seen ≠ 0 then 0 else y.noSof + 1 }

/-! ### Breaks and split operation (R89 to R92) -/

/-- A break is recorded and announced: split operation begins at tick `t` (RING_BREAK, R89). With no position, the break lies on
the link into RX, and every stage is in chain U. -/
def ringBreak (d : Dev) (r : Nat) (pos : Option Nat) (t : Nat) : Dev :=
  let d := match pos with
    | some p => (d.wr RG_STATUS_BREAK_POS r p).wr RG_STATUS_BREAK_VALID r 1
    | none => d.wr RG_STATUS_BREAK_CTRL r 1
  let d := (d.ev RG_EVT_BREAK r).recd 0x0200 6 r [pos.getD (d.rd RG_STATUS_NSTAGES r)]
  d.setRg r { d.rg r with splitT := some t, brk := pos.getD 32 }

/-- A break during training fails the state in progress (R84). -/
def breakFails (d : Dev) (r : Nat) : Bool := ringState d r == rgCount || ringState d r == rgMeasure || ringState d r == rgIdent

/-- A latched break beacon of position `pos`, sent at the tick whose low 16 bits are `fnum` (R89). -/
def breakBeacon (d : Dev) (r pos fnum : Nat) : Dev :=
  if ringState d r = rgRun ∧ (d.rg r).splitT = none then
    ringBreak d r (some pos) (d.cur + 8 - (d.rd TB_TICK % 2 ^ 16 + 2 ^ 16 - fnum) % 2 ^ 16)
  else if breakFails d r then trainFail d r
  else d

/-- Three ticks without SOF and without a beacon (R89). In COUNT and MEASURE the model sees no frames, so the step itself says
that the ticks have passed. -/
def rxLossDue (d : Dev) (r : Nat) : Bool :=
  ((ringState d r == rgRun || ringState d r == rgIdent) && decide (3 ≤ (d.rg r).noSof) && (d.rg r).splitT.isNone)
    || ringState d r == rgCount || ringState d r == rgMeasure

/-- The break lies on the link into RX, or the training state in progress fails (R84, R89). -/
def rxLoss (d : Dev) (r : Nat) : Dev := if breakFails d r then trainFail d r else ringBreak d r none (d.cur + 4)

/-- Split operation is due at this tick (R90). -/
def splitDue (d : Dev) (r : Nat) : Bool :=
  match (d.rg r).splitT with
  | some t => decide (t ≤ d.cur) && !(d.rg r).splitOn && ringState d r == rgRun
  | none => false

/-- Split operation begins (R90): exchanges in flight do not come back; the rails on the ring are the caller's (R91). -/
def splitStart (d : Dev) (r : Nat) : Dev :=
  let d := ringGo d r rgSplit
  let fl := (d.rg r).flight.filter (fun e => decide (e.tick < d.cur))
  let d := d.setRg r { d.rg r with splitOn := true, flight := (d.rg r).flight.filter (fun e => !decide (e.tick < d.cur)) }
  forL fl (fun e d => exchRetryOr d r e true) d

/-- A token the controller discards (R64, R79). -/
def strayToken (d : Dev) (r : Nat) : Dev := (d.inc RG_STRAY r).ev RG_EVT_STRAY r

/-- The error counters at 0x014 to 0x024 clear (R93). -/
def ringClrCnt (d : Dev) (r : Nat) : Dev :=
  ((((d.wr RG_CRCERR r 0).wr RG_HDRERR r 0).wr RG_LATECNT r 0).wr RG_STRAY r 0).wr RG_BULKRTX r 0

/-- A stage EVT becomes a STAGE_EVENT record (R336): PM from the stage, the stage code, 30 bytes of detail. The manual
gives no severity for a stage code, so SEV is a free value. -/
def stageEvent (d : Dev) (r : Nat) : Dev :=
  match (d.rg r).evts with
  | (p, b) :: es =>
    let d := d.setRg r { d.rg r with evts := es }
    let sev := d.freeV % 16
    joinEnt d.freeNext { pm := leAt b 0 8, code := 0x0203, cls := 1, src := r * 32 + p, sev := sev, pay := le 2 (leAt b 8 2) ++ (b.drop 10).take 30 }
  | [] => d

end Sys2Proof.Machine
end

