-- ==== Sys2Proof/Machine/Rail.lean ====
section
/-! DEFINITION. Multiphase rails: rotation, start and stop, reference and on-time, balancing, shedding and adding, phase
faults (R141 to R168). -/

namespace Sys2Proof.Machine
open R

/-- The internal state of rail `n`. -/
def Dev.rail (d : Dev) (n : Nat) : RailSt := Tbl.get {} d.vr n
/-- Rail `n` changes. -/
def Dev.setRail (d : Dev) (n : Nat) (x : RailSt) : Dev := { d with vr := Tbl.set {} d.vr n x }
/-- The phase at hop count `h` of rail `n`. -/
def Dev.phs (d : Dev) (n h : Nat) : PhSt := Tbl.get {} d.ph (n * 32 + h)
/-- A phase changes. -/
def Dev.setPhs (d : Dev) (n h : Nat) (x : PhSt) : Dev := { d with ph := Tbl.set {} d.ph (n * 32 + h) x }

/-- VR_STATUS.STATE codes. -/
def vrOff : Nat := 0
/-- PREP. -/
def vrPrep : Nat := 1
/-- RAMP. -/
def vrRamp : Nat := 2
/-- ON. -/
def vrOn : Nat := 3
/-- RAMPDN. -/
def vrRampdn : Nat := 4

/-- A rail's state. -/
def railState (d : Dev) (n : Nat) : Nat := d.rd VR_STATUS_STATE n

/-- The rail is configured (R168). -/
def railConf (d : Dev) (n : Nat) : Bool := d.rd VR_CFG_NPH n != 0

/-- The lead's channel number (R141). -/
def railLead (d : Dev) (n : Nat) : Nat := d.rd VR_CFG_RING n * 32 + d.rd VR_CFG_LEADPOS n

/-- A rail's phase channels in rank order (R141). -/
def railChans (d : Dev) (n : Nat) : List Nat :=
  (List.range 256).filter (fun c =>
    (roleOf d c == 1 || roleOf d c == 2) && d.rd CD_ENT_OWNK c == 1 && d.rd CD_ENT_OWNN c == n)

/-- The rail that owns a channel with role phase or lead phase. -/
def railOf (d : Dev) (c : Nat) : Option Nat :=
  if (roleOf d c = 1 ∨ roleOf d c = 2) ∧ d.rd CD_ENT_OWNK c = 1 then some (d.rd CD_ENT_OWNN c) else none

/-- The hop count of a channel of the rail. -/
def hopOf (d : Dev) (n c : Nat) : Nat := c - railLead d n

/-! ### Add order and rotation (R148 to R150) -/

/-- The `b`-bit reversal of `i`. -/
def bitRev (b i : Nat) : Nat := maskOf (((List.range b).filter (bitOf i)).map (fun k => b - 1 - k))

/-- The add order of `n` phases (R148). -/
def addOrder (n : Nat) : List Nat :=
  let b := Nat.log2 (2 * n - 1)
  ((List.range (2 ^ b)).map (bitRev b)).filter (fun k => decide (k < n))

/-- The zigzag rotation over ascending hop counts (R149). -/
def rotation (a : List Nat) : List Nat :=
  let e := (a.zipIdx.filter (fun t => t.2 % 2 = 0)).map Prod.fst
  let o := (a.zipIdx.filter (fun t => t.2 % 2 = 1)).map Prod.fst
  e ++ o.reverse

/-- The largest step of a rotation, the return included (R149). -/
def maxStep (rot : List Nat) : Nat :=
  match rot with
  | [] => 0
  | h :: t => ((rot.zip (t ++ [h])).map (fun p => max p.1 p.2 - min p.1 p.2)).foldl max 0

/-- The rotation of a mask keeps the 16-hop limit (R150). -/
def rotOk (mask : Nat) : Bool := decide (maxStep (rotation (bitList mask 32)) ≤ 16)

/-- The channel of rank `k` may be used: in service, no open fault, not left out of this start (R148). -/
def rankUsable (d : Dev) (n k c : Nat) : Bool :=
  inService d c && !(d.phs n (hopOf d n c)).isOpen && !(d.rail n).prepOut.contains k && !d.fl CD_ENT_COND_UPD c

/-- The usable hop counts in add order. -/
def usableHops (d : Dev) (n : Nat) : List Nat :=
  let cs := railChans d n
  ((addOrder cs.length).filter (fun k => rankUsable d n k (cs.getD k 0))).map (fun k => hopOf d n (cs.getD k 0))

/-- The active hop counts in add order. -/
def activeHops (d : Dev) (n : Nat) : List Nat :=
  let cs := railChans d n
  let m := d.rd VR_ACTMASK n
  ((addOrder cs.length).map (fun k => hopOf d n (cs.getD k 0))).filter (bitOf m)

/-- The number of active phases m. -/
def railM (d : Dev) (n : Nat) : Nat := popc (d.rd VR_ACTMASK n) 32

/-! ### Currents (R153, R158) -/

/-- The mean of Q16.16 values, rounded. -/
def meanI (l : List Int) : Int := if l.isEmpty then 0 else rdiv (l.foldl (· + ·) 0) l.length

/-- The trusted active hop counts: sense not failed (R158). -/
def trusted (d : Dev) (n : Nat) : List Nat := (activeHops d n).filter (fun h => !(d.phs n h).failed)

/-- The current in force of the phase at hop `h`. -/
def hopI (d : Dev) (n h : Nat) : Int := chI d (railLead d n + h)

/-- I_rail: active phases' currents, a failed sense counting at the trusted mean (R153). -/
def iRail (d : Dev) (n : Nat) : Int :=
  let tm := meanI ((trusted d n).map (hopI d n))
  sat32 ((activeHops d n).foldl (fun a h => a + (if (d.phs n h).failed then tm else hopI d n h)) 0)

/-- Ī of a phase: the mean of its last 8 valid samples (R158). -/
def phMean (d : Dev) (n h : Nat) : Int := meanI (d.phs n h).hist

/-- round(mean of the trusted trims) (R158, R165). -/
def meanTrim (d : Dev) (n : Nat) : Int := meanI ((trusted d n).map (fun h => (d.phs n h).trim))

/-- ILIM_eff as a code of 2 mA (R165). -/
def ilimEff (d : Dev) (n : Nat) : Nat :=
  let i := d.rd VR_LIM_ILIM n
  if d.fl VR_STATUS_DERATED n then (rdiv (i * (256 - d.rd VR_SNS_DERATE n) : Nat) 256).toNat else i

/-- m × ILIM_eff in Q16.16 A (R164). -/
def railCapacity (d : Dev) (n : Nat) : Int := rdiv ((railM d n * ilimEff d n : Nat) * 131072) 1000

/-! ### The active set (R150, R152, R159 to R162) -/

/-- Phases joining the active set start at the mean of the trusted trims (R158); a failed phase keeps its frozen trim (R165). -/
def joinTrims (d : Dev) (n old new : Nat) : Dev :=
  let t := meanTrim d n
  forL ((bitList new 32).filter (fun h => !bitOf old h)) (fun h d =>
    if (d.phs n h).failed then d else d.setPhs n h { d.phs n h with trim := t }) d

/-- The mask changes: shown from this tick, the lead's slot takes it in the next frame, the dwell starts and
identification yields (MASK_CHANGE, R152, R160, R162). -/
def setMask (d : Dev) (n mask : Nat) : Dev :=
  let old := d.rd VR_ACTMASK n
  if mask = old then d
  else
    let d := joinTrims d n old mask
    let d := (d.wr VR_ACTMASK n mask).wr VR_STATUS_NACT n (popc mask 32)
    let d := d.wr VR_THOP_MAXSTEP n (maxStep (rotation (bitList mask 32)))
    let d := (d.wr VR_STATUS_DWELL n 1).wr VR_STATUS_IDPAUSE n 1
    d.setRail n { d.rail n with maskNew := true, change := some d.cur, pid := 0 }

/-- Adds counted in VR_CNT.ADDS. -/
def countAdds (d : Dev) (n k : Nat) : Dev := d.wr VR_CNT_ADDS n (addSat 16 (d.rd VR_CNT_ADDS n) k)

/-- The usable hop counts outside the active set, in add order. -/
def spareHops (d : Dev) (n : Nat) : List Nat := (usableHops d n).filter (fun h => !bitOf (d.rd VR_ACTMASK n) h)

/-- The stop procedure (R156): mask 0, then SAFE in every slot; the rail is OFF, and its set-up writes and RUN still waiting do not
leave. -/
def railStop (d : Dev) (n : Nat) : Dev :=
  let d := setMask d n 0
  let d := ((d.wr VR_STATUS_STATE n vrOff).wr VR_STATUS_THR n 0).wr VR_STATUS_DWELL n 0
  let d := d.wr VR_STATUS_IDPAUSE n 0
  let d := forL (railChans d n) (fun c d => d.setCh c { d.chn c with q := (d.chn c).q.filter quarSends }) d
  d.setRail n { d.rail n with stopAt := some d.cur, change := none, capLow := 0, iHist := [], pid := 0, leadIn := false }

/-- A rail fault (RAIL_FAULT, R157): stop, record, FLT, and a target fault for the sequencer. -/
def railFault (d : Dev) (n : Nat) : Dev :=
  if railState d n = vrOff then d
  else
    let d := (railStop d n).wr VR_STATUS_FLT n 1
    ((d.ev VR_EVT_FAULT n).recd 0x0500 2 n []).tfault 1 n 2

/-- Phases are added without dwell until the rotation keeps the 16-hop limit; with none left the rail faults (ROTFIX,
R150). -/
def rotFix (d : Dev) (n : Nat) : Dev :=
  if rotOk (d.rd VR_ACTMASK n) then d
  else
    let grow := (spareHops d n).foldl (fun (acc : Nat × Nat) h =>
      if rotOk acc.1 then acc else (setBit acc.1 h true, acc.2 + 1)) (d.rd VR_ACTMASK n, 0)
    let d := (countAdds (setMask d n grow.1) n grow.2).ev VR_EVT_ROTFIX n
    if rotOk grow.1 then d else railFault d n

/-- The postmark of the newest sample in force of the rail's active phases (R37). -/
def railPm (d : Dev) (n : Nat) : Nat := (activeHops d n).foldl (fun p h => max p (d.chn (railLead d n + h)).smp.pm) 0

/-- The capacity comparison of R164; a new request adds every usable shed phase at once (RAIL_CAPACITY). -/
def capacityCheck (d : Dev) (n : Nat) : Dev :=
  if d.fl VR_STATUS_THR n ∨ iRail d n < railCapacity d n then d
  else
    let spare := spareHops d n
    let d := countAdds (setMask d n (spare.foldl (fun m h => setBit m h true) (d.rd VR_ACTMASK n))) n spare.length
    let d := (d.wr VR_STATUS_THR n 1).ev VR_EVT_CAPACITY n
    let d := d.setRail n { d.rail n with capLow := 0, thrAt := d.cur }
    rotFix (d.recAt (railPm d n) 0x0503 2 n []) n

/-- USEMASK and NUSE follow the usable set (R148). -/
def showUsable (d : Dev) (n : Nat) : Dev :=
  let u := maskOf (usableHops d n)
  (d.wr VR_USEMASK n u).wr VR_STATUS_NUSE n (popc u 32)

/-- A phase stopped being usable (R166): it leaves the set, the capacity is compared, the count is kept; then the fault
conditions of R157. -/
def usableCheck (d : Dev) (n : Nat) : Dev :=
  let d := showUsable d n
  let st := railState d n
  let lead := inService d (railLead d n)
  if st = vrOff then d
  else if st = vrPrep then
    if !lead ∧ (d.rail n).leadIn then railFault d n else d.setRail n { d.rail n with leadIn := lead }
  else if !lead then railFault d n
  else
    let act := d.rd VR_ACTMASK n
    let keep := maskOf ((bitList act 32).filter (bitOf (d.rd VR_USEMASK n)))
    let gone := popc act 32 - popc keep 32
    let d := if keep = act then d
      else
        let d := setMask d n keep
        let d := if st = vrRamp ∨ st = vrOn then capacityCheck d n else d
        if railState d n = vrOff then d
        else
          let more := (spareHops d n).take (gone - (railM d n - popc keep 32))
          countAdds (setMask d n (more.foldl (fun m h => setBit m h true) (d.rd VR_ACTMASK n))) n more.length
    if railState d n = vrOff then d
    else if d.rd VR_STATUS_NUSE n < d.rd VR_CFG_MINPH n then railFault d n
    else rotFix d n

/-! ### Start and stop (R156) -/

/-- Clears what the last run left: failed senses, DEGR, the reduced limit, an open fault of the lead's own phase (R163, R165); the
latch of another phase clears with its report (R144). -/
def railClear (d : Dev) (n : Nat) : Dev :=
  let d := forL (railChans d n) (fun c d =>
    let h := hopOf d n c
    let p := d.phs n h
    let d := d.setPhs n h { p with failed := false, isOpen := p.isOpen && h != 0, bad := 0, hist := [] }
    setCond d CD_ENT_COND_DEGR c false) d
  ((d.wr VR_STATUS_DERATED n 0).wr VR_FCNT_SENSE n 0).wr VR_STATUS_FLT n 0

/-- The sequencer enables a rail (R156): set-up writes and RUN to its channels, then PREP. -/
def railEnable (d : Dev) (n : Nat) : Dev :=
  if railState d n ≠ vrOff ∨ !railConf d n then d
  else
    let d := railClear d n
    let lead := railLead d n
    let d := issueRegWr d lead 0x0040 (d.rd VR_THOP_THOP n)
    let d := issueRegWr d lead 0x0041 (d.rd VR_LIM_VBLANK n)
    let d := issueRegWr d lead 0x0042 (d.rd VR_CFG_DIV n)
    let d := forL (railChans d n) (fun c d =>
      let d := issueRegWr d c 0x0043 (d.rd VR_SNS_DIMIN n)
      if health d c = 5 then issueRun d c else d) d
    let k := (d.chn lead).q.length
    let d := d.wr VR_STATUS_STATE n vrPrep
    showUsable (d.setRail n { d.rail n with prepEnd := d.cur + (k - 1) + 16, prepOut := [], stopAt := none, capLow := 0, leadIn := inService d lead }) n

/-- The enabled slot that feeds a rail input, and the ramp slot, the positioning slot's parent (R153). -/
def posSlot (d : Dev) (n : Nat) : Option Nat := slotOfInput d (0x80 * n)
/-- The balance slot (R153). -/
def balSlot (d : Dev) (n : Nat) : Option Nat := slotOfInput d (0x80 * n + 1)
/-- The ramp slot (R153). -/
def rampSlot (d : Dev) (n : Nat) : Option Nat := (posSlot d n).map (fun s => d.rd LS_PARENT s)

/-- Every usable phase reports: the ramp is preset to the output and the rail enters RAMP (RAIL_RAMP_START, R156). -/
def rampStart (d : Dev) (n : Nat) : Dev :=
  let vout := max (chV d (railLead d n)) 0
  let d := match rampSlot d n with
    | some s => (d.setSlot s { d.slot s with a3 := acc64 (vout * 65536) }).wrS LE_OUT s vout
    | none => d
  let d := match posSlot d n with
    | some s => d.setSlot s { force := (d.slot s).force }
    | none => d
  let d := { d with le := { d.le with fi := Tbl.set 0 d.le.fi (0x80 * n) 0 } }
  let d := forL (railChans d n) (fun c d =>
    let h := hopOf d n c
    d.setPhs n h { d.phs n h with trim := 0 }) d
  let d := setMask d n (maskOf (usableHops d n))
  let d := forL (railChans d n) (fun c d =>
    let h := hopOf d n c
    d.setPhs n h { d.phs n h with trim := 0 }) d
  usableCheck (d.wr VR_STATUS_STATE n vrRamp) n

/-- A channel of the rail is expected to report in PREP: it may still become usable. -/
def prepExpected (d : Dev) (n k c : Nat) : Bool :=
  (inService d c || health d c == 5) && !(d.phs n (hopOf d n c)).isOpen && !(d.rail n).prepOut.contains k

/-- In PREP, the ramp starts once every expected phase, the lead included, reports SAMPLE (R156). -/
def prepCheck (d : Dev) (n : Nat) : Dev :=
  if railState d n ≠ vrPrep then d
  else
    let cs := railChans d n
    let wait := cs.zipIdx.any (fun t => prepExpected d n t.2 t.1 && !inService d t.1)
    if !wait ∧ inService d (railLead d n) then
      if d.rd VR_CFG_MINPH n ≤ (usableHops d n).length then rampStart d n else d
    else d

/-- The PREP timeout is due. -/
def prepDue (d : Dev) (n : Nat) : Bool := railState d n == vrPrep && d.due (d.rail n).prepEnd

/-- PREP_TIMEOUT (R156): phases not reporting leave the usable set for this start; then RAMP or the fault path. -/
def prepTimeout (d : Dev) (n : Nat) : Dev :=
  let cs := railChans d n
  let out := (cs.zipIdx.filter (fun t => !inService d t.1)).map Prod.snd
  let d := d.setRail n { d.rail n with prepOut := out }
  let d := showUsable d n
  if out.contains 0 ∨ d.rd VR_STATUS_NUSE n < d.rd VR_CFG_MINPH n then railFault d n else rampStart d n

/-- The sequencer disables a rail (R156). -/
def railDisable (d : Dev) (n : Nat) : Dev :=
  let st := railState d n
  if st = vrPrep then railStop d n
  else if st = vrRamp ∨ st = vrOn then
    match rampSlot d n with
    | some s =>
      if coef d s 2 = 0 then railStop d n
      else (d.wr LS_SETPT s 0).wr VR_STATUS_STATE n vrRampdn
    | none => railStop d n
  else d

/-! ### Reports (R163, R165, R166) -/

/-- A phase's open fault is found (PHASE_OPEN, R163); the lead keeps its health. -/
def phaseOpen (d : Dev) (n c : Nat) : Dev :=
  let h := hopOf d n c
  let p := d.phs n h
  if p.isOpen then d
  else
    let d := d.setPhs n h { p with isOpen := true }
    let d := if c = railLead d n then d else quarantine d c qFunction
    let d := (d.ev VR_EVT_OPEN n).inc VR_FCNT_OPEN n
    d.recAt (d.chn c).smp.pm 0x0501 1 c []

/-- RUN goes again to an owned phase in health SAFE while the rail runs; the phase is usable again at its first SAMPLE (R166).
DEDUCED: so a phase that PREP left out of this start returns (R156; log entry 79). -/
def railRunAgain (d : Dev) (n c : Nat) : Dev :=
  let h := hopOf d n c
  let st := railState d n
  if (st = vrRamp ∨ st = vrOn) ∧ health d c = 5 ∧ (d.chn c).q = [] ∧ (d.phs n h).runAt + 16 ≤ d.cur then
    let out := (d.rail n).prepOut.filter (fun k => (railChans d n).getD k 256 != c)
    issueRun ((d.setPhs n h { d.phs n h with runAt := d.cur }).setRail n { d.rail n with prepOut := out }) c
  else d

/-- A latched current sample of a phase joins the last 8 (R158). -/
def railSample (d : Dev) (n c : Nat) : Dev :=
  let h := hopOf d n c
  if (d.chn c).fresh ∧ !(d.chn c).quar then d.setPhs n h { d.phs n h with hist := (chI d c :: (d.phs n h).hist).take 8 } else d

/-- What a rail does with a report of one of its channels (R144, R163, R166): a latched open fault, the latch of a phase that is not
the lead gone again, RUN once more. -/
def railReport (d : Dev) (n c : Nat) : Dev :=
  let x := d.chn c
  let h := hopOf d n c
  let d := if !x.fresh ∨ x.quar then d
    else if chFlag d c flTrip ∧ chFlag d c flRolef then phaseOpen d n c
    else if c ≠ railLead d n ∧ (d.phs n h).isOpen then d.setPhs n h { d.phs n h with isOpen := false }
    else d
  railRunAgain d n c

/-- A phase's sense has failed by its report or by the plausibility test (R165). -/
def senseDue (d : Dev) (n h : Nat) : Bool :=
  let c := railLead d n + h
  railConf d n && !(d.phs n h).failed && railOf d c == some n
    && ((chFlag d c flSense && !(d.chn c).quar) || decide (16 ≤ (d.phs n h).bad))

/-- PHASE_SENSE_FAIL (R165), and RAIL_DERATE at the second failed sense. -/
def senseFail (d : Dev) (n h : Nat) : Dev :=
  let c := railLead d n + h
  let d := d.setPhs n h { d.phs n h with failed := true }
  let d := d.setPhs n h { d.phs n h with trim := meanTrim d n }
  let d := setCond d CD_ENT_COND_DEGR c true
  let d := ((d.ev VR_EVT_SENSE n).inc VR_FCNT_SENSE n).recAt (d.chn c).smp.pm 0x0502 1 c []
  if 2 ≤ d.rd VR_FCNT_SENSE n ∧ !d.fl VR_STATUS_DERATED n then
    ((d.wr VR_STATUS_DERATED n 1).ev VR_EVT_DERATE n).recAt (d.chn c).smp.pm 0x0504 2 n []
  else d

/-! ### Every tick (R153 to R155, R158 to R164) -/

/-- Phase B of a rail: function values, the ramp slot's set-point, the capacity comparison. -/
def railPhaseB (d : Dev) (n : Nat) : Dev :=
  let st := railState d n
  let b := 0x80 * n
  let vout := chV d (railLead d n)
  let ir := iRail d n
  let ll : Int := min (d.rd VR_LL n) 2000
  let cur := (trusted d n).map (hopI d n)
  let spread := match cur with
    | [] => 0
    | i :: is => is.foldl max i - is.foldl min i
  let d := (((d.setFv b vout).setFv (b + 1) ir).setFv (b + 2) (sat32 (vout + rdiv (ir * ll) 1000000))).setFv (b + 3) (sat32 spread)
  let d := d.setFv (b + 4) (d.rdS VR_VSET n)
  let d := d.setRail n { d.rail n with iHist := (ir :: (d.rail n).iHist).take 8 }
  let d := match rampSlot d n with
    | some s =>
      if st = vrRamp ∨ st = vrOn then d.wr LS_SETPT s (d.rd VR_VSET n)
      else if st = vrRampdn then d.wr LS_SETPT s 0 else d
    | none => d
  if st = vrRamp ∨ st = vrOn then
    let low := decide (8 * ir < 7 * railCapacity d n)
    let x := d.rail n
    let d := if d.fl VR_STATUS_THR n ∧ x.thrAt ≠ d.cur then
        d.setRail n { x with capLow := if 1000 ≤ x.capLow then 1001 else if low then x.capLow + 1 else 0 }
      else d
    capacityCheck d n
  else d

/-- 1000 ticks below 7/8 of the capacity have passed (R164). -/
def capacityEndDue (d : Dev) (n : Nat) : Bool := d.fl VR_STATUS_THR n && decide (1001 ≤ (d.rail n).capLow)

/-- CAPACITY_END (R164). -/
def capacityEnd (d : Dev) (n : Nat) : Dev := (d.wr VR_STATUS_THR n 0).setRail n { d.rail n with capLow := 0 }

/-- The dwell after the last change has passed (R160). -/
def dwellOver (d : Dev) (n : Nat) : Bool :=
  match (d.rail n).change with
  | some t => decide (t + max 200 (d.rd VR_SHED_DWELL n) ≤ d.cur)
  | none => true

/-- DWELL_END: changes and identification are allowed again (R160, R162). -/
def dwellEnd (d : Dev) (n : Nat) : Dev := (d.wr VR_STATUS_DWELL n 0).wr VR_STATUS_IDPAUSE n 0

/-- Trims and plausibility counts of one balance evaluation (BALANCE_UPDATE, R158, R165). -/
def balanceUpdate (d : Dev) (n : Nat) : Dev :=
  let g := d.fin (0x80 * n + 1)
  let tr := trusted d n
  let im := meanI (tr.map (phMean d n))
  let tm := meanI (tr.map (fun h => chT d (railLead d n + h)))
  forL tr (fun h d =>
    let p := d.phs n h
    let ii := phMean d n h
    let e := sat32 (im - ii)
    let t := clampI (-128) 128 (p.trim + rdiv (g * e) (2 ^ 32 : Nat))
    let lim := rdiv (im * clampN 1 100 (d.rd VR_SNS_TOL n)) 100 + 65536
    let far := decide (lim < ((ii - im).natAbs : Int))
    let warm := match p.kT with
      | none => true
      | some k =>
        let dq := rdiv (k * rdiv (ii * ii - im * im) 65536) 65536
        let dt := chT d (railLead d n + h) - tm
        decide (if 0 ≤ dq then 2 * dt < dq else dq < 2 * dt) == false
    let bad := if far && !warm then p.bad + 1 else 0
    d.setPhs n h { p with trim := t, bad := bad }) d

/-- Row 2 or 3 of R159 in a balance tick, where the dwell has passed (PHASE_SHED_ADD). -/
def shedAdd (d : Dev) (n : Nat) : Dev :=
  if railState d n ≠ vrOn ∨ !d.fl VR_SHED_SHED_EN n ∨ d.fl VR_STATUS_THR n ∨ !dwellOver d n then d
  else
    let m := railM d n
    let i := meanI (d.rail n).iHist
    let add := fun k => (bitsOf (d.rd VR_ADD (n * 8 + (k - 1) / 4)) (8 * ((k - 1) % 4)) 8 : Int) * 16384
    let hyst := (d.rd VR_SHED_HYST n : Int) * 16384
    match spareHops d n with
    | h :: _ =>
      if add m * m < i then rotFix (countAdds (setMask d n (setBit (d.rd VR_ACTMASK n) h true)) n 1) n
      else if d.rd VR_CFG_MINPH n < m ∧ i < (add (m - 1) - hyst) * (m - 1 : Nat) then
        match (activeHops d n).getLast? with
        | some l => rotFix ((setMask d n (setBit (d.rd VR_ACTMASK n) l false)).inc VR_CNT_SHEDS n) n
        | none => d
      else d
    | [] =>
      if d.rd VR_CFG_MINPH n < m ∧ i < (add (m - 1) - hyst) * (m - 1 : Nat) then
        match (activeHops d n).getLast? with
        | some l => rotFix ((setMask d n (setBit (d.rd VR_ACTMASK n) l false)).inc VR_CNT_SHEDS n) n
        | none => d
      else d

/-- The on-time code of R155, or the last one when V_IN is 1.000 V or less. -/
def tonCode (d : Dev) (n : Nat) (vref : Int) : Nat :=
  let vin := selValue d (d.rd VR_VIN_VINSEL n)
  let fsw : Int := d.rd VR_FSW_FSW n
  if vin ≤ 65536 ∨ fsw = 0 then d.rd VR_VREF_TON n
  else (clampI 80 65535 (rdiv (vref * 8000000) (vin * fsw))).toNat

/-- The VREF code of R154. -/
def vrefCode (d : Dev) (n : Nat) (vref : Int) : Nat :=
  (clampI 2000 40000 (rdiv (vref * 10000) (65536 * (2 ^ d.rd VR_CFG_DIV n : Nat)))).toNat

/-- Phase D of a rail and what follows it: the ramp's end, balance, shed and add where the balance slot was evaluated, then the
reference and the on-time (R154 to R162). -/
def railPhaseD (d : Dev) (n : Nat) : Dev :=
  let st := railState d n
  if st = vrOff then d
  else
    let vramp := match rampSlot d n with
      | some s => slotOut d s
      | none => 0
    let tgt := match rampSlot d n with
      | some s => narrow (term d s 1 (d.rdS VR_VSET n))
      | none => 0
    let d := if st = vrRamp ∧ vramp = tgt then d.wr VR_STATUS_STATE n vrOn else d
    let bal := st != vrPrep && (balSlot d n).any (fun s => d.le.ran.contains s)
    let d := if bal then shedAdd (balanceUpdate d n) n else d
    if railState d n = vrOff then d
    else
    let pid := if d.fl VR_STATUS_IDPAUSE n then 0 else (d.rail n).pid
    let vref := sat32 (vramp + d.fin (0x80 * n) + pid)
    let ton := tonCode d n vref
    let d := (d.wr VR_VREF_CODE n (vrefCode d n vref)).wr VR_VREF_TON n ton
    let d := d.setRail n { d.rail n with vref := vref }
    if st = vrRampdn ∧ vramp = 0 then railStop d n else d

/-- The lead opcode of the frame about to open (R147): its schedule position is that of the tick whose edge opens it, and
displaced opcodes move on in their order. -/
def leadPick (d : Dev) (n : Nat) : Dev :=
  let x := d.rail n
  let o := match balSlot d n with
    | some s => d.rd LS_OFS s % 8
    | none => 0
  let p := (schedPos d + 1) % 8
  let due := x.late ++ (if p = (o + 1) % 8 then [1] else if p = (o + 3) % 8 then [2] else if p = (o + 5) % 8 then [3] else [])
  if railState d n = vrOff then d.setRail n { x with maskNew := false, late := [], leadOp := 0 }
  else if (d.chn (railLead d n)).q ≠ [] then d.setRail n { x with late := due, leadOp := 0 }
  else if x.maskNew then d.setRail n { x with maskNew := false, late := due, leadOp := 0 }
  else d.setRail n { x with late := due.drop 1, leadOp := due.headD 0 }

/-- A trim as the 9-bit code of LEAD_REF and PH_SET (R146). -/
def trimCode (t : Int) : Nat := ofS 9 t

/-- The standing command of a phase or lead channel (R146, R147, R156). -/
def railStd (d : Dev) (n c : Nat) : Cmd :=
  let st := railState d n
  let x := d.rail n
  let h := hopOf d n c
  let stopping := match x.stopAt with
    | some t => decide (d.tb.now ≤ t)
    | none => false
  if st = vrOff ∧ !stopping then { opc := 2 }
  else
    let vref := d.rd VR_VREF_CODE n
    let ton := d.rd VR_VREF_TON n
    let tr := trimCode (d.phs n h).trim
    let il := ilimEff d n
    if c = railLead d n then
      match x.leadOp with
      | 1 => { opc := 0x11, arg := vref + ton * 2 ^ 16 + tr * 2 ^ 32 }
      | 2 => { opc := 0x12, arg := vref + d.rd VR_RIP_AMP n * 2 ^ 16 + act1 (d.rd VR_RIP_TAU n) * 2 ^ 32 }
      | 3 => { opc := 0x13, arg := vref + il * 2 ^ 16 + d.rd VR_FSW_TTRIP n * 2 ^ 32 }
      | _ => { opc := 0x10, arg := vref + d.rd VR_ACTMASK n * 2 ^ 16 }
    else { opc := 0x20, arg := ton + tr * 2 ^ 16 + il * 2 ^ 32 }

/-- T_HOP of the rails of a ring after training: the mean of the probe forwarding delay plus the link out of it, from the lead to
the stage before the furthest phase, in 1/256 ns (R151). Their sum is the difference of the one-way probe delays of the two ends.
A rail that the break of a split ring divides keeps its value: it carries no tokens (R91; log entry 75). -/
def setThop (d : Dev) (r : Nat) : Dev :=
  let hops := (d.rg r).hops
  forIx 16 (fun n d =>
    if railConf d n ∧ d.rd VR_CFG_RING n = r then
      let lead := d.rd VR_CFG_LEADPOS n
      let far := ((railChans d n).getLast?.getD (railLead d n)) % 32
      let split := ringState d r == rgSplit && decide (lead < (d.rg r).brk) && decide ((d.rg r).brk ≤ far)
      if far ≤ lead then d.wr VR_THOP_THOP n 0
      else if split then d
      else d.wr VR_THOP_THOP n (satU 16 (rdiv (((hops.getD far 0 - hops.getD lead 0).natAbs : Nat) : Int) (32 * (far - lead) : Nat)))
    else d) d

/-- A ring split (R91, R157): a rail fault for each rail on the ring, SAFE to every phase in the first outbound window, and the
fault to the sequencer for a rail in OFF too. -/
def railSplit (d : Dev) (r : Nat) : Dev :=
  forIx 16 (fun n d =>
    if railConf d n ∧ d.rd VR_CFG_RING n = r then
      let d := if railState d n = vrOff then d.tfault 1 n 2 else railFault d n
      d.setRail n { d.rail n with stopAt := none }
    else d) d

/-- The tick's reports and healths of a rail's channels are in: the usable set is judged, and PREP may end (R148, R156, R166). -/
def railJudge (d : Dev) (n : Nat) : Dev := if railConf d n then prepCheck (usableCheck d n) n else d

/-- The rail releases a phase to the update function, or lets it wait (R167). -/
def railRelease (d : Dev) (n c : Nat) : Bool × Dev :=
  let h := hopOf d n c
  let st := railState d n
  if c = railLead d n then (st == vrOff, d)
  else if !d.bit VR_ACTMASK n h then (true, d)
  else
    let m := railM d n
    let left := setBit (d.rd VR_ACTMASK n) h false
    if st = vrOn ∧ d.rd VR_CFG_MINPH n + 1 ≤ m ∧ 8 * iRail d n < 7 * rdiv (((m - 1) * ilimEff d n : Nat) * 131072) 1000 ∧ rotOk left then
      (true, (setMask d n left).inc VR_CNT_SHEDS n)
    else (false, d)

end Sys2Proof.Machine
end

