-- ==== Sys2Proof/Machine/Shelf.lean ====
section
/-! DEFINITION. The battery shelf: strings and legs, charging, feeder-loss detection, takeover, the hold-up planner and
hand-back (R187 to R207). -/

namespace Sys2Proof.Machine
open R

/-- BS_STATUS.STATE codes: OFF. -/
def bsOff : Nat := 0
/-- CONNECT. -/
def bsConnect : Nat := 1
/-- READY. -/
def bsReady : Nat := 2
/-- HOLDUP. -/
def bsHoldup : Nat := 3
/-- HANDBACK. -/
def bsHandback : Nat := 4

/-- The shelf's state. -/
def shelfState (d : Dev) : Nat := d.rd BS_STATUS_STATE
/-- The state of string `j`: 0 OFF; 1 OPEN; 2 CLOSING; 3 CLOSED; 4 LOCKOUT. -/
def strState (d : Dev) (j : Nat) : Nat := d.rd BS_STR_STATE j
/-- The state of leg `k`: 0 IDLE; 1 CHARGE; 2 HOLD; 3 OUT. -/
def legState (d : Dev) (k : Nat) : Nat := d.rd BS_LEG_STATE k
/-- The channel of string `j` (R95). -/
def strChan (d : Dev) (j : Nat) : Option Nat := chanOfUnit d 5 j
/-- The channel of leg `k` (R95). -/
def legChan (d : Dev) (k : Nat) : Option Nat := chanOfUnit d 6 k
/-- The leg loop of leg `k` (R188). -/
def legSlot (d : Dev) (k : Nat) : Option Nat := if (legChan d k).isSome then slotOfInput d (0x920 + k) else none
/-- The observer of string `j`, where it has one (R188). -/
def strSlot (d : Dev) (j : Nat) : Option Nat := if (strChan d j).isSome then slotOfInput d (0x900 + j) else none

/-- A leg is available (R192, R194). -/
def legAvail (d : Dev) (k : Nat) : Bool :=
  match legChan d k with
  | some c => bitOf d.bs.avail k && inService d c && !chFlag d c flTrip && (legState d k == 1 || legState d k == 2)
  | none => false

/-- The available legs. -/
def legs (d : Dev) : List Nat := (List.range 8).filter (legAvail d)
/-- The CLOSED strings. -/
def closed (d : Dev) : List Nat := (List.range 8).filter (fun j => strState d j == 3)
/-- A string is CLOSING. -/
def anyClosing (d : Dev) : Bool := (List.range 8).any (fun j => strState d j == 2)

/-- NSTR and NLEG follow. -/
def shelfCounts (d : Dev) : Dev :=
  (d.wr BS_STATUS_NSTR 0 (closed d).length).wr BS_STATUS_NLEG 0 (legs d).length

/-- V_bat: the mean V of the closed strings, held when none is closed (R187). -/
def vBat (d : Dev) : Int :=
  let vs := (closed d).filterMap (fun j => (strChan d j).map (chV d))
  if vs.isEmpty then d.rdS BS_VBAT else meanI vs

/-- A holder's request on a leg loop. -/
def legHold (d : Dev) (k b : Nat) (on : Bool) : Dev :=
  match legSlot d k with
  | some s => slotHold d s b on
  | none => d

/-- The leg weights of R198: C7 for every available leg, zero for the others. -/
def legWeights (d : Dev) : Dev :=
  let ls := legs d
  let tot := ls.foldl (fun a k => a + d.rd1 BS_LEG_W k) 0
  forIx 8 (fun k d =>
    match legSlot d k with
    | some s => setShare d s (if ls.contains k then (rdiv ((d.rd1 BS_LEG_W k : Nat) * 1048576) tot).toNat else 0)
    | none => d) d

/-! ### Strings and legs (R192 to R194) -/

/-- Postmark of what a channel's report or health has just raised: its report's, or the tick's where no report of the tick
tells it (R37). -/
def evPm (d : Dev) (c : Nat) : Nat := if (d.chn c).fresh && !(d.chn c).quar then (d.chn c).smp.pm else d.curPm

/-- A string goes to LOCKOUT with a STRING_OPEN record (STRING_OPEN, R194). -/
def strLockout (d : Dev) (j pm : Nat) : Dev :=
  match strChan d j with
  | some c => ((d.wr BS_STR_STATE j 4).ev BS_EVT_STROPEN).recAt pm 0x0707 1 c []
  | none => d

/-- A string is commanded closed (R193). -/
def strClose (d : Dev) (j : Nat) : Dev :=
  { d.wr BS_STR_STATE j 2 with bs := { d.bs with closeEnd := Tbl.set 0 d.bs.closeEnd j (d.cur + d.rd1 BS_TIME_CLOSE) } }

/-- The matching test of R193: without a check while no string is CLOSED. -/
def strMatches (d : Dev) (j : Nat) : Bool :=
  match strChan d j with
  | some c => (closed d).isEmpty ||
      decide (((chV d c - vBat d).natAbs : Int) ≤ rdiv ((d.rd BS_TAPER_VMATCH : Int) * 65536) 1000)
  | none => false

/-- CONNECT takes the strings in ascending UNIT, one at a time, and ends in READY (R192, R193). -/
def connectRun (d : Dev) : Dev :=
  let d := forIx 8 (fun j d =>
    if shelfState d = bsConnect ∧ d.bs.next = j ∧ !anyClosing d then
      let d := { d with bs := { d.bs with next := j + 1 } }
      match strChan d j with
      | none => d
      | some c =>
        let h := health d c
        if strState d j ≠ 1 then d
        else if h = 7 ∨ h = 6 ∨ h = 4 ∨ h = 1 ∨ h = 0 then strLockout d j (evPm d c)
        else if strMatches d j then strClose d j else d
    else d) d
  if shelfState d = bsConnect ∧ d.bs.next = 8 ∧ !anyClosing d then d.wr BS_STATUS_STATE 0 bsReady else d

/-- What a string's report and health do (STRING_CLOSED, STRING_OPEN, R193, R194). -/
def strCheck (d : Dev) (j : Nat) : Dev :=
  match strChan d j with
  | none => d
  | some c =>
    let x := d.chn c
    let f := x.fresh && !x.quar
    let d := if strState d j = 2 ∧ f ∧ chFlag d c flRolef then d.wr BS_STR_STATE j 3 else d
    let st := strState d j
    if st = 3 ∧ ((f ∧ chFlag d c flTrip) ∨ !inService d c) then strLockout d j (evPm d c)
    else if st = 0 ∧ f ∧ !chFlag d c flRolef then
      { d with bs := { d.bs with offEnd := Tbl.set none d.bs.offEnd j none } }
    else d

/-- A leg goes OUT (LEG_LOSS, R194). -/
def legOut (d : Dev) (k pm : Nat) : Dev :=
  match legChan d k with
  | none => d
  | some c =>
    let d := d.wr BS_LEG_STATE k 3
    let d := { d with bs := { d.bs with avail := setBit d.bs.avail k false } }
    let d := legHold (legHold d k 2 false) k 1 true
    ((legWeights d).ev BS_EVT_LEGLOSS).recAt pm 0x0708 1 c []

/-- A leg enters CHARGE, not yet available; its fault action of FE_ACT 2 is cleared as FECLR does (R192, R194, R467). -/
def legCharge (d : Dev) (k : Nat) : Dev :=
  let d := d.wr BS_LEG_STATE k 1
  let d := { d with bs := { d.bs with avail := setBit d.bs.avail k false } }
  let d := match legSlot d k with
    | some s => feclrOwn d s
    | none => d
  legHold (legHold d k 2 false) k 1 true

/-- What a leg's report and health do (R194). -/
def legCheck (d : Dev) (k : Nat) : Dev :=
  match legChan d k with
  | none => d
  | some c =>
    let x := d.chn c
    let f := x.fresh && !x.quar
    let st := legState d k
    let trip := chFlag d c flTrip
    let h := health d c
    if st = 1 ∨ st = 2 then
      if bitOf d.bs.avail k then
        if legAvail d k then d else legOut d k (evPm d c)
      else if f ∧ inService d c ∧ !trip then
        { d with bs := { d.bs with avail := setBit d.bs.avail k true } }
      else if (f ∧ trip) ∨ h = 7 ∨ h = 6 ∨ h = 4 ∨ h = 1 ∨ h = 0 then legOut d k (evPm d c)
      else d
    else if st = 3 ∧ inService d c ∧ f ∧ !trip then legCharge d k
    else d

/-- Strings and legs after reports were latched or a health changed. -/
def shelfChecks (d : Dev) : Dev :=
  if shelfState d = bsOff then forIx 8 (fun j d => strCheck d j) d
  else
    let d := forIx 8 (fun j d => strCheck d j) d
    let d := forIx 8 (fun k d => legCheck d k) d
    shelfCounts (connectRun d)

/-- The leg detector registers and RUN (R190). -/
def legRun (d : Dev) (c : Nat) : Dev :=
  let d := issueRegWr d c 0x0050 (d.rd BS_DETB_DETN)
  let d := issueRegWr d c 0x0051 (d.rd BS_DETB_DVDT)
  issueRun (issueRegWr d c 0x0052 (d.rd BS_DETA_VLOSS)) c

/-- RUN to every string and leg in health SAFE (R192, R194); `out` returns legs that are OUT to CHARGE. -/
def shelfRuns (d : Dev) : Dev :=
  let d := forIx 8 (fun j d => match strChan d j with
    | some c => if health d c = 5 then issueRun d c else d
    | none => d) d
  forIx 8 (fun k d => match legChan d k with
    | some c => if health d c = 5 then
        let d := legRun d c
        if legState d k = 3 then legCharge d k else d
      else d
    | none => d) d

/-- The sequencer enables the shelf (R192). -/
def shelfEnable (d : Dev) : Dev :=
  if shelfState d ≠ bsOff then d
  else
    let d := d.wr BS_STATUS_STATE 0 bsConnect
    let d := { d with bs := { d.bs with next := 0, offEnd := [] } }
    let d := forIx 8 (fun j d => if (strChan d j).isSome then d.wr BS_STR_STATE j 1 else d) d
    let d := forIx 8 (fun k d => if (legChan d k).isSome then legCharge d k else d) d
    shelfCounts (connectRun (shelfRuns d))

/-- Every MAN hold of the shelf on feeder loops and the bus loop ends. -/
def shelfUnhold (d : Dev) : Dev :=
  let d := forIx 8 (fun i d => match fmSlot d i with
    | some s => slotHold d s 1 false
    | none => d) d
  match busSlot d with
  | some s => slotHold d s 1 false
  | none => d

/-- The sequencer disables the shelf (R191, R192). -/
def shelfDisable (d : Dev) : Dev :=
  if shelfState d = bsOff then d
  else
    let d := forIx 8 (fun k d =>
      legHold (legHold (d.wr BS_LEG_STATE k 0) k 2 false) k 1 true) d
    let d := forIx 8 (fun j d =>
      if strState d j ≠ 0 then
        let d := d.wr BS_STR_STATE j 0
        { d with bs := { d.bs with offEnd := Tbl.set none d.bs.offEnd j (some (d.cur + 100)) } }
      else d) d
    let d := shelfUnhold d
    let d := ((d.wr FD_STATUS_BATREG 0 0).wr BS_STATUS_STATE 0 bsOff).wr BS_STATUS_TAKEN 0 0
    let d := d.wr BS_STATUS_SHED 0 0
    shelfCounts { d with bs := { d.bs with avail := 0, ic := 0, slow := 0, hbCnt := 0, hbStep := 0, takenAt := none, planned := false } }

/-- STRING_CLOSE_TIMEOUT is due (R193). -/
def strCloseDue (d : Dev) (j : Nat) : Bool := strState d j == 2 && d.due (Tbl.get 0 d.bs.closeEnd j)

/-- STRING_CLOSE_TIMEOUT: the string goes to LOCKOUT and CONNECT goes on. -/
def strCloseTimeout (d : Dev) (j : Nat) : Dev := shelfCounts (connectRun (strLockout d j d.curPm))

/-- STRING_OFF_TIMEOUT is due (R191). -/
def strOffDue (d : Dev) (j : Nat) : Bool :=
  match Tbl.get none d.bs.offEnd j with
  | some t => strState d j == 0 && d.due t
  | none => false

/-- The slot changes from STR_SET with CLOSE = 0 to SAFE. -/
def strOffTimeout (d : Dev) (j : Nat) : Dev := { d with bs := { d.bs with offEnd := Tbl.set none d.bs.offEnd j none } }

/-- BS_CMD.OPEN (R194): a CLOSED or CLOSING string goes to OPEN. -/
def strCmdOpen (d : Dev) (j : Nat) : Dev :=
  if strState d j = 2 ∨ strState d j = 3 then
    shelfCounts (connectRun ((d.wr BS_STR_STATE j 1).ev BS_EVT_STROPEN))
  else d

/-- BS_CMD.CLOSE (R194): a LOCKOUT string returns to OPEN. -/
def strCmdClose (d : Dev) (j : Nat) : Dev := if strState d j = 4 then d.wr BS_STR_STATE j 1 else d

/-! ### Feeder loss (R196 to R199) -/

/-- The sum of the register OUT_MAX of the loops of feeders that pass a test. -/
def loopSum (d : Dev) (p : Nat → Nat → Bool) : Int :=
  (sharers d).foldl (fun a i => a + (match fmChan d i, fmSlot d i with
    | some c, some s => if p i c then d.rdS LS_OUT_MAX s else 0
    | _, _ => 0)) 0

/-- C_rem of R196. -/
def cRem (d : Dev) : Int :=
  loopSum d (fun _ c => chFlag d c flRolef && !chFlag d c flTrip && !chFlag d c flSupply)

/-- The shelf tests for feeder loss (R196). -/
def lossArmed (d : Dev) : Bool :=
  d.fl BS_CTRL_HU_EN && (shelfState d == bsReady || shelfState d == bsHandback) && d.rd FD_STATUS_STATE != fdOff

/-- D > 0 and C_rem < D. -/
def lossSigns (d : Dev) : Bool := decide (0 < busD d) && decide (cRem d < busD d)

/-- The tick edge at which leg `k` applies the frame with its loop's first automatic output (R199): the loop's next
evaluation, then one frame for each one-shot command ahead of it. -/
def legApplyTick (d : Dev) (k : Nat) : Nat :=
  match legChan d k, legSlot d k with
  | some c, some s => applyEdge d c (nextEval d s d.cur + 1)
  | _, _ => 0

/-- Takeover (R198, R206): the legs take bus regulation. -/
def takeover (d : Dev) : Dev :=
  let ls := legs d
  let d := d.wr FD_STATUS_BATREG 0 1
  let d := legWeights { d with le := { d.le with lim := none } }
  let d := forL ls (fun k d => (legHold (legHold d k 1 false) k 2 true).wr BS_LEG_STATE k 2) d
  let d := forIx 8 (fun i d => match fmSlot d i with
    | some s => slotHold d s 1 true
    | none => d) d
  let d := match busSlot d with
    | some s => slotHold d s 1 false
    | none => d
  let at_ := (ls.map (legApplyTick d)).foldl max 0
  let d := d.wr BS_STATUS_STATE 0 bsHoldup
  { d with bs := { d.bs with lossAt := d.cur, takenAt := some at_, hbCnt := 0, hbStep := 0, slow := 0, ic := 0, planned := false } }

/-- A plan from before a declaration of loss may shed nothing (R199, R200). -/
def Plan.unshed (p : Plan) : Plan := { p with mayShed := false }

/-- Loss is declared, with the postmark of the earliest evidence (HOLDUP_START, HOLDUP_UNAVAILABLE; R192, R196). TAKEN clears at
every declaration, so a plan in hand sheds nothing (R199). -/
def declareLoss (d : Dev) (pm : Nat) : Dev :=
  let d := { d.wr BS_STATUS_TAKEN 0 0 with bs := { d.bs with declAt := some d.cur, takenAt := none, plan := d.bs.plan.map Plan.unshed } }
  let d := (d.ev BS_EVT_LOSS).recAt pm 0x0700 0 5 []
  if (closed d).isEmpty ∨ (legs d).isEmpty then (d.ev BS_EVT_UNAVAIL).recd 0x0703 0 5 []
  else takeover d

/-- Postmarks of the reports with SUPPLY = 1 latched in this tick from legs and feeders. -/
def supplyPms (d : Dev) : List Nat :=
  ((List.range 256).filter (fun c => (roleOf d c == 6 || roleOf d c == 7) && (d.chn c).fresh && !(d.chn c).quar
    && chFlag d c flSupply)).map (fun c => (d.chn c).smp.pm)

/-- The fast path of R196, tested once in a tick. -/
def lossFast (d : Dev) : Dev :=
  match supplyPms d with
  | p :: ps => if lossArmed d ∧ lossSigns d ∧ d.bs.declAt ≠ some d.cur then declareLoss d (ps.foldl min p) else d
  | [] => d

/-- The slow-path count of R196, in phase C. -/
def lossSlowCount (d : Dev) : Dev :=
  if lossArmed d ∧ lossSigns d then
    let l := ((List.range 8).map (fun i => match fmChan d i with
      | some c => d.rd RG_LAT_L (c / 32)
      | none => 0)).foldl max 0
    { d with bs := { d.bs with slow := d.bs.slow + 1, slowPm := if d.bs.slow = 0 then d.pmAgo l else d.bs.slowPm } }
  else { d with bs := { d.bs with slow := 0 } }

/-- SLOW_LOSS is due: the count reached SLOWF in phase C of an earlier tick (R196). -/
def slowLossDue (d : Dev) : Bool := decide (d.rd1 BS_DETA_SLOWF ≤ d.bs.slow) && !d.inC

/-- SLOW_LOSS: loss is declared in the next tick. -/
def slowLoss (d : Dev) : Dev := declareLoss { d with bs := { d.bs with slow := 0 } } d.bs.slowPm

/-- Classes to shed join the shed set; their loads are shed in this step (R203). -/
def shedAddClasses (d : Dev) (set : Nat) : Dev :=
  let old := d.rd BS_STATUS_SHED
  let new := maskOf ((bitList set 8).filter (fun k => decide (k ≠ 0) && !bitOf old k))
  if new = 0 then d
  else
    let d := (d.wr BS_STATUS_SHED 0 (old + new)).ev BS_EVT_SHED
    { d with bs := { d.bs with shedReq := maskOf ((List.range 8).filter (fun k => bitOf d.bs.shedReq k || bitOf new k)) } }

/-- The classes EMERG sheds (R197). -/
def emergClasses (d : Dev) : Nat := maskOf ((List.range 8).filter (fun k => decide (d.rd BS_DETB_EMCLS < k)))

/-- The shed of R197 while EMERG is set in HOLDUP or HANDBACK and TAKEN is set. -/
def emergShed (d : Dev) : Dev :=
  let st := shelfState d
  if d.fl BS_STATUS_EMERG ∧ (st = bsHoldup ∨ st = bsHandback) ∧ d.fl BS_STATUS_TAKEN then shedAddClasses d (emergClasses d)
  else d

/-- HOLDUP_TAKEN is due (R199). -/
def takenDue (d : Dev) : Bool :=
  match d.bs.takenAt with
  | some t => d.due t && !d.fl BS_STATUS_TAKEN
  | none => false

/-- HOLDUP_TAKEN (R199). -/
def holdupTaken (d : Dev) : Dev :=
  let d := (d.wr BS_STATUS_TAKEN 0 1).ev BS_EVT_TAKEN
  let d := { d with bs := { d.bs with takenSince := d.cur, takenAt := none } }
  emergShed (d.recd 0x0701 0 5 [])

/-- EMERG_N's filter counts of one tick (R197). -/
def emergTick (d : Dev) (low : Bool) : Dev :=
  let b := d.bs
  let lo := if low && d.fl BS_CTRL_EM_EN then b.emLow + 1 else 0
  let hi := if low then 0 else b.emHigh + 1
  { d with bs := { b with emLow := lo, emHigh := hi } }

/-- EMERG_ASSERT is due. -/
def emergDue (d : Dev) : Bool := !d.fl BS_STATUS_EMERG && d.fl BS_CTRL_EM_EN && decide (d.rd1 BS_DETB_EMFILT ≤ d.bs.emLow)

/-- EMERG_ASSERT (R197). -/
def emergAssert (d : Dev) : Dev :=
  let d := ((d.wr BS_STATUS_EMERG 0 1).ev BS_EVT_EMERG).recd 0x0704 0 5 []
  let st := shelfState d
  let d := if st = bsReady ∨ st = bsHandback then declareLoss d d.curPm else d
  emergShed d

/-- EMERG_CLEAR is due. -/
def emergClearDue (d : Dev) : Bool := d.fl BS_STATUS_EMERG && decide (d.rd1 BS_DETB_EMFILT ≤ d.bs.emHigh)

/-- EMERG_CLEAR (R197). -/
def emergClear (d : Dev) : Dev := d.wr BS_STATUS_EMERG 0 0

/-! ### Every tick: values, charging and hand-back (R187, R195, R204, R205) -/

/-- A code of 1 mA in Q16.16 A. -/
def mA (x : Nat) : Int := rdiv ((x : Int) * 65536) 1000
/-- A code of 1 mV in Q16.16 V. -/
def mV (x : Nat) : Int := rdiv ((x : Int) * 65536) 1000

/-- The manual output of a slot. -/
def manOut (d : Dev) (s : Nat) : Int := match scarfIx d s with
  | some i => d.rdS LE_SCARF_MAN_OUT i
  | none => 0

/-- Charging (R195), within the governor's limit (R251). -/
def charge (d : Dev) : Dev :=
  if shelfState d = bsReady ∧ d.fl BS_CTRL_CHG_EN then
    let vb := vBat d
    let vchg := mV (d.rd BS_CHG_VCHG)
    let vt := mV (d.rd1 BS_TAPER_VTAPER)
    let ichg := rdiv ((d.rd BS_CHG_ICHG : Int) * 65536) 100
    let tgt := if vb ≤ vchg - vt then ichg else max 0 (rdiv (ichg * (vchg - vb)) vt)
    let lim := d.fl CP_CTRL_CHGLIM && d.rd (if d.fl CP_STATUS_HUHUB then CP_HUCAP_HUCAP else CP_HUB_CAPW) != 0
    let tgt := if lim then min tgt (d.rdS CP_ICHG) else tgt
    let sl := mA (d.rd1 BS_SLEW_CSLEW)
    let ic := d.bs.ic + clampI (-sl) sl (tgt - d.bs.ic)
    let d := { d with bs := { d.bs with ic := ic } }
    let ls := legs d
    let tot := ls.foldl (fun a k => a + d.rd1 BS_LEG_W k) 0
    forL ls (fun k d => match legSlot d k with
      | some s => if legState d k = 1 then slotManOut d s (rdiv (-(ic * d.rd1 BS_LEG_W k)) tot) else d
      | none => d) d
  else
    let d := { d with bs := { d.bs with ic := 0 } }
    if shelfState d = bsHoldup ∨ shelfState d = bsHandback then d
    else forIx 8 (fun k d => match legSlot d k with
      | some s => if legState d k = 1 ∧ (d.slot s).wasMan then slotManOut d s 0 else d
      | none => d) d

/-- MAN_OUT 0 of legs IDLE, OUT or not yet available, from the tick after the first MAN evaluation (R192, R194). -/
def legZeros (d : Dev) : Dev :=
  forIx 8 (fun k d => match legSlot d k with
    | some s =>
      let st := legState d k
      if (st = 0 ∨ st = 3 ∨ (st = 1 ∧ !bitOf d.bs.avail k)) ∧ (d.slot s).wasMan then slotManOut d s 0 else d
    | none => d) d

/-- The hand-back condition (R204). -/
def hbCond (d : Dev) : Bool :=
  shelfState d == bsHoldup && !d.fl BS_STATUS_EMERG && decide (d.rd1 BS_HB_NFEED ≤ (sharers d).length) &&
    decide (busD d ≤ loopSum d (fun _ _ => true))

/-- HANDBACK_START is due (R204). -/
def hbDue (d : Dev) : Bool := hbCond d && decide (d.rd1 BS_HB_HBT ≤ d.bs.hbCnt)

/-- HANDBACK_START: step 1 of R205. -/
def handbackStart (d : Dev) : Dev :=
  let d := d.wr BS_STATUS_STATE 0 bsHandback
  let d := match busSlot d with
    | some s => slotHold d s 1 true
    | none => d
  let d := forIx 8 (fun k d => if legState d k = 2 then legHold (legHold d k 2 false) k 1 true else d) d
  { d with bs := { d.bs with hbStep := 1, hbCnt := 0, slow := 0 } }

/-- The shelf leaves HANDBACK for READY (HOLDUP_END, R202, R205). -/
def holdupEnd (d : Dev) : Dev :=
  let d := ((d.wr BS_STATUS_STATE 0 bsReady).wr BS_STATUS_TAKEN 0 0).wr BS_STATUS_SHED 0 0
  let d := { d with bs := { d.bs with hbStep := 0, takenAt := none, planned := false } }
  (d.ev BS_EVT_HANDBACK).recd 0x0702 0 5 []

/-- Steps 3 to 8 of R205 in phase B. -/
def handbackTick (d : Dev) : Dev :=
  if shelfState d ≠ bsHandback then d
  else if d.bs.hbStep = 1 then
    match busSlot d with
    | some s =>
      if (d.slot s).wasMan then
        let f := (sharers d).foldl (fun a i => a + (match fmSlot d i with
          | some l => manOut d l
          | none => 0)) 0
        let d := slotManOut d s (sat32 f)
        { d with bs := { d.bs with hbStep := 2, hbTick := d.cur } }
      else d
    | none => d
  else
    let d := if d.bs.hbStep = 2 then
        match busSlot d with
        | some s =>
          if d.bs.hbTick < d.cur ∧ d.le.ran.contains s then
            let d := (shelfUnhold d).wr FD_STATUS_BATREG 0 0
            let d := forIx 8 (fun k d => if legState d k = 2 then d.wr BS_LEG_STATE k 1 else d) d
            { d with bs := { d.bs with hbStep := 5 } }
          else d
        | none => d
      else d
    if d.bs.hbStep = 5 then
      let sl := mA (d.rd1 BS_SLEW_HSLEW)
      let d := forIx 8 (fun k d => match legSlot d k with
        | some s => let m := manOut d s
          slotManOut d s (m + clampI (-sl) sl (-m))
        | none => d) d
      if (List.range 8).all (fun k => match legSlot d k with
        | some s => manOut d s == 0
        | none => true) then holdupEnd d else d
    else d

/-- The shelf's requests by its state, kept from the boundary at which a commit makes the slots its own: a leg loop is AUTO in
HOLD and MAN in every other state; feeder loops are MAN while BATREG is 1, and the bus loop in steps 1 to 4 of hand-back (R192,
R198, R205). -/
def shelfHolds (d : Dev) : Dev :=
  let d := forIx 8 (fun k d => if legState d k = 2 then legHold d k 2 true else legHold d k 1 true) d
  let d := if d.fl FD_STATUS_BATREG then forIx 8 (fun i d => match fmSlot d i with
      | some s => slotHold d s 1 true
      | none => d) d else d
  match busSlot d with
  | some s => if shelfState d = bsHandback ∧ d.bs.hbStep < 5 then slotHold d s 1 true else d
  | none => d

/-- Strings and legs after a commit (R192): one it adds starts in OPEN or OUT while the shelf is not OFF; one without a channel
any more leaves the shelf. -/
def shelfCommit (d : Dev) : Dev :=
  let on := decide (shelfState d ≠ bsOff)
  let d := forIx 8 (fun k d =>
    if (legChan d k).isSome then (if on ∧ legState d k = 0 then d.wr BS_LEG_STATE k 3 else d)
    else { d.wr BS_LEG_STATE k 0 with bs := { d.bs with avail := setBit d.bs.avail k false } }) d
  shelfCounts (forIx 8 (fun j d =>
    if (strChan d j).isSome then (if on ∧ strState d j = 0 then d.wr BS_STR_STATE j 1 else d)
    else { d.wr BS_STR_STATE j 0 with bs := { d.bs with offEnd := Tbl.set none d.bs.offEnd j none } }) d)

/-- The shelf's values V_bat, I_leg and the observers' set-points (R187, R188). -/
def shelfValues (d : Dev) : Dev :=
  let d := d.wrS BS_VBAT 0 (vBat d)
  let il := (legs d).foldl (fun a k => a + (match legChan d k with
    | some c => chI d c
    | none => 0)) 0
  let d := (d.setFv 0x900 (vBat d)).setFv 0x901 (sat32 il)
  forIx 8 (fun j d => match strSlot d j, strChan d j with
    | some s, some c => d.wrS LS_SETPT s (chI d c)
    | _, _ => d) d

/-- A load's power of this tick, Q16.16 W. -/
def chP (d : Dev) (c : Nat) : Int := sat32 (rdiv (chV d c * chI d c) 65536)

/-- The frame sums of R200. -/
def shelfSums (d : Dev) : Dev :=
  let b := d.bs
  let is := forIx 8 (fun j t => match strChan d j with
    | some c => Tbl.upd 0 t j (fun x => x + chI d c)
    | none => t) b.iSum
  let pf := forIx 64 (fun f t => match chanOfFuse d f with
    | some c => Tbl.upd 0 t f (fun x => x + chP d c)
    | none => t) b.pFuse
  let pr := forIx 16 (fun n t =>
    if railConf d n then Tbl.upd 0 t n (fun x => x + rdiv (chV d (railLead d n) * iRail d n) 65536) else t) b.pRail
  { d with bs := { b with iSum := is, pFuse := pf, pRail := pr, ticks := b.ticks + 1 } }

/-- Phase B of the shelf. -/
def shelfPhaseB (d : Dev) : Dev :=
  shelfCounts (legZeros (charge (handbackTick (shelfValues (shelfHolds (emergShed d))))))

/-- Phase C of the shelf: the slow-path and hand-back counts. -/
def shelfPhaseC (d : Dev) : Dev :=
  let d := lossSlowCount (shelfSums d)
  { d with bs := { d.bs with hbCnt := if hbCond d then d.bs.hbCnt + 1 else 0 } }

/-! ### The planner (R200 to R203) -/

/-- The points in use of BS_OCV: up to the last one whose V is not 0 (R188). -/
def ocvUsed (d : Dev) : Nat := ((List.range 8).filter (fun i => d.rd BS_OCV_V i != 0)).foldl (fun _ i => i + 1) 0

/-- Etab of R201 over the points in use, mV to mJ. -/
def etab (d : Dev) (v : Int) : Int :=
  let n := ocvUsed d
  let vp : Nat → Int := fun i => d.rd BS_OCV_V i
  let ep : Nat → Int := fun i => (d.rd BS_OCV_E i : Int) * 1000
  if n = 0 ∨ v < vp 0 then 0
  else if vp (n - 1) ≤ v then ep (n - 1)
  else
    let i := ((List.range n).filter (fun i => decide (vp i ≤ v))).length - 1
    ep i + (v - vp i) * (ep (i + 1) - ep i) / (vp (i + 1) - vp i)

/-- A Q16.16 value in thousandths (R12). -/
def milli (x : Int) : Int := rdiv (x * 1000) 65536

/-- E_j of R201 with the mean current of the frame, mJ, in whole mV and mA; an observer whose fault action is that of FE_ACT 2 is
not used (R467). -/
def strEnergy (d : Dev) (j : Nat) : Int :=
  match strChan d j with
  | none => 0
  | some c =>
    if strState d j ≠ 3 then 0
    else
      let i := rdiv (Tbl.get 0 d.bs.iSum j * 1000) (65536 * max 1 d.bs.ticks)
      let rs : Int := d.rd BS_STR_RS j
      let ocv := match strSlot d j with
        | some s => if d.fl LS_FAULT s ∧ d.rd LS_FE_ACT s = 2 then milli (chV d c) + i * rs / 1000000 else milli (slotOut d s)
        | none => milli (chV d c) + i * rs / 1000000
      let floor := (d.rd BS_RSV_VMIN : Int) + max 0 i * rs / 1000000
      (clampN 0x4000 0x8000 (d.rd BS_STR_CAP j) : Int) * max 0 (etab d ocv - etab d floor) / 32768

/-- The class of a fuse (R207); 15 is none. -/
def fuseClass (d : Dev) (f : Nat) : Nat := bitsOf (d.rd BS_LCLS_F (f / 8)) (4 * (f % 8)) 4
/-- The class of a rail. -/
def railClass (d : Dev) (n : Nat) : Nat := bitsOf (d.rd BS_LCLS_R (n / 8)) (4 * (n % 8)) 4

/-- P_k of R202 in whole W: the mean fuse powers of the class, and the mean rail powers × 1000 / ETAR, rounded once (R12). -/
def classPower (d : Dev) (k : Nat) : Int :=
  let etar := clampN 500 1000 (d.rd BS_PLAN_ETAR)
  let pf := ((List.range 64).filter (fun f => fuseClass d f == k)).foldl (fun (a : Int) f => a + Tbl.get 0 d.bs.pFuse f) 0
  let pr := ((List.range 16).filter (fun n => railClass d n == k)).foldl (fun (a : Int) n => a + Tbl.get 0 d.bs.pRail n) 0
  rdiv (pf * etar + pr * 1000) (65536 * etar * max 1 d.bs.ticks)

/-- t_el in whole ms (R202). -/
def telMs (d : Dev) : Nat := (d.cur - d.bs.lossAt) / 1000

/-- The plan made from a snapshot at this frame boundary (HOLDUP_SNAPSHOT, R200 to R202). -/
def makePlan (d : Dev) : Plan :=
  let standby := shelfState d == bsReady
  let tel := if standby then 0 else telMs d
  let es := (List.range 8).map (strEnergy d)
  let eavail := (clampN 500 1000 (d.rd BS_PLAN_ETA) : Int) * es.foldl (· + ·) 0 / 1000 - (d.rd BS_RSV_ERES : Int) * 1000
  let need := (List.range 8).map (fun k => classPower d k * (d.rd BS_CLASS_TGT k - tel : Nat))
  let ok := (List.range 8).filter (fun k => decide ((need.take (k + 1)).foldl (· + ·) 0 ≤ eavail))
  { pm := d.curPm, tel := tel, standby := standby,
    mayShed := !standby && (d.fl BS_STATUS_TAKEN || takenDue d),
    keep := ok.getLast?.getD 0, isShort := decide (eavail < need.getD 0 0), eavail := eavail, need := need,
    str := es.map Int.toNat,
    ended := maskOf ((List.range 8).filter (fun k => d.fl BS_CLASS_ENDSHED k && decide (d.rd BS_CLASS_TGT k ≤ tel))) }

/-- Classes above `c` (R202). -/
def above (c : Nat) : Nat := maskOf ((List.range 8).filter (fun k => decide (c < k)))

/-- The payload of a HOLDUP_PLAN record (R468). -/
def planPay (p : Plan) (shed : Nat) : List Nat :=
  le 8 p.pm ++ le 2 (min p.tel 65535) ++ [p.keep, shed] ++ le 4 (ofS 32 (satS 32 p.eavail))
    ++ ((List.range 8).map (fun k => le 3 (min ((p.need.getD k 0).toNat / 1000) 16777215))).flatten

/-- A plan applies at the frame boundary (HOLDUP_PLAN, HOLDUP_SHORT; R200, R202, R203). A hold-up plan lapses in READY and OFF; a
standby plan writes a record only when its c is not the one in force. -/
def applyPlan (d : Dev) (p : Plan) : Dev :=
  let st := shelfState d
  if !p.standby ∧ st ≠ bsHoldup ∧ st ≠ bsHandback then d
  else
    let oldKeep := d.rd BS_STATUS_KEEP
    let d := (d.wrS BS_EAVAIL 0 (satS 32 p.eavail)).wr BS_TEL_TEL 0 (min p.tel 65535)
    let d := forIx 8 (fun j d => d.wr BS_STR_E j (min (p.str.getD j 0) (2 ^ 32 - 1))) d
    let d := (d.wr BS_STATUS_KEEP 0 p.keep).wrB BS_STATUS_STANDBY 0 p.standby
    let d := if p.isShort then ((d.wr BS_STATUS_SHORT 0 1).ev BS_EVT_SHORT).recd 0x0706 0 5 [] else d.wr BS_STATUS_SHORT 0 0
    if p.standby then
      if oldKeep = p.keep then d else d.recd 0x0705 0 5 (planPay p (d.rd BS_STATUS_SHED))
    else
      let d := if p.mayShed then shedAddClasses d (maskOf ((List.range 8).filter (fun k => bitOf (above p.keep) k || bitOf p.ended k)))
        else d
      let d := { d with bs := { d.bs with planned := true } }
      d.recd 0x0705 0 5 (planPay p (d.rd BS_STATUS_SHED))

/-- The shelf at a frame boundary: the plan of the last snapshot applies, the next snapshot is taken (R200), RUN and the
next string (SHELF_FRAME_RUN, R194), and EM_EN = 0 (R197). -/
def shelfFrame (d : Dev) : Dev :=
  let d := if d.fl BS_CTRL_EM_EN then d else { d.wr BS_STATUS_EMERG 0 0 with bs := { d.bs with emLow := 0 } }
  let halted := d.fl GL_STATUS_MHALT
  let st := shelfState d
  let d := if halted then
      if (st = bsHoldup ∨ st = bsHandback) ∧ !d.bs.planned ∧ (d.fl BS_STATUS_TAKEN || takenDue d) then
        let d := { d with bs := { d.bs with planned := true, plan := none } }
        shedAddClasses d (above (d.rd BS_STATUS_KEEP))
      else { d with bs := { d.bs with plan := none } }
    else
      let d := match d.bs.plan with
        | some p => applyPlan d p
        | none => d
      let plan := if st = bsReady ∨ st = bsHoldup ∨ st = bsHandback then some (makePlan d) else none
      { d with bs := { d.bs with plan := plan } }
  let d := { d with bs := { d.bs with iSum := [], pFuse := [], pRail := [], ticks := 0 } }
  let d := if st = bsConnect ∨ st = bsReady then shelfRuns d else d
  let d := if st = bsReady ∧ !anyClosing d then
      match (List.range 8).find? (fun j => strState d j == 1 && strMatches d j && (match strChan d j with
        | some c => health d c == 5 || inService d c
        | none => false)) with
      | some j => strClose d j
      | none => d
    else d
  shelfCounts d

/-! ### The ring (R189, R191) -/

/-- The standing command of a string's slot. -/
def strStd (d : Dev) (j : Nat) : Cmd :=
  let st := strState d j
  let set := fun (c : Nat) => ({ opc := 0x48, arg := c + d.rd BS_STR_IMAX j * 2 ^ 16 + d.rd BS_RSV_VMIN * 2 ^ 32 } : Cmd)
  if st = 0 then (if (Tbl.get none d.bs.offEnd j).isSome then set 0 else { opc := 2 })
  else set (st == 2 || st == 3).toNat

/-- The standing command of a leg's slot. -/
def legStd (d : Dev) (k : Nat) : Cmd :=
  let st := legState d k
  if st = 0 ∨ st = 3 then { opc := 2 }
  else
    let x := match legSlot d k with
      | some s => slotOut d s
      | none => 0
    { opc := 0x4C, arg := icmd x + d.rd BS_LEG_ILIM k * 2 ^ 32 }

end Sys2Proof.Machine
end

