-- ==== Sys2Proof/Machine/Fuse.lean ====
section
/-! DEFINITION. Fuse channels and feed groups: the breaker curve, the FET temperature, trips and retries, feed groups
and their changes (R208 to R225). -/

namespace Sys2Proof.Machine
open R

/-- FU.STATUS.STATE codes: IDLE. -/
def fuIdle : Nat := 0
/-- OFF. -/
def fuOff : Nat := 1
/-- RAMP. -/
def fuRamp : Nat := 2
/-- ON. -/
def fuOn : Nat := 3
/-- TRIPPED. -/
def fuTripped : Nat := 4
/-- LOCKOUT. -/
def fuLockout : Nat := 5
/-- SHED. -/
def fuShed : Nat := 6

/-- The internal state of fuse `f`. -/
def Dev.fuz (d : Dev) (f : Nat) : FuseSt := Tbl.get {} d.fuse f
/-- Fuse `f` changes. -/
def Dev.setFuse (d : Dev) (f : Nat) (x : FuseSt) : Dev := { d with fuse := Tbl.set {} d.fuse f x }
/-- The internal state of feed group `n`. -/
def Dev.fg (d : Dev) (n : Nat) : GroupSt := Tbl.get {} d.grp n
/-- Feed group `n` changes. -/
def Dev.setFg (d : Dev) (n : Nat) (x : GroupSt) : Dev := { d with grp := Tbl.set {} d.grp n x }

/-- The state of fuse `f`. -/
def fuState (d : Dev) (f : Nat) : Nat := d.rd FU_STATUS_STATE f
/-- The record is in use. -/
def fuValid (d : Dev) (f : Nat) : Bool := d.fl FU_CFG_VALID f
/-- Fuse `f` is a member of a feed group (R95, R220). Its owner and role stand in the directory; the record's FG,
INFG, CHAN and PORTSW only show what the image wrote (log 84). -/
def fuInfg (d : Dev) (f : Nat) : Bool := (chanOfFuse d f).any (fun c => d.rd CD_ENT_OWNK c == 2)
/-- The feed group of fuse `f` (R95, R220). -/
def fuFg (d : Dev) (f : Nat) : Nat := match chanOfFuse d f with
  | some c => d.rd CD_ENT_OWNN c
  | none => 0
/-- The channel of fuse `f` is a port switch (R95, R224). -/
def fuPortsw (d : Dev) (f : Nat) : Bool := (chanOfFuse d f).any (fun c => roleOf d c == 4)
/-- The ramp slot of fuse `f` (R211). -/
def fuSlot (d : Dev) (f : Nat) : Option Nat := slotOfInput d (0xA00 + f)
/-- V_src (R211). -/
def vSrc (d : Dev) : Int := d.rdS FD_VBUS

/-- The word of FU.WDATA that WSEL `w` selects (R225): elements from 1024 on, 16 to a record. -/
def fuWord (d : Dev) (f w : Nat) : Nat := d.rd FU_WDATA (1024 + f * 16 + w)
/-- I[p], 10 mA. -/
def fuI (d : Dev) (f p : Nat) : Nat := bitsOf (fuWord d f p) 0 16
/-- c[p]. -/
def fuC (d : Dev) (f p : Nat) : Nat := bitsOf (fuWord d f p) 16 8
/-- RTH[k], 0.001 K/W. -/
def fuRth (d : Dev) (f k : Nat) : Nat := bitsOf (fuWord d f (8 + k)) 0 16
/-- S[k]. -/
def fuS (d : Dev) (f k : Nat) : Nat := bitsOf (fuWord d f (8 + k)) 16 5
/-- RON, µΩ. -/
def fuRon (d : Dev) (f : Nat) : Nat := bitsOf (fuWord d f 11) 0 16
/-- TAMB, Q16.16 °C. -/
def fuTamb (d : Dev) (f : Nat) : Int := ((bitsOf (fuWord d f 11) 16 8 : Nat) - 64) * 65536
/-- TDEV, Q16.16 °C. -/
def fuTdev (d : Dev) (f : Nat) : Int := (bitsOf (fuWord d f 11) 24 8 : Nat) * 65536

/-! ### The breaker curve (R213, R214) -/

/-- ⌊2^(c/8)⌋, found bit by bit. -/
def root8 (c : Nat) : Nat :=
  (List.range 28).reverse.foldl (fun n b => if (n + 2 ^ b) ^ 8 ≤ 2 ^ c then n + 2 ^ b else n) 0

/-- T[c] = round(2^(c/8)) ticks. -/
def curveT (c : Nat) : Nat :=
  let n := root8 c
  if (2 * n + 1) ^ 8 ≤ 2 ^ (c + 8) then n + 1 else n

/-- L(v) of R214. -/
def curveL (v : Nat) : Nat :=
  let k := Nat.log2 v
  k * 65536 + (v - 2 ^ k) * 65536 / 2 ^ k

/-- The scaled point p in 2 mA units. -/
def curvePt (cur scale : Nat) : Nat := (rdiv ((cur * scale : Nat) : Int) 128).toNat * 5

/-- The heating code of a current x in 2 mA units, or none while it cools (R214); `pts` are (I, c) pairs. -/
def curveCode (pts : List (Nat × Nat)) (scale x : Nat) : Option Nat :=
  let ip := fun p => curvePt (pts.getD p (0, 0)).1 scale
  let cp := fun p => (pts.getD p (0, 0)).2
  if x ≤ ip 0 then none
  else if ip 7 ≤ x then some (cp 7)
  else
    let a := ((List.range 7).filter (fun p => decide (ip p ≤ x))).getLast?.getD 0
    let ca : Int := cp a
    let cb : Int := cp (a + 1)
    some (ca + rdiv ((cb - ca) * ((curveL x : Int) - curveL (ip a))) ((curveL (ip (a + 1)) : Int) - curveL (ip a))).toNat

/-- The accumulator after one tick (R214). -/
def curveStep (pts : List (Nat × Nat)) (scale x acc : Nat) : Nat :=
  match curveCode pts scale x with
  | none => acc - cdiv acc (act1 (curveT (pts.getD 0 (0, 0)).2))
  | some c => min (acc + 2 ^ 31 / act1 (curveT c)) (2 ^ 32 - 1)

/-- The curve points of a record. -/
def curvePts (d : Dev) (f : Nat) : List (Nat × Nat) := (List.range 8).map (fun p => (fuI d f p, fuC d f p))

/-- The |I| code in 2 mA units of the latest valid sample (R214). -/
def fuX (d : Dev) (c : Nat) : Nat := (toS 16 (d.chn c).smp.i).natAbs

/-- The curve rule of R213, and what R216 asks of IINR and TRAMP. -/
def curveValid (pts : List (Nat × Nat)) (iinst iinr tramp : Nat) : Bool :=
  let i := fun p => (pts.getD p (0, 0)).1
  let c := fun p => (pts.getD p (0, 0)).2
  let heat := match curveCode pts 128 (iinr * 5) with
    | some k => decide (curveT k < act1 tramp * 1000)
    | none => false
  decide (1 ≤ i 0) && (List.range 7).all (fun p => decide (i p < i (p + 1)) && decide (c (p + 1) ≤ c p))
    && decide (c 0 ≤ 213) && decide (i 7 < iinst) && decide (iinst ≤ 6553) && decide (i 0 < iinr) && heat

/-! ### The FET temperature (R215) -/

/-- One pole's step. -/
def poleStep (p dt : Int) (rth s : Nat) : Int := sat32 (dt + rdiv (p * rth - 1000 * dt) (1000 * (2 ^ s : Nat)))

/-- The model's temperature; a pole with RTH = 0 contributes nothing. -/
def fuModelT (d : Dev) (f : Nat) : Int :=
  let x := d.fuz f
  let pole := fun (k : Nat) (dt : Int) => if fuRth d f k = 0 then 0 else dt
  sat32 (fuTamb d f + pole 0 x.dt0 + pole 1 x.dt1 + pole 2 x.dt2)

/-- The stage has its own sensor. -/
def fuSensor (d : Dev) (c : Nat) : Bool := chCaps d c 2

/-- One tick of the model, for a channel out of IDLE that reports no sense fault (R215, R216). -/
def fuModel (d : Dev) (f c : Nat) : Dev :=
  let x := d.fuz f
  let i := chI d c
  let p := sat32 (rdiv (i * i * fuRon d f) (65536 * 1000000))
  d.setFuse f { x with dt0 := poleStep p x.dt0 (fuRth d f 0) (fuS d f 0),
                       dt1 := poleStep p x.dt1 (fuRth d f 1) (fuS d f 1),
                       dt2 := poleStep p x.dt2 (fuRth d f 2) (fuS d f 2) }

/-- The sensor fails one of the two tests of R215: a T code outside its range, or the 1000th tick in a row off the model. -/
def fuImplNow (d : Dev) (f c : Nat) : Bool :=
  let t := (d.chn c).smp.t
  (d.chn c).smp.has && (decide (t < 96) || t == 1023 || decide (1000 ≤ (d.fuz f).dev))

/-- The model is the source of T_fet: the stage has no sensor, none of its samples has come, or it is implausible (R215). -/
def fuByModel (d : Dev) (f c : Nat) : Bool := !fuSensor d c || !(d.chn c).smp.has || d.fl FU_STATUS_IMPL f || fuImplNow d f c

/-- T_fet in use and the counts of R215 and R217. -/
def fuTemp (d : Dev) (f c : Nat) : Dev :=
  let model := fuModelT d f
  let sens := chT d c
  let modelled := (List.range 3).any (fun k => fuRth d f k != 0)
  let off := fuSensor d c && (d.chn c).smp.has && modelled && decide (fuTdev d f < ((sens - model).natAbs : Int))
  let x := d.fuz f
  let d := d.setFuse f { x with dev := if off then x.dev + 1 else 0 }
  let t := if fuByModel d f c then model else sens
  let x := d.fuz f
  let d := d.setFuse f { x with tfet := t, therm := if ((d.rd FU_TMAX f : Int) * 65536 ≤ t) then x.therm + 1 else 0 }
  d.wrB FU_STATUS_TMOD f (fuByModel d f c)

/-- FUSE_TSENSE is due (R215). -/
def tsenseDue (d : Dev) (f : Nat) : Bool :=
  match chanOfFuse d f with
  | some c => fuSensor d c && !d.fl FU_STATUS_IMPL f && fuImplNow d f c
  | none => false

/-- FUSE_TSENSE (R215). -/
def tsense (d : Dev) (f : Nat) : Dev :=
  let pm := match chanOfFuse d f with
    | some c => (d.chn c).smp.pm
    | none => d.curPm
  ((d.wr FU_STATUS_IMPL f 1).wr FU_STATUS_TMOD f 1).ev FU_EVT_IMPL f |>.recAt pm 0x0804 3 f []

/-! ### Entering RAMP and ON (R208, R212) -/

/-- REG_WR of IINST and DVDT, then RUN (R208). -/
def fuRun (d : Dev) (f c : Nat) : Dev :=
  let i := d.rd FU_LIM_IINST f
  let v := d.rd FU_INR_DVDT f
  let d := issueRegWr (issueRegWr d c 0x0060 i) c 0x0061 v
  issueRun (d.setFuse f { d.fuz f with sentI := i, sentD := v }) c

/-- The ramp is preset in the first tick of RAMP in which a SAMPLE report is latched, the tick of entry included; one that comes in
the tick in which TRAMP expires counts as arrived (R212). -/
def fuPreset (d : Dev) (f c : Nat) : Dev :=
  let x := d.fuz f
  let s := d.chn c
  if fuState d f = fuRamp ∧ !x.preset ∧ s.fresh ∧ s.rtype = 1 ∧ !s.quar then
    let d := match fuSlot d f with
      | some sl => d.setSlot sl { d.slot sl with a3 := acc64 (max (chV d c) 0 * 65536) }
      | none => d
    let inTime := decide (x.rampAt + d.rd1 FU_INR_TRAMP f * 1000 ≤ d.cur)
    d.setFuse f { x with preset := true, inTime := inTime, acc := 0, enAt := some (applyEdge d c (d.cur + 1)) }
  else d

/-- The channel enters RAMP (R212); the ramp slot's fault action of FE_ACT 2 is cleared as FECLR does (R467). -/
def fuEnterRamp (d : Dev) (f c : Nat) : Dev :=
  let d := d.setFuse f { d.fuz f with rampAt := d.cur, preset := false, inTime := false, enAt := none }
  let d := d.wr FU_STATUS_STATE f fuRamp
  let d := match fuSlot d f with
    | some s => (feclrOwn d s).wrS LS_SETPT s (vSrc d)
    | none => d
  fuPreset (if health d c = 5 then fuRun d f c else d) f c

/-- The channel enters ON. -/
def fuEnterOn (d : Dev) (f : Nat) : Dev :=
  (d.wr FU_STATUS_STATE f fuOn).setFuse f { d.fuz f with onAt := d.cur }

/-- An enabled channel that already reports its output on is adopted (FUSE_ADOPT, R212). -/
def fuAdopt (d : Dev) (f c : Nat) : Dev :=
  let d := fuEnterOn (fuRun d f c) f
  let d := d.setFuse f { d.fuz f with enAt := some (applyEdge d c (d.cur + 1)) }
  d.recd 0x0803 3 f []

/-- An enable acts on the channel's state (R212): it waits for a report, and in OFF for one with ROLEF = 0. -/
def fuStart (d : Dev) (f : Nat) : Dev :=
  match chanOfFuse d f with
  | none => d
  | some c =>
    let st := fuState d f
    let on := chFlag d c flRolef
    if !(d.chn c).smp.has then d
    else if st = fuIdle ∧ on then fuAdopt d f c
    else if (st = fuIdle ∨ st = fuOff) ∧ !on then fuEnterRamp d f c
    else d

/-- RCNT counts a retry, and the channel ramps again (FUSE_RETRY, R212, R219). -/
def fuRetry (d : Dev) (f : Nat) : Dev :=
  match chanOfFuse d f with
  | none => d
  | some c => fuEnterRamp ((d.inc FU_STATUS_RCNT f).recd 0x0801 3 f []) f c

/-- The channel's class is shed. -/
def classShed (d : Dev) (f : Nat) : Bool :=
  decide (fuseClass d f < 8) && d.bit BS_STATUS_SHED 0 (fuseClass d f)

/-- The ramp slot has reached V_src with V_out near it (R212). -/
def fuComplete (d : Dev) (f : Nat) : Bool :=
  match chanOfFuse d f, fuSlot d f with
  | some c, some s =>
    fuState d f == fuRamp && (d.fuz f).preset && slotOut d s == vSrc d && decide (vSrc d - 65536 ≤ chV d c)
  | _, _ => false

/-- After phase D: a complete ramp ends in ON (FUSE_RAMP_COMPLETE, R212). -/
def fuRampDone (d : Dev) (f : Nat) : Dev := if fuComplete d f then fuEnterOn d f else d

/-! ### Trips and retries (R217 to R219) -/

/-- The reasons that hold for a channel in RAMP or ON, bit n for code n, RAMP and FOLLOW apart (R217). -/
def tripSet (d : Dev) (f : Nat) : Nat :=
  match chanOfFuse d f with
  | none => 0
  | some c =>
    let st := fuState d f
    if st ≠ fuRamp ∧ st ≠ fuOn then 0
    else
      let x := d.fuz f
      let s := d.chn c
      let inst := chFlag d c flTrip && !s.quar && (match x.enAt with
        | some e => decide (e ≤ s.smp.tick)
        | none => false)
      let sense := chFlag d c flSense && fuByModel d f c
      let curve := decide (2 ^ 31 ≤ x.acc) && !chFlag d c flSense
      maskOf ((if inst then [1] else []) ++ (if 8 ≤ x.therm then [2] else []) ++ (if sense then [3] else [])
        ++ (if curve then [4] else []))

/-- FUSE_TRIP is due. -/
def tripDue (d : Dev) (f : Nat) : Bool := tripSet d f != 0

/-- The members of a feed group (R220). -/
def groupMembers (d : Dev) (n : Nat) : List Nat :=
  (List.range 64).filter (fun f => fuValid d f && fuInfg d f && fuFg d f == n)

/-- A trip for a set of reasons (FUSE_TRIP, FUSE_LOCKOUT; R217, R219, R468). -/
def fuTrip (d : Dev) (f set : Nat) : Dev :=
  match chanOfFuse d f with
  | none => d
  | some c =>
    let x := d.fuz f
    let reason := ((List.range 8).find? (bitOf set)).getD 0
    let rcnt := d.rd FU_STATUS_RCNT f
    let lock := reason == 3 || fuPortsw d f || decide (d.rd FU_RTY_NRTY f ≤ rcnt)
    let st := if lock then fuLockout else fuTripped
    let i := chI d c
    let pay := [reason, 0] ++ le 2 (setBit set reason false) ++ [rcnt, st, 0, 0] ++ le 4 i.natAbs
      ++ le 4 (ofS 32 x.tfet) ++ le 4 x.acc
    let smp := (d.chn c).smp
    let pm := if reason ≤ 4 then smp.pm else d.curPm
    let d := ((d.wr FU_STATUS_STATE f st).wr FU_STATUS_REASON f reason).inc FU_STATUS_NTRIP f
    let boff := d.rd1 FU_RTY_BOFF f * 10000 * (if d.fl FU_RTY_DOUBLE f then 2 ^ min rcnt 7 else 1)
    let edge := if bitOf set 1 then some (smp.tick, smp.pm) else none
    let d := d.setFuse f { x with backEnd := d.cur + boff, tripEdge := edge, tripAt := d.cur, offEdge := applyEdge d c (d.cur + 1) }
    let d := (d.ev FU_EVT_TRIP f).recAt pm 0x0800 3 f pay
    if lock then
      let d := (d.ev FU_EVT_LOCKOUT f).recd 0x0802 3 f []
      if fuInfg d f then
        let n := fuFg d f
        if (groupMembers d n).all (fun g => fuState d g == fuLockout) then d.tfault 3 n 2 else d
      else d.tfault 2 f 2
    else d

/-- TRAMP_EXPIRY is due (R212): neither a first SAMPLE report of the tick of expiry nor a ramp complete by then has met it. -/
def trampDue (d : Dev) (f : Nat) : Bool :=
  fuState d f == fuRamp && !fuPortsw d f && d.due ((d.fuz f).rampAt + d.rd1 FU_INR_TRAMP f * 1000)
    && !(d.fuz f).inTime && !fuComplete d f

/-- TRAMP_EXPIRY: a trip with reason RAMP, and whatever else holds in the tick. -/
def tramp (d : Dev) (f : Nat) : Dev := fuTrip d f (setBit (tripSet d f) 5 true)

/-- The ramp slot's shed request (R467). -/
def fuFollow (d : Dev) (f : Nat) : Dev :=
  let st := fuState d f
  if st = fuRamp ∨ st = fuOn then fuTrip d f (setBit (tripSet d f) 6 true) else d

/-- FUSE_RETRY is due: the back-off of a single feed ended (R219). -/
def retryDue (d : Dev) (f : Nat) : Bool :=
  fuState d f == fuTripped && !fuInfg d f && d.due (d.fuz f).backEnd

/-- RCNT_RESET is due (R219). -/
def rcntDue (d : Dev) (f : Nat) : Bool :=
  fuState d f == fuOn && d.rd FU_STATUS_RCNT f != 0 && d.due ((d.fuz f).onAt + d.rd1 FU_RTY_RWIN f * 1000000)

/-- RCNT_RESET. -/
def rcntReset (d : Dev) (f : Nat) : Dev := d.wr FU_STATUS_RCNT f 0

/-! ### Enables and disables of single feeds -/

/-- LOCKOUT ends by RESET or a host ON (R212). -/
def fuUnlock (d : Dev) (f : Nat) : Dev :=
  if fuState d f = fuLockout then (d.wr FU_STATUS_RCNT f 0).wr FU_STATUS_STATE f fuOff else d

/-- An enable of a single feed (R212); in SHED it waits (R223). -/
def fuEnable (d : Dev) (f : Nat) : Dev :=
  if fuState d f = fuShed ∨ classShed d f then d.setFuse f { d.fuz f with pend := some true }
  else fuStart (d.setFuse f { d.fuz f with want := true }) f

/-- A sequencer disable or a host OFF of a single feed (R212). -/
def fuDisable (d : Dev) (f : Nat) : Dev :=
  let st := fuState d f
  let d := d.setFuse f { d.fuz f with want := false }
  if st = fuRamp ∨ st = fuOn ∨ st = fuTripped then d.wr FU_STATUS_STATE f fuOff else d

/-- FU.CMD.RESET (R212, R215): LOCKOUT ends and IMPL clears. -/
def fuReset (d : Dev) (f : Nat) : Dev :=
  let d := (d.wr FU_STATUS_IMPL f 0).setFuse f { d.fuz f with dev := 0 }
  if fuState d f = fuLockout then
    let d := fuUnlock d f
    if !fuInfg d f ∧ (d.fuz f).want then fuStart d f else d
  else d

/-- The shed of one channel (FUSE_SHED, R212, R223). -/
def fuShedNow (d : Dev) (f : Nat) : Dev :=
  if fuState d f = fuIdle then d
  else (d.wr FU_STATUS_STATE f fuShed).setFuse f { d.fuz f with want := false }

/-! ### Feed groups (R220 to R222) -/

/-- The primary of a group. -/
def groupPrim (d : Dev) (n : Nat) : Option Nat := (groupMembers d n).find? (fun f => !d.fl FU_CFG_PRIO f)
/-- The secondary of a group. -/
def groupSec (d : Dev) (n : Nat) : Option Nat := (groupMembers d n).find? (fun f => d.fl FU_CFG_PRIO f)
/-- The selected member. -/
def groupSel (d : Dev) (n : Nat) : Option Nat := (groupMembers d n).find? (fun f => d.fl FU_STATUS_SEL f)

/-- A member is available (R221). DESIGN CHOICE: a member in IDLE, and one in IDLE or OFF whose health is SAFE, count as well; R212
gives both an enable that sends RUN, and no member could ever leave IDLE otherwise (log entry 32). -/
def fuAvail (d : Dev) (f : Nat) : Bool :=
  match chanOfFuse d f with
  | none => false
  | some c =>
    let st := fuState d f
    let stOk := st == fuOff || st == fuRamp || st == fuOn || st == fuIdle
      || (st == fuTripped && decide ((d.fuz f).backEnd ≤ d.cur))
    let hOk := inService d c || (health d c == 5 && (st == fuIdle || st == fuOff))
    stOk && hOk && (d.chn c).smp.has && !chFlag d c flSupply

/-- A member starts: from TRIPPED as its retry, otherwise as an enable (R219, R221). -/
def memberStart (d : Dev) (f : Nat) : Dev :=
  if fuState d f = fuTripped then fuRetry d f else fuStart d f

/-- A member goes OFF. -/
def memberOff (d : Dev) (f : Nat) : Dev :=
  let st := fuState d f
  if st = fuRamp ∨ st = fuOn then d.wr FU_STATUS_STATE f fuOff else d

/-- A change to the other member is decided (FEED_SELECT, R221, R222). -/
def groupChange (d : Dev) (n out inc : Nat) (host : Bool) : Dev :=
  match groupPrim d n, chanOfFuse d out with
  | some p, some c =>
    let st := fuState d out
    let x := d.fuz out
    let tripped := st == fuTripped || st == fuLockout
    let ch : Change := { out := out, inc := inc, at_ := d.cur, offEdge := if tripped then x.offEdge else applyEdge d c (d.cur + 1),
                         known := x.tripAt, toff := if tripped then x.tripEdge else none }
    let d := ((memberOff d out).wr FU_STATUS_SEL out 0).wr FU_STATUS_SEL inc 1
    let d := (d.wrB FU_STATUS_GMAN p host).wr FU_STATUS_XFER p 1
    d.setFg n { d.fg n with chg := some ch, req := false, rev := 0 }
  | _, _ => d

/-- Neither member is available (FEED_DOWN, R221). -/
def groupDown (d : Dev) (n : Nat) : Dev :=
  let g := d.fg n
  let d := forL (groupMembers d n) (fun f d => (memberOff d f).wr FU_STATUS_SEL f 0) d
  let d := match groupPrim d n with
    | some p => (d.wr FU_STATUS_GMAN p 0).wr FU_STATUS_XFER p 0
    | none => d
  if g.down then d.setFg n { g with req := false, rev := 0, chg := none }
  else
    let d := d.setFg n { g with down := true, req := false, rev := 0, chg := none }
    let d := match groupPrim d n with
      | some p => d.ev FU_EVT_GDOWN p
      | none => d
    d.recd 0x0806 4 n []

/-- A change in progress has not started its incoming channel yet. -/
def changeWaits (g : GroupSt) : Bool :=
  match g.chg with
  | some ch => !ch.started
  | none => false

/-- The selection of R221 in phase B of a tick. A selected member that left ACTIVE or DEGRADED without tripping stays selected;
otherwise, where it shows SUPPLY = 1 or has tripped and the other member is unavailable, nothing is selected. A change in
progress gives way to a new selection (log entry 32). -/
def groupSelect (d : Dev) (n : Nat) : Dev :=
  let g := d.fg n
  if !g.en ∨ g.stuck then d
  else match groupPrim d n, groupSec d n with
  | some p, some s =>
    match groupSel d n with
    | none =>
      let pick := if fuAvail d p then some p else if fuAvail d s then some s else none
      match pick with
      | some f =>
        let d := (d.wr FU_STATUS_SEL f 1).wr FU_STATUS_GMAN p 0
        memberStart (d.setFg n { g with down := false, req := false, rev := 0 }) f
      | none => groupDown d n
    | some f =>
      let o := if f = p then s else p
      let st := fuState d f
      let waits := changeWaits g
      let tripped := !waits && (st == fuTripped || st == fuLockout)
      let shows : Bool := match chanOfFuse d f with
        | some c => chFlag d c flSupply
        | none => false
      if (tripped ∨ 4 ≤ (d.fuz f).supply) ∧ fuAvail d o then groupChange d n f o false
      else if tripped ∧ fuAvail d f then memberStart (d.setFg n { g with chg := none }) f
      else if tripped ∨ (shows ∧ !fuAvail d o) then groupDown d n
      else if g.req then
        if fuAvail d o then groupChange d n f o true else d.setFg n { g with req := false }
      else
        let d := if !waits ∧ (st = fuIdle ∨ st = fuOff) then memberStart d f else d
        let rev := if f = s ∧ !d.fl FU_STATUS_GMAN p ∧ d.fl FU_CFG_REVERT p ∧ fuAvail d p then g.rev + 1 else 0
        d.setFg n { d.fg n with rev := rev }
  | _, _ => d

/-- FEED_REVERT is due (R221). -/
def revertDue (d : Dev) (n : Nat) : Bool :=
  match groupPrim d n with
  | some p => (d.fg n).en && (d.fg n).chg.isNone && decide (d.rd1 FU_CFG_REVT p * 100000 ≤ (d.fg n).rev)
  | none => false

/-- FEED_REVERT: the group changes to its primary. -/
def feedRevert (d : Dev) (n : Nat) : Dev :=
  match groupPrim d n, groupSec d n with
  | some p, some s => groupChange d n s p false
  | _, _ => d

/-- A change in progress, in phase B: t_off is found, and the incoming channel starts when its first frame with EN = 1
can reach it no earlier than KERF after t_off (R222). A change whose incoming channel has left RAMP before it was sent EN = 1 ends
without its record. -/
def changeTick (d : Dev) (n : Nat) : Dev :=
  match (d.fg n).chg, groupPrim d n with
  | some ch, some p =>
    let outS := match chanOfFuse d ch.out with
      | some c => d.chn c
      | none => {}
    let ch := if ch.toff.isNone ∧ outS.fresh ∧ !bitOf outS.smp.fl flRolef ∧ ch.offEdge ≤ outS.smp.tick
      then { ch with toff := some (outS.smp.tick, outS.smp.pm), known := d.cur } else ch
    match chanOfFuse d ch.inc, ch.toff with
    | some c, some (toff, _) =>
      if !ch.started then
        if ch.known < d.cur ∧ toff + d.rd FU_CFG_KERF p ≤ applyEdge d c (d.cur + 1) then
          memberStart (d.setFg n { d.fg n with chg := some { ch with started := true, ein := none } }) ch.inc
        else d.setFg n { d.fg n with chg := some ch }
      else if ch.ein.isNone ∧ (d.fuz ch.inc).enAt.isNone ∧ fuState d ch.inc ≠ fuRamp ∧ fuState d ch.inc ≠ fuOff then
        (d.wr FU_STATUS_XFER p 0).setFg n { d.fg n with chg := none }
      else d.setFg n { d.fg n with chg := some { ch with ein := if ch.ein.isSome then ch.ein else (d.fuz ch.inc).enAt } }
    | _, _ => d.setFg n { d.fg n with chg := some ch }
  | _, _ => d

/-- FEED_XFER is due: e_in has come (R222). -/
def xferDue (d : Dev) (n : Nat) : Bool :=
  match (d.fg n).chg with
  | some ch => (match ch.ein with
    | some e => d.due e
    | none => false)
  | none => false

/-- FEED_XFER (R222). -/
def feedXfer (d : Dev) (n : Nat) : Dev :=
  match (d.fg n).chg, groupPrim d n with
  | some ch, some p =>
    let e := ch.ein.getD d.cur
    let d := d.setFg n { d.fg n with chg := none }
    let d := (d.wr FU_STATUS_XFER p 0).ev FU_EVT_XFER p
    d.recd 0x0805 4 n (le 8 (ch.toff.getD (0, 0)).2 ++ le 8 (d.pmAgo (d.cur - e)))
  | _, _ => d

/-- FEED_STUCK is due (R222). -/
def stuckDue (d : Dev) (n : Nat) : Bool :=
  match (d.fg n).chg with
  | some ch => ch.toff.isNone && d.due (ch.at_ + 100)
  | none => false

/-- FEED_STUCK (R222): the group stays on its old source. -/
def feedStuck (d : Dev) (n : Nat) : Dev :=
  match (d.fg n).chg, groupPrim d n with
  | some ch, some p =>
    let d := d.setFg n { d.fg n with chg := none, stuck := true }
    let d := ((d.wr FU_STATUS_SEL ch.inc 0).wr FU_STATUS_SEL ch.out 1).wr FU_STATUS_XFER p 0
    ((d.ev FU_EVT_STUCK p).recd 0x0807 4 n []).tfault 3 n 2
  | _, _ => d

/-- The class of a group is shed (R223). -/
def groupShed (d : Dev) (n : Nat) : Bool := (d.fg n).shed || (groupMembers d n).any (fun f => classShed d f)

/-- A group is enabled, by the sequencer or the host (R220); in SHED the enable waits (R223). -/
def groupEnable (d : Dev) (n : Nat) : Dev :=
  d.setFg n (if groupShed d n then { d.fg n with pend := some true } else { d.fg n with en := true })

/-- A host ON releases the members in LOCKOUT (R212). -/
def groupUnlock (d : Dev) (n : Nat) : Dev := forL (groupMembers d n) (fun f d => fuUnlock d f) d

/-- A group is disabled. -/
def groupDisable (d : Dev) (n : Nat) : Dev :=
  let d := forL (groupMembers d n) (fun f d =>
    let d := d.wr FU_STATUS_SEL f 0
    let st := fuState d f
    if st = fuRamp ∨ st = fuOn ∨ st = fuTripped then d.wr FU_STATUS_STATE f fuOff else d) d
  let d := match groupPrim d n with
    | some p => (d.wr FU_STATUS_GMAN p 0).wr FU_STATUS_XFER p 0
    | none => d
  d.setFg n { shed := (d.fg n).shed, pend := (d.fg n).pend }

/-- A host feed change is requested of the selection in phase B (R221): refused while the group is off or shed. -/
def groupXfer (d : Dev) (n : Nat) : Bool × Dev :=
  let g := d.fg n
  if !g.en ∨ g.shed then (true, d) else (false, d.setFg n { g with req := true })

/-- The sheds of newly shed classes (R203, R223), fuses only. -/
def shedFuses (d : Dev) (set : Nat) : Dev :=
  let hit := fun f => fuValid d f && decide (fuseClass d f < 8) && bitOf set (fuseClass d f)
  let d := forIx 16 (fun n d =>
    if (groupMembers d n).any hit then
      let d := (groupDisable d n)
      d.setFg n { d.fg n with shed := true }
    else d) d
  forL ((List.range 64).filter hit) (fun f d => fuShedNow d f) d

/-- A shed that has cleared: SHED to OFF (R202, R212, R223). -/
def shedCleared (d : Dev) : Dev :=
  let d := forIx 64 (fun f d =>
    if fuValid d f ∧ !classShed d f ∧ fuState d f = fuShed then d.wr FU_STATUS_STATE f fuOff else d) d
  forIx 16 (fun n d =>
    if (d.fg n).shed ∧ !(groupMembers d n).any (fun f => classShed d f) then d.setFg n { d.fg n with shed := false } else d) d

/-! ### Commands (FU_ registers and host commands) -/

/-- XFER, of the primary only. -/
def fuCmdXfer (d : Dev) (f : Nat) : Dev :=
  if fuValid d f ∧ fuInfg d f ∧ !d.fl FU_CFG_PRIO f then (groupXfer d (fuFg d f)).2 else d

/-! ### Every tick -/

/-- Phase B of one fuse: sense, matches, the curve and the model, T_fet, REG_WR on a change, presets and pending enables. -/
def fuPhaseB (d : Dev) (f : Nat) : Dev :=
  match chanOfFuse d f with
  | none => d
  | some c =>
    let s := d.chn c
    let x := d.fuz f
    let st := fuState d f
    let sense := chFlag d c flSense
    let d := if s.smp.has then setCond d CD_ENT_COND_DEGR c sense else d
    let d := if s.matched ∧ !x.matched then d.wr FU_STATUS_IMPL f 0 else d
    let d := d.setFuse f { x with matched := s.matched, dev := if s.matched ∧ !x.matched then 0 else x.dev }
    let d := if st ≠ fuIdle ∧ s.smp.has ∧ !sense then
        let y := d.fuz f
        let scale := clampN 64 128 (d.rd FU_CSCALE f)
        fuModel (d.setFuse f { y with acc := curveStep (curvePts d f) scale (fuX d c) y.acc }) f c
      else d
    let d := fuTemp d f c
    let y := d.fuz f
    let i := d.rd FU_LIM_IINST f
    let v := d.rd FU_INR_DVDT f
    let d := if st ≠ fuIdle ∧ y.sentI ≠ i then issueRegWr d c 0x0060 i else d
    let d := if st ≠ fuIdle ∧ y.sentD ≠ v then issueRegWr d c 0x0061 v else d
    let d := d.setFuse f { d.fuz f with sentI := i, sentD := v }
    let d := if !fuInfg d f ∧ !fuPortsw d f ∧ (d.fuz f).want ∧ (st = fuIdle ∨ st = fuOff) then fuStart d f else d
    let d := fuPreset d f c
    let d := match fuSlot d f with
      | some sl => d.wrS LS_SETPT sl (if fuState d f = fuRamp ∨ fuState d f = fuOn then vSrc d else 0)
      | none => d
    (d.setFv (0xA00 + f) (sat32 (chI d c).natAbs)).setFv (0xA40 + f) (d.fuz f).tfet

/-- The count of consecutive reports with SUPPLY = 1 (R221), with the report latched in this tick in it. -/
def fuSupply (d : Dev) (f : Nat) : Dev :=
  match chanOfFuse d f with
  | none => d
  | some c =>
    let x := d.fuz f
    if (d.chn c).fresh then d.setFuse f { x with supply := if chFlag d c flSupply then x.supply + 1 else 0 } else d

/-- Phase B of the fuse function: groups first, then the channels in ascending fuse index (R214, R221). -/
def fusesPhaseB (d : Dev) : Dev :=
  let d := forIx 64 (fun f d => if fuValid d f then fuSupply d f else d) d
  let d := forIx 16 (fun n d => changeTick (groupSelect d n) n) d
  forIx 64 (fun f d => if fuValid d f then fuPhaseB d f else d) d

/-- After phase D. -/
def fusesPhaseD (d : Dev) : Dev := forIx 64 (fun f d => if fuValid d f then fuRampDone d f else d) d

/-! ### The port switch and the ring (R208, R224) -/

/-- The service port's settings of the port switch; its state follows EN. -/
def psSet (d : Dev) (p : PortSw) : Dev :=
  let d := { d with ps := p }
  match (List.range 64).find? (fun f => fuValid d f && fuPortsw d f) with
  | none => d
  | some f =>
    let st := fuState d f
    if p.en ∧ (st = fuIdle ∨ st = fuOff) then
      match chanOfFuse d f with
      | some c =>
        let d := if health d c = 5 then fuRun d f c else d
        let d := fuEnterOn d f
        d.setFuse f { d.fuz f with acc := 0, enAt := some (applyEdge d c (d.cur + 1)) }
      | none => d
    else if !p.en ∧ st = fuOn then d.wr FU_STATUS_STATE f fuOff
    else d

/-- The standing command of a fuse or port-switch slot (R208, R212, R224). -/
def fuseStd (d : Dev) (f : Nat) : Cmd :=
  let st := fuState d f
  if fuPortsw d f then
    if st = fuIdle then { opc := 2 }
    else
      let on := d.ps.en && st == fuOn
      { opc := 0x31, arg := d.ps.vout % 65536 + d.ps.ilim % 65536 * 2 ^ 16 + on.toNat * 2 ^ 32 + d.ps.disch.toNat * 2 ^ 33 }
  else if st = fuIdle then { opc := 2 }
  else
    let v := match fuSlot d f with
      | some s => (clampI 0 65535 (rdiv (slotOut d s * 100) 65536)).toNat
      | none => 0
    let en := (st == fuRamp && (d.fuz f).preset) || st == fuOn
    { opc := 0x30, arg := v + d.rd FU_LIM_IINR f * 2 ^ 16 + en.toNat * 2 ^ 32 + (st == fuOn).toNat * 2 ^ 33 }

end Sys2Proof.Machine
end

