-- ==== Sys2Proof/Machine/Sequencer.lean ====
section
/-! DEFINITION. The sequencer and supervisor: steps, the sequence, requests, MR_N, FAULT_N and RSTOUT_N, rail
supervision (R226 to R243). -/

namespace Sys2Proof.Machine
open R

/-- SQ_STATUS.STATE codes: OFF. -/
def sqOff : Nat := 0
/-- UP. -/
def sqUp : Nat := 1
/-- ON. -/
def sqOn : Nat := 2
/-- DOWN. -/
def sqDown : Nat := 3
/-- MINOFF. -/
def sqMinoff : Nat := 4
/-- BACKOFF. -/
def sqBackoff : Nat := 5
/-- LOCKED. -/
def sqLocked : Nat := 6
/-- Step states of R230: IDLE. -/
def stIdle : Nat := 0
/-- UPWAIT. -/
def stUpwait : Nat := 1
/-- DONE. -/
def stDone : Nat := 2
/-- DNWAIT. -/
def stDnwait : Nat := 3
/-- FAILED. -/
def stFailed : Nat := 4
/-- SHED. -/
def stShed : Nat := 5
/-- HOSTOFF. -/
def stHostoff : Nat := 6

/-- The internal state of step `s`. -/
def Dev.stp (d : Dev) (s : Nat) : StepSt := Tbl.get {} d.seq.step s
/-- Step `s` changes. -/
def Dev.setStp (d : Dev) (s : Nat) (x : StepSt) : Dev := { d with seq := { d.seq with step := Tbl.set {} d.seq.step s x } }

/-- The state of the sequence. -/
def sqState (d : Dev) : Nat := d.rd SQ_STATUS_STATE
/-- The number of steps. -/
def nStep (d : Dev) : Nat := d.rd SQ_CFG_NSTEP
/-- The state of step `s` (R230). -/
def stepState (d : Dev) (s : Nat) : Nat := bitsOf (d.rd SQ_STEPST (s / 8)) (4 * (s % 8)) 4
/-- A step takes a state. -/
def setStep (d : Dev) (s st : Nat) : Dev := d.wr SQ_STEPST (s / 8) (setBits (d.rd SQ_STEPST (s / 8)) (4 * (s % 8)) 4 st)
/-- The kind of a step's target: 1 rail, 2 fuse, 3 feed group, 4 bus, 5 shelf (R226). -/
def stepKind (d : Dev) (s : Nat) : Nat := d.rd SQ_STEP_KIND s
/-- The number of a step's target. -/
def stepTgt (d : Dev) (s : Nat) : Nat := d.rd SQ_STEP_TGT s
/-- The step whose target is of a kind and number. -/
def stepOf (d : Dev) (kind num : Nat) : Option Nat :=
  firstIx (nStep d) (fun s => stepKind d s == kind && (stepTgt d s == num || decide (4 ≤ kind)))

/-- The sequence enters a state. -/
def sqGo (d : Dev) (st : Nat) : Dev :=
  { d.wr SQ_STATUS_STATE 0 st with seq := { d.seq with since := d.cur } }

/-- A record of the sequencer: CLASS 7, SRC a step. -/
def seqRec (d : Dev) (code s : Nat) (pay : List Nat) : Dev := d.recd code 7 s pay

/-- SQ_FLT of a fault. -/
def seqFlt (d : Dev) (s cause : Nat) (pd : Bool) : Dev :=
  ((d.wr SQ_FLT_STEP 0 s).wr SQ_FLT_CAUSE 0 cause).wrB SQ_FLT_PD 0 pd

/-- A source of FAULT_N holds or releases it (R240); SQ_STATUS.FAULT shows the sequencer's own, bits 5 to 8. -/
def faultSrc (d : Dev) (b : Nat) (on : Bool) : Dev :=
  let f := setBit d.seq.fault b on
  let rises := d.seq.fault == 0 && f != 0
  let d := { d with seq := { d.seq with fault := f } }
  let d := if rises then { d.alert TW_ALERT_FAULT with rise := setBit d.rise 2 true } else d
  (d.wrB SQ_STATUS_FAULT 0 (bitOf f 5 || bitOf f 6 || bitOf f 7 || bitOf f 8)).wrB GL_STATUS_FAULT 0 (f != 0)

/-- RSTOUT_N is asserted. -/
def rstAssert (d : Dev) : Dev :=
  { (d.wr SQ_STATUS_RSTREL 0 0).wr GL_STATUS_RSTOUT 0 1 with seq := { d.seq with rstAt := none } }

/-- A rail counter counts, and sets its bit of SQ_SAT at its maximum (R242); `k` numbers the counters in the table's
order. -/
def railCnt (d : Dev) (r : Reg) (n k : Nat) : Dev :=
  let d := d.inc r n
  if d.rd r n = 65535 then
    let q := match k / 2 with
      | 0 => SQ_SAT_0
      | 1 => SQ_SAT_1
      | _ => SQ_SAT_2
    d.wrBit q 0 (16 * (k % 2) + n) true
  else d

/-! ### Targets (R227) -/

/-- The target's class is shed. -/
def stepShed (d : Dev) (s : Nat) : Bool :=
  let t := stepTgt d s
  let sh := fun k => decide (k < 8) && d.bit BS_STATUS_SHED 0 k
  match stepKind d s with
  | 1 => sh (railClass d t)
  | 2 => classShed d t
  | 3 => (groupMembers d t).any (fun f => classShed d f)
  | _ => false

/-- The host request of a target that waits (R25): by kind, 1 rail, 2 fuse, 3 feed group, and number. -/
def pendOf (d : Dev) (kind num : Nat) : Option Bool :=
  match kind with
  | 1 => (d.rail num).pend
  | 2 => (d.fuz num).pend
  | 3 => (d.fg num).pend
  | _ => none

/-- The host request of a target waits, or waits no longer. -/
def setPend (d : Dev) (kind num : Nat) (p : Option Bool) : Dev :=
  match kind with
  | 1 => d.setRail num { d.rail num with pend := p }
  | 2 => d.setFuse num { d.fuz num with pend := p }
  | 3 => d.setFg num { d.fg num with pend := p }
  | _ => d

/-- The sequencer enables a step's target; a rail still in RAMPDN is enabled once it is OFF (R156). -/
def targetOn (d : Dev) (s : Nat) : Dev :=
  let t := stepTgt d s
  match stepKind d s with
  | 1 =>
    let d := railCnt d SQ_RAIL_STARTS t 0
    if railState d t = vrRampdn then setPend d 1 t (some true) else railEnable d t
  | 2 => fuEnable d t
  | 3 => groupEnable d t
  | 4 => busEnable d
  | 5 => shelfEnable d
  | _ => d

/-- The sequencer disables a step's target. -/
def targetOff (d : Dev) (s : Nat) : Dev :=
  let t := stepTgt d s
  match stepKind d s with
  | 1 => railDisable (setPend d 1 t none) t
  | 2 => fuDisable d t
  | 3 => groupDisable d t
  | 4 => busDisable d
  | 5 => shelfDisable d
  | _ => d

/-- The sequencer's rank-2 claim on a target that a step names: enabled in UPWAIT and DONE, disabled otherwise (R25, R227, R230). -/
def seqClaim (d : Dev) (kind num : Nat) : Option Bool :=
  (stepOf d kind num).map (fun s => stepState d s == stUpwait || stepState d s == stDone)

/-- The class of a target is shed, a rank-1 claim (R25, R203). -/
def kindShed (d : Dev) (kind num : Nat) : Bool :=
  match kind with
  | 1 => decide (railClass d num < 8) && d.bit BS_STATUS_SHED 0 (railClass d num)
  | 2 => classShed d num
  | _ => groupShed d num

/-- A target's own enable or disable. -/
def targetAct (d : Dev) (kind num : Nat) (on : Bool) : Dev :=
  match kind with
  | 1 => if on then railEnable d num else railDisable d num
  | 2 => if on then fuEnable d num else fuDisable d num
  | _ => if on then groupEnable d num else groupDisable d num

/-- A host request on a rail, fuse or feed group (R25): it acts where no higher claim stands against it, and waits otherwise; an ON
of a rail waits for OFF too (R156). A host ON ends a fuse's LOCKOUT in either case (R212). -/
def hostClaim (d : Dev) (kind num : Nat) (on : Bool) : Dev :=
  let d := if on then (match kind with
    | 2 => fuUnlock d num
    | 3 => groupUnlock d num
    | _ => d) else d
  let lost := (on && kindShed d kind num) || seqClaim d kind num == some (!on)
    || (on && kind == 1 && railState d num == vrRampdn)
  if lost then setPend d kind num (some on) else targetAct (setPend d kind num none) kind num on

/-- Host requests that waited are made again in every tick (R25). -/
def pendService (d : Dev) : Dev :=
  let again := fun (kind : Nat) (n : Nat) (d : Dev) => match pendOf d kind n with
    | some on => hostClaim d kind n on
    | none => d
  forIx 16 (again 3) (forIx 64 (again 2) (forIx 16 (again 1) d))

/-! ### Steps (R228 to R232) -/

/-- A channel is heard: its health is neither NOT_REPORTING nor QUARANTINED (R228). -/
def heard (d : Dev) (c : Nat) : Bool := health d c != 6 && health d c != 7

/-- The channels whose samples stand behind a function value (R115). -/
def valueChans (d : Dev) (idx : Nat) : List Nat :=
  if idx < 0x800 then
    let n := idx / 0x80
    match idx % 0x80 with
    | 0 => [railLead d n]
    | 4 => []
    | _ => railLead d n :: (activeHops d n).map (fun h => railLead d n + h)
  else if idx = 0x800 then busSources d
  else if idx = 0x801 then (sharers d).filterMap (fmChan d)
  else if idx < 0x900 then []
  else if idx = 0x900 then (closed d).filterMap (strChan d)
  else if idx = 0x901 then (legs d).filterMap (legChan d)
  else if 0xA00 ≤ idx ∧ idx < 0xA80 then (chanOfFuse d (idx % 64)).toList
  else []

/-- A function value that holds its last value, or has none, while no channel stands behind it. -/
def valueHeld (idx : Nat) : Bool := idx == 0x800 || idx == 0x900 || (decide (0xA00 ≤ idx) && decide (idx < 0xA80))

/-- The channels behind a function value are heard (R115, R228): no held sample and no held value stands in it. -/
def valueHeard (d : Dev) (idx : Nat) : Bool :=
  let l := valueChans d idx
  l.all (heard d) && !(valueHeld idx && l.isEmpty)

/-- The channels behind a selector of the INSEL coding are heard; a slot's output stands on what its own INSEL names. -/
def selHeard (d : Dev) : Nat → Nat → Bool
  | 0, _ => true
  | n + 1, sel => match sel / 8192 with
    | 1 => heard d (bitsOf sel 5 8)
    | 2 => selHeard d n (d.rd LS_INSEL (sel % 256))
    | 3 => valueHeard d (sel % 8192)
    | _ => true

/-- The channels behind a selector of the INSEL coding, a slot's output standing on its own INSEL. -/
def selChans (d : Dev) : Nat → Nat → List Nat
  | 0, _ => []
  | n + 1, sel => match sel / 8192 with
    | 1 => [bitsOf sel 5 8]
    | 2 => selChans d n (d.rd LS_INSEL (sel % 256))
    | 3 => valueChans d (sel % 8192)
    | _ => []

/-- The postmark of the newest sample behind a slot's input (R37); that of the tick where no sample is. -/
def slotPm (d : Dev) (s : Nat) : Nat :=
  match (selChans d 16 (d.rd LS_INSEL s)).map (fun c => (d.chn c).smp.pm) with
  | [] => d.curPm
  | p :: ps => ps.foldl max p

/-- The value of a step's source lies inside the window or below DTHR, its channels being heard (R228). -/
def stepTest (d : Dev) (s : Nat) (up : Bool) : Bool :=
  let src := d.rd SQ_STEP_SRC s
  if src / 8192 = 0 then true
  else
    let v := selValue d src
    let q := fun (r : Reg) => d.rdS r s * (2 ^ (4 + 4 * d.rd SQ_STEP_WSC s) : Nat)
    if !selHeard d 16 src then false
    else if up then decide (q SQ_STEP_WLO ≤ v ∧ v ≤ q SQ_STEP_WHI) else decide (v ≤ q SQ_STEP_DTHR)

/-- The step is under test: UPWAIT, or DNWAIT with its test. -/
def stepTesting (d : Dev) (s : Nat) : Bool :=
  stepState d s == stUpwait || (stepState d s == stDnwait && !(d.stp s).blind)

/-- The counts of R228 in phase C. -/
def stepCounts (d : Dev) : Dev :=
  forIx (nStep d) (fun s d =>
    if stepTesting d s then
      let x := d.stp s
      d.setStp s { x with cnt := if stepTest d s (stepState d s == stUpwait) then x.cnt + 1 else 0 }
    else d) d

/-- A step's test is complete. -/
def stepCompleteDue (d : Dev) (s : Nat) : Bool := stepTesting d s && decide (act1 (d.rd SQ_STEP_FILT s) ≤ (d.stp s).cnt)

/-- A step waits for its end in DOWN: DNWAIT, or FAILED in this power-down and waiting its TODN (R232). -/
def stepWaiting (d : Dev) (s : Nat) : Bool :=
  sqState d == sqDown && (stepState d s == stDnwait || (stepState d s == stFailed && (d.stp s).blind))

/-- A step's timeout is due (R228). -/
def stepTimeoutDue (d : Dev) (s : Nat) : Bool :=
  if stepState d s = stUpwait then d.due ((d.stp s).beg + d.rd SQ_STEP_TOUP s * 10) && !stepCompleteDue d s
  else if stepWaiting d s then d.due ((d.stp s).beg + d.rd SQ_STEP_TODN s * 10) && !stepCompleteDue d s
  else false

/-- The step that begins next, and the tick whose phase B may begin it: this one before phase C, else the next (R229). -/
def sqNext (d : Dev) (s : Nat) : Dev :=
  { d with seq := { d.seq with next := some (s, if d.inC then d.cur + 1 else d.cur) } }

/-- After a step that completes without a test, the next begins in the next tick (R229, R237). -/
def sqThen (d : Dev) (s : Nat) : Dev := { d with seq := { d.seq with next := some (s, d.cur + 1) } }

/-- ON is reached (SEQ_ON_REACHED, R231). -/
def seqOnReached (d : Dev) : Dev :=
  let d := sqGo d sqOn
  let d := { d with seq := { d.seq with next := none, rstAt := some (d.cur + d.rd SQ_CFG_RSTDLY * 1000) } }
  seqRec (d.ev SQ_EVT_ON) 0x0901 (d.rd SQ_STATUS_STEP) []

/-- The lowest step is idle (SEQ_DOWN_DONE, SEQ_LOCKOUT; R231, R232, R234): LOCKED after a failure with RCNT = NRTY, BACKOFF with REQ
on and RCNT < NRTY, and MINOFF otherwise. -/
def seqDownDone (d : Dev) : Dev :=
  let s := d.rd SQ_STATUS_STEP
  let d := { d with seq := { d.seq with next := none } }
  let d := if d.seq.pd then faultSrc (d.wr SQ_STATUS_PDFAULT 0 1) 7 true else d
  let why := d.seq.downWhy
  if why = 2 then faultSrc ((sqGo d sqLocked).ev SQ_EVT_LOCKOUT) 5 true
  else if why = 1 ∧ d.rd SQ_CTRL_NRTY = d.rd SQ_STATUS_RCNT then
    seqRec (faultSrc ((sqGo d sqLocked).ev SQ_EVT_LOCKOUT) 5 true) 0x0905 s []
  else if why = 1 ∧ d.fl SQ_STATUS_REQ ∧ d.rd SQ_STATUS_RCNT < d.rd SQ_CTRL_NRTY then seqRec (sqGo d sqBackoff) 0x0904 s []
  else seqRec (sqGo d sqMinoff) 0x0902 s []

/-- A step begins on the way down: the highest at or below `s` that is not IDLE or SHED (R231, R232). -/
def downFrom (d : Dev) (s : Nat) : Dev :=
  match ((List.range (s + 1)).filter (fun k => stepState d k != stIdle && stepState d k != stShed
      && !(stepState d k == stFailed && (d.stp k).blind))).getLast? with
  | none => seqDownDone d
  | some k =>
    let failed := stepState d k == stFailed
    let d := { d with seq := { d.seq with next := none } }
    let d := targetOff ((d.wr SQ_STATUS_STEP 0 k).setStp k { beg := d.cur, blind := failed }) k
    setStep d k stDnwait

/-- A step begins on the way up (R231); one that is SHED, or whose target is shed, completes at once (R237). -/
def upFrom (d : Dev) (s : Nat) : Dev :=
  if nStep d ≤ s then seqOnReached d
  else
    let d := { d with seq := { d.seq with next := none } }
    let d := (d.wr SQ_STATUS_STEP 0 s).setStp s { beg := d.cur }
    if stepShed d s ∨ stepState d s = stShed then sqThen (setStep d s stShed) (s + 1)
    else targetOn (setStep d s stUpwait) s

/-- The step that is due begins (STEP_BEGIN, R229). -/
def stepBegin (d : Dev) : Dev :=
  match d.seq.next with
  | some (s, t) =>
    if t ≤ d.cur then
      if sqState d = sqUp then upFrom d s
      else if sqState d = sqDown then downFrom d s
      else { d with seq := { d.seq with next := none } }
    else d
  | none => d

/-- STEP_BEGIN is due: the tick in hand is the one whose phase B the step belongs to. -/
def stepBeginDue (d : Dev) : Bool :=
  match d.seq.next with
  | some (_, t) => decide (t ≤ d.cur)
  | none => false

/-- A power-down starts (R231); `why` is 0 by request, 1 a failure, 2 one that ends in LOCKED. -/
def seqDownStart (d : Dev) (why : Nat) : Dev :=
  let d := rstAssert (sqGo d sqDown)
  let d := { d.wr SQ_STATUS_PDFAULT 0 0 with seq := { d.seq with downWhy := why, rstAt := none, pd := false, offTaken := false } }
  let d := forIx 32 (fun s d => d.setStp s { d.stp s with blind := false, pendOn := false }) d
  stepBegin (sqNext d (nStep d - 1))

/-- A failure of a step in UP, or in ON under FACT SEQ (SEQ_FAIL, R231, R233). -/
def seqFail (d : Dev) (s cause why : Nat) : Dev :=
  let d := setStep (targetOff d s) s stFailed
  let d := seqRec ((seqFlt d s cause false).ev SQ_EVT_FAIL) 0x0903 s []
  seqDownStart { d with seq := { d.seq with failStep := some s } } why

/-- A fault of a step while the sequence is ON (R233). -/
def stepFaultOn (d : Dev) (s cause : Nat) : Dev :=
  let fact := d.rd SQ_STEP_FACT s
  if fact = 0 ∨ 3 ≤ fact then seqFail d s cause 1
  else
    let d := setStep (targetOff d s) s stFailed
    let d := seqRec ((seqFlt d s cause false).ev SQ_EVT_FAIL) 0x0903 s []
    if fact = 1 then faultSrc d 6 true else d

/-- A fault or a timeout of a step in power-down (SEQ_PD_FAULT, R232). -/
def stepFaultDown (d : Dev) (s cause : Nat) : Dev :=
  let d := setStep d s stFailed
  let d := d.setStp s { d.stp s with blind := true }
  let d := if stepKind d s = 1 then railCnt d SQ_RAIL_PDF (stepTgt d s) 5 else d
  let d := ({ d with seq := { d.seq with pd := true } }.ev SQ_EVT_PDFAULT).ev SQ_EVT_FAIL
  seqRec (seqFlt d s cause true) 0x0906 s []

/-- A target fault of a step (TARGET_FAULT, R227, R231 to R233). -/
def stepFault (d : Dev) (s cause : Nat) : Dev :=
  let sq := sqState d
  let st := stepState d s
  if sq = sqUp ∧ (st = stUpwait ∨ st = stDone) then seqFail d s cause 1
  else if sq = sqOn ∧ (st = stUpwait ∨ st = stDone) then stepFaultOn d s cause
  else if sq = sqDown ∧ st = stDnwait ∧ !(d.stp s).blind then stepFaultDown d s cause
  else if sq = sqDown ∧ (st = stUpwait ∨ st = stDone) then setStep (targetOff d s) s stFailed
  else d

/-- A global fault (SEQ_GLOBAL_FAULT, R234). -/
def globalFault (d : Dev) : Dev :=
  let s := d.rd SQ_STATUS_STEP
  let d := seqRec ((seqFlt d s 5 (sqState d == sqDown)).ev SQ_EVT_GLOBAL) 0x0907 s []
  let d := faultSrc d 8 true
  if d.fl SQ_CTRL_GACT ∧ (sqState d = sqUp ∨ sqState d = sqOn) then seqDownStart d 2 else d

/-- The faults latched in this step are acted on (R227). -/
def seqService (d : Dev) : Dev :=
  let q := d.tfq
  forL q (fun e d =>
    let (kind, num, cause) := e
    if kind = 0 then globalFault d
    else match stepOf d kind num with
    | some s => stepFault d s cause
    | none => if cause = 3 then globalFault d else d) { d with tfq := [] }

/-- A step completes (STEP_COMPLETE, R228, R229). -/
def stepComplete (d : Dev) (s : Nat) : Dev :=
  if stepState d s = stUpwait then
    let d := setStep d s stDone
    if sqState d = sqUp then
      if d.seq.offTaken then seqDownStart d 0
      else if nStep d ≤ s + 1 then seqOnReached d
      else sqNext d (s + 1)
    else d
  else
    let d := setStep d s stIdle
    if s = 0 then seqDownDone d else sqNext d (s - 1)

/-- A step times out (STEP_TIMEOUT, R228, R231, R232). -/
def stepTimeout (d : Dev) (s : Nat) : Dev :=
  let x := d.stp s
  let sto := fun (d : Dev) =>
    let d := d.ev SQ_EVT_TIMEOUT
    if stepKind d s = 1 then railCnt d SQ_RAIL_STO (stepTgt d s) 3 else d
  if stepState d s = stUpwait then
    let d := sto d
    if sqState d = sqOn then stepFaultOn d s 1
    else seqFail d s 1 (if d.seq.offTaken then 0 else 1)
  else
    let d := if x.blind then (if stepState d s = stDnwait then setStep d s stIdle else d) else stepFaultDown (sto d) s 1
    let d := d.setStp s {}
    if s = 0 then seqDownDone d else sqNext d (s - 1)

/-! ### Requests (R235, R236) -/

/-- The sequence leaves OFF: RCNT 0, every step IDLE, SQ step 0 begins (R231, R237). -/
def seqStart (d : Dev) : Dev :=
  let d := (sqGo d sqUp).wr SQ_STATUS_RCNT 0 0
  let d := forIx 32 (fun s d => (setStep d s stIdle).setStp s {}) d
  upFrom { d with seq := { d.seq with failStep := none, offTaken := false } } 0

/-- The sequence acts on REQ where R231 names it. -/
def seqActReq (d : Dev) : Dev :=
  let st := sqState d
  if st = sqOff ∧ d.fl SQ_STATUS_REQ ∧ !d.fl SQ_STATUS_FORCE then seqStart d
  else if st = sqOn ∧ !d.fl SQ_STATUS_REQ then seqDownStart d 0
  else if st = sqUp ∧ !d.fl SQ_STATUS_REQ ∧ !d.seq.offTaken then
    if d.seq.next.isSome then seqDownStart d 0 else { d with seq := { d.seq with offTaken := true } }
  else if st = sqBackoff ∧ !d.fl SQ_STATUS_REQ then sqGo d sqMinoff
  else d

/-- A sequence request (SEQ_REQUEST, R235): refused, or latched for phase B, and recorded with its value, source and refusal.
Sources: 0 AUTO, 1 PA, 2 PB, 3 TWB, 4 SP, 5 MR_N; AUTO is applied before a dispatcher's request of the same tick. The answer
says whether it was refused. -/
def seqRequest (d : Dev) (on : Bool) (src : Nat) : Bool × Dev :=
  let refuse := on && (d.fl SQ_STATUS_FORCE || sqState d == sqLocked)
  let d := seqRec d 0x0900 (d.rd SQ_STATUS_STEP) [on.toNat, src, refuse.toNat]
  if refuse then (true, d.ev SQ_EVT_REFUSED)
  else if src = 0 ∧ d.seq.reqAt = some d.cur then (false, d)
  else (false, { d.wrB SQ_STATUS_REQ 0 on with seq := { d.seq with reqAt := some d.cur } })

/-- The request of a short press, as SHACT selects (R238). -/
def pressRequest (d : Dev) : Dev :=
  if !d.seq.press then d
  else
    let d := { d with seq := { d.seq with press := false } }
    match d.rd SQ_CTRL_SHACT with
    | 1 => (seqRequest d (!d.fl SQ_STATUS_REQ) 5).2
    | 2 => (seqRequest d true 5).2
    | 3 => (seqRequest d false 5).2
    | _ => d

/-- REQ is processed in phase B: the short press comes after the dispatcher's requests, and the value left decides (R235). -/
def seqRequests (d : Dev) : Dev := seqActReq (pressRequest d)

/-- STEP_BEGIN: REQ is processed first, and the step that is still due begins (R229, R235). -/
def stepBeginRow (d : Dev) : Dev := stepBegin (seqRequests d)

/-- STEPON (R236): whether it is refused, and its effect. -/
def seqStepOn (d : Dev) (s : Nat) : Bool × Dev :=
  let st := stepState d s
  if nStep d ≤ s ∨ sqState d ≠ sqOn ∨ !(st = stHostoff ∨ st = stFailed ∨ st = stShed) then (true, d.ev SQ_EVT_REFUSED)
  else if stepShed d s then (false, d.setStp s { d.stp s with pendOn := true })
  else (false, targetOn (setStep (d.setStp s { beg := d.cur }) s stUpwait) s)

/-- STEPOFF (R236). -/
def seqStepOff (d : Dev) (s : Nat) : Bool × Dev :=
  if nStep d ≤ s ∨ sqState d ≠ sqOn then (true, d.ev SQ_EVT_REFUSED)
  else (false, setStep ((targetOff d s).setStp s {}) s stHostoff)

/-- A host command that opens a target: through the sequencer in ON where a step names it (R236); otherwise a claim of rank 4. -/
def hostOff (d : Dev) (kind num : Nat) : Dev :=
  match stepOf d kind num with
  | some s => if sqState d = sqOn then (seqStepOff d s).2 else hostClaim d kind num false
  | none => hostClaim d kind num false

/-- A fuse, or the feed group it belongs to, as a target: kind and number. -/
def fuseTarget (d : Dev) (f : Nat) : Nat × Nat := if fuInfg d f then (3, fuFg d f) else (2, f)

/-- ON of a fuse or its group (FU.CMD.ON, FUSE_ON). -/
def fuCmdOn (d : Dev) (f : Nat) : Dev :=
  if !fuValid d f ∨ fuPortsw d f then d else hostClaim d (fuseTarget d f).1 (fuseTarget d f).2 true

/-- OFF of a fuse or its group (FU.CMD.OFF, FUSE_OFF). -/
def fuCmdOff (d : Dev) (f : Nat) : Dev :=
  if !fuValid d f ∨ fuPortsw d f then d else hostOff d (fuseTarget d f).1 (fuseTarget d f).2

/-- A host ON of a rail: that of its step where one names it (R236, R291), otherwise a claim of rank 4. -/
def hostRailOn (d : Dev) (n : Nat) : Bool × Dev :=
  match stepOf d 1 n with
  | some s => seqStepOn d s
  | none => (false, hostClaim d 1 n true)

/-- CLRFLT releases the FAULT_N sources whose cause has ended (R240). -/
def seqClrflt (d : Dev) : Dev :=
  let isolated := sqState d == sqOn && (List.range (nStep d)).any (fun s => stepState d s == stFailed && d.rd SQ_STEP_FACT s == 1)
  let started := d.rd PM_STATUS_STATE != 0
  let rel := fun (d : Dev) b (ok : Bool) => if ok then faultSrc d b false else d
  let d := rel d 1 true
  let d := rel (rel d 2 started) 3 started
  let d := rel d 4 true
  let d := rel d 6 !isolated
  let d := rel d 7 (sqState d != sqDown)
  let d := rel d 8 (!(sqState d == sqDown && d.seq.downWhy == 2))
  let d := rel d 5 true
  if sqState d = sqLocked then sqGo d sqMinoff else d

/-- CLRCNT (R242). -/
def seqClrcnt (d : Dev) : Dev :=
  d.clrRegs [SQ_RAIL_STARTS, SQ_RAIL_UV, SQ_RAIL_OV, SQ_RAIL_STO, SQ_RAIL_RETRY, SQ_RAIL_PDF, SQ_SAT_0, SQ_SAT_1, SQ_SAT_2]

/-! ### Timers (R231, R240) -/

/-- MINOFF_END is due. -/
def minoffDue (d : Dev) : Bool := sqState d == sqMinoff && d.due (d.seq.since + d.rd1 SQ_TIME_MINOFF * 1000)

/-- MINOFF_END: OFF; REQ acts in phase B of the next tick (R235), and a SHED step has passed through OFF (R237). -/
def minoffEnd (d : Dev) : Dev :=
  forIx 32 (fun s d => if stepState d s = stShed then setStep d s stIdle else d) ((sqGo d sqOff).ev SQ_EVT_OFF)

/-- SEQ_RETRY is due. -/
def seqRetryDue (d : Dev) : Bool :=
  let b := d.rd1 SQ_TIME_BOFF * 1000 * (if d.fl SQ_CTRL_DOUBLE then 2 ^ min (d.rd SQ_STATUS_RCNT) 7 else 1)
  sqState d == sqBackoff && d.due (d.seq.since + b)

/-- SEQ_RETRY (R231, R242): a step that the power-down left FAILED starts over; one in SHED stays so (R237). -/
def seqRetry (d : Dev) : Dev :=
  let d := forIx (nStep d) (fun s d => if stepState d s = stFailed then setStep d s stIdle else d) d
  let d := { d with seq := { d.seq with offTaken := false } }
  let d := ((sqGo d sqUp).wr SQ_STATUS_RCNT 0 (incSat 3 (d.rd SQ_STATUS_RCNT))).ev SQ_EVT_RETRY
  let d := match d.seq.failStep with
    | some s => if stepKind d s = 1 then railCnt d SQ_RAIL_RETRY (stepTgt d s) 4 else d
    | none => d
  stepBegin (sqNext d 0)

/-- RSTOUT_RELEASE is due (R240). -/
def rstDue (d : Dev) : Bool :=
  match d.seq.rstAt with
  | some t => sqState d == sqOn && d.due t
  | none => false

/-- RSTOUT_RELEASE. -/
def rstRelease (d : Dev) : Dev :=
  { (d.wr SQ_STATUS_RSTREL 0 1).wr GL_STATUS_RSTOUT 0 0 with seq := { d.seq with rstAt := none } }

/-! ### MR_N (R238, R239) -/

/-- FORCET in seconds. -/
def forcet (d : Dev) : Nat := max 2 (d.rd SQ_CTRL_FORCET)

/-- A short press (R238); its request is applied in phase B (R235). -/
def mrShort (d : Dev) : Dev :=
  let d := seqRec (d.ev SQ_EVT_MRSHORT) 0x090A (d.rd SQ_STATUS_STEP) []
  { d with seq := { d.seq with press := true } }

/-- A long press (R238). -/
def mrLong (d : Dev) : Dev := seqRec (d.ev SQ_EVT_MRLONG) 0x090B (d.rd SQ_STATUS_STEP) []

/-- The press reaches FORCET, and the control plane's first tick acts on it (MR_FORCEOFF, R231, R239). -/
def mrForceoff (d : Dev) : Dev :=
  let d := { (d.wr SQ_STATUS_FORCE 0 1).ev SQ_EVT_FORCEOFF with pw := { d.pw with forcePend := false } }
  let d := forIx (nStep d) (fun s d => setStep ((targetOff d s).setStp s {}) s stIdle) d
  let d := seqRec d 0x090C (d.rd SQ_STATUS_STEP) []
  let d := { d with seq := { d.seq with next := none } }
  rstAssert (sqGo d sqMinoff)

/-- A force-off that came where no control plane ran is acted on in phase A of its first tick (R239). -/
def forceTick (d : Dev) : Dev :=
  if !d.pw.forcePend then d
  else if d.fl SQ_STATUS_FORCE then mrForceoff d else { d with pw := { d.pw with forcePend := false } }

/-- The release of MR_N clears FORCE (R239). -/
def forceClear (d : Dev) : Dev := d.wr SQ_STATUS_FORCE 0 0

/-- The channel belongs to a step's target. -/
def stepOwns (d : Dev) (c : Nat) : Bool :=
  match roleOf d c with
  | 1 | 2 => (stepOf d 1 (d.rd CD_ENT_OWNN c)).isSome
  | 3 => (stepOf d 2 (d.rd CD_ENT_UNIT c)).isSome || (d.rd CD_ENT_OWNK c == 2 && (stepOf d 3 (d.rd CD_ENT_OWNN c)).isSome)
  | 5 | 6 => (stepOf d 5 0).isSome
  | 7 => (stepOf d 4 0).isSome
  | _ => false

/-- The off command that FORCE substitutes in a step target's slot (R239). -/
def forceSub (d : Dev) (c : Nat) : Option Cmd :=
  if d.fl SQ_STATUS_FORCE ∧ stepOwns d c then
    match roleOf d c with
    | 3 =>
      let f := d.rd CD_ENT_UNIT c
      some { opc := 0x30, arg := d.rd FU_LIM_IINR f * 2 ^ 16 }
    | 5 => some { opc := 0x48, arg := d.rd BS_STR_IMAX (d.rd CD_ENT_UNIT c) * 2 ^ 16 + d.rd BS_RSV_VMIN * 2 ^ 32 }
    | _ => some { opc := 2 }
  else none

/-! ### Sheds (R203, R237) -/

/-- The sheds asked for in this step: fuses, rails, and the steps whose targets they are. -/
def shedService (d : Dev) : Dev :=
  let set := d.bs.shedReq
  if set = 0 then d
  else
    let d := shedFuses { d with bs := { d.bs with shedReq := 0 } } set
    let d := forIx 16 (fun n d =>
      if railConf d n ∧ railClass d n < 8 ∧ bitOf set (railClass d n) then railDisable d n else d) d
    forIx (nStep d) (fun s d =>
      let st := stepState d s
      if st ≠ stIdle ∧ st ≠ stShed ∧ stepShed d s then
        let waits := stepWaiting d s
        let d := setStep d s stShed
        if sqState d = sqUp ∧ st = stUpwait then
          if d.seq.offTaken then seqDownStart d 0
          else if nStep d ≤ s + 1 then seqOnReached d else sqThen d (s + 1)
        else if sqState d = sqDown ∧ waits then
          if s = 0 then seqDownDone d else sqThen d (s - 1)
        else d
      else d) d

/-- STEPON requests that waited for a shed to end. -/
def stepPendOn (d : Dev) : Dev :=
  forIx (nStep d) (fun s d =>
    if (d.stp s).pendOn ∧ !stepShed d s then
      let d := d.setStp s { d.stp s with pendOn := false }
      if sqState d = sqOn ∧ (stepState d s = stShed ∨ stepState d s = stHostoff ∨ stepState d s = stFailed) then
        targetOn (setStep (d.setStp s { beg := d.cur }) s stUpwait) s
      else d
    else d) d

/-! ### Rail supervision (R241) -/

/-- V_out of rail `n` lies beyond SUV, or beyond SOV for `ov`. -/
def supBeyond (d : Dev) (n : Nat) (ov : Bool) : Bool :=
  let lim := d.rd (if ov then SQ_RAIL_SOV else SQ_RAIL_SUV) n
  let v := chV d (railLead d n)
  decide (lim ≠ 0) && (if ov then decide (mV lim < v) else decide (v < mV lim))

/-- The supervision counts of phase C. -/
def supCounts (d : Dev) : Dev :=
  forIx 16 (fun n d => forIx 2 (fun o d =>
    let k := n * 2 + o
    let (c, e) := Tbl.get (0, false) d.seq.sup k
    let x := if railState d n = vrOn ∧ supBeyond d n (o == 1) then (c + 1, e) else (0, false)
    { d with seq := { d.seq with sup := Tbl.set (0, false) d.seq.sup k x } }) d) d

/-- SUPERVISION_ENTRY is due. -/
def supDue (d : Dev) (n : Nat) (ov : Bool) : Bool :=
  let (c, e) := Tbl.get (0, false) d.seq.sup (n * 2 + ov.toNat)
  decide (d.rd1 SQ_CFG_SFILT ≤ c) && !e

/-- SUPERVISION_ENTRY (RAIL_UV, RAIL_OV; R241). -/
def supEntry (d : Dev) (n : Nat) (ov : Bool) : Dev :=
  let k := n * 2 + ov.toNat
  let (c, _) := Tbl.get (0, false) d.seq.sup k
  let d := { d with seq := { d.seq with sup := Tbl.set (0, false) d.seq.sup k (c, true) } }
  let d := if ov then railCnt d SQ_RAIL_OV n 2 else railCnt d SQ_RAIL_UV n 1
  let d := (d.ev SQ_EVT_SUPV).recd (if ov then 0x0909 else 0x0908) 2 n []
  if d.fl (if ov then SQ_RAIL_SOV_F else SQ_RAIL_SUV_F) n then d.tfault 1 n 4 else d

end Sys2Proof.Machine
end

