-- ==== Sys2Proof/Machine/Governor.lean ====
section
/-! DEFINITION. The budget governor: measured power, caps, throttle outputs, the charge limit and the zone grants
(R244 to R255). -/

namespace Sys2Proof.Machine
open R

/-- n(V × I) in Q16.16 W (R244). -/
def power (v i : Int) : Int := sat32 (rdiv (v * i) 65536)

/-- P_hub (R244). -/
def pHub (d : Dev) : Int :=
  let f := (sharers d).map (fun i => match fmChan d i with
    | some c => power (chV d c) (chI d c)
    | none => 0)
  let l := (legs d).map (fun k => match legChan d k with
    | some c => power (chV d c) (max 0 (chI d c))
    | none => 0)
  sat32 ((f ++ l).foldl (· + ·) 0)

/-- P_chg (R244). -/
def pChg (d : Dev) : Int :=
  sat32 (((legs d).map (fun k => match legChan d k with
    | some c => power (chV d c) (max 0 (-(chI d c)))
    | none => 0)).foldl (· + ·) 0)

/-- P_rail(n) (R244). -/
def pRail (d : Dev) (n : Nat) : Int := if railState d n = vrOff then 0 else power (d.fv (0x80 * n)) (d.fv (0x80 * n + 1))

/-- P_fg(n) (R244). -/
def pFg (d : Dev) (n : Nat) : Int :=
  match groupSel d n with
  | some f => (match chanOfFuse d f with
    | some c => power (chV d c) (chI d c)
    | none => 0)
  | none => 0

/-- The configuration word of a cap (R245, R255): 0 hub, 1 to 16 rails, 17 to 32 groups. -/
def capWord (d : Dev) (k : Nat) : Nat :=
  if k = 0 then d.rd CP_HUB_CAPW + d.rd CP_HUB_K * 2 ^ 16 + d.rd CP_HUB_THRSEL * 2 ^ 20 + d.rd CP_HUB_THR_EN * 2 ^ 22
    + d.rd CP_HUB_HYST * 2 ^ 24
  else if k ≤ 16 then d.rd CP_RAIL (k - 1) else d.rd CP_FG (k - 17)
/-- CAPW in force: HUCAP for the hub cap in hold-up (R250). -/
def capW (d : Dev) (k : Nat) : Nat :=
  if k = 0 ∧ d.fl CP_STATUS_HUHUB then d.rd CP_HUCAP_HUCAP else bitsOf (capWord d k) 0 16
/-- LIMIT of a cap. -/
def capLimit (d : Dev) (k : Nat) : Int := (capW d k : Int) * 65536
/-- LREL of a cap. -/
def capLrel (d : Dev) (k : Nat) : Int := rdiv (capLimit d k * (256 - bitsOf (capWord d k) 24 8 : Nat)) 256

/-- A cap's average. -/
def capAvg (d : Dev) (k : Nat) : Int :=
  if k = 0 then d.rdS CP_PHUB else if k ≤ 16 then d.rdS CP_PRAIL (k - 1) else d.rdS CP_PFG (k - 17)
/-- A cap's average changes. -/
def setCapAvg (d : Dev) (k : Nat) (x : Int) : Dev :=
  if k = 0 then d.wrS CP_PHUB 0 x else if k ≤ 16 then d.wrS CP_PRAIL (k - 1) x else d.wrS CP_PFG (k - 17) x
/-- A cap is asserted. -/
def capOn (d : Dev) (k : Nat) : Bool :=
  if k = 0 then d.fl CP_ASSERT_HUB else if k ≤ 16 then d.bit CP_ASSERT2_RAIL 0 (k - 1) else d.bit CP_ASSERT2_FG 0 (k - 17)
/-- A cap asserts or releases. -/
def setCapOn (d : Dev) (k : Nat) (b : Bool) : Dev :=
  if k = 0 then d.wrB CP_ASSERT_HUB 0 b else if k ≤ 16 then d.wrBit CP_ASSERT2_RAIL 0 (k - 1) b
  else d.wrBit CP_ASSERT2_FG 0 (k - 17) b
/-- CLASS and SRC of a cap's records. -/
def capSrc (k : Nat) : Nat × Nat := if k = 0 then (0, 6) else if k ≤ 16 then (2, k - 1) else (4, k - 17)

/-- The postmark of the newest sample behind a cap's power (R37). -/
def capPm (d : Dev) (k : Nat) : Nat :=
  if k = 0 then busPm d
  else if k ≤ 16 then railPm d (k - 1)
  else match groupSel d (k - 17) with
    | some f => (match chanOfFuse d f with
      | some c => (d.chn c).smp.pm
      | none => d.curPm)
    | none => d.curPm

/-- The fast path for one cap with its present power (CAP_EXCURSION, R245, R246). -/
def capTick (d : Dev) (k : Nat) (p : Int) : Dev :=
  let avg := if capW d k = 0 then 0
    else sat32 (capAvg d k + rdiv (p - capAvg d k) (2 ^ min 10 (bitsOf (capWord d k) 16 4) : Nat))
  let d := setCapAvg d k avg
  let n := if capOn d k ∧ avg ≤ capLrel d k then Tbl.get 0 d.gov.rel k + 1 else 0
  let d := { d with gov := { d.gov with rel := Tbl.set 0 d.gov.rel k n } }
  if capW d k ≠ 0 ∧ capLimit d k < avg ∧ !capOn d k then
    let d := setCapOn d k true
    let d := if k = 0 then d.ev CP_EVT_HUB else if k ≤ 16 then d.ev CP_EVT_RAIL else d.ev CP_EVT_FG
    d.recAt (capPm d k) 0x0A00 (capSrc k).1 (capSrc k).2 []
  else d

/-- CAP_RELEASE is due (R246). -/
def capReleaseDue (d : Dev) (k : Nat) : Bool := capOn d k && decide (d.rd1 CP_REL_REL ≤ Tbl.get 0 d.gov.rel k)

/-- Throttle output `k` has an active source (R247). -/
def throtSource (d : Dev) (k : Nat) : Bool :=
  (List.range 33).any (fun c => capOn d c && bitOf (capWord d c) 22 && bitsOf (capWord d c) 20 2 == k)
  || (List.range 16).any (fun n => d.fl VR_STATUS_THR n && d.fl VR_CFG_THR_EN n && d.rd VR_CFG_THRSEL n == k)
  || (d.fl FD_STATUS_CAP && d.fl CP_CTRL_BUS_EN && d.rd CP_CTRL_BUSSEL == k)
  || d.bit CP_FORCE 0 k || (List.range 4).any (fun s => bitOf d.gov.req (4 * s + k))

/-- The mode of pin `k` (R249). -/
def pinMode (d : Dev) (k : Nat) : Nat := bitsOf (d.rd CP_PIN_MODE) (2 * k) 2

/-- The device drives pin `k` low: a throttle output with no source, or a GPIO output whose OUT bit is 0 (R248, R249). -/
def pinLow (d : Dev) (k : Nat) : Bool :=
  d.gov.driven && ((pinMode d k == 0 && !throtSource d k) || (pinMode d k == 1 && !d.bit CP_GPIO_OUT 0 k))

/-- The pins with mode 0, which alone CP_FORCE and the throttle commands act on (R249). -/
def throtPins (d : Dev) : List Nat := (List.range 4).filter (fun k => pinMode d k == 0)

/-- THROT_UPDATE (R247 to R249): each throttle output follows its sources; undriven pins read as asserted. -/
def throtUpdate (d : Dev) : Dev :=
  let d := { d with gov := { d.gov with low := maskOf ((List.range 4).filter (pinLow d)) } }
  let d := d.wr CP_STATUS_THR 0 (maskOf ((throtPins d).filter (fun k => !bitOf d.gov.low k)))
  let d := (d.wrB CP_ASSERT_BUS 0 (d.fl FD_STATUS_CAP)).wrB CP_ASSERT_RAILCAP 0
    ((List.range 16).any (fun n => d.fl VR_STATUS_THR n))
  d.wrB CP_ASSERT_FORCE 0 ((throtPins d).any (fun k => d.bit CP_FORCE 0 k) || d.gov.req != 0)

/-- CAP_RELEASE (R246, R247). -/
def capRelease (d : Dev) (k : Nat) : Dev :=
  let d := setCapOn { d with gov := { d.gov with rel := Tbl.set 0 d.gov.rel k 0 } } k false
  throtUpdate (d.recAt (capPm d k) 0x0A01 (capSrc k).1 (capSrc k).2 [])

/-- The hub cap's limit follows TAKEN and READY (HOLDUP_CAP, R250). -/
def holdupCap (d : Dev) : Dev :=
  if d.fl BS_STATUS_TAKEN then d.wr CP_STATUS_HUHUB 0 1
  else if shelfState d = bsReady then d.wr CP_STATUS_HUHUB 0 0
  else d

/-- Phase B of the governor: powers, caps and the frame's sums (R244, R245, R251). -/
def govPhaseB (d : Dev) : Dev :=
  let d := holdupCap d
  let h := pHub d
  let c := pChg d
  let d := capTick d 0 h
  let d := forIx 16 (fun n d => capTick d (1 + n) (pRail d n)) d
  let d := forIx 16 (fun n d => capTick d (17 + n) (pFg d n)) d
  let fg := forIx 16 (fun n t => Tbl.upd 0 t n (fun x => x + pFg d n)) d.gov.fg
  { d with gov := { d.gov with hub := d.gov.hub + h, chg := d.gov.chg + c, vbus := d.gov.vbus + d.rdS FD_VBUS, fg := fg,
                               ticks := d.gov.ticks + 1 } }

/-- The groups that take part in granting (R252). -/
def granting (d : Dev) : List Nat :=
  (List.range 16).filter (fun n => d.rd CP_GW_GW n != 0 && (d.fg n).en && !(groupMembers d n).any (fun f => classShed d f))

/-- The policy of R251 and R252 on the means of the frame that ends. -/
def govPolicy (d : Dev) : GovPlan :=
  let t : Int := max 1 d.gov.ticks
  let hub := rdiv d.gov.hub t
  let chg := rdiv d.gov.chg t
  let vb := rdiv d.gov.vbus t
  let fg := fun n => rdiv (Tbl.get 0 d.gov.fg n) t
  let lrel := capLrel d 0
  let igov := if vb < 65536 then 0 else max 0 (rdiv ((lrel - (hub - chg)) * 65536) vb)
  let gs := granting d
  let gmin := gs.foldl (fun a n => a + d.rd CP_GW_GMIN n) 0
  let gw := gs.foldl (fun a n => a + d.rd CP_GW_GW n) 0
  let h := lrel / 65536 - (hub - gs.foldl (fun a n => a + fg n) 0) / 65536
  let isShort := capW d 0 != 0 && decide (h ≤ gmin)
  let grant := fun n =>
    if !gs.contains n then 0
    else
      let cap := bitsOf (d.rd CP_FG n) 0 16
      if capW d 0 = 0 then (if cap = 0 then 65530 else cap)
      else
        let g : Nat := if h ≤ gmin then d.rd CP_GW_GMIN n * (max h 0).toNat / max 1 gmin
          else d.rd CP_GW_GMIN n + (h - gmin).toNat * d.rd CP_GW_GW n / max 1 gw
        let g := if cap = 0 then g else min g cap
        min 65530 (10 * (g / 10))
  { igov := sat32 igov, grants := (List.range 16).map grant, head := h, isShort := isShort, pm := d.curPm }

/-- A grant applies and is issued where R253 says so (CAP_GRANT). -/
def applyGrant (d : Dev) (p : GovPlan) (n : Nat) : Dev :=
  let g := p.grants.getD n 0
  let was := d.rd CP_GRANT n
  let d := d.wr CP_GRANT n g
  let last := Tbl.get none d.gov.issued n
  let issue := match last with
    | some (v, k) => decide (d.rd CP_GPOL_GDEAD ≤ ((g : Int) - v).natAbs) || decide (d.rd1 CP_GPOL_GREF ≤ k + 1) || (g == 0 && was != 0)
    | none => if g = 0 then was != 0 else decide (d.rd CP_GPOL_GDEAD ≤ g)
  let x := if issue then some (g, 0) else last.map (fun t => (t.1, t.2 + 1))
  let d := { d with gov := { d.gov with issued := Tbl.set none d.gov.issued n x } }
  if issue then
    (d.ev CP_EVT_GRANT).recd 0x0A03 4 n (le 2 g ++ le 4 (ofS 32 (satS 32 p.head)) ++ [p.isShort.toNat] ++ le 8 p.pm)
  else d

/-- The governor at a frame boundary (GOVERNOR_POLICY, CAP_SHORT; R248, R251 to R254). -/
def govFrame (d : Dev) : Dev :=
  let d := if d.fl GL_STATUS_MHALT then { d with gov := { d.gov with plan := none } }
    else
      let d := match d.gov.plan with
        | some p =>
          let d := d.wrS CP_ICHG 0 p.igov
          let d := if p.isShort ∧ !d.fl CP_STATUS_SHORT then
              ((d.wr CP_STATUS_SHORT 0 1).ev CP_EVT_SHORT).recd 0x0A02 0 6 []
            else d.wrB CP_STATUS_SHORT 0 p.isShort
          forIx 16 (fun n d => applyGrant d p n) d
        | none => d
      { d with gov := { d.gov with plan := some (govPolicy d) } }
  let begins := match d.gov.from_ with
    | some t => decide (t < d.cur)
    | none => false
  { d with gov := { d.gov with hub := 0, chg := 0, vbus := 0, fg := [], ticks := 0, driven := d.gov.driven || begins } }

/-- A configuration has applied, or a wake has reached full service: the pins are driven from the next frame boundary on (R248). -/
def govDrive (d : Dev) : Dev := { d with gov := { d.gov with cfg := true, from_ := some d.cur } }

/-- A host's throttle request for an output starts or ends (R247). -/
def throtReq (d : Dev) (src out : Nat) (on : Bool) : Dev :=
  throtUpdate { d with gov := { d.gov with req := setBit d.gov.req (4 * src + out) on } }

end Sys2Proof.Machine
end

