-- ==== Sys2Proof/Machine/Telemetry.lean ====
section
/-! DEFINITION. Telemetry: averages, held extremes, energy and snapshots (R256 to R266). -/

namespace Sys2Proof.Machine
open R

/-- A channel in the telemetry engine. -/
def Dev.tc (d : Dev) (c : Nat) : TelCh := Tbl.get {} d.tm.ch c
/-- A channel in the telemetry engine changes. -/
def Dev.setTc (d : Dev) (c : Nat) (x : TelCh) : Dev := { d with tm := { d.tm with ch := Tbl.set {} d.tm.ch c x } }

/-- V, I, P and T in force for a channel (R256); all 0 where no sample is in force. -/
def telNow (d : Dev) (c : Nat) : Quad :=
  let s := (d.chn c).tel
  if s.has then
    let r := roleOf d c
    let v := scaleV r s.v
    let i := scaleI r s.i
    { v := v, i := i, p := power v i, t := scaleT s.t }
  else {}

/-- Sums grow by the values in force. -/
def Quad.acc (a b : Quad) (held : Bool) : Quad :=
  { v := a.v + b.v, i := a.i + b.i, p := a.p + b.p, t := a.t + b.t, held := a.held + held.toNat }

/-- Averages of sums over `n` ticks (R257). -/
def Quad.avg (a : Quad) (n : Nat) : Quad :=
  let q := fun x => rdiv x (max 1 n)
  { v := q a.v, i := q a.i, p := q a.p, t := q a.t, held := a.held }

/-- The averaging exponent of a role (R257). -/
def telK (d : Dev) (role : Nat) : Nat :=
  min 20 (match role with
    | 1 => d.rd TM_AVGK0_PH
    | 2 => d.rd TM_AVGK0_LEAD
    | 3 => d.rd TM_AVGK0_FUSE
    | 4 => d.rd TM_AVGK0_PSW
    | 5 => d.rd TM_AVGK1_STR
    | 6 => d.rd TM_AVGK1_LEG
    | _ => d.rd TM_AVGK1_FM)

/-- The values the eight holds follow, in the order of TM_PK_VMAX to TM_PK_TMIN. -/
def Quad.hold (q : Quad) (i : Nat) : Int :=
  match i / 2 with
  | 0 => q.v
  | 1 => q.i
  | 2 => q.p
  | _ => q.t

/-- A hold takes the value in force if it is empty or the value is beyond it (R258). -/
def holdStep (i : Nat) (h : Option Int) (x : Int) : Option Int :=
  match h with
  | none => some x
  | some y => some (if i % 2 = 0 then max y x else min y x)

/-- 2^64 − 1 µJ in the accumulators' units. -/
def energyMax : Nat := (2 ^ 64 - 1) * 65536

/-- An accumulator of the hub takes a power of one tick exactly, within 0 and its greatest value (R259); a power below 0 lessens
it, no further than 0 (DESIGN CHOICE, log entry 85). -/
def energyAdd (e : Nat) (p : Int) : Nat := min energyMax ((e : Int) + p).toNat

/-- One channel in phase B (R256 to R259, R261). -/
def telChan (d : Dev) (c : Nat) : Dev :=
  let x := d.tc c
  let q := telNow d c
  let s := d.chn c
  let held := !(s.fresh && s.tel.has)
  let t := d.rd TB_TICK
  let k := telK d (roleOf d c)
  let x := if x.k = k then x else { x with k := k, running := false, sum := {} }
  let x := if t % 2 ^ k = 0 then { x with running := true, sum := {} } else x
  let x := if x.running then { x with sum := x.sum.acc q held } else x
  let x := if x.running ∧ (t + 1) % 2 ^ k = 0 then { x with done := some (x.sum.avg (2 ^ k)), running := false, sum := {} } else x
  let pk := forIx 40 (fun i t => Tbl.upd none t i (fun h => holdStep i h (q.hold (i % 8)))) x.pk
  d.setTc c { x with pk := pk,
                     eout := if 0 < q.p then min energyMax (x.eout + q.p.natAbs) else x.eout,
                     ein := if q.p < 0 then min energyMax (x.ein + q.p.natAbs) else x.ein,
                     snap := x.snap.acc q held, seen := x.seen || s.tel.has, stale := held }

/-- A channel whose role a commit took away gives its window up. -/
def telIdle (d : Dev) (c : Nat) : Dev :=
  let x := d.tc c
  if x.running then d.setTc c { x with running := false, sum := {} } else d

/-- Phase B of the telemetry engine. -/
def telPhaseB (d : Dev) : Dev :=
  let d := forIx 256 (fun c d => if roleOf d c ≠ 0 then telChan d c else telIdle d c) d
  let h := pHub d
  let g := pChg d
  let m := d.tm
  { d with tm := { m with ehub := energyAdd m.ehub h, echg := energyAdd m.echg g,
                          hub := m.hub + h, chg := m.chg + g, vbus := m.vbus + d.rdS FD_VBUS } }

/-- A window has completed and is not shown yet (R257). -/
def avgDue (d : Dev) (c : Nat) : Bool := (d.tc c).done.isSome

/-- AVG_WINDOW (R257). -/
def avgWindow (d : Dev) (c : Nat) : Dev :=
  let x := d.tc c
  match x.done with
  | some q => d.setTc c { x with shown := q, done := none }
  | none => d

/-! ### Snapshots (R261 to R264) -/

/-- A code of a signed Q16.16 value, 4 bytes. -/
def q4 (x : Int) : List Nat := le 4 (ofS 32 (sat32 x))

/-- The source postmark of a ring at a boundary, from the postmarks up to it, newest first (R262); in SPLIT that of the outbound
header whose reports are the first to be latched at or after the boundary (R90). -/
def srcPm (d : Dev) (r tick : Nat) (hist : List Nat) : Nat :=
  if ringState d r = rgRun then hist.getD (d.rd RG_LAT_L r) 0
  else match (d.rg r).splitT with
    | some t =>
      let k := (tick + 12 - t % 12) % 12
      if ringUp d r then hist.getD (if k = 0 then 12 else k) 0 else 0
    | none => 0

/-- The hub entry (R262). -/
def hubEntry (d : Dev) (npart snap win : Nat) : List Nat :=
  let m := d.tm
  let h := d.tb.pm :: d.tb.hist
  let av := fun x => rdiv x (max 1 win)
  fit 256 ([1, 0, npart, m.part.toNat] ++ le 4 snap ++ le 4 (d.rd TM_SKIP) ++ le 4 win ++ le 8 (m.hist.getD 0 0) ++ le 8 d.tb.pm
    ++ ((List.range 8).map (fun r => le 8 (srcPm d r m.start m.hist))).flatten
    ++ ((List.range 8).map (fun r => le 8 (srcPm d r d.tb.now h))).flatten
    ++ q4 (av m.hub) ++ q4 (av m.chg) ++ q4 (av m.vbus) ++ le 8 (m.ehub / 65536) ++ le 8 (m.echg / 65536))

/-- A channel's record (R263). -/
def chanRecord (d : Dev) (win c : Nat) : List Nat :=
  let x := d.tc c
  let a := x.snap.avg win
  let h := fun i => (Tbl.get none x.pk (32 + i)).getD 0
  [c, health d c % 8 + (!x.seen).toNat * 8] ++ le 2 (min x.snap.held 65535) ++ q4 a.v ++ q4 a.i ++ q4 a.p ++ q4 a.t
    ++ q4 (h 2) ++ q4 (h 3)

/-- A list in pieces of eight. -/
def eights {α : Type} : Nat → List α → List (List α)
  | 0, _ => []
  | n + 1, l => if l.isEmpty then [] else l.take 8 :: eights n (l.drop 8)

/-- The entries of a snapshot at the boundary in hand (R261). -/
def snapEntries (d : Dev) (snap win : Nat) : List (List Nat) :=
  let chs := (List.range 256).filter (fun c => d.bit TM_SNAPSEL (c / 32) (c % 32))
  let groups := eights 32 chs
  let np := 1 + groups.length
  hubEntry d np snap win :: groups.zipIdx.map (fun g =>
    fit 256 (fit 32 ([2, g.2 + 1, np, g.1.length] ++ le 4 snap) ++ (g.1.map (chanRecord d win)).flatten))

/-- The snapshot window starts at this boundary. -/
def snapStart (d : Dev) (part : Bool) : Dev :=
  let d := forL (d.tm.ch.map Prod.fst) (fun c d =>
    let x := d.tc c
    d.setTc c { x with snap := {}, seen := false, pk := x.pk.filter (fun e => decide (e.1 < 32)) }) d
  { d with tm := { d.tm with on := true, start := d.tb.now, hist := (d.tb.pm :: d.tb.hist).take 16, part := part,
                             hub := 0, chg := 0, vbus := 0 } }

/-- A frame boundary (SNAPSHOT_DUE, SNAPSHOT_SKIP; R261, R264); the tick's postmark and counters are in force. -/
def snapFrame (d : Dev) : Dev :=
  if !d.fl TM_CTRL_SNAP_EN then { d with tm := { d.tm with on := false } }
  else if !d.tm.on then snapStart d true
  else if d.rd TB_FRAME_NUM % d.rd1 TM_SNAP_SPER ≠ 0 then d
  else
    let n := d.rd TM_SNAPNUM + 1
    let d := d.wr TM_SNAPNUM 0 n
    let d := if d.tm.entries.isEmpty then d else (d.inc TM_SKIP).ev TM_EVT_SKIP
    let es := snapEntries d (d.rd TM_SNAPNUM) (d.tb.now - d.tm.start)
    let d := { d with tm := { d.tm with entries := es } }
    snapStart (d.wr TM_STATUS_BUSY 0 1) false

/-! ### Reads (R258, R260, R265) -/

/-- The channel an accessor has selected. -/
def telSel (d : Dev) (acc : Nat) : Nat := d.rd TM_SEL_CH acc

/-- A read of a hold: its value, and the device with that hold empty (TM_PK_READ, R258). -/
def pkRead (d : Dev) (acc i : Nat) : Nat × Dev :=
  let c := telSel d acc
  let x := d.tc c
  let v := (Tbl.get none x.pk (8 * acc + i)).getD 0
  (ofS 32 (sat32 v), d.setTc c { x with pk := Tbl.set none x.pk (8 * acc + i) none })

/-- TM_CHSTAT as an accessor reads it (R266). -/
def chstatWord (d : Dev) (acc : Nat) : Nat :=
  let c := telSel d acc
  let x := d.tc c
  let empty := maskOf ((List.range 8).filter (fun i => (Tbl.get none x.pk (8 * acc + i)).isNone))
  (d.chn c).tel.has.toNat + ((d.chn c).tel.has && x.stale).toNat * 2 + empty * 4 + x.shown.held % 2 ^ 21 * 1024

/-- A read of TM_CHSTAT copies the shown averages into the accessor's shadow (TM_CHSTAT_READ, R265). -/
def chstatRead (d : Dev) (acc : Nat) : Nat × Dev :=
  (chstatWord d acc, { d with tm := { d.tm with shadow := Tbl.set {} d.tm.shadow acc (d.tc (telSel d acc)).shown } })

end Sys2Proof.Machine
end

