-- ==== Sys2Proof/Machine/Thermal.lean ====
section
/-! DEFINITION. The thermal monitor: die limits, throttle levels, pacing, rates of rise and stage limits (R267 to
R273). -/

namespace Sys2Proof.Machine
open R

/-- T_die in force, Q16.16 °C (R267). -/
def tDie (d : Dev) : Int := d.rdS TH_DIE

/-- A whole number of degrees as Q16.16. -/
def degC (n : Nat) : Int := (n : Int) * 65536

/-- The role code minus 1 of a channel, its index in TH_STG (R283). -/
def stgIx (d : Dev) (c : Nat) : Nat := roleOf d c - 1

/-- A channel is supervised while its health is ACTIVE, DEGRADED or SAFE (R272). -/
def supervised (d : Dev) (c : Nat) : Bool :=
  roleOf d c != 0 && (health d c == 2 || health d c == 3 || health d c == 5)

/-- A count that grows while a condition holds. -/
def run1 (b : Bool) (n : Nat) : Nat := if b then n + 1 else 0

/-! ### Die limits (R268) -/

/-- The die counts of phase C (R268). -/
def dieCounts (d : Dev) : Dev :=
  let t := tDie d
  let w := degC (d.rd TH_DLIM_TWARN)
  let c := degC (d.rd TH_DLIM_TCRIT)
  let h := degC (d.rd TH_LVL_THYST)
  { d with th := { d.th with
      warn := run1 (decide (w ≤ t)) d.th.warn, crit := run1 (decide (c ≤ t)) d.th.crit,
      warnLow := run1 (decide (t < w - h)) d.th.warnLow, critLow := run1 (decide (t < c - h)) d.th.critLow } }

/-- THERM_DIE is due: a count has reached CFILT and its status bit is clear (R268). -/
def dieDue (d : Dev) (crit : Bool) : Bool :=
  let f := d.rd1 TH_DLIM_CFILT
  if crit then decide (f ≤ d.th.crit) && !d.fl TH_STATUS_CRIT else decide (f ≤ d.th.warn) && !d.fl TH_STATUS_HOT

/-- THERM_DIE (R268). -/
def dieAct (d : Dev) (crit : Bool) : Dev :=
  let d := d.recd 0x0B00 0 7 []
  if crit then
    let d := (d.ev TH_EVT_DIECRIT).wr TH_STATUS_CRIT 0 1
    if d.fl TH_CTRL_CRIT_ACT then d.tfault 0 0 2 else d
  else (d.ev TH_EVT_DIEWARN).wr TH_STATUS_HOT 0 1

/-- THERM_DIE_CLEAR is due: the first tick after CFILT ticks in a row below the limit (R268). -/
def dieClearDue (d : Dev) (crit : Bool) : Bool :=
  let f := d.rd1 TH_DLIM_CFILT + d.inC.toNat
  if crit then decide (f ≤ d.th.critLow) && d.fl TH_STATUS_CRIT else decide (f ≤ d.th.warnLow) && d.fl TH_STATUS_HOT

/-- HOT or CRIT clears (THERM_DIE_CLEAR, R268). -/
def dieClear (d : Dev) (crit : Bool) : Dev := if crit then d.wr TH_STATUS_CRIT 0 0 else d.wr TH_STATUS_HOT 0 0

/-! ### Levels and pacing (R269, R270) -/

/-- T_die joins the mean of the schedule cycle, which is formed at schedule position 1023 (R269). -/
def levelSum (d : Dev) : Dev :=
  let s := d.th.sum + tDie d
  let n := d.th.n + 1
  if schedPos d = 1023 then
    { d.wrS TH_DIEAVG 0 (rdiv s n) with th := { d.th with sum := 0, n := 0, lvlDue := true } }
  else { d with th := { d.th with sum := s, n := n, lvlDue := false } }

/-- θ_n of R269. -/
def theta (d : Dev) (n : Nat) : Int := degC (d.rd TH_LVL_TL0 + (n - 1) * act1 (d.rd TH_LVL_TSTEP))

/-- The level that follows the present one at mean `m` (R269). -/
def levelNext (d : Dev) (m : Int) : Nat :=
  let l := d.rd TH_STATUS_LEVEL
  let up := (List.range 8).filter (fun n => decide (l < n) && decide (theta d n ≤ m))
  let l := match up.getLast? with
    | some n => n
    | none => if 0 < l ∧ m < theta d l - degC (d.rd TH_LVL_THYST) then l - 1 else l
  max l (d.rd TH_CTRL_LVLMIN)

/-- THERM_LEVEL (R269). -/
def levelSet (d : Dev) : Dev :=
  let m := d.rdS TH_DIEAVG
  let l := levelNext d m
  let d := { d with th := { d.th with lvlDue := false } }
  if l = d.rd TH_STATUS_LEVEL then d
  else ({ d with th := { d.th with lvlNext := some l } }.ev TH_EVT_LEVEL).recd 0x0B01 0 7 []

/-- The end of a tick puts a new level in force (R269). -/
def levelApply (d : Dev) : Dev :=
  match d.th.lvlNext with
  | some l => { d.wr TH_STATUS_LEVEL 0 l with th := { d.th with lvlNext := none } }
  | none => d

/-- TH_PAUSE of a level; level 0 has no pause. -/
def pauseOf (d : Dev) (l : Nat) : Nat :=
  match l with
  | 1 => d.rd TH_PAUSE_1
  | 2 => d.rd TH_PAUSE_2
  | 3 => d.rd TH_PAUSE_3
  | 4 => d.rd TH_PAUSE_4
  | 5 => d.rd TH_PAUSE_5
  | 6 => d.rd TH_PAUSE_6
  | 7 => d.rd TH_PAUSE_7
  | _ => 0

/-- The pause of a class has passed (R270). -/
def paceReady (d : Dev) (cls : Nat) : Bool :=
  match Tbl.get none d.th.paceEnd cls with
  | some t =>
    let p := pauseOf d (d.rd TH_STATUS_LEVEL)
    p == 0 || decide (t + p ≤ d.tb.now) || bitOf d.th.paceGo cls
  | none => true

/-- A paced operation starts (PACED_OPERATION_START, R270). -/
def paceStart (d : Dev) (cls : Nat) : Dev :=
  if paceReady d cls then { d with th := { d.th with paceGo := setBit d.th.paceGo cls true } } else d

/-- A paced operation ends `n` ticks after the tick in hand. -/
def paceEnded (d : Dev) (cls n : Nat) : Dev :=
  { d with th := { d.th with paceGo := setBit d.th.paceGo cls false, paceEnd := Tbl.set none d.th.paceEnd cls (some (d.cur + n)) } }

/-- Pause ticks inserted in this tick, one for each class with an operation waiting for its pause (TH_PAUSECNT). -/
def paceCount (d : Dev) (waiting : Nat) : Dev :=
  d.wr TH_PAUSECNT 0 (addSat 32 (d.rd TH_PAUSECNT)
    ((List.range 5).filter (fun k => bitOf waiting k && !paceReady d k)).length)

/-! ### Rates of rise (R272) -/

/-- One window of an object advances by one tick; `x` is the value in force, and `sup` tells whether the object is supervised, as
it must be in the window's last tick. -/
def rateStep (d : Dev) (j obj : Nat) (x : Option Int) (sup : Bool) : Dev :=
  let k := clampN 10 20 (d.rd TH_RATE_W j)
  let key := 512 * j + obj
  let r := Tbl.get {} d.th.rate key
  let t := d.rd TB_TICK
  let r := if r.k = k then r else { k := k }
  let r := { r with rate := none }
  let r := if t % 2 ^ k = 0 then { r with n := 0, sum := 0, bad := false } else r
  let r := { r with n := r.n + 1, sum := r.sum + x.getD 0, bad := r.bad || x.isNone }
  let r := if (t + 1) % 2 ^ k = 0 then
      if r.n = 2 ^ k ∧ !r.bad ∧ sup then
        let m := rdiv r.sum (2 ^ k : Nat)
        { r with prev := some m, rate := r.prev.map (fun p => rdiv ((m - p) * 1000000) (2 ^ k : Nat)), n := 0, sum := 0 }
      else { r with prev := none, n := 0, sum := 0 }
    else r
  { d with th := { d.th with rate := Tbl.set {} d.th.rate key r } }

/-- The temperature in force of a channel (R256). -/
def stageT (d : Dev) (c : Nat) : Option Int := if (d.chn c).tel.has then some (telNow d c).t else none

/-- Windows of limit `j` that it no longer applies to are given up: of the die, or of the channels. -/
def rateDrop (d : Dev) (j : Nat) (die : Bool) : Dev :=
  { d with th := { d.th with rate := d.th.rate.filter (fun e => e.1 / 512 != j || (e.1 % 512 == 0) != die) } }

/-- The rate windows in phase C (R272). -/
def rateCounts (d : Dev) : Dev :=
  forIx 3 (fun j d =>
    let d := if d.fl TH_RATE_DIE j then rateStep d j 0 (some (tDie d)) true else rateDrop d j true
    if d.fl TH_RATE_STG j then forIx 256 (fun c d => if roleOf d c ≠ 0 then rateStep d j (1 + c) (stageT d c) (supervised d c) else d) d
    else rateDrop d j false) d

/-- A stage thermal fault: a target fault of the owner of the channel's role (R273). -/
def stageFault (d : Dev) (c : Nat) : Dev :=
  match roleOf d c with
  | 1 | 2 => (match railOf d c with
    | some n => d.tfault 1 n 2
    | none => d)
  | 3 => let f := d.rd CD_ENT_UNIT c
    if fuInfg d f then d.tfault 3 (fuFg d f) 2 else d.tfault 2 f 2
  | 5 | 6 => d.tfault 5 0 2
  | 7 => d.tfault 4 0 2
  | _ => d

/-- Objects of limit `j` whose rate exceeds it in this tick. -/
def rateOver (d : Dev) (j : Nat) : List (Nat × Int) :=
  (d.th.rate.filter (fun e => e.1 / 512 == j)).filterMap (fun e => match e.2.rate with
    | some r => if (d.rd TH_RATE_RLIM j : Int) * 65536 < 10 * r then some (e.1 % 512, r) else none
    | none => none)

/-- THERM_RATE for limit `j` (R272). -/
def rateAct (d : Dev) (j : Nat) : Dev :=
  let l := rateOver d j
  let d := { d with th := { d.th with rate := d.th.rate.map (fun e => if e.1 / 512 = j then (e.1, { e.2 with rate := none }) else e) } }
  forL l (fun e d =>
    if e.1 = 0 then (d.ev TH_EVT_DRATE).recd 0x0B02 0 7 []
    else
      let c := e.1 - 1
      let d := ((d.ev TH_EVT_SRATE).wr TH_LAST_CH 0 c).wr TH_LAST_LIM 0 (2 + j)
      let d := d.recAt (d.chn c).tel.pm 0x0B02 1 c []
      if d.fl TH_RATE_ACT j then stageFault d c else d) d

/-! ### Stage limits (R273) -/

/-- The threshold of a channel's role. -/
def stageLim (d : Dev) (c : Nat) (fault : Bool) : Nat := d.rd (if fault then TH_STG_TFAULT else TH_STG_TWARN) (stgIx d c)

/-- The stage counts of phase C (R273). -/
def stageCounts (d : Dev) : Dev :=
  forIx 256 (fun c d =>
    if roleOf d c = 0 then d
    else forIx 2 (fun f d =>
      let k := 2 * c + f
      let (n, a) := Tbl.get (0, false) d.th.stg k
      let hot := match stageT d c with
        | some t => supervised d c && decide (degC (stageLim d c (f == 1)) ≤ t)
        | none => false
      { d with th := { d.th with stg := Tbl.set (0, false) d.th.stg k (if hot then (n + 1, a) else (0, false)) } }) d) d

/-- THERM_STAGE is due (R273). -/
def stageDue (d : Dev) (c : Nat) (fault : Bool) : Bool :=
  let (n, a) := Tbl.get (0, false) d.th.stg (2 * c + fault.toNat)
  decide (d.rd1 TH_SFILT ≤ n) && !a

/-- THERM_STAGE (R273). -/
def stageAct (d : Dev) (c : Nat) (fault : Bool) : Dev :=
  let k := 2 * c + fault.toNat
  let (n, _) := Tbl.get (0, false) d.th.stg k
  let d := { d with th := { d.th with stg := Tbl.set (0, false) d.th.stg k (n, true) } }
  let d := d.recAt (d.chn c).tel.pm 0x0B03 1 c (q4 ((stageT d c).getD 0) ++ [stageLim d c fault])
  let d := (d.wr TH_LAST_CH 0 c).wr TH_LAST_LIM 0 fault.toNat
  if fault then
    let d := d.ev TH_EVT_SFAULT
    if d.fl TH_STG_ACT (stgIx d c) then stageFault d c else d
  else d.ev TH_EVT_SWARN

/-- Phase C of the thermal monitor. -/
def thermPhaseC (d : Dev) : Dev := stageCounts (rateCounts (levelSum (dieCounts d)))

end Sys2Proof.Machine
end

