-- ==== Sys2Proof/Machine/Margin.lean ====
section
/-! DEFINITION. The margin planner: measurements, identification and re-plans (R274 to R282). -/

namespace Sys2Proof.Machine
open R

/-- Key of a result: 256·QTY + object. -/
def mpKey (qty obj : Nat) : Nat := 256 * qty + obj

/-- A result, once there is one. -/
def mpGet (d : Dev) (qty obj : Nat) : Option MpRes := Tbl.get none d.mp.res (mpKey qty obj)

/-- A valid result of the period; it becomes the baseline where there is none (R278). -/
def mpPut (d : Dev) (qty obj : Nat) (v : Int) : Dev :=
  let base := match mpGet d qty obj with
    | some r => some (r.base.getD v)
    | none => some v
  { d with mp := { d.mp with res := Tbl.set none d.mp.res (mpKey qty obj) (some { val := sat32 v, base := base }) } }

/-- A measurement with too few samples keeps its result, marked stale (R274). -/
def mpStale (d : Dev) (qty obj : Nat) : Dev :=
  match mpGet d qty obj with
  | some r => { d with mp := { d.mp with res := Tbl.set none d.mp.res (mpKey qty obj) (some { r with stale := true }) } }
  | none => d

/-- A result formed, or none. -/
def mpForm (d : Dev) (qty obj : Nat) (v : Option Int) : Dev :=
  match v with
  | some x => mpPut d qty obj x
  | none => mpStale d qty obj

/-! ### Measurements (R274, R275) -/

/-- A measurement block of a phase (MEASUREMENT_BLOCK, R275): VDROP over ION as a resistance in mΩ, Q16.16. -/
def measBlock (d : Dev) (r : Nat) : Dev :=
  match (d.rg r).meas with
  | (p, b) :: ms =>
    let d := d.setRg r { d.rg r with meas := ms }
    let ion := leAt b 10 2
    if !d.fl MP_CTRL_MEAS_EN ∨ b.length ≠ 16 ∨ ion = 0 then d
    else
      let c := r * 32 + p
      let (n, s) := Tbl.get (0, 0) d.mp.blocks c
      { d with mp := { d.mp with blocks := Tbl.set (0, 0) d.mp.blocks c (n + 1, s + rdiv ((leAt b 8 2 : Int) * 50 * 65536) ion) } }
  | [] => d

/-- Sums of the frame, while MEAS_EN is 1. -/
def mpTick (d : Dev) : Dev :=
  if !d.fl MP_CTRL_MEAS_EN then d
  else
    let d := forIx 256 (fun c d =>
      let r := roleOf d c
      if r = 1 ∨ r = 2 ∨ r = 3 ∨ r = 5 ∨ r = 7 then
        { d with mp := { d.mp with sum := Tbl.upd {} d.mp.sum c (fun q => q.acc (telNow d c) false) } }
      else d) d
    let d := forIx 8 (fun j d => match strChan d j with
      | none => d
      | some c =>
        let m := Tbl.get {} d.mp.str j
        let q := telNow d c
        let m := { m with rest := if q.i.natAbs < 65536 then m.rest + 1 else 0, e := m.e + q.p }
        let m := if m.rest = 60000000 then
            let f := match m.restV with
              | some v =>
                let de := etab d (milli v) - etab d (milli q.v)
                if de = 0 then none else some (if de < 0 then rdiv (rdiv (-m.e) 1000) (-de) else rdiv (rdiv m.e 1000) de)
              | none => none
            { m with restV := some q.v, e := 0, factor := f.or m.factor }
          else m
        { d with mp := { d.mp with str := Tbl.set {} d.mp.str j m } }) d
    { d with mp := { d.mp with vbus := d.mp.vbus + d.rdS FD_VBUS, ticks := d.mp.ticks + 1 } }

/-- A point joins a slope. -/
def Regr.add (r : Regr) (x y : Int) : Regr :=
  { n := r.n + 1, sx := r.sx + x, sy := r.sy + y, sxx := r.sxx + x * x, sxy := r.sxy + x * y }

/-- The least-squares slope in Q16.16, `scale` times y over x; none for fewer than two distinct points. -/
def Regr.slope (r : Regr) (scale : Int) : Option Int :=
  let den := r.n * r.sxx - r.sx * r.sx
  if den ≤ 0 then none else some (rdiv ((r.n * r.sxy - r.sx * r.sy) * 65536 * scale) den)

/-- A point joins the slope of a quantity and object. -/
def mpPoint (d : Dev) (qty obj : Nat) (x y : Int) : Dev :=
  { d with mp := { d.mp with regr := Tbl.upd {} d.mp.regr (mpKey qty obj) (fun r => r.add x y) } }

/-- The frame mean of a channel. -/
def mpMean (d : Dev) (c : Nat) : Quad := (Tbl.get {} d.mp.sum c).avg d.mp.ticks

/-- The value in the middle of a list. -/
def mpMedian (l : List Int) : Option Int :=
  let s := l.mergeSort (fun a b => decide (a ≤ b))
  if s.isEmpty then none
  else some (rdiv (s.getD ((s.length - 1) / 2) 0 + s.getD (s.length / 2) 0) 2)

/-- The points of the frame that ends (R274). -/
def mpFrame (d : Dev) : Dev :=
  if !d.fl MP_CTRL_MEAS_EN ∨ d.mp.ticks = 0 then { d with mp := { d.mp with sum := [], vbus := 0, ticks := 0 } }
  else
    let vb := rdiv d.mp.vbus (max 1 d.mp.ticks : Nat)
    let d := forIx 16 (fun n d =>
      let hs := trusted d n
      let ms := hs.map (fun h => mpMean d (railLead d n + h))
      let it := meanI (ms.map Quad.i)
      let tt := meanI (ms.map Quad.t)
      forL hs (fun h d =>
        let q := mpMean d (railLead d n + h)
        mpPoint d 1 (railLead d n + h) (qmul q.i q.i - qmul it it) (q.t - tt)) d) d
    let d := forIx 256 (fun c d =>
      let q := mpMean d c
      match roleOf d c with
      | 3 => if fuSensor d c then mpPoint d 6 c (power (vb - q.v) q.i) q.t else d
      | 7 => mpPoint d 7 c (power q.v q.i) q.t
      | _ => d) d
    let d := forIx 8 (fun j d => match strChan d j with
      | none => d
      | some c =>
        let q := mpMean d c
        let m := Tbl.get {} d.mp.str j
        let quot := match m.last with
          | some (v, i) =>
            if 10 * 65536 ≤ (q.i - i).natAbs then
              let x := -(q.v - v) * 1000
              let y := q.i - i
              m.quot ++ [if y < 0 then rdiv (-x * 65536) (-y) else rdiv (x * 65536) y]
            else m.quot
          | none => m.quot
        { d with mp := { d.mp with str := Tbl.set {} d.mp.str j { m with last := some (q.v, q.i), quot := quot } } }) d
    { d with mp := { d.mp with sum := [], vbus := 0, ticks := 0 } }

/-- The results of the period that ends (R274). The die's timing slack has no register: its value is free. -/
def mpResults (d : Dev) : Dev :=
  let d := forIx 256 (fun c d =>
    match roleOf d c with
    | 1 | 2 =>
      let (n, s) := Tbl.get (0, 0) d.mp.blocks c
      let d := mpForm d 0 c (if n = 0 then none else some (rdiv s n))
      let k := (Tbl.get {} d.mp.regr (mpKey 1 c)).slope 1
      let d := mpForm d 1 c k
      (match railOf d c, k with
      | some n, some x => d.setPhs n (hopOf d n c) { d.phs n (hopOf d n c) with kT := some x }
      | _, _ => d)
    | 3 => if fuSensor d c then mpForm d 6 c ((Tbl.get {} d.mp.regr (mpKey 6 c)).slope 1) else d
    | 7 => mpForm d 7 c ((Tbl.get {} d.mp.regr (mpKey 7 c)).slope 1000)
    | _ => d) d
  let d := forIx 8 (fun j d =>
    if (strChan d j).isNone then d
    else
      let m := Tbl.get {} d.mp.str j
      let d := mpForm (mpForm d 8 j (mpMedian m.quot)) 9 j m.factor
      { d with mp := { d.mp with str := Tbl.set {} d.mp.str j { m with quot := [], factor := none } } }) d
  let slack := (d.freeV : Int)
  let d := mpPut d.freeNext 10 0 slack
  let d := mpForm d 11 0 (if d.rd NV_IMPM_MARGIN = 0 then none else some (degC (d.rd NV_IMPM_MARGIN)))
  { d with mp := { d.mp with regr := [], blocks := [] } }

/-! ### Identification (R276, R277) -/

/-- A condition of R277 that pauses a run holds for rail `n`. -/
def idBlocked (d : Dev) (n : Nat) : Bool :=
  d.fl VR_STATUS_IDPAUSE n || d.fl VR_STATUS_THR n || railState d n != vrOn
    || (match rampSlot d n with
      | some s => slotOut d s != narrow (term d s 1 (d.rdS VR_VSET n))
      | none => true)

/-- Ticks of a chip. -/
def chipLen (d : Dev) : Nat := 2 ^ d.rd MP_ID_CHIP

/-- P_id of a chip bit: round(AMP × 65536 / 10000), limited to 2.000 mV (R276). -/
def pidOf (d : Dev) (b : Bool) : Int :=
  let m := rdiv ((clampN 1 20 (d.rd MP_ID_AMP) : Nat) * 65536) 10000
  if b then m else -m

/-- The rail's identification term changes. -/
def setPid (d : Dev) (n : Nat) (x : Int) : Dev := d.setRail n { d.rail n with pid := x }

/-- The present bit of the sequence x^10 + x^7 + 1, and the register after it (R276). -/
def lfsrNext (s : Nat) : Nat := s * 2 % 1024 + (if bitOf s 9 != bitOf s 6 then 1 else 0)

/-- A run's chip 0 begins in this tick. -/
def idBegin (d : Dev) (n : Nat) : Dev :=
  let d := { d with mp := { d.mp with lfsr := 0x3FF, chipEnd := d.cur + chipLen d, startM := railM d n, clearAt := none } }
  setPid ((d.wr MP_IDSTAT_CHIP 0 0).wr MP_IDSTAT_PAUSED 0 0) n (pidOf d true)

/-- A run is over; its rail is done for this period. -/
def idOver (d : Dev) : Dev :=
  let n := d.rd MP_IDSTAT_RAIL
  let d := (d.wr MP_IDSTAT_ACTIVE 0 0).wr MP_IDSTAT_PAUSED 0 0
  setPid { d with mp := { d.mp with idDone := setBit d.mp.idDone n true } } n 0

/-- A run ends without a result after one pause too many (MARGIN_ID, R277). -/
def idAbort (d : Dev) : Dev :=
  let n := d.rd MP_IDSTAT_RAIL
  (idOver (d.ev MP_EVT_IDABORT)).recd 0x0B04 2 n []

/-- One more pause: the run goes on paused, or ends (R277). -/
def idPause (d : Dev) : Dev :=
  let n := d.rd MP_IDSTAT_RAIL
  if d.rd1 MP_ID_MAXP ≤ d.rd MP_IDSTAT_PAUSES then idAbort d
  else
    let d := (d.wr MP_IDSTAT_PAUSES 0 (d.rd MP_IDSTAT_PAUSES + 1)).wr MP_IDSTAT_PAUSED 0 1
    setPid { d with mp := { d.mp with clearAt := none } } n 0

/-- Each tick of identification: a run starts, pauses, or its clear time runs (R276, R277). DESIGN CHOICE: a rail that a condition of
R277 blocks is passed over, and gets its run of the period once it is free (log entry 80). -/
def idTick (d : Dev) : Dev :=
  if d.fl MP_IDSTAT_ACTIVE then
    let n := d.rd MP_IDSTAT_RAIL
    if !d.fl MP_IDSTAT_PAUSED then (if idBlocked d n then idPause d else d)
    else
      let c := if idBlocked d n then none else some (d.mp.clearAt.getD d.cur)
      { d with mp := { d.mp with clearAt := c } }
  else if d.fl MP_CTRL_ID_EN ∧ !d.fl GL_STATUS_MHALT then
    match firstIx 16 (fun n => d.bit MP_ID_RAILMASK 0 n && !bitOf d.mp.idDone n && railConf d n && !idBlocked d n) with
    | some n =>
      let d := ((d.wr MP_IDSTAT_ACTIVE 0 1).wr MP_IDSTAT_RAIL 0 n).wr MP_IDSTAT_PAUSES 0 0
      idBegin { d with mp := { d.mp with grid := d.cur } } n
    | none => d
  else d

/-- The chip in hand has ended (R276). -/
def chipDue (d : Dev) : Bool := d.fl MP_IDSTAT_ACTIVE && !d.fl MP_IDSTAT_PAUSED && decide (d.mp.chipEnd ≤ d.tb.now)

/-- ID_CHIP: the next chip, or the end of the run with its results (R276, R277). The fit's numbers are free values. -/
def idChip (d : Dev) : Dev :=
  let n := d.rd MP_IDSTAT_RAIL
  let k := d.rd MP_IDSTAT_CHIP + 1
  if d.fl GL_STATUS_MHALT then idOver d
  else if 1023 ≤ k then
    let d := forL [2, 3, 4, 5] (fun q d => mpPut d.freeNext q n (sat32 (d.freeV : Int))) d
    (idOver (d.ev MP_EVT_IDDONE)).recd 0x0B04 2 n []
  else
    let s := lfsrNext d.mp.lfsr
    let d := (d.wr MP_IDSTAT_CHIP 0 k)
    setPid { d with mp := { d.mp with lfsr := s, chipEnd := d.mp.chipEnd + chipLen d } } n (pidOf d (bitOf s 9))

/-- The chip boundary at which a paused run may resume has come (R277). -/
def resumeDue (d : Dev) : Bool :=
  d.fl MP_IDSTAT_ACTIVE && d.fl MP_IDSTAT_PAUSED && (match d.mp.clearAt with
    | some t => decide (d.mp.grid + cdiv (t + 64 - d.mp.grid) (chipLen d) * chipLen d ≤ d.tb.now)
    | none => false)

/-- ID_RESUME (R277); a halted management plane ends the run here. -/
def idResume (d : Dev) : Dev :=
  let n := d.rd MP_IDSTAT_RAIL
  if d.fl GL_STATUS_MHALT then idOver d
  else if railM d n ≠ d.mp.startM then
    if d.rd1 MP_ID_MAXP ≤ d.rd MP_IDSTAT_PAUSES then idAbort d
    else idBegin (d.wr MP_IDSTAT_PAUSES 0 (d.rd MP_IDSTAT_PAUSES + 1)) n
  else
    let d := { d.wr MP_IDSTAT_PAUSED 0 0 with mp := { d.mp with chipEnd := d.cur + chipLen d, clearAt := none } }
    setPid d n (pidOf d (bitOf d.mp.lfsr 9))

/-! ### Re-plans (R278 to R282) -/

/-- Key of a reference. -/
def refKey (r : Reg) (ix lo : Nat) : Nat := (r.id * 65536 + ix) * 32 + lo

/-- The reference of an output: the value in force until the planner first changes it (R279). -/
def refOf (d : Dev) (r : Reg) (ix lo w : Nat) : Nat := (Tbl.get none d.mp.ref (refKey r ix lo)).getD (bitsOf (d.rd r ix) lo w)

/-- A host write to a field makes its value the reference (R279, R282). -/
def refHost (d : Dev) (r : Reg) (ix : Nat) : Dev :=
  { d with mp := { d.mp with ref := d.mp.ref.filter (fun e => e.1 / 32 != r.id * 65536 + ix) } }

/-- A product with a fraction, rounded (R12); a fraction with no positive denominator leaves the value. -/
def scaleBy (x : Nat) (num den : Int) : Nat := if den ≤ 0 then x else (max 0 (rdiv ((x : Int) * num) den)).toNat

/-- A change of output `o`; the written value follows R281 where MODE is 1. -/
def planItem (d : Dev) (o : Nat) (r : Reg) (ix lo w obj prop : Nat) : PlanItem :=
  let old := bitsOf (d.rd r ix) lo w
  let ref := refOf d r ix lo w
  let prop := min prop (2 ^ w - 1)
  let f := fun x => if o = 8 then (x : Int) else rdiv ((ref : Int) * x) 4096
  let b := clampI (f (d.rd MP_BND_LO o)) (f (d.rd MP_BND_HI o)) prop
  let st := f (d.rd MP_BND_STEP o)
  let new := if d.fl MP_CTRL_MODE then (clampI ((old : Int) - st) ((old : Int) + st) b).toNat else prop
  let mark := if !d.fl MP_CTRL_MODE then 2 else if new = old then 2 else if new = prop then 0 else 1
  { o := o, reg := r, ix := ix, lo := lo, w := w, obj := obj, old := old, prop := prop, new := new, mark := mark }

/-- A result with its baseline. -/
def resBase (d : Dev) (qty obj : Nat) : Option (Int × Int) :=
  match mpGet d qty obj with
  | some r => r.base.map (fun b => (r.val, b))
  | none => none

/-- The largest on-resistance among a rail's phases, with that phase's baseline (R279, o = 0). -/
def ronWorst (d : Dev) (n : Nat) : Option (Int × Int) :=
  ((railChans d n).filterMap (fun c => resBase d 0 c)).foldl (fun a x => match a with
    | some y => if y.1 < x.1 then some x else some y
    | none => some x) none

/-- Items for one rail: o = 0 to 3. -/
def planRail (d : Dev) (n : Nat) : List PlanItem :=
  let a := match ronWorst d n with
    | some (v, b) =>
      let q := fun x => scaleBy x (min b v) v
      [planItem d 0 VR_LIM_ILIM n 0 16 n (q (refOf d VR_LIM_ILIM n 0 16))]
        ++ (List.range 31).map (fun m =>
          let ix := n * 8 + m / 4
          planItem d 1 VR_ADD ix (8 * (m % 4)) 8 n (q (refOf d VR_ADD ix (8 * (m % 4)) 8)))
        ++ [planItem d 2 VR_SHED_HYST n 0 8 n (q (refOf d VR_SHED_HYST n 0 8))]
    | none => []
  let c := match resBase d 2 n with
    | some (v, b) => [planItem d 3 VR_SNS_DERATE n 0 8 n (clampN 1 128 (scaleBy (refOf d VR_SNS_DERATE n 0 8) (max b v) v))]
    | none => []
  a ++ c

/-- Every change the plan proposes (R279). -/
def planItems (d : Dev) : List PlanItem :=
  let rails := ((List.range 16).filter (railConf d)).flatMap (planRail d)
  let fuses := (List.range 64).filterMap (fun f => match chanOfFuse d f with
    | some c => (resBase d 6 c).map (fun x => planItem d 4 FU_CSCALE f 0 8 f (scaleBy 128 (min x.2 x.1) x.1))
    | none => none)
  let ths := (List.range 8).filterMap (fun i => match fmChan d i with
    | some c => (resBase d 7 c).map (fun x => (i, x.1))
    | none => none)
  let least := ths.foldl (fun (a : Option Int) x => some (match a with
    | some y => min y x.2
    | none => x.2)) none
  let feeders := ths.map (fun x => planItem d 5 FD_FM_AGE x.1 0 16 x.1 (scaleBy 32768 (least.getD x.2) x.2))
  let strs := (List.range 8).flatMap (fun j =>
    (match mpGet d 9 j with
      | some r => [planItem d 6 BS_STR_CAP j 0 16 j (max 0 (rdiv r.val 2)).toNat]
      | none => [])
    ++ (match mpGet d 8 j with
      | some r => [planItem d 7 BS_STR_RS j 0 16 j (max 0 (rdiv (r.val * 1000) 65536)).toNat]
      | none => []))
  let die := match mpGet d 10 0 with
    | some r => [planItem d 8 LE_CTRL_GUARD 0 0 7 0 (clampI 0 80 (120 - rdiv r.val 65536)).toNat]
    | none => []
  let store := match resBase d 11 0 with
    | some (v, b) => [planItem d 9 NV_REFR_INTERVAL 0 0 16 0 (scaleBy (refOf d NV_REFR_INTERVAL 0 0 16) (min v b) b)]
    | none => []
  (rails ++ fuses ++ feeders ++ strs ++ die ++ store).filter (fun x => x.prop != x.old)

/-- Rails whose phase margin calls for LOOP_RETUNE (R279). -/
def retuneRails (d : Dev) : List Nat :=
  (List.range 16).filter (fun n => match resBase d 5 n with
    | some (v, b) => decide (v < degC 40) || decide (v < b - degC 10)
    | none => false)

/-- A MARGIN_REPLAN record: the plan's number, and output, object and mark of each change (R280, R281). -/
def replanRec (d : Dev) (num : Nat) (l : List PlanItem) (more : List Nat) : Dev :=
  d.recd 0x0B05 0 8 (le 4 num ++ (l.map (fun x => [x.o, x.obj, x.mark])).flatten ++ more)

/-- PLAN_PERIOD_END is due (R279, R284). -/
def periodDue (d : Dev) : Bool :=
  decide (d.mp.since + d.rd1 MP_CTRL_PERIOD * 1000000 ≤ d.tb.now) || (d.mp.runNow && d.rd TB_FRAME_POS == 0)

/-- PLAN_PERIOD_END: results, a plan and its record (MARGIN_REPLAN; R274, R279 to R282). -/
def periodEnd (d : Dev) : Dev :=
  let d := { d with mp := { d.mp with since := d.tb.now, runNow := false, idDone := 0 } }
  if d.fl GL_STATUS_MHALT then d
  else
    let d := if d.fl MP_CTRL_MEAS_EN then mpResults d else d
    let items := planItems d
    let num := (d.rd MP_PLANNUM + 1) % 2 ^ 32
    let d := d.ev MP_EVT_PLAN
    let d := d.wr MP_PLANNUM 0 num
    let d := if items.any (fun x => x.mark == 1) then d.ev MP_EVT_CLAMPED else d
    let write := if d.fl MP_CTRL_MODE then items.filter (fun x => x.new != x.old) else []
    let advice := (items.filter (fun x => !d.fl MP_CTRL_MODE || x.new != x.prop)).map (fun x => { x with new := x.prop })
    let stale := d.mp.res.filter (fun e => match e.2 with
      | some r => r.stale
      | none => false)
    let d := replanRec d num items (((retuneRails d).map (fun n => [15, n, 2])).flatten
      ++ (stale.map (fun e => [16 + e.1 / 256, e.1 % 256, 2])).flatten)
    let d := d.wrB MP_STATUS_ADVPEND 0 (!advice.isEmpty || !d.fl MP_CTRL_MODE)
    { d with mp := { d.mp with advice := advice, advEnd := d.tb.now + d.rd1 MP_ADVEXP * 1000000, todo := write,
                               todoAt := d.rd TB_FRAME_NUM + 1 } }

/-- An advised plan has expired (R280). -/
def advDue (d : Dev) : Bool := d.fl MP_STATUS_ADVPEND && decide (d.mp.advEnd ≤ d.tb.now)

/-- PLAN_EXPIRED (R280). -/
def planExpire (d : Dev) : Dev :=
  let d := (d.wr MP_STATUS_ADVPEND 0 0).ev MP_EVT_EXPIRED
  replanRec { d with mp := { d.mp with advice := [] } } (d.rd MP_PLANNUM) [] [0xFE]

/-- A refused approval or rejection (R280). -/
def planRefuse (d : Dev) (num : Nat) : Dev := replanRec (d.ev MP_EVT_REFUSED) num [] [0xFF]

/-- An approval of plan `num`: whether it is refused, and its effect, every change of the plan, unbounded, in the next frame
(R280). -/
def planApprove (d : Dev) (num : Nat) : Bool × Dev :=
  if d.fl MP_STATUS_ADVPEND ∧ num = d.rd MP_PLANNUM then
    let l := d.mp.advice.map (fun x => { x with mark := 0, old := bitsOf (d.rd x.reg x.ix) x.lo x.w })
    let d := d.wr MP_STATUS_ADVPEND 0 0
    let d := { d with mp := { d.mp with advice := [], todo := d.mp.todo ++ l, todoAt := d.rd TB_FRAME_NUM + 1 } }
    (false, replanRec d num l [])
  else (true, planRefuse d num)

/-- A rejection of plan `num`: whether it is refused, and its effect (R280). -/
def planReject (d : Dev) (num : Nat) : Bool × Dev :=
  if d.fl MP_STATUS_ADVPEND ∧ num = d.rd MP_PLANNUM then
    let d := d.wr MP_STATUS_ADVPEND 0 0
    (false, replanRec { d with mp := { d.mp with advice := [] } } num [] [0xFD])
  else (true, planRefuse d num)

/-- PLANNER_WRITE is due (R281, R282). -/
def planWriteDue (d : Dev) : Bool := !d.mp.todo.isEmpty && decide (d.mp.todoAt ≤ d.rd TB_FRAME_NUM) && !d.fl GL_STATUS_MHALT

/-- The block of 2^10 bytes or more that a field's PEND belongs to: the base of its register block. -/
def blockOf (off : Nat) : Nat :=
  ([0xC000, 0xBC00, 0xB800, 0xB400, 0xB000, 0xAC00, 0xA800, 0xA000, 0x9C00, 0x9800, 0x9000, 0x8C00, 0x8800, 0x8000, 0x3800, 0x2800,
    0x2000, 0x1800, 0x1000, 0xC00, 0x800, 0x400].find? (fun b => decide (b ≤ off))).getD 0

/-- A staged write waits in the block of a field. -/
def blockPend (d : Dev) (r : Reg) : Bool :=
  d.staged.any (fun s => blockOf s.reg.off == blockOf r.off) || d.commit.any (fun c => c.staged)

/-- A value of GUARD passes check 8 against the schedule in force (R137). -/
def guardOk (d : Dev) (g : Nat) : Bool := decide ((worstLoad d).1 ≤ 880 - guardOf g)

/-- The planner stages one change (R17, batch 5) and keeps the reference it departs from. -/
def planStage (d : Dev) (x : PlanItem) : Dev :=
  let cur := match (d.staged.filter (fun s => s.reg.id == x.reg.id && s.ix == x.ix)).getLast? with
    | some s => s.val
    | none => d.rd x.reg x.ix
  let key := refKey x.reg x.ix x.lo
  let ref := (Tbl.get none d.mp.ref key).getD (bitsOf (d.rd x.reg x.ix) x.lo x.w)
  { d with staged := d.staged ++ [{ batch := 5, reg := x.reg, ix := x.ix, val := setBits cur x.lo x.w x.new }]
           mp := { d.mp with ref := Tbl.set none d.mp.ref key (some ref) } }

/-- PLANNER_WRITE: changes whose block shows no staged write are staged; the others wait a frame, and after 8 frames
are refused (R282). -/
def planWrite (d : Dev) : Dev :=
  let num := d.rd MP_PLANNUM
  let go := d.mp.todo.filter (fun x => !blockPend d x.reg)
  let stay := (d.mp.todo.filter (fun x => blockPend d x.reg)).map (fun x => { x with tries := x.tries + 1 })
  let badGuard := fun (x : PlanItem) => x.o == 8 && !guardOk d x.new
  let refused := (stay.filter (fun x => decide (8 ≤ x.tries)) ++ go.filter badGuard).map (fun x => { x with mark := 3 })
  let good := go.filter (fun x => !badGuard x)
  let d := forL good (fun x d => planStage d x) d
  let d := if good.isEmpty then d else d.ev MP_EVT_APPLIED
  let d := if refused.isEmpty then d else replanRec (d.ev MP_EVT_REFUSED) num refused []
  let d := if go.any badGuard then
      ((d.ev LE_EVT_GUARD_REF).wr LE_REJ_LOAD 0 (worstLoad d).1).wr LE_REJ_POS 0 (worstLoad d).2 else d
  { d with mp := { d.mp with todo := stay.filter (fun x => decide (x.tries < 8)), todoAt := d.rd TB_FRAME_NUM + 1 } }

/-- MP_CMD.REBASE: every next result becomes its baseline (R278). -/
def mpRebase (d : Dev) : Dev :=
  { d with mp := { d.mp with res := d.mp.res.map (fun e => (e.1, e.2.map (fun r => { r with base := none }))) } }

/-- A commit changed the directory entry, slot or rail block of objects: their baselines fall, and every reference is the
value now in force (R278, R279). -/
def mpCommit (d : Dev) (objs : List Nat) : Dev :=
  { d with mp := { d.mp with ref := [], res := d.mp.res.map (fun e =>
      if objs.contains e.1 then (e.1, e.2.map (fun r => { r with base := none })) else e) } }

end Sys2Proof.Machine
end

