-- ==== Sys2Proof/Machine/Host.lean ====
section
/-! DEFINITION. The host interface: endpoints, host rings, doorbells, completions, pigeonholes and MSI-X (R285 to
R305). -/

namespace Sys2Proof.Machine
open R

/-- Status codes of R295. -/
def stSuccess : Nat := 0
/-- DEAD_LETTER. -/
def stDead : Nat := 1
/-- BAD_OPCODE. -/
def stBadOp : Nat := 2
/-- BAD_ARG. -/
def stBadArg : Nat := 3
/-- BAD_TARGET. -/
def stBadTgt : Nat := 4
/-- REFUSED. -/
def stRefused : Nat := 5
/-- CONFLICT. -/
def stConflict : Nat := 6
/-- REJECTED. -/
def stRejected : Nat := 7
/-- BUSY. -/
def stBusy : Nat := 8
/-- AUTH_FAIL. -/
def stAuth : Nat := 9
/-- PH_STATE. -/
def stPh : Nat := 10
/-- HALTED. -/
def stHalted : Nat := 11
/-- VERIFY_FAIL. -/
def stVerify : Nat := 12
/-- STORE_FAIL. -/
def stStore : Nat := 13
/-- DMA_FAIL. -/
def stDma : Nat := 14

/-- An endpoint beside its registers. -/
def Dev.hep (d : Dev) (e : Nat) : HostEp := Tbl.get {} d.host.ep e
/-- An endpoint changes. -/
def Dev.setEp (d : Dev) (e : Nat) (x : HostEp) : Dev := { d with host := { d.host with ep := Tbl.set {} d.host.ep e x } }

/-- The fields of one host ring: 0 command, 1 completion, 2 event, 3 telemetry (R287, R305). -/
structure RingRegs where
  baseLo : Reg
  baseHi : Reg
  log2sz : Reg
  en : Reg
  pi : Reg
  ci : Reg

/-- The four rings of an endpoint. -/
def hostRing : Nat → RingRegs
  | 0 => ⟨HQ_CQ_BASE_LO_ADDR, HQ_CQ_BASE_HI, HQ_CQ_CFG_LOG2SZ, HQ_CQ_CFG_EN, HQ_CQ_IDX_PI, HQ_CQ_IDX_CI⟩
  | 1 => ⟨HQ_CPL_BASE_LO_ADDR, HQ_CPL_BASE_HI, HQ_CPL_CFG_LOG2SZ, HQ_CPL_CFG_EN, HQ_CPL_IDX_PI, HQ_CPL_IDX_CI⟩
  | 2 => ⟨HQ_EVQ_BASE_LO_ADDR, HQ_EVQ_BASE_HI, HQ_EVQ_CFG_LOG2SZ, HQ_EVQ_CFG_EN, HQ_EVQ_IDX_PI, HQ_EVQ_IDX_CI⟩
  | _ => ⟨HQ_TEL_BASE_LO_ADDR, HQ_TEL_BASE_HI, HQ_TEL_CFG_LOG2SZ, HQ_TEL_CFG_EN, HQ_TEL_IDX_PI, HQ_TEL_IDX_CI⟩

/-- The entries a ring has (R287). -/
def hqSize (d : Dev) (e k : Nat) : Nat := 2 ^ clampN 4 12 (d.rd (hostRing k).log2sz e)
/-- A ring is enabled. -/
def hqOn (d : Dev) (e k : Nat) : Bool := d.fl (hostRing k).en e
/-- The entries a ring holds (R288). -/
def hqHeld (d : Dev) (e k : Nat) : Nat := (d.rd (hostRing k).pi e + 65536 - d.rd (hostRing k).ci e) % 65536
/-- The address of the entry of an index, for entries of `sz` bytes. -/
def hqAddr (d : Dev) (e k ix sz : Nat) : Nat :=
  d.rd (hostRing k).baseHi e * 2 ^ 32 + d.rd (hostRing k).baseLo e * 4096 + ix % hqSize d e k * sz

/-- An index of the endpoint changed in this tick (R289). -/
def mirrorDirty (d : Dev) (e : Nat) : Dev := d.setEp e { d.hep e with mirror := true }

/-- The descriptor reads under way of an endpoint end with nothing fetched; their completion entries are free again. -/
def readsDrop (d : Dev) (e : Nat) : Dev :=
  let x := d.hep e
  d.setEp e { x with resv := x.resv - (x.reads.map (·.n)).foldl (· + ·) 0, reads := [] }

/-- A ring is enabled: both of its indices start at 0 (R287). -/
def hqStart (d : Dev) (e k : Nat) : Dev :=
  let d := (d.wr (hostRing k).pi e 0).wr (hostRing k).ci e 0
  if k = 0 then readsDrop (d.setEp e { d.hep e with issued := 0 }) e
  else if k = 1 then d.setEp e { d.hep e with mod0 := none }
  else if k = 2 then d.setEp e { d.hep e with mod1 := none, evq := [] } else d

/-- A doorbell of ring `k` with a new index (R288); an entry to sleep ignores doorbells (R414 step 1). -/
def doorbell (d : Dev) (e k v : Nat) : Dev :=
  let v := v % 65536
  let r := hostRing k
  if d.pw.entry ≠ 0 then d
  else if k = 0 then
    if (v + 65536 - d.rd r.ci e) % 65536 ≤ hqSize d e k then
      if v = d.rd r.pi e then d else mirrorDirty (d.wr r.pi e v) e
    else d.ev HQ_EVT_DBERR e
  else
    if (v + 65536 - d.rd r.ci e) % 65536 ≤ hqHeld d e k then d.wr r.ci e v else d.ev HQ_EVT_DBERR e

/-- A ring entry is written and the producer index advances. -/
def hqPut (d : Dev) (e k sz : Nat) (bytes : List Nat) : Dev :=
  let pi := d.rd (hostRing k).pi e
  let d := d.emit (.dma e k (hqAddr d e k pi sz) bytes)
  mirrorDirty (d.wr (hostRing k).pi e ((pi + 1) % 65536)) e

/-- One more entry written and not signalled. -/
def modAdd (d : Dev) (m : Option (Nat × Nat)) : Option (Nat × Nat) :=
  match m with
  | some (n, t) => some (n + 1, t)
  | none => some (1, d.cur)

/-- A message of a vector is due. -/
def msiDue (d : Dev) (e v : Nat) : Dev := d.setEp e { d.hep e with msi := setBit (d.hep e).msi v true }

/-- The 16 bytes of a completion with phase bit `p` (R293). -/
def cplBytes (c : HCtx) (status result reason p : Nat) : List Nat :=
  le 4 c.seq ++ le 4 c.tag ++ le 2 status ++ le 2 c.cidx ++ le 3 result ++ [reason % 128 + p * 128]

/-- A copy completes. Its entry is written after phase E of the tick (R296). A command of the service port is answered by its
response instead: the completion, whose phase bit the manual leaves open, then the result bytes (R403). -/
def complete (d : Dev) (c : HCtx) (status result reason : Nat) : Dev :=
  if c.src = 3 then
    let b := cplBytes c status result reason (d.freeV % 2)
    { d.freeNext with sp := { d.sp with resp := some (b ++ d.sp.res), res := [] } }
  else if 2 ≤ c.src then d
  else { d with host := { d.host with cpls := d.host.cpls ++ [{ ctx := c, status := status, result := result, reason := reason }] } }

/-- A completion entry is written (COMPLETION_WRITE, R293); a copy of an endpoint that has gone down since, or whose ring is
disabled, writes none. -/
def cplWrite (d : Dev) (i : CplItem) : Dev :=
  let e := i.ctx.src
  let x := d.hep e
  if i.ctx.gen ≠ x.gen then d
  else
    let d := d.setEp e { x with resv := x.resv - 1 }
    if !hqOn d e 1 then d
    else
      let p := (d.rd HQ_CPL_IDX_PI e / hqSize d e 1 + 1) % 2
      let d := hqPut d e 1 16 (cplBytes i.ctx i.status i.result i.reason p)
      let d := d.setEp e { d.hep e with mod0 := modAdd d (d.hep e).mod0 }
      if i.ctx.irq then msiDue d e 0 else d

/-- A completion takes its place among those of its endpoint in descriptor order: the older descriptor lies further behind the
consumer index (R294). -/
def cplIns (ci : Nat) (x : CplItem) : List CplItem → List CplItem
  | [] => [x]
  | y :: r => if (ci + 65536 - y.ctx.cidx) % 65536 < (ci + 65536 - x.ctx.cidx) % 65536 then x :: y :: r else y :: cplIns ci x r

/-- The completions of the tick are written, each endpoint's in descriptor order (R294, R296). -/
def cplFlush (d : Dev) (e : Nat) : Dev :=
  let mine := d.host.cpls.filter (fun i => i.ctx.src == e)
  let d := { d with host := { d.host with cpls := d.host.cpls.filter (fun i => i.ctx.src != e) } }
  forL (mine.foldl (fun l x => cplIns (d.rd HQ_CQ_IDX_CI e) x l) []) (fun i d => cplWrite d i) d

/-- Every copy of a command completes with its status. -/
def completeAll (d : Dev) (cs : List HCtx) (status result : Nat) : Dev := forL cs (fun c d => complete d c status result 0) d

/-- A written record is to go to each enabled event ring in the tick after (R297). -/
def eventWrite (d : Dev) (bytes : List Nat) : Dev :=
  forIx 2 (fun e d => if hqOn d e 2 then d.setEp e { d.hep e with evq := (d.hep e).evq ++ [(d.cur, bytes)] } else d) d

/-- A record goes to an event ring, or is dropped where the ring is full (EVENT_RING_WRITE, R297). -/
def eventPut (d : Dev) (e : Nat) (bytes : List Nat) : Dev :=
  if !hqOn d e 2 then d
  else if hqSize d e 2 ≤ hqHeld d e 2 then (d.inc HQ_EVDROP e).ev HQ_EVT_EVDROP e
  else
    let d := hqPut d e 2 64 bytes
    paceEnded (d.setEp e { d.hep e with mod1 := modAdd d (d.hep e).mod1 }) e 0

/-- The records of earlier ticks go out, as far as the pace of R270 lets them. -/
def eventFlush (d : Dev) (e : Nat) : Dev :=
  forL (d.hep e).evq (fun _ d =>
    match (d.hep e).evq with
    | [] => d
    | (t, b) :: r => if t < d.cur && paceReady d e then eventPut (d.setEp e { d.hep e with evq := r }) e b else d) d

/-- Copies that wait for their endpoint's pause begin (R270, R301). -/
def copyIssue (d : Dev) (e : Nat) : Dev :=
  forL d.host.copies (fun o d =>
    if o.ctx.src == e && !o.sent && paceReady d e then
      { d.emit (.phCopy e o.dir o.hole o.addr o.len) with
        host := { d.host with copies := d.host.copies.map (fun x => if x.hole == o.hole then { x with sent := true } else x) } }
    else d) d

/-- SNAPSHOT_ENTRY_WRITE: the oldest entry goes to each enabled telemetry ring, or is dropped where that is full (R264,
R298, R270). -/
def snapWrite (d : Dev) : Dev :=
  match d.tm.entries with
  | [] => d
  | b :: rest =>
    if !paceReady d 4 then d
    else
      let last := rest.isEmpty
      let d := { d with tm := { d.tm with entries := rest } }
      let d := forIx 2 (fun e d =>
        if !hqOn d e 3 then d
        else if hqSize d e 3 ≤ hqHeld d e 3 then (d.inc (if e = 0 then TM_DROPA else TM_DROPB)).ev (if e = 0 then TM_EVT_DROPA else TM_EVT_DROPB)
        else
          let d := hqPut d e 3 256 b
          if last then msiDue d e 2 else d) d
      let d := if last then d.wr TM_STATUS_BUSY 0 0 else d
      paceEnded d 4 0

/-- Reads of new descriptors are issued in phase B: at most 4 requests of at most 8 (R287, R294, R296). -/
def fetchIssue (d : Dev) (e : Nat) : Dev :=
  if !hqOn d e 0 ∨ !hqOn d e 1 then d
  else
    let x := d.hep e
    let new := (d.rd HQ_CQ_IDX_PI e + 65536 - x.issued) % 65536
    let room := hqSize d e 1 - hqHeld d e 1 - x.resv
    let n := min (min new room) 32
    let reqs : List (Nat × Nat) := (List.range 4).filterMap (fun i =>
      let m := min 8 (n - 8 * i)
      if m = 0 then none else some (m, hqAddr d e 0 (x.issued + 8 * i) 64))
    let d := { d with out := d.out ++ reqs.map (fun (r : Nat × Nat) => Emission.fetch e r.2 r.1) }
    d.setEp e { x with reads := x.reads ++ reqs.map (fun (r : Nat × Nat) => (⟨d.cur, r.1⟩ : FetchReq)), issued := (x.issued + n) % 65536,
                       resv := x.resv + n }

/-- The mirror block at the end of a tick (MIRROR_BLOCK_WRITE, R289). -/
def mirrorWrite (d : Dev) (e : Nat) : Dev :=
  if !(d.hep e).mirror then d
  else
    let d := d.setEp e { d.hep e with mirror := false }
    if !d.fl HQ_MIR_CFG_EN e then d
    else
      let a := d.rd HQ_MIR_HI e * 2 ^ 32 + d.rd HQ_MIR_LO_ADDR e * 16
      d.emit (.mirror e a (le 2 (d.rd HQ_CQ_IDX_CI e) ++ le 2 (d.rd HQ_CPL_IDX_PI e) ++ le 2 (d.rd HQ_EVQ_IDX_PI e)
        ++ le 2 (d.rd HQ_TEL_IDX_PI e) ++ le 8 d.tb.pm))

/-! ### MSI-X (R304) -/

/-- Moderation of vectors 0 and 1 at the end of a tick (R304). -/
def moderate (d : Dev) (e : Nat) : Dev :=
  let f := fun (m : Option (Nat × Nat)) (cnt time : Nat) => match m with
    | some (n, t) => decide (cnt ≤ n) || decide (t + time ≤ d.tb.now)
    | none => false
  let x := d.hep e
  let d := if f x.mod0 (d.rd1 HQ_CPL_CFG_ICOUNT e) (d.rd1 HQ_CPL_CFG_ITIME e) then msiDue d e 0 else d
  if f x.mod1 (d.rd1 HQ_EVQ_CFG_ICOUNT e) (d.rd1 HQ_EVQ_CFG_ITIME e) then msiDue d e 1 else d

/-- A vector may send: MSI-X is enabled, and neither the function nor the vector is masked (R7). -/
def msixOpen (x : HostEp) (v : Nat) : Bool := x.msixOn && !x.msixMaskAll && !bitOf x.msixMask v

/-- A vector has a message to send: one that is due, or a pending one whose mask has gone. -/
def msixDue (d : Dev) (e v : Nat) : Bool :=
  bitOf (d.hep e).msi v || (bitOf (d.hep e).msixPend v && msixOpen (d.hep e) v)

/-- MSIX_MESSAGE (R304, R439). A masked vector's message stays in its pending bit (R7, R285); with MSI-X disabled none is
sent. -/
def msixSend (d : Dev) (e v : Nat) : Dev :=
  let x := d.hep e
  if !msixDue d e v then d
  else
    let sent := msixOpen x v
    let x := { x with msi := setBit x.msi v false, msixPend := setBit x.msixPend v (x.msixOn && !sent) }
    let x := if v = 0 then { x with mod0 := none } else if v = 1 then { x with mod1 := none } else x
    let d := d.setEp e x
    if sent then d.emit (.msix e v) else d

/-! ### Pigeonholes (R300 to R303) -/

/-- The state of a hole: 0 FREE, 1 HOST, 2 DEVICE, 3 DONE. -/
def phState (d : Dev) (n : Nat) : Nat := d.rd HQ_PH_STATE n
/-- The holder of a hole. -/
def phHolder (d : Dev) (n : Nat) : Nat := d.rd HQ_PH_HOLDER n
/-- A hole takes a state. -/
def phGo (d : Dev) (n st : Nat) : Dev :=
  { d.wr HQ_PH_STATE n st with host := { d.host with phAt := Tbl.set 0 d.host.phAt n d.cur } }

/-- A PH_OP write: claim 1, release 2 (PH_CLAIM, PH_RELEASE, R301). -/
def phOp (d : Dev) (e n op : Nat) : Dev :=
  let n := n % 64
  let st := phState d n
  if op = 1 then
    if st = 0 ∧ n < 56 then (phGo d n 1).wr HQ_PH_HOLDER n e else d.ev HQ_EVT_PHVIOL e
  else if op = 2 then
    if (st = 1 ∨ st = 3) ∧ phHolder d n = e then (phGo d n 0).wr HQ_PH_LEN n 0 else d.ev HQ_EVT_PHVIOL e
  else d

/-- A BAR2 write, at a byte offset of the window (PH_BAR2_WRITE, R302). -/
def phWrite (s : Sys) (e ofs : Nat) (data : List Nat) : Sys :=
  let d := s.dev
  let ok := decide (ofs + data.length ≤ 0x40000) && (List.range 64).all (fun n =>
    decide (ofs + data.length ≤ n * 4096) || decide ((n + 1) * 4096 ≤ ofs) || (phState d n == 1 && phHolder d n == e))
  if ok then { s with ph := Mem.put s.ph ofs data }
  else { s with dev := (d.ev HQ_EVT_PHVIOL e).recd 0x0C02 0 (12 + e) [] }

/-- A hole in DEVICE ends its work: state `st`, or FREE with its result discarded where its holder went down (R303). -/
def phFinish (d : Dev) (n st : Nat) : Dev :=
  if bitOf d.host.phDrop n then
    let d := { d with host := { d.host with phDrop := setBit d.host.phDrop n false } }
    let d := (phGo d n 0).wr HQ_PH_LEN n 0
    (d.ev HQ_EVT_RECLAIM (phHolder d n)).recd 0x0C03 0 (12 + phHolder d n) []
  else msiDue (phGo d n st) (phHolder d n) 3

/-- The hole of a command ends its work in a state; a number above 63 stands for no hole. -/
def holeEnd (d : Dev) (n st : Nat) : Dev := if n < 64 then phFinish d n st else d

/-- PH_RECLAIM is due: no change for HQ_PHTO ms of the holder (R303). -/
def reclaimDue (d : Dev) (n : Nat) : Bool :=
  (phState d n == 1 || phState d n == 3) &&
    decide (Tbl.get 0 d.host.phAt n + d.rd1 HQ_PHTO (phHolder d n) * 1000 ≤ d.tb.now)

/-- PH_RECLAIM (R303). -/
def reclaim (d : Dev) (n : Nat) : Dev :=
  let e := phHolder d n
  let d := (phGo d n 0).wr HQ_PH_LEN n 0
  msiDue ((d.ev HQ_EVT_RECLAIM e).recd 0x0C03 0 (12 + e) []) e 3

/-- The lowest free result hole (R301). -/
def resultHole (d : Dev) : Option Nat := ((List.range 8).map (· + 56)).find? (fun n => phState d n == 0)

/-- A query's bytes go to a result hole, which enters DONE (R301); the RESULT field, or none when none is free. -/
def queryResult (s : Sys) (e : Nat) (bytes : List Nat) : Option (Nat × Sys) :=
  match resultHole s.dev with
  | none => none
  | some n =>
    let d := ((phGo s.dev n 3).wr HQ_PH_HOLDER n e).wr HQ_PH_LEN n bytes.length
    some (n + bytes.length * 256, { s with dev := msiDue d e 3, ph := Mem.put s.ph (n * 4096) bytes })

/-! ### Endpoints (R286, R299) -/

/-- Every field of an endpoint's HQ_ group. -/
def hqGroup : List Reg := all2.filter (fun r => r.per == .ep)

/-- An endpoint goes down (ENDPOINT_DOWN, R286, R303, R308). -/
def endpointDown (d : Dev) (e : Nat) : Dev :=
  let d := forL hqGroup (fun r d => d.wr r e (r.rstAt e)) d
  let d := { d with staged := d.staged.filter (fun s => !(s.reg.per == .ep && hqGroup.contains s.reg && s.ix == e)) }
  let d := forIx 64 (fun n d =>
    if phHolder d n = e then
      if phState d n = 1 ∨ phState d n = 3 then reclaim d n
      else if phState d n = 2 then { d with host := { d.host with phDrop := setBit d.host.phDrop n true } } else d
    else d) d
  let g := (d.hep e).gen + 1
  (d.setEp e { gen := g }).wr (if e = 0 then AU_STATUS_ESET_A else AU_STATUS_ESET_B) 0 0

/-- An endpoint comes back (ENDPOINT_UP, R286). -/
def endpointUp (d : Dev) (e : Nat) : Dev := d.wr HQ_STATUS_LINK e 1

/-- A ring's DMA fails (HOST_DMA_ERR, R299). -/
def hostDmaErr (d : Dev) (e k : Nat) : Dev :=
  let d := d.wr (hostRing k).en e 0
  let d := if k = 0 then readsDrop d e else d
  ((d.inc HQ_DMAERR e).ev HQ_EVT_DMAERR e).recd 0x0C00 0 (12 + e) []

end Sys2Proof.Machine
end

