-- ==== Sys2Proof/Machine/Recorder.lean ====
section
/-! DEFINITION. The event recorder's write path, registrations, clearing and readout (R324 to R339), and the store's
error handling (R342). -/

namespace Sys2Proof.Machine
open R

/-- The store's part of an access (STORE_CORRECTION, STORE_WRITE_FAIL, R342); true where a write failed. -/
def storeCase (s : Sys) (k : StoreCase) : Bool × Sys :=
  match k with
  | .fine => (false, s)
  | .corrected => (false, s.on (fun d => (d.inc NV_CORR).ev NV_EVT_CORR))
  | .uncorrectable a w =>
    (false, { s with dev := ((s.dev.inc NV_UNCORR).ev NV_EVT_UNCORR).wr NV_FAILADDR 0 a.toNat, nv := Mem.put s.nv (a.toNat / 8 * 8) (fit 8 (natBytes w)) })
  | .writeFail a => (true, s.on (fun d => (((d.ev NV_EVT_WFAIL).wr NV_FAILADDR 0 a.toNat).recd 0x0E0B 0 10 [])))

/-- Store address of slot `k` of the rolling region; the manual fixes the regions' sizes, the model their order. -/
def rollAddr (k : Nat) : Nat := 0x980000 + 64 * k
/-- Store address of position `p` of the registered region. -/
def regdAddr (p : Nat) : Nat := 0x980000 + 64 * (81920 + p)

/-- The 60 bytes of a record before FRANK (R324). -/
def recHead (pm rnum code cls src sev epoch flags rep : Nat) (pay : List Nat) : List Nat :=
  le 8 pm ++ le 4 rnum ++ le 2 code ++ le 2 src ++ [sev % 16 + cls % 16 * 16, epoch % 16 + flags * 16] ++ le 2 rep ++ fit 40 pay

/-- A record with its FRANK (R325). -/
def frank (h : List Nat) : List Nat := h ++ le 4 (crc32 h)

/-- A record's franking is sound (R325). -/
def frankOk (b : List Nat) : Bool := crc32 (b.take 60) == leAt b 60 4

/-- Records the rolling region can return. -/
def rollCount (d : Dev) : Nat := d.rcd.count

/-- The slot of the record numbered `n`, if it is present in the rolling region. -/
def rollSlot (d : Dev) (n : Nat) : Option Nat :=
  let back := (d.rd EV_RNUM + 2 ^ 32 - n % 2 ^ 32) % 2 ^ 32
  if 1 ≤ back ∧ back ≤ rollCount d then some ((d.rcd.head + 81920 - back) % 81920) else none

/-- The registration that captures. -/
def capturing (d : Dev) : Option Nat := firstIx 16 (fun i => d.rd EV_REGD_STATE i == 1)

/-- A record matches an enabled trigger entry, or is a manual trigger (R330). -/
def isTrigger (d : Dev) (code sev : Nat) : Bool :=
  d.fl EV_CTRL_TRIG_EN && (code == 0x0D03 || (List.range 8).any (fun j =>
    d.fl EV_TRIG_EN j && (if d.fl EV_TRIG_SEVMODE j then decide (d.rd EV_TRIG_SEV j ≤ sev) else d.rd EV_TRIG_CODE j == code)))

/-- A record joins the capturing registration (R330). -/
def captureRec (s : Sys) (b : List Nat) : Sys :=
  match capturing s.dev with
  | none => s
  | some i =>
    let d := s.dev
    let p := i * 1024 + d.rd EV_REGD_NPRE i + d.rd EV_REGD_NPOST i
    let n := d.rd EV_REGD_NPOST i + 1
    let d := d.wr EV_REGD_NPOST i n
    let d := if 768 ≤ n then d.wr EV_REGD_STATE i 2 else d
    { s with dev := d, nv := Mem.put s.nv (regdAddr p) b }

/-- A registration opens for the record about to be written: the records before it are copied, and its REG_OPEN record, refused as
R26 sets out, follows that record: with the lowest key it stands before whatever else joins in its tick (REG_OPEN, R330). -/
def regOpen (s : Sys) (i rnum code : Nat) : Sys :=
  let d := s.dev
  let n := min 256 (rollCount d)
  let nv := forIx n (fun k m =>
    let slot := (d.rcd.head + 81920 - n + k) % 81920
    Mem.put m (regdAddr (i * 1024 + k)) (Mem.bytes s.nv (rollAddr slot) 64)) s.nv
  let d := ((d.wr EV_REGD_TRNUM i rnum).wr EV_REGD_EPOCH i (d.rd EV_STATUS_EPOCH)).wr EV_REGD_STATE i 1
  let d := ((d.wr EV_REGD_NPRE i n).wr EV_REGD_NPOST i 0).wr EV_REGD_NTRIG i 0
  let d := (d.wr EV_REGD_CODE i code).ev EV_EVT_TRIG
  let e : Ent := { pm := d.curPm, code := 0x0D02, cls := 0, src := 9, sev := sevOf 0x0D02, pay := fit 40 [i], tick := d.cur }
  { s with dev := if 768 ≤ d.rcd.queue.length then refuseEnt d else { d with rcd := { d.rcd with queue := e :: d.rcd.queue } }, nv := nv }

/-- A new record is written to the rolling region and a capturing registration, and to the event rings (R297, R327). -/
def putRecord (s : Sys) (pm code cls src sev rep : Nat) (sat : Bool) (pay : List Nat) : Sys :=
  let d := s.dev
  let rnum := d.rd EV_RNUM
  let trig := isTrigger d code sev
  let slot := firstIx 16 (fun i => d.rd EV_REGD_STATE i == 0)
  let opens := trig && (capturing d).isNone && slot.isSome
  let flags := sat.toNat + opens.toNat * 2 + d.rcd.drop.toNat * 4
  let b := frank (recHead pm rnum code cls src sev (d.rd EV_STATUS_EPOCH) flags rep pay)
  let s := if opens then regOpen s (slot.getD 0) rnum code
    else if trig then
      match capturing d with
      | some i => s.on (fun d => d.inc EV_REGD_NTRIG i)
      | none => s.on (fun d => (d.ev EV_EVT_REFUSED).recd 0x0D06 0 9 (le 4 rnum))
    else s
  let s := captureRec s b
  let d := s.dev
  let nv := Mem.put s.nv (rollAddr d.rcd.head) b
  let d := { d with rcd := { d.rcd with head := (d.rcd.head + 1) % 81920, count := min 81920 (d.rcd.count + 1), drop := false } }
  let d := if rnum + 1 = 2 ^ 32 then
      { d.wr EV_STATUS_EPOCH 0 (d.rd EV_STATUS_EPOCH + 1) with rcd := { d.rcd with wrap := true } }
    else d
  { s with dev := eventWrite (d.wr EV_RNUM 0 ((rnum + 1) % 2 ^ 32)) b, nv := nv }

/-- A record as it stands after its close rewrite (R328). -/
def rewriteBytes (b : List Nat) (w : Rewrite) : List Nat :=
  let f := b.getD 17 0
  let f := setBit (if w.sat then setBit f 4 true else f) 7 true
  frank (b.take 17 ++ [f] ++ le 2 w.rep ++ (b.drop 20).take 32 ++ le 8 w.lastPm)

/-- Positions of the registered region that hold the record of a number and epoch. -/
def regdPositions (s : Sys) (rnum epoch : Nat) : List Nat :=
  (List.range 16).flatMap (fun i =>
    if s.dev.rd EV_REGD_STATE i = 0 then []
    else ((List.range (s.dev.rd EV_REGD_NPRE i + s.dev.rd EV_REGD_NPOST i)).map (· + i * 1024)).filter (fun p =>
      leAt (Mem.bytes s.nv (regdAddr p + 8) 10) 0 4 == rnum && Mem.rd s.nv (regdAddr p + 17) % 16 == epoch % 16))

/-- CLOSE_REWRITE (R328). -/
def closeRewrite (s : Sys) (w : Rewrite) : Sys :=
  let ps := regdPositions s w.rnum w.epoch
  let old := match rollSlot s.dev w.rnum with
    | some k => some (Mem.bytes s.nv (rollAddr k) 64)
    | none => ps.head?.map (fun p => Mem.bytes s.nv (regdAddr p) 64)
  match old with
  | none => s
  | some b =>
    let b := rewriteBytes b w
    let nv := match rollSlot s.dev w.rnum with
      | some k => Mem.put s.nv (rollAddr k) b
      | none => s.nv
    let nv := forL ps (fun p m => Mem.put m (regdAddr p) b) nv
    { s with dev := eventWrite s.dev b, nv := nv }

/-- Step 2 of R334: the cleared scope becomes unreadable, and its CLEAR record comes next. -/
def clearApply (s : Sys) (c : ClearOp) : Sys :=
  let d := s.dev
  let last := (d.rd EV_RNUM + 2 ^ 32 - 1) % 2 ^ 32
  let first := (d.rd EV_RNUM + 2 ^ 32 - rollCount d) % 2 ^ 32
  let d := if c.scope = 1 then forIx 16 (fun i d => d.wr EV_REGD_STATE i 0) d else d
  let d := { d with rcd := { d.rcd with count := 0, zeroing := some c.scope,
                                        clrRec := some ([c.scope, c.kcls] ++ le 8 c.nonce ++ le 4 first ++ le 4 last) } }
  { s with dev := d.ev EV_EVT_CLEAR }

/-- A clear whose earlier entries are all written applies (R334). -/
def clearTick (s : Sys) : Sys :=
  match s.dev.rcd.clr with
  | some c => if s.dev.rcd.queue.all (fun e => !e.clr) && s.dev.rcd.clrRec.isNone then clearApply s c else s
  | none => s

/-- The CLEAR record is written and the command completes (R334). -/
def clearWrite (s : Sys) (pay : List Nat) : Sys :=
  let s := s.on (fun d => { d with rcd := { d.rcd with clrRec := none } })
  let s := putRecord s s.dev.curPm 0x0D00 0 9 (sevOf 0x0D00) 1 false pay
  match s.dev.rcd.clr with
  | some c =>
    let d := { s.dev with rcd := { s.dev.rcd with clr := none } }
    { s with dev := completeAll (holeEnd d c.hole 0) c.ctxs stSuccess 0 }
  | none => s

/-- An entry of the queue is written; its open record learns its number (R326, R328). -/
def writeEnt (s : Sys) (e : Ent) : Sys :=
  let d := s.dev
  let rnum := d.rd EV_RNUM
  let ep := d.rd EV_STATUS_EPOCH
  let o := d.rcd.opens.find? (fun o => o.oid == e.openId && e.openId != 0)
  let rep := match o with
    | some o => o.rep
    | none => e.rep
  let pay := match o with
    | some o => e.pay.take 32 ++ le 8 o.lastPm
    | none => e.pay
  let opens := d.rcd.opens.map (fun x => if x.oid = e.openId then { x with written := some (rnum, ep, rep) } else x)
  let d := { d with rcd := { d.rcd with opens := opens } }
  clearTick (putRecord { s with dev := d } e.pm e.code e.cls e.src e.sev rep e.sat pay)

/-- A WRAP record is due (R326, R327). -/
def wrapDue (d : Dev) : Bool := d.rd EV_RNUM == 0 && d.rcd.wrap

/-- The WRAP record, number 0 of the new epoch, with the old epoch (R326). -/
def wrapWrite (s : Sys) : Sys :=
  let was := (s.dev.rd EV_STATUS_EPOCH + 65535) % 65536
  let s := s.on (fun d => { d.ev EV_EVT_WRAP with rcd := { d.rcd with wrap := false } })
  putRecord s s.dev.curPm 0x0D01 0 9 (sevOf 0x0D01) 1 false (le 2 was)

/-- A write slot is open and something is to be written: a queued entry no earlier than the tick after it joined (R27, R270,
R327). -/
def recordDue (d : Dev) : Bool :=
  decide (d.rcd.nextWrite ≤ d.tb.now) && paceReady d 2
    && (wrapDue d || d.rcd.clrRec.isSome || !d.rcd.rewrites.isEmpty || d.rcd.queue.head?.any (fun e => decide (e.tick < d.tb.now)))

/-- RECORD_WRITE in the order of R327; a write that fails twice leaves the slot as it was (R342). DESIGN CHOICE: where a CLEAR and
a WRAP record are both due, WRAP comes first: it alone may take number 0 (R326, log entry 83). -/
def recordWrite (s : Sys) (k : StoreCase) : Sys :=
  if !recordDue s.dev then s
  else
    let (bad, s) := storeCase s k
    let old := s.nv
    let s := match s.dev.rcd.clrRec, s.dev.rcd.rewrites, s.dev.rcd.queue with
      | some p, _, _ => if wrapDue s.dev then wrapWrite s else clearWrite s p
      | none, w :: ws, _ => closeRewrite (s.on (fun d => { d with rcd := { d.rcd with rewrites := ws } })) w
      | none, [], q =>
        if wrapDue s.dev then wrapWrite s
        else match q with
          | e :: es => writeEnt (s.on (fun d => { d with rcd := { d.rcd with queue := es } })) e
          | [] => s
    let s := if bad then { s with nv := old } else s
    let d := s.dev
    let d := { d with rcd := { d.rcd with nextWrite := d.tb.now + 5 } }
    let d := paceEnded d 2 5
    let d := if 0 < d.rcd.refused ∧ d.rcd.queue.length < 768 then
        let d := d.recd 0x0D05 0 9 (le 4 d.rcd.refused)
        { d with rcd := { d.rcd with refused := 0 } }
      else d
    { s with dev := d }

/-- An open record has been quiet for QUIET ticks (R328). -/
def closeDue (d : Dev) (cls src : Nat) : Bool :=
  d.rcd.opens.any (fun o => o.cls == cls && o.src == src && decide (o.lastTick + d.rd1 EV_FOLD_QUIET ≤ d.tb.now))

/-- RECORD_CLOSE for a source (R328). -/
def recordClose (d : Dev) (cls src : Nat) : Dev :=
  { d with rcd := forL (d.rcd.opens.filter (fun o =>
    o.cls == cls && o.src == src && decide (o.lastTick + d.rd1 EV_FOLD_QUIET ≤ d.tb.now))) (fun o r => closeRec r o false) d.rcd }

/-- EV_CMD.REGISTER: a REG_MANUAL record joins as a trigger (R330). -/
def manualTrigger (d : Dev) : Dev := d.recd 0x0D03 0 9 []

/-- The zero overwrite of a cleared scope completes (CLEAR_OVERWRITE_DONE, R334). -/
def overwriteDone (s : Sys) : Sys :=
  match s.dev.rcd.zeroing with
  | none => s
  | some scope =>
    let d := s.dev
    let live := fun k => decide ((d.rcd.head + 81920 - 1 - k) % 81920 < rollCount d)
    let gone := fun a =>
      if a < rollAddr 0 then false
      else if a < rollAddr 81920 then !live ((a - rollAddr 0) / 64)
      else if a < regdAddr 16384 then scope == 1 && d.rd EV_REGD_STATE ((a - regdAddr 0) / 65536) == 0 else false
    { s with dev := { d with rcd := { d.rcd with zeroing := none } }, nv := Mem.drop s.nv gone }

/-- Every bucket fills up at a frame boundary, and RATE_SUPPRESS: a bucket that dropped entries holds a token again (R329). -/
def recFrame (d : Dev) : Dev :=
  forL (d.rcd.buckets.map Prod.fst) (fun k d =>
    let code := k / 16
    let b := bucketNow d code (Tbl.get {} d.rcd.buckets k)
    if b.drop = 0 ∨ b.lvl < 1000000 then { d with rcd := { d.rcd with buckets := Tbl.set {} d.rcd.buckets k b } }
    else
      let d := { d with rcd := { d.rcd with buckets := Tbl.set {} d.rcd.buckets k { b with lvl := b.lvl - 1000000, drop := 0 } } }
      d.recd 0x0D04 0 9 (le 2 code ++ [0, 0] ++ le 4 b.drop)) d

/-! ### Readout (R325, R337) -/

/-- A record as read; a failed franking is counted (FRANKING_CHECK, R325). -/
def readRec (s : Sys) (a : Nat) : List Nat × Sys :=
  let b := Mem.bytes s.nv a 64
  (b, if frankOk b then s else s.on (fun d => (d.inc EV_FRKERR).ev EV_EVT_FRKERR))

/-- The store address of a position of the registered region, if a registration has filled it. -/
def regdPos (d : Dev) (p : Nat) : Option Nat :=
  let i := p / 1024
  if i < 16 ∧ d.rd EV_REGD_STATE i ≠ 0 ∧ p % 1024 < d.rd EV_REGD_NPRE i + d.rd EV_REGD_NPOST i then some (regdAddr p) else none

/-- The oldest record present whose number is not earlier than `n` (R307, R337), as its distance back from EV_RNUM; 0 for
none. With x the difference of `n` and the oldest number, the oldest record qualifies unless `n` is later. -/
def rollFirst (d : Dev) (n : Nat) : Nat :=
  let c := rollCount d
  let x := (c + n % 2 ^ 32 + 2 ^ 32 - d.rd EV_RNUM) % 2 ^ 32
  if x = 0 ∨ 2 ^ 31 ≤ x then c else if x < c then c - x else 0

/-- The store addresses that EV_READ returns (R337). -/
def readAddrs (d : Dev) (region start count : Nat) : List Nat :=
  if region = 0 then
    let b := rollFirst d start
    (List.range (min count b)).map (fun k => rollAddr ((d.rcd.head + 81920 - b + k) % 81920))
  else (List.range count).filterMap (fun k => regdPos d (start + k))

/-- The records that EV_READ returns, with the frankings checked. -/
def readRecs (s : Sys) (l : List Nat) : List Nat × Sys :=
  l.foldl (fun x a => let (b, s) := readRec x.2 a; (x.1 ++ b, s)) ([], s)

/-- The record that EV_RWIN shows for an accessor (R337, R339). -/
def rwinRec (s : Sys) (acc : Nat) : Option Nat :=
  let d := s.dev
  if d.rd EV_RSEL_REGION acc = 0 then (rollSlot d (d.rd EV_RPOS acc)).map rollAddr else regdPos d (d.rd EV_RPOS acc)

end Sys2Proof.Machine
end

