-- ==== Sys2Proof/Machine/Pairing.lean ====
section
/-! DEFINITION. Twin hosts: pairing, divergences, verdicts, dead letters and the brace (R306 to R323). -/

namespace Sys2Proof.Machine
open R

/-- Opcodes that R291 marks G. -/
def gatedOps : List Nat := [0x0102, 0x0111, 0x0119, 0x011A, 0x0141, 0x0143, 0x0151, 0x0161, 0x0182, 0x0192, 0x0193, 0x01A0, 0x01B0, 0x01B1]

/-- Opcodes that R291 marks L. -/
def localOps : List Nat := [0x0001, 0x0002, 0x0003, 0x0004, 0x0180]

/-- The opcode of a descriptor (R290). -/
def descOp (b : List Nat) : Nat := leAt b 0 2
/-- FLAGS.LOCAL. -/
def descLocal (b : List Nat) : Bool := bitOf (b.getD 2 0) 1

/-- Positions of the bytes that pairing ignores (R309): FLAGS, TAG, SEQ and the arguments marked * in R291. -/
def digestSkip (op : Nat) : List Nat :=
  [2, 4, 5, 6, 7, 8, 9, 10, 11] ++ (if op = 0x0004 then [16, 24, 25, 26, 27, 28, 29, 30, 31]
    else if op = 0x0010 ∨ op = 0x0180 ∨ op = 0x0182 ∨ op = 0x0191 then [16] else [])

/-- The digest of a copy (R309). -/
def copyDigest (b : List Nat) : Nat :=
  crc32 ((List.range 64).map (fun i => if (digestSkip (descOp b)).contains i then 0 else b.getD i 0))

/-- The context of a copy fetched from an endpoint. -/
def copyCtx (d : Dev) (e cidx : Nat) (b : List Nat) : HCtx :=
  { src := e, seq := leAt b 4 4, tag := leAt b 8 4, irq := bitOf (b.getD 2 0) 0, lcl := descLocal b, cidx := cidx, gen := (d.hep e).gen }

/-- A copy completes as a dead letter (PAIR_DEAD_LETTER, R317). -/
def deadLetter (d : Dev) (c : CopyRec) (reason : Nat) : Dev :=
  let d := complete d c.ctx stDead 0 reason
  if reason = 1 then d
  else (d.inc AU_DLCNT).recd 0x0C06 (8 + c.ctx.src) 0 []

/-- DIVERGE_N follows the held divergences and the pulse (R316). -/
def divergePin (d : Dev) : Dev :=
  let on := !d.au.held.isEmpty || d.au.pulseEnd.isSome
  let d := (d.wrB AU_STATUS_DIVERGE 0 on).wrB GL_STATUS_DIVERGE 0 on
  let d := (d.wr AU_STATUS_NHELD 0 d.au.held.length).wr AU_NPEND 0 d.au.table.length
  match d.au.held with
  | h :: _ => ((d.wr AU_DIV_SEQ 0 h.seq).wr AU_DIV_DIGA 0 h.a.dig).wr AU_DIV_DIGB 0 h.b.dig
  | [] => d

/-- A command takes its place behind those of earlier ticks and of its own tick with no greater rank (R28, R29). -/
def dispIns (q : List DispItem) (x : DispItem) : List DispItem :=
  q.takeWhile (fun y => decide (y.tick < x.tick) || (y.tick == x.tick && decide (y.rank ≤ x.rank)))
    ++ [x] ++ q.dropWhile (fun y => decide (y.tick < x.tick) || (y.tick == x.tick && decide (y.rank ≤ x.rank)))

/-- A command is handed to the dispatcher (R28). -/
def dispatchPush (d : Dev) (b : List Nat) (cs : List HCtx) : Dev :=
  let x : DispItem := { bytes := b, ctxs := cs, tick := d.cur, rank := 2 * (cs.headD {}).src }
  { d with host := { d.host with dq := dispIns d.host.dq x } }

/-- An entry closes as if its window had expired (R310, R313). -/
def pairExpire (d : Dev) (p : PairEnt) : Dev :=
  let d := { d with au := { d.au with table := d.au.table.filter (fun x => x.seq != p.seq) } }
  if !p.gated then d
  else if d.rd AU_STATUS_AUTH = p.copy.ctx.src + 1 then dispatchPush d p.copy.bytes [p.copy.ctx]
  else deadLetter (d.ev AU_EVT_NOPAIR) p.copy 3

/-- A first copy enters the table; a full table evicts its oldest entry (PAIR_EVICT, R310 to R312). -/
def pairFirst (d : Dev) (c : CopyRec) (gated : Bool) : Dev :=
  let d := if 1024 ≤ d.au.table.length then
      match d.au.table with
      | p :: _ => pairExpire ((d.inc AU_EVICT).ev AU_EVT_EVICT) p
      | [] => d
    else d
  let d := { d with au := { d.au with table := d.au.table ++ [{ seq := c.ctx.seq, at_ := d.cur, gated := gated, copy := c }] } }
  if gated then d else dispatchPush d c.bytes [c.ctx]

/-- A PAIR_DIVERGE record (R311, R315). -/
def divergeRec (d : Dev) (seq op da db : Nat) : Dev := d.recd 0x0C04 0 11 (le 4 seq ++ le 2 op ++ le 4 da ++ le 4 db)

/-- Host A's and host B's of two copies. -/
def abOf (p c : CopyRec) : CopyRec × CopyRec := if p.ctx.src = 0 then (p, c) else (c, p)

/-- A gated command whose copies disagree is held, or both copies end at once when 8 are held (PAIR_DIVERGE, R315). -/
def divergeHold (d : Dev) (p c : CopyRec) : Dev :=
  let (a, b) := abOf p c
  let d := (d.inc AU_DIVCNT).ev AU_EVT_GDIV
  let d := divergeRec d p.ctx.seq (descOp p.bytes) a.dig b.dig
  if 8 ≤ d.au.held.length then deadLetter (deadLetter d a 6) b 6
  else { d.alert TW_ALERT_DIVERGE with au := { d.au with held := d.au.held ++ [{ seq := p.ctx.seq, at_ := d.cur, a := a, b := b }] } }

/-- A second copy closes its entry (R311, R312). -/
def pairSecond (d : Dev) (p : PairEnt) (c : CopyRec) : Dev :=
  let d := { d with au := { d.au with table := d.au.table.filter (fun x => x.seq != p.seq) } }
  if p.gated then
    if p.copy.dig = c.dig then dispatchPush d p.copy.bytes [p.copy.ctx, c.ctx] else divergeHold d p.copy c
  else if p.copy.dig = c.dig then deadLetter d c 1
  else
    let (a, b) := abOf p.copy c
    let d := (d.inc AU_DIVCNT).ev AU_EVT_UDIV
    let d := divergeRec d p.seq (descOp c.bytes) a.dig b.dig
    let d := { d with au := { d.au with pulseEnd := some (d.cur + d.rd1 AU_TIME_DPULSE) } }
    deadLetter d c 2

/-- The SEQ fields of an endpoint. -/
def seqReg (e : Nat) : Reg := if e = 0 then AU_SEQ_A else AU_SEQ_B
/-- Whether E of an endpoint is set. -/
def seqSet (e : Nat) : Reg := if e = 0 then AU_STATUS_ESET_A else AU_STATUS_ESET_B

/-- A copy that passed the checks moves its sender's SEQ on (R308). -/
def seqAdmit (d : Dev) (e s : Nat) : Dev :=
  let d := (d.wr (seqReg e) 0 s).wr (seqSet e) 0 1
  if !d.au.hset ∨ laterThan s (d.rd AU_HSEQ) then { d.wr AU_HSEQ 0 s with au := { d.au with hset := true } } else d

/-- An arrived copy is paired or handed on (PAIR_COPY, R306, R308, R310 to R314). DESIGN CHOICE: a gated copy that arrives in a
management halt ends before the checks of R308 and leaves E of its endpoint as it is (log entry 82). -/
def pairCopy (d : Dev) (x : HCtx) (b : List Nat) : Dev :=
  let c : CopyRec := { ctx := x, dig := copyDigest b, bytes := b }
  let e := x.src
  let gated := gatedOps.contains (descOp b)
  let mode := d.rd AU_CTRL_MODE
  let y := 1 - e
  let s := c.ctx.seq
  if c.ctx.lcl then dispatchPush d b [c.ctx]
  else if mode ≠ 2 ∧ mode ≠ e then deadLetter d c 8
  else if gated ∧ d.fl GL_STATUS_MHALT then deadLetter d c 9
  else if mode ≠ 2 then dispatchPush d b [c.ctx]
  else if d.fl (seqSet e) ∧ !laterThan s (d.rd (seqReg e)) then deadLetter (d.ev AU_EVT_LATE) c 5
  else
    match d.au.table.find? (fun p => p.seq == s) with
    | some p => pairSecond (seqAdmit d e s) p c
    | none =>
      if d.fl (seqSet y) ∧ !laterThan s (d.rd (seqReg y)) then deadLetter (d.ev AU_EVT_LATE) c 4
      else pairFirst (seqAdmit d e s) c gated

/-- A read of descriptors completes (DESCRIPTOR_FETCH, R294, R296): the oldest read under way; its descriptors are latched. -/
def descFetch (d : Dev) (e : Nat) (ds : List (List Nat)) : Dev :=
  match (d.hep e).reads with
  | [] => d
  | r :: rs =>
    let d := d.setEp e { d.hep e with reads := rs }
    let d := if r.tick + 2 < d.cur then (d.inc HQ_LATE e).ev HQ_EVT_LATE e else d
    let ci := d.rd HQ_CQ_IDX_CI e
    let d := mirrorDirty (d.wr HQ_CQ_IDX_CI e ((ci + r.n) % 65536)) e
    let cs := (List.range r.n).map (fun i =>
      let b := fit 64 (ds.getD i [])
      (copyCtx d e ((ci + i) % 65536) b, b))
    { d with host := { d.host with arr := d.host.arr ++ cs } }

/-- In phase B every arrived copy is paired or handed on, host A's copies first (R29, R310). -/
def pairArrived (d : Dev) : Dev :=
  let l := d.host.arr
  if l.isEmpty then d
  else
    let d := { d with host := { d.host with arr := [] } }
    divergePin (forL (l.filter (fun x => x.1.src == 0) ++ l.filter (fun x => x.1.src != 0)) (fun x d => pairCopy d x.1 x.2) d)

/-- A window has expired (R313). -/
def windowDue (d : Dev) (s : Nat) : Bool :=
  d.au.table.any (fun p => p.seq == s && decide (p.at_ + clampN 1 1000 (d.rd AU_WIN_WIN) ≤ d.tb.now))

/-- PAIR_WINDOW_EXPIRY (R313). -/
def windowExpiry (d : Dev) (s : Nat) : Dev :=
  match d.au.table.find? (fun p => p.seq == s) with
  | some p => divergePin (pairExpire d p)
  | none => d

/-- A verdict (AU_VERDICT, R315). DESIGN CHOICE: one that names no held SEQ is ignored, and writes no record (log entry 82). -/
def verdict (d : Dev) (action : Nat) : Dev :=
  let s := d.rd AU_VERDICT_SEQ
  if action % 4 = 0 then d
  else
    match d.au.held.find? (fun h => h.seq == s) with
    | none => d.ev AU_EVT_VREFUSED
    | some h =>
      let d := { d with au := { d.au with held := d.au.held.filter (fun x => x.seq != s) } }
      let d := (d.ev AU_EVT_VERDICT).recd 0x0C05 0 11 []
      divergePin (match action % 4 with
        | 1 => deadLetter (dispatchPush d h.a.bytes [h.a.ctx]) h.b 7
        | 2 => deadLetter (dispatchPush d h.b.bytes [h.b.ctx]) h.a 7
        | _ => deadLetter (deadLetter d h.a 6) h.b 6)

/-- A verdict wait has expired (R315). -/
def verdictDue (d : Dev) (s : Nat) : Bool :=
  d.au.held.any (fun h => h.seq == s && decide (h.at_ + d.rd1 AU_TIME_VWAIT ≤ d.tb.now))

/-- VERDICT_TIMEOUT (R315). -/
def verdictTimeout (d : Dev) (s : Nat) : Dev :=
  match d.au.held.find? (fun h => h.seq == s) with
  | none => d
  | some h =>
    let d := { d with au := { d.au with held := d.au.held.filter (fun x => x.seq != s) } }
    divergePin (deadLetter (deadLetter ((d.ev AU_EVT_VTIMEOUT).alert TW_ALERT_VTIMEOUT) h.a 6) h.b 6)

/-- The pulse of an ungated divergence has ended (R316). -/
def pulseDue (d : Dev) : Bool :=
  match d.au.pulseEnd with
  | some t => decide (t ≤ d.tb.now)
  | none => false

/-- DIVERGE_PULSE_END (R316). -/
def pulseEnd (d : Dev) : Dev := divergePin { d with au := { d.au with pulseEnd := none } }

/-- Every gated entry and held divergence ends as dead letters with a reason (R314, R321). -/
def closeGated (d : Dev) (reason : Nat) : Dev :=
  let ps := d.au.table.filter (fun p => p.gated)
  let hs := d.au.held
  let d := { d with au := { d.au with table := d.au.table.filter (fun p => !p.gated), held := [] } }
  let d := forL ps (fun p d => deadLetter d p.copy reason) d
  divergePin (forL hs (fun h d => deadLetter (deadLetter d h.a reason) h.b reason) d)

/-- The pairing mode of an AU_MODE command applies at a frame boundary (R321). -/
def modeFrame (d : Dev) : Dev :=
  match d.au.newMode with
  | none => d
  | some m =>
    let d := closeGated d 8
    let d := { d with au := { d.au with table := [], newMode := none, hset := false } }
    let d := (((d.wr AU_STATUS_ESET_A 0 0).wr AU_STATUS_ESET_B 0 0).wr AU_HSEQ 0 0).wr AU_CTRL_MODE 0 m
    divergePin ((d.ev AU_EVT_MODE).recd 0x0C07 0 11 [])

/-! ### The brace (R318 to R320) -/

/-- The authority a pin code names. -/
def pinAuth (code : Nat) : Nat := if code = 1 then 1 else if code = 2 then 2 else 0

/-- The pins are latched in phase A (R318). -/
def bracePins (d : Dev) (code : Nat) : Dev :=
  let n := if code = d.rd AU_STATUS_PINS then d.au.pinRun + 1 else 1
  { d.wr AU_STATUS_PINS 0 code with au := { d.au with pinRun := n } }

/-- The authority in force changes (R318, R319). -/
def setAuthority (d : Dev) (a : Nat) (invalid : Bool) : Dev :=
  if d.rd AU_STATUS_AUTH = a then d
  else ((d.wr AU_STATUS_AUTH 0 a).ev AU_EVT_AUTH).recd 0x0C09 0 11 [invalid.toNat]

/-- AUTH_CHANGE is due (R318). -/
def authDue (d : Dev) : Bool :=
  !d.fl AU_CTRL_BSRC && decide (d.rd1 AU_WIN_BFILT ≤ d.au.pinRun) && d.rd AU_STATUS_AUTH != pinAuth (d.rd AU_STATUS_PINS)

/-- AUTH_CHANGE (R318). -/
def authChange (d : Dev) : Dev := setAuthority d (pinAuth (d.rd AU_STATUS_PINS)) (d.rd AU_STATUS_PINS == 3)

/-- A nonce is drawn: a free value (R319, R333). -/
def drawNonce (d : Dev) : Dev := { d.freeNext with au := { d.au with nonce := d.freeV % 2 ^ 64 } }

/-- The bytes in AU_TOK. -/
def tokBytes (d : Dev) : List Nat := (List.range 20).flatMap (fun w => le 4 (d.rd AU_TOK w))

/-- AU_TOKCMD.GO (R319). -/
def tokGo (d : Dev) : Dev :=
  let was := d.au.nonce
  let t := tokBytes d
  let d := drawNonce d
  if d.fl GL_STATUS_MHALT then (((d.wr AU_STATUS_TOKST 0 6).ev AU_EVT_TOKFAIL).recd 0x0C0A 0 11 []).alert TW_ALERT_TOKEN
  else { d.wr AU_STATUS_TOKST 0 1 with au := { d.au with tok := some (t, was) } }

/-- Store address of a public key; the manual gives the area, the model the place in it. -/
def keyAddr (k : Nat) : Nat := 0x70000 + 64 * k

/-- A signature over bytes with key slot `k` (R344): r and s are 32 bytes each, most significant first. -/
def keyCheck (s : Sys) (k : Nat) (msg sig : List Nat) : Bool :=
  let key := Mem.bytes s.nv (keyAddr k) 64
  s.dev.bit NV_STATUS_KEYVALID 0 k
    && ecdsaVerify (ofBe (key.take 32)) (ofBe (key.drop 32)) (sha256 msg) (ofBe (sig.take 32)) (ofBe (sig.drop 32))

/-- The outcome of a token check (R319). -/
def tokOutcome (s : Sys) (t : List Nat) (nonce : Nat) : Nat :=
  let ok := t.getD 0 0 == 1 && decide (t.getD 1 0 ≤ 2) && leAt t 2 2 != 0 && leAt t 12 4 == 0
  if !ok then 3 else if leAt t 4 8 ≠ nonce then 4 else if keyCheck s 1 (t.take 16) ((t.drop 16).take 64) then 2 else 5

/-- AUTH_TOKEN_CHECK: the check of a submitted token completes (R319, R320). -/
def tokCheck (s : Sys) : Sys :=
  match s.dev.au.tok with
  | none => s
  | some (t, nonce) =>
    let r := tokOutcome s t nonce
    s.on (fun d =>
      let d := { d.wr AU_STATUS_TOKST 0 r with au := { d.au with tok := none } }
      let d := (d.recd 0x0C0A 0 11 []).alert TW_ALERT_TOKEN
      if r = 2 then
        let d := d.ev AU_EVT_TOKEN
        if d.fl AU_CTRL_BSRC then { d with au := { d.au with tokOk := some (t.getD 1 0, leAt t 2 2) } } else d
      else d.ev AU_EVT_TOKFAIL)

/-- A token that passed becomes the authority in force in the tick after its check, and its lease starts (R319, R320). -/
def tokApply (d : Dev) : Dev :=
  match d.au.tokOk with
  | none => d
  | some (a, lease) =>
    let d := setAuthority (d.wr AU_LEASE 0 lease) a false
    { d with au := { d.au with tokOk := none, leaseOn := true, leaseTick := 0, leaseLow := false } }

/-- The lease counts down every 10 ms (R320). -/
def leaseCount (d : Dev) : Dev :=
  if !d.au.leaseOn ∨ d.rd AU_LEASE = 0 then d
  else if d.au.leaseTick + 1 < 10000 then { d with au := { d.au with leaseTick := d.au.leaseTick + 1 } }
  else { d.wr AU_LEASE 0 (d.rd AU_LEASE - 1) with au := { d.au with leaseTick := 0 } }

/-- LEASE_EXPIRY is due (R320). -/
def leaseDue (d : Dev) : Bool := d.au.leaseOn && d.rd AU_LEASE == 0

/-- LEASE_EXPIRY (R320). -/
def leaseExpiry (d : Dev) : Dev :=
  let was := d.rd AU_STATUS_AUTH
  let d := (({ d with au := { d.au with leaseOn := false } }).ev AU_EVT_LEASE).alert TW_ALERT_LEASE
  if was = 0 then d.recd 0x0C09 0 11 [0] else setAuthority d 0 false

/-- LEASE_BELOW_ONE_SECOND (R380). -/
def leaseLow (d : Dev) : Dev := { d.alert TW_ALERT_LEASE with au := { d.au with leaseLow := true } }

/-- LEASE_BELOW_ONE_SECOND is due (R380). -/
def leaseLowDue (d : Dev) : Bool := d.au.leaseOn && !d.au.leaseLow && decide (d.rd AU_LEASE < 100)

end Sys2Proof.Machine
end

