-- ==== Sys2Proof/Machine/RegRead.lean ====
section
/-! DEFINITION. The register map: which fields a word shows to an accessor, reads with their effects, and bus errors
(R15, R16, R421 to R425, R431 to R433, R436 to R440). -/

namespace Sys2Proof.Machine
open R

/-- Every field of every block. -/
def allRegs : List Reg := all0 ++ all1 ++ all2 ++ all3

/-- The element of a field that the word at an offset shows. -/
def Reg.elemAt (r : Reg) (ofs : Nat) : Option Nat :=
  if ofs < r.off then none
  else
    let x := ofs - r.off
    let i1 := if r.n1 ≤ 1 then 0 else x / r.s1
    let y := x - i1 * r.s1
    let i2 := if r.n2 ≤ 1 then 0 else y / r.s2
    if i1 < r.n1 ∧ i2 < r.n2 ∧ i1 * r.s1 + i2 * r.s2 = x then some (i1 * r.n2 + i2) else none

/-- Bits of a word that a field takes; an LL field shows the low word of its pair (R433). -/
def Reg.bits (r : Reg) : Nat := min r.w (32 - r.lo)

/-- The block index of an offset (R436); 23 outside every block. -/
def blockIx (ofs : Nat) : Nat :=
  if ofs < 0x400 then 0 else if ofs < 0x800 then 1 else if ofs < 0xC00 then 2 else if ofs < 0x1000 then 3
  else if ofs < 0x1800 then 4 else if ofs < 0x2000 then 5 else if ofs < 0x2800 then 6 else if ofs < 0x3800 then 7
  else if ofs < 0x8000 then 8 else if ofs < 0x8800 then 9 else if ofs < 0x8C00 then 10 else if ofs < 0x9000 then 11
  else if ofs < 0x9800 then 12 else if ofs < 0x9C00 then 13 else if ofs < 0xA000 then 14 else if ofs < 0xA800 then 15
  else if ofs < 0xAC00 then 16 else if ofs < 0xB000 then 17 else if ofs < 0xB400 then 18 else if ofs < 0xB800 then 19
  else if ofs < 0xBC00 then 20 else if ofs < 0xC000 then 21 else if ofs < 0xC800 then 22 else 23

/-- What a word is to an accessor: the offset of the field group it shows, the endpoint whose group it is, and whether
it is only a view (R305, R440). -/
structure WordView where
  ofs : Nat
  ep : Nat
  view : Bool
deriving DecidableEq, Repr

/-- The view of an offset by an accessor: PA and PB see their own endpoint's group first and the other's read-only;
TWB, and by DEDUCED reading the service port, see host A's and host B's, both read-only. -/
def wordView (acc ofs : Nat) : WordView :=
  let own := if acc = 1 then 1 else 0
  let ro := decide (2 ≤ acc)
  if 0x1000 ≤ ofs ∧ ofs < 0x1100 then ⟨ofs, own, ro⟩
  else if 0x1200 ≤ ofs ∧ ofs < 0x1300 then ⟨ofs - 0x200, 1 - own, true⟩
  else if 0xD00 ≤ ofs ∧ ofs < 0xD40 then ⟨ofs, own, ro⟩
  else if 0xD40 ≤ ofs ∧ ofs < 0xD80 then ⟨ofs - 0x40, 1 - own, true⟩
  else if 0x1100 ≤ ofs ∧ ofs < 0x1400 then ⟨0x10000, own, true⟩
  else ⟨ofs, own, false⟩

/-- The fields of a word as an accessor sees them, with their elements; empty for a location that is reserved or not
implemented. -/
def wordFields (acc ofs : Nat) : List (Reg × Nat) :=
  let v := wordView acc ofs
  allRegs.filterMap (fun r =>
    match r.elemAt v.ofs with
    | none => none
    | some ix => some (r, match r.per with
        | .one => ix
        | .ep => v.ep * (r.n1 * r.n2) + ix
        | .acc => acc * (r.n1 * r.n2) + ix))

/-! ### PEND bits and computed values -/

/-- An accepted commit waits for its boundary (R431). -/
def commitWaits (d : Dev) : Bool := d.commit.any (fun c => c.staged)

/-- Block `k` has a staged value waiting, or an accepted commit waits and the block holds configuration fields: all but the
GL_, IN_ and HQ_ blocks do (R346, R431). -/
def pendBlock (d : Dev) (k : Nat) : Bool :=
  (commitWaits d && k != 0 && k != 3 && k != 4) || d.staged.any (fun s => blockIx s.reg.off == k)

/-- GL_PEND: the PEND bits of every block, bit k for block k (R431). -/
def glPend (d : Dev) : Nat := maskOf ((List.range 23).filter (fun k => pendBlock d k))

/-- A staged value waits in block `k` at a place the test picks, or an accepted commit waits. -/
def pendAt (d : Dev) (k : Nat) (p : Staged → Bool) : Bool :=
  commitWaits d || d.staged.any (fun s => blockIx s.reg.off == k && p s)

/-- The first index of an element of an array field. -/
def majorIx (s : Staged) : Nat := s.ix / s.reg.n2

/-- The record an element of a fuse field belongs to. -/
def fuseOfIx (s : Staged) : Nat := if 1024 ≤ s.ix then (s.ix - 1024) / 16 else s.ix

/-- The PEND bit of a field, if it is one (R431). -/
def pendField (d : Dev) (r : Reg) (ix : Nat) : Option Bool :=
  if r.id = RG_STATUS_PEND.id then some (pendAt d 6 (fun s => majorIx s == ix))
  else if r.id = CD_ENT_PEND.id then some (commitWaits d)
  else if r.id = LS_PEND.id then some (pendAt d 8 (fun s => decide (0x4000 ≤ s.reg.off) && majorIx s == ix))
  else if r.id = VR_STATUS_PEND.id then some (pendAt d 9 (fun s => majorIx s == ix))
  else if r.id = FU_STATUS_PEND.id then some (pendAt d 12 (fun s => fuseOfIx s == ix))
  else if r.id = HQ_STATUS_PEND.id then some (d.staged.any (fun s => blockIx s.reg.off == 4 && s.ix == ix))
  else if [TB_STATUS_PEND, LE_STATUS_PEND, FD_STATUS_PEND, BS_STATUS_PEND, SQ_STATUS_PEND, CP_STATUS_PEND, TM_STATUS_PEND,
      TH_STATUS_PEND, MP_STATUS_PEND, AU_STATUS_PEND, EV_STATUS_PEND, NV_STATUS_PEND, UP_STATUS_PEND, TW_STATUS_PEND,
      SP_STATUS_PEND, PM_STATUS_PEND].any (fun x => x.id == r.id) then some (pendBlock d (blockIx r.off))
  else none

/-- The event registers behind an interrupt cause (R438): every RC field of the block that is an event bit. -/
def isEvent (r : Reg) : Bool :=
  r.acc == .rc && !(r.off == 0x280C || r.off == 0x3840 || (decide (0xA040 ≤ r.off) && decide (r.off < 0xA060)) || r.off == 0xBC14 || r.off == 0x408)

/-- The level of cause `j` for endpoint `e`; endpoint 2 is the view through TWB, which joins both (R438). -/
def causeLevel (d : Dev) (j e : Nat) : Bool :=
  if j = 2 then d.fl GL_STATUS_FAULT
  else
    allRegs.any (fun r => isEvent r && (match r.per with
      | .ep => j == 22 && (List.range 2).any (fun k => (e == k || e == 2) && d.fl r k)
      | _ => causeOf r 0 == j && (Tbl.get [] d.regs r.id).any (fun x => x.2 != 0)))

/-- IN_CAUSE as an accessor reads it. -/
def inCause (d : Dev) (acc : Nat) : Nat :=
  maskOf ((List.range 23).filter (fun j => causeLevel d j (if acc < 2 then acc else 2)))

/-- The postmark at the moment of a read: at or after the last edge and before the next. The model does not say where
between two edges a read falls, so the place is a free value. -/
def pmAtRead (d : Dev) : Nat := d.tb.pm + d.freeV % max 1 (d.pmNext - d.tb.pm)

/-- The accumulator of LE_STATE that an accessor has selected (R139, R421). -/
def leState (d : Dev) (acc : Nat) : Nat :=
  let x := Tbl.get {} d.le.seen (d.rd LE_STSEL_SLOT acc)
  match d.rd LE_STSEL_ACC acc with
  | 0 => x.a0
  | 1 => x.a1
  | 2 => x.a2
  | _ => x.a3

/-- The 64-bit value behind an LL field (R433). -/
def llValue (d : Dev) (acc : Nat) (r : Reg) : Nat :=
  if r.id = TB_PM_LO.id then pmAtRead d
  else if r.id = TB_CK_LO.id then d.pw.ck.getD 0
  else if r.id = LE_STATE_LO.id then leState d acc
  else if r.id = TM_EOUT_LO.id then (d.tc (telSel d acc)).eout / 65536
  else if r.id = TM_EIN_LO.id then (d.tc (telSel d acc)).ein / 65536
  else if r.id = TM_EHUB_LO.id then d.tm.ehub / 65536
  else if r.id = TM_ECHG_LO.id then d.tm.echg / 65536
  else if r.id = AU_NONCE_LO.id then d.au.nonce
  else if r.id = EV_NONCE_LO.id then d.rcd.nonce
  else if r.id = GL_UID_LO.id then Config.dieUid % 2 ^ 64
  else d.rd r

/-- The LH field and the shadow that an LL read fills. -/
def lhOf (r : Reg) : Option Reg := allRegs.find? (fun x => x.acc == .lh && x.off == r.off + 4)

/-- FU[f].WSEL of an accessor (R225, R421). -/
def fuWsel (d : Dev) (acc f : Nat) : Nat := d.rd FU_WSEL (acc * 64 + f)

/-- The word of FU[f].WDATA that an accessor's FU[f].WSEL names (R225). -/
def fuWdata (d : Dev) (acc f : Nat) : Nat :=
  let w := fuWsel d acc f
  if w < 12 then fuWord d f w
  else if w = 12 then (d.fuz f).acc % 2 ^ 32
  else if w = 13 then ofS 32 (sat32 (d.fuz f).tfet)
  else 0

/-- The hop count whose trim an accessor has selected for a rail (R168, R421). -/
def trimHop (d : Dev) (acc n : Nat) : Nat := d.rd VR_TRSEL_HOP (acc * 16 + n)

/-- The value of a field that the device forms when it is read; `none` for a field the register file holds. -/
def computedField (d : Dev) (acc : Nat) (r : Reg) (ix : Nat) : Option Nat :=
  match pendField d r ix with
  | some b => some b.toNat
  | none =>
    if r.id = GL_PEND.id then some (glPend d)
    else if r.id = GL_WHO_ACC.id then some acc
    else if r.id = IN_CAUSE.id then some (inCause d acc)
    else if r.id = LE_STATUS_HELD.id then some (d.fl LE_CTRL_STAGE_HOLD && d.staged.any (fun s => blockIx s.reg.off == 8)).toNat
    else if r.id = LE_LOAD_MAX.id then some (worstLoad d).1
    else if r.id = LE_LOAD_POS.id then some (worstLoad d).2
    else if r.id = VR_TRIM_TRIM.id then some (ofS 9 (d.phs ix (trimHop d acc ix)).trim)
    else if r.id = VR_TRIM_FROZEN.id then some (d.phs ix (trimHop d acc ix)).failed.toNat
    else if r.id = VR_TRIM_ACTIVE.id then some (d.bit VR_ACTMASK ix (trimHop d acc ix)).toNat
    else if r.id = VR_TRIM_USABLE.id then some (d.bit VR_USEMASK ix (trimHop d acc ix)).toNat
    else if r.id = EV_STATUS_NREG.id then some ((List.range 16).filter (fun i => d.rd EV_REGD_STATE i != 0)).length
    else if r.id = EV_STATUS_CAPT.id then some (capturing d).isSome.toNat
    else if r.id = EV_STATUS_NOPEN.id then some d.rcd.opens.length
    else if r.id = EV_STATUS_CLRBUSY.id then some d.rcd.zeroing.isSome.toNat
    else if r.id = EV_OLDEST.id then some ((d.rd EV_RNUM + 2 ^ 32 - rollCount d) % 2 ^ 32)
    else if r.id = FU_WDATA.id then some (fuWdata d acc ix)
    else if r.id = TM_AV_V.id then some (ofS 32 (sat32 (Tbl.get {} d.tm.shadow acc).v))
    else if r.id = TM_AV_I.id then some (ofS 32 (sat32 (Tbl.get {} d.tm.shadow acc).i))
    else if r.id = TM_AV_P.id then some (ofS 32 (sat32 (Tbl.get {} d.tm.shadow acc).p))
    else if r.id = TM_AV_T.id then some (ofS 32 (sat32 (Tbl.get {} d.tm.shadow acc).t))
    else if r.id = TM_LAST_V.id then some (ofS 32 (sat32 (telNow d (telSel d acc)).v))
    else if r.id = TM_LAST_I.id then some (ofS 32 (sat32 (telNow d (telSel d acc)).i))
    else if r.id = TM_LAST_P.id then some (ofS 32 (sat32 (telNow d (telSel d acc)).p))
    else if r.id = TM_LAST_T.id then some (ofS 32 (sat32 (telNow d (telSel d acc)).t))
    else if r.id = MP_RES.id then
      some (ofS 32 (sat32 (((mpGet d (d.rd MP_RSEL_QTY acc) (d.rd MP_RSEL_OBJ acc)).map (fun x => x.val)).getD 0)))
    else if r.id = MP_RBASE.id then
      some (ofS 32 (sat32 (((mpGet d (d.rd MP_RSEL_QTY acc) (d.rd MP_RSEL_OBJ acc)).bind (fun x => x.base)).getD 0)))
    else if r.id = HQ_STATUS_FETCH.id then some (hqOn d ix 0 && hqOn d ix 1).toNat
    else if r.id = NV_STATUS_BUSY.id then some (!d.rcd.queue.isEmpty || !d.rcd.rewrites.isEmpty || d.rcd.clrRec.isSome).toNat
    else if r.id = UP_VER_OTHER.id then
      let st := if d.fl UP_STATUS_RUNSLOT then d.rd UP_STATUS_SLOTA else d.rd UP_STATUS_SLOTB
      some (if st ≤ 1 then 0 else d.rd UP_VER_OTHER)
    else none

/-! ### Reads (R425, R432, R433) -/

/-- One field of a word is read. A view reads RC fields without clearing them. -/
def readField (s : Sys) (acc : Nat) (view : Bool) (r : Reg) (ix : Nat) : Nat × Sys :=
  match r.acc with
  | .wo => (0, s)
  | .rc => (s.dev.rd r ix, if view then s else s.on (fun d => d.wr r ix 0))
  | .ll =>
    let v := llValue s.dev acc r
    (v % 2 ^ 32, s.on (fun d =>
      let d := if r.id = TB_PM_LO.id then d.freeNext else d
      match lhOf r with
      | some h => d.wr h acc (v / 2 ^ 32)
      | none => d))
  | _ =>
    match computedField s.dev acc r ix with
    | some v => (v % 2 ^ r.bits, s)
    | none => (s.dev.rd r ix % 2 ^ r.bits, s)

/-- Word `w` of the record at EV_RSEL and EV_RPOS (R337, R339). -/
def readRwin (s : Sys) (acc w : Nat) : Nat × Sys :=
  match rwinRec s acc with
  | none => (0, s)
  | some a => let (b, s) := readRec s a; (leAt b (4 * w) 4, s)

/-- The word at an offset is read: its value, and the effects of its RC, LL and per-accessor fields. -/
def readWord (s : Sys) (acc ofs : Nat) : Nat × Sys :=
  if 0xB200 ≤ ofs ∧ ofs < 0xB240 then readRwin s acc ((ofs - 0xB200) / 4)
  else if 0xA040 ≤ ofs ∧ ofs < 0xA060 then let (v, d) := pkRead s.dev acc ((ofs - 0xA040) / 4); (v, { s with dev := d })
  else if ofs = 0xA02C then let (v, d) := chstatRead s.dev acc; (v, { s with dev := d })
  else
    let v := (wordView acc ofs).view
    (wordFields acc ofs).foldl (fun (x : Nat × Sys) f =>
      let (y, s) := readField x.2 acc v f.1 f.2
      (x.1 + y * 2 ^ f.1.lo, s)) (0, s)

/-! ### Bus errors (R15, R423) -/

/-- A bus error of an endpoint is reported as its AER settings direct: the Completer Abort bit of the uncorrectable error
status, and an ERR_NONFATAL message unless that bit is masked (R7, R423). -/
def aerReport (d : Dev) (e : Nat) : Dev :=
  let x := d.hep e
  let d := d.setEp e { x with aerStat := setBit x.aerStat 15 true }
  if bitOf x.aerMask 15 then d else d.emit (.errNonfatal e)

/-- A bus error of an accessor at an offset: its kind, the direction, the write data. The service port raises none. -/
def busError (d : Dev) (acc ofs kind : Nat) (wr : Bool) (data : Nat) : Dev :=
  if 3 ≤ acc then d
  else
    let d := d.ev (if acc = 0 then IN_BUSERR_PA else if acc = 1 then IN_BUSERR_PB else IN_BUSERR_TWB)
    let d := d.ev (if kind = 1 then IN_BUSERR_WIDTH else if kind = 2 then IN_BUSERR_LOC else IN_BUSERR_RSVBIT)
    let d := d.ev (if wr then IN_BUSERR_WRITE else IN_BUSERR_READ)
    let d := ((d.wr IN_BERR_OFS_OFS 0 ofs).wr IN_BERR_OFS_ACC 0 acc).wr IN_BERR_OFS_KIND 0 kind
    let d := (d.wrB IN_BERR_OFS_WR 0 wr).inc IN_BERR_CNT
    let d := d.recd 0x0C01 (8 + acc) 0 (le 2 ofs ++ [kind, wr.toNat] ++ le 4 (if wr then data else 0))
    let d := d.emit (.busError acc ofs kind wr.toNat)
    if acc < 2 then aerReport d acc else d

/-- A location is implemented for an accessor; in service boot the blocks of the control plane are not, through TWB
(R369). -/
def wordThere (d : Dev) (acc ofs : Nat) : Bool :=
  decide (ofs % 4 = 0) && !(wordFields acc ofs).isEmpty
    && !(acc == 2 && d.fl SP_STATUS_SVCBOOT && [6, 7, 8, 9, 10, 11, 12, 13, 14, 15].contains (blockIx ofs))

/-- A register read through a path that may raise a bus error (RC_READ, LL_READ, REGISTER_READ_BUS_ERROR). -/
def regRead (s : Sys) (acc ofs : Nat) : Sys :=
  if ofs % 4 ≠ 0 then s.on (fun d => busError d acc ofs 1 false 0)
  else if !wordThere s.dev acc ofs then s.on (fun d => busError d acc ofs 2 false 0)
  else
    let (v, s) := readWord s acc ofs
    s.on (fun d => d.emit (.readData acc ofs v))

end Sys2Proof.Machine
end

