-- ==== Sys2Proof/Machine/RegStage.lean ====
section
/-! DEFINITION. Staged values: batches, the conflicts of R434 that register writes can give, field-local rules, and what
a boundary does (R17, R22, R183, R213, R216, R137, R287, R427 to R431, R439). -/

namespace Sys2Proof.Machine
open R

/-- The byte offset of a field element. -/
def Reg.ofsOf (r : Reg) (ix : Nat) : Nat :=
  let j := ix % (r.n1 * r.n2)
  r.off + j / r.n2 * r.s1 + j % r.n2 * r.s2

/-- The byte offset of a staged value; the entries behind FU[f].WDATA lie at that word. -/
def Staged.ofs (s : Staged) : Nat :=
  if s.reg.id = FU_WDATA.id ∧ 1024 ≤ s.ix then s.reg.off + (s.ix - 1024) / 16 * s.reg.s1 else s.reg.ofsOf s.ix

/-- A value is staged in a batch; an earlier staged value of the field falls, and a field written after a commit was
accepted leaves the commit's batch (R17, R427). -/
def stage (d : Dev) (batch : Nat) (r : Reg) (ix v : Nat) : Dev :=
  let rest := d.staged.filter (fun s => !(s.reg.id == r.id && s.ix == ix))
  let d := { d with staged := rest ++ [{ batch := batch, reg := r, ix := ix, val := v % 2 ^ r.w }] }
  let d := if 1 ≤ batch ∧ batch ≤ 4 then refHost d r ix else d
  match d.commit with
  | some c => if c.staged then { d with commit := some { c with moved := c.moved ++ [(r.id, ix)] } } else d
  | none => d

/-- BASE and LOG2SZ of a ring wait while its EN in force is 1 (R287). -/
def geomWaits (d : Dev) (s : Staged) : Bool :=
  (List.range 4).any (fun k =>
    let r := hostRing k
    (s.reg.id == r.baseLo.id || s.reg.id == r.baseHi.id || s.reg.id == r.log2sz.id) && d.fl r.en s.ix)

/-- A staged value reaches this boundary (R17, R139, R287). -/
def reaches (d : Dev) (frame : Bool) (s : Staged) : Bool :=
  (s.reg.app == .tick || frame) && !(blockIx s.reg.off == 8 && d.fl LE_CTRL_STAGE_HOLD) && !geomWaits d s

/-! ### Conflicts of R434 that staged values can give -/

/-- Throttle sources whose enable is 1: the offset of the claim and its pin (R247, R249). -/
def pinClaims (d : Dev) : List (Nat × Nat) :=
  let cap := fun (k : Nat) => if k = 0 then 0x9C10 else if k ≤ 16 then 0x9C40 + 4 * (k - 1) else 0x9C80 + 4 * (k - 17)
  let caps := (List.range 33).filterMap (fun k =>
    let w := capWord d k
    if bitOf w 22 then some (cap k, bitsOf w 20 2) else none)
  let rails := (List.range 16).filterMap (fun n => if d.fl VR_CFG_THR_EN n then some (0x8000 + 0x80 * n, d.rd VR_CFG_THRSEL n) else none)
  let bus := if d.fl CP_CTRL_BUS_EN then [(0x9C00, d.rd CP_CTRL_BUSSEL)] else []
  rails ++ bus ++ caps

/-- A throttle source selects a pin whose mode is not 0. -/
def pinConflicts (d : Dev) : List (List Nat) :=
  (pinClaims d).filterMap (fun (c : Nat × Nat) => if pinMode d c.2 ≠ 0 then some [c.1, 0x9C20] else none)

/-- Two EV_ROVR entries name one code. -/
def rovrConflicts (d : Dev) : List (List Nat) :=
  (List.range 16).flatMap (fun j => (List.range j).filterMap (fun i =>
    if d.rd EV_ROVR_CODE i = d.rd EV_ROVR_CODE j ∧ d.rd EV_ROVR_CODE i ≠ 0 then some [0xB040 + 8 * i, 0xB040 + 8 * j] else none))

/-- Bytes of an entry of ring `k`. -/
def hqEntry (k : Nat) : Nat := match k with
  | 0 => 64
  | 1 => 16
  | 2 => 64
  | _ => 256

/-- Host memory an endpoint's enabled rings and mirror block take: start, end, offset of the group's first word. -/
def hostSpans (d : Dev) (e : Nat) : List (Nat × Nat × Nat) :=
  let rings := (List.range 4).filterMap (fun k =>
    if hqOn d e k then
      let a := hqAddr d e k 0 1
      some (a, a + hqSize d e k * hqEntry k, 0x1000 + 0x20 * k)
    else none)
  let mir := if d.fl HQ_MIR_CFG_EN e then
      let a := d.rd HQ_MIR_HI e * 2 ^ 32 + d.rd HQ_MIR_LO_ADDR e * 16
      [(a, a + 16, 0x1080)] else []
  rings ++ mir

/-- Two of an endpoint's rings, or a ring and the mirror block, overlap in host memory. -/
def hostConflicts (d : Dev) (e : Nat) : List (List Nat) :=
  let l := hostSpans d e
  (List.range l.length).flatMap (fun j => (List.range j).filterMap (fun i =>
    let a := l.getD i (0, 0, 0)
    let b := l.getD j (0, 0, 0)
    if a.1 < b.2.1 ∧ b.1 < a.2.1 then some [a.2.2, a.2.2 + 4, a.2.2 + 8, b.2.2, b.2.2 + 4, b.2.2 + 8] else none))

/-- Every conflict that fields a register write can stage take part in; the offsets of the fields of each. -/
def runConflicts (d : Dev) : List (List Nat) :=
  pinConflicts d ++ hostConflicts d 0 ++ hostConflicts d 1 ++ rovrConflicts d

/-- The first offending field of a batch: the lowest of its offsets that a conflict names. -/
def firstOffending (cs : List (List Nat)) (ofs : List Nat) : Option Nat :=
  match cs with
  | [] => none
  | c :: _ =>
    let own := (cs.flatMap (fun l => l)).filter (fun o => ofs.contains o)
    some (own.foldl min (own.headD (c.headD 0)))

/-! ### Field-local rules (R429) -/

/-- A set of fields keeps its active values. -/
def keepOld (old d : Dev) (rs : List (Reg × Nat)) : Dev := forL rs (fun x d => d.wr x.1 x.2 (old.rd x.1 x.2)) d

/-- R183: the four window thresholds of the bus. -/
def ruleWindow (old d : Dev) : Dev :=
  let uvw := d.rd FD_WIN_UV_UVW
  let uvf := d.rd FD_WIN_UV_UVF
  let ovw := d.rd FD_WIN_OV_OVW
  let ovf := d.rd FD_WIN_OV_OVF
  if uvf < uvw ∧ uvw < 4400 ∧ 5200 < ovw ∧ ovw < ovf ∧ ovf ≤ 5800 then d
  else keepOld old d [(FD_WIN_UV_UVW, 0), (FD_WIN_UV_UVF, 0), (FD_WIN_OV_OVW, 0), (FD_WIN_OV_OVF, 0)]

/-- The fields of the curve rule of fuse `f`: points, IINST, IINR and TRAMP. -/
def curveFields (f : Nat) : List (Reg × Nat) :=
  (List.range 8).map (fun p => (FU_WDATA, 1024 + 16 * f + p)) ++ [(FU_LIM_IINST, f), (FU_LIM_IINR, f), (FU_INR_TRAMP, f)]

/-- The record of fuse `f` has a valid curve (R213, R216). -/
def fuCurveOk (d : Dev) (f : Nat) : Bool :=
  curveValid (curvePts d f) (d.rd FU_LIM_IINST f) (d.rd FU_LIM_IINR f) (d.rd FU_INR_TRAMP f)

/-- R213: a curve left invalid keeps every one of its fields, and CREJ is set. -/
def ruleCurve (old d : Dev) (f : Nat) : Dev :=
  if fuCurveOk d f then d else (keepOld old d (curveFields f)).ev FU_EVT_CREJ f

/-- OUT_MIN must not exceed OUT_MAX (R140). -/
def ruleLimits (old d : Dev) (s : Nat) : Dev :=
  if d.rdS LS_OUT_MIN s ≤ d.rdS LS_OUT_MAX s then d else keepOld old d [(LS_OUT_MIN, s), (LS_OUT_MAX, s)]

/-- R137: a GUARD that the active schedule does not pass is refused. -/
def ruleGuard (old d : Dev) : Dev :=
  if guardOk d (d.rd LE_CTRL_GUARD) then d
  else
    let w := worstLoad d
    (((keepOld old d [(LE_CTRL_GUARD, 0)]).ev LE_EVT_GUARD_REF).wr LE_REJ_LOAD 0 (min 1023 w.1)).wr LE_REJ_POS 0 w.2

/-- R173: VSET outside the regulated window is applied as the nearer limit. -/
def ruleVset (d : Dev) : Dev := d.wr FD_VSET_VSET 0 (clampN 44000 52000 (d.rd FD_VSET_VSET))

/-- The field-local rules that a set of values brings into play. -/
def localRules (old d : Dev) (l : List Staged) : Dev :=
  let has := fun (r : Reg) => l.any (fun s => s.reg.id == r.id)
  let d := if has FD_WIN_UV_UVW || has FD_WIN_UV_UVF || has FD_WIN_OV_OVW || has FD_WIN_OV_OVF then ruleWindow old d else d
  let d := if has FD_VSET_VSET then ruleVset d else d
  let d := if has LE_CTRL_GUARD then ruleGuard old d else d
  let d := forIx 256 (fun s d =>
    if l.any (fun x => (x.reg.id == LS_OUT_MIN.id || x.reg.id == LS_OUT_MAX.id) && x.ix == s) then ruleLimits old d s else d) d
  forIx 64 (fun f d => if l.any (fun x => (curveFields f).any (fun y => y.1.id == x.reg.id && y.2 == x.ix)) then ruleCurve old d f else d) d

/-! ### What a new value does besides being in force -/

/-- Routes of a cause that is 1 in the tick in which the route first applies send their message (R439). -/
def routeApply (old d : Dev) (e : Nat) : Dev :=
  forIx 23 (fun j d =>
    let v := fun (x : Dev) => bitsOf (x.rd IN_ROUTE (3 * e + j / 8)) (4 * (j % 8)) 4
    if 4 ≤ v d ∧ v d ≠ v old ∧ causeLevel d j e then msiDue d e (v d) else d) d

/-- Enables that rose or fell with a batch: host rings (R287), ring ports (R84), the TWA bus check (R377), routes. -/
def enablesApply (old d : Dev) : Dev :=
  let d := forIx 2 (fun e d => forIx 4 (fun k d => if hqOn d e k && !hqOn old e k then hqStart d e k else d) d) d
  let d := forIx 8 (fun r d => if old.fl RG_CTRL_EN r && !d.fl RG_CTRL_EN r then ringReset d r else d) d
  let d := if d.fl TW_CTRL_TWA_EN && !old.fl TW_CTRL_TWA_EN then { d with tw := { d.tw with check := true } } else d
  forIx 2 (fun e d => routeApply old d e) d

/-! ### A boundary -/

/-- A rejection is shown and recorded (R428): class, batch, offset of the first offending field, step of the record. -/
def rejectShow (d : Dev) (cls batch ofs : Nat) : Dev :=
  ((((d.wr IN_REJ_CLASS 0 cls).wr IN_REJ_SRC 0 batch).wr IN_REJ_BLOCK 0 (blockIx ofs)).wr IN_REJ_OFS 0 ofs)

/-- A batch gives a conflict and is discarded whole (BATCH_REJECT, R428). -/
def batchReject (d : Dev) (batch ofs : Nat) : Dev :=
  let d := (d.ev IN_EVT_BATCHREJ).inc IN_REJCNT
  (rejectShow d 2 batch ofs).recd 0x0E01 0 10 ([0, batch] ++ le 2 ofs)

/-- A batch is judged over the active values and the batches accepted before it: its values join them, or the batch is
discarded (STAGED_BATCH_APPLY, R428). The state carries the values accepted so far, and the list names them. -/
def batchAccept (acc : Dev × List Staged) (batch : Nat) (l : List Staged) : Dev × List Staged :=
  if l.isEmpty then acc
  else
    let new := forL l (fun s d => d.wr s.reg s.ix s.val) acc.1
    match firstOffending (runConflicts new) (l.map Staged.ofs) with
    | some o => (batchReject acc.1 batch o, acc.2)
    | none => (new, acc.2 ++ l)

/-- No host write reaches the setpoint of the bus loop: a value staged for it falls where it would apply (R172). -/
def busOwns (d : Dev) (s : Staged) : Bool := s.reg.id == LS_SETPT.id && busSlot d == some s.ix

/-- The order in which batches are checked at a boundary, COMMIT apart (R428). -/
def batchOrder : List Nat := [5, 1, 2, 3, 4]

/-- A boundary: every staged value that reaches it leaves the staging registers, batch by batch (R22, R428). The rules
of single fields then judge all that applies at this boundary together, against the values in force before it (R429; R213:
"all changes to one channel's curve that apply at one boundary are judged together"). -/
def boundaryApply (d : Dev) (frame : Bool) : Dev :=
  let go := d.staged.filter (fun s => reaches d frame s && !busOwns d s)
  let d := { d with staged := d.staged.filter (fun s => !reaches d frame s) }
  let acc := batchOrder.foldl (fun (a : Dev × List Staged) b => batchAccept a b (go.filter (fun s => s.batch == b))) (d, [])
  if acc.2.isEmpty then acc.1 else enablesApply d (localRules d acc.1 acc.2)

end Sys2Proof.Machine
end

