-- ==== Sys2Proof/Machine/Checks.lean ====
section
/-! DEFINITION. The checks of a commit (R6, R435): every condition of class 1 (admissibility), the conflicts of class 2
(R434), and the loop budget of class 3 (R135 check 8). A breach is the offset of its offending field; where a rule names
no field, the field is the model's choice. -/

namespace Sys2Proof.Machine
open R

/-- One breach, or none. -/
def bad (b : Bool) (ofs : Nat) : List Nat := if b then [ofs] else []

/-- Offset of word `w` of the directory entry of channel `c`. -/
def ofsCd (c w : Nat) : Nat := 0x2800 + 0x10 * c + 4 * w
/-- Offset of word `w` of slot `s`. -/
def ofsLs (s w : Nat) : Nat := 0x4000 + 0x40 * s + 4 * w

/-- The channels in use, with their roles. -/
def rolesIn (d : Dev) : List (Nat × Nat) :=
  (List.range 256).filterMap (fun c => let r := roleOf d c; if r = 0 then none else some (c, r))

/-- A channel has one of the roles and the unit. -/
def unitHas (l : List (Nat × Nat)) (d : Dev) (roles : List Nat) (u : Nat) : Bool :=
  l.any (fun x => roles.contains x.2 && d.rd CD_ENT_UNIT x.1 == u)

/-! ### Directory entries (R5, R95, R96) -/

/-- The role is one that the stage type permits (R5); role 0 goes with type 0. -/
def roleOk (typ role : Nat) : Bool := match typ with
  | 0 => role == 0
  | 1 => role == 1 || role == 2
  | 2 => role == 3 || role == 4
  | 3 => role == 5
  | 4 => role == 6
  | 5 => role == 7
  | _ => false

/-- OWNK, OWNN and UNIT combine as R95 permits. -/
def ownerOk (role ownk ownn unit : Nat) : Bool := match role with
  | 0 => ownk == 0 && ownn == 0 && unit == 0
  | 1 | 2 => ownk == 1 && decide (unit < 32)
  | 3 => (ownk == 2 || (ownk == 3 && ownn == 0))
  | 4 => ownk == 4 && ownn == 0
  | 5 | 6 => ownk == 5 && ownn == 0 && decide (unit < 8)
  | 7 => ownk == 6 && ownn == 0 && decide (unit < 8)
  | _ => false

/-- The role accepts the safe state (R96). -/
def safeOk (role safe : Nat) : Bool := decide (safe ≤ 1) && (safe == 0 || !([1, 2, 4, 6].contains role))

/-- Two channels of one owner's unit space have one UNIT; fuse indices are R434's. -/
def unitTwice (d : Dev) (l : List (Nat × Nat)) (c role : Nat) : Bool :=
  l.any (fun x => decide (x.1 < c) && d.rd CD_ENT_UNIT x.1 == d.rd CD_ENT_UNIT c
    && ((decide (role ≤ 2) && decide (x.2 ≤ 2) && d.rd CD_ENT_OWNN x.1 == d.rd CD_ENT_OWNN c)
      || (decide (5 ≤ role) && x.2 == role)))

/-- Breaches of the directory entries. -/
def chkDir (d : Dev) : List Nat :=
  let l := rolesIn d
  (List.range 256).flatMap (fun c =>
    let role := roleOf d c
    bad (!roleOk (d.rd CD_ENT_EXP_TYPE c) role) (ofsCd c 0)
    ++ bad (!ownerOk role (d.rd CD_ENT_OWNK c) (d.rd CD_ENT_OWNN c) (d.rd CD_ENT_UNIT c)) (ofsCd c 0)
    ++ bad (role != 0 && unitTwice d l c role) (ofsCd c 0)
    ++ bad (!safeOk role (d.rd CD_ENT_SAFE c)) (ofsCd c 2))

/-! ### Loop slots (R115, R124, R127, R133, R135) -/

/-- A function value of R153, R169, R187 or R210. -/
def valueOk (i : Nat) : Bool :=
  (decide (i < 0x800) && decide (i % 0x80 ≤ 4)) || (decide (0x800 ≤ i) && decide (i ≤ 0x803))
    || i == 0x900 || i == 0x901 || (decide (0xA00 ≤ i) && decide (i < 0xA80))

/-- A function input of R153, R169, R187 or R210. -/
def inputOk (i : Nat) : Bool :=
  (decide (i < 0x800) && decide (i % 0x80 ≤ 1)) || (decide (0x800 ≤ i) && decide (i ≤ 0x807)) || i == 0x810
    || (decide (0x900 ≤ i) && decide (i ≤ 0x907)) || (decide (0x920 ≤ i) && decide (i ≤ 0x927))
    || (decide (0xA00 ≤ i) && decide (i < 0xA40))

/-- A word in the INSEL coding uses a defined kind and index (R115). -/
def inselOk (v : Nat) : Bool := match v / 8192 with
  | 0 => v == 0
  | 1 => v % 4 == 0 && decide (bitsOf v 2 3 ≤ 2)
  | 2 => bitsOf v 8 5 == 0
  | 3 => valueOk (v % 8192)
  | _ => false

/-- A word in the OUTSEL coding uses a defined kind and index (R115). -/
def outselOk (v : Nat) : Bool := match v / 8192 with
  | 0 => v == 0
  | 1 => inputOk (v % 8192)
  | _ => false

/-- The cascade conditions of R124 for an enabled slot with PAR_EN. -/
def cascadeOk (d : Dev) (s : Nat) : Bool :=
  let p := d.rd LS_PARENT s
  decide (p < s) && d.fl LS_EN p && decide (d.rd LS_RATE s ≤ d.rd LS_RATE p)
    && d.rd LS_OFS p % 2 ^ d.rd LS_RATE s == d.rd LS_OFS s

/-- Checks 1 to 6 of R135. -/
def chkSlots (d : Dev) : List Nat :=
  let scarf := (List.range 256).filter (fun s => d.fl LS_SCARF s)
  (List.range 256).flatMap (fun s =>
    bad (decide (5 < d.rd LS_TYPE s) || decide (10 < d.rd LS_RATE s) || decide (2 ^ d.rd LS_RATE s ≤ d.rd LS_OFS s)) (ofsLs s 0)
    ++ bad (!inselOk (d.rd LS_INSEL s) || !outselOk (d.rd LS_OUTSEL s)) (ofsLs s 1)
    ++ bad (decide (d.rdS LS_OUT_MAX s < d.rdS LS_OUT_MIN s)) (ofsLs s 13)
    ++ bad (d.fl LS_EN s && d.fl LS_PAR_EN s && !cascadeOk d s) (ofsLs s 0)
    ++ bad (d.fl LS_SCARF s && d.rd LS_TYPE s != 0) (ofsLs s 0)
    ++ bad (d.rd LS_FE_ACT s == 2 && d.rd LS_OUTSEL s / 8192 != 1) (ofsLs s 15))
  ++ bad (decide (16 < scarf.length)) (ofsLs (scarf.getD 16 0) 0)

/-! ### Rails (R141, R150, R153, R156) -/

/-- A ramp step coefficient of a rail in 2^−16 V per tick: 0, or 0.05 to 50 mV/µs. -/
def railStepOk (x : Int) : Bool := x == 0 || (decide (50 * 65536 ≤ x * 1000000) && decide (x * 1000 ≤ 50 * 65536))

/-- A coefficient of a limiter as a step: n(term(i, 1)) (R122). -/
def stepCoef (d : Dev) (s i : Nat) : Int := narrow (term d s i 65536)

/-- The placement of a rail's channels (R141) and its rotations (R150). -/
def railPlaceOk (d : Dev) (n : Nat) : Bool :=
  let cs := railChans d n
  let lead := cs.headD 0
  decide (1 ≤ cs.length) && decide (cs.length ≤ 32)
    && (cs.filter (fun c => roleOf d c == 2)) == [lead]
    && cs.all (fun c => c / 32 == lead / 32)
    && d.rd VR_CFG_NPH n == cs.length && railLead d n == lead
    && (cs.zipIdx.all (fun t => d.rd CD_ENT_UNIT t.1 == t.2))
    && decide (1 ≤ d.rd VR_CFG_MINPH n) && decide (d.rd VR_CFG_MINPH n ≤ cs.length)
    && (List.range (cs.length + 1)).all (fun m => decide (m < d.rd VR_CFG_MINPH n)
      || rotOk (maskOf (((addOrder cs.length).take m).map (fun k => cs.getD k 0 - lead))))

/-- The rail's positioning, ramp and balance slots (R153) and its ramp steps (R156). -/
def railSlotsOk (d : Dev) (n : Nat) : Bool :=
  (match posSlot d n with
    | some s =>
      let p := d.rd LS_PARENT s
      d.rd LS_RATE s == 0 && d.fl LS_PAR_EN s && d.rd LS_TYPE p == 4 && d.rd LS_RATE p == 0
        && railStepOk (stepCoef d p 0) && railStepOk (stepCoef d p 2)
    | none => false)
  && (match balSlot d n with
    | some s => d.rd LS_RATE s == 3
    | none => false)

/-- Breaches of the rails; VINSEL is a word in the INSEL coding (R115, R168). -/
def chkRails (d : Dev) : List Nat :=
  let on := (List.range 16).filter (fun n => railConf d n || !(railChans d n).isEmpty)
  on.flatMap (fun n => bad (!railPlaceOk d n || !railSlotsOk d n) (0x8000 + 0x80 * n)
    ++ bad (!inselOk (d.rd VR_VIN_VINSEL n)) (0x8008 + 0x80 * n))
  ++ bad (decide (192 < (on.map (fun n => (railChans d n).length)).foldl (· + ·) 0)) 0x8000

/-! ### Bus and shelf (R170, R187, R188) -/

/-- A current loop of R170 or R188 under the bus loop, reading field I of its channel. -/
def loopUnderBus (d : Dev) (s c : Nat) : Bool :=
  d.rd LS_TYPE s == 0 && d.fl LS_SCARF s && d.fl LS_PAR_EN s && busSlot d == some (d.rd LS_PARENT s)
    && decide (d.rd LS_RATE s ≤ 1) && d.rd LS_INSEL s == 8192 + 32 * c + 4

/-- The enabled slots that use an input without a channel of the unit for one of the roles. -/
def orphanInputs (d : Dev) (l : List (Nat × Nat)) (base n : Nat) (roles : List Nat) : List Nat :=
  (List.range n).flatMap (fun i => match slotOfInput d (base + i) with
    | some s => bad (!unitHas l d roles i) (ofsLs s 1)
    | none => [])

/-- Breaches of the bus (R170). -/
def chkBus (d : Dev) : List Nat :=
  let l := rolesIn d
  let fs := l.filter (fun x => x.2 == 7)
  let bus := match busSlot d with
    | some s => bad (!(d.rd LS_TYPE s == 0 && d.fl LS_SCARF s && d.rd LS_RATE s == 2 && !d.fl LS_PAR_EN s
        && d.rd LS_INSEL s == 3 * 8192 + 0x800)) (ofsLs s 0)
    | none => [ofsCd (fs.headD (0, 0)).1 0]
  (if fs.isEmpty then [] else bus)
  ++ fs.flatMap (fun x =>
    let i := d.rd CD_ENT_UNIT x.1
    match slotOfInput d (0x800 + i) with
    | some s =>
      let mx := d.rdS LS_OUT_MAX s
      bad (!loopUnderBus d s x.1) (ofsLs s 0) ++ bad (decide (mx ≤ 0)) (ofsLs s 13)
        ++ bad (decide ((d.rd FD_FM_ILIM i * 4 * 65536 : Int) < mx * 1000)) (0x8884 + 16 * i)
    | none => [ofsCd x.1 0])
  ++ orphanInputs d l 0x800 8 [7]

/-- The OCV points (R188). -/
def ocvOk (d : Dev) : Bool :=
  let v := fun i => d.rd BS_OCV_V i
  let e := fun i => d.rd BS_OCV_E i
  let n := ((List.range 8).filter (fun i => v i != 0)).foldl (fun m i => max m (i + 1)) 0
  decide (2 ≤ n) && (List.range (n - 1)).all (fun i => decide (v i < v (i + 1)) && decide (e i ≤ e (i + 1)))
    && (List.range 8).all (fun i => decide (i < n) || (v i == 0 && e i == 0))

/-- A class code of R188. -/
def classOk (k : Nat) : Bool := decide (k ≤ 7) || k == 15

/-- Breaches of the shelf (R187, R188). -/
def chkShelf (d : Dev) : List Nat :=
  let l := rolesIn d
  let ss := l.filter (fun x => x.2 == 5)
  let ks := l.filter (fun x => x.2 == 6)
  orphanInputs d l 0x900 8 [5] ++ orphanInputs d l 0x920 8 [6]
  ++ (if ss.isEmpty && ks.isEmpty then [] else
    ks.flatMap (fun x => match slotOfInput d (0x920 + d.rd CD_ENT_UNIT x.1) with
      | some s => bad (!loopUnderBus d s x.1) (ofsLs s 0)
      | none => [ofsCd x.1 0])
    ++ ss.flatMap (fun x =>
      let j := d.rd CD_ENT_UNIT x.1
      (match slotOfInput d (0x900 + j) with
        | some s => bad (!(d.rd LS_TYPE s == 5 && !d.fl LS_OPT s && d.rd LS_INSEL s == 8192 + 32 * x.1)) (ofsLs s 0)
        | none => [])
      ++ bad (d.rd BS_STR_IMAX j == 0) (0x8CCC + 16 * j))
    ++ bad (!ocvOk d) 0x8CA0
    ++ (List.range 8).flatMap (fun i => bad ((List.range 8).any (fun k => !classOk (bitsOf (d.rd BS_LCLS_F i) (4 * k) 4))) (0x8C60 + 4 * i))
    ++ (List.range 2).flatMap (fun i => bad ((List.range 8).any (fun k => !classOk (bitsOf (d.rd BS_LCLS_R i) (4 * k) 4))) (0x8C80 + 4 * i)))

/-! ### Fuses and feeds (R210, R211, R213, R216, R220, R225) -/

/-- Breaches of one feed group (R220). -/
def chkGroup (d : Dev) (l : List (Nat × Nat)) (n : Nat) : List Nat :=
  let m := l.filter (fun x => x.2 == 3 && d.rd CD_ENT_OWNK x.1 == 2 && d.rd CD_ENT_OWNN x.1 == n)
  let f := m.map (fun x => d.rd CD_ENT_UNIT x.1)
  match f with
  | [] => []
  | [a, b] =>
    let p := if d.rd FU_CFG_PRIO a = 0 then a else b
    bad (d.rd FU_CFG_PRIO a == d.rd FU_CFG_PRIO b || fuseClass d a != fuseClass d b
      || decide (d.rd FU_CFG_KERF p < 2) || decide (200 < d.rd FU_CFG_KERF p)) (0x9000 + 0x20 * p)
  | a :: _ => [0x9000 + 0x20 * a]

/-- Breaches of the fuses. -/
def chkFuses (d : Dev) : List Nat :=
  let l := rolesIn d
  let milliV := fun (x : Int) => x * 1000
  (List.range 64).flatMap (fun f =>
    let has := unitHas l d [3, 4] f
    let o := 0x9000 + 0x20 * f
    bad (has != d.fl FU_CFG_VALID f) o
    ++ bad (d.fl FU_CFG_VALID f && !fuCurveOk d f) (o + 4)
    ++ (match slotOfInput d (0xA00 + f) with
      | some s =>
        bad (!unitHas l d [3] f) (ofsLs s 1)
        ++ bad (unitHas l d [3] f && !(d.rd LS_TYPE s == 4 && d.rd LS_RATE s == 0)) (ofsLs s 0)
        ++ bad (unitHas l d [3] f && !(decide (65536 ≤ milliV (stepCoef d s 0)) && decide (milliV (stepCoef d s 0) ≤ 6553600))) (ofsLs s 3)
      | none => bad (unitHas l d [3] f) o))
  ++ (List.range 256).flatMap (fun s =>
    let v := d.rd LS_INSEL s
    bad (d.fl LS_EN s && decide (3 * 8192 + 0xA00 ≤ v) && decide (v < 3 * 8192 + 0xA80) && !unitHas l d [3, 4] (v % 64)) (ofsLs s 1))
  ++ (List.range 16).flatMap (chkGroup d l)

/-! ### Sequencer (R226) -/

/-- The target of a step is configured, and a fuse target is a single feed. -/
def targetOk (d : Dev) (l : List (Nat × Nat)) (kind tgt : Nat) : Bool := match kind with
  | 1 => decide (tgt < 16) && railConf d tgt
  | 2 => l.any (fun x => x.2 == 3 && d.rd CD_ENT_OWNK x.1 == 3 && d.rd CD_ENT_UNIT x.1 == tgt)
  | 3 => l.any (fun x => x.2 == 3 && d.rd CD_ENT_OWNK x.1 == 2 && d.rd CD_ENT_OWNN x.1 == tgt)
  | 4 => tgt == 0 && l.any (fun x => x.2 == 7)
  | 5 => tgt == 0 && l.any (fun x => x.2 == 5 || x.2 == 6)
  | _ => false

/-- Breaches of the steps. -/
def chkSteps (d : Dev) : List Nat :=
  let l := rolesIn d
  let n := min 32 (d.rd SQ_CFG_NSTEP)
  bad (decide (32 < d.rd SQ_CFG_NSTEP)) 0x9804
  ++ (List.range n).flatMap (fun s =>
    let o := 0x9840 + 16 * s
    let filt := d.rd SQ_STEP_FILT s
    let up := d.rd SQ_STEP_TOUP s
    bad (!targetOk d l (d.rd SQ_STEP_KIND s) (d.rd SQ_STEP_TGT s) || decide (2 < d.rd SQ_STEP_FACT s)) o
    ++ bad (!inselOk (d.rd SQ_STEP_SRC s) || filt == 0 || decide (up * 10 < filt)) (o + 4)
    ++ bad (decide (d.rdS SQ_STEP_WHI s < d.rdS SQ_STEP_WLO s)) (o + 8)
    ++ bad (up == 0 || d.rd SQ_STEP_TODN s == 0) (o + 12)
    ++ bad (d.rd SQ_STEP_KIND s == 5 && !(List.range s).any (fun t => d.rd SQ_STEP_KIND t == 4)) o)

/-! ### Pins, two-wire ports, service port (R249, R380, R381) -/

/-- Breaches of the rest. -/
def chkRest (d : Dev) : List Nat :=
  let l := rolesIn d
  let addr := d.rd TW_TWB_ADDR
  let paddr := d.rd TW_TWB_PADDR
  let out := fun (a : Nat) => decide (a < 8) || decide (0x77 < a)
  bad ((List.range 4).any (fun k => bitsOf (d.rd CP_PIN_MODE) (2 * k) 2 == 3)) 0x9C20
  ++ bad (out addr || out paddr) 0xBC08
  ++ (List.range 16).flatMap (fun i =>
    let o := 0xBC40 + 16 * i
    bad (d.fl TW_POLL_EN i && (d.rd TW_POLL_LEN i == 0 || decide (8 < d.rd TW_POLL_LEN i) || d.rd TW_POLL_PER i == 0)) o
    ++ bad (d.fl TW_POLL_EN i && d.fl TW_POLL_LIM_EN i && decide (d.rd TW_POLL_LEN i < d.rd TW_POLL_OFS i + 2)) (o + 8)
    ++ bad (d.fl TW_POLL_ACT i && !unitHas l d [5] (d.rd TW_POLL_STR i)) (o + 8))
  ++ bad (d.fl SP_CTRL_SRC_EN && !l.any (fun x => x.2 == 4)) 0xC000
  ++ bad (!d.fl SP_SNK_HV_OK && decide (5 < d.rd SP_SNK_VMAX)) 0xC00C

/-- Class 1 of R435: the offsets of every breach of admissibility. -/
def class1 (d : Dev) : List Nat :=
  chkDir d ++ chkSlots d ++ chkRails d ++ chkBus d ++ chkShelf d ++ chkFuses d ++ chkSteps d ++ chkRest d

/-! ### Class 2: conflicts of R434 -/

/-- The links of a rail's token path as a ring and the positions it enters, first and last (R82). -/
def railPath (d : Dev) (n : Nat) : Nat × Nat × Nat :=
  let cs := railChans d n
  (railLead d n / 32, railLead d n % 32 + 1, (cs.foldl max 0) % 32)

/-- Two rails' token paths share a link, or a rail's token rate is above 12 per µs (R82). -/
def linkConflicts (d : Dev) : List Nat :=
  let on := (List.range 16).filter (railConf d)
  on.flatMap (fun n =>
    let p := railPath d n
    bad (decide (48000 < 5 * d.rd VR_FSW_FSW n * (d.rd VR_CFG_NPH n - 1))) (0x8004 + 0x80 * n)
    ++ on.flatMap (fun m =>
      let q := railPath d m
      bad (decide (m < n) && p.1 == q.1 && decide (max p.2.1 q.2.1 ≤ min p.2.2 q.2.2)) (0x8000 + 0x80 * m)))

/-- Two enabled slots name one function input (R135 check 7). -/
def inputConflicts (d : Dev) : List Nat :=
  let en := (List.range 256).filter (fun s => d.fl LS_EN s && d.rd LS_OUTSEL s / 8192 == 1)
  en.filterMap (fun s => if en.any (fun t => t != s && d.rd LS_OUTSEL t == d.rd LS_OUTSEL s) then some (ofsLs s 1) else none)

/-- A sequencer target named by two steps (R226). -/
def stepConflicts (d : Dev) : List Nat :=
  let st := List.range (min 32 (d.rd SQ_CFG_NSTEP))
  let key := fun s => (d.rd SQ_STEP_KIND s, d.rd SQ_STEP_TGT s)
  st.filterMap (fun s => if st.any (fun t => t != s && key t == key s) then some (0x9840 + 16 * s) else none)

/-- Two channels share a fuse index, or more than one channel is a port switch (R95, R381). -/
def fuseConflicts (d : Dev) : List Nat :=
  let l := (rolesIn d).filter (fun x => x.2 == 3 || x.2 == 4)
  l.filterMap (fun x =>
    if l.any (fun y => y.1 != x.1 && (d.rd CD_ENT_UNIT y.1 == d.rd CD_ENT_UNIT x.1 || (x.2 == 4 && y.2 == 4)))
    then some (ofsCd x.1 0) else none)

/-- Class 2 of R435. -/
def class2 (d : Dev) : List Nat :=
  linkConflicts d ++ inputConflicts d ++ stepConflicts d ++ fuseConflicts d
  ++ bad (d.rd TW_TWB_ADDR == d.rd TW_TWB_PADDR || d.rd TW_TWB_ADDR == 0x0C || d.rd TW_TWB_PADDR == 0x0C) 0xBC08
  ++ (runConflicts d).flatMap (fun l => l)

/-- Class 3 of R435: the first slot scheduled at the worst position of a schedule over budget. -/
def class3 (d : Dev) : List Nat :=
  let w := worstLoad d
  if w.1 ≤ 880 - guardOf (d.rd LE_CTRL_GUARD) then []
  else [ofsLs ((firstIx 256 (fun s => d.fl LS_EN s && scheduled d s w.2)).getD 0) 0]

/-- The outcome of step 4 of R347: the class that fails and its first offending field, the lowest offset. -/
def commitVerdict (d : Dev) : Option (Nat × Nat) :=
  let low := fun (l : List Nat) => l.foldl min (l.headD 0)
  let c1 := class1 d
  if !c1.isEmpty then some (1, low c1)
  else
    let c2 := class2 d
    if !c2.isEmpty then some (2, low c2)
    else
      let c3 := class3 d
      if !c3.isEmpty then some (3, low c3) else none

end Sys2Proof.Machine
end

