-- ==== Sys2Proof/Machine/Commit.lean ====
section
/-! DEFINITION. Configuration images and their commit: parsing, the candidate configuration, the checks of R347, and what
takes effect at the boundary (R30, R31, R134, R136, R157, R278, R346 to R348). -/

namespace Sys2Proof.Machine
open R

/-! ### What a configuration holds (R346) -/

/-- RO fields that carry configuration, which only a commit writes (R30). -/
def roConfig : List Reg :=
  [CD_ENT_EXP_TYPE, CD_ENT_ROLE, CD_ENT_OWNK, CD_ENT_OWNN, CD_ENT_UNIT, CD_ENT_FW_PAT, CD_ENT_FW_MIN, CD_ENT_FW_MAJ,
   CD_ENT_VERPOL, CD_ENT_HOLDOVER, CD_ENT_SAFE, CD_ENT_MIN_SVN]
  ++ [LS_TYPE, LS_EN, LS_RATE, LS_OFS, LS_PARENT, LS_PAR_EN, LS_SCARF, LS_OPT, LS_INSEL, LS_OUTSEL, LS_FE_ACT, LS_FE_EN]
  ++ [VR_CFG_LEADPOS, VR_CFG_RING, VR_CFG_NPH, VR_CFG_MINPH, VR_CFG_DIV, VR_CFG_THRSEL, VR_CFG_THR_EN, VR_FSW_FSW,
   VR_VIN_VINSEL]
  ++ [FU_CFG_CHAN, FU_CFG_FG, FU_CFG_INFG, FU_CFG_PRIO, FU_CFG_PORTSW, FU_CFG_VALID, FU_CFG_KERF, FU_CFG_REVERT,
   FU_CFG_REVT]
  ++ [SQ_CFG_NSTEP, SQ_STEP_KIND, SQ_STEP_TGT, SQ_STEP_FACT, SQ_STEP_WSC, SQ_STEP_DTHR, SQ_STEP_SRC, SQ_STEP_FILT,
   SQ_STEP_WLO, SQ_STEP_WHI, SQ_STEP_TOUP, SQ_STEP_TODN]
  ++ [CP_PIN_MODE, AU_CTRL_MODE, AU_CTRL_BSRC, TW_TWB_ADDR, TW_TWB_PADDR, TW_TWB_WMASK]
  ++ [TW_POLL_ADDR, TW_POLL_EN, TW_POLL_PTR, TW_POLL_LEN, TW_POLL_PER, TW_POLL_OFS, TW_POLL_SIGNED, TW_POLL_LIM_EN,
   TW_POLL_ACT, TW_POLL_STR]
  ++ [SP_CTRL_SRC_EN, SP_CTRL_SVC_CTRL, SP_SNK_HV_OK, SP_VSNS_DIV]

/-- Offsets a configuration must not cover: the HQ_ block and IN_ROUTE (R346). -/
def outsideConfig (ofs : Nat) : Bool :=
  (decide (0x1000 ≤ ofs) && decide (ofs < 0x1800)) || (decide (0xD00 ≤ ofs) && decide (ofs < 0xD80))

/-- The field is part of the configuration. -/
def isConfig (r : Reg) : Bool :=
  !outsideConfig r.off && ((r.acc == .rw && r.app != .now) || roConfig.any (fun x => x.id == r.id))

/-- The fields of the configuration. -/
def configRegs : List Reg := allRegs.filter isConfig

/-- The fields of a word, without an accessor's view. -/
def rawFields (ofs : Nat) : List (Reg × Nat) :=
  allRegs.filterMap (fun r => (r.elemAt ofs).map (fun ix => (r, ix)))

/-- Bits of the entry that WSEL `w` names which hold something (R225). -/
def wdataMask (w : Nat) : Nat := if w < 8 then 0xFFFFFF else if w < 11 then 0x1FFFFF else 0xFFFFFFFF

/-- The bits of a word that a write may set to 1: those of its fields, but for reserved bits within a field. -/
def writableBits (fs : List (Reg × Nat)) (ofs wsel : Nat) : Nat :=
  let m := fs.foldl (fun m f => m ||| ((2 ^ f.1.bits - 1) * 2 ^ f.1.lo)) 0
  if decide (0x9C40 ≤ ofs) && decide (ofs < 0x9CC0) then m &&& 0xFF7FFFFF
  else if ofs = 0xD08 ∨ ofs = 0xD48 then m &&& 0x0FFFFFFF
  else if fs.any (fun f => f.1.id == FU_WDATA.id) then m &&& wdataMask wsel
  else m

/-! ### Parsing an image (R346) -/

/-- The words of a byte string. -/
def wordsOf (b : List Nat) : List Nat := (pieces 4 b.length b).map ofLe

/-- The write records of an image body as (offset, value) pairs, by fuel; none where a record is not well formed. -/
def parseRecs : Nat → List Nat → Option (List (Nat × Nat))
  | 0, _ => none
  | _ + 1, [] => none
  | k + 1, h :: rest =>
    let ofs := bitsOf h 0 16
    let cnt := bitsOf h 16 12
    let kind := bitsOf h 28 4
    if kind = 15 then (if cnt = 0 ∧ rest = [] then some [] else none)
    else if kind ≠ 0 ∨ cnt = 0 ∨ ofs % 4 ≠ 0 ∨ rest.length < cnt then none
    else (parseRecs k (rest.drop cnt)).map (fun l => ((rest.take cnt).zipIdx.map (fun (t : Nat × Nat) => (ofs + 4 * t.2, t.1))) ++ l)

/-- A write of an image: its fields exist and are in the configuration's reach, its WO fields and reserved bits are 0. -/
def imageWordOk (ofs v wsel : Nat) : Bool :=
  let fs := rawFields ofs
  let wo := fs.foldl (fun m f => if f.1.acc == .wo then m ||| ((2 ^ f.1.w - 1) * 2 ^ f.1.lo) else m) 0
  !fs.isEmpty && !outsideConfig ofs && v &&& writableBits fs ofs wsel == v && v &&& wo == 0

/-- The candidate as an image fills it, the WSEL that the image has written for each fuse, and whether every word was
well formed. -/
structure Cand where
  d : Dev
  wsel : Tbl Nat := []
  ok : Bool := true

/-- One word of an image enters the candidate. WDATA goes to the entry that the image's own WSEL names. -/
def candWord (c : Cand) (w : Nat × Nat) : Cand :=
  let f := (w.1 - 0x9000) / 0x20
  let fu := decide (0x9000 ≤ w.1) && decide (w.1 < 0x9800)
  let sel := Tbl.get 0 c.wsel f
  if !imageWordOk w.1 w.2 sel then { c with ok := false }
  else if fu && w.1 % 0x20 == 0x10 then
    if sel < 12 then { c with d := c.d.wr FU_WDATA (1024 + 16 * f + sel) w.2 } else c
  else
    let c := if fu && w.1 % 0x20 == 0xC then { c with wsel := Tbl.set 0 c.wsel f (w.2 % 16) } else c
    { c with d := forL (rawFields w.1) (fun x d => if isConfig x.1 then d.wr x.1 x.2 (bitsOf w.2 x.1.lo x.1.bits) else d) c.d }

/-- The fields that the commit derives: LE_SCARF slots (R127) and VR_FSW.TTRIP (R142). -/
def derive_ (d : Dev) : Dev :=
  let sc := (List.range 256).filter (fun s => d.fl LS_SCARF s)
  let d := forIx 16 (fun i d => match sc[i]? with
    | some s => (d.wr LE_SCARF_SLOT i s).wr LE_SCARF_VALID i 1
    | none => (d.wr LE_SCARF_SLOT i 0).wr LE_SCARF_VALID i 0) d
  forIx 16 (fun n d =>
    let x := d.rd VR_CFG_NPH n * d.rd VR_FSW_FSW n
    d.wr VR_FSW_TTRIP n (if d.rd VR_CFG_NPH n = 0 then 0 else if x = 0 then 0xFFFF else min 0xFFFF (cdiv 6400000 x))) d

/-- The candidate configuration of an image body over the present device; fields of the configuration that the image
does not write take their reset values. -/
def candidate (d : Dev) (recs : List (Nat × Nat)) : Cand :=
  let c := recs.foldl candWord { d := d.clrRegs configRegs }
  { c with d := derive_ c.d }

/-! ### The checks of R347 -/

/-- Store address of a configuration buffer (R340). -/
def cfgAddr (buf : Nat) : Nat := 0x880000 + buf * 0x80000

/-- GL_DEV_ID. -/
def devId (d : Dev) : Nat := d.rd GL_DEV_ID_REV + d.rd GL_DEV_ID_FAM * 256 + d.rd GL_DEV_ID_PART * 65536

/-- Step 1 of R347; at start-up the generation is not compared. -/
def imageHead (d : Dev) (h : List Nat) (n : Nat) (start : Bool) : Bool :=
  let len := leAt h 8 4
  n == len && decide (68 ≤ len) && decide (len ≤ 524288) && leAt h 0 4 == 0x43474631 && leAt h 4 2 == 1
    && leAt h 16 4 / 256 == devId d / 256 && (start || laterThan (leAt h 12 4) (d.rd NV_CFGGEN))

/-- Outcome of steps 1 to 4: the candidate, or the step that failed with the class and offset of step 4. -/
inductive CommitRes where
  | ok (d : Dev)
  | fail (step cls ofs : Nat)

/-- Steps 1 to 4 of R347 on the image of `n` bytes in a buffer. -/
def commitSteps (s : Sys) (buf n : Nat) (start : Bool) : CommitRes :=
  let b := Mem.bytes s.nv (cfgAddr buf) (min n 524288)
  if !imageHead s.dev b n start then .fail 1 0 0
  else if sha256 (b.drop 64) ≠ (b.drop 32).take 32 then .fail 2 0 0
  else if n % 4 ≠ 0 then .fail 3 0 0
  else
    match parseRecs n (wordsOf (b.drop 64)) with
    | none => .fail 3 0 0
    | some recs =>
      let c := candidate s.dev recs
      if !c.ok then .fail 3 0 0
      else
        match commitVerdict c.d with
        | some (cls, ofs) => .fail 4 cls ofs
        | none => .ok c.d

/-- A failed commit is shown and recorded (R347, R428, R435); the worst load saturates (R12, R135). -/
def commitReject (d : Dev) (step cls ofs : Nat) (cand : Option Dev) : Dev :=
  let d := if step = 4 then rejectShow (d.ev IN_EVT_CFGREJ) cls 0 ofs else d
  let d := match cand with
    | some x => if cls = 3 then let w := worstLoad x; (d.wr LE_REJ_LOAD 0 (min 1023 w.1)).wr LE_REJ_POS 0 w.2 else d
    | none => d
  d.recd 0x0E01 0 10 [step]

/-- The candidate of an image that has already been parsed, for LE_REJ. -/
def candOf (s : Sys) (buf n : Nat) : Option Dev :=
  (parseRecs n (wordsOf ((Mem.bytes s.nv (cfgAddr buf) (min n 524288)).drop 64))).map (fun r => (candidate s.dev r).d)

/-- The status of a failed commit. -/
def rejStatus (cls : Nat) : Nat := if cls = 2 then stConflict else stRejected

/-- COMMIT_CHECKS_DONE: the checks finish; the batch waits for its boundary, or the commit ends (R23, R347). -/
def commitChecks (s : Sys) : Sys :=
  match s.dev.commit with
  | none => s
  | some c =>
    if c.staged then s
    else
      match commitSteps s c.buf c.len false with
      | .ok _ =>
        s.on (fun d => { d with
          commit := some { c with staged := true, okAt := d.tb.now + 2 },
          staged := d.staged.filter (fun x => !isConfig x.reg) })
      | .fail step cls ofs =>
        let cand := if step = 4 then candOf s c.buf c.len else none
        s.on (fun d => completeAll { commitReject d step cls ofs cand with commit := none } c.ctxs (rejStatus cls) 0)

/-! ### What a commit brings about at its boundary -/

/-- A configuration field of an element differs between two devices. -/
def differs (a b : Dev) (rs : List Reg) (ix : Nat) : Bool := rs.any (fun r => a.rd r ix != b.rd r ix)

/-- Directory entries that changed: RECONFIG (R31), DEGR (R105), the release of a FUNCTION quarantine and the
re-identification that follows (R108). A channel whose ring is not up is not quarantined for a change of its role or owner:
its match falls, so that it reads PENDING (R31). A commit writes no health (R30): the control plane evaluates the entry in
the tick after the boundary. -/
def entryApply (old : Dev) (c : Nat) (d : Dev) : Dev :=
  let all := [CD_ENT_EXP_TYPE, CD_ENT_ROLE, CD_ENT_OWNK, CD_ENT_OWNN, CD_ENT_UNIT, CD_ENT_FW_PAT, CD_ENT_FW_MIN,
    CD_ENT_FW_MAJ, CD_ENT_VERPOL, CD_ENT_HOLDOVER, CD_ENT_SAFE, CD_ENT_MIN_SVN]
  if !differs old d all c then d
  else
    let up := ringUp d (c / 32)
    let own := differs old d [CD_ENT_ROLE, CD_ENT_OWNK, CD_ENT_OWNN] c
    let d := d.wr CD_ENT_COND_DEGR c 0
    let d := if !own then d else if up then quarMark d c qReconfig else d.setCh c { d.chn c with matched := false }
    let x := d.chn c
    let d := if x.quar ∧ d.rd CD_ENT_QREASON c = qFunction
      then d.setCh c { x with release := true, reidOwn := if up then some (d.cur + 1) else x.reidOwn } else d
    healthLater d c

/-- Loop slots that changed (R134, R136). A newly enabled slot starts with zeroed states and keeps the mode its image
wrote; a slot whose output or enable changed leaves the hold of the function that owned it, and the functions take theirs
anew (R178, R192). -/
def slotApply (old : Dev) (s : Nat) (d : Dev) : Dev :=
  let ctrl := differs old d [LS_TYPE, LS_EN, LS_RATE, LS_OFS, LS_PARENT, LS_PAR_EN, LS_SCARF, LS_OPT] s
  let anew := differs old d [LS_TYPE, LS_RATE, LS_OFS, LS_PARENT, LS_PAR_EN, LS_INSEL] s
  let d := if ctrl && d.fl LS_FAULT s then (d.wr LS_FAULT s 0).wrBit LE_FEFLAG (s / 32) (s % 32) false else d
  let d := if ctrl then d.setSlot s { d.slot s with fe := 0, preset := false } else d
  let d := if differs old d [LS_EN, LS_OUTSEL] s && (Tbl.get 0 d.le.hold s != 0 || (d.slot s).force.isSome) then holdEnd d s else d
  let d := if anew || (d.fl LS_EN s && !old.fl LS_EN s) then slotReset d s else d
  match (if anew then scarfIx d s else none) with
  | some i => d.wr LE_SCARF_MODE i 0
  | none => d

/-- Rails that the commit faults (R157), and rails whose open faults start afresh. -/
def railApply (old : Dev) (n : Nat) (d : Dev) : Dev :=
  let moved := differs old d [VR_CFG_RING, VR_CFG_LEADPOS, VR_CFG_NPH] n
    || (List.range 256).any (fun c => (railOf old c == some n || railOf d c == some n)
      && differs old d [CD_ENT_ROLE, CD_ENT_OWNK, CD_ENT_OWNN, CD_ENT_UNIT] c)
  if !moved then d
  else
    let d := if railState d n ≠ vrOff then railFault d n else d
    let d := forIx 32 (fun h d => d.setPhs n h { d.phs n h with isOpen := false, failed := false, trim := 0, hist := [] }) d
    showUsable d n

/-- Results whose baselines fall: objects whose directory entry, slot or rail block changed (R278). -/
def ageObjects (old d : Dev) : List Nat :=
  let ent := fun c => differs old d [CD_ENT_EXP_TYPE, CD_ENT_ROLE, CD_ENT_OWNK, CD_ENT_OWNN, CD_ENT_UNIT, CD_ENT_FW_PAT,
    CD_ENT_FW_MIN, CD_ENT_FW_MAJ, CD_ENT_VERPOL, CD_ENT_HOLDOVER, CD_ENT_SAFE, CD_ENT_MIN_SVN] c
  let chans := ((List.range 256).filter ent).flatMap (fun c =>
    let u := d.rd CD_ENT_UNIT c
    [mpKey 0 c, mpKey 1 c] ++ (match roleOf d c with
      | 3 | 4 => [mpKey 6 c]
      | 7 => [mpKey 7 c]
      | 5 => [mpKey 8 u, mpKey 9 u]
      | _ => []))
  let vr := configRegs.filter (fun r => decide (0x8000 ≤ r.off) && decide (r.off < 0x8800))
  let ls := configRegs.filter (fun r => decide (0x4000 ≤ r.off) && decide (r.off < 0x8000) && r.n2 == 1)
  let slotCh := fun (o : Option Nat) => o.any (fun s => differs old d ls s || (List.range 8).any (fun k => old.rd LS_C (8 * s + k) != d.rd LS_C (8 * s + k)))
  let rails := (List.range 16).filter (fun n =>
    vr.any (fun r => (List.range r.n2).any (fun k => old.rd r (n * r.n2 + k) != d.rd r (n * r.n2 + k)))
      || slotCh (posSlot d n) || slotCh (balSlot d n) || slotCh (rampSlot d n))
  chans ++ rails.flatMap (fun n => [mpKey 2 n, mpKey 3 n, mpKey 4 n, mpKey 5 n])

/-- A committed configuration sets the pairing mode as AU_MODE changes it (R306, R321). -/
def modeCommit (old d : Dev) : Dev :=
  let m := d.rd AU_CTRL_MODE
  if m = old.rd AU_CTRL_MODE then d
  else { d.wr AU_CTRL_MODE 0 (old.rd AU_CTRL_MODE) with au := { d.au with newMode := some m } }

/-- What the functions take at the boundary of any configuration: the counts of open phases since the last commit (R168),
the MAN holds of feeder, bus and leg loops (R178, R192), what LE_SCARF shows of them (R131), and the governor's drive of
its pins (R248). -/
def functionsApply (d : Dev) : Dev :=
  let d := forIx 16 (fun n d => d.wr VR_FCNT_OPEN n 0) d
  govDrive (scarfShow (shelfHolds (busHolds (shelfCommit (busCommit d)))))

/-- Everything a newly applied configuration brings about, from the device before it. -/
def configEffects (old d : Dev) : Dev :=
  let d := forIx 256 (entryApply old) d
  let d := forIx 256 (slotApply old) d
  let d := forIx 16 (railApply old) d
  let d := forIx 16 (fun n d => if railState d n = vrOff then d else rotFix d n) d
  let d := functionsApply d
  let d := modeCommit old d
  mpCommit d (ageObjects old d)

/-- The field-local rules of R429 over a whole configuration: VSET, and nothing that a check of step 4 has not settled;
the window rule R183 falls back to the active values. -/
def configLocal (old d : Dev) : Dev := ruleVset (ruleWindow old d)

/-- The buffer and generation in force. -/
def configShow (s : Sys) (buf : Nat) (d : Dev) : Dev :=
  ((d.wr NV_STATUS_CFGBUF 0 buf).wr NV_STATUS_CFGVALID 0 1).wr NV_CFGGEN 0 (leAt (Mem.bytes s.nv (cfgAddr buf + 12) 4) 0 4)

/-- The configuration of a start-up comes into force (R348): every enabled slot starts afresh, and a pairing mode other than
the reset mode is entered as by any commit (R306). -/
def bootApply (old new : Dev) (buf : Nat) : Dev :=
  let d := configLocal old { new with commit := none }
  let d := { d with up := { d.up with clean := old.rd NV_STATUS_CFGBUF == buf }, reval := List.range 256 }
  let d := forIx 256 (fun x d => if d.fl LS_EN x then slotReset d x else d) d
  modeCommit old (functionsApply d)

/-- Step 5 of R347 at a frame boundary, then step 6: the buffer and generation in force, the record, the completion. -/
def commitApply (s : Sys) : Sys :=
  match s.dev.commit with
  | none => s
  | some c =>
    if !c.staged ∨ s.dev.tb.now < c.okAt then s
    else
      match parseRecs c.len (wordsOf ((Mem.bytes s.nv (cfgAddr c.buf) c.len).drop 64)) with
      | none => s
      | some recs =>
        s.on (fun old =>
          let new := (candidate old recs).d
          let new := forL c.moved (fun k d => match allRegs.find? (fun r => r.id == k.1) with
            | some r => d.wr r k.2 (old.rd r k.2)
            | none => d) new
          if c.boot then configShow s c.buf (enablesApply old (bootApply old new c.buf))
          else
            let new := configLocal old { new with commit := none }
            let d := configShow s c.buf (enablesApply old (configEffects old new))
            completeAll (d.recd 0x0E00 0 10 []) c.ctxs stSuccess 0)

/-! ### Start-up (R348) -/

/-- The length that the image in a buffer states. -/
def imageLen (s : Sys) (buf : Nat) : Nat := leAt (Mem.bytes s.nv (cfgAddr buf) 12) 8 4

/-- An image that passed steps 1 to 4 at start-up waits for its frame boundary (R23, R348). -/
def bootStage (buf len : Nat) (d : Dev) : Dev :=
  { d with commit := some { buf := buf, len := len, ctxs := [], staged := true, okAt := d.tb.now + 2, boot := true } }

/-- The configuration at start-up: the marked buffer, else the other, else every field at its reset value (R348). -/
def loadConfig (s : Sys) : Sys :=
  let b := s.dev.rd NV_STATUS_CFGBUF
  match commitSteps s b (imageLen s b) true with
  | .ok _ => s.on (bootStage b (imageLen s b))
  | .fail step cls ofs =>
    let cand := if step = 4 then candOf s b (imageLen s b) else none
    let s := s.on (fun d => commitReject (d.ev NV_EVT_CFGINV) step cls ofs cand)
    match commitSteps s (1 - b) (imageLen s (1 - b)) true with
    | .ok _ => s.on (bootStage (1 - b) (imageLen s (1 - b)))
    | .fail _ _ _ => s

end Sys2Proof.Machine
end

