-- ==== Sys2Proof/Machine/Update.lean ====
section
/-! DEFINITION. The controller image: download, verification, slots and their trial (R349 to R356), the store's upkeep
(R343), and the stage relay round (R357 to R361). -/

namespace Sys2Proof.Machine
open R

/-! ### Slots and images (R349 to R351) -/

/-- Store address of an image slot (R340). -/
def slotAddr (k : Nat) : Nat := 0x80000 + k * 0x400000

/-- The register of a slot's state. -/
def slotReg (k : Nat) : Reg := if k = 0 then UP_STATUS_SLOTA else UP_STATUS_SLOTB

/-- The state of an image slot (R351): 0 EMPTY, 1 LOADING, 2 VERIFIED, 3 PENDING, 4 TRIAL, 5 GOOD, 6 FAILED. -/
def imgState (d : Dev) (k : Nat) : Nat := d.rd (slotReg k)

/-- An image slot takes a state. -/
def setImg (d : Dev) (k st : Nat) : Dev := d.wr (slotReg k) 0 st

/-- The running slot. -/
def runSlot (d : Dev) : Nat := d.rd UP_STATUS_RUNSLOT

/-- The slot a download writes (R351, R356). -/
def idleSlot (d : Dev) : Nat :=
  if d.rd UP_STATUS_BOOT = 3 then (if imgState d 0 = 5 then 1 else 0) else 1 - runSlot d

/-- The header of the bundle in a slot. -/
def bundleHead (s : Sys) (k : Nat) : List Nat := Mem.bytes s.nv (slotAddr k) 4096

/-- The used entries of STAB: stage type, offset, length, digest. -/
def stabOf (h : List Nat) : List (Nat × Nat × Nat × List Nat) :=
  (List.range 5).filterMap (fun i =>
    let e := (h.drop (64 + 48 * i)).take 48
    if leAt e 0 1 = 0 then none else some (leAt e 0 1, leAt e 4 4, leAt e 8 4, (e.drop 16).take 32))

/-- Checks 2 to 5 of R350 in order: the check that fails. `size` is the bundle's known size, or 0. -/
def verifyRest (s : Sys) (k size : Nat) : Option Nat :=
  let h := bundleHead s k
  let n := leAt h 12 4
  let a := slotAddr k
  let inside := fun (o l : Nat) => decide (o + l ≤ n)
  if leAt h 0 4 ≠ 0x47514231 ∨ leAt h 4 2 ≠ 1 ∨ (size ≠ 0 ∧ n ≠ size) ∨ n < 4096 ∨ 4194304 < n then some 2
  else if !keyCheck s 0 (h.take 3968) ((h.drop 3968).take 64) then some 3
  else if !inside (leAt h 16 4) (leAt h 20 4)
      ∨ sha256 (Mem.bytes s.nv (a + leAt h 16 4) (leAt h 20 4)) ≠ (h.drop 24).take 32
      ∨ !(stabOf h).all (fun e => inside e.2.1 e.2.2.1 && sha256 (Mem.bytes s.nv (a + e.2.1) e.2.2.1) == e.2.2.2) then some 4
  else if leAt h 6 2 < s.dev.rd UP_SVN_FLOOR then some 5
  else none

/-- Every check of R350 on a download: the check that fails. -/
def verifyImage (s : Sys) (k : Nat) : Option Nat :=
  let n := s.dev.rd UP_DL_SIZE
  if sha256 (Mem.bytes s.nv (slotAddr k) n) ≠ s.dev.up.dig then some 1 else verifyRest s k n

/-- UP_VER_OTHER and the running image's fields follow the slots. -/
def showVersions (s : Sys) : Sys :=
  let o := 1 - runSlot s.dev
  let h := bundleHead s o
  s.on (fun d => d.wr UP_VER_OTHER 0 (if imgState d o ≤ 1 then 0 else leAt h 8 4))

/-! ### Download (R352, R353) -/

/-- Pieces of the download. -/
def dlPieces (d : Dev) : Nat := cdiv (d.rd UP_DL_SIZE) 4096

/-- The download record is opened or resumed: whether it is refused, and the effect (UPD_BEGIN). -/
def updBegin (d : Dev) (size : Nat) (dig : List Nat) : Nat × Dev :=
  let k := idleSlot d
  if d.up.verify.isSome then (stBusy, d)
  else if imgState d (runSlot d) = 4 ∨ imgState d k = 3 then (stRefused, d)
  else if d.up.dig = dig ∧ d.rd UP_DL_SIZE = size then
    let d := d.wr UP_STATUS_DLOPEN 0 1
    (stSuccess, if d.rd UP_DL_MISSING = 0 then d else setImg d k 1)
  else
    let d := (setImg d k 1).wr UP_STATUS_DLOPEN 0 1
    let d := ((d.wr UP_DL_SIZE 0 size).wr UP_DL_MISSING 0 (cdiv size 4096)).clrReg UP_DLMAP
    let d := { d with up := { d.up with dig := dig } }
    (stSuccess, (d.wr UP_VER_OTHER 0 0).recd 0x0E02 0 10 [])

/-- The bit of a piece is set; the number of pieces missing falls. -/
def pieceSet (d : Dev) (n : Nat) : Dev :=
  if d.bit UP_DLMAP (n / 32) (n % 32) then d
  else (d.wrBit UP_DLMAP (n / 32) (n % 32) true).wr UP_DL_MISSING 0 (d.rd UP_DL_MISSING - 1)

/-- The store part of UPD_PIECE from hole data: the piece in its slot. -/
def pieceWrite (s : Sys) (n : Nat) (data : List Nat) : Sys :=
  let size := s.dev.rd UP_DL_SIZE
  let l := min 4096 (size - n * 4096)
  { s with nv := Mem.put s.nv (slotAddr (idleSlot s.dev) + n * 4096) (fit l data) }

/-- UPD_ABORT (R352). -/
def updAbort (d : Dev) : Dev :=
  let k := idleSlot d
  let d := d.wr UP_STATUS_DLOPEN 0 0
  if imgState d k = 3 then setImg d k 2 else d

/-- UPD_ACTIVATE (R352): the status and the effect. -/
def updActivate (d : Dev) : Nat × Dev :=
  let k := idleSlot d
  if imgState d k = 2 then (stSuccess, (setImg d k 3).recd 0x0E05 0 10 []) else (stRefused, d)

/-- The verification of a download ends (UPD_VERIFIED, R353). -/
def updVerified (s : Sys) : Sys :=
  match s.dev.up.verify with
  | none => s
  | some (cs, hole) =>
    let k := idleSlot s.dev
    let res := verifyImage s k
    let s := s.on (fun d => ({ d with up := { d.up with verify := none } }).wr UP_STATUS_DLOPEN 0 0)
    let s := s.on (fun d => match res with
      | none =>
        let d := { d with up := { d.up with slotDig := Tbl.set [] d.up.slotDig k d.up.dig } }
        ((setImg d k 2).ev UP_EVT_VERIFIED).recd 0x0E03 0 10 []
      | some c =>
        let d := ((setImg d k 6).clrReg UP_DLMAP).wr UP_DL_MISSING 0 (dlPieces d)
        (d.ev UP_EVT_VFAIL).recd 0x0E04 0 10 [c])
    let s := showVersions s
    s.on (fun d =>
      let d := holeEnd d hole (if res.isNone then 0 else 1)
      completeAll d cs (if res.isNone then stSuccess else stVerify) 0)

/-! ### Start and confirmation (R354, R355) -/

/-- A slot passes the loader's checks; its last verification's digest is compared where there is one. -/
def loaderOk (s : Sys) (k : Nat) : Bool :=
  let dig := Tbl.get [] s.dev.up.slotDig k
  let n := leAt (bundleHead s k) 12 4
  (verifyRest s k 0).isNone && (dig == [] || sha256 (Mem.bytes s.nv (slotAddr k) n) == dig)

/-- A slot boots in state `st` with BOOT `how`. -/
def bootSlot (s : Sys) (k st how : Nat) : Sys :=
  let h := bundleHead s k
  let s := s.on (fun d =>
    let d := (((setImg d k st).wr UP_STATUS_RUNSLOT 0 k).wr UP_STATUS_BOOT 0 how).wr UP_SVN_RUN 0 (leAt h 6 2)
    let d := d.wr UP_VER_RUN 0 (leAt h 8 4)
    let d := d.wr UP_TRIALT 0 (if st = 4 then 120 else 0)
    { d with up := { d.up with trialTick := 0, svc := 0, conf := false, failed := if st = 4 then false else d.up.failed } })
  showVersions s

/-- Recovery mode (R354 rows 1 and 6, R356). -/
def bootRecovery (d : Dev) : Dev :=
  { ((((d.wr UP_STATUS_BOOT 0 3).wr UP_SVN_RUN 0 0).wr UP_VER_RUN 0 0).wr UP_TRIALT 0 0) with pw := { d.pw with recovery := true } }

/-- A trial failed: UPD_FALLBACK record and event (R354 row 4, R355). -/
def trialFailed (d : Dev) (k : Nat) : Dev :=
  let d := { (setImg d k 6).wr UP_TRIALT 0 0 with up := { d.up with failed := true } }
  (d.ev UP_EVT_FALLBACK).recd 0x0E07 0 10 []

/-- Row 5 and row 6 of R354. -/
def bootGood (s : Sys) : Sys :=
  match firstIx 2 (fun k => imgState s.dev k == 5) with
  | none => s.on bootRecovery
  | some k =>
    if loaderOk s k then
      let how := if s.dev.up.failed then 2 else 0
      (bootSlot s k 5 how).on (fun d => { d with up := { d.up with failed := false } })
    else (s.on (fun d => setImg d k 6)).on bootRecovery

/-- Rows 3 and 4 of R354. -/
def bootTrial (s : Sys) : Sys :=
  match firstIx 2 (fun k => imgState s.dev k == 4) with
  | none => bootGood s
  | some k =>
    if s.dev.rd UP_STATUS_STARTS < 3 then
      if loaderOk s k then bootSlot (s.on (fun d => d.wr UP_STATUS_STARTS 0 (d.rd UP_STATUS_STARTS + 1))) k 4 1
      else bootGood (s.on (fun d => { setImg d k 6 with up := { d.up with failed := true } }))
    else bootGood (s.on (fun d => trialFailed d k))

/-- The loader's choice of a slot (R354). -/
def loaderBoot (s : Sys) (bootsel : Bool) : Sys :=
  if bootsel then s.on bootRecovery
  else match firstIx 2 (fun k => imgState s.dev k == 3) with
    | some k =>
      if loaderOk s k then bootSlot (s.on (fun d => d.wr UP_STATUS_STARTS 0 1)) k 4 1
      else bootTrial (s.on (fun d => setImg d k 6))
    | none => bootTrial s

/-- The running image is in TRIAL. -/
def inTrial (d : Dev) : Bool := !d.pw.recovery && imgState d (runSlot d) == 4

/-- A TRIAL image meets every condition of R355. -/
def confirmDue (d : Dev) : Bool :=
  inTrial d && d.up.clean && !d.fl GL_STATUS_MHALT && decide (10000000 ≤ d.up.svc)
    && (List.range 8).all (fun r => !d.fl RG_CTRL_EN r || ringState d r == rgRun || ringState d r == rgSplit)
    && (!d.fl UP_CTRL_HOSTCONF || d.up.conf)

/-- UPD_CONFIRM (R355). -/
def updConfirm (d : Dev) : Dev :=
  let k := runSlot d
  let d := setImg d k 5
  let d := if imgState d (1 - k) = 5 then setImg d (1 - k) 2 else d
  let d := (d.wr UP_SVN_FLOOR 0 (d.rd UP_SVN_RUN)).wr UP_TRIALT 0 0
  (d.ev UP_EVT_CONFIRM).recd 0x0E06 0 10 []

/-- 120 s of service without confirmation (R355). -/
def fallbackDue (d : Dev) : Bool := inTrial d && d.rd UP_TRIALT == 0

/-- The service times of a tick (R355). -/
def trialCount (d : Dev) : Dev :=
  if d.rd PM_STATUS_STATE ≠ 1 then d
  else
    let svc := if d.fl GL_STATUS_MHALT then 0 else min 10000000 (d.up.svc + 1)
    let d := { d with up := { d.up with svc := svc } }
    if !inTrial d then d
    else if d.up.trialTick + 1 < 1000000 then { d with up := { d.up with trialTick := d.up.trialTick + 1 } }
    else { d.wr UP_TRIALT 0 (d.rd UP_TRIALT - 1) with up := { d.up with trialTick := 0 } }

/-! ### Imprint refresh (R343) -/

/-- A refresh pass starts (NV_CMD.REFRNOW, REFRESH_START). -/
def refreshStart (d : Dev) : Dev :=
  if d.up.refr.isSome then d
  else { d.wr NV_STATUS_REFBUSY 0 1 with up := { d.up with refr := some 0, refrAt := d.cur } }

/-- REFRESH_START is due; an interval of 0 acts as 1 (R343, R362). -/
def refreshDue (d : Dev) : Bool := d.up.refr.isNone && decide (d.rd1 NV_REFR_INTERVAL ≤ d.rd NV_REFR_AGE)

/-- REFRESH_BLOCK is due: 64 ticks after the last block, once the store's pause has passed (R270). -/
def refreshBlockDue (d : Dev) : Bool := d.up.refr.isSome && decide (d.up.refrAt + 64 ≤ d.tb.now) && paceReady d 2

/-- REFRESH_BLOCK: a block is read and rewritten, and its self-test read measures the imprint margin, a free value. -/
def refreshBlock (s : Sys) (k : StoreCase) : Sys :=
  match s.dev.up.refr with
  | none => s
  | some b =>
    let (_, s) := storeCase s k
    s.on (fun d =>
      let d := d.freeNext.wr NV_IMPM_MARGIN 0 d.freeV
      let d := paceEnded d 2 0
      if b + 1 < 262144 then { d with up := { d.up with refr := some (b + 1), refrAt := d.cur } }
      else { (((d.ev NV_EVT_REFDONE).wr NV_REFR_AGE 0 0).wr NV_STATUS_REFBUSY 0 0) with up := { d.up with refr := none, ageTick := 0 } })

/-- NV_REFR.AGE counts hours (R343). -/
def ageCount (d : Dev) : Dev :=
  if d.up.ageTick + 1 < 3600000000 then { d with up := { d.up with ageTick := d.up.ageTick + 1 } }
  else { d.inc NV_REFR_AGE with up := { d.up with ageTick := 0 } }

/-! ### The relay round (R357 to R361) -/

/-- One ring's round. -/
def Dev.rly (d : Dev) (r : Nat) : RelaySt := Tbl.get {} d.up.relay r
/-- A ring's round changes. -/
def Dev.setRly (d : Dev) (r : Nat) (x : RelaySt) : Dev := { d with up := { d.up with relay := Tbl.set {} d.up.relay r x } }
/-- UP_RLY.STATE of a ring: 0 idle, 1 running, 2 paused, 3 ended. -/
def rlyState (d : Dev) (r : Nat) : Nat := d.rd UP_RLY_STATE r

/-- The stage image of a type in the running bundle: store address and length. -/
def stageImage (s : Sys) (typ : Nat) : Option (Nat × Nat) :=
  let k := runSlot s.dev
  ((stabOf (bundleHead s k)).find? (fun e => e.1 == typ)).map (fun e => (slotAddr k + e.2.1, e.2.2.1))

/-- The version bytes FW_PAT, FW_MIN, FW_MAJ of the image of a type. -/
def imageVersion (s : Sys) (typ : Nat) : List Nat :=
  match stageImage s typ with
  | some (a, _) => Mem.bytes s.nv (a + 1) 3
  | none => []

/-- The version bytes of the stage at a channel as last identified (R97). -/
def stageVersion (d : Dev) (c : Nat) : List Nat := (d.chn c).idb.drop 2 |>.take 3

/-- The channel is included in the round of a type (R358). -/
def included (s : Sys) (typ c : Nat) : Bool :=
  let d := s.dev
  leAt (d.chn c).idb 0 1 == typ && stageVersion d c != imageVersion s typ && health d c != 0
    && [0, qImage, qSvn, qVersion].contains (d.rd CD_ENT_QREASON c)

/-- The included channels of a type on a ring, in ascending position. -/
def includedOn (s : Sys) (r typ : Nat) : List Nat :=
  ((List.range 32).map (fun p => r * 32 + p)).filter (included s typ)

/-- Stage types present on a ring with an image in the running bundle, in ascending order. -/
def typesOn (s : Sys) (r : Nat) : List Nat :=
  [1, 2, 3, 4, 5].filter (fun t => (stageImage s t).isSome
    && (List.range 32).any (fun p => leAt (s.dev.chn (r * 32 + p)).idb 0 1 == t && health s.dev (r * 32 + p) != 0))

/-- The relay sources upstream of a channel: verified stages out of their window, and stages that run the new image. -/
def relaySource (s : Sys) (r typ c : Nat) : Option Nat :=
  let d := s.dev
  let x := d.rly r
  let ok := fun c' => decide (c' < c) && !x.window.any (fun w => w.1 == c') && leAt (d.chn c').idb 0 1 == typ
    && (x.sources.contains c' || ((d.chn c').matched && stageVersion d c' == imageVersion s typ))
  (((List.range 32).map (fun p => r * 32 + p)).filter ok).getLast?

/-- A RELAY_STAGE record for a channel (R359, R360). -/
def relayRec (d : Dev) (c : Nat) : Dev := (d.ev UP_EVT_RLYSTAGE).recd 0x0E08 1 c []

/-- The round of a ring ends (RELAY_END, R361). -/
def relayEnd (d : Dev) (r : Nat) : Dev :=
  let d := (d.wr UP_RLY_STATE r 3).setRly r {}
  let d := d.setRg r { d.rg r with work := (d.rg r).work.filter (fun e => decide (e.kind < 3)) }
  (d.ev UP_EVT_RLYEND).recd 0x0E0A 6 r [d.rd UP_RLY_NDONE r, d.rd UP_RLY_NSKIP r, d.rd UP_RLY_NFAIL r]

/-- The next type of a round starts, or the round ends. -/
def relayNext (s : Sys) (r : Nat) : Sys :=
  let x := s.dev.rly r
  match x.types with
  | [] => s.on (fun d => relayEnd d r)
  | t :: ts =>
    let todo := includedOn s r t
    s.on (fun d => (d.wr UP_RLY_TYPE r t).setRly r { x with types := ts, todo := todo, target := none, piece := 0, await := [],
                                                            ready := [], sources := [], window := [], reids := [] })

/-- UPD_STAGES on one ring (R358). -/
def relayStart (s : Sys) (r : Nat) : Sys :=
  let ts := typesOn s r
  let s := s.on (fun d =>
    let d := ((d.wr UP_RLY_NDONE r 0).wr UP_RLY_NSKIP r 0).wr UP_RLY_NFAIL r 0
    ((d.wr UP_RLY_STATE r 1).wr UP_RLY_SRCV r 0).setRly r { types := ts })
  relayNext s r

/-- A stage leaves the round as failed (R359 step 3). -/
def relayFail (d : Dev) (r c : Nat) : Dev :=
  let x := d.rly r
  let x := { x with target := if x.target = some c then none else x.target, await := x.await.filter (fun y => y != c) }
  relayRec ((d.inc UP_RLY_NFAIL r).setRly r x) c

/-- Pieces of 128 bytes of an image. -/
def imagePieces (n : Nat) : Nat := cdiv n 128

/-- A round stops its transfers and shows that it is paused (RELAY_PAUSE, R361). -/
def relayShowPause (d : Dev) (r : Nat) : Dev :=
  let d := (d.wr UP_RLY_STATE r 2).setRg r { d.rg r with work := (d.rg r).work.filter (fun e => decide (e.kind < 3)) }
  (d.ev UP_EVT_RLYPAUSE).recd 0x0E09 6 r []

/-- A round whose ring has left RUN pauses, and trusts no buffer any more (R361). -/
def relayPause (d : Dev) (r : Nat) : Dev := relayShowPause (d.setRly r { types := (d.rly r).types }) r

/-- A round without a target takes its next included stage (R359 step 1). -/
def relayAim (d : Dev) (r : Nat) : Dev :=
  let x := d.rly r
  match x.target, x.todo with
  | none, c :: cs => d.setRly r { x with todo := cs, target := some c, piece := 0 }
  | _, _ => d

/-- A transfer of the round waits or is under way on its ring. -/
def relayBusy (d : Dev) (r : Nat) (flightToo : Bool) : Bool :=
  (d.rg r).work.any (fun e => decide (3 ≤ e.kind)) || (flightToo && (d.rg r).flight.any (fun e => decide (3 ≤ e.kind)))

/-- The next piece towards the target, one per frame; at a throttle level each awaits the answer to the one before it
(R270, R359 step 1). After the last piece the stage's verification is awaited. -/
def relayPiece (s : Sys) (r c : Nat) : Sys :=
  let d := s.dev
  let x := d.rly r
  let typ := d.rd UP_RLY_TYPE r
  let n := (stageImage s typ).getD (0, 0)
  if x.await.contains c then s
  else if imagePieces n.2 ≤ x.piece then
    if relayBusy d r true then s else s.on (fun d => d.setRly r { x with await := [c] })
  else if relayBusy d r (d.rd TH_STATUS_LEVEL != 0) || !paceReady d 3 then s
  else
    let data := Mem.bytes s.nv (n.1 + 128 * x.piece) (min 128 (n.2 - 128 * x.piece))
    let src := relaySource s r typ c
    let e : Exch := match src with
      | some c' => { kind := 4, pos := c' % 32, xfer := 0x100 + typ, seq := x.piece }
      | none => { kind := 3, pos := c % 32, xfer := 0x100 + typ, seq := x.piece, data := data }
    s.on (fun d =>
      let d := d.setRg r { d.rg r with work := (d.rg r).work ++ [e] }
      let d := (d.wrB UP_RLY_SRCV r src.isSome).wr UP_RLY_SRC r (src.getD 0 % 32)
      d.setRly r { x with piece := x.piece + 1 })

/-- One tick of a running round: its next target and the next piece towards it (R359 step 1), or the next type. -/
def relayTick (s : Sys) (r : Nat) : Sys :=
  if rlyState s.dev r ≠ 1 then s
  else if ringState s.dev r ≠ rgRun then s.on (fun d => relayPause d r)
  else
    let s := s.on (fun d => relayAim d r)
    let x := s.dev.rly r
    match x.target with
    | some c => relayPiece s r c
    | none => if x.ready.isEmpty && x.window.isEmpty && x.reids.isEmpty && x.await.isEmpty then relayNext s r else s

/-- Answers of relay exchanges, and re-identifications after a write window (R359 steps 1 and 6). -/
def relayService (s : Sys) (r : Nat) : Sys :=
  let rans := (s.dev.rg r).rans
  let s := s.on (fun d =>
    let d := if rans.isEmpty then d else paceEnded d 3 0
    d.setRg r { d.rg r with rans := [] })
  let s := if rans.any (fun a => a.2.2 == 0) then
      (match (s.dev.rly r).target with
        | some c => s.on (fun d =>
            let d := d.setRg r { d.rg r with work := (d.rg r).work.filter (fun e => decide (e.kind < 3)) }
            relayFail d r c)
        | none => s)
    else s
  let done := (s.dev.rly r).reids.filter (fun c => !(s.dev.chn c).reiding)
  done.foldl (fun s c =>
    let typ := s.dev.rd UP_RLY_TYPE r
    let good := (s.dev.chn c).matched && stageVersion s.dev c == imageVersion s typ
    s.on (fun d =>
      let d := setCond d CD_ENT_COND_UPD c false
      let d := issueRun d c
      let d := d.inc (if good then UP_RLY_NDONE else UP_RLY_NFAIL) r
      let x := d.rly r
      let d := d.setRly r { x with reids := x.reids.filter (fun y => y != c), sources := if good then x.sources ++ [c] else x.sources }
      relayRec d c)) s

/-- RELAY_VERIFY_RESULT: a stage reports its buffer verification (R359 steps 2 and 3). -/
def relayVerify (d : Dev) (r : Nat) : Dev :=
  match (d.rg r).vers with
  | [] => d
  | (p, res) :: vs =>
    let d := d.setRg r { d.rg r with vers := vs }
    let c := r * 32 + p
    let x := d.rly r
    if rlyState d r ≠ 1 ∨ !x.await.contains c then d
    else if res = 0 then
      d.setRly r { x with target := none, await := [], sources := x.sources ++ [c], ready := x.ready ++ [(c, d.cur)] }
    else relayFail d r c

/-- The owner lets a verified stage go (R360), with what it does for it; a stage out of service needs no release. -/
def ownerRelease (d : Dev) (c : Nat) : Bool × Dev :=
  let u := d.rd CD_ENT_UNIT c
  if (d.chn c).quar then (true, d)
  else match roleOf d c with
    | 1 | 2 => railRelease d (d.rd CD_ENT_OWNN c) c
    | 3 =>
      let st := fuState d u
      let chg := d.rd CD_ENT_OWNK c == 2 && (d.fg (d.rd CD_ENT_OWNN c)).chg.isSome
      ([fuIdle, fuOff, fuOn, fuLockout, fuShed].contains st && !chg, d)
    | 4 => (d.rd SP_STATUS_ATT == 0, d)
    | 5 => (shelfState d == bsOff || shelfState d == bsReady, d)
    | 6 =>
      if (shelfState d == bsOff || shelfState d == bsReady) && (legs d).any (fun k => k != u) then (true, legOut d u d.curPm)
      else (false, d)
    | 7 => (d.rd FD_STATUS_STATE == fdReg && decide (busD d ≤ loopSum d (fun i _ => sharing d i && i != u)), d)
    | _ => (true, d)

/-- Owner kind and number of a channel. -/
def ownerOf (d : Dev) (c : Nat) : Nat × Nat := (d.rd CD_ENT_OWNK c, d.rd CD_ENT_OWNN c)

/-- RELAY_RELEASE (R359 step 4, R360). -/
def relayRelease (d : Dev) (c : Nat) : Dev :=
  let r := c / 32
  let x := d.rly r
  let busy := (List.range 8).any (fun q => (d.rly q).window.any (fun w => ownerOf d w.1 == ownerOf d c))
  if rlyState d r ≠ 1 ∨ !x.ready.any (fun y => y.1 == c) ∨ busy ∨ 4 ≤ x.window.length then d
  else
    let (go, d) := ownerRelease d c
    if !go then d
    else
      let d := setCond d CD_ENT_COND_UPD c true
      let d := issueRegWr d c 0x71 1
      let x := d.rly r
      d.setRly r { x with ready := x.ready.filter (fun y => y.1 != c), sources := x.sources.filter (fun y => y != c),
                          window := x.window ++ [(c, applyEdge d c d.tb.now)] }

/-- RELAY_SKIP is due (R360). -/
def relaySkipDue (d : Dev) (c : Nat) : Bool :=
  (d.rly (c / 32)).ready.any (fun y => y.1 == c && decide (y.2 + d.rd1 UP_RLYCFG_RWAIT * 1000000 ≤ d.tb.now))

/-- RELAY_SKIP (R360): the stage keeps its buffer. -/
def relaySkip (d : Dev) (c : Nat) : Dev :=
  let r := c / 32
  let x := d.rly r
  relayRec ((d.inc UP_RLY_NSKIP r).setRly r { x with ready := x.ready.filter (fun y => y.1 != c) }) c

/-- RELAY_WRITE_DONE is due: the stage has restarted, which shows as a SAFE report, or 50 ms have passed since it
applied the write command (R359 step 6). -/
def writeDoneDue (d : Dev) (c : Nat) : Bool :=
  (d.rly (c / 32)).window.any (fun w => w.1 == c
    && (decide (w.2 + 50000 ≤ d.tb.now) || ((d.chn c).rtype == 3 && decide (w.2 + d.rd RG_LAT_L (c / 32) ≤ d.tb.now))))

/-- RELAY_WRITE_DONE: the stage is identified again. -/
def writeDone (d : Dev) (c : Nat) : Dev :=
  let r := c / 32
  let x := d.rly r
  let d := d.setRly r { x with window := x.window.filter (fun w => w.1 != c), reids := x.reids ++ [c] }
  let d := d.setCh c { d.chn c with reiding := true, asks := 0, idAns := 0, cfgAns := 0 }
  issue d c 0x04 0

/-- What a round goes on with: after a sleep the stages still to be filled and the verified buffers, whose release wait starts
again (R418); otherwise every included stage, and no buffer is trusted (R361). -/
def relayRest (s : Sys) (r : Nat) : RelaySt :=
  let x := s.dev.rly r
  let inc := includedOn s r (s.dev.rd UP_RLY_TYPE r)
  if (s.dev.rg r).bufs then
    { types := x.types, todo := x.todo.filter inc.contains, sources := x.sources,
      ready := (x.ready.filter (fun y => inc.contains y.1)).map (fun y => (y.1, s.dev.cur)) }
  else { types := x.types, todo := inc }

/-- RELAY_RESUME: a paused round goes on when its ring is in RUN (R361). -/
def relayResume (s : Sys) (r : Nat) : Sys :=
  if rlyState s.dev r ≠ 2 ∨ ringState s.dev r ≠ rgRun then s
  else s.on (fun d => (d.wr UP_RLY_STATE r 1).setRly r (relayRest s r))

/-- Every round ends (UP_CMD.RLYSTOP, controller reset; R361). -/
def relayStop (d : Dev) : Dev :=
  forIx 8 (fun r d => if rlyState d r = 1 ∨ rlyState d r = 2 then relayEnd d r else d) d

/-- A write window is running (R361, R414). -/
def anyWindow (d : Dev) : Bool := (List.range 8).any (fun r => !(d.rly r).window.isEmpty)

/-- UPD_STAGES (R358): the status and the effect. -/
def updStages (s : Sys) (r : Nat) : Nat × Sys :=
  let d := s.dev
  if imgState d (runSlot d) ≠ 5 ∨ d.pw.recovery then (stRefused, s)
  else if r < 8 then
    if rlyState d r = 1 ∨ rlyState d r = 2 then (stBusy, s)
    else if ringState d r ≠ rgRun ∨ (typesOn s r).isEmpty then (stRefused, s)
    else (stSuccess, relayStart s r)
  else
    let rs := (List.range 8).filter (fun q => ringState d q == rgRun && !(typesOn s q).isEmpty)
    if rs.isEmpty then (stRefused, s)
    else if rs.any (fun q => rlyState d q == 1 || rlyState d q == 2) then (stBusy, s)
    else (stSuccess, rs.foldl relayStart s)

end Sys2Proof.Machine
end

