-- ==== Sys2Proof/Machine/Service.lean ====
section
/-! DEFINITION. The service port: Type-C, PD policy, and the USB service session (R381 to R407). -/

namespace Sys2Proof.Machine
open R

/-- SP_STATUS.ATT codes (R407). -/
def spUnatt : Nat := 0
def spSnk : Nat := 1
def spSrc : Nat := 2
def spAudio : Nat := 3
def spDebug : Nat := 4
def spDisch : Nat := 5
def spErr : Nat := 6

/-- The port's state. -/
def spState (d : Dev) : Nat := d.rd SP_STATUS_ATT

/-- The port enters a state. -/
def spGo (d : Dev) (st : Nat) : Dev := { d.wr SP_STATUS_ATT 0 st with sp := { d.sp with since := d.cur } }

/-- A record of the service port (CLASS 11, R324). -/
def spRec (d : Dev) (code : Nat) (pay : List Nat) : Dev := d.recd code 11 0 pay

/-- The port switch: its fuse index and channel (R381). -/
def portSw (d : Dev) : Option (Nat × Nat) :=
  match (List.range 64).find? (fun f => fuValid d f && fuPortsw d f) with
  | none => none
  | some f => (chanOfFuse d f).map (fun c => (f, c))

/-- The service port sets the port switch, and shows the VOUT code in force (R224, R407). -/
def spSet (d : Dev) (p : PortSw) : Dev := (psSet d p).wr SP_VBUS_VOUT 0 p.vout

/-- The switch opens (R386); `disch` discharges VBUS. -/
def spOpen (d : Dev) (disch : Bool) : Dev := spSet d { d.ps with en := false, disch := disch }

/-- The source role is available (R390). -/
def srcAvail (d : Dev) : Bool :=
  d.fl SP_CTRL_SRC_EN && !d.fl SP_STATUS_SVCBOOT && !d.pw.recovery &&
    (match portSw d with
     | none => false
     | some (f, c) => inService d c && fuState d f != fuLockout)

/-- ROLE in force when unattached (R382). -/
def spRole (d : Dev) : Nat :=
  let r := d.rd SP_CTRL_ROLE
  if !d.fl SP_CTRL_EN || !srcAvail d || r == 3 then 1 else r

/-- The unattached port presents Rp. -/
def spRp (d : Dev) : Bool := spRole d == 2 || (spRole d == 0 && d.sp.rp)

/-- The PD policy works: attached with PD, the management cores running (R39, R383, R407). -/
def pdOn (d : Dev) : Bool :=
  (spState d == spSnk || spState d == spSrc) && d.fl SP_CTRL_EN && !d.fl GL_STATUS_MHALT

/-- IMAX in force, 50 mA (R407). -/
def imax (d : Dev) : Nat := clampN 1 60 (d.rd SP_SRC_IMAX)

/-- ILIM of a fixed contract, or of vSafe5V without one (R389). -/
def ilimFixed (d : Dev) : Nat := imax d * 5 / 4

/-- The offered objects in order: fixed voltages in 20 mV, and the APDO (R387). -/
def srcOffer (d : Dev) : List (Option Nat) :=
  [some 250] ++ (if d.bit SP_SRC_PDOEN 0 0 then [some 450] else [])
    ++ (if d.bit SP_SRC_PDOEN 0 1 then [some 750] else [])
    ++ (if d.bit SP_SRC_PDOEN 0 2 then [some 1000] else [])
    ++ (if d.fl SP_SRC_PPS_EN then [none] else [])

/-- An offered object as the PD standard encodes it; PRESUMED layout, log entry 40. -/
def pdoCode (d : Dev) (k : Nat) (o : Option Nat) : Nat :=
  match o with
  | some v => imax d * 5 + (v * 2 / 5) * 2 ^ 10 + (if k = 0 then 2 ^ 29 + 2 ^ 26 else 0)
  | none => imax d + 33 * 2 ^ 8 + 210 * 2 ^ 17 + 3 * 2 ^ 30

/-- Message codes of `Emission.pd`: the PD message type, plus 32 for a data message; 0 for Hard Reset. -/
def pdHardReset : Nat := 0
def pdAccept : Nat := 3
def pdReject : Nat := 4
def pdPsRdy : Nat := 6
def pdDrSwap : Nat := 9
def pdNotSup : Nat := 16
def pdSourceCaps : Nat := 33
def pdRequestMsg : Nat := 34

/-- Source_Capabilities is sent (R387). -/
def sendCaps (d : Dev) : Dev :=
  d.emit (.pd pdSourceCaps ((srcOffer d).zipIdx.map (fun (e : Option Nat × Nat) => pdoCode d e.2 e.1)))

/-- The session ends (R405). -/
def sessionEnd (d : Dev) : Dev :=
  let d := (d.wr SP_STATUS_LEVEL 0 0).wr SP_SESS 0 0
  { d with sp := { d.sp with sessTick := 0 } }

/-- The D+ pull-up is connected: the port is UFP in an attached state or in DEBUG (R402). -/
def usbOn (d : Dev) : Bool :=
  !d.fl SP_STATUS_DROLE && (spState d == spSnk || spState d == spSrc || spState d == spDebug)

/-- D+ leaves the bus: the USB device is no longer configured and no response waits. -/
def usbOff (d : Dev) : Dev :=
  { d.wr SP_STATUS_USBCFG 0 0 with sp := { d.sp with resp := none, res := [] } }

/-- No contract is in force any more, and no transition. -/
def contractEnd (d : Dev) : Dev :=
  let d := d.clrRegs [SP_STATUS_CONTRACT, SP_STATUS_XSITION, SP_CONTR_VOLT, SP_CONTR_CURR, SP_CONTR_POS, SP_CONTR_PPS]
  { d with sp := { d.sp with xs := none, ask := none, drs := false } }

/-- What a detach ends: contract, roles, partner, USB session (R386, R405). -/
def portClear (d : Dev) : Dev :=
  let d := usbOff (sessionEnd (contractEnd d))
  let d := d.clrRegs [SP_STATUS_PROLE, SP_STATUS_DROLE, SP_STATUS_ORIENT, SP_STATUS_PARTNER, SP_STATUS_RA]
  { d with sp := { d.sp with swap := 0, hr := false, mark := none, rp := false } }

/-- The return to UNATTACHED (R383). -/
def portLeave (d : Dev) : Dev :=
  let d := spRec ((spGo (portClear d) spUnatt).ev SP_EVT_DETACH) 0x0F02 []
  { d with sp := { d.sp with toggleAt := d.cur } }

/-- ERROR_RECOVERY: the switch opens (R383). -/
def errorRecovery (d : Dev) : Dev := spGo (portClear (spOpen d false)) spErr

/-- The contract in force (R388). -/
def contractIn (d : Dev) (pos volt curr : Nat) (pps : Bool) : Dev :=
  let d := ((((d.wr SP_STATUS_CONTRACT 0 1).wr SP_STATUS_XSITION 0 0).wr SP_CONTR_VOLT 0 volt).wr SP_CONTR_CURR 0 curr)
  let d := ((d.wr SP_CONTR_POS 0 pos).wrB SP_CONTR_PPS 0 pps).ev SP_EVT_CONTRACT
  let d := spRec d 0x0F03 (le 2 volt ++ [curr, pos, pps.toNat])
  if d.fl SP_STATUS_DROLE && d.fl SP_CTRL_DRS_AUTO then
    { d.emit (.pd pdDrSwap []) with sp := { d.sp with swap := 2, drs := true } }
  else { d with sp := { d.sp with drs := false } }

/-- A Hard Reset (R395): swap and contract end, the power role follows the CC termination presented, and a source goes
through vSafe0V; `sent` when this end sends it. -/
def spHardReset (d : Dev) (sent : Bool) : Dev :=
  let swap := d.sp.swap
  let d := if sent then d.emit (.pd pdHardReset []) else d
  let d := spRec ((d.ev SP_EVT_HRST).inc SP_CNT_HRST) 0x0F05 [swap]
  let d := contractEnd d
  let src := d.sp.rp
  let d := ((d.wrB SP_STATUS_PROLE 0 src).wrB SP_STATUS_DROLE 0 src).wr SP_STATUS_ATT 0 (if src then spSrc else spSnk)
  let d := { d with sp := { d.sp with swap := 0, mark := none, hr := src } }
  let d := if src then spOpen d true else d
  if usbOn d then d else usbOff d

/-- Entry to ATTACHED.SRC (R383): 5 V at the port, then the offer. -/
def srcEntry (d : Dev) : Dev :=
  sendCaps (spSet d { vout := 250, ilim := ilimFixed d, en := true, disch := false })

/-- What R384 recognises: state, partner code, orientation, powered cable; `rp` what the port presents. -/
def partnerOf (rp : Bool) (c1 c2 : Term) : Option (Nat × Nat × Nat × Bool) :=
  match rp, c1, c2 with
  | true, .rd, .opn => some (spSrc, 1, 0, false)
  | true, .opn, .rd => some (spSrc, 1, 1, false)
  | true, .rd, .ra => some (spSrc, 1, 0, true)
  | true, .ra, .rd => some (spSrc, 1, 1, true)
  | true, .ra, .ra => some (spAudio, 3, 0, false)
  | true, .rd, .rd => some (spDebug, 4, 0, false)
  | false, .rp, .rp => some (spDebug, 4, 0, false)
  | false, .rp, _ => some (spSnk, 2, 0, false)
  | false, _, .rp => some (spSnk, 2, 1, false)
  | _, _, _ => none

/-- PORT_ATTACH with the terminations seen on CC1 and CC2 (R383 to R385, R400). -/
def portAttach (d : Dev) (c1 c2 : Term) : Dev :=
  let rp := spRp d
  match partnerOf rp c1 c2 with
  | none => d
  | some (st, partner, orient, ra) =>
    if spState d ≠ spUnatt || (st == spSnk && decide (d.rd SP_VBUS_V ≤ 400)) then d
    else
      let d := (((spGo d st).wr SP_STATUS_PARTNER 0 partner).wr SP_STATUS_ORIENT 0 orient).wrB SP_STATUS_RA 0 ra
      let d := { d with sp := { d.sp with rp := rp, reqAt := d.cur, kaAt := d.cur } }
      let d := spRec (d.ev SP_EVT_ATTACH) 0x0F01 []
      let d :=
        if st = spSrc then
          srcEntry ((d.wr SP_STATUS_PROLE 0 1).wr SP_STATUS_DROLE 0 1)
        else if st = spDebug && rp && d.fl SP_CTRL_DBG_VBUS then
          spSet (d.wr SP_STATUS_PROLE 0 1) { vout := 250, ilim := ilimFixed d, en := true, disch := false }
        else d
      if d.sp.again && pdOn d then spHardReset { d with sp := { d.sp with again := false } } true
      else { d with sp := { d.sp with again := false } }

/-- A detach between the Accept of a Request and its PS_RDY is recorded (R396). -/
def ditRec (d : Dev) (pm : Nat) : Dev :=
  if !d.fl SP_STATUS_XSITION then d
  else
    let old := if d.fl SP_STATUS_CONTRACT then d.rd SP_CONTR_VOLT else 250
    let target :=
      match d.sp.xs with
      | some x => x.volt
      | none => match d.sp.ask with | some (_, v, _, _) => v | none => old
    let pay := le 2 old ++ le 2 target ++ le 2 (d.rd SP_VBUS_VOUT) ++ le 2 (d.rd SP_VBUS_V)
    ((d.ev SP_EVT_DIT).inc SP_CNT_DIT).recAt pm 0x0F06 11 0 pay

/-- SOURCE_DETACH; `pm` is the postmark at which the CC detector first saw the termination gone (R386, R396). -/
def sourceDetach (d : Dev) (pm : Nat) : Dev :=
  if spState d ≠ spSrc then d else spGo (portClear (spOpen (ditRec d pm) true)) spDisch

/-- VBUS is below the disconnect level of R386. -/
def sinkGone (d : Dev) : Bool :=
  let v := d.rd SP_VBUS_V
  let k := d.rd SP_CONTR_VOLT
  if d.fl SP_STATUS_CONTRACT && decide (250 < k) then decide (v * 10 < k * 16) else decide (v < 367)

/-- SINK_DETACH (R383, R386, R396). -/
def sinkDetach (d : Dev) : Dev :=
  if spState d ≠ spSnk || !sinkGone d then d else portLeave (ditRec d d.curPm)

/-- ACCESSORY_DETACH (R383). -/
def accessoryDetach (d : Dev) : Dev :=
  if spState d ≠ spAudio ∧ spState d ≠ spDebug then d
  else
    let d := if d.ps.en then spOpen d true else spSet d { d.ps with disch := true }
    spGo (portClear d) spDisch

/-- DISCHARGE_END is due (R383). -/
def dischargeEndDue (d : Dev) : Bool := spState d == spDisch && decide (d.rd SP_VBUS_V < 80)

/-- DISCHARGE_END. -/
def dischargeEnd (d : Dev) : Dev := portLeave (spSet d { d.ps with disch := false })

/-- DISCHARGE_TIMEOUT is due (R383). -/
def dischargeToDue (d : Dev) : Bool := spState d == spDisch && d.due (d.sp.since + 650000)

/-- DISCHARGE_TIMEOUT. -/
def dischargeTimeout (d : Dev) : Dev := dischargeEnd (d.ev SP_EVT_DISCHTO)

/-- ERROR_RECOVERY_END is due (R383). -/
def errorEndDue (d : Dev) : Bool :=
  spState d == spErr && d.due (d.sp.since + 25000) && decide (d.rd SP_VBUS_V < 80)

/-- SP_CMD.HRST (R395). -/
def spCmdHrst (d : Dev) : Dev := if pdOn d then spHardReset d true else d

/-- SP_CMD.ERRREC (R383). -/
def spCmdErrrec (d : Dev) : Dev :=
  if spState d = spSnk ∨ spState d = spSrc then errorRecovery d else d

/-- The port switch went to LOCKOUT in this step (R397). -/
def spTrip (before after : Dev) : Dev :=
  match portSw after with
  | none => after
  | some (f, _) =>
    if fuState after f = fuLockout ∧ fuState before f ≠ fuLockout then spCmdErrrec after else after

/-! ### PD as source (R387 to R391) -/

/-- PD_REQUEST: position, PPS voltage in 20 mV, current in 10 mA for a fixed object or 50 mA for PPS (R388). -/
def pdRequest (d : Dev) (pos volt curr : Nat) : Dev :=
  if spState d ≠ spSrc || !pdOn d then d
  else
    let d := { d with sp := { d.sp with reqAt := d.cur } }
    let hit : Option (Nat × Nat × Bool) :=
      if pos = 0 then none
      else match (srcOffer d)[pos - 1]? with
        | some (some v) => if curr ≤ imax d * 5 then some (v, imax d, false) else none
        | some none => if 165 ≤ volt ∧ volt ≤ 1050 ∧ curr ≤ imax d then some (volt, curr, true) else none
        | none => none
    match hit with
    | none => d.emit (.pd pdReject [])
    | some (v, i, pps) =>
      let d := (d.emit (.pd pdAccept [])).wr SP_STATUS_XSITION 0 1
      { d with sp := { d.sp with xs := some { pos := pos, volt := v, curr := i, pps := pps, next := d.cur + 1 } } }

/-- The last 8 valid port-switch reports lie within VTOL of a voltage in 20 mV (R388). -/
def settled (d : Dev) (volt : Nat) : Bool :=
  decide (8 ≤ d.sp.reps.length) &&
    d.sp.reps.all (fun c => decide ((scaleV 5 c * 100 - (volt * 2 * 65536 : Int)).natAbs ≤ d.rd SP_SRC_VTOL * 65536))

/-- One tick of a voltage change (R388, R391). -/
def rampTick (d : Dev) : Dev :=
  match d.sp.xs with
  | none => d
  | some x =>
    match x.last with
    | some t =>
      if t < d.cur && settled d x.volt then
        let d := { d with sp := { d.sp with xs := none } }
        if x.back then sendCaps (contractIn d 1 x.volt x.curr false)
        else contractIn (d.emit (.pd pdPsRdy [])) x.pos x.volt x.curr x.pps
      else d
    | none =>
      if d.cur < x.next then d
      else
        let v := d.ps.vout
        let v := if v < x.volt then v + 1 else if x.volt < v then v - 1 else v
        let d := spSet d { d.ps with vout := v, ilim := if x.pps then x.curr else ilimFixed d }
        let x := { x with next := d.cur + d.rd1 SP_SRC_SLEWDIV, last := if v = x.volt then some d.cur else none }
        { d with sp := { d.sp with xs := some x } }

/-- PS_RDY_TIMEOUT is due (R388). -/
def psRdyDue (d : Dev) : Bool :=
  match d.sp.xs with
  | some x => match x.last with | some t => d.due (t + 250000) | none => false
  | none => false

/-- PPS_TIMEOUT is due (R391). -/
def ppsTimeoutDue (d : Dev) : Bool :=
  spState d == spSrc && pdOn d && d.fl SP_STATUS_CONTRACT && d.fl SP_CONTR_PPS && d.sp.xs.isNone
    && d.due (d.sp.reqAt + 15000000)

/-- PPS_TIMEOUT: back to the fixed 5 V contract (R391). -/
def ppsTimeout (d : Dev) : Dev :=
  let x : Xsition := { pos := 1, volt := 250, curr := imax d, pps := false, next := d.cur + 1, back := true }
  { d.ev SP_EVT_PPSTO with sp := { d.sp with xs := some x } }

/-! ### PD as sink (R392, R393, R396) -/

/-- The port switch is locked out: no contract is written (R397). -/
def spLocked (d : Dev) : Bool :=
  match portSw d with
  | some (f, _) => fuState d f == fuLockout
  | none => false

/-- The selection of R392: position, voltage in 20 mV, current in 50 mA, PPS, Capability Mismatch. A sink contract has 5 V
or more (R7), so a PPSV below 250 selects no APDO. -/
def sinkSelect (d : Dev) (l : List Pdo) : Nat × Nat × Nat × Bool × Bool :=
  let iop := d.rd SP_SNK_IOP
  let v := d.rd SP_SNK_PPSV
  let hv := d.fl SP_SNK_HV_OK
  let vmax := if hv then d.rd SP_SNK_VMAX else 5
  let ps := l.zipIdx.filter (fun (e : Pdo × Nat) =>
    match e.1 with
    | .pps lo hi c => decide (250 ≤ v) && decide (lo.toNat * 5 ≤ v) && decide (v ≤ hi.toNat * 5) && decide (iop ≤ c.toNat)
    | _ => false)
  let fs := l.zipIdx.filterMap (fun (e : Pdo × Nat) =>
    match e.1 with
    | .fixed vo c =>
      if vo.toNat ≤ vmax * 20 ∧ iop * 5 ≤ c.toNat then some (vo.toNat, e.2) else none
    | _ => none)
  match (if v ≠ 0 && hv then ps.head? else none) with
  | some e => (e.2 + 1, v, iop, true, false)
  | none =>
    match fs.foldl (fun (b : Option (Nat × Nat)) (e : Nat × Nat) =>
        match b with
        | some x => if x.1 < e.1 then some e else b
        | none => some e) none with
    | some (vo, k) => (k + 1, vo * 5 / 2, iop, false, false)
    | none => (1, 250, iop, false, true)

/-- PD_SOURCE_CAPS (R392). -/
def pdSourceCapsIn (d : Dev) (l : List Pdo) : Dev :=
  if spState d ≠ spSnk || !pdOn d || spLocked d then d
  else
    let (pos, v, i, pps, mis) := sinkSelect d l
    { d.emit (.pd pdRequestMsg [pos, v, i, pps.toNat, mis.toNat]) with sp := { d.sp with ask := some (pos, v, i, pps) } }

/-- A completed swap is recorded (R394). -/
def swapDone (d : Dev) : Dev :=
  let d := spRec (d.ev SP_EVT_SWAP) 0x0F04 []
  let d := { d with sp := { d.sp with swap := 0 } }
  if usbOn d then d else usbOff d

/-- PD_ACCEPT: of the device's DR_Swap, or of its Request as sink (R394, R396). -/
def pdAcceptIn (d : Dev) : Dev :=
  if !pdOn d then d
  else if d.sp.swap = 2 then swapDone (d.wr SP_STATUS_DROLE 0 0)
  else if spState d ≠ spSnk then d
  else match d.sp.ask with
    | none => d
    | some (_, v, _, _) =>
      let old := if d.fl SP_STATUS_CONTRACT then d.rd SP_CONTR_VOLT else 250
      { d.wr SP_STATUS_XSITION 0 1 with sp := { d.sp with mark := some (old, v), kaAt := d.cur } }

/-- PD_PS_RDY: the end of a PR_Swap, or a contract in force as sink (R394 to R396). -/
def pdPsRdyIn (d : Dev) : Dev :=
  if !pdOn d then d
  else if d.sp.swap = 1 then
    if d.fl SP_STATUS_PROLE then
      if d.sp.rp then d
      else swapDone (spGo (contractEnd (d.wr SP_STATUS_PROLE 0 0)) spSnk)
    else
      let d := { contractEnd d with sp := { (contractEnd d).sp with rp := true, reqAt := d.cur } }
      srcEntry ((swapDone (spGo (d.wr SP_STATUS_PROLE 0 1) spSrc)).emit (.pd pdPsRdy []))
  else if spState d ≠ spSnk || !d.fl SP_STATUS_XSITION then d
  else match d.sp.ask with
    | none => d
    | some (pos, v, i, pps) =>
      contractIn { d with sp := { d.sp with mark := none } } pos v i pps

/-- PPS_KEEPALIVE is due (R393). -/
def keepaliveDue (d : Dev) : Bool :=
  spState d == spSnk && pdOn d && d.fl SP_STATUS_CONTRACT && d.fl SP_CONTR_PPS
    && d.due (d.sp.kaAt + clampN 1 10 (d.rd SP_SNK_PPSKA) * 1000000)

/-- PPS_KEEPALIVE: the last Request is sent again. -/
def keepalive (d : Dev) : Dev :=
  match d.sp.ask with
  | some (pos, v, i, pps) => d.emit (.pd pdRequestMsg [pos, v, i, pps.toNat, 0])
  | none => d

/-- PR_SWAP received (R394). -/
def prSwapIn (d : Dev) : Dev :=
  if !pdOn d then d
  else
    let src := d.fl SP_STATUS_PROLE
    if (src && d.bit SP_CTRL_PRS 0 0) || (!src && d.bit SP_CTRL_PRS 0 1 && srcAvail d) then
      let d := d.emit (.pd pdAccept [])
      let d := { d with sp := { d.sp with swap := 1 } }
      if src then spOpen d true else d
    else d.emit (.pd pdReject [])

/-- DR_SWAP received (R394). -/
def drSwapIn (d : Dev) : Dev :=
  if !pdOn d then d
  else if d.fl SP_STATUS_DROLE then swapDone ((d.emit (.pd pdAccept [])).wr SP_STATUS_DROLE 0 0)
  else d.emit (.pd pdReject [])

/-- PD_HARD_RESET received (R395). -/
def pdHardResetIn (d : Dev) : Dev := if pdOn d then spHardReset d false else d

/-- PD_NOT_SUPPORTED (R7). -/
def pdNotSupported (d : Dev) : Dev := if pdOn d then d.emit (.pd pdNotSup []) else d

/-- DRP_TOGGLE is due: half of the 75 ms period (R382). -/
def drpDue (d : Dev) : Bool :=
  spState d == spUnatt && spRole d == 0 && d.due (d.sp.toggleAt + 37500)

/-- DRP_TOGGLE. -/
def drpToggle (d : Dev) : Dev := { d with sp := { d.sp with rp := !d.sp.rp, toggleAt := d.cur } }

/-- The port in phase B: the port switch's reports, the loss of the source role (R390), a Hard Reset or swap passing
vSafe0V (R394, R395), the voltage ramp (R388). -/
def spPhaseB (d : Dev) : Dev :=
  let d :=
    match portSw d with
    | some (_, c) =>
      let x := d.chn c
      if x.fresh then { d with sp := { d.sp with reps := (x.smp.v :: d.sp.reps).take 8 } } else d
    | none => d
  if spState d = spSrc ∧ !(srcAvail d && d.fl SP_CTRL_EN) then errorRecovery (spHardReset d true)
  else
    let safe0 := decide (d.rd SP_VBUS_V < 80)
    let d :=
      if d.sp.hr && safe0 then srcEntry { d with sp := { d.sp with hr := false, reqAt := d.cur } }
      else if d.sp.swap = 1 && d.sp.rp && d.fl SP_STATUS_PROLE && safe0 then
        let d := (spSet d { d.ps with disch := false }).emit (.pd pdPsRdy [])
        { d with sp := { d.sp with rp := false } }
      else d
    rampTick d

/-- The contract ends before sleep (R401). -/
def spSleep (d : Dev) : Dev :=
  if spState d = spSrc then spGo (portClear (spOpen d true)) spDisch
  else usbOff (sessionEnd (contractEnd { d with sp := { d.sp with mark := none, swap := 0 } }))

/-! ### The USB service interface (R402 to R405) -/

/-- USB_RESPONSE_READ (R403). -/
def usbResponseRead (d : Dev) : Dev :=
  match d.sp.resp with
  | some b => { d.emit (.usb b) with sp := { d.sp with resp := none } }
  | none => d

/-- GET_STATE (R404). -/
def getState (d : Dev) : Dev :=
  if !usbOn d then d
  else d.emit (.usb ([d.rd SP_STATUS_LEVEL, d.rd SP_STATUS_SVCBOOT + 2 * d.rd UP_STATUS_BOOT] ++ le 2 (d.rd SP_SESS)
    ++ [d.rd NV_STATUS_KEYLOCK, 0, 0, 0]))

/-- GET_NONCE (R404). -/
def getNonce (d : Dev) : Dev :=
  if !usbOn d then d
  else
    let n := d.freeV % 2 ^ 64
    { (d.emit (.usb (le 8 n))).freeNext with sp := { d.sp with nonce := some n } }

/-- A session token passes (R405). -/
def sessionOk (s : Sys) (t : List Nat) : Bool :=
  let lvl := t.getD 1 0
  t.getD 0 0 == 1 && (lvl == 1 || lvl == 2) && leAt t 2 2 != 0 && leAt t 12 4 == 0
    && s.dev.sp.nonce == some (leAt t 4 8) && keyCheck s (lvl + 1) (t.take 16) ((t.drop 16).take 64)

/-- AUTH (R405). -/
def usbAuth (s : Sys) (t : List Nat) : Sys :=
  if !usbOn s.dev then s
  else
    let ok := sessionOk s t
    s.on (fun d =>
      let d := { d with sp := { d.sp with nonce := none } }
      let d :=
        if ok then
          let d := ((d.wr SP_STATUS_LEVEL 0 (t.getD 1 0)).wr SP_SESS 0 (leAt t 2 2)).ev SP_EVT_AUTH
          { d with sp := { d.sp with sessTick := 0 } }
        else d.ev SP_EVT_AUTHFAIL
      spRec d 0x0F07 [])

/-- DEAUTH (R404). -/
def usbDeauth (d : Dev) : Dev := if usbOn d then sessionEnd d else d

/-- KEY_WRITE (R404): the key of slot `k`, X and Y; a request not accepted is answered with STALL. -/
def keyWrite (s : Sys) (k : Nat) (key : List Nat) : Sys :=
  let d := s.dev
  if !usbOn d then s
  else if d.fl NV_STATUS_KEYLOCK || !d.pw.recovery || !(decide (1 ≤ k) && decide (k ≤ 3)) then s.on (·.emit .usbStall)
  else { s with nv := Mem.put s.nv (keyAddr k) (fit 64 key), dev := d.wrBit NV_STATUS_KEYVALID 0 k true }

/-- KEY_LOCK (R344, R404). -/
def keyLock (d : Dev) : Dev :=
  if !usbOn d then d
  else if d.fl NV_STATUS_KEYLOCK || !d.pw.recovery then d.emit .usbStall
  else d.wr NV_STATUS_KEYLOCK 0 1

/-- USB_STALL (R404). -/
def usbStallIn (d : Dev) : Dev := if usbOn d then d.emit .usbStall else d

/-- USB_STANDARD_REQUEST (R402): SET_CONFIGURATION configures the one configuration; other answers are those of the USB
standard, whose content this device's manual leaves open in part: a free value. -/
def usbStandard (d : Dev) (req value : Nat) : Dev :=
  if !usbOn d then d
  else if req = 9 then
    if value ≤ 1 then (d.wr SP_STATUS_USBCFG 0 value).emit (.usb []) else d.emit .usbStall
  else if req = 8 then d.emit (.usb [d.rd SP_STATUS_USBCFG])
  else if req = 5 then d.emit (.usb [])
  else (d.emit (.usb [d.freeV])).freeNext

/-- The session's minutes count down (R405, R460). -/
def sessCount (d : Dev) : Dev :=
  if d.rd SP_STATUS_LEVEL = 0 ∨ d.rd SP_SESS = 0 then d
  else if d.sp.sessTick + 1 < 60000000 then { d with sp := { d.sp with sessTick := d.sp.sessTick + 1 } }
  else { d.wr SP_SESS 0 (d.rd SP_SESS - 1) with sp := { d.sp with sessTick := 0 } }

/-- SESSION_EXPIRY is due (R405). -/
def sessDue (d : Dev) : Bool := d.rd SP_STATUS_LEVEL != 0 && d.rd SP_SESS == 0

end Sys2Proof.Machine
end

