-- ==== Sys2Proof/Machine/Power.lean ====
section
/-! DEFINITION. Resets, start-up, sleep and wake (R34, R35, R54, R55, R398, R399, R408 to R419). -/

namespace Sys2Proof.Machine
open R

/-- Commands other than those of the always-on domain act: no reset in force, not asleep (R409, R414). -/
def Dev.live (d : Dev) : Bool := !d.pw.held && !d.pw.asleep

/-- A record of the power function. -/
def pwRec (d : Dev) (code : Nat) (pay : List Nat) : Dev := d.recd code 0 15 pay

/-! ### Device resets (R408, R409) -/

/-- What the store keeps through every reset (R408, R344 to R352). -/
def storeKept : List Reg :=
  [EV_RNUM, EV_STATUS_EPOCH, EV_REGD_TRNUM, EV_REGD_EPOCH, EV_REGD_STATE, EV_REGD_NPRE, EV_REGD_NPOST, EV_REGD_NTRIG, EV_REGD_CODE,
   NV_STATUS_KEYLOCK, NV_STATUS_KEYVALID, NV_STATUS_CFGBUF, NV_REFR_AGE, UP_STATUS_SLOTA, UP_STATUS_SLOTB, UP_STATUS_STARTS,
   UP_STATUS_DLOPEN, UP_STATUS_RUNSLOT, UP_SVN_FLOOR, UP_DL_MISSING, UP_DL_SIZE, UP_DLMAP, UP_VER_RUN, UP_VER_OTHER, UP_SVN_RUN]

/-- What the always-on domain keeps through every reset but a power-on reset (R408), with the pin levels. -/
def aonKept : List Reg :=
  [PM_CAUSE_POR, PM_CAUSE_RESETN, PM_CAUSE_WDOG, PM_CAUSE_HOST, PM_CAUSE_SUPPLY, PM_CAUSE_CLOCK, PM_WAKEEN, PM_CNT_SLEEPS,
   PM_CNT_RESETS, PM_STATUS_ACLK_INT, PM_SUP_GOOD, GL_STATUS_TESTEN, SQ_CTRL_FORCET, SQ_STATUS_FORCE, SQ_RAIL_STARTS, SQ_RAIL_UV,
   SQ_RAIL_OV, SQ_RAIL_STO, SQ_RAIL_RETRY, SQ_RAIL_PDF, SQ_SAT_0, SQ_SAT_1, SQ_SAT_2, CD_ENT_QCOUNT, CD_ENT_SEEN_TYPE,
   FU_STATUS_NTRIP, FD_FM_NREM, FD_FM_NRET, SP_CNT_HRST, SP_CNT_DIT]

/-- The register of a reset cause: 0 power-on, 1 RESET_N, 2 watchdog, 3 host command, 4 supply fault, 5 clock loss. -/
def causeReg (k : Nat) : Reg := match k with
  | 0 => PM_CAUSE_POR
  | 1 => PM_CAUSE_RESETN
  | 2 => PM_CAUSE_WDOG
  | 3 => PM_CAUSE_HOST
  | 4 => PM_CAUSE_SUPPLY
  | _ => PM_CAUSE_CLOCK

/-- The state every device reset leaves, but for the marks of its cause. A reset that comes while a power-on reset is held
leaves the start to follow a power-on reset (R55). -/
def resetBase (d : Dev) (por : Bool) : Dev :=
  let keep := (storeKept ++ (if por then [PM_SUP_GOOD, GL_STATUS_TESTEN] else aonKept)).map (·.id)
  { regs := d.regs.filter (fun e => keep.contains e.1)
    freeCtr := d.freeCtr
    out := d.out
    tb := { now := d.tb.now, run := false, pStop := if por then 0 else if d.tb.run then d.tb.pm else d.tb.pStop }
    rcd := { count := d.rcd.count, head := d.rcd.head, drop := d.rcd.drop || !d.rcd.queue.isEmpty, wrap := d.rcd.wrap,
             zeroing := d.rcd.zeroing }
    mp := { res := d.mp.res }
    up := { dig := d.up.dig, slotDig := d.up.slotDig, failed := d.up.failed }
    sp := { mark := d.sp.mark, rp := !por && d.sp.rp, again := !por && (spState d == spSnk || spState d == spSrc) }
    seq := { fault := if por then 0 else bitsOf d.seq.fault 1 3 * 2 }
    pw := { held := true, ck := d.pw.ck, por := por || d.pw.por, clockLost := !por && d.pw.clockLost,
            forcePend := !por && d.pw.forcePend, wakeIn := d.pw.wakeIn, mrLow := d.pw.mrLow,
            rlyLost := (List.range 8).filter (fun r => rlyState d r == 1 || rlyState d r == 2) } }

/-- A device reset of a cause (R408, R409): FAULT_N is asserted by a watchdog, supply-fault or clock-loss reset. -/
def devReset (d : Dev) (k : Nat) : Dev :=
  let x := resetBase d (k = 0)
  let x := if k = 0 then x else x.inc PM_CNT_RESETS
  let x := if k = 0 then x else x.ev (causeReg k)
  let x := if k = 5 then faultSrc x 1 true else if k = 2 then faultSrc x 2 true else if k = 4 then faultSrc x 3 true else x
  x.wrB GL_STATUS_FAULT 0 (x.seq.fault != 0)

/-- A local supply fault is latched in PM_SUPFLT (R411). -/
def supFault (d : Dev) (k : Nat) : Dev := d.wr PM_SUPFLT 0 (setBit (d.rd PM_SUPFLT) k true)

/-- Supply `k` is shown good or not. -/
def supShow (d : Dev) (k : Nat) (good : Bool) : Dev := d.wr PM_SUP_GOOD 0 (setBit (d.rd PM_SUP_GOOD) k good)

/-- SUPPLY_FAULT of a main supply, 0 to 5; in sleep its loss is none (R411). -/
def supplyFault (d : Dev) (k : Nat) : Dev :=
  let d := supShow d k false
  if d.pw.asleep || d.fl SP_STATUS_SVCBOOT then d
  else if d.pw.held then supFault d k
  else supFault (devReset d 4) k

/-- CLOCK_LOSS (R34). -/
def clockLoss (d : Dev) : Dev :=
  if d.pw.asleep then d
  else { devReset d 5 with pw := { (devReset d 5).pw with clockLost := true } }

/-- ACLK_FALLBACK (R35): the always-on domain changes to its internal oscillator. -/
def aclkFallback (d : Dev) : Dev := pwRec (d.wr PM_STATUS_ACLK_INT 0 1) 0x1005 []

/-- VIN_AON_FAULT: VIN_AON in fault, or a power-on reset when VSVC is in fault too (R411). -/
def vinAonFault (d : Dev) : Dev :=
  let d := supShow d 6 false
  if d.bit PM_SUP_GOOD 0 7 then supFault d 6 else supFault (devReset d 0) 6

/-- VSVC_LOSS (R396, R411): a power-on reset without VIN_AON; in service boot the sill stops; otherwise only the sink's
supply is gone. The transition mark is kept for the next start. -/
def vsvcLoss (d : Dev) : Dev :=
  let d := supShow d 7 false
  if !d.bit PM_SUP_GOOD 0 6 then supFault (devReset d 0) 7
  else if d.fl SP_STATUS_SVCBOOT then supFault (resetBase d false) 7
  else supFault d 7

/-- The management plane halts (MGMT_HALT, R21, R314): FAULT_N, dead letters, and a commit that has not been accepted ends. -/
def mgmtHalt (d : Dev) : Dev :=
  if d.fl GL_STATUS_MHALT then d
  else
    let d := faultSrc (d.wr GL_STATUS_MHALT 0 1) 0 true
    let d := pwRec d 0x1003 []
    let d := closeGated d 9
    let d := { d with up := { d.up with svc := 0 } }
    match d.commit with
    | some c => if c.staged then d else completeAll { d with commit := none } c.ctxs stHalted 0
    | none => d

/-- WATCHDOG_EXPIRY (R410). -/
def watchdog (d : Dev) : Dev :=
  if d.fl GL_STATUS_MHALT || d.pw.asleep || d.pw.held || decide (d.pw.entry ≠ 0) then d
  else if d.fl PM_CTRL_WDOG_ACT || d.rd PM_STATUS_STATE == 3 || d.rd PM_STATUS_STATE == 4 then devReset d 2
  else mgmtHalt d

/-- BOUNDARY_SCAN (R454): TESTEN high holds the device in the reset of RESET_N low. -/
def boundaryScan (d : Dev) (testen : Bool) : Dev :=
  if testen then
    let d := if d.pw.held then d else devReset d 1
    d.wr GL_STATUS_TESTEN 0 1
  else d.wr GL_STATUS_TESTEN 0 0

/-! ### The time base starts (R41, R54, R55) -/

/-- Store address of a copy of the postmark checkpoint, in the system records (R340, R345; the places are the model's,
log entry 58). -/
def ckAddr (k : Nat) : Nat := 0x7FF80 + 64 * k

/-- A copy of the checkpoint: its sequence count and postmark, where its CRC-32 is right (R55, R345). -/
def ckCopy (s : Sys) (k : Nat) : Option (Nat × Nat) :=
  let b := Mem.bytes s.nv (ckAddr k) 16
  if crc32 (b.take 12) == leAt b 12 4 then some (leAt b 8 4, leAt b 0 8) else none

/-- The copy that a read takes, with the copy that the next write takes: the valid copy with the later count, and the
other one (R345). -/
def ckLast (s : Sys) : Option (Nat × Nat) × Nat :=
  match ckCopy s 0, ckCopy s 1 with
  | some a, some b => if laterThan a.1 b.1 then (some a, 1) else (some b, 0)
  | some a, none => (some a, 1)
  | none, some b => (some b, 0)
  | none, none => (none, 0)

/-- The last checkpoint, if one is valid (R55). -/
def ckRead (s : Sys) : Option Nat := (ckLast s).1.map Prod.snd

/-- A postmark checkpoint is written to the store (R55). -/
def ckWrite (s : Sys) : Sys :=
  let l := ckLast s
  let b := le 8 s.dev.tb.pm ++ le 4 ((l.1.map Prod.fst).getD 0 + 1)
  { s with nv := Mem.put s.nv (ckAddr l.2) (b ++ le 4 (crc32 b)), dev := { s.dev with pw := { s.dev.pw with ck := some s.dev.tb.pm } } }

/-- Tick 0, with the checkpoint that is valid and `aclk` ACLK cycles counted while the time base was stopped; the flag says
whether a TIME_GAP is due. LOCK, TB_RATE and TB_FREQ start from their reset values (R61). The first capture after a stop is
never early, since the last accepted one is forgotten (DESIGN CHOICE, log entry 74). -/
def tbStart (d : Dev) (ck : Option Nat) (aclk : Nat) : Bool × Dev :=
  let go := fun (d : Dev) (pm : Nat) =>
    let d := (((d.wr TB_TICK 0 0).wr TB_FRAME_NUM 0 0).wr TB_FRAME_POS 0 0).clrRegs [TB_STATUS_LOCK, TB_RATE, TB_FREQ]
    { d with tb := { now := d.tb.now + 1, pm := pm, modeSeen := d.tb.modeSeen } }
  if d.pw.por then
    match ck with
    | some p => (true, (go d (p + 2000000000)).wr TB_STATUS_POR_GAP 0 1)
    | none => (true, (go d 0).wr TB_STATUS_CK_INVALID 0 1)
  else
    let pm := d.tb.pStop + (aclk * 1000000000 + 32767) / 32768 + 30518
    (false, (go d pm).wrB TB_STATUS_CONT_EST 0 (d.fl TB_STATUS_CONT_EST || d.fl PM_STATUS_ACLK_INT))

/-! ### Start-up (R412) and service boot (R398, R399) -/

/-- Records and nonces of a start: RESET_CAUSE, CLOCK_FAULT, TIME_GAP, a detach that a reset interrupted, rounds that a
reset ended (R333, R319, R361, R396, R409); then the marks clear. -/
def startRecords (d : Dev) (gap : Bool) : Dev :=
  let cause := (List.range 6).foldl (fun a k => a + d.rd (causeReg k) * 2 ^ k) 0
  let d := pwRec d 0x1000 [cause]
  let d := if d.pw.clockLost then pwRec d 0x1004 [] else d
  let d := if gap then d.recd 0x0100 0 0 [d.rd TB_STATUS_POR_GAP, d.rd TB_STATUS_CK_INVALID] else d
  let d :=
    match d.sp.mark with
    | some (old, target) =>
      let d := ((d.ev SP_EVT_DIT).inc SP_CNT_DIT).recd 0x0F06 11 0 (le 2 old ++ le 2 target ++ le 2 0 ++ le 2 (d.rd SP_VBUS_V))
      { d with sp := { d.sp with mark := none } }
    | none => d
  let d := forL d.pw.rlyLost (fun r d => relayEnd d r) d
  let d := drawNonce d
  let d := { d.freeNext with rcd := { d.rcd with nonce := d.freeV % 2 ^ 64 } }
  { d with pw := { d.pw with clockLost := false, rlyLost := [], por := false } }

/-- A download whose last piece had arrived is verified again (R353). -/
def restartVerify (d : Dev) : Dev :=
  if d.fl UP_STATUS_DLOPEN && d.rd UP_DL_MISSING == 0 && imgState d (idleSlot d) == 1 then
    { d with up := { d.up with verify := some ([], 256) } }
  else d

/-- Step 4 of R412: the marked configuration; the rings that it enables train from the frame boundary at which it applies. -/
def startConfig (s : Sys) : Sys := loadConfig (s.on (fun d => { d with up := { d.up with clean := false } }))

/-- A released device is ready to start: supplies good, TESTEN low (R411, R412). -/
def startReady (d : Dev) (good : Nat) : Bool :=
  !d.pw.booted && !d.pw.asleep && d.rd PM_STATUS_STATE == 0 && !d.fl GL_STATUS_TESTEN && bitsOf good 0 6 == 63
    && (!d.pw.por || bitOf good 6)

/-- The time base starts at release (R54, R55, R412), with the checkpoint of frame 0, the records of a start, and what FORCE
asks of the first tick (R239). -/
def releaseStart (s : Sys) (aclk : Nat) (f : Dev → Dev) : Sys :=
  let ck := ckRead s
  let s := s.on (fun d => { d with pw := { d.pw with ck := ck } })
  let gap := (tbStart s.dev ck aclk).1
  (ckWrite (s.on (fun d => (tbStart d ck aclk).2))).on (fun d =>
    forceTick (startRecords (f { d with pw := { d.pw with held := false, booted := true, startAt := d.tb.now } }) gap))

/-- START_UP: release with the level of BOOTSEL, the supplies that are good, and the ACLK cycles since the time base
stopped (R412). -/
def startUp (s : Sys) (bootsel : Bool) (good aclk : Nat) : Sys :=
  if !startReady s.dev good then s
  else
    let s := s.on (fun d => (d.wr PM_SUP_GOOD 0 good).wrB GL_STATUS_BOOTSEL 0 bootsel)
    let s := loaderBoot (releaseStart s aclk (fun d => d)) bootsel
    let s := s.on restartVerify
    if s.dev.pw.recovery then s.on (fun d => d.wr PM_STATUS_STATE 0 4) else startConfig s

/-- START_UP_END is due (R412). -/
def startEndDue (d : Dev) : Bool :=
  d.pw.booted && d.rd PM_STATUS_STATE == 0 && d.commit.all (fun c => !c.boot)
    && (List.range 8).all (fun r => !d.fl RG_CTRL_EN r || ringState d r == rgRun || ringState d r == rgSplit || ringState d r == rgFailed)

/-- START_UP_END. The time before tick 0 and of steps 2 to 4 is no ticks of the model: a free value. -/
def startEnd (d : Dev) : Dev :=
  let t := min 65535 (d.tb.now - d.pw.startAt + d.freeV)
  let d := (d.freeNext.wr PM_STATUS_STATE 0 1).wr PM_TIME_START 0 t
  let d := { d with up := { d.up with svc := 0 } }
  if d.fl SQ_CTRL_AUTO then (seqRequest d true 0).2 else d

/-- SERVICE_BOOT: VSVC good while VDD_CORE is absent (R398, R411). -/
def serviceBoot (s : Sys) (bootsel : Bool) (aclk : Nat) : Sys :=
  if s.dev.pw.booted || s.dev.pw.asleep || s.dev.bit PM_SUP_GOOD 0 0 || s.dev.fl GL_STATUS_TESTEN then s
  else
    let s := s.on (fun d => (supShow d 7 true).wrB GL_STATUS_BOOTSEL 0 bootsel)
    let s := releaseStart s aclk (fun d => (d.wr SP_STATUS_SVCBOOT 0 1).wr PM_STATUS_STATE 0 3)
    let s := if bootsel then s.on bootRecovery else bootGood s
    s.on restartVerify

/-- PROMOTION: a vehicle wake in service boot (R399). -/
def promotion (s : Sys) (good : Nat) : Sys :=
  if !s.dev.fl SP_STATUS_SVCBOOT || bitsOf good 0 6 != 63 then s
  else
    let s := s.on (fun d =>
      let d := ((d.wr PM_SUP_GOOD 0 good).wr SP_STATUS_SVCBOOT 0 0).ev SP_EVT_PROMO
      let d := pwRec d 0x1002 []
      { d.wr PM_STATUS_STATE 0 (if d.pw.recovery then 4 else 0) with pw := { d.pw with startAt := d.tb.now } })
    if s.dev.pw.recovery then s else startConfig s

/-! ### Sleep (R413, R414) -/

/-- The lowest code of R413 that holds, or 0. -/
def sleepRefusal (d : Dev) : Nat :=
  let sq := sqState d
  if (List.range 16).any (fun n => railState d n != vrOff) then 1
  else if sq = sqUp ∨ sq = sqDown ∨ sq = sqMinoff ∨ sq = sqBackoff then 2
  else if shelfState d = bsHoldup ∨ shelfState d = bsHandback then 3
  else if (List.range 64).any (fun f => fuState d f == fuRamp) || (List.range 16).any (fun n => (d.fg n).chg.isSome) then 4
  else if d.commit.isSome then 5
  else if (d.bit PM_WAKEEN 0 0 && d.pw.wakeIn) || (d.bit PM_WAKEEN 0 1 && d.pw.mrLow) then 6
  else if d.rd PM_STATUS_STATE = 3 ∨ d.rd PM_STATUS_STATE = 4 then 7 else 0

/-- Every open pairing entry and held divergence closes without completion; the authority becomes none (R414 step 1). -/
def sleepPairing (d : Dev) : Dev :=
  let d := { d with au := { d.au with table := [], held := [], pulseEnd := none, leaseOn := false } }
  setAuthority (divergePin d) 0 false

/-- Relay rounds pause with their buffers kept: a stage that is being filled will be filled afresh (R361). -/
def sleepRelay (d : Dev) : Dev :=
  forIx 8 (fun r d =>
    if rlyState d r = 1 then
      let x := d.rly r
      let d := d.setRly r { x with todo := x.target.toList ++ x.todo, target := none, await := [], piece := 0 }
      relayShowPause d r
    else d) d

/-- A sleep request (R413): refused, or step 1 of R414. -/
def sleepRequest (d : Dev) : Bool × Dev :=
  let r := sleepRefusal d
  if r ≠ 0 then (true, d.wr PM_SLPREF_REASON 0 r)
  else if d.pw.entry ≠ 0 then (false, d)
  else
    let d := sleepRelay (spSleep (sleepPairing (d.wr PM_STATUS_STATE 0 2)))
    (false, { d with pw := { d.pw with entry := 1, entryAt := d.cur, wakePend := false } })

/-- SLEEP_WAITS_DONE is due: every wait of step 2 has ended; a two-wire transaction is waited for 10 ms (R372, R379). -/
def sleepWaitsDue (d : Dev) : Bool :=
  d.pw.entry == 1 && !anyWindow d && ((d.tw.bus == 0 && d.tw.xfer.isNone) || d.due (d.pw.entryAt + 10000)) && !d.fl SP_STATUS_CONTRACT && spState d != spDisch
    && d.rcd.queue.isEmpty && d.rcd.opens.isEmpty && d.rcd.rewrites.isEmpty

/-- SLEEP_WAITS_DONE: transactions still open on the two-wire ports are abandoned. -/
def sleepWaitsDone (d : Dev) : Dev :=
  let d := d.wr TW_STATUS_TWA_BUSY 0 0
  { d with pw := { d.pw with entry := 2 }, tw := { d.tw with bus := 0, sending := false, xfer := none } }

/-- Step 3 of R414, at a frame boundary. -/
def sleepStep3 (d : Dev) : Dev :=
  let keep := fun (f : Nat) => if f < 32 then d.bit PM_SLPKEEP_LO 0 f else d.bit PM_SLPKEEP_HI 0 (f - 32)
  let d := forIx 16 (fun n d =>
    match groupSel d n with
    | some f => if keep f then d else groupDisable d n
    | none => d) d
  let d := forIx 64 (fun f d =>
    if fuValid d f && !fuPortsw d f && !keep f then
      let st := fuState d f
      let d := d.setFuse f { d.fuz f with want := false, pend := none }
      if st = fuOn ∨ st = fuRamp ∨ st = fuTripped then d.wr FU_STATUS_STATE f fuOff else d
    else d) d
  let d := spOpen d false
  let vhold := (rdiv (d.rdS FD_SETPT * 1000) 65536).toNat
  forL (legs d) (fun k d => match legChan d k with
    | some c => issueRegWr d c 0x0053 (min (d.rd PM_PARK_VLEG) (vhold - 1000))
    | none => d) d

/-- Step 4 of R414: PARK goes into the next 3 headers of every ring in RUN or SPLIT. -/
def sleepPark (d : Dev) : Dev :=
  forIx 8 (fun r d => if ringUp d r then d.setRg r { d.rg r with park := 3, oldCount := d.rd RG_STATUS_NSTAGES r } else d) d

/-- Sleep entry at a frame boundary (SLEEP_PARK, R414 steps 3 and 4). -/
def sleepFrame (d : Dev) : Dev :=
  if d.pw.entry = 2 then let d := sleepStep3 d; { d with pw := { d.pw with entry := 3 } }
  else if d.pw.entry = 3 then let d := sleepPark d; { d with pw := { d.pw with entry := 4 } }
  else d

/-- Entries of the queue that are to be written before power-down. -/
def drainQueue (s : Sys) : Sys :=
  let q := s.dev.rcd.queue
  let s := s.on (fun d => { d with rcd := { d.rcd with queue := [] } })
  forL q (fun e s => writeEnt s e) s

/-! ### Wake (R416 to R418) -/

/-- What R418 resets of the functions at wake, in tick 0. -/
def wakeFunctions (d : Dev) : Dev :=
  let now := d.tb.now
  let d := { d with
    le := { d.le with slot := d.le.slot.map (fun (e : Nat × SlotSt) => (e.1, { e.2 with fe := 0 })), ovrAt := none }
    bus := { d.bus with win := [], sat := 0, low := 0,
                        feeder := d.bus.feeder.map (fun (e : Nat × FeederSt) => (e.1, { e.2 with since := now, hvok := 0, sense := 0, runAt := none })) }
    bs := { d.bs with slow := 0, emLow := 0, emHigh := 0, hbCnt := 0, iSum := [], pFuse := [], pRail := [], ticks := 0,
                      closeEnd := d.bs.closeEnd.map (fun (e : Nat × Nat) => (e.1, now + d.rd1 BS_TIME_CLOSE)) }
    grp := d.grp.map (fun (e : Nat × GroupSt) => (e.1, { e.2 with rev := 0 }))
    seq := { d.seq with sup := [], since := now, rstAt := if sqState d = sqOn then some (now + d.rd SQ_CFG_RSTDLY * 1000) else none }
    gov := { d.gov with rel := [], hub := 0, chg := 0, vbus := 0, fg := [], ticks := 0, plan := none, driven := false, from_ := none, low := 0 }
    tm := { d.tm with ch := d.tm.ch.map (fun (e : Nat × TelCh) => (e.1, { e.2 with running := false, sum := {}, done := none, snap := {}, seen := false })),
                      on := false, hub := 0, chg := 0, vbus := 0 }
    th := { d.th with sum := 0, n := 0, lvlDue := false, warn := 0, crit := 0, warnLow := 0, critLow := 0, rate := [], stg := [], paceEnd := [], paceGo := 0 }
    au := { d.au with hset := false, pinRun := 0 }
    tw := { d.tw with bus := 0, sending := false, xfer := none, last := [], araAt := none, check := d.fl TW_CTRL_TWA_EN }
    sp := { d.sp with since := now, toggleAt := now, reqAt := now, kaAt := now, reps := [] } }
  let d := forIx 256 (fun c d => let x := d.chn c; if x.miss = 0 then d else d.setCh c { x with miss := 0 }) d
  let d := forIx 64 (fun f d =>
    if !fuValid d f then d
    else
      let x := d.fuz f
      let boff := d.rd1 FU_RTY_BOFF f * 10000 * (if d.fl FU_RTY_DOUBLE f then 2 ^ min (d.rd FU_STATUS_RCNT f) 7 else 1)
      d.setFuse f { x with acc := 0, dt0 := 0, dt1 := 0, dt2 := 0, dev := 0, therm := 0, supply := 0, onAt := now,
                           backEnd := if fuState d f = fuTripped then now + boff else x.backEnd }) d
  let d := setCapAvg d 0 (pHub d)
  let d := forIx 16 (fun n d => setCapAvg (setCapAvg d (1 + n) (pRail d n)) (17 + n) (pFg d n)) d
  let d := ((d.wr TH_STATUS_LEVEL 0 0).wr AU_STATUS_ESET_A 0 0).wr AU_STATUS_ESET_B 0 0
  let d := (d.wr TW_STATUS_TWB_PAGE 0 0).wr TW_STATUS_TWB_PTR 0 0
  setAuthority d 0 false

/-- The bus and the shelf wait in MAN for their first reports (R418). -/
def wakeHolds (d : Dev) : Dev :=
  let reg := d.rd FD_STATUS_STATE == fdReg
  let d :=
    if reg then
      let d := match busSlot d with
        | some s => slotHold d s 3 true
        | none => d
      forL (sharers d) (fun i d => match fmSlot d i with
        | some s => slotHold d s 3 true
        | none => d) d
    else d
  { d with pw := { d.pw with resume := reg, resumeLegs := shelfState d == bsReady } }

/-- A channel whose report of this tick is valid. -/
def freshNow (d : Dev) (c : Option Nat) : Bool :=
  match c with
  | some c => (d.chn c).fresh
  | none => false

/-- The bus resumes from its feeders' reports (R418, and steps 5 and 6 of R205), in phase B. -/
def busResume (d : Dev) : Dev :=
  if !d.pw.resume || !(sharers d).all (fun i => freshNow d (fmChan d i)) then d
  else
    let cur := fun (i : Nat) => match fmChan d i with
      | some c => chI d c
      | none => 0
    let d := forL (sharers d) (fun i d => match fmSlot d i with
      | some s => slotHold (slotManOut d s (cur i)) s 3 false
      | none => d) d
    let f := (sharers d).foldl (fun (a : Int) i => a + cur i) 0
    let d := match busSlot d with
      | some s => slotHold (slotManOut d s (sat32 f)) s 3 false
      | none => d
    { d with pw := { d.pw with resume := false }, bus := { d.bus with vs := d.rdS FD_VBUS } }

/-- The shelf resumes from its legs' reports, or declares loss (R418), in phase B. -/
def shelfResume (d : Dev) : Dev :=
  if !d.pw.resumeLegs || !(legs d).all (fun k => freshNow d (legChan d k)) then d
  else
    let d := { d with pw := { d.pw with resumeLegs := false } }
    let cur := fun (k : Nat) => match legChan d k with
      | some c => chI d c
      | none => 0
    let lost := (legs d).any (fun k => match legChan d k with
      | some c => chFlag d c flRolef && decide (65536 < chI d c)
      | none => false)
    let d := forL (legs d) (fun k d => match legSlot d k with
      | some s => slotManOut d s (cur k)
      | none => d) d
    if lost then declareLoss d d.curPm else d

/-- Tick 0 of a wake (R417, R418), with the values still staged applied before it (R430), SYNC_OUT's edge of that tick
(R60), and what a FORCE that was set in sleep asks of the first tick (R239). -/
def wakeDev (d : Dev) (aclk : Nat) : Dev :=
  let d := { d with pw := { d.pw with asleep := false, waking := true, waitMain := false, wakePend := false, entry := 0 } }
  let d := (tbStart d none aclk).2
  let d := { d with pw := { d.pw with startAt := d.tb.now } }
  let d := boundaryApply d true
  let d := wakeHolds (wakeFunctions d)
  let d := forIx 8 (fun r d =>
    let x := d.rg r
    if x.parked then
      let d := d.setRg r { oldCount := x.oldCount, wake := true, hops := x.hops }
      trainStart (ringGo d r rgDown) r
    else d) d
  syncOutTick (forceTick d)

/-- Tick 0 of a wake, with the checkpoint of frame 0 (R55). -/
def wakeTick0 (s : Sys) (aclk : Nat) : Sys := ckWrite (s.on (fun d => wakeDev d aclk))

/-- SLEEP_POWER_DOWN is due: every ring has sent its PARK headers (R414). -/
def powerDownDue (d : Dev) : Bool :=
  d.pw.entry == 4 && (List.range 8).all (fun r => (d.rg r).park == 0)

/-- SLEEP_POWER_DOWN (R414 steps 5 and 6); a wake that occurred during entry starts at once, with the ACLK cycles counted
to its tick 0, once the main supplies are good. SYNC_OUT is low in sleep, as in reset: its driver is powered down (DESIGN CHOICE
from step 6, log entry 74). -/
def sleepPowerDown (s : Sys) (mainGood : Bool) (aclk : Nat) : Sys :=
  if !powerDownDue s.dev then s
  else
    let s := (ckWrite s).on (fun d => pwRec d 0x1001 [])
    let s := drainQueue s
    let s := s.on (fun d =>
      let d := d.inc PM_CNT_SLEEPS
      let d := forIx 2 (fun e d => if d.fl HQ_STATUS_LINK e then endpointDown d e else d) d
      let d := (rstAssert d).wr TW_STATUS_TWB_ALERT 0 0
      let d := throtUpdate { d with gov := { d.gov with driven := false, from_ := none } }
      { d with tb := { d.tb with run := false, pStop := d.tb.pm, syncOut := false, syncHigh := 0 }
               pw := { d.pw with asleep := true, entry := 0, waking := d.pw.wakePend, waitMain := d.pw.wakePend && !mainGood } })
    if s.dev.pw.waking && mainGood then wakeTick0 s aclk else s

/-- WAKE_EVENT of a source of R416: latched; it wakes where enabled. -/
def wakeEvent (s : Sys) (src : Nat) (mainGood : Bool) (aclk : Nat) : Sys :=
  if !s.dev.pw.asleep && s.dev.pw.entry == 0 then s
  else
    let s := s.on (fun d => d.wr PM_WAKESRC 0 (setBit (d.rd PM_WAKESRC) src true))
    if !s.dev.bit PM_WAKEEN 0 src then s
    else if !s.dev.pw.asleep then s.on (fun d => { d with pw := { d.pw with wakePend := true } })
    else if s.dev.pw.waking then s
    else if mainGood then wakeTick0 s aclk
    else s.on (fun d => { d with pw := { d.pw with waking := true, waitMain := true } })

/-- MAIN_SUPPLIES_GOOD (R417). -/
def mainSuppliesGood (s : Sys) (aclk : Nat) : Sys :=
  let s := s.on (fun d => d.wr PM_SUP_GOOD 0 (setBits (d.rd PM_SUP_GOOD) 0 6 63))
  if s.dev.pw.asleep && s.dev.pw.waitMain then wakeTick0 s aclk else s

/-- WAKE_COMPLETE is due: 1.5 ms after the wake, which is 1150 ticks after tick 0 (R417). -/
def wakeCompleteDue (d : Dev) : Bool := d.pw.waking && !d.pw.asleep && d.due (d.pw.startAt + 1150)

/-- WAKE_COMPLETE (R417); the next frame boundary begins to drive the throttle pins where a configuration has applied
(R248). -/
def wakeComplete (d : Dev) : Dev :=
  let d := (d.wr PM_STATUS_STATE 0 1).wr PM_TIME_WAKE 0 (min 65535 (d.tb.now - d.pw.startAt + 350))
  let d := (pwRec d 0x1002 []).alert TW_ALERT_WAKE
  let d := if d.gov.cfg then govDrive d else d
  { d with pw := { d.pw with waking := false } }

end Sys2Proof.Machine
end

