-- ==== Sys2Proof/Machine/HostCmd.lean ====
section
/-! DEFINITION. The host commands: the opcodes of R291, the checks of R292, and their execution by the dispatcher (R28). -/

namespace Sys2Proof.Machine
open R

/-- What an execution answers: a status and RESULT for its completion, or a completion that comes later. -/
inductive HRes where
  | fin (status result : Nat) (s : Sys)
  | wait (s : Sys)

/-- A command as the checks of R292 see it. -/
structure HCmd where
  /-- Argument bytes in use: offset and length. -/
  used : List (Nat × Nat) := []
  /-- Arguments in range. -/
  argOk : Bool := true
  /-- The named target is configured. -/
  target : Bool := true
  /-- The named hole, and whether it is 0 an inbound hole, 1 a readout hole, 2 either in HOST or DONE. -/
  hole : Option (Nat × Nat) := none
  /-- The session level of R406; 3 is workshop level with SVC_CTRL. -/
  level : Nat := 3
  /-- Exec is M. -/
  mgmt : Bool := false
  act : Sys → HRes

/-- The path of the copy that executes: 0 PA, 1 PB, 2 TWB, 3 service port. -/
def srcOf (cs : List HCtx) : Nat := (cs.headD {}).src

/-- Reserved bits and bytes are 0, and LOCAL is set only where permitted (check 2 of R292, R290, R291). -/
def descOk (b : List Nat) (used : List (Nat × Nat)) : Bool :=
  decide (b.getD 2 0 < 4) && b.getD 3 0 == 0 && leAt b 12 4 == 0
    && (!descLocal b || (localOps.contains (descOp b) && leAt b 4 4 == 0))
    && (List.range 48).all (fun i => used.any (fun u => decide (u.1 ≤ 16 + i) && decide (16 + i < u.1 + u.2)) || b.getD (16 + i) 0 == 0)

/-- Check 4 of R292 on a hole, for the endpoint `e`; the service port names no hole (R403). -/
def holeOk (d : Dev) (e : Nat) (h : Nat × Nat) : Bool :=
  if e = 3 then h.1 == 0xFF
  else
    let st := phState d h.1
    let area := match h.2 with
      | 0 => decide (h.1 < 48) && st == 1
      | 1 => decide (48 ≤ h.1) && decide (h.1 < 56) && st == 1
      | _ => decide (h.1 < 56) && (st == 1 || st == 3)
    decide (h.1 < 64) && area && phHolder d h.1 == e

/-- A hole as its command ends: FREE or HOST for an inbound hole, DONE for a readout hole (R301). -/
def holeDone (d : Dev) (h : Option (Nat × Nat)) (status : Nat) : Dev :=
  match h with
  | some (n, 0) => holeEnd d n (if status = 0 then 0 else 1)
  | some (n, 1) => holeEnd d n 3
  | _ => d

/-- A command to a unit that the sill does not run (R406): opcodes 0x0100 to 0x0161, and UPD_STAGES. -/
def unitOp (op : Nat) : Bool := (decide (0x0100 ≤ op) && decide (op ≤ 0x0161)) || op == 0x0193

/-- The checks of R292 in order, then the execution and its completion; `cs` are the copies that complete with it. In a
management halt every copy of a gated command ends as a dead letter, whatever its path (R21, R314). -/
def hostRun (s : Sys) (b : List Nat) (cs : List HCtx) (h : HCmd) : Sys :=
  let d := s.dev
  let e := srcOf cs
  let fail := fun (st : Nat) => s.on (fun d => completeAll d cs st 0)
  let halted := d.fl GL_STATUS_MHALT
  let gated := gatedOps.contains (descOp b)
  if gated && halted then s.on (fun d => forL cs (fun c d => deadLetter d { ctx := c, dig := 0, bytes := b } 9) d)
  else if !descOk b h.used || !h.argOk then fail stBadArg
  else if !h.target || (d.sill && unitOp (descOp b)) then fail stBadTgt
  else if !(match h.hole with | some x => holeOk d e x | none => true) then fail stPh
  else if e = 3 && (decide (d.rd SP_STATUS_LEVEL < min 2 h.level) || (h.level == 3 && !d.fl SP_CTRL_SVC_CTRL)) then fail stRefused
  else
    let s := match h.hole with
      | some (n, k) => if n < 64 && k ≠ 2 then s.on (fun d => phGo d n 2) else s
      | none => s
    if halted && h.mgmt then s.on (fun d => completeAll (holeDone d h.hole stHalted) cs stHalted 0)
    else match h.act s with
      | .fin st r s => s.on (fun d => completeAll (holeDone d h.hole st) cs st r)
      | .wait s => s

/-- An execution that changes the device and always succeeds. -/
def okDev (f : Dev → Dev) : Sys → HRes := fun s => .fin stSuccess 0 (s.on f)

/-- An execution whose rule may refuse it. -/
def tryDev (f : Dev → Bool × Dev) : Sys → HRes := fun s =>
  let (no, d) := f s.dev
  .fin (if no then stRefused else stSuccess) 0 { s with dev := d }

/-- Argument byte, 16-bit and 32-bit arguments at a descriptor offset. -/
def a1 (b : List Nat) (o : Nat) : Nat := b.getD o 0
def a2 (b : List Nat) (o : Nat) : Nat := leAt b o 2
def a4 (b : List Nat) (o : Nat) : Nat := leAt b o 4

/-- The content a hole holds, or what follows the descriptor of a service-port transfer (R403). -/
def holeData (s : Sys) (b : List Nat) (e n k : Nat) : List Nat :=
  if e = 3 then fit k (b.drop 64) else Mem.bytes s.ph (n * 4096) k

/-- Query bytes go to a result hole or into the service port's response; BUSY with no free hole (R301, R403). -/
def answer (s : Sys) (e : Nat) (bytes : List Nat) : HRes :=
  if e = 3 then .fin stSuccess (0xFF + bytes.length * 256) (s.on (fun d => { d with sp := { d.sp with res := bytes } }))
  else match queryResult s e bytes with
    | some (r, s) => .fin stSuccess r s
    | none => .fin stBusy 0 s

/-! ### Targets -/

def railOk (d : Dev) (n : Nat) : Bool := decide (n < 16) && railConf d n
def fuseOk (d : Dev) (f : Nat) : Bool := decide (f < 64) && fuValid d f
def groupOk (d : Dev) (n : Nat) : Bool := decide (n < 16) && !(groupMembers d n).isEmpty
def feederOk (d : Dev) (i : Nat) : Bool := decide (i < 8) && (fmChan d i).isSome
def stepOk (d : Dev) (s : Nat) : Bool := decide (s < nStep d)
def slotOk (d : Dev) (s : Nat) : Bool := d.fl LS_EN s
def chanOk (d : Dev) (c : Nat) : Bool := roleOf d c != 0
def ringOk (d : Dev) (r : Nat) : Bool := decide (r < 8) && d.fl RG_CTRL_EN r

/-! ### Queries and copies (R291) -/

/-- NOP. -/
def hcNop (_ : Sys) (_ : List Nat) (_ : List HCtx) : HCmd := { level := 0, act := okDev id }

/-- Words read in order from an offset, with their read effects. -/
def readWords (s : Sys) (acc ofs n : Nat) : List Nat × Sys :=
  (List.range n).foldl (fun (x : List Nat × Sys) k =>
    let (v, s) := readWord x.2 acc (ofs + 4 * k)
    (x.1 ++ le 4 v, s)) ([], s)

/-- QUERY_REG. -/
def hcQueryReg (s : Sys) (b : List Nat) (cs : List HCtx) : HCmd :=
  let e := srcOf cs
  let o := a2 b 16
  let n := a1 b 18
  { used := [(16, 3)]
    argOk := decide (o % 4 = 0) && decide (1 ≤ n) && decide (n ≤ 16) && decide (o + 4 * n ≤ 65536)
      && (List.range n).all (fun k => wordThere s.dev e (o + 4 * k))
    level := if o + 4 * n ≤ 0x400 then 0 else 1
    act := fun s =>
      if e ≠ 3 && (resultHole s.dev).isNone then .fin stBusy 0 s
      else
        let (l, s) := readWords s e o n
        answer s e l }

/-- The 64 bytes of QUERY_CHAN. -/
def chanBytes (d : Dev) (c : Nat) : List Nat :=
  let q := fun (x : Quad) => q4 x.v ++ q4 x.i ++ q4 x.p ++ q4 x.t
  let a := (d.tc c).shown
  fit 64 (q a ++ q (telNow d c) ++ [health d c, d.rd CD_ENT_QREASON c] ++ le 2 (min 65535 a.held))

/-- QUERY_CHAN. -/
def hcQueryChan (s : Sys) (b : List Nat) (cs : List HCtx) : HCmd :=
  let c := a1 b 16
  { used := [(16, 1)], target := chanOk s.dev c, level := 1, act := fun s => answer s (srcOf cs) (chanBytes s.dev c) }

/-- PH_COPY. -/
def hcPhCopy (_ : Sys) (b : List Nat) (cs : List HCtx) : HCmd :=
  let e := srcOf cs
  let n := a1 b 16
  let dir := a1 b 17
  let len := a2 b 18
  let addr := leAt b 24 8
  { used := [(16, 4), (24, 8)]
    argOk := decide (dir ≤ 1) && decide (1 ≤ len) && decide (len ≤ 4096) && decide (addr % 4 = 0) && decide (e < 3)
    hole := some (n, 2)
    act := fun s => .wait (s.on (fun d =>
      let go := paceReady d e
      let op : CopyOp := { hole := n, dir := dir, len := len, back := phState d n, ctx := cs.headD {}, addr := addr, sent := go }
      let d := phGo d n 2
      let d := if go then d.emit (.phCopy e dir n addr len) else d
      { d with host := { d.host with copies := d.host.copies ++ [op] } })) }

/-- PH_COPY_DONE: the host access of a copy ends; `data` is what came from host memory (R301, R295). -/
def phCopyDone (s : Sys) (n : Nat) (ok : Bool) (data : List Nat) : Sys :=
  match s.dev.host.copies.find? (fun o => o.hole == n && o.sent) with
  | none => s
  | some o =>
    let s := s.on (fun d => { d with host := { d.host with copies := d.host.copies.filter (fun x => x.hole != n) } })
    let s := if ok && o.dir == 0 then { s with ph := Mem.put s.ph (n * 4096) (fit o.len data) } else s
    s.on (fun d => complete (paceEnded (phFinish d n o.back) o.ctx.src 0) o.ctx (if ok then stSuccess else stDma) 0 0)

/-! ### Configuration (R346, R347) -/

/-- CFG_LOAD. -/
def hcCfgLoad (_ : Sys) (b : List Nat) (cs : List HCtx) : HCmd :=
  let n := a1 b 16
  let o := a4 b 20
  let len := a2 b 24
  { used := [(16, 1), (20, 6)]
    argOk := decide (o % 4096 = 0) && decide (1 ≤ len) && decide (len ≤ 4096) && decide (o + len ≤ 524288)
    hole := some (n, 0), level := 2, mgmt := true
    act := fun s =>
      if s.dev.commit.isSome then .fin stBusy 0 s
      else .fin stSuccess 0 { s with nv := Mem.put s.nv (cfgAddr (1 - s.dev.rd NV_STATUS_CFGBUF) + o) (holeData s b (srcOf cs) n len) } }

/-- CFG_COMMIT. -/
def hcCfgCommit (_ : Sys) (b : List Nat) (cs : List HCtx) : HCmd :=
  { used := [(20, 4)], level := 2, mgmt := true
    act := fun s =>
      if s.dev.commit.isSome then .fin stBusy 0 s
      else .wait (s.on (fun d => { d with commit := some { buf := 1 - d.rd NV_STATUS_CFGBUF, len := a4 b 20, ctxs := cs } })) }

/-! ### Rails, fuses, feed groups, bus, caps -/

/-- RAIL_VSET. -/
def hcRailVset (s : Sys) (b : List Nat) (_ : List HCtx) : HCmd :=
  let n := a1 b 16
  { used := [(16, 1), (20, 4)], argOk := decide (n < 16), target := railOk s.dev n, act := okDev (fun d => d.wr VR_VSET n (a4 b 20)) }

/-- RAIL_ON: through the sequencer where a step names the rail (R236). -/
def hcRailOn (s : Sys) (b : List Nat) (_ : List HCtx) : HCmd :=
  let n := a1 b 16
  { used := [(16, 1)], argOk := decide (n < 16), target := railOk s.dev n
    act := tryDev (fun d => hostRailOn d n) }

/-- RAIL_OFF. -/
def hcRailOff (s : Sys) (b : List Nat) (_ : List HCtx) : HCmd :=
  let n := a1 b 16
  { used := [(16, 1)], argOk := decide (n < 16), target := railOk s.dev n
    act := okDev (fun d => hostOff d 1 n) }

/-- FUSE_ON. -/
def hcFuseOn (s : Sys) (b : List Nat) (_ : List HCtx) : HCmd :=
  let f := a1 b 16
  { used := [(16, 1)], argOk := decide (f < 64), target := fuseOk s.dev f, act := okDev (fun d => fuCmdOn d f) }

/-- FUSE_OFF. -/
def hcFuseOff (s : Sys) (b : List Nat) (_ : List HCtx) : HCmd :=
  let f := a1 b 16
  { used := [(16, 1)], argOk := decide (f < 64), target := fuseOk s.dev f, act := okDev (fun d => fuCmdOff d f) }

/-- FUSE_RESET. -/
def hcFuseReset (s : Sys) (b : List Nat) (_ : List HCtx) : HCmd :=
  let f := a1 b 16
  { used := [(16, 1)], argOk := decide (f < 64), target := fuseOk s.dev f, act := okDev (fun d => fuReset d f) }

/-- FG_ON. -/
def hcFgOn (s : Sys) (b : List Nat) (_ : List HCtx) : HCmd :=
  let n := a1 b 16
  { used := [(16, 1)], argOk := decide (n < 16), target := groupOk s.dev n, act := okDev (fun d => hostClaim d 3 n true) }

/-- FG_OFF. -/
def hcFgOff (s : Sys) (b : List Nat) (_ : List HCtx) : HCmd :=
  let n := a1 b 16
  { used := [(16, 1)], argOk := decide (n < 16), target := groupOk s.dev n
    act := okDev (fun d => hostOff d 3 n) }

/-- FG_XFER. -/
def hcFgXfer (s : Sys) (b : List Nat) (_ : List HCtx) : HCmd :=
  let n := a1 b 16
  { used := [(16, 1)], argOk := decide (n < 16), target := groupOk s.dev n, act := tryDev (fun d => groupXfer d n) }

/-- BUS_VSET: staged to the frame boundary in the sender's batch (R296, R427), where R173 limits it. -/
def hcBusVset (_ : Sys) (b : List Nat) (cs : List HCtx) : HCmd :=
  { used := [(16, 2)], act := okDev (fun d => stage d (srcOf cs + 1) FD_VSET_VSET 0 (a2 b 16)) }

/-- FEEDER_REMOVE. -/
def hcFeederRemove (s : Sys) (b : List Nat) (_ : List HCtx) : HCmd :=
  let i := a1 b 16
  { used := [(16, 1)], argOk := decide (i < 8), target := feederOk s.dev i, act := tryDev (fun d => feederHostRemove d i) }

/-- FEEDER_READMIT. -/
def hcFeederReadmit (s : Sys) (b : List Nat) (_ : List HCtx) : HCmd :=
  let i := a1 b 16
  { used := [(16, 1)], argOk := decide (i < 8), target := feederOk s.dev i, act := okDev (fun d => feederReadmit d i) }

/-- The value a field will have at its boundary: the staged one, else the active one. -/
def pendingVal (d : Dev) (r : Reg) (ix : Nat) : Nat :=
  match d.staged.find? (fun s => s.reg.id == r.id && s.ix == ix) with
  | some s => s.val
  | none => d.rd r ix

/-- CAP_SET: applies at the frame boundary (R255), in the sender's batch (R427). -/
def hcCapSet (s : Sys) (b : List Nat) (cs : List HCtx) : HCmd :=
  let k := a1 b 16
  let n := a1 b 17
  let w := a2 b 18
  { used := [(16, 4)]
    argOk := match k with
      | 0 | 3 => n == 0
      | 1 | 2 => decide (n < 16)
      | _ => false
    target := match k with
      | 1 => railOk s.dev n
      | 2 => groupOk s.dev n
      | _ => true
    act := okDev (fun d => match k with
      | 0 => stage d (srcOf cs + 1) CP_HUB_CAPW 0 w
      | 1 => stage d (srcOf cs + 1) CP_RAIL n (setBits (pendingVal d CP_RAIL n) 0 16 w)
      | 2 => stage d (srcOf cs + 1) CP_FG n (setBits (pendingVal d CP_FG n) 0 16 w)
      | _ => stage d (srcOf cs + 1) CP_HUCAP_HUCAP 0 w) }

/-- THROT_SET; CONFLICT for a pin not in mode 0 (R249). -/
def hcThrotSet (_ : Sys) (b : List Nat) (cs : List HCtx) : HCmd :=
  let k := a1 b 16
  { used := [(16, 2)], argOk := decide (k < 4) && decide (a1 b 17 < 2)
    act := fun s =>
      if pinMode s.dev k ≠ 0 then .fin stConflict 0 s
      else okDev (fun d => throtReq d (srcOf cs) k (a1 b 17 == 1)) s }

/-! ### Sequencer, loops, channels, rings -/

/-- SEQ_ON. -/
def hcSeqOn (_ : Sys) (_ : List Nat) (cs : List HCtx) : HCmd := { act := tryDev (fun d => seqRequest d true (1 + srcOf cs)) }

/-- SEQ_OFF. -/
def hcSeqOff (_ : Sys) (_ : List Nat) (cs : List HCtx) : HCmd := { act := tryDev (fun d => seqRequest d false (1 + srcOf cs)) }

/-- SEQ_STEPON. -/
def hcSeqStepon (s : Sys) (b : List Nat) (_ : List HCtx) : HCmd :=
  let t := a1 b 16
  { used := [(16, 1)], argOk := decide (t < 32), target := stepOk s.dev t, act := tryDev (fun d => seqStepOn d t) }

/-- SEQ_STEPOFF. -/
def hcSeqStepoff (s : Sys) (b : List Nat) (_ : List HCtx) : HCmd :=
  let t := a1 b 16
  { used := [(16, 1)], argOk := decide (t < 32), target := stepOk s.dev t, act := tryDev (fun d => seqStepOff d t) }

/-- SEQ_CLRFLT. -/
def hcSeqClrflt (_ : Sys) (_ : List Nat) (_ : List HCtx) : HCmd := { act := okDev seqClrflt }

/-- A function writes the set-point of a slot: bus, ramp and positioning slots, fuse ramps, string observers (R153, R169,
R187, R210). -/
def functionSetpt (d : Dev) (s : Nat) : Bool :=
  busSlot d == some s || (List.range 64).any (fun f => fuSlot d f == some s)
    || (List.range 8).any (fun j => strSlot d j == some s)
    || (List.range 16).any (fun n => rampSlot d n == some s)

/-- LOOP_SETPT. -/
def hcLoopSetpt (s : Sys) (b : List Nat) (_ : List HCtx) : HCmd :=
  let t := a1 b 16
  { used := [(16, 1), (20, 4)], target := slotOk s.dev t
    act := tryDev (fun d =>
      if d.fl LS_PAR_EN t || functionSetpt d t then (true, d)
      else (false, refHost (d.wr LS_SETPT t (a4 b 20)) LS_SETPT t)) }

/-- LOOP_MODE. -/
def hcLoopMode (s : Sys) (b : List Nat) (_ : List HCtx) : HCmd :=
  let t := a1 b 16
  { used := [(16, 2)], argOk := decide (a1 b 17 < 2), target := slotOk s.dev t && (scarfIx s.dev t).isSome
    act := okDev (fun d => match scarfIx d t with
      | some i => d.wr LE_SCARF_MODE i (a1 b 17)
      | none => d) }

/-- LOOP_MANOUT. -/
def hcLoopManout (s : Sys) (b : List Nat) (_ : List HCtx) : HCmd :=
  let t := a1 b 16
  { used := [(16, 1), (20, 4)], target := slotOk s.dev t && (scarfIx s.dev t).isSome
    act := okDev (fun d => match scarfIx d t with
      | some i => d.wr LE_SCARF_MAN_OUT i (a4 b 20)
      | none => d) }

/-- CHAN_REIDENT. -/
def hcChanReident (s : Sys) (b : List Nat) (_ : List HCtx) : HCmd :=
  let c := a1 b 16
  { used := [(16, 1)], target := chanOk s.dev c, act := okDev (fun d => reidentRequest d c) }

/-- RING_RESET. -/
def hcRingReset (s : Sys) (b : List Nat) (_ : List HCtx) : HCmd :=
  let r := a1 b 16
  { used := [(16, 1)], argOk := decide (r < 8), target := ringOk s.dev r, act := okDev (fun d => ringReset d r) }

/-! ### Plans -/

/-- PLAN_APPROVE. -/
def hcPlanApprove (_ : Sys) (b : List Nat) (_ : List HCtx) : HCmd :=
  { used := [(16, 4)], level := 2, mgmt := true, act := tryDev (fun d => planApprove d (a4 b 16)) }

/-- PLAN_REJECT. -/
def hcPlanReject (_ : Sys) (b : List Nat) (_ : List HCtx) : HCmd :=
  { used := [(16, 4)], level := 2, mgmt := true, act := tryDev (fun d => planReject d (a4 b 16)) }

/-! ### Recorder (R333, R334, R337) -/

/-- EV_READ; a position of the registered region is one of 0 to 16,383 (R337). -/
def hcEvRead (_ : Sys) (b : List Nat) (cs : List HCtx) : HCmd :=
  let n := a1 b 16
  let e := srcOf cs
  { used := [(16, 3), (20, 4)]
    argOk := decide (a1 b 17 < 2) && decide (1 ≤ a1 b 18) && decide (a1 b 18 ≤ 64) && (a1 b 17 == 0 || decide (a4 b 20 < 16384))
    hole := some (n, 1), level := 1, mgmt := true
    act := fun s =>
      let (l, s) := readRecs s (readAddrs s.dev (a1 b 17) (a4 b 20) (a1 b 18))
      if e = 3 then answer s 3 l
      else .fin stSuccess (n + l.length * 256) { s with dev := s.dev.wr HQ_PH_LEN n l.length, ph := Mem.put s.ph (n * 4096) l } }

/-- EV_NOTE. -/
def hcEvNote (_ : Sys) (b : List Nat) (cs : List HCtx) : HCmd :=
  let code := a2 b 16
  { used := [(16, 2), (24, 40)], argOk := decide (code % 16 ≤ 4), level := 1, mgmt := true
    act := okDev (fun d => joinEnt d { pm := d.curPm, code := 0x0C08, cls := 8 + srcOf cs, src := code / 16, sev := code % 16,
                                       pay := fit 40 (b.drop 24) }) }

/-- A clear token passes every check of R333. -/
def clearTokenOk (s : Sys) (t : List Nat) (scope : Nat) : Bool :=
  let k := t.getD 1 0
  t.getD 0 0 == 1 && (k == 2 || (k == 1 && scope == 0)) && t.getD 2 0 == scope && t.getD 3 0 == 0 && leAt t 12 4 == 0
    && leAt t 4 8 == s.dev.rcd.nonce && keyCheck s (k + 1) (t.take 16) ((t.drop 16).take 64)

/-- EV_CLEAR; a new nonce is drawn whatever the outcome. It waits for every entry that the queue holds now (R333). -/
def hcEvClear (_ : Sys) (b : List Nat) (cs : List HCtx) : HCmd :=
  let n := a1 b 16
  let scope := a1 b 17
  let e := srcOf cs
  { used := [(16, 2)], argOk := decide (scope < 2), hole := some (n, 0), level := 1, mgmt := true
    act := fun s =>
      if s.dev.rcd.clr.isSome then .fin stBusy 0 s
      else
        let t := holeData s b e n 80
        let ok := clearTokenOk s t scope
        let s := s.on (fun d => { d.freeNext with rcd := { d.rcd with nonce := d.freeV % 2 ^ 64 } })
        if !ok then .fin stAuth 0 s
        else
          let op : ClearOp := { scope := scope, kcls := t.getD 1 0, nonce := leAt t 4 8, hole := if e = 3 then 256 else n, ctxs := cs }
          .wait (clearTick (s.on (fun d =>
            { d with rcd := { d.rcd with clr := some op, queue := d.rcd.queue.map (fun x => { x with clr := true }) } }))) }

/-! ### Images (R352 to R358) -/

/-- UPD_BEGIN. -/
def hcUpdBegin (_ : Sys) (b : List Nat) (_ : List HCtx) : HCmd :=
  let size := a4 b 16
  { used := [(16, 36)], argOk := decide (1 ≤ size) && decide (size ≤ 4194304), level := 1, mgmt := true
    act := fun s =>
      let (st, d) := updBegin s.dev size ((b.drop 20).take 32)
      .fin st 0 { s with dev := d } }

/-- UPD_PIECE; `k` is what the store meets (R342). The last missing piece starts the verification, and its completion
waits for that (R353). -/
def updPiece (k : StoreCase) (b : List Nat) (cs : List HCtx) (s : Sys) : HRes :=
  let n := a1 b 16
  let p := a4 b 20
  let e := srcOf cs
  let d := s.dev
  if !d.fl UP_STATUS_DLOPEN then .fin stRefused 0 s
  else if dlPieces d ≤ p then .fin stBadArg 0 s
  else if d.up.verify.isSome then .fin stBusy 0 s
  else
    let (bad, s) := storeCase s k
    if bad then .fin stStore 0 s
    else
      let s := (pieceWrite s p (holeData s b e n 4096)).on (fun d => pieceSet d p)
      if s.dev.rd UP_DL_MISSING = 0 then
        .wait (s.on (fun d => { d with up := { d.up with verify := some (cs, if e = 3 then 256 else n) } }))
      else .fin stSuccess (s.dev.rd UP_DL_MISSING) s

/-- UPD_PIECE. -/
def hcUpdPiece (k : StoreCase) (b : List Nat) (cs : List HCtx) : HCmd :=
  { used := [(16, 1), (20, 4)], hole := some (a1 b 16, 0), level := 1, mgmt := true, act := updPiece k b cs }

/-- UPD_ACTIVATE. -/
def hcUpdActivate (_ : Sys) (_ : List Nat) (_ : List HCtx) : HCmd :=
  { level := 1, mgmt := true, act := fun s => let (st, d) := updActivate s.dev; .fin st 0 { s with dev := d } }

/-- UPD_STAGES. -/
def hcUpdStages (s : Sys) (b : List Nat) (_ : List HCtx) : HCmd :=
  let r := a1 b 16
  { used := [(16, 1)], argOk := decide (r < 8) || r == 0xFF, target := r == 0xFF || ringOk s.dev r, level := 2, mgmt := true
    act := fun s => let (st, s) := updStages s r; .fin st 0 s }

/-- UPD_ABORT. -/
def hcUpdAbort (_ : Sys) (_ : List Nat) (_ : List HCtx) : HCmd := { level := 1, mgmt := true, act := okDev updAbort }

/-! ### Mode, reset, sleep -/

/-- AU_MODE: applies at the next frame boundary (R321). -/
def hcAuMode (_ : Sys) (b : List Nat) (_ : List HCtx) : HCmd :=
  { used := [(16, 1)], argOk := decide (a1 b 16 < 3), mgmt := true
    act := okDev (fun d => { d with au := { d.au with newMode := some (a1 b 16) } }) }

/-- DEV_RESET: the reset begins at the first frame boundary after the completion (R408). -/
def hcDevReset (_ : Sys) (_ : List Nat) (_ : List HCtx) : HCmd := { act := okDev (fun d => { d with pw := { d.pw with rstReq := true } }) }

/-- DEV_SLEEP: refused, or completed and then entered (R413). -/
def hcDevSleep (_ : Sys) (_ : List Nat) (cs : List HCtx) : HCmd :=
  { mgmt := true
    act := fun s =>
      if sleepRefusal s.dev ≠ 0 then .fin stRefused 0 (s.on (fun d => (sleepRequest d).2))
      else .wait (s.on (fun d => (sleepRequest (completeAll d cs stSuccess 0)).2)) }

/-! ### The dispatcher -/

/-- The command of an opcode of R291; `k` is what the store meets when a piece is written (R342). -/
def hcOf (s : Sys) (b : List Nat) (cs : List HCtx) (k : StoreCase) : Option HCmd :=
  match descOp b with
  | 0x0001 => some (hcNop s b cs)
  | 0x0002 => some (hcQueryReg s b cs)
  | 0x0003 => some (hcQueryChan s b cs)
  | 0x0004 => some (hcPhCopy s b cs)
  | 0x0010 => some (hcCfgLoad s b cs)
  | 0x0011 => some (hcCfgCommit s b cs)
  | 0x0100 => some (hcRailVset s b cs)
  | 0x0101 => some (hcRailOn s b cs)
  | 0x0102 => some (hcRailOff s b cs)
  | 0x0110 => some (hcFuseOn s b cs)
  | 0x0111 => some (hcFuseOff s b cs)
  | 0x0112 => some (hcFuseReset s b cs)
  | 0x0118 => some (hcFgOn s b cs)
  | 0x0119 => some (hcFgOff s b cs)
  | 0x011A => some (hcFgXfer s b cs)
  | 0x0120 => some (hcBusVset s b cs)
  | 0x0121 => some (hcFeederRemove s b cs)
  | 0x0122 => some (hcFeederReadmit s b cs)
  | 0x0130 => some (hcCapSet s b cs)
  | 0x0131 => some (hcThrotSet s b cs)
  | 0x0140 => some (hcSeqOn s b cs)
  | 0x0141 => some (hcSeqOff s b cs)
  | 0x0142 => some (hcSeqStepon s b cs)
  | 0x0143 => some (hcSeqStepoff s b cs)
  | 0x0144 => some (hcSeqClrflt s b cs)
  | 0x0150 => some (hcLoopSetpt s b cs)
  | 0x0151 => some (hcLoopMode s b cs)
  | 0x0152 => some (hcLoopManout s b cs)
  | 0x0160 => some (hcChanReident s b cs)
  | 0x0161 => some (hcRingReset s b cs)
  | 0x0170 => some (hcPlanApprove s b cs)
  | 0x0171 => some (hcPlanReject s b cs)
  | 0x0180 => some (hcEvRead s b cs)
  | 0x0181 => some (hcEvNote s b cs)
  | 0x0182 => some (hcEvClear s b cs)
  | 0x0190 => some (hcUpdBegin s b cs)
  | 0x0191 => some (hcUpdPiece k b cs)
  | 0x0192 => some (hcUpdActivate s b cs)
  | 0x0193 => some (hcUpdStages s b cs)
  | 0x0194 => some (hcUpdAbort s b cs)
  | 0x01A0 => some (hcAuMode s b cs)
  | 0x01B0 => some (hcDevReset s b cs)
  | 0x01B1 => some (hcDevSleep s b cs)
  | _ => none

/-- A command is executed: check 1 of R292, then the others. -/
def hostExec (s : Sys) (b : List Nat) (cs : List HCtx) (k : StoreCase) : Sys :=
  match hcOf s b cs k with
  | some h => hostRun s b cs h
  | none => s.on (fun d => completeAll d cs stBadOp 0)

/-- The context of a direct command. -/
def ctxOf (d : Dev) (h : Sender) : HCtx :=
  { src := accIx h.path, seq := h.seq.toNat, tag := h.tag.toNat, irq := h.irq, lcl := h.lcl, cidx := h.cidx.toNat,
    gen := (d.hep (accIx h.path)).gen }

/-- A descriptor built from an opcode and argument bytes (offset, bytes), with what follows it (R290, R403). -/
def descOf (op : Nat) (h : Sender) (args : List (Nat × List Nat)) : List Nat :=
  let head := le 2 op ++ [h.irq.toNat + 2 * h.lcl.toNat, 0] ++ le 4 h.seq.toNat ++ le 4 h.tag.toNat ++ le 4 0
  let body := args.foldl (fun (l : List Nat) (a : Nat × List Nat) => l.take (a.1 - 16) ++ a.2 ++ l.drop (a.1 - 16 + a.2.length)) (List.replicate 48 0)
  head ++ fit 48 body ++ h.extra.map (·.toNat)

/-- A host command executed directly (R291, R292): its opcode, sender and argument bytes. -/
def hostDirect (s : Sys) (op : Nat) (h : Sender) (args : List (Nat × List Nat)) (mk : Sys → List Nat → List HCtx → HCmd) : Sys :=
  let b := descOf op h args
  let cs := [ctxOf s.dev h]
  hostRun s b cs (mk s b cs)

/-- USB_COMMAND (R403): a command transfer is handed to the dispatcher; the endpoint takes none while a response is
outstanding. -/
def usbCommand (d : Dev) (bytes : List Nat) : Dev :=
  let busy := d.sp.resp.isSome || d.host.dq.any (fun i => srcOf i.ctxs == 3)
    || d.up.verify.any (fun v => srcOf v.1 == 3) || d.commit.any (fun c => srcOf c.ctxs == 3) || d.rcd.clr.any (fun c => srcOf c.ctxs == 3)
  if !usbOn d || !d.fl SP_STATUS_USBCFG || busy then d
  else
    let b := fit 64 bytes ++ bytes.drop 64
    let c : HCtx := { src := 3, seq := leAt b 4 4, tag := leAt b 8 4, irq := bitOf (b.getD 2 0) 0, lcl := descLocal b }
    dispatchPush d b [c]

end Sys2Proof.Machine
end

