-- ==== Sys2Proof/Machine/RegWrite.lean ====
section
/-! DEFINITION. Register writes: staging, fields that apply at once, and command words (R16, R17, R369, R421 to R426). -/

namespace Sys2Proof.Machine
open R

/-! ### Command words (R426): what each WO bit asks for, in ascending bit order -/

/-- `f` acts where bit `b` of a word is 1. -/
def onBit (v b : Nat) (f : Dev → Dev) (d : Dev) : Dev := if bitOf v b then f d else d

/-- LE_CMD.CLRPEAK (R119). -/
def clrPeak (d : Dev) : Dev := d.wr LE_RUN_PEAK 0 0

/-- UP_CMD.CONFIRM: the host's confirmation of this start (R355). -/
def upCmdConfirm (d : Dev) : Dev := { d with up := { d.up with conf := true } }

/-- PM_CMD.RESET: a host-command reset at the next frame boundary (R408). -/
def pmCmdReset (d : Dev) : Dev := { d with pw := { d.pw with rstReq := true } }

/-- MP_CMD.RUNNOW (R274). -/
def mpRunNow (d : Dev) : Dev := { d with mp := { d.mp with runNow := true } }

/-- The host source of a command from an accessor, as SEQ_REQUEST codes it: 1 PA, 2 PB, 3 TWB. -/
def seqSrc (acc : Nat) : Nat := 1 + acc

/-- A command word written at an offset acts (R426). -/
def cmdWord (acc ofs v : Nat) (d : Dev) : Dev :=
  if 0x2000 ≤ ofs ∧ ofs < 0x2800 then
    let r := (ofs - 0x2000) / 0x100
    onBit v 1 (fun d => ringClrCnt d r) (onBit v 0 (fun d => ringReset d r) d)
  else if 0x2800 ≤ ofs ∧ ofs < 0x3800 then onBit v 14 (fun d => reidentRequest d ((ofs - 0x2800) / 16)) d
  else if ofs = 0x3818 then onBit v 9 clrPeak (onBit v 8 (fun d => feclrCmd d (v % 256)) d)
  else if ofs = 0x8824 then
    onBit v 4 (fun d => feederReadmit d (v % 8)) (onBit v 3 (fun d => (feederHostRemove d (v % 8)).2) d)
  else if ofs = 0x8C2C then onBit v 4 (fun d => strCmdClose d (v % 8)) (onBit v 3 (fun d => strCmdOpen d (v % 8)) d)
  else if 0x9000 ≤ ofs ∧ ofs < 0x9800 then
    let f := (ofs - 0x9000) / 0x20
    onBit v 19 (fun d => fuCmdXfer d f) (onBit v 18 (fun d => fuReset d f) (onBit v 17 (fun d => fuCmdOff d f)
      (onBit v 16 (fun d => fuCmdOn d f) d)))
  else if ofs = 0x9810 then
    let st := bitsOf v 4 5
    let d := onBit v 2 seqClrflt (onBit v 1 (fun d => (seqRequest d false (seqSrc acc)).2)
      (onBit v 0 (fun d => (seqRequest d true (seqSrc acc)).2) d))
    onBit v 10 (fun d => (seqStepOff d st).2) (onBit v 9 seqClrcnt (onBit v 3 (fun d => (seqStepOn d st).2) d))
  else if ofs = 0xAC10 then
    let n := d.rd MP_APPRNUM
    onBit v 3 mpRebase (onBit v 2 mpRunNow (onBit v 1 (fun d => (planReject d n).2) (onBit v 0 (fun d => (planApprove d n).2) d)))
  else if ofs = 0x1840 then verdict d (v % 4)
  else if ofs = 0x1850 then onBit v 0 tokGo d
  else if ofs = 0xB018 then onBit v 0 manualTrigger d
  else if ofs = 0xB420 then onBit v 0 refreshStart d
  else if ofs = 0xB824 then onBit v 1 relayStop (onBit v 0 upCmdConfirm d)
  else if ofs = 0xC01C then onBit v 2 sessionEnd (onBit v 1 spCmdErrrec (onBit v 0 spCmdHrst d))
  else if ofs = 0x430 then onBit v 1 (fun d => (sleepRequest d).2) (onBit v 0 pmCmdReset d)
  else d

/-- Doorbells and pigeonhole operations, which act as R288 and R301 set out. -/
def hostWord (acc ofs v : Nat) (d : Dev) : Dev :=
  if ofs = 0x100C then doorbell d acc 0 (v % 65536)
  else if ofs = 0x102C then doorbell d acc 1 (v % 65536)
  else if ofs = 0x104C then doorbell d acc 2 (v % 65536)
  else if ofs = 0x106C then doorbell d acc 3 (v % 65536)
  else if 0x1400 ≤ ofs ∧ ofs < 0x1500 then phOp d acc ((ofs - 0x1400) / 4) (bitsOf v 8 2)
  else d

/-! ### Writing a word -/

/-- An accessor may write the block of an offset: the service port never; TWB as R369 permits. -/
def mayWrite (d : Dev) (acc ofs : Nat) : Bool :=
  let k := blockIx ofs
  if acc = 2 then k == 5 || k == 21 || (k != 4 && d.bit TW_TWB_WMASK 0 k) else decide (acc < 2)

/-- Fields whose effects are reached through TWB alone (R320, R420). -/
def twbOnly (ofs : Nat) : Bool :=
  ofs == 0x183C || ofs == 0x1840 || ofs == 0x1850 || (decide (0x1860 ≤ ofs) && decide (ofs < 0x18B0)) || ofs == 0x430

/-- One RW field of a written word takes its value: at once, or into the accessor's batch (R17, R424). -/
def writeField (acc v : Nat) (f : Reg × Nat) (d : Dev) : Dev :=
  let r := f.1
  if r.acc ≠ .rw then d
  else
    let x := bitsOf v r.lo r.w
    if r.app = .now then d.wr r f.2 x
    else if r.id = FU_WDATA.id then
      let w := fuWsel d acc f.2
      if 12 ≤ w then d else stage d (acc + 1) r (1024 + 16 * f.2 + w) x
    else stage d (acc + 1) r f.2 x

/-- The WO bits of a word's fields. -/
def woMask (fs : List (Reg × Nat)) : Nat :=
  fs.foldl (fun (m : Nat) (f : Reg × Nat) => if f.1.acc == .wo then m ||| ((2 ^ f.1.w - 1) * 2 ^ f.1.lo) else m) 0

/-- A write that raises no bus error (R424, R426). It completes in the tick in hand, so that the next tick latches a command
that it carries (R46). -/
def writeWord (acc ofs v : Nat) (d : Dev) : Dev :=
  let w := wordView acc ofs
  if w.view || (twbOnly ofs && acc ≠ 2) then d
  else
    let fs := wordFields acc ofs
    let d := forL fs (writeField acc v) d
    let c := v &&& woMask fs
    if c = 0 then d
    else if blockIx ofs = 4 then (if acc < 2 then hostWord acc ofs c d else d)
    else
      let x : DispItem := { reg := some (acc, ofs, c), tick := d.cur + 1, rank := 2 * acc + 1 }
      { d with host := { d.host with dq := dispIns d.host.dq x } }

/-- The kind of bus error that a write raises, or 0 (R15, R369, R423). -/
def writeKind (d : Dev) (acc ofs v : Nat) : Nat :=
  let fs := wordFields acc ofs
  if ofs % 4 ≠ 0 then 1
  else if !wordThere d acc ofs || !mayWrite d acc ofs then 2
  else
    let wsel := match fs.find? (fun f => f.1.id == FU_WDATA.id) with
      | some f => fuWsel d acc f.2
      | none => 0
    if v &&& writableBits fs ofs wsel == v then 0 else 3

/-- A 32-bit write of an accessor at an offset (REGISTER_WRITE). The service port never writes (R421). -/
def regWrite (acc ofs v : Nat) (d : Dev) : Dev :=
  if 3 ≤ acc then d
  else
    let k := writeKind d acc ofs v
    if k = 0 then writeWord acc ofs v d else busError d acc ofs k true v

/-! ### The dispatcher (R28) -/

/-- One more command has been handed over in this tick (R28). -/
def handOver (d : Dev) : Dev := { d with tb := { d.tb with handed := d.tb.handed + 1 } }

/-- A waiting command is executed. -/
def dispatchOne (i : DispItem) (s : Sys) : Sys :=
  let s := s.on handOver
  match i.reg with
  | some (acc, ofs, v) => s.on (cmdWord acc ofs v)
  | none => hostExec s i.bytes i.ctxs i.store

/-- The command whose turn it is: the front of the dispatcher's queue, where it has been latched. -/
def dispNext (d : Dev) : Option DispItem := d.host.dq.head?.filter (fun i => decide (i.tick ≤ d.cur))

/-- At most `n` commands from the front of the dispatcher's queue. -/
def dispatchN (n : Nat) (s : Sys) : Sys :=
  match n with
  | 0 => s
  | n + 1 =>
    match dispNext s.dev with
    | none => s
    | some i => dispatchN n (dispatchOne i (s.on (fun d => { d with host := { d.host with dq := d.host.dq.tail } })))

/-- The dispatcher in phase B: at most 32 commands of a tick (DISPATCH, R28, R426); a copy that a verdict releases in this
phase B still executes in it (R315). -/
def dispatch (s : Sys) : Sys := dispatchN (32 - s.dev.tb.handed) s

end Sys2Proof.Machine
end

