-- ==== Sys2Proof/Machine/TwoWire.lean ====
section
/-! DEFINITION. The two-wire ports: TWB as target (R365 to R373) and TWA as controller (R375 to R379). -/

namespace Sys2Proof.Machine
open R

/-! ### TWB -/

/-- The page in force (R365). -/
def twbPage (d : Dev) : Nat := d.rd TW_STATUS_TWB_PAGE
/-- The pointer in force (R366). -/
def twbPtr (d : Dev) : Nat := d.rd TW_STATUS_TWB_PTR
/-- The register offset that the register address reaches. -/
def twbOfs (d : Dev) : Nat := twbPage d * 256 + twbPtr d

/-- The pointer moves on by a word within its page (R367). -/
def twbAdvance (d : Dev) : Dev := d.wr TW_STATUS_TWB_PTR 0 (twbPtr d + 4)

/-- The state of the TWB transaction changes. -/
def twbGo (d : Dev) (st : Nat) : Dev := { d with tw := { d.tw with bus := st, sending := false } }

/-- A byte is not acknowledged (TW_TWB_NAK, TW_EVT.TWB_NAK). -/
def twbNak (d : Dev) : Dev := ((d.inc TW_TWB_NAK).ev TW_EVT_TWB_NAK).emit .twbNak

/-- An address phase is not acknowledged; it is not counted (R380). -/
def twbNakAddr (d : Dev) : Dev := (twbGo d 0).emit .twbNak

/-- Bytes are sent on TWB. -/
def twbSend (d : Dev) (l : List Nat) : Dev := forL l (fun b d => d.emit (.twb b)) d

/-- `part` complete bytes of a word not yet written are discarded (R367): an access of another width. -/
def twbDiscard (d : Dev) (part : Nat) : Dev :=
  if d.tw.bus = 2 ∧ part ≠ 0 then (busError d 2 (twbOfs d) 1 true 0).ev TW_EVT_TWB_PARTIAL else d

/-- A transaction ends by STOP or by a START between bytes (R367): of a read, the pointer moves past a word that has been
sent whole (`part` = 0). -/
def twbEnd (d : Dev) (part : Nat) : Dev :=
  let d := twbDiscard d part
  let d := if d.tw.bus = 3 ∧ d.tw.sending ∧ part = 0 then twbAdvance d else d
  twbGo d 0

/-- TWB_ADDRESS (R365, R372, R373): an address phase; `part` are the bytes of the word that the START before it cut off. It
is acknowledged again 1.5 ms after the wake (R372), be WAKE_COMPLETE's step past or not. -/
def twbAddress (s : Sys) (addr : Nat) (read : Bool) (part : Nat) (mainGood : Bool) (aclk : Nat) : Sys :=
  let own := addr == s.dev.rd TW_TWB_ADDR || addr == s.dev.rd TW_TWB_PADDR
  if s.dev.pw.asleep || (s.dev.pw.waking && !wakeCompleteDue s.dev) then
    let s := s.on twbNakAddr
    if own && s.dev.pw.asleep && !s.dev.pw.waking then
      let on := s.dev.bit PM_WAKEEN 0 2
      (wakeEvent s 2 mainGood aclk).on (fun d => { d with tw := { d.tw with woke := on } })
    else s
  else if s.dev.pw.held then s
  else
    let s := s.on (fun d => twbEnd d part)
    let s := if own && s.dev.pw.entry != 0 then wakeEvent s 2 mainGood aclk else s
    s.on (fun d =>
      if addr = d.rd TW_TWB_ADDR then twbGo d (if read then 3 else 1)
      else if addr = d.rd TW_TWB_PADDR then twbGo d (if read then 6 else 4)
      else if addr = 0x0C ∧ read ∧ d.fl TW_STATUS_TWB_ALERT then twbGo d 7
      else twbNakAddr d)

/-- TWB_PAGE_WRITE (R365): one data byte to the page address; a further one is not acknowledged. -/
def twbPageWrite (d : Dev) (b : Nat) : Dev :=
  if d.tw.bus = 4 then twbGo (d.wr TW_STATUS_TWB_PAGE 0 b) 5
  else if d.tw.bus = 5 then twbNak d
  else d

/-- TWB_POINTER_WRITE (R366): the first data byte to the register address. -/
def twbPointerWrite (d : Dev) (b : Nat) : Dev :=
  if d.tw.bus ≠ 1 then d
  else if b % 4 ≠ 0 then twbGo (twbNak d) 0
  else twbGo (d.wr TW_STATUS_TWB_PTR 0 b) 2

/-- TWB_WORD_WRITE (R367, R369): the fourth byte of a word. A write with a bus error is not acknowledged, and the pointer
stays. -/
def twbWordWrite (d : Dev) (w : Nat) : Dev :=
  if d.tw.bus ≠ 2 then d
  else if writeKind d 2 (twbOfs d) w = 0 then twbAdvance (regWrite 2 (twbOfs d) w d)
  else twbGo (twbNak (regWrite 2 (twbOfs d) w d)) 0

/-- The pointer moves past a word that has been sent, before the next one (R367). -/
def twbNext (d : Dev) : Dev := if d.tw.sending then twbAdvance d else d

/-- TWB_WORD_READ (R365, R367, R369): a word's first byte is sent, and with it the read takes place; a read from the page
address sends the page and then zeros. -/
def twbWordRead (s : Sys) : Sys :=
  if s.dev.tw.bus = 6 then
    s.on (fun d => { twbSend d [if d.tw.sending then 0 else twbPage d, 0, 0, 0] with tw := { d.tw with sending := true } })
  else if s.dev.tw.bus ≠ 3 then s
  else
    let s := s.on (fun d => { twbNext d with tw := { d.tw with sending := true } })
    let ofs := twbOfs s.dev
    if wordThere s.dev 2 ofs then
      let (v, s) := readWord s 2 ofs
      s.on (fun d => twbSend d (le 4 v))
    else s.on (fun d => twbSend (busError d 2 ofs 2 false 0) [0, 0, 0, 0])

/-- TWB_STOP (R367). -/
def twbStop (d : Dev) (part : Nat) : Dev := twbEnd d part

/-- TWB_ABORT (R371): a START inside a byte or its acknowledge slot; the pointer does not advance. -/
def twbAbort (d : Dev) (part : Nat) : Dev := twbGo (twbDiscard d part) 0

/-- TWB_HOLD_TIMEOUT (R368): an access not complete at 10 ms is abandoned. Which kind of R423 the bus error is reported as is
free. -/
def twbHoldTimeout (d : Dev) (wr : Bool) (w : Nat) : Dev :=
  let kind := 1 + d.freeV % 3
  if wr then
    if d.tw.bus ≠ 2 then d else twbGo (twbNak (busError d.freeNext 2 (twbOfs d) kind true w)) 0
  else if d.tw.bus ≠ 3 then d
  else
    let d := twbNext d
    let d := twbSend (busError d.freeNext 2 (twbOfs d) kind false 0) [0, 0, 0, 0]
    { d with tw := { d.tw with sending := true } }

/-- TWB_ALERT_RESPONSE (R373): the device's byte against the byte `other` of another target (0xFF: none). -/
def twbAlertResponse (d : Dev) (other : Nat) : Dev :=
  if d.tw.bus ≠ 7 then d
  else
    let own := 2 * d.rd TW_TWB_ADDR
    if other < own then twbGo d 0
    else twbSend (twbGo (d.wr TW_STATUS_TWB_ALERT 0 0) 0) [own]

/-! ### TWA -/

/-- TWA may start a transfer: enabled, the management cores running, no transfer in progress, not entering sleep (R378). -/
def twaIdle (d : Dev) : Bool :=
  d.fl TW_CTRL_TWA_EN && !d.fl GL_STATUS_MHALT && d.tw.xfer.isNone && d.pw.entry == 0

/-- The period of a poll entry in ticks (R378). -/
def pollPeriod (d : Dev) (i : Nat) : Nat := act1 (d.rd TW_POLL_PER i) * 10000

/-- A poll entry is due: an alert asked for it, it has never run, or its period has passed (R378, R379). -/
def pollAsked (d : Dev) (i : Nat) : Bool :=
  let l := Tbl.get 0 d.tw.last i
  d.fl TW_POLL_EN i && (d.tw.now.contains i || l == 0 || decide (l - 1 + pollPeriod d i ≤ d.tb.now))

/-- TWA_POLL is due for entry `i`: no lower entry is. -/
def pollDue (d : Dev) (i : Nat) : Bool :=
  twaIdle d && (firstIx 16 (pollAsked d) == some i)

/-- The transfer of an entry goes on the bus. -/
def twaSend (d : Dev) (i : Nat) : Dev := d.emit (.twa (d.rd TW_POLL_ADDR i) (d.rd TW_POLL_PTR i) (d.rd TW_POLL_LEN i))

/-- The bus check of R377, where one is due. -/
def twaCheck (d : Dev) (sdaLow : Bool) : Dev :=
  let d' := { d with tw := { d.tw with check := false } }
  if d.tw.check && sdaLow then d'.emit .twaRecover else d'

/-- TWA_POLL (R377, R378): the transfer of an entry starts. An alert's poll leaves the regular schedule. -/
def twaPoll (d : Dev) (i : Nat) (sdaLow : Bool) : Dev :=
  if !pollDue d i then d
  else
    let d := twaCheck d sdaLow
    let per := pollPeriod d i
    let l := Tbl.get 0 d.tw.last i
    let next := if l ≠ 0 ∧ d.tb.now < l - 1 + 2 * per then l + per else d.tb.now + 1
    let last := if d.tw.now.contains i then d.tw.last else Tbl.set 0 d.tw.last i next
    let d := { d with tw := { d.tw with xfer := some { entry := i }, last := last, now := d.tw.now.filter (fun x => x != i) } }
    twaSend (d.wr TW_STATUS_TWA_BUSY 0 1) i

/-- BREACH or FAILED of an entry became 1 (R378): with ACT, a closed string is locked out as R194 says for TRIP. -/
def twaLockout (d : Dev) (i : Nat) : Dev :=
  let j := d.rd TW_POLL_STR i
  if d.fl TW_POLL_ACT i && strState d j == 3 then shelfCounts (strLockout d j d.curPm) else d

/-- A TW_PROTOCOL record. -/
def twaRec (d : Dev) : Dev := d.recd 0x0F00 0 14 []

/-- The transfer in progress is over. -/
def twaOver (d : Dev) : Dev := { d.wr TW_STATUS_TWA_BUSY 0 0 with tw := { d.tw with xfer := none } }

/-- A transfer fails (R376 to R378). -/
def twaFail (d : Dev) (i : Nat) : Dev :=
  let d := (twaOver d).ev TW_EVT_TWA_FAIL
  let d := { d with tw := { d.tw with check := true } }
  let d := d.inc TW_POLL_CFAIL i
  if d.rd1 TW_TWA_CFG_NFAIL ≤ d.rd TW_POLL_CFAIL i && !d.fl TW_POLL_FAILED i then
    twaLockout (twaRec ((d.wr TW_POLL_FAILED i 1).ev TW_EVT_PFAIL)) i
  else d

/-- A poll succeeds (R378): the result, the limits. -/
def twaOk (d : Dev) (i : Nat) (bytes : List Nat) : Dev :=
  let b := fit 8 (fit (d.rd TW_POLL_LEN i) bytes)
  let d := ((twaOver d).wr TW_PRES_LO i (leAt b 0 4)).wr TW_PRES_HI i (leAt b 4 4)
  let d := (d.wr TW_POLL_CFAIL i 0).wr TW_POLL_FAILED i 0
  if !d.fl TW_POLL_LIM_EN i then d
  else
    let num := fun (x : Nat) => if d.fl TW_POLL_SIGNED i then toS 16 x else (x : Int)
    let v := num (leAt b (d.rd TW_POLL_OFS i) 2)
    if v < num (d.rd TW_POLL_LO i) ∨ num (d.rd TW_POLL_HI i) < v then
      let was := d.fl TW_POLL_BREACH i
      let d := (d.wr TW_POLL_BREACH i 1).ev TW_EVT_BREACH
      if was then d else twaLockout d i
    else d.wr TW_POLL_BREACH i 0

/-- TWA_POLL_RESULT (R375, R376, R378): the transfer's end. -/
def twaResult (d : Dev) (r : TwaResult) : Dev :=
  match d.tw.xfer with
  | none => d
  | some x =>
    match r with
    | .ok bytes => twaOk d x.entry (natBytes bytes)
    | .nak => twaFail d x.entry
    | .arbLost =>
      let d := (d.inc TW_TWA_ARB).ev TW_EVT_ARBLOST
      if d.rd1 TW_TWA_CFG_NARB ≤ x.arb + 1 then twaFail d x.entry
      else twaSend { d with tw := { d.tw with xfer := some { x with arb := x.arb + 1 } } } x.entry

/-- TWA_PROTOCOL_ERROR (R376): one retry, then failure. -/
def twaProto (d : Dev) : Dev :=
  match d.tw.xfer with
  | none => d
  | some x =>
    let d := twaRec ((d.inc TW_TWA_ERR).ev TW_EVT_TWA_PROTO)
    if x.retried then twaFail d x.entry
    else twaSend { d with tw := { d.tw with xfer := some { x with retried := true } } } x.entry

/-- TWA_SCL_TIMEOUT (R376): the transfer fails, with a record. -/
def twaSclTimeout (d : Dev) : Dev :=
  match d.tw.xfer with
  | none => d
  | some x => twaRec (twaFail d x.entry)

/-- TWA_ALERT is due: TWA_ALERT_N may be answered, at most once per 10 ms (R379). -/
def twaAlertDue (d : Dev) : Bool :=
  twaIdle d && d.fl TW_CTRL_TWA_ARA
    && (match d.tw.araAt with
        | some t => decide (t + 10000 ≤ d.tb.now)
        | none => true)

/-- TWA_ALERT (R379): a read of 0x0C while TWA_ALERT_N is low, with the address of a target that answers; it is a transfer,
and the bus check that is due comes before it (R377). -/
def twaAlert (d : Dev) (answer : Option Nat) (sdaLow : Bool) : Dev :=
  if !twaAlertDue d then d
  else
    let d := twaCheck d sdaLow
    let d := { d with tw := { d.tw with araAt := some d.tb.now } }
    let d := d.emit (.twa 0x0C 0 1)
    match answer with
    | none => d
    | some a =>
      let d := ((d.wr TW_TALERT_ADDR 0 a).wr TW_TALERT_VALID 0 1).ev TW_EVT_TALERT
      let l := (List.range 16).filter (fun i => d.fl TW_POLL_EN i && d.rd TW_POLL_ADDR i == a)
      { d with tw := { d.tw with now := l } }

/-- A wake that a TWB address phase started is complete: TW_EVT.TWB_WAKE (R372). -/
def twbWoke (d : Dev) : Dev :=
  if d.tw.woke then { d.ev TW_EVT_TWB_WAKE with tw := { d.tw with woke := false } } else d

end Sys2Proof.Machine
end

