-- ==== Sys2Proof/Machine/Tick.lean ====
section
/-! DEFINITION. The five-phase work of a tick (R45 to R49), frame boundaries (R42), and how every other step finds its place
in a tick (R46, R47; log entry 78).

The work of a tick is done where a step first needs its outcome. Steps between two TICK_EDGE steps are inputs, commands or
expiries of the tick that the first of them began: inputs act on what phase A latches, a command first has the reports judged
(R185, R296), an expiry first has phase B done, and the next edge completes what is left. -/

namespace Sys2Proof.Machine
open R

/-! ### Phase A: what the tick latches -/

/-- The owners of a ring's channels take the samples and the open-fault reports of a frame (R158, R163, R166). -/
def chansReport (d : Dev) (r : Nat) : Dev :=
  forIx 32 (fun p d => match railOf d (r * 32 + p) with
    | some n => railReport (railSample d n (r * 32 + p)) n (r * 32 + p)
    | none => d) d

/-- One upstream frame of a ring (R68): its reports and answers are latched; the relay round acts on its answers. -/
def frameIn (s : Sys) (r : Nat) (f : UpFrame) : Sys :=
  if ringLatches s.dev r f.rx then relayService (s.on (fun d => chansReport (ringLatch d r f) r)) r else s

/-- A ring whose identification is over comes into service (R84): its rails take T_HOP (R151), or meet the split that it came
up in (R91). -/
def ringService (d : Dev) (r : Nat) : Dev :=
  let was := ringUp d r
  let d := identTick d r
  if !was && ringUp d r then
    let d := setThop d r
    if ringState d r = rgSplit then railSplit d r else d
  else d

/-- The frames that reached a ring after the reports of their tick had been judged (R46). -/
def lateFrames (s : Sys) (r : Nat) : Sys :=
  let l := (s.dev.rg r).late
  forL l (fun f s => frameIn s r f) (s.on (fun d => d.setRg r { d.rg r with late := [] }))

/-- The pins as phase A latches them (R45). -/
def latchPins (p : Pins) (d : Dev) : Dev :=
  let d := emergTick d (!p.emergN)
  let d := d.wr CP_GPIO_IN 0 (maskOf ((List.range 4).filter (fun k => pinMode d k == 2 && bitOf p.gpio.toNat k)))
  let d := bracePins (d.wr TH_DIE 0 p.tDie.toNat) p.auth.toNat
  let d := d.wr SP_VBUS_V 0 (min 4095 (rdiv (p.vbusSns.toNat * (d.rd SP_VSNS_DIV + 1) : Nat) 10).toNat)
  let d := d.wr PM_SUP_GOOD 0 p.supplies.toNat
  { d with pw := { d.pw with wakeIn := p.wakeIn, mrLow := !p.mrN } }

/-- Phase A of the tick that an edge has begun. -/
def phaseA (p : Pins) (s : Sys) : Sys :=
  forIx 8 (fun r s => lateFrames s r) (s.on (fun d =>
    let d : Dev := { d with tb := { d.tb with frameOpen := false } }
    tokApply (forIx 8 (fun r d => ringService d r) (syncOutTick (forceTick (latchPins p (syncLatched d)))))))

/-! ### Phases B to E -/

/-- The states that the reports, the conditions and the health of the channels leave, in the order feeders, shelf, rails
(R166, R185, R194). -/
def judgeAll (d : Dev) : Dev := forIx 16 (fun n d => railJudge d n) (shelfChecks (feederChecks (revalAll d)))

/-- The first part of phase B: rings that brought no frame are counted, the reports are judged, and the copies of the tick
are paired (R74, R185, R306). -/
def phaseReports (d : Dev) : Dev := pairArrived (judgeAll (forIx 8 (fun r d => ringTick d r) d))

/-- Phase B of the power functions, which the sill does not run (R38). The sequencer latches the target faults that were
raised since its last phase B (R229). -/
def phasePower (d : Dev) : Dev :=
  if d.sill then seqService d
  else
    let d := shelfPhaseB (busPhaseB (lossFast (shelfResume (busResume d))))
    let d := forIx 16 (fun n d => if railConf d n then railPhaseB d n else d) d
    govPhaseB (seqRequests (seqService (stepPendOn (fusesPhaseB (pendService (shedCleared d))))))

/-- Phase B of the functions: what was latched is processed, in the order bus, shelf, rails, fuses, sequencer, governor,
telemetry, service port. -/
def phaseB (d : Dev) : Dev :=
  let d := mpTick (telPhaseB (phasePower d))
  let d := spPhaseB d
  if d.pw.entry = 0 then forIx 2 (fun e d => fetchIssue d e) d else d

/-- The relay rounds (R359). -/
def relayRounds (s : Sys) : Sys :=
  if s.dev.fl GL_STATUS_MHALT then s
  else forIx 8 (fun r s => relayService (relayTick s r) r) s

/-- Phase C: counts of filters and timers (R45). -/
def phaseC (d : Dev) : Dev :=
  let d := if d.sill then d else supCounts (stepCounts (busPhaseC (feCounts d)))
  let d := thermPhaseC d
  if d.sill then d else idTick (shelfPhaseC d)

/-- Phase D and the functions that follow an evaluation (R112, R156 to R160, R212); the sill has no loop engine (R38). -/
def phaseDAll (d : Dev) : Dev :=
  if d.sill then d
  else fusesPhaseD (forIx 16 (fun n d => if railConf d n then railPhaseD d n else d) (phaseD d))

/-- Messages that the routes of IN_ROUTE name for causes of this tick (R439). -/
def routeTick (d : Dev) : Dev :=
  forIx 2 (fun e d =>
    if !d.fl HQ_STATUS_LINK e then d
    else forIx 23 (fun j d =>
      let v := bitsOf (d.rd IN_ROUTE (3 * e + j / 8)) (4 * (j % 8)) 4
      if 4 ≤ v ∧ bitOf d.rise (if j = 22 then 22 + e else j) then msiDue d e v else d) d) d

/-- Data-plane classes with an operation waiting: store writes, relay pieces, snapshot entries, host DMA (R270). -/
def paceWaiting (d : Dev) : Nat :=
  maskOf ((if d.rcd.queue.isEmpty && d.rcd.rewrites.isEmpty && d.up.refr.isNone then [] else [2])
    ++ (if (List.range 8).any (fun r => rlyState d r == 1) then [3] else [])
    ++ (if d.tm.entries.isEmpty then [] else [4])
    ++ (List.range 2).filter (fun e => (d.hep e).evq.any (fun x => decide (x.1 < d.cur))
      || d.host.copies.any (fun o => o.ctx.src == e && !o.sent)))

/-- The slow counts of a tick: lease, pauses, session, store age, trial (R270, R320, R343, R355, R405). -/
def slowCounts (d : Dev) : Dev := trialCount (ageCount (sessCount (paceCount (leaseCount d) (paceWaiting d))))

/-- Reports are fresh only in the tick that latched them. -/
def clearFresh (d : Dev) : Dev :=
  { d with ch := d.ch.map (fun (e : Nat × ChanSt) => (e.1, { e.2 with fresh := false })) }

/-- Sleep entry closes every open record (R414 step 2). -/
def closeOpens (d : Dev) : Dev :=
  if d.pw.entry = 1 then { d with rcd := forL d.rcd.opens (fun o r => closeRec r o false) d.rcd } else d

/-- The rises of this tick have been routed. -/
def clearRise (d : Dev) : Dev := { d with rise := 0 }

/-- What the tick leaves in the records and the outputs: health and removal records, the slow counts, the throttle outputs
and the service level (R107, R176, R247, R269). -/
def endTick (d : Dev) : Dev := clearFresh (closeOpens (levelApply (throtUpdate (slowCounts (dirRecords (busRecords d))))))

/-- What an endpoint writes to its host at the end of a tick: completions, events, the index mirror (R289, R298, R304). -/
def hostEnd (d : Dev) : Dev := forIx 2 (fun e d => moderate (mirrorWrite (copyIssue (eventFlush (cplFlush d e) e) e) e) e) d

/-! ### Phase E: the frames of the coming edge -/

/-- The standing command of a channel (R71, R106): SAFE while QUARANTINED or PENDING, NOP for an unused channel, otherwise
what the owner of its role says. -/
def stdCmd (d : Dev) (c : Nat) : Cmd :=
  let u := d.rd CD_ENT_UNIT c
  let h := health d c
  if h = 0 then {}
  else if h = 7 ∨ h = 1 then { opc := 2 }
  else match roleOf d c with
    | 3 => fuseStd d u
    | 4 => fuseStd d u
    | 5 => strStd d u
    | 6 => legStd d u
    | 7 => feederStd d u
    | _ => match railOf d c with
      | some n => railStd d n c
      | none => { opc := 2 }

/-- Phase E of the present tick: outputs are placed in the frames that open at the next edge (R45). -/
def phaseE (d : Dev) : Dev :=
  if d.sill then d
  else
    let d := forIx 16 (fun n d => if railConf d n then leadPick d n else d) d
    forIx 8 (fun r d => ringEmit stdCmd forceSub d r) d

/-- Phases D and E, and the end of the tick. -/
def phaseEnd (d : Dev) : Dev :=
  clearRise (routeTick (hostEnd (phaseE (shedService (endTick (shedService (phaseDAll d)))))))

/-! ### How far a tick has come -/

/-- The device runs, and the work of its present tick is open: no FRAME_BOUNDARY step has opened the next edge. -/
def Dev.open_ (d : Dev) : Bool := d.live && d.tb.run && !d.tb.frameOpen

/-- The work of the tick has come to a stage. -/
def Dev.atStage (d : Dev) (n : Nat) : Dev := { d with tb := { d.tb with stage := n } }

/-- The commands of the tick are due: its reports are judged and paired first, and then the queue of the dispatcher is handed
over (R28, R185, R296). -/
def toDispatch (s : Sys) : Sys :=
  if s.dev.open_ && s.dev.tb.stage == 0 then (dispatch (s.on (fun d => (phaseReports d).atStage 1))).on shedService else s

/-- The timers and filters of the tick are due: phase B is done, and phase C counts (R45, R47). -/
def toTimers (s : Sys) : Sys :=
  let s := toDispatch s
  if s.dev.open_ && s.dev.tb.stage == 1 then (relayRounds s).on (fun d => phaseC ((shedService (phaseB d)).atStage 2)) else s

/-- The tick is over: what it still has to do is done (R45). -/
def finishTick (s : Sys) : Sys :=
  let s := toTimers s
  if s.dev.open_ && s.dev.tb.stage == 2 then s.on (fun d => phaseEnd (d.atStage 3)) else s

/-! ### The edge and the boundaries -/

/-- A tick edge: the counters and the postmark advance (R41, R42, R53). -/
def openEdge (frame : Bool) (d : Dev) : Dev := if frame then tbFrameOpen (tbEdge d) else tbFramePos (tbEdge d)

/-- A tick boundary that is no frame boundary. -/
def tickBoundary (d : Dev) : Dev := feclrApply (boundaryApply (openEdge false d) false)

/-- The frame-boundary work of the functions, in the order configuration, rings, shelf, governor, telemetry, planner,
recorder, sleep. -/
def frameWork (d : Dev) : Dev :=
  let d := boundaryApply (feclrApply (syncModeApply (modeFrame d))) true
  let d := forIx 256 (fun c d => reidentExec d c) d
  let d := forIx 8 (fun r d => trainStart d r) d
  let d := snapFrame (if d.sill then d else govFrame (shelfFrame d))
  let d := if d.fl GL_STATUS_MHALT then d else mpFrame d
  sleepFrame (recFrame d)

/-- The postmark checkpoint at every thousandth frame (R55). -/
def checkpoint (s : Sys) : Sys := if s.dev.rd TB_FRAME_NUM % 1000 = 0 then ckWrite s else s

/-- What a frame boundary does once its edge is open (R22, R23); a host-command reset that waits for it begins here
(R408). -/
def frameDuties (s : Sys) : Sys :=
  let s := checkpoint (commitApply s)
  s.on (fun d => if d.pw.rstReq then devReset d 3 else shedService (frameWork d))

/-- A frame boundary (R42). -/
def frameEdge (s : Sys) : Sys := frameDuties (s.on (openEdge true))

/-- What left the device in the tick that ends is done with. -/
def clearOut (d : Dev) : Dev := { d with out := [] }

/-- TICK_EDGE: the tick in hand is completed, and its successor begins with the edge, the boundary, and phase A. A
FRAME_BOUNDARY step may have opened the edge already. -/
def tickEdge (p : Pins) (s : Sys) : Sys :=
  if !s.dev.live || !s.dev.tb.run then s
  else
    let s := if s.dev.tb.frameOpen then s
      else
        let s := finishTick (s.on clearOut)
        if s.dev.rd TB_FRAME_POS = 999 then frameEdge s else s.on tickBoundary
    if s.dev.live then phaseA p s else s

/-- The edge of the coming tick is open. -/
def openFrame (d : Dev) : Dev := if d.live then { d with tb := { d.tb with frameOpen := true } } else d

/-- FRAME_BOUNDARY: where the frame position is 999 and the edge not yet open, the tick in hand is completed and the edge
opens with its frame-boundary work. -/
def frameBoundary (s : Sys) : Sys :=
  if s.dev.open_ && s.dev.rd TB_FRAME_POS == 999 then (frameEdge (finishTick (s.on clearOut))).on openFrame else s

/-! ### The other steps -/

/-- An input that the tick latches: nothing acts while a reset is in force or the device is asleep. A shed that it raises is
acted on within it (R203); a target fault waits for phase B (R229). -/
def latched (f : Dev → Dev) (s : Sys) : Sys := if s.dev.live then s.on (fun d => shedService (f d)) else s

/-- An input that reaches a memory. -/
def latchedS (f : Sys → Sys) (s : Sys) : Sys := if s.dev.live then (f s).on shedService else s

/-- Something latched earlier that waits for its own step is taken; with nothing waiting, nothing happens. -/
def takes (has : Dev → Bool) (f : Dev → Dev) (s : Sys) : Sys := latched (fun d => if has d then f d else d) s

/-- The same for a step that reaches a memory. -/
def takesS (has : Dev → Bool) (f : Sys → Sys) (s : Sys) : Sys := latchedS (fun s => if has s.dev then f s else s) s

/-- A step of phase B, where it is due once the reports of the tick are judged. -/
def judged (due : Dev → Bool) (f : Dev → Dev) (s : Sys) : Sys :=
  if s.dev.tb.frameOpen then s else takes due f (toDispatch s)

/-- The expiry of a timer or filter, where it is due once phase B is over (R47); phase B of the next tick latches a target
fault that it raises (R229). -/
def timed (due : Dev → Bool) (f : Dev → Dev) (s : Sys) : Sys :=
  if s.dev.tb.frameOpen then s else takes due f (toTimers s)

/-- The same where it reaches a memory. -/
def timedS (due : Dev → Bool) (f : Sys → Sys) (s : Sys) : Sys :=
  if s.dev.tb.frameOpen then s else takesS due f (toTimers s)

/-- A command of the tick joins the queue of the dispatcher. -/
def dispatchAdd (x : DispItem) (d : Dev) : Dev := { d with host := { d.host with dq := dispIns d.host.dq x } }

/-- A command that the dispatcher hands over: at once where its turn in this tick has come, otherwise from its queue
(R28). -/
def handed (x : Dev → DispItem) (f : Sys → Sys) (s : Sys) : Sys :=
  if !s.dev.live then s
  else if s.dev.tb.frameOpen then s.on (fun d => dispatchAdd (x d) d)
  else
    let s := toDispatch s
    if s.dev.live && (dispNext s.dev).isNone && decide (s.dev.tb.handed < 32) then (f (s.on handOver)).on shedService
    else s.on (fun d => dispatchAdd (x d) d)

end Sys2Proof.Machine
end

