-- ==== Sys2Proof/Machine/Command.lean ====
section
/-! DEFINITION. What the commands share: how one acts on the state, the write of a command word, and the steps that join
several units. -/

namespace Sys2Proof.Machine
open R

/-- A command that acts on the device alone: both memories and the queue stay. -/
def devRow (f : Dev → Dev) (s : State) : Host.Outcome State Fault Refusal :=
  .next { s with sys := s.sys.on f }

/-- A command that may reach a memory: the queue stays. -/
def sysRow (f : Sys → Sys) (s : State) : Host.Outcome State Fault Refusal :=
  .next { s with sys := f s.sys }

/-! ### Commands of the dispatcher (R28) -/

/-- A host command as its path sends it (R290, R293), with what the store meets where it writes a piece. -/
def hostItem (op : Nat) (h : Sender) (args : List (Nat × List Nat)) (k : StoreCase) (d : Dev) : DispItem :=
  { bytes := descOf op h args, ctxs := [ctxOf d h], tick := d.cur, rank := 2 * accIx h.path, store := k }

/-- A host command: the dispatcher hands it over, and it acts. -/
def hostCmd (op : Nat) (h : Sender) (args : List (Nat × List Nat)) (mk : Sys → List Nat → List HCtx → HCmd) (s : Sys) : Sys :=
  handed (hostItem op h args .fine) (fun s => hostDirect s op h args mk) s

/-- A command bit as its accessor writes it. -/
def wordItem (a : Accessor) (ofs v : Nat) (d : Dev) : DispItem :=
  { reg := some (accIx a, ofs, v), tick := d.cur, rank := 2 * accIx a + 1 }

/-- A command bit written by an accessor: the dispatcher hands it over (R426), or the write raises a bus error (R15, R423).
The service port writes no register (R421). -/
def wordCmd (a : Accessor) (ofs v : Nat) (f : Dev → Dev) (s : Sys) : Sys :=
  if 3 ≤ accIx a then s
  else
    let k := writeKind s.dev (accIx a) ofs v
    if k = 0 then handed (wordItem a ofs v) (fun s => s.on f) s else latched (fun d => busError d (accIx a) ofs k true v) s

/-! ### Register accesses -/

/-- An access that is not one whole 32-bit word is a bus error (R15, R423). -/
def accWrite (acc : Nat) (whole : Bool) (ofs v : Nat) (d : Dev) : Dev :=
  if whole then regWrite acc ofs v d
  else if 3 ≤ acc then d
  else busError d acc ofs 1 true v

/-- A read that is not one whole 32-bit word is a bus error (R15, R423). -/
def accRead (s : Sys) (acc ofs : Nat) (whole : Bool) : Sys :=
  if whole then regRead s acc ofs else s.on (fun d => busError d acc ofs 1 false 0)

/-! ### Rings -/

/-- What the probe tokens of every position bring back, as numbers: the round trips from both ends, the turnaround and the
difference of delays (R85). -/
def probesOf (fwd rev : List (List (BitVec 32))) (own : List OwnDelay) : List (List Nat × List Nat × Nat × Nat) :=
  (List.range 32).map (fun p =>
    let o := own.getD p ⟨0, 0⟩
    ((fwd.getD p []).map BitVec.toNat, (rev.getD p []).map BitVec.toNat, o.turn.toNat, o.diff.toNat))

/-- UPSTREAM_FRAME: a frame of a ring is latched in the tick; one that comes after the reports of the tick have been judged
waits for the next tick (R46). -/
def upstream (s : Sys) (r : Nat) (f : UpFrame) : Sys :=
  if s.dev.tb.stage = 0 then frameIn s r f
  else s.on (fun d => d.setRg r { d.rg r with late := (d.rg r).late ++ [f] })

/-- NOT_REPORTING: the condition, and what the channel's owner makes of it (R74, R92, R166). -/
def notReporting (d : Dev) (c : Nat) : Dev := judgeAll (setCond d CD_ENT_COND_NOREP c true)

/-- An answer of a channel's stage: the relay round of its ring acts on it. -/
def chanAnswer (s : Sys) (c : Nat) (d : Dev) : Sys := relayService { s with dev := d } (c / 32)

/-! ### The loop engine -/

/-- The shed request of FE_ACT 2, by the function that owns the index (R467), with the postmark behind it. A feeder that
another cause has removed in this tick records both causes (R176). -/
def followShed (d : Dev) (idx pm : Nat) : Dev :=
  if idx < 0x800 then (if idx % 0x80 < 2 then railFault d (idx / 0x80) else d)
  else if idx < 0x810 then
    let i := idx - 0x800
    if fmState d i = fmRamp ∨ fmState d i = fmShare ∨ (d.fm i).rem.isSome then feederRemove d i 5 32 pm else d
  else if idx = 0x810 then busFault d
  else if idx < 0x920 then d
  else if idx < 0xA00 then legOut d (idx - 0x920) pm
  else if idx < 0xA40 then spTrip d (fuFollow d (idx - 0xA00))
  else d

/-- The sequencer target that owns a function input (R227): kind and number; kind 0 where no step's target does. -/
def inputTarget (d : Dev) (idx : Nat) : Nat × Nat :=
  if idx < 0x800 then (1, idx / 0x80)
  else if idx < 0x900 then (4, 0)
  else if idx < 0xA00 then (5, 0)
  else
    let f := idx - 0xA00
    if (stepOf d 2 f).isSome then (2, f)
    else if fuInfg d f then (3, fuFg d f)
    else (0, 0)

/-- LOOP_FOLLOW_ERR: the fault action and its further effect (R133, R227, R467). A slot without a function input is owned by
no step. -/
def followErr (d : Dev) (s : Nat) : Dev :=
  let o := d.rd LS_OUTSEL s
  let pm := slotPm d s
  let d := faultAction d s pm
  match d.rd LS_FE_ACT s with
  | 2 => if o / 8192 = 1 then followShed d (o % 8192) pm else d
  | 3 =>
    let (kind, num) := if o / 8192 = 1 then inputTarget d (o % 8192) else (0, 0)
    d.tfault kind num 3
  | _ => d

/-- TICK_OVERRUN: phase D of the tick stops before a slot that it schedules; FAULT_N and an engine fault (R138). -/
def tickOverrun (d : Dev) (s : Nat) : Dev :=
  if d.fl LS_EN s && scheduled d s (schedPos d) then faultSrc (overrun d s) 4 true else d

/-! ### MR_N and TWB, which the always-on domain serves -/

/-- MR_SHORT: a press released after 50 ms to 4 s and before FORCET (R238). -/
def mrPressed (d : Dev) (ms : Nat) : Dev :=
  if 50 ≤ ms ∧ ms ≤ 4000 ∧ ms < forcet d * 1000 ∧ !d.fl SQ_STATUS_FORCE then mrShort d else d

/-- MR_LONG: a press released after more than 4 s and before FORCET (R238). -/
def mrHeld (d : Dev) (ms : Nat) : Dev :=
  if 4000 < ms ∧ ms < forcet d * 1000 ∧ !d.fl SQ_STATUS_FORCE then mrLong d else d

/-- MR_FORCEOFF: the always-on domain sets FORCE; where the control plane does not run, its first tick acts on it (R239). -/
def mrForced (s : Sys) : Sys :=
  if s.dev.fl SQ_STATUS_FORCE then s
  else if s.dev.live then latched mrForceoff s
  else s.on (fun d => { d.wr SQ_STATUS_FORCE 0 1 with pw := { d.pw with forcePend := true } })

/-- A TWB address phase reaches the port also while the device sleeps (R372). -/
def twbPhase (s : Sys) (addr : Nat) (read : Bool) (part : Nat) (mainGood : Bool) (aclk : Nat) : Sys :=
  if s.dev.live then latchedS (fun s => twbAddress s addr read part mainGood aclk) s
  else twbAddress s addr read part mainGood aclk

end Sys2Proof.Machine
end

