-- ==== Sys2Proof/Machine/RowBus.lean ====
section
/-! DEFINITION. The commands of the feeders, the bus and the battery shelf (R169 to R206). -/

namespace Sys2Proof.Machine
open R

/-- READY_TIMEOUT (R178), of feeder `i`. -/
def execReadyTimeout (i : Fin 8) (st : State) : Host.Outcome State Fault Refusal :=
  sysRow (timed (fun d => readyDue d i.val) (fun d => feederRemove d i.val 7 128 d.curPm)) st

/-- HVOK_RETURN (R176), of feeder `i`. -/
def execHvokReturn (i : Fin 8) (st : State) : Host.Outcome State Fault Refusal :=
  sysRow (timed (fun d => hvokDue d i.val) (fun d => feederReturn d i.val)) st

/-- FEEDER_RUN_RESEND (R178), of feeder `i`. -/
def execFeederRunResend (i : Fin 8) (st : State) : Host.Outcome State Fault Refusal :=
  sysRow (timed (fun d => feederRunDue d i.val) (fun d => feederRunResend d i.val)) st

/-- SENSE_CLEAR_RETURN (R179), of feeder `i`. -/
def execSenseClearReturn (i : Fin 8) (st : State) : Host.Outcome State Fault Refusal :=
  sysRow (timed (fun d => senseClearDue d i.val) (fun d => senseClear d i.val)) st

/-- BUS_WINDOW (R182), of threshold `w`: UVW, OVW, UVF, OVF. -/
def execBusWindow (w : Fin 4) (st : State) : Host.Outcome State Fault Refusal :=
  sysRow (timed (fun d => winDue d w.val) (fun d => busWindow d w.val)) st

/-- BUS_CAPACITY (R184). -/
def execBusCapacity (st : State) : Host.Outcome State Fault Refusal :=
  sysRow (timed (fun d => busCapDue d) (fun d => throtUpdate (busCapacity d))) st

/-- BUS_CAPACITY_END (R184). -/
def execBusCapacityEnd (st : State) : Host.Outcome State Fault Refusal :=
  sysRow (timed (fun d => busCapEndDue d) (fun d => throtUpdate (busCapEnd d))) st

/-- FD_CMD_REMOVE (R177), by an accessor, of feeder `i`. -/
def execFdCmdRemove (a : Accessor) (i : Fin 8) (st : State) : Host.Outcome State Fault Refusal :=
  sysRow (wordCmd a (0x8824) (8 + i.val) (fun d => (feederHostRemove d i.val).2)) st

/-- FD_CMD_READMIT (R176), by an accessor, of feeder `i`. -/
def execFdCmdReadmit (a : Accessor) (i : Fin 8) (st : State) : Host.Outcome State Fault Refusal :=
  sysRow (wordCmd a (0x8824) (16 + i.val) (fun d => feederReadmit d i.val)) st

/-- SLOW_LOSS (R196). -/
def execSlowLoss (st : State) : Host.Outcome State Fault Refusal :=
  sysRow (judged (fun d => slowLossDue d) (fun d => slowLoss d)) st

/-- HOLDUP_TAKEN (R199). -/
def execHoldupTaken (st : State) : Host.Outcome State Fault Refusal :=
  sysRow (judged (fun d => takenDue d) (fun d => holdupCap (holdupTaken d))) st

/-- EMERG_ASSERT (R197). -/
def execEmergAssert (st : State) : Host.Outcome State Fault Refusal :=
  sysRow (judged (fun d => emergDue d) (fun d => emergAssert d)) st

/-- EMERG_CLEAR (R197). -/
def execEmergClear (st : State) : Host.Outcome State Fault Refusal :=
  sysRow (judged (fun d => emergClearDue d) (fun d => emergClear d)) st

/-- HANDBACK_START (R204). -/
def execHandbackStart (st : State) : Host.Outcome State Fault Refusal :=
  sysRow (timed (fun d => hbDue d) (fun d => handbackStart d)) st

/-- STRING_CLOSE_TIMEOUT (R193), of string `j`. -/
def execStringCloseTimeout (j : Fin 8) (st : State) : Host.Outcome State Fault Refusal :=
  sysRow (timed (fun d => strCloseDue d j.val) (fun d => strCloseTimeout d j.val)) st

/-- STRING_OFF_TIMEOUT (R191), of string `j`. -/
def execStringOffTimeout (j : Fin 8) (st : State) : Host.Outcome State Fault Refusal :=
  sysRow (timed (fun d => strOffDue d j.val) (fun d => strOffTimeout d j.val)) st

/-- BS_CMD_OPEN (R194), by an accessor, of string `j`. -/
def execBsCmdOpen (a : Accessor) (j : Fin 8) (st : State) : Host.Outcome State Fault Refusal :=
  sysRow (wordCmd a (0x8C2C) (8 + j.val) (fun d => strCmdOpen d j.val)) st

/-- BS_CMD_CLOSE (R194), by an accessor, of string `j`. -/
def execBsCmdClose (a : Accessor) (j : Fin 8) (st : State) : Host.Outcome State Fault Refusal :=
  sysRow (wordCmd a (0x8C2C) (16 + j.val) (fun d => strCmdClose d j.val)) st

end Sys2Proof.Machine
end

