-- ==== Sys2Proof/Machine/RowCmd.lean ====
section
/-! DEFINITION. The host commands (R290 to R293), each as its sender sends it. -/

namespace Sys2Proof.Machine
open R

/-- NOP (R291). -/
def execNop (h : Sender) (st : State) : Host.Outcome State Fault Refusal :=
  sysRow (hostCmd 0x0001 h [] hcNop) st

/-- QUERY_REG (R291). -/
def execQueryReg (h : Sender) (ofs : BitVec 16) (cnt : Byte) (st : State) : Host.Outcome State Fault Refusal :=
  sysRow (hostCmd 0x0002 h [(16, le 2 ofs.toNat ++ [cnt.toNat])] hcQueryReg) st

/-- QUERY_CHAN (R291). -/
def execQueryChan (h : Sender) (c : Byte) (st : State) : Host.Outcome State Fault Refusal :=
  sysRow (hostCmd 0x0003 h [(16, [c.toNat])] hcQueryChan) st

/-- PH_COPY (R291). -/
def execPhCopy (h : Sender) (hole dir : Byte) (len : BitVec 16) (addr : Word64) (st : State) : Host.Outcome State Fault Refusal :=
  sysRow (hostCmd 0x0004 h [(16, [hole.toNat, dir.toNat] ++ le 2 len.toNat), (24, le 8 addr.toNat)] hcPhCopy) st

/-- CFG_LOAD (R347). -/
def execCfgLoad (h : Sender) (hole : Byte) (ofs : Word) (len : BitVec 16) (st : State) : Host.Outcome State Fault Refusal :=
  sysRow (hostCmd 0x0010 h [(16, [hole.toNat]), (20, le 4 ofs.toNat ++ le 2 len.toNat)] hcCfgLoad) st

/-- CFG_COMMIT (R347). -/
def execCfgCommit (h : Sender) (len : Word) (st : State) : Host.Outcome State Fault Refusal :=
  sysRow (hostCmd 0x0011 h [(20, le 4 len.toNat)] hcCfgCommit) st

/-- RAIL_VSET (R291). -/
def execRailVset (h : Sender) (n : Byte) (v : Word) (st : State) : Host.Outcome State Fault Refusal :=
  sysRow (hostCmd 0x0100 h [(16, [n.toNat]), (20, le 4 v.toNat)] hcRailVset) st

/-- RAIL_ON (R291). -/
def execRailOn (h : Sender) (n : Byte) (st : State) : Host.Outcome State Fault Refusal :=
  sysRow (hostCmd 0x0101 h [(16, [n.toNat])] hcRailOn) st

/-- RAIL_OFF (R236). -/
def execRailOff (h : Sender) (n : Byte) (st : State) : Host.Outcome State Fault Refusal :=
  sysRow (hostCmd 0x0102 h [(16, [n.toNat])] hcRailOff) st

/-- FUSE_ON (R291). -/
def execFuseOn (h : Sender) (f : Byte) (st : State) : Host.Outcome State Fault Refusal :=
  sysRow (hostCmd 0x0110 h [(16, [f.toNat])] hcFuseOn) st

/-- FUSE_OFF (R291). -/
def execFuseOff (h : Sender) (f : Byte) (st : State) : Host.Outcome State Fault Refusal :=
  sysRow (hostCmd 0x0111 h [(16, [f.toNat])] hcFuseOff) st

/-- FUSE_RESET (R291). -/
def execFuseReset (h : Sender) (f : Byte) (st : State) : Host.Outcome State Fault Refusal :=
  sysRow (hostCmd 0x0112 h [(16, [f.toNat])] hcFuseReset) st

/-- FG_ON (R220). -/
def execFgOn (h : Sender) (n : Byte) (st : State) : Host.Outcome State Fault Refusal :=
  sysRow (hostCmd 0x0118 h [(16, [n.toNat])] hcFgOn) st

/-- FG_OFF (R220). -/
def execFgOff (h : Sender) (n : Byte) (st : State) : Host.Outcome State Fault Refusal :=
  sysRow (hostCmd 0x0119 h [(16, [n.toNat])] hcFgOff) st

/-- FG_XFER (R221). -/
def execFgXfer (h : Sender) (n : Byte) (st : State) : Host.Outcome State Fault Refusal :=
  sysRow (hostCmd 0x011A h [(16, [n.toNat])] hcFgXfer) st

/-- BUS_VSET (R173). -/
def execBusVset (h : Sender) (v : BitVec 16) (st : State) : Host.Outcome State Fault Refusal :=
  sysRow (hostCmd 0x0120 h [(16, le 2 v.toNat)] hcBusVset) st

/-- FEEDER_REMOVE (R177). -/
def execFeederRemove (h : Sender) (i : Byte) (st : State) : Host.Outcome State Fault Refusal :=
  sysRow (hostCmd 0x0121 h [(16, [i.toNat])] hcFeederRemove) st

/-- FEEDER_READMIT (R176). -/
def execFeederReadmit (h : Sender) (i : Byte) (st : State) : Host.Outcome State Fault Refusal :=
  sysRow (hostCmd 0x0122 h [(16, [i.toNat])] hcFeederReadmit) st

/-- CAP_SET (R291). -/
def execCapSet (h : Sender) (kind n : Byte) (w : BitVec 16) (st : State) : Host.Outcome State Fault Refusal :=
  sysRow (hostCmd 0x0130 h [(16, [kind.toNat, n.toNat] ++ le 2 w.toNat)] hcCapSet) st

/-- THROT_SET (R247). -/
def execThrotSet (h : Sender) (k on : Byte) (st : State) : Host.Outcome State Fault Refusal :=
  sysRow (hostCmd 0x0131 h [(16, [k.toNat, on.toNat])] hcThrotSet) st

/-- SEQ_ON (R235). -/
def execSeqOn (h : Sender) (st : State) : Host.Outcome State Fault Refusal :=
  sysRow (hostCmd 0x0140 h [] hcSeqOn) st

/-- SEQ_OFF (R235). -/
def execSeqOff (h : Sender) (st : State) : Host.Outcome State Fault Refusal :=
  sysRow (hostCmd 0x0141 h [] hcSeqOff) st

/-- SEQ_STEPON (R236). -/
def execSeqStepon (h : Sender) (t : Byte) (st : State) : Host.Outcome State Fault Refusal :=
  sysRow (hostCmd 0x0142 h [(16, [t.toNat])] hcSeqStepon) st

/-- SEQ_STEPOFF (R236). -/
def execSeqStepoff (h : Sender) (t : Byte) (st : State) : Host.Outcome State Fault Refusal :=
  sysRow (hostCmd 0x0143 h [(16, [t.toNat])] hcSeqStepoff) st

/-- SEQ_CLRFLT (R240). -/
def execSeqClrflt (h : Sender) (st : State) : Host.Outcome State Fault Refusal :=
  sysRow (hostCmd 0x0144 h [] hcSeqClrflt) st

/-- LOOP_SETPT (R126). -/
def execLoopSetpt (h : Sender) (t : Byte) (v : Word) (st : State) : Host.Outcome State Fault Refusal :=
  sysRow (hostCmd 0x0150 h [(16, [t.toNat]), (20, le 4 v.toNat)] hcLoopSetpt) st

/-- LOOP_MODE (R131). -/
def execLoopMode (h : Sender) (t mode : Byte) (st : State) : Host.Outcome State Fault Refusal :=
  sysRow (hostCmd 0x0151 h [(16, [t.toNat, mode.toNat])] hcLoopMode) st

/-- LOOP_MANOUT (R128). -/
def execLoopManout (h : Sender) (t : Byte) (v : Word) (st : State) : Host.Outcome State Fault Refusal :=
  sysRow (hostCmd 0x0152 h [(16, [t.toNat]), (20, le 4 v.toNat)] hcLoopManout) st

/-- CHAN_REIDENT (R109). -/
def execChanReident (h : Sender) (c : Byte) (st : State) : Host.Outcome State Fault Refusal :=
  sysRow (hostCmd 0x0160 h [(16, [c.toNat])] hcChanReident) st

/-- RING_RESET (R84). -/
def execRingReset (h : Sender) (r : Byte) (st : State) : Host.Outcome State Fault Refusal :=
  sysRow (hostCmd 0x0161 h [(16, [r.toNat])] hcRingReset) st

/-- PLAN_APPROVE (R280). -/
def execPlanApprove (h : Sender) (num : Word) (st : State) : Host.Outcome State Fault Refusal :=
  sysRow (hostCmd 0x0170 h [(16, le 4 num.toNat)] hcPlanApprove) st

/-- PLAN_REJECT (R280). -/
def execPlanReject (h : Sender) (num : Word) (st : State) : Host.Outcome State Fault Refusal :=
  sysRow (hostCmd 0x0171 h [(16, le 4 num.toNat)] hcPlanReject) st

/-- EV_READ (R337). -/
def execEvRead (h : Sender) (hole region cnt : Byte) (start : Word) (st : State) : Host.Outcome State Fault Refusal :=
  sysRow (hostCmd 0x0180 h [(16, [hole.toNat, region.toNat, cnt.toNat]), (20, le 4 start.toNat)] hcEvRead) st

/-- EV_NOTE (R336). -/
def execEvNote (h : Sender) (code : BitVec 16) (pay : List Byte) (st : State) : Host.Outcome State Fault Refusal :=
  sysRow (hostCmd 0x0181 h [(16, le 2 code.toNat), (24, fit 40 (natBytes pay))] hcEvNote) st

/-- EV_CLEAR (R334). -/
def execEvClear (h : Sender) (hole scope : Byte) (st : State) : Host.Outcome State Fault Refusal :=
  sysRow (hostCmd 0x0182 h [(16, [hole.toNat, scope.toNat])] hcEvClear) st

/-- UPD_BEGIN (R352). -/
def execUpdBegin (h : Sender) (size : Word) (digest : List Byte) (st : State) : Host.Outcome State Fault Refusal :=
  sysRow (hostCmd 0x0190 h [(16, le 4 size.toNat ++ fit 32 (natBytes digest))] hcUpdBegin) st

/-- The arguments of UPD_PIECE (R352). -/
def updPieceArgs (hole : Byte) (piece : Word) : List (Nat × List Nat) := [(16, [hole.toNat]), (20, le 4 piece.toNat)]

/-- UPD_PIECE (R352), and what the store meets. -/
def execUpdPiece (h : Sender) (hole : Byte) (piece : Word) (k : StoreCase) (st : State) : Host.Outcome State Fault Refusal :=
  sysRow (handed (hostItem 0x0191 h (updPieceArgs hole piece) k) (fun s => hostDirect s 0x0191 h (updPieceArgs hole piece) (fun _ b cs => hcUpdPiece k b cs))) st

/-- UPD_ACTIVATE (R352). -/
def execUpdActivate (h : Sender) (st : State) : Host.Outcome State Fault Refusal :=
  sysRow (hostCmd 0x0192 h [] hcUpdActivate) st

/-- UPD_STAGES (R358). -/
def execUpdStages (h : Sender) (r : Byte) (st : State) : Host.Outcome State Fault Refusal :=
  sysRow (hostCmd 0x0193 h [(16, [r.toNat])] hcUpdStages) st

/-- UPD_ABORT (R352). -/
def execUpdAbort (h : Sender) (st : State) : Host.Outcome State Fault Refusal :=
  sysRow (hostCmd 0x0194 h [] hcUpdAbort) st

/-- AU_MODE (R321). -/
def execAuMode (h : Sender) (mode : Byte) (st : State) : Host.Outcome State Fault Refusal :=
  sysRow (hostCmd 0x01A0 h [(16, [mode.toNat])] hcAuMode) st

/-- DEV_RESET (R408). -/
def execDevReset (h : Sender) (st : State) : Host.Outcome State Fault Refusal :=
  sysRow (hostCmd 0x01B0 h [] hcDevReset) st

/-- DEV_SLEEP (R413). -/
def execDevSleep (h : Sender) (st : State) : Host.Outcome State Fault Refusal :=
  sysRow (hostCmd 0x01B1 h [] hcDevSleep) st

end Sys2Proof.Machine
end

