-- ==== Sys2Proof/Machine/RowData.lean ====
section
/-! DEFINITION. The commands of the governor, telemetry, thermal monitor and margin planner (R244 to R284). -/

namespace Sys2Proof.Machine
open R

/-- CAP_RELEASE (R246), of cap `k`: 0 hub, 1 to 16 rails, 17 to 32 feed groups. -/
def execCapRelease (k : Fin 33) (st : State) : Host.Outcome State Fault Refusal :=
  sysRow (timed (fun d => capReleaseDue d k.val) (fun d => capRelease d k.val)) st

/-- AVG_WINDOW (R257), of channel `c`. -/
def execAvgWindow (c : Fin 256) (st : State) : Host.Outcome State Fault Refusal :=
  sysRow (timed (fun d => avgDue d c.val) (fun d => avgWindow d c.val)) st

/-- SNAPSHOT_ENTRY_WRITE (R264). -/
def execSnapshotEntryWrite (st : State) : Host.Outcome State Fault Refusal :=
  sysRow (timed (fun d => !d.tm.entries.isEmpty && paceReady d 4) (fun d => snapWrite d)) st

/-- TM_PK_READ (R258), by an accessor, of hold `q` in the order of the registers. -/
def execTmPkRead (a : Accessor) (q : Fin 8) (st : State) : Host.Outcome State Fault Refusal :=
  sysRow (latchedS (fun s => regRead s (accIx a) (0xA040 + 4 * q.val))) st

/-- TM_CHSTAT_READ (R265), by an accessor. -/
def execTmChstatRead (a : Accessor) (st : State) : Host.Outcome State Fault Refusal :=
  sysRow (latchedS (fun s => regRead s (accIx a) 0xA02C)) st

/-- THERM_DIE (R268), at TWARN or TCRIT. -/
def execThermDie (crit : Bool) (st : State) : Host.Outcome State Fault Refusal :=
  sysRow (timed (fun d => dieDue d crit) (fun d => dieAct d crit)) st

/-- THERM_DIE_CLEAR (R268), of HOT or CRIT. -/
def execThermDieClear (crit : Bool) (st : State) : Host.Outcome State Fault Refusal :=
  sysRow (judged (fun d => dieClearDue d crit) (fun d => dieClear d crit)) st

/-- THERM_LEVEL (R269). -/
def execThermLevel (st : State) : Host.Outcome State Fault Refusal :=
  sysRow (timed (fun d => d.th.lvlDue) (fun d => levelSet d)) st

/-- THERM_RATE (R272), for limit `j`. -/
def execThermRate (j : Fin 8) (st : State) : Host.Outcome State Fault Refusal :=
  sysRow (timed (fun d => !(rateOver d j.val).isEmpty) (fun d => rateAct d j.val)) st

/-- THERM_STAGE (R273), of channel `c`, at its warning or fault temperature. -/
def execThermStage (c : Fin 256) (flt : Bool) (st : State) : Host.Outcome State Fault Refusal :=
  sysRow (timed (fun d => stageDue d c.val flt) (fun d => stageAct d c.val flt)) st

/-- PACED_OPERATION_START (R270), of class `k`: PA, PB, store writes, relay pieces, snapshot entries. -/
def execPacedOperationStart (k : Fin 5) (st : State) : Host.Outcome State Fault Refusal :=
  sysRow (timed (fun d => paceReady d k.val) (fun d => paceStart d k.val)) st

/-- PLAN_PERIOD_END (R279). -/
def execPlanPeriodEnd (st : State) : Host.Outcome State Fault Refusal :=
  sysRow (timed (fun d => periodDue d) (fun d => periodEnd d)) st

/-- PLANNER_WRITE (R282). -/
def execPlannerWrite (st : State) : Host.Outcome State Fault Refusal :=
  sysRow (timed (fun d => planWriteDue d) (fun d => planWrite d)) st

/-- PLAN_EXPIRED (R280). -/
def execPlanExpired (st : State) : Host.Outcome State Fault Refusal :=
  sysRow (timed (fun d => advDue d) (fun d => planExpire d)) st

/-- MP_CMD_APPROVE (R280), by an accessor. -/
def execMpCmdApprove (a : Accessor) (st : State) : Host.Outcome State Fault Refusal :=
  sysRow (wordCmd a (0xAC10) (1) (fun d => (planApprove d (d.rd MP_APPRNUM)).2)) st

/-- MP_CMD_REJECT (R280), by an accessor. -/
def execMpCmdReject (a : Accessor) (st : State) : Host.Outcome State Fault Refusal :=
  sysRow (wordCmd a (0xAC10) (2) (fun d => (planReject d (d.rd MP_APPRNUM)).2)) st

/-- MP_CMD_RUNNOW (R284), by an accessor. -/
def execMpCmdRunnow (a : Accessor) (st : State) : Host.Outcome State Fault Refusal :=
  sysRow (wordCmd a (0xAC10) (4) (fun d => mpRunNow d)) st

/-- MP_CMD_REBASE (R278), by an accessor. -/
def execMpCmdRebase (a : Accessor) (st : State) : Host.Outcome State Fault Refusal :=
  sysRow (wordCmd a (0xAC10) (8) (fun d => mpRebase d)) st

/-- ID_CHIP (R276). -/
def execIdChip (st : State) : Host.Outcome State Fault Refusal :=
  sysRow (timed (fun d => chipDue d) (fun d => idChip d)) st

/-- ID_RESUME (R277). -/
def execIdResume (st : State) : Host.Outcome State Fault Refusal :=
  sysRow (timed (fun d => resumeDue d) (fun d => idResume d)) st

/-- MEASUREMENT_BLOCK (R275), the oldest block received on ring `r`. -/
def execMeasurementBlock (r : Fin 8) (st : State) : Host.Outcome State Fault Refusal :=
  sysRow (takes (fun d => !(d.rg r.val).meas.isEmpty) (fun d => measBlock d r.val)) st

end Sys2Proof.Machine
end

