-- ==== Sys2Proof/Machine/RowFuse.lean ====
section
/-! DEFINITION. The commands of the fuses and feed groups (R207 to R225). -/

namespace Sys2Proof.Machine
open R

/-- TRAMP_EXPIRY (R212), of fuse `f`. -/
def execTrampExpiry (f : Fin 64) (st : State) : Host.Outcome State Fault Refusal :=
  sysRow (timed (fun d => trampDue d f.val) (fun d => spTrip d (tramp d f.val))) st

/-- FUSE_TRIP (R217), of fuse `f`. -/
def execFuseTrip (f : Fin 64) (st : State) : Host.Outcome State Fault Refusal :=
  sysRow (timed (fun d => tripDue d f.val) (fun d => spTrip d (fuTrip d f.val (tripSet d f.val)))) st

/-- FUSE_RETRY (R219), of fuse `f`. -/
def execFuseRetry (f : Fin 64) (st : State) : Host.Outcome State Fault Refusal :=
  sysRow (judged (fun d => retryDue d f.val) (fun d => fuRetry d f.val)) st

/-- RCNT_RESET (R219), of fuse `f`. -/
def execRcntReset (f : Fin 64) (st : State) : Host.Outcome State Fault Refusal :=
  sysRow (timed (fun d => rcntDue d f.val) (fun d => rcntReset d f.val)) st

/-- FUSE_TSENSE (R215), of fuse `f`. -/
def execFuseTsense (f : Fin 64) (st : State) : Host.Outcome State Fault Refusal :=
  sysRow (timed (fun d => tsenseDue d f.val) (fun d => tsense d f.val)) st

/-- FEED_REVERT (R221), of feed group `n`. -/
def execFeedRevert (n : Fin 16) (st : State) : Host.Outcome State Fault Refusal :=
  sysRow (judged (fun d => revertDue d n.val) (fun d => feedRevert d n.val)) st

/-- FEED_XFER (R222), of feed group `n`. -/
def execFeedXfer (n : Fin 16) (st : State) : Host.Outcome State Fault Refusal :=
  sysRow (timed (fun d => xferDue d n.val) (fun d => feedXfer d n.val)) st

/-- FEED_STUCK (R222), of feed group `n`. -/
def execFeedStuck (n : Fin 16) (st : State) : Host.Outcome State Fault Refusal :=
  sysRow (timed (fun d => stuckDue d n.val) (fun d => feedStuck d n.val)) st

/-- FU_CMD_ON (R212), by an accessor, of fuse `f`. -/
def execFuCmdOn (a : Accessor) (f : Fin 64) (st : State) : Host.Outcome State Fault Refusal :=
  sysRow (wordCmd a (0x901C + 0x20 * f.val) (0x10000) (fun d => fuCmdOn d f.val)) st

/-- FU_CMD_OFF (R212), by an accessor, of fuse `f`. -/
def execFuCmdOff (a : Accessor) (f : Fin 64) (st : State) : Host.Outcome State Fault Refusal :=
  sysRow (wordCmd a (0x901C + 0x20 * f.val) (0x20000) (fun d => fuCmdOff d f.val)) st

/-- FU_CMD_RESET (R212), by an accessor, of fuse `f`. -/
def execFuCmdReset (a : Accessor) (f : Fin 64) (st : State) : Host.Outcome State Fault Refusal :=
  sysRow (wordCmd a (0x901C + 0x20 * f.val) (0x40000) (fun d => fuReset d f.val)) st

/-- FU_CMD_XFER (R221), by an accessor, of fuse `f`. -/
def execFuCmdXfer (a : Accessor) (f : Fin 64) (st : State) : Host.Outcome State Fault Refusal :=
  sysRow (wordCmd a (0x901C + 0x20 * f.val) (0x80000) (fun d => fuCmdXfer d f.val)) st

end Sys2Proof.Machine
end

