-- ==== Sys2Proof/Machine/RowHost.lean ====
section
/-! DEFINITION. The commands of the host endpoints, pairing and authority (R285 to R322). -/

namespace Sys2Proof.Machine
open R

/-- HQ_CQ_DB (R288), of an endpoint, with the index written. -/
def execHqCqDb (e : Endpoint) (ix : BitVec 16) (st : State) : Host.Outcome State Fault Refusal :=
  sysRow (latched (fun d => doorbell d (epIx e) 0 ix.toNat)) st

/-- HQ_CPL_DB (R288), of an endpoint, with the index written. -/
def execHqCplDb (e : Endpoint) (ix : BitVec 16) (st : State) : Host.Outcome State Fault Refusal :=
  sysRow (latched (fun d => doorbell d (epIx e) 1 ix.toNat)) st

/-- HQ_EVQ_DB (R288), of an endpoint, with the index written. -/
def execHqEvqDb (e : Endpoint) (ix : BitVec 16) (st : State) : Host.Outcome State Fault Refusal :=
  sysRow (latched (fun d => doorbell d (epIx e) 2 ix.toNat)) st

/-- HQ_TEL_DB (R288), of an endpoint, with the index written. -/
def execHqTelDb (e : Endpoint) (ix : BitVec 16) (st : State) : Host.Outcome State Fault Refusal :=
  sysRow (latched (fun d => doorbell d (epIx e) 3 ix.toNat)) st

/-- DESCRIPTOR_FETCH (R296), of an endpoint: the descriptors that the oldest read under way returns. -/
def execDescriptorFetch (e : Endpoint) (ds : List (List Byte)) (st : State) : Host.Outcome State Fault Refusal :=
  sysRow (latched (fun d => descFetch d (epIx e) (ds.map natBytes))) st

/-- PAIR_WINDOW_EXPIRY (R313), of sequence number `q`. -/
def execPairWindowExpiry (q : BitVec 32) (st : State) : Host.Outcome State Fault Refusal :=
  sysRow (timed (fun d => windowDue d q.toNat) (fun d => windowExpiry d q.toNat)) st

/-- AU_VERDICT (R315), through TWB. -/
def execAuVerdict (act : BitVec 2) (st : State) : Host.Outcome State Fault Refusal :=
  sysRow (wordCmd .twb (0x1840) (act.toNat) (fun d => verdict d act.toNat)) st

/-- VERDICT_TIMEOUT (R315), of sequence number `q`. -/
def execVerdictTimeout (q : BitVec 32) (st : State) : Host.Outcome State Fault Refusal :=
  sysRow (timed (fun d => verdictDue d q.toNat) (fun d => verdictTimeout d q.toNat)) st

/-- DIVERGE_PULSE_END (R316). -/
def execDivergePulseEnd (st : State) : Host.Outcome State Fault Refusal :=
  sysRow (timed (fun d => pulseDue d) (fun d => pulseEnd d)) st

/-- AUTH_CHANGE (R318). -/
def execAuthChange (st : State) : Host.Outcome State Fault Refusal :=
  sysRow (judged (fun d => authDue d) (fun d => authChange d)) st

/-- AU_TOKCMD_GO (R319), through TWB. -/
def execAuTokcmdGo (st : State) : Host.Outcome State Fault Refusal :=
  sysRow (wordCmd .twb (0x1850) (1) (fun d => tokGo d)) st

/-- AUTH_TOKEN_CHECK (R319). -/
def execAuthTokenCheck (st : State) : Host.Outcome State Fault Refusal :=
  sysRow (latchedS (fun s => tokCheck s)) st

/-- LEASE_EXPIRY (R320). -/
def execLeaseExpiry (st : State) : Host.Outcome State Fault Refusal :=
  sysRow (timed (fun d => leaseDue d) (fun d => leaseExpiry d)) st

/-- PH_COPY_DONE (R301), of a hole: whether the host access succeeded, and what came from host memory. -/
def execPhCopyDone (hole : Fin 64) (ok : Bool) (data : List Byte) (st : State) : Host.Outcome State Fault Refusal :=
  sysRow (latchedS (fun s => phCopyDone s hole.val ok (natBytes data))) st

/-- COMMIT_CHECKS_DONE (R347). -/
def execCommitChecksDone (st : State) : Host.Outcome State Fault Refusal :=
  sysRow (latchedS (fun s => if s.dev.fl GL_STATUS_MHALT then s else commitChecks s)) st

/-- PH_CLAIM (R301), by an endpoint. -/
def execPhClaim (e : Endpoint) (hole : Fin 64) (st : State) : Host.Outcome State Fault Refusal :=
  sysRow (latched (fun d => phOp d (epIx e) hole.val 1)) st

/-- PH_RELEASE (R301), by an endpoint. -/
def execPhRelease (e : Endpoint) (hole : Fin 64) (st : State) : Host.Outcome State Fault Refusal :=
  sysRow (latched (fun d => phOp d (epIx e) hole.val 2)) st

/-- PH_BAR2_WRITE (R302), by an endpoint, at an offset of the window. -/
def execPhBar2Write (e : Endpoint) (ofs : BitVec 18) (data : List Byte) (st : State) : Host.Outcome State Fault Refusal :=
  sysRow (latchedS (fun s => phWrite s (epIx e) ofs.toNat (natBytes data))) st

/-- PH_RECLAIM (R303), of a hole. -/
def execPhReclaim (hole : Fin 64) (st : State) : Host.Outcome State Fault Refusal :=
  sysRow (timed (fun d => reclaimDue d hole.val) (fun d => reclaim d hole.val)) st

/-- HOST_DMA_ERR (R299), of an endpoint, on ring `k`: command, completion, event, telemetry. -/
def execHostDmaErr (e : Endpoint) (k : Fin 4) (st : State) : Host.Outcome State Fault Refusal :=
  sysRow (latched (fun d => hostDmaErr d (epIx e) k.val)) st

/-- MSIX_MESSAGE (R304), of an endpoint, on vector `v`. -/
def execMsixMessage (e : Endpoint) (v : Fin 16) (st : State) : Host.Outcome State Fault Refusal :=
  sysRow (timed (fun d => msixDue d (epIx e) v.val) (fun d => msixSend d (epIx e) v.val)) st

/-- ENDPOINT_DOWN (R286). -/
def execEndpointDown (e : Endpoint) (st : State) : Host.Outcome State Fault Refusal :=
  sysRow (latched (fun d => endpointDown d (epIx e))) st

/-- ENDPOINT_UP (R286). -/
def execEndpointUp (e : Endpoint) (st : State) : Host.Outcome State Fault Refusal :=
  sysRow (latched (fun d => endpointUp d (epIx e))) st

/-- LEASE_BELOW_ONE_SECOND (R380). -/
def execLeaseBelowOneSecond (st : State) : Host.Outcome State Fault Refusal :=
  sysRow (timed (fun d => leaseLowDue d) (fun d => leaseLow d)) st

end Sys2Proof.Machine
end

