-- ==== Sys2Proof/Machine/RowLoop.lean ====
section
/-! DEFINITION. The commands of the loop engine (R111 to R140). -/

namespace Sys2Proof.Machine
open R

/-- LOOP_FOLLOW_ERR (R133), of slot `t`. -/
def execLoopFollowErr (t : Fin 256) (st : State) : Host.Outcome State Fault Refusal :=
  sysRow (timed (fun d => feDue d t.val) (fun d => followErr d t.val)) st

/-- TICK_OVERRUN (R138), stopping before slot `t`. -/
def execTickOverrun (t : Fin 256) (st : State) : Host.Outcome State Fault Refusal :=
  sysRow (latched (fun d => tickOverrun d t.val)) st

/-- FECLR (R134), by an accessor, of slot `t`. -/
def execFeclr (a : Accessor) (t : Fin 256) (st : State) : Host.Outcome State Fault Refusal :=
  sysRow (wordCmd a (0x3818) (256 + t.val) (fun d => feclrCmd d t.val)) st

/-- CLRPEAK (R139), by an accessor. -/
def execClrpeak (a : Accessor) (st : State) : Host.Outcome State Fault Refusal :=
  sysRow (wordCmd a (0x3818) (512) (fun d => clrPeak d)) st

/-- STAGE_HOLD (R139), by an accessor: a write of LE_CTRL, which also writes GUARD. -/
def execStageHold (a : Accessor) (guard : BitVec 7) (hold : Bool) (st : State) : Host.Outcome State Fault Refusal :=
  sysRow (latched (fun d => regWrite (accIx a) 0x3800 (guard.toNat + 256 * hold.toNat) d)) st

end Sys2Proof.Machine
end

