-- ==== Sys2Proof/Machine/RowPower.lean ====
section
/-! DEFINITION. The commands of reset, start-up, supplies, clocks, sleep and wake (R34, R35, R398, R399, R408 to R419,
R454). -/

namespace Sys2Proof.Machine
open R

/-- SERVICE_BOOT (R398), with the level of BOOTSEL and the ACLK cycles since the time base stopped. -/
def execServiceBoot (bootsel : Bool) (aclk : Word) (st : State) : Host.Outcome State Fault Refusal :=
  sysRow (fun s => serviceBoot s bootsel aclk.toNat) st

/-- PROMOTION (R399), with the supplies that are good. -/
def execPromotion (good : Byte) (st : State) : Host.Outcome State Fault Refusal :=
  sysRow (fun s => promotion s good.toNat) st

/-- VSVC_LOSS (R396). -/
def execVsvcLoss (st : State) : Host.Outcome State Fault Refusal :=
  devRow (fun d => vsvcLoss d) st

/-- POWER_ON_RESET (R408). -/
def execPowerOnReset (st : State) : Host.Outcome State Fault Refusal :=
  devRow (fun d => devReset d 0) st

/-- RESET_N_ASSERT (R408). -/
def execResetNAssert (st : State) : Host.Outcome State Fault Refusal :=
  devRow (fun d => devReset d 1) st

/-- WATCHDOG_EXPIRY (R410). -/
def execWatchdogExpiry (st : State) : Host.Outcome State Fault Refusal :=
  sysRow (latched (fun d => watchdog d)) st

/-- PM_CMD_RESET (R408), through TWB. -/
def execPmCmdReset (st : State) : Host.Outcome State Fault Refusal :=
  sysRow (wordCmd .twb (0x430) (1) (fun d => pmCmdReset d)) st

/-- SUPPLY_FAULT (R411), of main supply `k`. -/
def execSupplyFault (k : Fin 6) (st : State) : Host.Outcome State Fault Refusal :=
  devRow (fun d => supplyFault d k.val) st

/-- CLOCK_LOSS (R34). -/
def execClockLoss (st : State) : Host.Outcome State Fault Refusal :=
  devRow (fun d => clockLoss d) st

/-- ACLK_FALLBACK (R35). -/
def execAclkFallback (st : State) : Host.Outcome State Fault Refusal :=
  devRow (fun d => aclkFallback d) st

/-- MGMT_HALT (R21). -/
def execMgmtHalt (st : State) : Host.Outcome State Fault Refusal :=
  sysRow (latched (fun d => mgmtHalt d)) st

/-- START_UP (R412), with the level of BOOTSEL, the supplies that are good, and the ACLK cycles since the time base
stopped. -/
def execStartUp (bootsel : Bool) (good : Byte) (aclk : Word) (st : State) : Host.Outcome State Fault Refusal :=
  sysRow (fun s => startUp s bootsel good.toNat aclk.toNat) st

/-- START_UP_END (R412). -/
def execStartUpEnd (st : State) : Host.Outcome State Fault Refusal :=
  sysRow (judged (fun d => startEndDue d) (fun d => startEnd d)) st

/-- PM_CMD_SLEEP (R413), through TWB. -/
def execPmCmdSleep (st : State) : Host.Outcome State Fault Refusal :=
  sysRow (wordCmd .twb (0x430) (2) (fun d => (sleepRequest d).2)) st

/-- SLEEP_WAITS_DONE (R414). -/
def execSleepWaitsDone (st : State) : Host.Outcome State Fault Refusal :=
  sysRow (timed (fun d => sleepWaitsDue d) (fun d => sleepWaitsDone d)) st

/-- SLEEP_POWER_DOWN (R414), for a wake that occurred during entry, whether the main supplies are good, and the ACLK
cycles to tick 0. -/
def execSleepPowerDown (mainGood : Bool) (aclk : Word) (st : State) : Host.Outcome State Fault Refusal :=
  sysRow (timedS (fun d => powerDownDue d) (fun s => sleepPowerDown s mainGood aclk.toNat)) st

/-- WAKE_EVENT (R416), of source `k`, whether the main supplies are good, and the ACLK cycles to tick 0. -/
def execWakeEvent (k : Fin 5) (mainGood : Bool) (aclk : Word) (st : State) : Host.Outcome State Fault Refusal :=
  sysRow (fun s => wakeEvent s k.val mainGood aclk.toNat) st

/-- WAKE_COMPLETE (R417). -/
def execWakeComplete (st : State) : Host.Outcome State Fault Refusal :=
  sysRow (timed (fun d => wakeCompleteDue d) (fun d => twbWoke (wakeComplete d))) st

/-- VIN_AON_FAULT (R411). -/
def execVinAonFault (st : State) : Host.Outcome State Fault Refusal :=
  devRow (fun d => vinAonFault d) st

/-- MAIN_SUPPLIES_GOOD (R417), with the ACLK cycles to tick 0. -/
def execMainSuppliesGood (aclk : Word) (st : State) : Host.Outcome State Fault Refusal :=
  sysRow (fun s => mainSuppliesGood s aclk.toNat) st

/-- BOUNDARY_SCAN (R454), with the level of TESTEN. -/
def execBoundaryScan (testen : Bool) (st : State) : Host.Outcome State Fault Refusal :=
  devRow (fun d => boundaryScan d testen) st

end Sys2Proof.Machine
end

