-- ==== Sys2Proof/Machine/RowRail.lean ====
section
/-! DEFINITION. The commands of the rails (R141 to R168). -/

namespace Sys2Proof.Machine
open R

/-- PREP_TIMEOUT (R156), of rail `n`. -/
def execPrepTimeout (n : Fin 16) (st : State) : Host.Outcome State Fault Refusal :=
  sysRow (timed (fun d => prepDue d n.val) (fun d => prepTimeout d n.val)) st

/-- DWELL_END (R160), of rail `n`. -/
def execDwellEnd (n : Fin 16) (st : State) : Host.Outcome State Fault Refusal :=
  sysRow (timed (fun d => d.fl VR_STATUS_DWELL n.val && dwellOver d n.val) (fun d => dwellEnd d n.val)) st

/-- CAPACITY_END (R164), of rail `n`. -/
def execCapacityEnd (n : Fin 16) (st : State) : Host.Outcome State Fault Refusal :=
  sysRow (timed (fun d => capacityEndDue d n.val) (fun d => throtUpdate (capacityEnd d n.val))) st

/-- PHASE_SENSE_FAIL (R165), of the phase at hop count `h` of rail `n`. -/
def execPhaseSenseFail (n : Fin 16) (h : Fin 32) (st : State) : Host.Outcome State Fault Refusal :=
  sysRow (timed (fun d => senseDue d n.val h.val) (fun d => senseFail d n.val h.val)) st

end Sys2Proof.Machine
end

