-- ==== Sys2Proof/Machine/RowReg.lean ====
section
/-! DEFINITION. Register accesses (R15, R423 to R433). -/

namespace Sys2Proof.Machine
open R

/-- REGISTER_WRITE (R424), by an accessor: whether it is a whole word, the offset, the value. -/
def execRegisterWrite (a : Accessor) (whole : Bool) (ofs : BitVec 16) (v : Word) (st : State) : Host.Outcome State Fault Refusal :=
  sysRow (latched (fun d => accWrite (accIx a) whole ofs.toNat v.toNat d)) st

/-- RC_READ (R432), by an accessor. -/
def execRcRead (a : Accessor) (ofs : BitVec 16) (st : State) : Host.Outcome State Fault Refusal :=
  sysRow (latchedS (fun s => regRead s (accIx a) ofs.toNat)) st

/-- LL_READ (R433), by an accessor. -/
def execLlRead (a : Accessor) (ofs : BitVec 16) (st : State) : Host.Outcome State Fault Refusal :=
  sysRow (latchedS (fun s => regRead s (accIx a) ofs.toNat)) st

/-- REGISTER_READ_BUS_ERROR (R15), by an accessor, of a whole word or another width. -/
def execRegisterReadBusError (a : Accessor) (ofs : BitVec 16) (whole : Bool) (st : State) : Host.Outcome State Fault Refusal :=
  sysRow (latchedS (fun s => accRead s (accIx a) ofs.toNat whole)) st

end Sys2Proof.Machine
end

