-- ==== Sys2Proof/Machine/RowRing.lean ====
section
/-! DEFINITION. The commands of the time base, the rings and the channel directory (R41 to R109). -/

namespace Sys2Proof.Machine
open R

/-- TICK_EDGE (R45), with the pins that phase A latches. -/
def execTickEdge (p : Pins) (st : State) : Host.Outcome State Fault Refusal :=
  sysRow (fun s => tickEdge p s) st

/-- FRAME_BOUNDARY (R42). -/
def execFrameBoundary (st : State) : Host.Outcome State Fault Refusal :=
  sysRow (fun s => frameBoundary s) st

/-- SYNC_CAPTURE (R58), captured at postmark `pm`. -/
def execSyncCapture (pm : Word64) (st : State) : Host.Outcome State Fault Refusal :=
  sysRow (latched (fun d => syncIn d pm.toNat)) st

/-- SYNC_MISS (R59). -/
def execSyncMiss (st : State) : Host.Outcome State Fault Refusal :=
  sysRow (timed (fun d => syncMissDue d) (fun d => syncMiss d)) st

/-- RG_CMD_RESET (R84), by an accessor, of ring `r`. -/
def execRgCmdReset (a : Accessor) (r : Fin 8) (st : State) : Host.Outcome State Fault Refusal :=
  sysRow (wordCmd a (0x2004 + 0x100 * r.val) (1) (fun d => ringReset d r.val)) st

/-- RG_CMD_CLRCNT (R93), by an accessor, of ring `r`. -/
def execRgCmdClrcnt (a : Accessor) (r : Fin 8) (st : State) : Host.Outcome State Fault Refusal :=
  sysRow (wordCmd a (0x2004 + 0x100 * r.val) (2) (fun d => ringClrCnt d r.val)) st

/-- TRAINING_FRAME_RETURN (R84), with the count found from TX and, in SPLIT-TRAIN, from RX. -/
def execTrainingFrameReturn (r : Fin 8) (n m : Byte) (st : State) : Host.Outcome State Fault Refusal :=
  sysRow (latched (fun d => trainingReturn d r.val n.toNat m.toNat)) st

/-- LOCK_TIMEOUT (R84), of ring `r`. -/
def execLockTimeout (r : Fin 8) (st : State) : Host.Outcome State Fault Refusal :=
  sysRow (timed (fun d => lockDue d r.val) (fun d => lockTimeout d r.val)) st

/-- MEASURE_COMPLETE (R85), of ring `r`: the round trips from both ends and what each stage reports of itself, by position,
and the loop delay, in 1/256 ns. -/
def execMeasureComplete (r : Fin 8) (fwd rev : List (List (BitVec 32))) (own : List OwnDelay) (dloop : BitVec 32)
    (st : State) : Host.Outcome State Fault Refusal :=
  sysRow (latched (fun d => measureDone d r.val (probesOf fwd rev own) dloop.toNat)) st

/-- TRAIN_RETRY (R84), of ring `r`. -/
def execTrainRetry (r : Fin 8) (st : State) : Host.Outcome State Fault Refusal :=
  sysRow (timed (fun d => trainRetryDue d r.val) (fun d => ringDown d r.val)) st

/-- UPSTREAM_FRAME (R68), of ring `r`, as latched. -/
def execUpstreamFrame (r : Fin 8) (f : UpFrame) (st : State) : Host.Outcome State Fault Refusal :=
  sysRow (latchedS (fun s => upstream s r.val f)) st

/-- NOT_REPORTING (R74), of channel `c`. -/
def execNotReporting (c : Fin 256) (st : State) : Host.Outcome State Fault Refusal :=
  sysRow (judged (fun d => missDue d c.val) (fun d => notReporting d c.val)) st

/-- BREAK_BEACON (R89), of position `pos`, sent in the frame numbered `fnum`. -/
def execBreakBeacon (r : Fin 8) (pos : Fin 32) (fnum : BitVec 16) (st : State) : Host.Outcome State Fault Refusal :=
  sysRow (latched (fun d => breakBeacon d r.val pos.val fnum.toNat)) st

/-- RX_SOF_LOSS (R89), of ring `r`. -/
def execRxSofLoss (r : Fin 8) (st : State) : Host.Outcome State Fault Refusal :=
  sysRow (timed (fun d => rxLossDue d r.val) (fun d => rxLoss d r.val)) st

/-- SPLIT_START (R90), of ring `r`. -/
def execSplitStart (r : Fin 8) (st : State) : Host.Outcome State Fault Refusal :=
  sysRow (takes (fun d => splitDue d r.val) (fun d => railSplit (splitStart d r.val) r.val)) st

/-- SPLIT_TRAIN_TIMEOUT (R84), of ring `r`. -/
def execSplitTrainTimeout (r : Fin 8) (st : State) : Host.Outcome State Fault Refusal :=
  sysRow (timed (fun d => splitTrainDue d r.val) (fun d => trainFail d r.val)) st

/-- STRAY_TOKEN (R79), on ring `r`. -/
def execStrayToken (r : Fin 8) (st : State) : Host.Outcome State Fault Refusal :=
  sysRow (latched (fun d => strayToken d r.val)) st

/-- STAGE_EVENT (R336), the oldest event received on ring `r`. -/
def execStageEvent (r : Fin 8) (st : State) : Host.Outcome State Fault Refusal :=
  sysRow (takes (fun d => !(d.rg r.val).evts.isEmpty) (fun d => stageEvent d r.val)) st

/-- IDENTITY_MATCH (R103), of the answer of channel `c`. -/
def execIdentityMatch (c : Fin 256) (st : State) : Host.Outcome State Fault Refusal :=
  sysRow (takesS (fun d => (d.chn c.val).idAns != 0) (fun s => chanAnswer s c.val (identityMatch s.dev c.val))) st

/-- CONFIG_PIECE_ACK (R98), of the answer of channel `c`. -/
def execConfigPieceAck (c : Fin 256) (st : State) : Host.Outcome State Fault Refusal :=
  sysRow (takesS (fun d => (d.chn c.val).cfgAns != 0) (fun s => chanAnswer s c.val (configAck s.dev c.val))) st

/-- REIDENT (R109), by an accessor, of channel `c`. -/
def execReident (a : Accessor) (c : Fin 256) (st : State) : Host.Outcome State Fault Refusal :=
  sysRow (wordCmd a (0x280C + 0x10 * c.val) (0x4000) (fun d => reidentRequest d c.val)) st

end Sys2Proof.Machine
end

