-- ==== Sys2Proof/Machine/RowSeq.lean ====
section
/-! DEFINITION. The commands of the sequencer and supervisor (R226 to R243). -/

namespace Sys2Proof.Machine
open R

/-- SQ_CMD_ON (R235), by an accessor. -/
def execSqCmdOn (a : Accessor) (st : State) : Host.Outcome State Fault Refusal :=
  sysRow (wordCmd a (0x9810) (1) (fun d => (seqRequest d true (seqSrc (accIx a))).2)) st

/-- SQ_CMD_OFF (R235), by an accessor. -/
def execSqCmdOff (a : Accessor) (st : State) : Host.Outcome State Fault Refusal :=
  sysRow (wordCmd a (0x9810) (2) (fun d => (seqRequest d false (seqSrc (accIx a))).2)) st

/-- SQ_CMD_CLRFLT (R240), by an accessor. -/
def execSqCmdClrflt (a : Accessor) (st : State) : Host.Outcome State Fault Refusal :=
  sysRow (wordCmd a (0x9810) (4) (fun d => seqClrflt d)) st

/-- SQ_CMD_STEPON (R236), by an accessor, of step `t`. -/
def execSqCmdStepon (a : Accessor) (t : Fin 32) (st : State) : Host.Outcome State Fault Refusal :=
  sysRow (wordCmd a (0x9810) (8 + 16 * t.val) (fun d => (seqStepOn d t.val).2)) st

/-- SQ_CMD_STEPOFF (R236), by an accessor, of step `t`. -/
def execSqCmdStepoff (a : Accessor) (t : Fin 32) (st : State) : Host.Outcome State Fault Refusal :=
  sysRow (wordCmd a (0x9810) (1024 + 16 * t.val) (fun d => (seqStepOff d t.val).2)) st

/-- SQ_CMD_CLRCNT (R242), by an accessor. -/
def execSqCmdClrcnt (a : Accessor) (st : State) : Host.Outcome State Fault Refusal :=
  sysRow (wordCmd a (0x9810) (512) (fun d => seqClrcnt d)) st

/-- STEP_BEGIN (R229). -/
def execStepBegin (st : State) : Host.Outcome State Fault Refusal :=
  sysRow (judged (fun d => stepBeginDue d) (fun d => stepBeginRow d)) st

/-- STEP_COMPLETE (R228), of step `t`. -/
def execStepComplete (t : Fin 32) (st : State) : Host.Outcome State Fault Refusal :=
  sysRow (timed (fun d => stepCompleteDue d t.val) (fun d => stepComplete d t.val)) st

/-- STEP_TIMEOUT (R228), of step `t`. -/
def execStepTimeout (t : Fin 32) (st : State) : Host.Outcome State Fault Refusal :=
  sysRow (timed (fun d => stepTimeoutDue d t.val) (fun d => stepTimeout d t.val)) st

/-- MINOFF_END (R231). -/
def execMinoffEnd (st : State) : Host.Outcome State Fault Refusal :=
  sysRow (timed (fun d => minoffDue d) (fun d => minoffEnd d)) st

/-- SEQ_RETRY (R231). -/
def execSeqRetry (st : State) : Host.Outcome State Fault Refusal :=
  sysRow (timed (fun d => seqRetryDue d) (fun d => seqRetry d)) st

/-- RSTOUT_RELEASE (R240). -/
def execRstoutRelease (st : State) : Host.Outcome State Fault Refusal :=
  sysRow (timed (fun d => rstDue d) (fun d => rstRelease d)) st

/-- MR_SHORT (R238), after a press of `ms` milliseconds. -/
def execMrShort (ms : BitVec 16) (st : State) : Host.Outcome State Fault Refusal :=
  sysRow (latched (fun d => mrPressed d ms.toNat)) st

/-- MR_LONG (R238), after a press of `ms` milliseconds. -/
def execMrLong (ms : BitVec 16) (st : State) : Host.Outcome State Fault Refusal :=
  sysRow (latched (fun d => mrHeld d ms.toNat)) st

/-- MR_FORCEOFF (R239). -/
def execMrForceoff (st : State) : Host.Outcome State Fault Refusal :=
  sysRow mrForced st

/-- FORCE_CLEAR (R239). -/
def execForceClear (st : State) : Host.Outcome State Fault Refusal :=
  devRow (fun d => forceClear d) st

/-- SUPERVISION_ENTRY (R241), of rail `n`, for undervoltage or overvoltage. -/
def execSupervisionEntry (n : Fin 16) (ov : Bool) (st : State) : Host.Outcome State Fault Refusal :=
  sysRow (timed (fun d => supDue d n.val ov) (fun d => supEntry d n.val ov)) st

end Sys2Proof.Machine
end

