-- ==== Sys2Proof/Machine/RowService.lean ====
section
/-! DEFINITION. The commands of the service port (R381 to R407). -/

namespace Sys2Proof.Machine
open R

/-- PORT_ATTACH (R383), with the terminations on CC1 and CC2. -/
def execPortAttach (c1 c2 : Term) (st : State) : Host.Outcome State Fault Refusal :=
  sysRow (latched (fun d => portAttach d c1 c2)) st

/-- SOURCE_DETACH (R386), seen first at postmark `pm`. -/
def execSourceDetach (pm : Word64) (st : State) : Host.Outcome State Fault Refusal :=
  sysRow (latched (fun d => sourceDetach d pm.toNat)) st

/-- SINK_DETACH (R386). -/
def execSinkDetach (st : State) : Host.Outcome State Fault Refusal :=
  sysRow (latched (fun d => sinkDetach d)) st

/-- ACCESSORY_DETACH (R383). -/
def execAccessoryDetach (st : State) : Host.Outcome State Fault Refusal :=
  sysRow (latched (fun d => accessoryDetach d)) st

/-- DISCHARGE_END (R383). -/
def execDischargeEnd (st : State) : Host.Outcome State Fault Refusal :=
  sysRow (timed (fun d => dischargeEndDue d) (fun d => dischargeEnd d)) st

/-- DISCHARGE_TIMEOUT (R383). -/
def execDischargeTimeout (st : State) : Host.Outcome State Fault Refusal :=
  sysRow (timed (fun d => dischargeToDue d) (fun d => dischargeTimeout d)) st

/-- ERROR_RECOVERY_END (R383). -/
def execErrorRecoveryEnd (st : State) : Host.Outcome State Fault Refusal :=
  sysRow (timed (fun d => errorEndDue d) (fun d => portLeave d)) st

/-- SP_CMD_HRST (R395), by an accessor. -/
def execSpCmdHrst (a : Accessor) (st : State) : Host.Outcome State Fault Refusal :=
  sysRow (wordCmd a (0xC01C) (1) (fun d => spCmdHrst d)) st

/-- SP_CMD_ERRREC (R383), by an accessor. -/
def execSpCmdErrrec (a : Accessor) (st : State) : Host.Outcome State Fault Refusal :=
  sysRow (wordCmd a (0xC01C) (2) (fun d => spCmdErrrec d)) st

/-- SP_CMD_DEAUTH (R405), by an accessor. -/
def execSpCmdDeauth (a : Accessor) (st : State) : Host.Outcome State Fault Refusal :=
  sysRow (wordCmd a (0xC01C) (4) (fun d => sessionEnd d)) st

/-- PD_REQUEST (R388), of an object position, with its voltage and current. -/
def execPdRequest (pos : BitVec 3) (volt : BitVec 11) (curr : BitVec 10) (st : State) : Host.Outcome State Fault Refusal :=
  sysRow (latched (fun d => pdRequest d pos.toNat volt.toNat curr.toNat)) st

/-- PS_RDY_TIMEOUT (R388). -/
def execPsRdyTimeout (st : State) : Host.Outcome State Fault Refusal :=
  sysRow (timed (fun d => psRdyDue d) (fun d => spHardReset d true)) st

/-- PPS_TIMEOUT (R391). -/
def execPpsTimeout (st : State) : Host.Outcome State Fault Refusal :=
  sysRow (timed (fun d => ppsTimeoutDue d) (fun d => ppsTimeout d)) st

/-- PD_SOURCE_CAPS (R392), with the objects of the partner. -/
def execPdSourceCaps (l : List Pdo) (st : State) : Host.Outcome State Fault Refusal :=
  sysRow (latched (fun d => pdSourceCapsIn d l)) st

/-- PD_ACCEPT (R396). -/
def execPdAccept (st : State) : Host.Outcome State Fault Refusal :=
  sysRow (latched (fun d => pdAcceptIn d)) st

/-- PD_PS_RDY (R396). -/
def execPdPsRdy (st : State) : Host.Outcome State Fault Refusal :=
  sysRow (latched (fun d => pdPsRdyIn d)) st

/-- PPS_KEEPALIVE (R393). -/
def execPpsKeepalive (st : State) : Host.Outcome State Fault Refusal :=
  sysRow (timed (fun d => keepaliveDue d) (fun d => keepalive d)) st

/-- PR_SWAP (R394). -/
def execPrSwap (st : State) : Host.Outcome State Fault Refusal :=
  sysRow (latched (fun d => prSwapIn d)) st

/-- DR_SWAP (R394). -/
def execDrSwap (st : State) : Host.Outcome State Fault Refusal :=
  sysRow (latched (fun d => drSwapIn d)) st

/-- PD_HARD_RESET (R395). -/
def execPdHardReset (st : State) : Host.Outcome State Fault Refusal :=
  sysRow (latched (fun d => pdHardResetIn d)) st

/-- PD_NOT_SUPPORTED (R7). -/
def execPdNotSupported (st : State) : Host.Outcome State Fault Refusal :=
  sysRow (latched (fun d => pdNotSupported d)) st

/-- USB_COMMAND (R403), with the bytes of the transfer. -/
def execUsbCommand (bytes : List Byte) (st : State) : Host.Outcome State Fault Refusal :=
  sysRow (latched (fun d => usbCommand d (natBytes bytes))) st

/-- USB_RESPONSE_READ (R403). -/
def execUsbResponseRead (st : State) : Host.Outcome State Fault Refusal :=
  sysRow (latched (fun d => usbResponseRead d)) st

/-- GET_STATE (R404). -/
def execGetState (st : State) : Host.Outcome State Fault Refusal :=
  sysRow (latched (fun d => getState d)) st

/-- GET_NONCE (R404). -/
def execGetNonce (st : State) : Host.Outcome State Fault Refusal :=
  sysRow (latched (fun d => getNonce d)) st

/-- AUTH (R405), with the token. -/
def execAuth (t : List Byte) (st : State) : Host.Outcome State Fault Refusal :=
  sysRow (latchedS (fun s => usbAuth s (natBytes t))) st

/-- DEAUTH (R404). -/
def execDeauth (st : State) : Host.Outcome State Fault Refusal :=
  sysRow (latched (fun d => usbDeauth d)) st

/-- KEY_WRITE (R404), of a slot, with the key. -/
def execKeyWrite (k : Byte) (key : List Byte) (st : State) : Host.Outcome State Fault Refusal :=
  sysRow (latchedS (fun s => keyWrite s k.toNat (natBytes key))) st

/-- KEY_LOCK (R344). -/
def execKeyLock (st : State) : Host.Outcome State Fault Refusal :=
  sysRow (latched (fun d => keyLock d)) st

/-- USB_STALL (R404). -/
def execUsbStall (st : State) : Host.Outcome State Fault Refusal :=
  sysRow (latched (fun d => usbStallIn d)) st

/-- SESSION_EXPIRY (R405). -/
def execSessionExpiry (st : State) : Host.Outcome State Fault Refusal :=
  sysRow (timed (fun d => sessDue d) (fun d => sessionEnd d)) st

/-- DRP_TOGGLE (R382). -/
def execDrpToggle (st : State) : Host.Outcome State Fault Refusal :=
  sysRow (timed (fun d => drpDue d) (fun d => drpToggle d)) st

/-- USB_STANDARD_REQUEST (R402), with its request code and value. -/
def execUsbStandardRequest (req : Byte) (value : BitVec 16) (st : State) : Host.Outcome State Fault Refusal :=
  sysRow (latched (fun d => usbStandard d req.toNat value.toNat)) st

end Sys2Proof.Machine
end

