-- ==== Sys2Proof/Machine/RowStore.lean ====
section
/-! DEFINITION. The commands of the recorder, the store and the update function (R324 to R361). -/

namespace Sys2Proof.Machine
open R

/-- CLEAR_OVERWRITE_DONE (R334). -/
def execClearOverwriteDone (st : State) : Host.Outcome State Fault Refusal :=
  sysRow (latchedS (fun s => overwriteDone s)) st

/-- RECORD_WRITE (R27), and what the store meets. -/
def execRecordWrite (k : StoreCase) (st : State) : Host.Outcome State Fault Refusal :=
  sysRow (timedS (fun d => recordDue d) (fun s => recordWrite s k)) st

/-- RECORD_CLOSE (R328), of the open record of a class and source. -/
def execRecordClose (cls : BitVec 4) (src : BitVec 16) (st : State) : Host.Outcome State Fault Refusal :=
  sysRow (timed (fun d => closeDue d cls.toNat src.toNat) (fun d => recordClose d cls.toNat src.toNat)) st

/-- EV_CMD_REGISTER (R330), by an accessor. -/
def execEvCmdRegister (a : Accessor) (st : State) : Host.Outcome State Fault Refusal :=
  sysRow (wordCmd a (0xB018) (1) (fun d => manualTrigger d)) st

/-- NV_CMD_REFRNOW (R343), by an accessor. -/
def execNvCmdRefrnow (a : Accessor) (st : State) : Host.Outcome State Fault Refusal :=
  sysRow (wordCmd a (0xB420) (1) (fun d => refreshStart d)) st

/-- REFRESH_START (R343). -/
def execRefreshStart (st : State) : Host.Outcome State Fault Refusal :=
  sysRow (timed (fun d => refreshDue d) (fun d => refreshStart d)) st

/-- REFRESH_BLOCK (R343), and what the store meets. -/
def execRefreshBlock (k : StoreCase) (st : State) : Host.Outcome State Fault Refusal :=
  sysRow (timedS (fun d => refreshBlockDue d) (fun s => refreshBlock s k)) st

/-- UPD_CONFIRM (R355). -/
def execUpdConfirm (st : State) : Host.Outcome State Fault Refusal :=
  sysRow (timed (fun d => confirmDue d) (fun d => updConfirm d)) st

/-- UPD_FALLBACK (R355). -/
def execUpdFallback (st : State) : Host.Outcome State Fault Refusal :=
  sysRow (timed (fun d => fallbackDue d) (fun d => trialFailed d (runSlot d))) st

/-- UPD_VERIFIED (R353). -/
def execUpdVerified (st : State) : Host.Outcome State Fault Refusal :=
  sysRow (latchedS (fun s => if s.dev.fl GL_STATUS_MHALT then s else updVerified s)) st

/-- UP_CMD_CONFIRM (R355), by an accessor. -/
def execUpCmdConfirm (a : Accessor) (st : State) : Host.Outcome State Fault Refusal :=
  sysRow (wordCmd a (0xB824) (1) (fun d => upCmdConfirm d)) st

/-- UP_CMD_RLYSTOP (R361), by an accessor. -/
def execUpCmdRlystop (a : Accessor) (st : State) : Host.Outcome State Fault Refusal :=
  sysRow (wordCmd a (0xB824) (2) (fun d => relayStop d)) st

/-- RELAY_VERIFY_RESULT (R359), the oldest result received on ring `r`. -/
def execRelayVerifyResult (r : Fin 8) (st : State) : Host.Outcome State Fault Refusal :=
  sysRow (takes (fun d => !(d.rg r.val).vers.isEmpty) (fun d => relayVerify d r.val)) st

/-- RELAY_RELEASE (R360), of the stage at channel `c`. -/
def execRelayRelease (c : Fin 256) (st : State) : Host.Outcome State Fault Refusal :=
  sysRow (latched (fun d => relayRelease d c.val)) st

/-- RELAY_WRITE_DONE (R359), of the stage at channel `c`. -/
def execRelayWriteDone (c : Fin 256) (st : State) : Host.Outcome State Fault Refusal :=
  sysRow (timed (fun d => writeDoneDue d c.val) (fun d => writeDone d c.val)) st

/-- RELAY_SKIP (R360), of the stage at channel `c`. -/
def execRelaySkip (c : Fin 256) (st : State) : Host.Outcome State Fault Refusal :=
  sysRow (timed (fun d => relaySkipDue d c.val) (fun d => relaySkip d c.val)) st

/-- RELAY_RESUME (R361), of the round of ring `r`. -/
def execRelayResume (r : Fin 8) (st : State) : Host.Outcome State Fault Refusal :=
  sysRow (latchedS (fun s => if s.dev.fl GL_STATUS_MHALT then s else relayResume s r.val)) st

end Sys2Proof.Machine
end

