-- ==== Sys2Proof/Machine/RowTwoWire.lean ====
section
/-! DEFINITION. The commands of the two-wire ports (R364 to R380). -/

namespace Sys2Proof.Machine
open R

/-- TWB_ADDRESS (R365), with the bytes of a word that its START cut off; for a wake that it causes, whether the main
supplies are good, and the ACLK cycles to tick 0. -/
def execTwbAddress (addr : BitVec 7) (read : Bool) (part : Fin 4) (mainGood : Bool) (aclk : Word) (st : State) : Host.Outcome State Fault Refusal :=
  sysRow (fun s => twbPhase s addr.toNat read part.val mainGood aclk.toNat) st

/-- TWB_PAGE_WRITE (R365), with the data byte. -/
def execTwbPageWrite (b : Byte) (st : State) : Host.Outcome State Fault Refusal :=
  sysRow (latched (fun d => twbPageWrite d b.toNat)) st

/-- TWB_POINTER_WRITE (R366), with the data byte. -/
def execTwbPointerWrite (b : Byte) (st : State) : Host.Outcome State Fault Refusal :=
  sysRow (latched (fun d => twbPointerWrite d b.toNat)) st

/-- TWB_WORD_WRITE (R367), with the word. -/
def execTwbWordWrite (w : Word) (st : State) : Host.Outcome State Fault Refusal :=
  sysRow (latched (fun d => twbWordWrite d w.toNat)) st

/-- TWB_WORD_READ (R367). -/
def execTwbWordRead (st : State) : Host.Outcome State Fault Refusal :=
  sysRow (latchedS (fun s => twbWordRead s)) st

/-- TWB_STOP (R367), with the bytes of the word in hand that are complete; for a read, 0 says that the last word was sent
whole. -/
def execTwbStop (part : Fin 4) (st : State) : Host.Outcome State Fault Refusal :=
  sysRow (latched (fun d => twbStop d part.val)) st

/-- TWB_ABORT (R371), with the bytes of the word in hand that are complete. -/
def execTwbAbort (part : Fin 4) (st : State) : Host.Outcome State Fault Refusal :=
  sysRow (latched (fun d => twbAbort d part.val)) st

/-- TWB_HOLD_TIMEOUT (R368), of a write of a word, or of a read. -/
def execTwbHoldTimeout (wr : Bool) (w : Word) (st : State) : Host.Outcome State Fault Refusal :=
  sysRow (latched (fun d => twbHoldTimeout d wr w.toNat)) st

/-- TWB_ALERT_RESPONSE (R373), against the byte of another target; 0xFF where there is none. -/
def execTwbAlertResponse (other : Byte) (st : State) : Host.Outcome State Fault Refusal :=
  sysRow (latched (fun d => twbAlertResponse d other.toNat)) st

/-- TWA_POLL (R378), of an entry, with SDA low or not where the bus is checked. -/
def execTwaPoll (i : Fin 16) (sdaLow : Bool) (st : State) : Host.Outcome State Fault Refusal :=
  sysRow (timed (fun d => pollDue d i.val) (fun d => twaPoll d i.val sdaLow)) st

/-- TWA_POLL_RESULT (R378), of the transfer in progress. -/
def execTwaPollResult (x : TwaResult) (st : State) : Host.Outcome State Fault Refusal :=
  sysRow (latched (fun d => twaResult d x)) st

/-- TWA_PROTOCOL_ERROR (R376). -/
def execTwaProtocolError (st : State) : Host.Outcome State Fault Refusal :=
  sysRow (latched (fun d => twaProto d)) st

/-- TWA_SCL_TIMEOUT (R376). -/
def execTwaSclTimeout (st : State) : Host.Outcome State Fault Refusal :=
  sysRow (latched (fun d => twaSclTimeout d)) st

/-- TWA_ALERT (R379), with what the alert response read meets. -/
def execTwaAlert (a : AlertRead) (st : State) : Host.Outcome State Fault Refusal :=
  sysRow (latched (fun d => twaAlert d (a.answer.map BitVec.toNat) a.sdaLow)) st

end Sys2Proof.Machine
end

