-- ==== Sys2Proof/Machine/Dispatch.lean ====
section
/-! DEFINITION. One arm per command: each calls its own meaning. -/

namespace Sys2Proof.Machine

def exec (i : Instr) (s : State) : Host.Outcome State Fault Refusal :=
  match i with
  | .tickEdge p => Sys2Proof.Machine.execTickEdge p s
  | .frameBoundary => Sys2Proof.Machine.execFrameBoundary s
  | .syncCapture pm => Sys2Proof.Machine.execSyncCapture pm s
  | .syncMiss => Sys2Proof.Machine.execSyncMiss s
  | .rgCmdReset a r => Sys2Proof.Machine.execRgCmdReset a r s
  | .rgCmdClrcnt a r => Sys2Proof.Machine.execRgCmdClrcnt a r s
  | .trainingFrameReturn r n m => Sys2Proof.Machine.execTrainingFrameReturn r n m s
  | .lockTimeout r => Sys2Proof.Machine.execLockTimeout r s
  | .measureComplete r fwd rev own dloop => Sys2Proof.Machine.execMeasureComplete r fwd rev own dloop s
  | .trainRetry r => Sys2Proof.Machine.execTrainRetry r s
  | .upstreamFrame r f => Sys2Proof.Machine.execUpstreamFrame r f s
  | .notReporting c => Sys2Proof.Machine.execNotReporting c s
  | .breakBeacon r pos fnum => Sys2Proof.Machine.execBreakBeacon r pos fnum s
  | .rxSofLoss r => Sys2Proof.Machine.execRxSofLoss r s
  | .splitStart r => Sys2Proof.Machine.execSplitStart r s
  | .splitTrainTimeout r => Sys2Proof.Machine.execSplitTrainTimeout r s
  | .strayToken r => Sys2Proof.Machine.execStrayToken r s
  | .stageEvent r => Sys2Proof.Machine.execStageEvent r s
  | .identityMatch c => Sys2Proof.Machine.execIdentityMatch c s
  | .configPieceAck c => Sys2Proof.Machine.execConfigPieceAck c s
  | .reident a c => Sys2Proof.Machine.execReident a c s
  | .loopFollowErr t => Sys2Proof.Machine.execLoopFollowErr t s
  | .tickOverrun t => Sys2Proof.Machine.execTickOverrun t s
  | .feclr a t => Sys2Proof.Machine.execFeclr a t s
  | .clrpeak a => Sys2Proof.Machine.execClrpeak a s
  | .stageHold a guard hold => Sys2Proof.Machine.execStageHold a guard hold s
  | .prepTimeout n => Sys2Proof.Machine.execPrepTimeout n s
  | .dwellEnd n => Sys2Proof.Machine.execDwellEnd n s
  | .capacityEnd n => Sys2Proof.Machine.execCapacityEnd n s
  | .phaseSenseFail n h => Sys2Proof.Machine.execPhaseSenseFail n h s
  | .readyTimeout x0 => Sys2Proof.Machine.execReadyTimeout x0 s
  | .hvokReturn x0 => Sys2Proof.Machine.execHvokReturn x0 s
  | .feederRunResend x0 => Sys2Proof.Machine.execFeederRunResend x0 s
  | .senseClearReturn x0 => Sys2Proof.Machine.execSenseClearReturn x0 s
  | .busWindow w => Sys2Proof.Machine.execBusWindow w s
  | .busCapacity => Sys2Proof.Machine.execBusCapacity s
  | .busCapacityEnd => Sys2Proof.Machine.execBusCapacityEnd s
  | .fdCmdRemove a x1 => Sys2Proof.Machine.execFdCmdRemove a x1 s
  | .fdCmdReadmit a x1 => Sys2Proof.Machine.execFdCmdReadmit a x1 s
  | .slowLoss => Sys2Proof.Machine.execSlowLoss s
  | .holdupTaken => Sys2Proof.Machine.execHoldupTaken s
  | .emergAssert => Sys2Proof.Machine.execEmergAssert s
  | .emergClear => Sys2Proof.Machine.execEmergClear s
  | .handbackStart => Sys2Proof.Machine.execHandbackStart s
  | .stringCloseTimeout j => Sys2Proof.Machine.execStringCloseTimeout j s
  | .stringOffTimeout j => Sys2Proof.Machine.execStringOffTimeout j s
  | .bsCmdOpen a j => Sys2Proof.Machine.execBsCmdOpen a j s
  | .bsCmdClose a j => Sys2Proof.Machine.execBsCmdClose a j s
  | .trampExpiry f => Sys2Proof.Machine.execTrampExpiry f s
  | .fuseTrip f => Sys2Proof.Machine.execFuseTrip f s
  | .fuseRetry f => Sys2Proof.Machine.execFuseRetry f s
  | .rcntReset f => Sys2Proof.Machine.execRcntReset f s
  | .fuseTsense f => Sys2Proof.Machine.execFuseTsense f s
  | .feedRevert n => Sys2Proof.Machine.execFeedRevert n s
  | .feedXfer n => Sys2Proof.Machine.execFeedXfer n s
  | .feedStuck n => Sys2Proof.Machine.execFeedStuck n s
  | .fuCmdOn a f => Sys2Proof.Machine.execFuCmdOn a f s
  | .fuCmdOff a f => Sys2Proof.Machine.execFuCmdOff a f s
  | .fuCmdReset a f => Sys2Proof.Machine.execFuCmdReset a f s
  | .fuCmdXfer a f => Sys2Proof.Machine.execFuCmdXfer a f s
  | .sqCmdOn a => Sys2Proof.Machine.execSqCmdOn a s
  | .sqCmdOff a => Sys2Proof.Machine.execSqCmdOff a s
  | .sqCmdClrflt a => Sys2Proof.Machine.execSqCmdClrflt a s
  | .sqCmdStepon a t => Sys2Proof.Machine.execSqCmdStepon a t s
  | .sqCmdStepoff a t => Sys2Proof.Machine.execSqCmdStepoff a t s
  | .sqCmdClrcnt a => Sys2Proof.Machine.execSqCmdClrcnt a s
  | .stepBegin => Sys2Proof.Machine.execStepBegin s
  | .stepComplete t => Sys2Proof.Machine.execStepComplete t s
  | .stepTimeout t => Sys2Proof.Machine.execStepTimeout t s
  | .minoffEnd => Sys2Proof.Machine.execMinoffEnd s
  | .seqRetry => Sys2Proof.Machine.execSeqRetry s
  | .rstoutRelease => Sys2Proof.Machine.execRstoutRelease s
  | .mrShort ms => Sys2Proof.Machine.execMrShort ms s
  | .mrLong ms => Sys2Proof.Machine.execMrLong ms s
  | .mrForceoff => Sys2Proof.Machine.execMrForceoff s
  | .forceClear => Sys2Proof.Machine.execForceClear s
  | .supervisionEntry n ov => Sys2Proof.Machine.execSupervisionEntry n ov s
  | .capRelease k => Sys2Proof.Machine.execCapRelease k s
  | .avgWindow c => Sys2Proof.Machine.execAvgWindow c s
  | .snapshotEntryWrite => Sys2Proof.Machine.execSnapshotEntryWrite s
  | .tmPkRead a q => Sys2Proof.Machine.execTmPkRead a q s
  | .tmChstatRead a => Sys2Proof.Machine.execTmChstatRead a s
  | .thermDie crit => Sys2Proof.Machine.execThermDie crit s
  | .thermDieClear crit => Sys2Proof.Machine.execThermDieClear crit s
  | .thermLevel => Sys2Proof.Machine.execThermLevel s
  | .thermRate j => Sys2Proof.Machine.execThermRate j s
  | .thermStage c flt => Sys2Proof.Machine.execThermStage c flt s
  | .pacedOperationStart k => Sys2Proof.Machine.execPacedOperationStart k s
  | .planPeriodEnd => Sys2Proof.Machine.execPlanPeriodEnd s
  | .plannerWrite => Sys2Proof.Machine.execPlannerWrite s
  | .planExpired => Sys2Proof.Machine.execPlanExpired s
  | .mpCmdApprove a => Sys2Proof.Machine.execMpCmdApprove a s
  | .mpCmdReject a => Sys2Proof.Machine.execMpCmdReject a s
  | .mpCmdRunnow a => Sys2Proof.Machine.execMpCmdRunnow a s
  | .mpCmdRebase a => Sys2Proof.Machine.execMpCmdRebase a s
  | .idChip => Sys2Proof.Machine.execIdChip s
  | .idResume => Sys2Proof.Machine.execIdResume s
  | .measurementBlock r => Sys2Proof.Machine.execMeasurementBlock r s
  | .hqCqDb e ix => Sys2Proof.Machine.execHqCqDb e ix s
  | .hqCplDb e ix => Sys2Proof.Machine.execHqCplDb e ix s
  | .hqEvqDb e ix => Sys2Proof.Machine.execHqEvqDb e ix s
  | .hqTelDb e ix => Sys2Proof.Machine.execHqTelDb e ix s
  | .descriptorFetch e ds => Sys2Proof.Machine.execDescriptorFetch e ds s
  | .pairWindowExpiry q => Sys2Proof.Machine.execPairWindowExpiry q s
  | .auVerdict act => Sys2Proof.Machine.execAuVerdict act s
  | .verdictTimeout q => Sys2Proof.Machine.execVerdictTimeout q s
  | .divergePulseEnd => Sys2Proof.Machine.execDivergePulseEnd s
  | .authChange => Sys2Proof.Machine.execAuthChange s
  | .auTokcmdGo => Sys2Proof.Machine.execAuTokcmdGo s
  | .authTokenCheck => Sys2Proof.Machine.execAuthTokenCheck s
  | .leaseExpiry => Sys2Proof.Machine.execLeaseExpiry s
  | .phCopyDone hole ok data => Sys2Proof.Machine.execPhCopyDone hole ok data s
  | .commitChecksDone => Sys2Proof.Machine.execCommitChecksDone s
  | .phClaim e hole => Sys2Proof.Machine.execPhClaim e hole s
  | .phRelease e hole => Sys2Proof.Machine.execPhRelease e hole s
  | .phBar2Write e ofs data => Sys2Proof.Machine.execPhBar2Write e ofs data s
  | .phReclaim hole => Sys2Proof.Machine.execPhReclaim hole s
  | .hostDmaErr e k => Sys2Proof.Machine.execHostDmaErr e k s
  | .msixMessage e v => Sys2Proof.Machine.execMsixMessage e v s
  | .endpointDown e => Sys2Proof.Machine.execEndpointDown e s
  | .endpointUp e => Sys2Proof.Machine.execEndpointUp e s
  | .leaseBelowOneSecond => Sys2Proof.Machine.execLeaseBelowOneSecond s
  | .nop h => Sys2Proof.Machine.execNop h s
  | .queryReg h ofs cnt => Sys2Proof.Machine.execQueryReg h ofs cnt s
  | .queryChan h c => Sys2Proof.Machine.execQueryChan h c s
  | .phCopy h hole dir len addr => Sys2Proof.Machine.execPhCopy h hole dir len addr s
  | .cfgLoad h hole ofs len => Sys2Proof.Machine.execCfgLoad h hole ofs len s
  | .cfgCommit h len => Sys2Proof.Machine.execCfgCommit h len s
  | .railVset h n v => Sys2Proof.Machine.execRailVset h n v s
  | .railOn h n => Sys2Proof.Machine.execRailOn h n s
  | .railOff h n => Sys2Proof.Machine.execRailOff h n s
  | .fuseOn h f => Sys2Proof.Machine.execFuseOn h f s
  | .fuseOff h f => Sys2Proof.Machine.execFuseOff h f s
  | .fuseReset h f => Sys2Proof.Machine.execFuseReset h f s
  | .fgOn h n => Sys2Proof.Machine.execFgOn h n s
  | .fgOff h n => Sys2Proof.Machine.execFgOff h n s
  | .fgXfer h n => Sys2Proof.Machine.execFgXfer h n s
  | .busVset h v => Sys2Proof.Machine.execBusVset h v s
  | .feederRemove h x1 => Sys2Proof.Machine.execFeederRemove h x1 s
  | .feederReadmit h x1 => Sys2Proof.Machine.execFeederReadmit h x1 s
  | .capSet h kind n w => Sys2Proof.Machine.execCapSet h kind n w s
  | .throtSet h k on => Sys2Proof.Machine.execThrotSet h k on s
  | .seqOn h => Sys2Proof.Machine.execSeqOn h s
  | .seqOff h => Sys2Proof.Machine.execSeqOff h s
  | .seqStepon h t => Sys2Proof.Machine.execSeqStepon h t s
  | .seqStepoff h t => Sys2Proof.Machine.execSeqStepoff h t s
  | .seqClrflt h => Sys2Proof.Machine.execSeqClrflt h s
  | .loopSetpt h t v => Sys2Proof.Machine.execLoopSetpt h t v s
  | .loopMode h t mode => Sys2Proof.Machine.execLoopMode h t mode s
  | .loopManout h t v => Sys2Proof.Machine.execLoopManout h t v s
  | .chanReident h c => Sys2Proof.Machine.execChanReident h c s
  | .ringReset h r => Sys2Proof.Machine.execRingReset h r s
  | .planApprove h num => Sys2Proof.Machine.execPlanApprove h num s
  | .planReject h num => Sys2Proof.Machine.execPlanReject h num s
  | .evRead h hole region cnt start => Sys2Proof.Machine.execEvRead h hole region cnt start s
  | .evNote h code pay => Sys2Proof.Machine.execEvNote h code pay s
  | .evClear h hole scope => Sys2Proof.Machine.execEvClear h hole scope s
  | .updBegin h size digest => Sys2Proof.Machine.execUpdBegin h size digest s
  | .updPiece h hole piece k => Sys2Proof.Machine.execUpdPiece h hole piece k s
  | .updActivate h => Sys2Proof.Machine.execUpdActivate h s
  | .updStages h r => Sys2Proof.Machine.execUpdStages h r s
  | .updAbort h => Sys2Proof.Machine.execUpdAbort h s
  | .auMode h mode => Sys2Proof.Machine.execAuMode h mode s
  | .devReset h => Sys2Proof.Machine.execDevReset h s
  | .devSleep h => Sys2Proof.Machine.execDevSleep h s
  | .clearOverwriteDone => Sys2Proof.Machine.execClearOverwriteDone s
  | .recordWrite k => Sys2Proof.Machine.execRecordWrite k s
  | .recordClose cls src => Sys2Proof.Machine.execRecordClose cls src s
  | .evCmdRegister a => Sys2Proof.Machine.execEvCmdRegister a s
  | .nvCmdRefrnow a => Sys2Proof.Machine.execNvCmdRefrnow a s
  | .refreshStart => Sys2Proof.Machine.execRefreshStart s
  | .refreshBlock k => Sys2Proof.Machine.execRefreshBlock k s
  | .updConfirm => Sys2Proof.Machine.execUpdConfirm s
  | .updFallback => Sys2Proof.Machine.execUpdFallback s
  | .updVerified => Sys2Proof.Machine.execUpdVerified s
  | .upCmdConfirm a => Sys2Proof.Machine.execUpCmdConfirm a s
  | .upCmdRlystop a => Sys2Proof.Machine.execUpCmdRlystop a s
  | .relayVerifyResult r => Sys2Proof.Machine.execRelayVerifyResult r s
  | .relayRelease c => Sys2Proof.Machine.execRelayRelease c s
  | .relayWriteDone c => Sys2Proof.Machine.execRelayWriteDone c s
  | .relaySkip c => Sys2Proof.Machine.execRelaySkip c s
  | .relayResume r => Sys2Proof.Machine.execRelayResume r s
  | .twbAddress addr read part mainGood aclk => Sys2Proof.Machine.execTwbAddress addr read part mainGood aclk s
  | .twbPageWrite b => Sys2Proof.Machine.execTwbPageWrite b s
  | .twbPointerWrite b => Sys2Proof.Machine.execTwbPointerWrite b s
  | .twbWordWrite w => Sys2Proof.Machine.execTwbWordWrite w s
  | .twbWordRead => Sys2Proof.Machine.execTwbWordRead s
  | .twbStop part => Sys2Proof.Machine.execTwbStop part s
  | .twbAbort part => Sys2Proof.Machine.execTwbAbort part s
  | .twbHoldTimeout wr w => Sys2Proof.Machine.execTwbHoldTimeout wr w s
  | .twbAlertResponse other => Sys2Proof.Machine.execTwbAlertResponse other s
  | .twaPoll x0 sdaLow => Sys2Proof.Machine.execTwaPoll x0 sdaLow s
  | .twaPollResult x => Sys2Proof.Machine.execTwaPollResult x s
  | .twaProtocolError => Sys2Proof.Machine.execTwaProtocolError s
  | .twaSclTimeout => Sys2Proof.Machine.execTwaSclTimeout s
  | .twaAlert a => Sys2Proof.Machine.execTwaAlert a s
  | .portAttach c1 c2 => Sys2Proof.Machine.execPortAttach c1 c2 s
  | .sourceDetach pm => Sys2Proof.Machine.execSourceDetach pm s
  | .sinkDetach => Sys2Proof.Machine.execSinkDetach s
  | .accessoryDetach => Sys2Proof.Machine.execAccessoryDetach s
  | .dischargeEnd => Sys2Proof.Machine.execDischargeEnd s
  | .dischargeTimeout => Sys2Proof.Machine.execDischargeTimeout s
  | .errorRecoveryEnd => Sys2Proof.Machine.execErrorRecoveryEnd s
  | .spCmdHrst a => Sys2Proof.Machine.execSpCmdHrst a s
  | .spCmdErrrec a => Sys2Proof.Machine.execSpCmdErrrec a s
  | .spCmdDeauth a => Sys2Proof.Machine.execSpCmdDeauth a s
  | .pdRequest pos volt curr => Sys2Proof.Machine.execPdRequest pos volt curr s
  | .psRdyTimeout => Sys2Proof.Machine.execPsRdyTimeout s
  | .ppsTimeout => Sys2Proof.Machine.execPpsTimeout s
  | .pdSourceCaps l => Sys2Proof.Machine.execPdSourceCaps l s
  | .pdAccept => Sys2Proof.Machine.execPdAccept s
  | .pdPsRdy => Sys2Proof.Machine.execPdPsRdy s
  | .ppsKeepalive => Sys2Proof.Machine.execPpsKeepalive s
  | .prSwap => Sys2Proof.Machine.execPrSwap s
  | .drSwap => Sys2Proof.Machine.execDrSwap s
  | .pdHardReset => Sys2Proof.Machine.execPdHardReset s
  | .pdNotSupported => Sys2Proof.Machine.execPdNotSupported s
  | .usbCommand bytes => Sys2Proof.Machine.execUsbCommand bytes s
  | .usbResponseRead => Sys2Proof.Machine.execUsbResponseRead s
  | .getState => Sys2Proof.Machine.execGetState s
  | .getNonce => Sys2Proof.Machine.execGetNonce s
  | .auth t => Sys2Proof.Machine.execAuth t s
  | .deauth => Sys2Proof.Machine.execDeauth s
  | .keyWrite k key => Sys2Proof.Machine.execKeyWrite k key s
  | .keyLock => Sys2Proof.Machine.execKeyLock s
  | .usbStall => Sys2Proof.Machine.execUsbStall s
  | .sessionExpiry => Sys2Proof.Machine.execSessionExpiry s
  | .drpToggle => Sys2Proof.Machine.execDrpToggle s
  | .usbStandardRequest req value => Sys2Proof.Machine.execUsbStandardRequest req value s
  | .serviceBoot bootsel aclk => Sys2Proof.Machine.execServiceBoot bootsel aclk s
  | .promotion good => Sys2Proof.Machine.execPromotion good s
  | .vsvcLoss => Sys2Proof.Machine.execVsvcLoss s
  | .powerOnReset => Sys2Proof.Machine.execPowerOnReset s
  | .resetNAssert => Sys2Proof.Machine.execResetNAssert s
  | .watchdogExpiry => Sys2Proof.Machine.execWatchdogExpiry s
  | .pmCmdReset => Sys2Proof.Machine.execPmCmdReset s
  | .supplyFault k => Sys2Proof.Machine.execSupplyFault k s
  | .clockLoss => Sys2Proof.Machine.execClockLoss s
  | .aclkFallback => Sys2Proof.Machine.execAclkFallback s
  | .mgmtHalt => Sys2Proof.Machine.execMgmtHalt s
  | .startUp bootsel good aclk => Sys2Proof.Machine.execStartUp bootsel good aclk s
  | .startUpEnd => Sys2Proof.Machine.execStartUpEnd s
  | .pmCmdSleep => Sys2Proof.Machine.execPmCmdSleep s
  | .sleepWaitsDone => Sys2Proof.Machine.execSleepWaitsDone s
  | .sleepPowerDown mainGood aclk => Sys2Proof.Machine.execSleepPowerDown mainGood aclk s
  | .wakeEvent k mainGood aclk => Sys2Proof.Machine.execWakeEvent k mainGood aclk s
  | .wakeComplete => Sys2Proof.Machine.execWakeComplete s
  | .vinAonFault => Sys2Proof.Machine.execVinAonFault s
  | .mainSuppliesGood aclk => Sys2Proof.Machine.execMainSuppliesGood aclk s
  | .boundaryScan testen => Sys2Proof.Machine.execBoundaryScan testen s
  | .registerWrite a whole ofs v => Sys2Proof.Machine.execRegisterWrite a whole ofs v s
  | .rcRead a ofs => Sys2Proof.Machine.execRcRead a ofs s
  | .llRead a ofs => Sys2Proof.Machine.execLlRead a ofs s
  | .registerReadBusError a ofs whole => Sys2Proof.Machine.execRegisterReadBusError a ofs whole s

end Sys2Proof.Machine
end

