-- ==== Sys2Proof/Safety.lean ====
section
/-! DEFINITION. What a sound state is, and the words the statements share: where in its tick a step finds the machine, a
quiet device, and what a command keeps of the register fields. -/

namespace Sys2Proof.Machine
open R

/-- Both memories are in canonical form: addresses strictly rising, no cell equal to what an unlisted address reads as. -/
def State.sound (s : State) : Prop := s.sys.nv.wf = true ∧ s.sys.ph.wf = true

/-- The machine where the commands of its tick are due: the reports of the tick are judged, and the commands that waited
before them have been handed over (R28, R185). -/
def State.atCommands (s : State) : Sys := toDispatch s.sys

/-- The machine where the timers and filters of its tick are due: phase B of the tick is done (R45, R47). -/
def State.atTimers (s : State) : Sys := toTimers s.sys

/-- The machine at the end of its tick: what the tick still had to do is done (R45). -/
def State.ended (s : State) : Sys := finishTick (s.sys.on clearOut)

/-- The device is in service between two pieces of work: no reset is in force and it is not asleep, and no shed waits to be
acted on. -/
abbrev Dev.quiet (d : Dev) : Prop := d.live = true ∧ d.bs.shedReq = 0

/-- The step meets its tick with phase B open to it: the edge after the tick is not open yet. -/
abbrev State.judging (s : State) : Prop := s.sys.dev.tb.frameOpen = false ∧ s.atCommands.dev.quiet

/-- The step meets its tick with phase C open to it. -/
abbrev State.expiring (s : State) : Prop := s.sys.dev.tb.frameOpen = false ∧ s.atTimers.dev.quiet

/-- A command that arrives is handed over at once: none waits before it, and fewer than 32 have been handed over in the tick
(R28). -/
abbrev State.turn (s : State) : Prop :=
  s.sys.dev.live = true ∧ s.judging ∧ dispNext s.atCommands.dev = none ∧ s.atCommands.dev.tb.handed < 32

/-- Every register field element outside the list reads in `e` as in `d`. -/
def KeepsBut (l : List (Reg × Nat)) (d e : Dev) : Prop :=
  ∀ (r : Reg) (ix : Nat), (∀ f ∈ l, r.id ≠ f.1.id ∨ ix ≠ f.2) → e.rd r ix = d.rd r ix

/-- The fields that a record may write besides the recorder's own queue (R26, R329). -/
def recFields : List (Reg × Nat) := [(EV_QREF, 0), (EV_EVT_QREF, 0), (EV_SUPP, 0), (EV_EVT_SUPP, 0)]

/-- The image of a commit passes every check of R347. -/
def commitOk (s : Sys) (c : CommitJob) : Bool :=
  match commitSteps s c.buf c.len false with
  | .ok _ => true
  | .fail _ _ _ => false

/-- A host command sent on PA or PB has been answered (R289, R293): its completion, with its status and result, is the last of
those that the tick writes. -/
abbrev Answered (h : Sender) (status result : Nat) (d e : Dev) : Prop :=
  accIx h.path < 2 →
    e.host.cpls.getLast? = some { ctx := ctxOf d h, status := status, result := result, reason := 0 }

/-- One nanosecond of R53: the rate word goes into the fraction; a carry adds a count, and a borrow suppresses one. -/
def nsStep (rate : Int) (x : Nat × Nat) : Nat × Nat :=
  let f : Int := x.2 + rate
  if 2 ^ 32 ≤ f then (x.1 + 2, (f - 2 ^ 32).toNat)
  else if f < 0 then (x.1, (f + 2 ^ 32).toNat)
  else (x.1 + 1, f.toNat)

/-- The LL words of the register space (R433): offset, low field, companion high field. -/
def llPairs : List (Nat × Reg × Reg) :=
  [(0x814, TB_PM_LO, TB_PM_HI), (0x83C, TB_SYNC_CAP_LO, TB_SYNC_CAP_HI), (0x850, TB_CK_LO, TB_CK_HI),
   (0x3864, LE_STATE_LO, LE_STATE_HI), (0xA060, TM_EOUT_LO, TM_EOUT_HI), (0xA068, TM_EIN_LO, TM_EIN_HI),
   (0xA080, TM_EHUB_LO, TM_EHUB_HI), (0xA088, TM_ECHG_LO, TM_ECHG_HI), (0x1844, AU_NONCE_LO, AU_NONCE_HI),
   (0xB02C, EV_NONCE_LO, EV_NONCE_HI), (0x004, GL_UID_LO, GL_UID_HI)]

/-- Words whose read is more than a read of their fields: the readout window, the telemetry holds and their status
(R258, R265, R337). -/
def specialRead (ofs : Nat) : Bool :=
  (decide (0xB200 ≤ ofs) && decide (ofs < 0xB240)) || (decide (0xA040 ≤ ofs) && decide (ofs < 0xA060)) || ofs == 0xA02C

/-- Fields that a bus error of an accessor may change (R15, R423). -/
def busErrFields : List (Reg × Nat) :=
  [(IN_BUSERR_PA, 0), (IN_BUSERR_PB, 0), (IN_BUSERR_TWB, 0), (IN_BUSERR_WIDTH, 0), (IN_BUSERR_LOC, 0), (IN_BUSERR_RSVBIT, 0),
   (IN_BUSERR_WRITE, 0), (IN_BUSERR_READ, 0), (IN_BERR_OFS_OFS, 0), (IN_BERR_OFS_ACC, 0), (IN_BERR_OFS_KIND, 0),
   (IN_BERR_OFS_WR, 0), (IN_BERR_CNT, 0), (EV_QREF, 0), (EV_EVT_QREF, 0), (EV_SUPP, 0), (EV_EVT_SUPP, 0)]

/-- Commands that may write hole memory (R301); a boundary hands over the commands that still wait in its tick. -/
def writesHoles : Instr → Bool
  | .tickEdge _ | .frameBoundary | .queryReg _ _ _ | .queryChan _ _ | .evRead _ _ _ _ _ | .phBar2Write _ _ _
  | .phCopyDone _ _ _ => true
  | _ => false

/-- Commands that may write the store (R340): its records, buffers, slots and keys, and the checkpoint of frame 0 of a start, of
every thousandth frame, and of sleep entry (R55). -/
def writesStore : Instr → Bool
  | .tickEdge _ | .frameBoundary | .cfgLoad _ _ _ _ | .updPiece _ _ _ _ | .recordWrite _ | .refreshBlock _ | .keyWrite _ _
  | .sleepPowerDown _ _ | .clearOverwriteDone | .startUp _ _ _ | .serviceBoot _ _ | .wakeEvent _ _ _
  | .mainSuppliesGood _ | .twbAddress _ _ _ _ _ => true
  | _ => false

/-- The fields with a reset value other than 0 in every element: the field, how many elements it has, the value. -/
def resetValues : List (Reg × Nat × Nat) :=
  [(TB_SYNC_PERIOD, 1, 1000000000), (TB_SYNC_WIN, 1, 1000000), (TB_SYNC_GAIN_KP, 1, 1), (TB_SYNC_GAIN_KI, 1, 4),
   (TB_SYNC_GAIN_MISS_LIM, 1, 3), (TB_SYNC_GAIN_LOCK_N, 1, 4), (TB_SYNC_LOCKTHR, 1, 100), (TB_SYNC_STEPLIM, 1, 10000),
   (TB_SYNCOUT_CFG_SHIFT, 1, 10), (TB_SYNCOUT_CFG_WIDTH, 1, 1), (FD_VSET_VSET, 1, 48000), (FD_VSET_SLEW, 1, 10),
   (FD_WIN_UV_UVW, 1, 4300), (FD_WIN_UV_UVF, 1, 4000), (FD_WIN_OV_OVW, 1, 5300), (FD_WIN_OV_OVF, 1, 5500),
   (FD_FILT_WFILT, 1, 100), (FD_FILT_FFILT, 1, 20), (FD_TIME_READY, 1, 5000), (FD_TIME_RAMPT, 1, 1000), (FD_CAPT_SATT,
   1, 100), (FD_CAPT_HVOK, 1, 10000), (FD_FM_W, 8, 1), (FD_FM_HOTW, 8, 128), (FD_FM_AGE, 8, 32768), (BS_DETA_SLOWF, 1,
   50), (BS_DETA_VLOSS, 1, 42000), (BS_DETB_DVDT, 1, 200), (BS_DETB_DETN, 1, 3), (BS_DETB_EMFILT, 1, 2),
   (BS_DETB_EMCLS, 1, 3), (BS_HB_NFEED, 1, 1), (BS_HB_HBT, 1, 10000), (BS_SLEW_HSLEW, 1, 50), (BS_SLEW_CSLEW, 1, 10),
   (BS_CHG_VCHG, 1, 54000), (BS_TAPER_VTAPER, 1, 500), (BS_TAPER_VMATCH, 1, 500), (BS_PLAN_ETA, 1, 950),
   (BS_PLAN_ETAR, 1, 900)] ++
  [(BS_RSV_VMIN, 1, 44000), (BS_RSV_ERES, 1, 500), (BS_TIME_CLOSE, 1, 1000), (BS_LCLS_F, 8, 4294967295), (BS_LCLS_R,
   2, 4294967295), (BS_STR_CAP, 8, 32768), (BS_LEG_W, 8, 1), (FU_CFG_KERF, 64, 10), (FU_INR_TRAMP, 64, 100), (FU_TMAX,
   64, 150), (FU_CSCALE, 64, 128), (FU_RTY_NRTY, 64, 3), (FU_RTY_BOFF, 64, 10), (FU_RTY_RWIN, 64, 60), (SQ_CTRL_GACT,
   1, 1), (SQ_CTRL_FORCET, 1, 8), (SQ_CFG_RSTDLY, 1, 10), (SQ_CFG_SFILT, 1, 100), (SQ_TIME_MINOFF, 1, 10),
   (SQ_TIME_BOFF, 1, 100), (CP_REL_REL, 1, 1000), (CP_GPOL_GDEAD, 1, 50), (CP_GPOL_GREF, 1, 100), (CP_HUB_HYST, 1,
   16), (CP_GPIO_OUT, 1, 15), (CP_RAIL, 16, 268435456), (CP_FG, 16, 268435456), (TM_SNAP_SPER, 1, 1), (TM_AVGK0_PH, 1,
   10), (TM_AVGK0_LEAD, 1, 10), (TM_AVGK0_FUSE, 1, 10), (TM_AVGK0_PSW, 1, 10), (TM_AVGK1_STR, 1, 10), (TM_AVGK1_LEG,
   1, 10), (TM_AVGK1_FM, 1, 10), (TM_CHSTAT_EMPTY, 1, 255), (TH_CTRL_CRIT_ACT, 1, 1), (TH_LVL_TL0, 1, 110),
   (TH_LVL_TSTEP, 1, 5), (TH_LVL_THYST, 1, 3)] ++
  [(TH_DLIM_TWARN, 1, 125), (TH_DLIM_TCRIT, 1, 145), (TH_DLIM_CFILT, 1, 100), (TH_PAUSE_1, 1, 1), (TH_PAUSE_2, 1, 2),
   (TH_PAUSE_3, 1, 4), (TH_PAUSE_4, 1, 8), (TH_PAUSE_5, 1, 16), (TH_PAUSE_6, 1, 32), (TH_PAUSE_7, 1, 64),
   (TH_STG_TWARN, 7, 125), (TH_STG_TFAULT, 7, 140), (TH_SFILT, 1, 100), (HQ_CQ_CFG_LOG2SZ, 2, 4), (HQ_CPL_CFG_LOG2SZ,
   1, 4), (HQ_CPL_CFG_ICOUNT, 2, 1), (HQ_CPL_CFG_ITIME, 2, 100), (HQ_EVQ_CFG_LOG2SZ, 2, 4), (HQ_EVQ_CFG_ICOUNT, 2, 1),
   (HQ_EVQ_CFG_ITIME, 2, 100), (HQ_TEL_CFG_LOG2SZ, 2, 4), (HQ_PHTO, 2, 10000), (EV_CTRL_TRIG_EN, 1, 1),
   (EV_FOLD_QUIET, 1, 1000), (EV_RLIM_RATE, 1, 100), (EV_RLIM_BURST, 1, 16), (EV_ROVR_BURST, 16, 16), (EV_ROVR_RATE,
   16, 100), (EV_TRIG_SEV, 8, 3), (TW_CTRL_TWA_MODE, 1, 1), (TW_TWB_ADDR, 1, 76), (TW_TWB_PADDR, 1, 77),
   (TW_TWA_CFG_STRMAX, 1, 25), (TW_TWA_CFG_NARB, 1, 8), (TW_TWA_CFG_NFAIL, 1, 3), (TW_POLL_HI, 16, 65535),
   (SP_CTRL_EN, 1, 1), (SP_CTRL_ROLE, 1, 1), (SP_CTRL_DRS_AUTO, 1, 1), (SP_SRC_IMAX, 1, 60)] ++
  [(SP_SRC_PDOEN, 1, 7), (SP_SRC_PPS_EN, 1, 1), (SP_SRC_SLEWDIV, 1, 40), (SP_SRC_VTOL, 1, 25), (SP_SNK_IOP, 1, 10),
   (SP_SNK_VMAX, 1, 5), (SP_SNK_PPSKA, 1, 8), (SP_VSNS_DIV, 1, 15)]

end Sys2Proof.Machine
end

