-- ==== Sys2Proof/Certificates/Slice0/Obligations.lean ====
section
/-! DEFINITION. The statements for the provers. `s` is the state before the command and `t` the state that `exec` answers; `.sys`
is the device with its memories and `.sys.dev` the device. `s.atCommands` and `s.atTimers` are `s` with the work of its tick done up
to the commands and up to the timers; `KeepsBut` names the register fields that may change. -/

open Sys2Proof Sys2Proof.Machine Sys2Proof.Machine.R

/-- TICK_EDGE and FRAME_BOUNDARY (R41, R42, R45, R53): with the time base running and the edge not yet open, TICK_EDGE
completes the tick in hand and opens the next: the tick counter and the frame position advance by 1 and the postmark
by R53, what is staged for the boundary applies, and phase A latches; where the frame position is 999 the edge is a
frame boundary, which returns it to 0, advances the frame number and does the duties of a frame. FRAME_BOUNDARY opens
that edge alone, and the TICK_EDGE after it latches. -/
def Obligations.TickEdgesAdvanceTheCounters : Prop :=
  (∀ (s : State) (p : Pins), s.sys.dev.live = true → s.sys.dev.tb.run = true → s.sys.dev.tb.frameOpen = false →
    s.ended.dev.rd TB_FRAME_POS ≠ 999 → ∃ t : State, exec (.tickEdge p) s = .next t ∧ t.pending = s.pending ∧ ∃ e :
    Dev, t.sys = (if (feclrApply (boundaryApply e false)).live then phaseA p
    { s.ended with dev := feclrApply (boundaryApply e false) } else
    { s.ended with dev := feclrApply (boundaryApply e false) }) ∧ e.rd TB_TICK = (s.ended.dev.rd TB_TICK + 1) % 2 ^ 32
    ∧ e.tb.now = s.ended.dev.tb.now + 1 ∧ e.tb.stage = 0 ∧ e.tb.pm = (pmAdvance s.ended.dev.tb.pm s.ended.dev.tb.frac
    (s.ended.dev.rdS TB_RATE)).1 + s.ended.dev.tb.stepNext ∧ e.rd TB_FRAME_POS = (s.ended.dev.rd TB_FRAME_POS + 1) % 2
    ^ 10 ∧ KeepsBut [(TB_TICK, 0), (TB_FRAME_POS, 0), (TB_RATE, 0)] s.ended.dev e) ∧
  (∀ (s : State) (p : Pins), s.sys.dev.live = true → s.sys.dev.tb.run = true → s.sys.dev.tb.frameOpen = false →
    s.ended.dev.rd TB_FRAME_POS = 999 → ∃ t : State, exec (.tickEdge p) s = .next t ∧ t.pending = s.pending ∧ ∃ e :
    Dev, t.sys = (if (frameDuties { s.ended with dev := e }).dev.live then phaseA p (frameDuties
    { s.ended with dev := e }) else frameDuties { s.ended with dev := e }) ∧ e.rd TB_TICK = (s.ended.dev.rd TB_TICK +
    1) % 2 ^ 32 ∧ e.tb.now = s.ended.dev.tb.now + 1 ∧ e.tb.stage = 0 ∧ e.tb.pm = (pmAdvance s.ended.dev.tb.pm
    s.ended.dev.tb.frac (s.ended.dev.rdS TB_RATE)).1 + s.ended.dev.tb.stepNext ∧ e.rd TB_FRAME_POS = 0 ∧ e.rd
    TB_FRAME_NUM = (s.ended.dev.rd TB_FRAME_NUM + 1) % 2 ^ 32 ∧ KeepsBut [(TB_TICK, 0), (TB_FRAME_POS, 0),
    (TB_FRAME_NUM, 0), (TB_RATE, 0)] s.ended.dev e) ∧
  (∀ (s : State), s.sys.dev.live = true → s.sys.dev.tb.run = true → s.sys.dev.tb.frameOpen = false → s.sys.dev.rd
    TB_FRAME_POS = 999 → ∃ t : State, exec (.frameBoundary) s = .next t ∧ t.pending = s.pending ∧ ∃ e : Dev, t.sys =
    (frameDuties { s.ended with dev := e }).on openFrame ∧ e.rd TB_TICK = (s.ended.dev.rd TB_TICK + 1) % 2 ^ 32 ∧
    e.tb.now = s.ended.dev.tb.now + 1 ∧ e.tb.stage = 0 ∧ e.tb.pm = (pmAdvance s.ended.dev.tb.pm s.ended.dev.tb.frac
    (s.ended.dev.rdS TB_RATE)).1 + s.ended.dev.tb.stepNext ∧ e.rd TB_FRAME_POS = 0 ∧ e.rd TB_FRAME_NUM =
    (s.ended.dev.rd TB_FRAME_NUM + 1) % 2 ^ 32 ∧ KeepsBut [(TB_TICK, 0), (TB_FRAME_POS, 0), (TB_FRAME_NUM, 0),
    (TB_RATE, 0)] s.ended.dev e) ∧
  (∀ (s : State) (p : Pins), s.sys.dev.live = true → s.sys.dev.tb.run = true → s.sys.dev.tb.frameOpen = true → ∃ t :
    State, exec (.tickEdge p) s = .next t ∧ t.pending = s.pending ∧ t.sys = phaseA p s.sys)

/-- SYNC_CAPTURE (R57 to R59): a capture is discarded as an outlier where it comes within half a period of the last
accepted one, and, in LOCKED, where its offset lies outside the window, which counts a miss; any other capture updates
the frequency accumulator and TB_SYNC_ERR, HOLDOVER returns to ACQUIRE, and the LOCK_N-th capture in a row within
LOCKTHR locks. A capture at or after the edge in hand belongs to the next tick and waits for it (R46). SYNC_MISS
(R59): a pulse that is due and missed is counted, and the MISS_LIM-th miss in a row in LOCKED enters HOLDOVER with the
frequency accumulator as the rate. -/
def Obligations.SyncPulsesDisciplineTheTimeBase : Prop :=
  (∀ (s : State) (pm : Word64), s.sys.dev.quiet → pm.toNat < s.sys.dev.tb.pm → s.sys.dev.rd TB_CTRL_SYNC_MODE ≠ 0 →
    capEarly s.sys.dev pm.toNat = true → ∃ t : State, exec (.syncCapture pm) s = .next t ∧ t.pending = s.pending ∧
    t.sys.dev.fl TB_EVT_OUTLIER = true ∧ t.sys.dev.rd TB_SYNC_CAP_LO = pm.toNat ∧ t.sys.dev.tb.lastCap =
    s.sys.dev.tb.lastCap ∧ KeepsBut [(TB_SYNC_CAP_LO, 0), (TB_SYNC_ERR, 0), (TB_EVT_OUTLIER, 0)] s.sys.dev t.sys.dev) ∧
  (∀ (s : State) (pm : Word64), s.sys.dev.quiet → pm.toNat < s.sys.dev.tb.pm → s.sys.dev.rd TB_CTRL_SYNC_MODE ≠ 0 →
    capEarly s.sys.dev pm.toNat = false → s.sys.dev.rd TB_STATUS_LOCK = 2 → s.sys.dev.rd TB_SYNC_WIN < (syncOffset
    pm.toNat (syncPeriod s.sys.dev)).natAbs → ∃ t : State, exec (.syncCapture pm) s = .next t ∧ t.pending = s.pending
    ∧ t.sys.dev.fl TB_EVT_OUTLIER = true ∧ t.sys.dev.rd TB_SYNC_CAP_LO = pm.toNat ∧ t.sys.dev.tb.missRun =
    s.sys.dev.tb.missRun + 1 ∧ KeepsBut ([(TB_SYNC_CAP_LO, 0), (TB_SYNC_ERR, 0), (TB_EVT_OUTLIER, 0), (TB_STATUS_LOCK,
    0), (TB_EVT_HOLDOVER, 0)] ++ recFields) s.sys.dev t.sys.dev) ∧
  (∀ (s : State) (pm : Word64), s.sys.dev.quiet → pm.toNat < s.sys.dev.tb.pm → s.sys.dev.rd TB_CTRL_SYNC_MODE ≠ 0 →
    capEarly s.sys.dev pm.toNat = false → (s.sys.dev.rd TB_STATUS_LOCK = 2 → (syncOffset pm.toNat (syncPeriod
    s.sys.dev)).natAbs ≤ s.sys.dev.rd TB_SYNC_WIN) → ∃ t : State, exec (.syncCapture pm) s = .next t ∧ t.pending =
    s.pending ∧ t.sys.dev.rd TB_SYNC_CAP_LO = pm.toNat ∧ t.sys.dev.rdS TB_SYNC_ERR = satS 32 (syncOffset pm.toNat
    (syncPeriod s.sys.dev)) ∧ t.sys.dev.rdS TB_FREQ = satRate (s.sys.dev.rdS TB_FREQ - rdiv (rdiv (syncOffset pm.toNat
    (syncPeriod s.sys.dev) * (2 ^ 32 : Nat)) (syncPeriod s.sys.dev : Int)) (2 ^ s.sys.dev.rd TB_SYNC_GAIN_KI : Nat)) ∧
    t.sys.dev.tb.lastCap = some pm.toNat ∧ t.sys.dev.tb.missRun = 0 ∧ (s.sys.dev.rd TB_STATUS_LOCK = 2 → t.sys.dev.rd
    TB_STATUS_LOCK = 2) ∧ (s.sys.dev.rd TB_STATUS_LOCK = 3 → t.sys.dev.rd TB_STATUS_LOCK = 1) ∧ (s.sys.dev.rd
    TB_STATUS_LOCK = 1 → (syncOffset pm.toNat (syncPeriod s.sys.dev)).natAbs ≤ s.sys.dev.rd TB_SYNC_LOCKTHR →
    s.sys.dev.rd1 TB_SYNC_GAIN_LOCK_N ≤ s.sys.dev.tb.lockRun + 1 → t.sys.dev.rd TB_STATUS_LOCK = 2) ∧ KeepsBut
    ([(TB_SYNC_CAP_LO, 0), (TB_SYNC_ERR, 0), (TB_FREQ, 0), (TB_STATUS_LOCK, 0), (TB_EVT_STEP, 0)] ++ recFields)
    s.sys.dev t.sys.dev) ∧
  (∀ (s : State) (pm : Word64), s.sys.dev.quiet → s.sys.dev.tb.pm ≤ pm.toNat → ∃ t : State, exec (.syncCapture pm) s =
    .next t ∧ t.pending = s.pending ∧ t.sys.dev.tb.capLate = s.sys.dev.tb.capLate ++ [pm.toNat] ∧ KeepsBut []
    s.sys.dev t.sys.dev) ∧
  (∀ (s : State) (x : Nat), s.expiring → s.atTimers.dev.tb.expect = some x → x + s.atTimers.dev.rd TB_SYNC_WIN <
    s.atTimers.dev.tb.pm → s.atTimers.dev.rd TB_CTRL_SYNC_MODE ≠ 0 → ∃ t : State, exec (.syncMiss) s = .next t ∧
    t.pending = s.pending ∧ t.sys.dev.fl TB_EVT_MISS = true ∧ t.sys.dev.tb.missRun = s.atTimers.dev.tb.missRun + 1 ∧
    t.sys.dev.tb.expect = some (x + syncPeriod s.atTimers.dev) ∧ ((s.atTimers.dev.rd TB_STATUS_LOCK = 2 ∧
    s.atTimers.dev.rd1 TB_SYNC_GAIN_MISS_LIM ≤ s.atTimers.dev.tb.missRun + 1) → t.sys.dev.rd TB_STATUS_LOCK = 3 ∧
    t.sys.dev.fl TB_EVT_HOLDOVER = true ∧ t.sys.dev.tb.rateNext = some (s.atTimers.dev.rdS TB_FREQ)) ∧
    (¬(s.atTimers.dev.rd TB_STATUS_LOCK = 2 ∧ s.atTimers.dev.rd1 TB_SYNC_GAIN_MISS_LIM ≤ s.atTimers.dev.tb.missRun +
    1) → t.sys.dev.rd TB_STATUS_LOCK = s.atTimers.dev.rd TB_STATUS_LOCK ∧ t.sys.dev.tb.rateNext =
    s.atTimers.dev.tb.rateNext) ∧ KeepsBut ([(TB_EVT_MISS, 0), (TB_STATUS_LOCK, 0), (TB_EVT_HOLDOVER, 0)] ++
    recFields) s.atTimers.dev t.sys.dev)

/-- RG_CMD_RESET, RG_CMD_CLRCNT and STRAY_TOKEN (R79, R84, R93): a ring that carries frames to its stages sends
SAFEALL in 3 headers first; a FAILED ring returns to DOWN, and with EN = 1 trains at once; CLRCNT clears the five
error counters and nothing else; a token that the controller discards counts and sets the event. -/
def Obligations.RingResetAndCounters : Prop :=
  (∀ (s : State) (a : Accessor) (r : Fin 8), s.turn → a ≠ .sp → writeKind s.sys.dev (accIx a) (0x2004 + 0x100 * r.val)
    (1) = 0 → (ringState s.atCommands.dev r.val = rgIdent ∨ ringState s.atCommands.dev r.val = rgRun ∨ (ringState
    s.atCommands.dev r.val = rgSplit ∧ (s.atCommands.dev.rg r.val).splitTrain = false)) → ∃ t : State, exec
    (.rgCmdReset a r) s = .next t ∧ t.pending = s.pending ∧ (t.sys.dev.rg r.val).resetPend = true ∧ (t.sys.dev.rg
    r.val).safeAll = max (s.atCommands.dev.rg r.val).safeAll 3 ∧ t.sys.dev.rd RG_STATUS_STATE r.val =
    s.atCommands.dev.rd RG_STATUS_STATE r.val) ∧
  (∀ (s : State) (a : Accessor) (r : Fin 8), s.turn → a ≠ .sp → writeKind s.sys.dev (accIx a) (0x2004 + 0x100 * r.val)
    (1) = 0 → ringState s.atCommands.dev r.val = rgFailed → ∃ t : State, exec (.rgCmdReset a r) s = .next t ∧
    t.pending = s.pending ∧ t.sys.dev.rd RG_STATUS_STATE r.val = (if s.atCommands.dev.fl RG_CTRL_EN r.val then rgLock
    else rgDown) ∧ t.sys.dev.rd RG_STATUS_BREAK_VALID r.val = 0) ∧
  (∀ (s : State) (a : Accessor) (r : Fin 8), s.turn → a ≠ .sp → writeKind s.sys.dev (accIx a) (0x2004 + 0x100 * r.val)
    (2) = 0 → ∃ t : State, exec (.rgCmdClrcnt a r) s = .next t ∧ t.pending = s.pending ∧ t.sys.dev.rd RG_CRCERR r.val
    = 0 ∧ t.sys.dev.rd RG_HDRERR r.val = 0 ∧ t.sys.dev.rd RG_LATECNT r.val = 0 ∧ t.sys.dev.rd RG_STRAY r.val = 0 ∧
    t.sys.dev.rd RG_BULKRTX r.val = 0 ∧ KeepsBut [(RG_CRCERR, r.val), (RG_HDRERR, r.val), (RG_LATECNT, r.val),
    (RG_STRAY, r.val), (RG_BULKRTX, r.val)] s.atCommands.dev t.sys.dev) ∧
  (∀ (s : State) (r : Fin 8), s.sys.dev.quiet → ∃ t : State, exec (.strayToken r) s = .next t ∧ t.pending = s.pending ∧
    t.sys.dev.rd RG_STRAY r.val = incSat 32 (s.sys.dev.rd RG_STRAY r.val) % 2 ^ 32 ∧ t.sys.dev.fl RG_EVT_STRAY r.val =
    true ∧ KeepsBut [(RG_STRAY, r.val), (RG_EVT_STRAY, r.val)] s.sys.dev t.sys.dev)

/-- TRAINING_FRAME_RETURN, LOCK_TIMEOUT, MEASURE_COMPLETE, TRAIN_RETRY and SPLIT_TRAIN_TIMEOUT (R84, R85): the
returning frame moves LOCK to COUNT and COUNT to MEASURE with the number of stages, a count above 32 fails training; 1
ms without a lock begins split training; the measurement writes the delays and enters IDENT unless the report latency
exceeds 6 ticks; FAILED trains again after 10 ms. -/
def Obligations.RingTrainingAdvances : Prop :=
  (∀ (s : State) (r : Fin 8) (n m : Byte), s.sys.dev.quiet → ringState s.sys.dev r.val = rgLock → ∃ t : State, exec
    (.trainingFrameReturn r n m) s = .next t ∧ t.pending = s.pending ∧ t.sys.dev.rd RG_STATUS_STATE r.val = rgCount ∧
    KeepsBut [(RG_STATUS_STATE, r.val)] s.sys.dev t.sys.dev) ∧
  (∀ (s : State) (r : Fin 8) (n m : Byte), s.sys.dev.quiet → ringState s.sys.dev r.val = rgCount → n.toNat ≤ 32 →
    (s.sys.dev.rg r.val).wake = false → ∃ t : State, exec (.trainingFrameReturn r n m) s = .next t ∧ t.pending =
    s.pending ∧ t.sys.dev.rd RG_STATUS_STATE r.val = rgMeasure ∧ t.sys.dev.rd RG_STATUS_NSTAGES r.val = n.toNat ∧
    KeepsBut [(RG_STATUS_STATE, r.val), (RG_STATUS_NSTAGES, r.val)] s.sys.dev t.sys.dev) ∧
  (∀ (s : State) (r : Fin 8) (n m : Byte), s.sys.dev.quiet → ringState s.sys.dev r.val = rgCount → 32 < n.toNat → ∃ t :
    State, exec (.trainingFrameReturn r n m) s = .next t ∧ t.pending = s.pending ∧ t.sys.dev.rd RG_STATUS_STATE r.val
    = rgFailed ∧ t.sys.dev.fl RG_EVT_OVERCOUNT r.val = true ∧ t.sys.dev.fl RG_EVT_TRAIN_FAIL r.val = true ∧ KeepsBut
    ([(RG_STATUS_STATE, r.val), (RG_EVT_OVERCOUNT, r.val), (RG_EVT_TRAIN_FAIL, r.val)] ++ recFields) s.sys.dev
    t.sys.dev) ∧
  (∀ (s : State) (r : Fin 8), s.expiring → lockDue s.atTimers.dev r.val = true → ∃ t : State, exec (.lockTimeout r) s =
    .next t ∧ t.pending = s.pending ∧ t.sys.dev.rd RG_STATUS_STATE r.val = rgSplit ∧ (t.sys.dev.rg r.val).splitTrain =
    true ∧ KeepsBut [(RG_STATUS_STATE, r.val)] s.atTimers.dev t.sys.dev) ∧
  (∀ (s : State) (r : Fin 8) (fwd rev : List (List (BitVec 32))) (own : List OwnDelay) (dl : BitVec 32) (p : Fin 32),
    s.sys.dev.quiet → ringState s.sys.dev r.val = rgMeasure → latencyOf dl.toNat ≤ 6 → ∃ t : State, exec
    (.measureComplete r fwd rev own dl) s = .next t ∧ t.pending = s.pending ∧ t.sys.dev.rd RG_STATUS_STATE r.val =
    rgIdent ∧ t.sys.dev.rd RG_LAT_L r.val = latencyOf dl.toNat ∧ (p.val < s.sys.dev.rd RG_STATUS_NSTAGES r.val →
    t.sys.dev.rd RG_HOPDLY_FWD (r.val * 32 + p.val) = dlyCode (oneWay ((probesOf fwd rev own).getD p.val ([], [], 0,
    0)).1 ((probesOf fwd rev own).getD p.val ([], [], 0, 0)).2.2.1 + diffSum (probesOf fwd rev own) (List.range
    p.val))) ∧ (p.val < s.sys.dev.rd RG_STATUS_NSTAGES r.val → t.sys.dev.rd RG_HOPDLY_REV (r.val * 32 + p.val) =
    dlyCode (oneWay ((probesOf fwd rev own).getD p.val ([], [], 0, 0)).2.1 ((probesOf fwd rev own).getD p.val ([], [],
    0, 0)).2.2.1 + diffSum (probesOf fwd rev own) ((List.range (s.sys.dev.rd RG_STATUS_NSTAGES r.val)).drop (p.val +
    1)))) ∧ (s.sys.dev.rd RG_STATUS_NSTAGES r.val ≤ p.val → t.sys.dev.rd RG_HOPDLY_FWD (r.val * 32 + p.val) = 0 ∧
    t.sys.dev.rd RG_HOPDLY_REV (r.val * 32 + p.val) = 0)) ∧
  (∀ (s : State) (r : Fin 8) (fwd rev : List (List (BitVec 32))) (own : List OwnDelay) (dl : BitVec 32), s.sys.dev.quiet
    → ringState s.sys.dev r.val = rgMeasure → 6 < latencyOf dl.toNat → ∃ t : State, exec (.measureComplete r fwd rev
    own dl) s = .next t ∧ t.pending = s.pending ∧ t.sys.dev.rd RG_STATUS_STATE r.val = rgFailed ∧ t.sys.dev.fl
    RG_EVT_LATENCY r.val = true ∧ KeepsBut ([(RG_STATUS_STATE, r.val), (RG_EVT_LATENCY, r.val), (RG_EVT_TRAIN_FAIL,
    r.val)] ++ recFields) s.sys.dev t.sys.dev) ∧
  (∀ (s : State) (r : Fin 8), s.expiring → trainRetryDue s.atTimers.dev r.val = true → ∃ t : State, exec (.trainRetry r)
    s = .next t ∧ t.pending = s.pending ∧ t.sys.dev.rd RG_STATUS_STATE r.val = (if s.atTimers.dev.sill then rgDown
    else rgLock) ∧ t.sys.dev.rd RG_STATUS_BREAK_VALID r.val = 0 ∧ t.sys.dev.rd RG_STATUS_BREAK_POS r.val = 0) ∧
  (∀ (s : State) (r : Fin 8), s.expiring → splitTrainDue s.atTimers.dev r.val = true → ∃ t : State, exec
    (.splitTrainTimeout r) s = .next t ∧ t.pending = s.pending ∧ t.sys.dev.rd RG_STATUS_STATE r.val = rgFailed ∧
    t.sys.dev.fl RG_EVT_TRAIN_FAIL r.val = true ∧ KeepsBut ([(RG_STATUS_STATE, r.val), (RG_EVT_TRAIN_FAIL, r.val)] ++
    recFields) s.atTimers.dev t.sys.dev)

/-- BREAK_BEACON, RX_SOF_LOSS, SPLIT_START and UPSTREAM_FRAME (R68, R80, R89, R90): a beacon on a ring in RUN records
its position; three ticks without SOF and without a beacon place the break on the link into RX; split operation begins
at its tick; a latched frame counts its bad sections, a bad header and LATE. -/
def Obligations.RingBreaksAndFrames : Prop :=
  (∀ (s : State) (r : Fin 8) (pos : Fin 32) (f : BitVec 16), s.sys.dev.quiet → ringState s.sys.dev r.val = rgRun →
    (s.sys.dev.rg r.val).splitT = none → ∃ t : State, exec (.breakBeacon r pos f) s = .next t ∧ t.pending = s.pending
    ∧ t.sys.dev.rd RG_STATUS_BREAK_POS r.val = pos.val ∧ t.sys.dev.fl RG_STATUS_BREAK_VALID r.val = true ∧
    t.sys.dev.fl RG_EVT_BREAK r.val = true ∧ (t.sys.dev.rg r.val).splitT.isSome = true ∧ KeepsBut
    ([(RG_STATUS_BREAK_POS, r.val), (RG_STATUS_BREAK_VALID, r.val), (RG_EVT_BREAK, r.val)] ++ recFields) s.sys.dev
    t.sys.dev) ∧
  (∀ (s : State) (r : Fin 8) (pos : Fin 32) (f : BitVec 16), s.sys.dev.quiet → breakFails s.sys.dev r.val = true → ∃ t :
    State, exec (.breakBeacon r pos f) s = .next t ∧ t.pending = s.pending ∧ t.sys.dev.rd RG_STATUS_STATE r.val =
    rgFailed ∧ t.sys.dev.fl RG_EVT_TRAIN_FAIL r.val = true) ∧
  (∀ (s : State) (r : Fin 8), s.expiring → rxLossDue s.atTimers.dev r.val = true → breakFails s.atTimers.dev r.val =
    true → ∃ t : State, exec (.rxSofLoss r) s = .next t ∧ t.pending = s.pending ∧ t.sys.dev.rd RG_STATUS_STATE r.val =
    rgFailed ∧ t.sys.dev.fl RG_EVT_TRAIN_FAIL r.val = true) ∧
  (∀ (s : State) (r : Fin 8), s.expiring → rxLossDue s.atTimers.dev r.val = true → ringState s.atTimers.dev r.val =
    rgRun → ∃ t : State, exec (.rxSofLoss r) s = .next t ∧ t.pending = s.pending ∧ t.sys.dev.fl RG_STATUS_BREAK_CTRL
    r.val = true ∧ t.sys.dev.fl RG_EVT_BREAK r.val = true ∧ (t.sys.dev.rg r.val).splitT = some (s.atTimers.dev.cur +
    4) ∧ KeepsBut ([(RG_STATUS_BREAK_CTRL, r.val), (RG_EVT_BREAK, r.val)] ++ recFields) s.atTimers.dev t.sys.dev) ∧
  (∀ (s : State) (r : Fin 8), s.sys.dev.quiet → splitDue s.sys.dev r.val = true → ∃ t : State, exec (.splitStart r) s =
    .next t ∧ t.pending = s.pending ∧ t.sys.dev.rd RG_STATUS_STATE r.val = rgSplit ∧ (t.sys.dev.rg r.val).splitOn =
    true) ∧
  (∀ (s : State) (r : Fin 8) (f : UpFrame), s.sys.dev.quiet → ringLatches s.sys.dev r.val f.rx = true → ringState
    s.sys.dev r.val = rgRun → s.sys.dev.tb.stage = 0 → ∃ t : State, exec (.upstreamFrame r f) s = .next t ∧ t.pending
    = s.pending ∧ t.sys.dev.rd RG_CRCERR r.val = addSat 32 (s.sys.dev.rd RG_CRCERR r.val) (badSecs (f.secs.map
    natBytes)) % 2 ^ 32 ∧ t.sys.dev.rd RG_HDRERR r.val = (if sectOk 12 (natBytes f.hdr) then s.sys.dev.rd RG_HDRERR
    r.val else incSat 32 (s.sys.dev.rd RG_HDRERR r.val) % 2 ^ 32) ∧ (sectOk 12 (natBytes f.hdr) = true → bitOf (leAt
    (natBytes f.hdr) 10 2) 0 = true → t.sys.dev.fl RG_EVT_LATE r.val = true) ∧ (t.sys.dev.rg r.val).noSof = 0 ∧ bitOf
    (t.sys.dev.rg r.val).seen 0 = true) ∧
  (∀ (s : State) (r : Fin 8) (f : UpFrame), s.sys.dev.quiet → s.sys.dev.tb.stage ≠ 0 → ∃ t : State, exec (.upstreamFrame
    r f) s = .next t ∧ t.pending = s.pending ∧ (t.sys.dev.rg r.val).late = (s.sys.dev.rg r.val).late ++ [f] ∧ KeepsBut
    [] s.sys.dev t.sys.dev)

/-- NOT_REPORTING, IDENTITY_MATCH, CONFIG_PIECE_ACK, REIDENT and STAGE_EVENT (R74, R98, R103, R108, R109, R336): a
missing stage gets NOREP; an expected position without a valid identity block is quarantined with IDENT_FAIL; an
acknowledged configuration piece matches the channel, a refused one quarantines it with CONFIG_NAK; a
re-identification is kept for the next frame boundary; a stage event leaves the list for the recorder. -/
def Obligations.ChannelDirectoryAnswers : Prop :=
  (∀ (s : State) (c : Fin 256), s.judging → missDue s.atCommands.dev c.val = true → ∃ t : State, exec (.notReporting c)
    s = .next t ∧ t.pending = s.pending ∧ t.sys.dev.fl CD_ENT_COND_NOREP c.val = true) ∧
  (∀ (s : State) (c : Fin 256), s.sys.dev.quiet → (s.sys.dev.chn c.val).idAns = 2 → roleOf s.sys.dev c.val ≠ 0 →
    (s.sys.dev.chn c.val).same = false → (s.sys.dev.chn c.val).quar = false → (s.sys.dev.rg (c.val / 32)).wake = false
    → ∃ t : State, exec (.identityMatch c) s = .next t ∧ t.pending = s.pending ∧ t.sys.dev.rd CD_ENT_QREASON c.val =
    qIdentFail ∧ (t.sys.dev.chn c.val).quar = true ∧ (t.sys.dev.chn c.val).idAns = 0) ∧
  (∀ (s : State) (c : Fin 256), s.sys.dev.quiet → (s.sys.dev.chn c.val).cfgAns = 1 → (s.sys.dev.chn c.val).quar = false
    → ∃ t : State, exec (.configPieceAck c) s = .next t ∧ t.pending = s.pending ∧ (t.sys.dev.chn c.val).matched = true
    ∧ t.sys.dev.rd CD_ENT_QREASON c.val = 0 ∧ (t.sys.dev.chn c.val).cfgAns = 0) ∧
  (∀ (s : State) (c : Fin 256), s.sys.dev.quiet → (s.sys.dev.chn c.val).cfgAns = 2 → (s.sys.dev.chn c.val).quar = false
    → ∃ t : State, exec (.configPieceAck c) s = .next t ∧ t.pending = s.pending ∧ (t.sys.dev.chn c.val).quar = true ∧
    t.sys.dev.rd CD_ENT_QREASON c.val = qConfigNak) ∧
  (∀ (s : State) (a : Accessor) (c : Fin 256), s.turn → a ≠ .sp → writeKind s.sys.dev (accIx a) (0x280C + 0x10 * c.val)
    (0x4000) = 0 → ∃ t : State, exec (.reident a c) s = .next t ∧ t.pending = s.pending ∧ (t.sys.dev.chn c.val).reid =
    true ∧ KeepsBut [] s.atCommands.dev t.sys.dev) ∧
  (∀ (s : State) (r : Fin 8) (p : Nat) (b : List Nat) (es : List (Nat × List Nat)), s.sys.dev.quiet → (s.sys.dev.rg
    r.val).evts = (p, b) :: es → ∃ t : State, exec (.stageEvent r) s = .next t ∧ t.pending = s.pending ∧ (t.sys.dev.rg
    r.val).evts = es ∧ KeepsBut recFields s.sys.dev t.sys.dev)

/-- LOOP_FOLLOW_ERR, TICK_OVERRUN, FECLR, CLRPEAK and STAGE_HOLD (R119, R133, R134, R138, R139): a due following error
sets FAULT and the event; an overrun before a scheduled slot sets the event, counts and asserts the fault; FECLR
clears the fault of its slot and its count; CLRPEAK clears the peak; STAGE_HOLD takes effect at once. -/
def Obligations.LoopEngineFaultsAndCommands : Prop :=
  (∀ (s : State) (k : Fin 256), s.expiring → feDue s.atTimers.dev k.val = true → s.atTimers.dev.rd LS_FE_ACT k.val < 2 →
    ∃ t : State, exec (.loopFollowErr k) s = .next t ∧ t.pending = s.pending ∧ t.sys.dev.fl LS_FAULT k.val = true ∧
    t.sys.dev.fl LE_EVT_FE = true ∧ KeepsBut ([(LS_FAULT, k.val), (LE_FEFLAG, k.val / 32), (LE_EVT_FE, 0)] ++
    recFields) s.atTimers.dev t.sys.dev) ∧
  (∀ (s : State) (k : Fin 256), s.sys.dev.quiet → s.sys.dev.tb.frameOpen = false → scheduled s.sys.dev k.val
    ((s.sys.dev.rd TB_TICK + 1) % 1024) = true → ∃ t : State, exec (.tickOverrun k) s = .next t ∧ t.pending =
    s.pending ∧ t.sys.dev.fl LE_EVT_OVERRUN = true ∧ t.sys.dev.rd LE_OVRCNT = incSat LE_OVRCNT.w (s.sys.dev.rd
    LE_OVRCNT) % 2 ^ LE_OVRCNT.w ∧ t.sys.dev.fl GL_STATUS_FAULT = true ∧ t.sys.dev.le.ovrAt = some k.val ∧ KeepsBut
    ([(LE_EVT_OVERRUN, 0), (LE_OVRCNT, 0), (GL_STATUS_FAULT, 0), (SQ_STATUS_FAULT, 0), (TW_ALERT_FAULT, 0),
    (TW_STATUS_TWB_ALERT, 0)] ++ recFields) s.sys.dev t.sys.dev) ∧
  (∀ (s : State) (a : Accessor) (k : Fin 256), s.turn → a ≠ .sp → writeKind s.sys.dev (accIx a) (0x3818) (256 + k.val) =
    0 → ∃ t : State, exec (.feclr a k) s = .next t ∧ t.pending = s.pending ∧ t.sys.dev.fl LS_FAULT k.val = false ∧
    (t.sys.dev.slot k.val).feclr = false ∧ (s.atCommands.dev.fl LS_FAULT k.val = true → (t.sys.dev.slot k.val).fe = 0
    ∧ (t.sys.dev.slot k.val).preset = (scarfIx s.atCommands.dev k.val).isSome) ∧ KeepsBut [(LS_FAULT, k.val),
    (LE_FEFLAG, k.val / 32)] s.atCommands.dev t.sys.dev) ∧
  (∀ (s : State) (a : Accessor), s.turn → a ≠ .sp → writeKind s.sys.dev (accIx a) (0x3818) (512) = 0 → ∃ t : State, exec
    (.clrpeak a) s = .next t ∧ t.pending = s.pending ∧ t.sys.dev.rd LE_RUN_PEAK = 0 ∧ KeepsBut [(LE_RUN_PEAK, 0)]
    s.atCommands.dev t.sys.dev) ∧
  (∀ (s : State) (a : Accessor) (g : BitVec 7) (h : Bool), s.sys.dev.quiet → a ≠ .sp → writeKind s.sys.dev (accIx a)
    (0x3800) (g.toNat + 256 * h.toNat) = 0 → ∃ t : State, exec (.stageHold a g h) s = .next t ∧ t.pending = s.pending
    ∧ t.sys.dev.fl LE_CTRL_STAGE_HOLD = h ∧ KeepsBut [(LE_CTRL_STAGE_HOLD, 0)] s.sys.dev t.sys.dev)

/-- PREP_TIMEOUT, DWELL_END, CAPACITY_END and PHASE_SENSE_FAIL (R156, R157, R160, R164, R165): a rail whose lead does
not report by the end of PREP takes the fault path to OFF; the dwell and the capacity throttle end; a phase whose
current sense failed is marked, counted and degraded. SUPERVISION_ENTRY (R241, R242): with the filter full the entry
counts the rail and sets SUPV, and is not repeated until the value returns. -/
def Obligations.RailTimersAndSupervisionAct : Prop :=
  (∀ (s : State) (n : Fin 16) (c : Nat) (cs : List Nat), s.expiring → prepDue s.atTimers.dev n.val = true → railChans
    s.atTimers.dev n.val = c :: cs → inService s.atTimers.dev c = false → ∃ t : State, exec (.prepTimeout n) s = .next
    t ∧ t.pending = s.pending ∧ t.sys.dev.rd VR_STATUS_STATE n.val = vrOff ∧ t.sys.dev.fl VR_STATUS_FLT n.val = true ∧
    t.sys.dev.fl VR_EVT_FAULT n.val = true ∧ t.sys.dev.tfq = s.atTimers.dev.tfq ++ [(1, n.val, 2)]) ∧
  (∀ (s : State) (n : Fin 16), s.expiring → s.atTimers.dev.fl VR_STATUS_DWELL n.val = true → dwellOver s.atTimers.dev
    n.val = true → ∃ t : State, exec (.dwellEnd n) s = .next t ∧ t.pending = s.pending ∧ t.sys.dev.fl VR_STATUS_DWELL
    n.val = false ∧ t.sys.dev.fl VR_STATUS_IDPAUSE n.val = false ∧ KeepsBut [(VR_STATUS_DWELL, n.val),
    (VR_STATUS_IDPAUSE, n.val)] s.atTimers.dev t.sys.dev) ∧
  (∀ (s : State) (n : Fin 16), s.expiring → capacityEndDue s.atTimers.dev n.val = true → ∃ t : State, exec (.capacityEnd
    n) s = .next t ∧ t.pending = s.pending ∧ t.sys.dev.fl VR_STATUS_THR n.val = false ∧ (t.sys.dev.rail n.val).capLow
    = 0 ∧ KeepsBut [(VR_STATUS_THR, n.val), (CP_STATUS_THR, 0), (CP_ASSERT_BUS, 0), (CP_ASSERT_RAILCAP, 0),
    (CP_ASSERT_FORCE, 0)] s.atTimers.dev t.sys.dev) ∧
  (∀ (s : State) (n : Fin 16) (h : Fin 32), s.expiring → senseDue s.atTimers.dev n.val h.val = true → ∃ t : State, exec
    (.phaseSenseFail n h) s = .next t ∧ t.pending = s.pending ∧ (t.sys.dev.phs n.val h.val).failed = true ∧
    t.sys.dev.fl VR_EVT_SENSE n.val = true ∧ t.sys.dev.rd VR_FCNT_SENSE n.val = incSat VR_FCNT_SENSE.w
    (s.atTimers.dev.rd VR_FCNT_SENSE n.val) % 2 ^ VR_FCNT_SENSE.w ∧ t.sys.dev.fl CD_ENT_COND_DEGR (railLead
    s.atTimers.dev n.val + h.val) = true ∧ KeepsBut ([(CD_ENT_COND_DEGR, railLead s.atTimers.dev n.val + h.val),
    (CD_ENT_HEALTH, railLead s.atTimers.dev n.val + h.val), (VR_EVT_SENSE, n.val), (VR_FCNT_SENSE, n.val),
    (VR_STATUS_DERATED, n.val), (VR_EVT_DERATE, n.val)] ++ recFields) s.atTimers.dev t.sys.dev) ∧
  (∀ (s : State) (n : Fin 16) (ov : Bool), s.expiring → supDue s.atTimers.dev n.val ov = true → ∃ t : State, exec
    (.supervisionEntry n ov) s = .next t ∧ t.pending = s.pending ∧ t.sys.dev.fl SQ_EVT_SUPV = true ∧ t.sys.dev.rd (if
    ov then SQ_RAIL_OV else SQ_RAIL_UV) n.val = incSat 16 (s.atTimers.dev.rd (if ov then SQ_RAIL_OV else SQ_RAIL_UV)
    n.val) ∧ supDue t.sys.dev n.val ov = false ∧ KeepsBut ([(SQ_EVT_SUPV, 0), (SQ_RAIL_OV, n.val), (SQ_RAIL_UV,
    n.val), (SQ_SAT_0, 0), (SQ_SAT_1, 0)] ++ recFields) s.atTimers.dev t.sys.dev ∧ t.sys.dev.tfq = s.atTimers.dev.tfq
    ++ (if s.atTimers.dev.fl (if ov then SQ_RAIL_SOV_F else SQ_RAIL_SUV_F) n.val then [(1, n.val, 4)] else []))

/-- READY_TIMEOUT, HVOK_RETURN, FEEDER_RUN_RESEND, SENSE_CLEAR_RETURN, FD_CMD_REMOVE and FD_CMD_READMIT (R176 to
R179): a feeder not ready in time is removed with reason READY; the return of a feeder goes to WAIT and counts; RUN is
sent again; a cleared sense fault ends DEGR and the open loop; REMOVE of an idle feeder is refused. -/
def Obligations.FeedersLeaveAndReturn : Prop :=
  (∀ (s : State) (i : Fin 8), s.expiring → readyDue s.atTimers.dev i.val = true → (fmChan s.atTimers.dev i.val).isSome =
    true → ∃ t : State, exec (.readyTimeout i) s = .next t ∧ t.pending = s.pending ∧ t.sys.dev.rd FD_FM_STATE i.val =
    fmRemoved ∧ t.sys.dev.rd FD_FM_REASON i.val = 7 ∧ t.sys.dev.fl FD_EVT_REMOVE = true ∧ t.sys.dev.rd FD_FM_NREM
    i.val = incSat FD_FM_NREM.w (s.atTimers.dev.rd FD_FM_NREM i.val) % 2 ^ FD_FM_NREM.w) ∧
  (∀ (s : State) (i : Fin 8), s.expiring → hvokDue s.atTimers.dev i.val = true → (fmChan s.atTimers.dev i.val).isSome =
    true → ∃ t : State, exec (.hvokReturn i) s = .next t ∧ t.pending = s.pending ∧ t.sys.dev.rd FD_FM_STATE i.val =
    fmWait ∧ t.sys.dev.rd FD_FM_REASON i.val = 0 ∧ t.sys.dev.fl FD_EVT_READMIT = true ∧ t.sys.dev.rd FD_FM_NRET i.val
    = incSat FD_FM_NRET.w (s.atTimers.dev.rd FD_FM_NRET i.val) % 2 ^ FD_FM_NRET.w ∧ KeepsBut ([(FD_FM_STATE, i.val),
    (FD_FM_REASON, i.val), (FD_FM_NRET, i.val), (FD_EVT_READMIT, 0)] ++ recFields) s.atTimers.dev t.sys.dev) ∧
  (∀ (s : State) (i : Fin 8) (c : Nat), s.expiring → feederRunDue s.atTimers.dev i.val = true → fmChan s.atTimers.dev
    i.val = some c → (s.atTimers.dev.chn c).quar = false → ∃ t : State, exec (.feederRunResend i) s = .next t ∧
    t.pending = s.pending ∧ (t.sys.dev.chn c).q = (s.atTimers.dev.chn c).q ++ [{ opc := 1 }] ∧ KeepsBut []
    s.atTimers.dev t.sys.dev) ∧
  (∀ (s : State) (i : Fin 8) (c : Nat), s.expiring → senseClearDue s.atTimers.dev i.val = true → fmChan s.atTimers.dev
    i.val = some c → ∃ t : State, exec (.senseClearReturn i) s = .next t ∧ t.pending = s.pending ∧ t.sys.dev.fl
    CD_ENT_COND_DEGR c = false ∧ t.sys.dev.fl FD_FM_OPENLOOP i.val = false) ∧
  (∀ (s : State) (a : Accessor) (i : Fin 8), s.turn → a ≠ .sp → writeKind s.sys.dev (accIx a) (0x8824) (8 + i.val) = 0 →
    fmState s.atCommands.dev i.val = fmIdle → ∃ t : State, exec (.fdCmdRemove a i) s = .next t ∧ t.pending = s.pending
    ∧ t.sys.dev.fl FD_EVT_REFUSED = true ∧ KeepsBut [(FD_EVT_REFUSED, 0)] s.atCommands.dev t.sys.dev) ∧
  (∀ (s : State) (a : Accessor) (i : Fin 8), s.turn → a ≠ .sp → writeKind s.sys.dev (accIx a) (0x8824) (8 + i.val) = 0 →
    fmState s.atCommands.dev i.val = fmWait → (fmChan s.atCommands.dev i.val).isSome = true → ∃ t : State, exec
    (.fdCmdRemove a i) s = .next t ∧ t.pending = s.pending ∧ t.sys.dev.rd FD_FM_STATE i.val = fmRemoved ∧ t.sys.dev.rd
    FD_FM_REASON i.val = 1 ∧ t.sys.dev.fl FD_EVT_REMOVE = true) ∧
  (∀ (s : State) (a : Accessor) (i : Fin 8), s.turn → a ≠ .sp → writeKind s.sys.dev (accIx a) (0x8824) (16 + i.val) = 0
    → fmState s.atCommands.dev i.val = fmRemoved → (fmChan s.atCommands.dev i.val).isSome = true → ∃ t : State, exec
    (.fdCmdReadmit a i) s = .next t ∧ t.pending = s.pending ∧ t.sys.dev.rd FD_FM_STATE i.val = fmWait ∧ t.sys.dev.rd
    FD_FM_REASON i.val = 0 ∧ t.sys.dev.fl FD_EVT_READMIT = true)

/-- BUS_WINDOW, BUS_CAPACITY and BUS_CAPACITY_END (R182, R184): each window threshold whose filter has run out sets
its event once and, at the fault thresholds, latches a fault of the bus for the sequencer; the capacity status begins
and ends with its counts. -/
def Obligations.BusWindowAndCapacity : Prop :=
  (∀ (s : State) (w : Fin 4), s.expiring → winDue s.atTimers.dev w.val = true → w.val < 2 → ∃ t : State, exec
    (.busWindow w) s = .next t ∧ t.pending = s.pending ∧ (w.val = 0 → t.sys.dev.fl FD_EVT_UVW = true) ∧ (w.val = 1 →
    t.sys.dev.fl FD_EVT_OVW = true) ∧ KeepsBut ([(FD_EVT_UVW, 0), (FD_EVT_OVW, 0)] ++ recFields) s.atTimers.dev
    t.sys.dev ∧ winDue t.sys.dev w.val = false) ∧
  (∀ (s : State) (w : Fin 4), s.expiring → winDue s.atTimers.dev w.val = true → w.val = 2 → ∃ t : State, exec
    (.busWindow w) s = .next t ∧ t.pending = s.pending ∧ t.sys.dev.fl FD_EVT_UVF = true ∧ t.sys.dev.tfq =
    s.atTimers.dev.tfq ++ [(4, 0, 2)] ∧ KeepsBut ([(FD_EVT_UVF, 0)] ++ recFields) s.atTimers.dev t.sys.dev) ∧
  (∀ (s : State) (w : Fin 4), s.expiring → winDue s.atTimers.dev w.val = true → w.val = 3 → ∃ t : State, exec
    (.busWindow w) s = .next t ∧ t.pending = s.pending ∧ t.sys.dev.fl FD_EVT_OVF = true ∧ t.sys.dev.tfq =
    s.atTimers.dev.tfq ++ [(4, 0, 2)] ∧ (∀ i ∈ sharers s.atTimers.dev, (fmChan s.atTimers.dev i).isSome = true →
    t.sys.dev.rd FD_FM_STATE i = fmRemoved ∧ t.sys.dev.rd FD_FM_REASON i = 6)) ∧
  (∀ (s : State), s.expiring → busCapDue s.atTimers.dev = true → ∃ t : State, exec (.busCapacity) s = .next t ∧
    t.pending = s.pending ∧ t.sys.dev.fl FD_STATUS_CAP = true ∧ t.sys.dev.fl FD_EVT_CAPACITY = true ∧ t.sys.dev.fl
    CP_ASSERT_BUS = true ∧ KeepsBut ([(FD_STATUS_CAP, 0), (FD_EVT_CAPACITY, 0), (CP_STATUS_THR, 0), (CP_ASSERT_BUS,
    0), (CP_ASSERT_RAILCAP, 0), (CP_ASSERT_FORCE, 0)] ++ recFields) s.atTimers.dev t.sys.dev) ∧
  (∀ (s : State), s.expiring → busCapEndDue s.atTimers.dev = true → ∃ t : State, exec (.busCapacityEnd) s = .next t ∧
    t.pending = s.pending ∧ t.sys.dev.fl FD_STATUS_CAP = false ∧ t.sys.dev.fl CP_ASSERT_BUS = false ∧ KeepsBut
    [(FD_STATUS_CAP, 0), (CP_STATUS_THR, 0), (CP_ASSERT_BUS, 0), (CP_ASSERT_RAILCAP, 0), (CP_ASSERT_FORCE, 0)]
    s.atTimers.dev t.sys.dev)

/-- SLOW_LOSS, HOLDUP_TAKEN, EMERG_ASSERT, EMERG_CLEAR and HANDBACK_START (R196, R197, R199, R204): a loss without a
closed string or a leg is recorded as unavailable; the taken mark and the emergency mark set their events; the
emergency clears after its filter; the handback begins from hold-up. STRING_CLOSE_TIMEOUT, STRING_OFF_TIMEOUT,
BS_CMD_OPEN and BS_CMD_CLOSE (R191, R193, R194): a string that does not close in time locks out; a closed or closing
string opens on command; CLOSE ends a lockout. -/
def Obligations.HoldupAndStringsAct : Prop :=
  (∀ (s : State), s.judging → slowLossDue s.atCommands.dev = true → ((closed s.atCommands.dev).isEmpty || (legs
    s.atCommands.dev).isEmpty) = true → ∃ t : State, exec (.slowLoss) s = .next t ∧ t.pending = s.pending ∧
    t.sys.dev.fl BS_EVT_LOSS = true ∧ t.sys.dev.fl BS_EVT_UNAVAIL = true ∧ t.sys.dev.fl BS_STATUS_TAKEN = false ∧
    t.sys.dev.bs.slow = 0 ∧ KeepsBut ([(BS_STATUS_TAKEN, 0), (BS_EVT_LOSS, 0), (BS_EVT_UNAVAIL, 0)] ++ recFields)
    s.atCommands.dev t.sys.dev) ∧
  (∀ (s : State), s.judging → takenDue s.atCommands.dev = true → s.atCommands.dev.fl BS_STATUS_EMERG = false → ∃ t :
    State, exec (.holdupTaken) s = .next t ∧ t.pending = s.pending ∧ t.sys.dev.fl BS_STATUS_TAKEN = true ∧
    t.sys.dev.fl BS_EVT_TAKEN = true ∧ t.sys.dev.bs.takenAt = none ∧ t.sys.dev.rd CP_STATUS_HUHUB = 1 ∧ KeepsBut
    ([(BS_STATUS_TAKEN, 0), (BS_EVT_TAKEN, 0), (CP_STATUS_HUHUB, 0)] ++ recFields) s.atCommands.dev t.sys.dev) ∧
  (∀ (s : State), s.judging → emergDue s.atCommands.dev = true → shelfState s.atCommands.dev < bsReady → ∃ t : State,
    exec (.emergAssert) s = .next t ∧ t.pending = s.pending ∧ t.sys.dev.fl BS_STATUS_EMERG = true ∧ t.sys.dev.fl
    BS_EVT_EMERG = true ∧ KeepsBut ([(BS_STATUS_EMERG, 0), (BS_EVT_EMERG, 0)] ++ recFields) s.atCommands.dev
    t.sys.dev) ∧
  (∀ (s : State), s.judging → emergClearDue s.atCommands.dev = true → ∃ t : State, exec (.emergClear) s = .next t ∧
    t.pending = s.pending ∧ t.sys.dev.fl BS_STATUS_EMERG = false ∧ KeepsBut [(BS_STATUS_EMERG, 0)] s.atCommands.dev
    t.sys.dev) ∧
  (∀ (s : State), s.expiring → hbDue s.atTimers.dev = true → ∃ t : State, exec (.handbackStart) s = .next t ∧ t.pending
    = s.pending ∧ t.sys.dev.rd BS_STATUS_STATE = bsHandback ∧ t.sys.dev.bs.hbStep = 1 ∧ t.sys.dev.bs.hbCnt = 0) ∧
  (∀ (s : State) (j : Fin 8), s.expiring → strCloseDue s.atTimers.dev j.val = true → (strChan s.atTimers.dev
    j.val).isSome = true → ∃ t : State, exec (.stringCloseTimeout j) s = .next t ∧ t.pending = s.pending ∧
    t.sys.dev.rd BS_STR_STATE j.val = 4 ∧ t.sys.dev.fl BS_EVT_STROPEN = true) ∧
  (∀ (s : State) (j : Fin 8), s.expiring → strOffDue s.atTimers.dev j.val = true → ∃ t : State, exec (.stringOffTimeout
    j) s = .next t ∧ t.pending = s.pending ∧ KeepsBut [] s.atTimers.dev t.sys.dev ∧ strOffDue t.sys.dev j.val = false) ∧
  (∀ (s : State) (a : Accessor) (j : Fin 8), s.turn → a ≠ .sp → writeKind s.sys.dev (accIx a) (0x8C2C) (8 + j.val) = 0 →
    strState s.atCommands.dev j.val = 3 → shelfState s.atCommands.dev ≠ bsConnect → ∃ t : State, exec (.bsCmdOpen a j)
    s = .next t ∧ t.pending = s.pending ∧ t.sys.dev.rd BS_STR_STATE j.val = 1 ∧ t.sys.dev.fl BS_EVT_STROPEN = true) ∧
  (∀ (s : State) (a : Accessor) (j : Fin 8), s.turn → a ≠ .sp → writeKind s.sys.dev (accIx a) (0x8C2C) (16 + j.val) = 0
    → strState s.atCommands.dev j.val = 4 → ∃ t : State, exec (.bsCmdClose a j) s = .next t ∧ t.pending = s.pending ∧
    t.sys.dev.rd BS_STR_STATE j.val = 1 ∧ KeepsBut [(BS_STR_STATE, j.val)] s.atCommands.dev t.sys.dev)

/-- FUSE_TRIP and TRAMP_EXPIRY (R212, R215, R217, R219): a trip records the lowest cause of its set, counts, sets
TRIP, and leaves the fuse TRIPPED while automatic retries are left and LOCKOUT otherwise; the ramp time without
another cause trips with reason 5. FUSE_RETRY, RCNT_RESET and FUSE_TSENSE (R215, R219): a retry enters the ramp again
and counts; the retry count clears after its window; an implausible sensor marks the fuse and moves it to the model
temperature. -/
def Obligations.FusesTripAndRecover : Prop :=
  (∀ (s : State) (f : Fin 64), s.expiring → tripDue s.atTimers.dev f.val = true → portSw s.atTimers.dev = none →
    fuPortsw s.atTimers.dev f.val = false → ∃ t : State, exec (.fuseTrip f) s = .next t ∧ t.pending = s.pending ∧
    t.sys.dev.rd FU_STATUS_REASON f.val = ((List.range 8).find? (bitOf (tripSet s.atTimers.dev f.val))).getD 0 ∧
    t.sys.dev.fl FU_EVT_TRIP f.val = true ∧ t.sys.dev.rd FU_STATUS_NTRIP f.val = incSat FU_STATUS_NTRIP.w
    (s.atTimers.dev.rd FU_STATUS_NTRIP f.val) % 2 ^ FU_STATUS_NTRIP.w ∧ t.sys.dev.rd FU_STATUS_STATE f.val = (if
    ((List.range 8).find? (bitOf (tripSet s.atTimers.dev f.val))).getD 0 = 3 ∨ s.atTimers.dev.rd FU_RTY_NRTY f.val ≤
    s.atTimers.dev.rd FU_STATUS_RCNT f.val then fuLockout else fuTripped) ∧ KeepsBut ([(FU_STATUS_STATE, f.val),
    (FU_STATUS_REASON, f.val), (FU_STATUS_NTRIP, f.val), (FU_EVT_TRIP, f.val), (FU_EVT_LOCKOUT, f.val)] ++ recFields)
    s.atTimers.dev t.sys.dev) ∧
  (∀ (s : State) (f : Fin 64), s.expiring → trampDue s.atTimers.dev f.val = true → tripSet s.atTimers.dev f.val = 0 →
    (chanOfFuse s.atTimers.dev f.val).isSome = true → portSw s.atTimers.dev = none → ∃ t : State, exec (.trampExpiry
    f) s = .next t ∧ t.pending = s.pending ∧ t.sys.dev.rd FU_STATUS_REASON f.val = 5 ∧ t.sys.dev.fl FU_EVT_TRIP f.val
    = true ∧ t.sys.dev.rd FU_STATUS_STATE f.val = (if s.atTimers.dev.rd FU_RTY_NRTY f.val ≤ s.atTimers.dev.rd
    FU_STATUS_RCNT f.val then fuLockout else fuTripped) ∧ KeepsBut ([(FU_STATUS_STATE, f.val), (FU_STATUS_REASON,
    f.val), (FU_STATUS_NTRIP, f.val), (FU_EVT_TRIP, f.val), (FU_EVT_LOCKOUT, f.val)] ++ recFields) s.atTimers.dev
    t.sys.dev) ∧
  (∀ (s : State) (f : Fin 64), s.judging → retryDue s.atCommands.dev f.val = true → (chanOfFuse s.atCommands.dev
    f.val).isSome = true → ∃ t : State, exec (.fuseRetry f) s = .next t ∧ t.pending = s.pending ∧ t.sys.dev.rd
    FU_STATUS_STATE f.val = fuRamp ∧ t.sys.dev.rd FU_STATUS_RCNT f.val = incSat FU_STATUS_RCNT.w (s.atCommands.dev.rd
    FU_STATUS_RCNT f.val) % 2 ^ FU_STATUS_RCNT.w) ∧
  (∀ (s : State) (f : Fin 64), s.expiring → rcntDue s.atTimers.dev f.val = true → ∃ t : State, exec (.rcntReset f) s =
    .next t ∧ t.pending = s.pending ∧ t.sys.dev.rd FU_STATUS_RCNT f.val = 0 ∧ KeepsBut [(FU_STATUS_RCNT, f.val)]
    s.atTimers.dev t.sys.dev) ∧
  (∀ (s : State) (f : Fin 64), s.expiring → tsenseDue s.atTimers.dev f.val = true → ∃ t : State, exec (.fuseTsense f) s
    = .next t ∧ t.pending = s.pending ∧ t.sys.dev.fl FU_STATUS_IMPL f.val = true ∧ t.sys.dev.fl FU_STATUS_TMOD f.val =
    true ∧ t.sys.dev.fl FU_EVT_IMPL f.val = true ∧ KeepsBut ([(FU_STATUS_IMPL, f.val), (FU_STATUS_TMOD, f.val),
    (FU_EVT_IMPL, f.val)] ++ recFields) s.atTimers.dev t.sys.dev)

/-- FEED_REVERT, FEED_XFER, FEED_STUCK and FU_CMD_XFER (R221, R222): a revert, and a transfer on command at the next
selection, take the outgoing member out of the selection and the incoming one in; the transfer ends with XFER; an
outgoing member that does not open within 100 ticks leaves the group stuck and faults its step. -/
def Obligations.FeedGroupChanges : Prop :=
  (∀ (s : State) (n : Fin 16) (p q : Nat), s.judging → revertDue s.atCommands.dev n.val = true → groupPrim
    s.atCommands.dev n.val = some p → groupSec s.atCommands.dev n.val = some q → (chanOfFuse s.atCommands.dev
    q).isSome = true → ∃ t : State, exec (.feedRevert n) s = .next t ∧ t.pending = s.pending ∧ t.sys.dev.fl
    FU_STATUS_SEL q = false ∧ t.sys.dev.fl FU_STATUS_SEL p = true ∧ t.sys.dev.fl FU_STATUS_XFER p = true ∧
    (t.sys.dev.fg n.val).chg.isSome = true) ∧
  (∀ (s : State) (n : Fin 16) (p : Nat), s.expiring → xferDue s.atTimers.dev n.val = true → groupPrim s.atTimers.dev
    n.val = some p → ∃ t : State, exec (.feedXfer n) s = .next t ∧ t.pending = s.pending ∧ t.sys.dev.fl FU_STATUS_XFER
    p = false ∧ t.sys.dev.fl FU_EVT_XFER p = true ∧ (t.sys.dev.fg n.val).chg.isSome = false ∧ KeepsBut
    ([(FU_STATUS_XFER, p), (FU_EVT_XFER, p)] ++ recFields) s.atTimers.dev t.sys.dev) ∧
  (∀ (s : State) (n : Fin 16) (p : Nat), s.expiring → stuckDue s.atTimers.dev n.val = true → groupPrim s.atTimers.dev
    n.val = some p → ∃ t : State, exec (.feedStuck n) s = .next t ∧ t.pending = s.pending ∧ (t.sys.dev.fg n.val).stuck
    = true ∧ t.sys.dev.fl FU_EVT_STUCK p = true ∧ t.sys.dev.fl FU_STATUS_XFER p = false ∧ t.sys.dev.tfq =
    s.atTimers.dev.tfq ++ [(3, n.val, 2)]) ∧
  (∀ (s : State) (a : Accessor) (f : Fin 64) (n q : Nat), s.turn → a ≠ .sp → writeKind s.sys.dev (accIx a) (0x901C +
    0x20 * f.val) (0x80000) = 0 → fuValid s.atCommands.dev f.val = true → fuInfg s.atCommands.dev f.val = true →
    s.atCommands.dev.fl FU_CFG_PRIO f.val = false → fuFg s.atCommands.dev f.val = n → groupPrim s.atCommands.dev n =
    some f.val → groupSec s.atCommands.dev n = some q → groupSel s.atCommands.dev n = some f.val → fuState
    s.atCommands.dev f.val = fuOn → (s.atCommands.dev.fuz f.val).supply < 4 → fuAvail s.atCommands.dev q = true →
    (s.atCommands.dev.fg n).en = true → (s.atCommands.dev.fg n).shed = false → (s.atCommands.dev.fg n).stuck = false →
    (s.atCommands.dev.fg n).chg.isNone = true → (chanOfFuse s.atCommands.dev f.val).isSome = true → ∃ t : State, exec
    (.fuCmdXfer a f) s = .next t ∧ t.pending = s.pending ∧ (t.sys.dev.fg n).req = true ∧ KeepsBut [] s.atCommands.dev
    t.sys.dev ∧ (groupSelect t.sys.dev n).fl FU_STATUS_SEL f.val = false ∧ (groupSelect t.sys.dev n).fl FU_STATUS_SEL
    q = true ∧ (groupSelect t.sys.dev n).fl FU_STATUS_XFER f.val = true ∧ (groupSelect t.sys.dev n).fl FU_STATUS_GMAN
    f.val = true)

/-- FU_CMD_ON, FU_CMD_OFF and FU_CMD_RESET (R212): a valid fuse outside a group that is OFF enters the ramp, and where
the request loses, to a shed of its class or to the sequencer, it stays pending (R25); one that is on, ramping or
tripped goes OFF; RESET takes a locked-out fuse to OFF with its retry count cleared and ends an implausible sensor. -/
def Obligations.FuseCommandsAct : Prop :=
  (∀ (s : State) (a : Accessor) (f : Fin 64) (c : Nat), s.turn → a ≠ .sp → writeKind s.sys.dev (accIx a) (0x901C + 0x20
    * f.val) (0x10000) = 0 → fuValid s.atCommands.dev f.val = true → fuInfg s.atCommands.dev f.val = false → fuPortsw
    s.atCommands.dev f.val = false → fuState s.atCommands.dev f.val = fuOff → classShed s.atCommands.dev f.val = false
    → seqClaim s.atCommands.dev 2 f.val ≠ some false → chanOfFuse s.atCommands.dev f.val = some c →
    (s.atCommands.dev.chn c).smp.has = true → chFlag s.atCommands.dev c flRolef = false → ∃ t : State, exec (.fuCmdOn
    a f) s = .next t ∧ t.pending = s.pending ∧ t.sys.dev.rd FU_STATUS_STATE f.val = fuRamp ∧ (t.sys.dev.fuz
    f.val).want = true ∧ (t.sys.dev.fuz f.val).pend = none) ∧
  (∀ (s : State) (a : Accessor) (f : Fin 64), s.turn → a ≠ .sp → writeKind s.sys.dev (accIx a) (0x901C + 0x20 * f.val)
    (0x10000) = 0 → fuValid s.atCommands.dev f.val = true → fuInfg s.atCommands.dev f.val = false → fuPortsw
    s.atCommands.dev f.val = false → fuState s.atCommands.dev f.val = fuOff → (classShed s.atCommands.dev f.val = true
    ∨ seqClaim s.atCommands.dev 2 f.val = some false) → ∃ t : State, exec (.fuCmdOn a f) s = .next t ∧ t.pending =
    s.pending ∧ (t.sys.dev.fuz f.val).pend = some true ∧ KeepsBut [] s.atCommands.dev t.sys.dev) ∧
  (∀ (s : State) (a : Accessor) (f : Fin 64), s.turn → a ≠ .sp → writeKind s.sys.dev (accIx a) (0x901C + 0x20 * f.val)
    (0x20000) = 0 → fuValid s.atCommands.dev f.val = true → fuInfg s.atCommands.dev f.val = false → fuPortsw
    s.atCommands.dev f.val = false → (fuState s.atCommands.dev f.val = fuRamp ∨ fuState s.atCommands.dev f.val = fuOn
    ∨ fuState s.atCommands.dev f.val = fuTripped) → stepOf s.atCommands.dev 2 f.val = none → ∃ t : State, exec
    (.fuCmdOff a f) s = .next t ∧ t.pending = s.pending ∧ t.sys.dev.rd FU_STATUS_STATE f.val = fuOff ∧ (t.sys.dev.fuz
    f.val).want = false ∧ KeepsBut [(FU_STATUS_STATE, f.val)] s.atCommands.dev t.sys.dev) ∧
  (∀ (s : State) (a : Accessor) (f : Fin 64), s.turn → a ≠ .sp → writeKind s.sys.dev (accIx a) (0x901C + 0x20 * f.val)
    (0x40000) = 0 → fuState s.atCommands.dev f.val = fuLockout → (s.atCommands.dev.fuz f.val).want = false → ∃ t :
    State, exec (.fuCmdReset a f) s = .next t ∧ t.pending = s.pending ∧ t.sys.dev.rd FU_STATUS_STATE f.val = fuOff ∧
    t.sys.dev.rd FU_STATUS_RCNT f.val = 0 ∧ t.sys.dev.fl FU_STATUS_IMPL f.val = false ∧ KeepsBut [(FU_STATUS_STATE,
    f.val), (FU_STATUS_RCNT, f.val), (FU_STATUS_IMPL, f.val)] s.atCommands.dev t.sys.dev)

/-- SQ_CMD_ON and SQ_CMD_OFF (R231, R235): an on request is refused while FORCE is set or in LOCKED and then only sets
REFUSED; any other request sets REQ, on which phase B of the tick acts: from OFF an on request starts step 0 in UP
with RCNT 0, and from ON an off request enters DOWN with RSTOUT_N asserted; in the other states but UP and BACKOFF
only REQ changes. -/
def Obligations.SequenceRequestsAreTaken : Prop :=
  (∀ (s : State) (a : Accessor), s.turn → a ≠ .sp → writeKind s.sys.dev (accIx a) (0x9810) (1) = 0 →
    (s.atCommands.dev.fl SQ_STATUS_FORCE = true ∨ s.atCommands.dev.rd SQ_STATUS_STATE = sqLocked) → ∃ t : State, exec
    (.sqCmdOn a) s = .next t ∧ t.pending = s.pending ∧ t.sys.dev.fl SQ_EVT_REFUSED = true ∧ KeepsBut
    ([(SQ_EVT_REFUSED, 0)] ++ recFields) s.atCommands.dev t.sys.dev) ∧
  (∀ (s : State) (a : Accessor), s.turn → a ≠ .sp → writeKind s.sys.dev (accIx a) (0x9810) (1) = 0 → s.atCommands.dev.fl
    SQ_STATUS_FORCE = false → s.atCommands.dev.rd SQ_STATUS_STATE = sqOff → ∃ t : State, exec (.sqCmdOn a) s = .next t
    ∧ t.pending = s.pending ∧ t.sys.dev.fl SQ_STATUS_REQ = true ∧ KeepsBut ([(SQ_STATUS_REQ, 0)] ++ recFields)
    s.atCommands.dev t.sys.dev ∧ (seqActReq t.sys.dev).rd SQ_STATUS_RCNT = 0 ∧ (seqActReq t.sys.dev).rd
    SQ_STATUS_STATE = (if nStep s.atCommands.dev = 0 then sqOn else sqUp) ∧ (0 < nStep s.atCommands.dev → stepShed
    s.atCommands.dev 0 = false → stepState (seqActReq t.sys.dev) 0 = stUpwait ∧ (seqActReq t.sys.dev).rd
    SQ_STATUS_STEP = 0)) ∧
  (∀ (s : State) (a : Accessor), s.turn → a ≠ .sp → writeKind s.sys.dev (accIx a) (0x9810) (1) = 0 → s.atCommands.dev.fl
    SQ_STATUS_FORCE = false → (s.atCommands.dev.rd SQ_STATUS_STATE = sqUp ∨ s.atCommands.dev.rd SQ_STATUS_STATE = sqOn
    ∨ s.atCommands.dev.rd SQ_STATUS_STATE = sqDown ∨ s.atCommands.dev.rd SQ_STATUS_STATE = sqBackoff ∨
    s.atCommands.dev.rd SQ_STATUS_STATE = sqMinoff) → ∃ t : State, exec (.sqCmdOn a) s = .next t ∧ t.pending =
    s.pending ∧ t.sys.dev.fl SQ_STATUS_REQ = true ∧ KeepsBut ([(SQ_STATUS_REQ, 0)] ++ recFields) s.atCommands.dev
    t.sys.dev) ∧
  (∀ (s : State) (a : Accessor), s.turn → a ≠ .sp → writeKind s.sys.dev (accIx a) (0x9810) (2) = 0 → s.atCommands.dev.rd
    SQ_STATUS_STATE = sqOn → ∃ t : State, exec (.sqCmdOff a) s = .next t ∧ t.pending = s.pending ∧ t.sys.dev.fl
    SQ_STATUS_REQ = false ∧ KeepsBut ([(SQ_STATUS_REQ, 0)] ++ recFields) s.atCommands.dev t.sys.dev ∧ (seqActReq
    t.sys.dev).rd SQ_STATUS_STATE = sqDown ∧ (seqActReq t.sys.dev).rd GL_STATUS_RSTOUT = 1 ∧ (seqActReq
    t.sys.dev).seq.downWhy = 0 ∧ (seqActReq t.sys.dev).fl SQ_EVT_FAIL = s.atCommands.dev.fl SQ_EVT_FAIL) ∧
  (∀ (s : State) (a : Accessor), s.turn → a ≠ .sp → writeKind s.sys.dev (accIx a) (0x9810) (2) = 0 →
    (s.atCommands.dev.rd SQ_STATUS_STATE = sqOff ∨ s.atCommands.dev.rd SQ_STATUS_STATE = sqDown ∨ s.atCommands.dev.rd
    SQ_STATUS_STATE = sqMinoff ∨ s.atCommands.dev.rd SQ_STATUS_STATE = sqLocked) → ∃ t : State, exec (.sqCmdOff a) s =
    .next t ∧ t.pending = s.pending ∧ t.sys.dev.fl SQ_STATUS_REQ = false ∧ KeepsBut ([(SQ_STATUS_REQ, 0)] ++
    recFields) s.atCommands.dev t.sys.dev) ∧
  (∀ (s : State) (a : Accessor), s.turn → a ≠ .sp → writeKind s.sys.dev (accIx a) (0x9810) (2) = 0 → s.atCommands.dev.rd
    SQ_STATUS_STATE = sqBackoff → ∃ t : State, exec (.sqCmdOff a) s = .next t ∧ t.pending = s.pending ∧ t.sys.dev.fl
    SQ_STATUS_REQ = false ∧ KeepsBut ([(SQ_STATUS_REQ, 0)] ++ recFields) s.atCommands.dev t.sys.dev ∧ (seqActReq
    t.sys.dev).rd SQ_STATUS_STATE = sqMinoff ∧ (seqActReq t.sys.dev).seq.since = t.sys.dev.cur) ∧
  (∀ (s : State) (a : Accessor), s.turn → a ≠ .sp → writeKind s.sys.dev (accIx a) (0x9810) (2) = 0 → s.atCommands.dev.rd
    SQ_STATUS_STATE = sqUp → s.atCommands.dev.seq.offTaken = false → s.atCommands.dev.seq.next = none → ∃ t : State,
    exec (.sqCmdOff a) s = .next t ∧ t.pending = s.pending ∧ t.sys.dev.fl SQ_STATUS_REQ = false ∧ KeepsBut
    ([(SQ_STATUS_REQ, 0)] ++ recFields) s.atCommands.dev t.sys.dev ∧ (seqActReq t.sys.dev).seq.offTaken = true ∧
    (seqActReq t.sys.dev).rd SQ_STATUS_STATE = sqUp)

/-- SQ_CMD_STEPON, SQ_CMD_STEPOFF, SQ_CMD_CLRCNT and SQ_CMD_CLRFLT (R236, R240, R242): step commands are refused
outside ON; STEPON takes a step in HOSTOFF, FAILED or SHED through UPWAIT; STEPOFF sets the step to HOSTOFF; CLRCNT
clears the rail counters; CLRFLT releases the engine overrun source of FAULT_N and takes LOCKED to MINOFF. MINOFF_END,
SEQ_RETRY and RSTOUT_RELEASE (R231, R237, R240): MINOFF ends in OFF; the end of BACKOFF counts RCNT and returns to UP
with step 0; RSTOUT_N is released while the sequence is still ON. -/
def Obligations.StepCommandsAndTimersAct : Prop :=
  (∀ (s : State) (a : Accessor) (x : Fin 32), s.turn → a ≠ .sp → writeKind s.sys.dev (accIx a) (0x9810) (8 + 16 * x.val)
    = 0 → (nStep s.atCommands.dev ≤ x.val ∨ s.atCommands.dev.rd SQ_STATUS_STATE ≠ sqOn ∨ stepState s.atCommands.dev
    x.val = stDone ∨ stepState s.atCommands.dev x.val = stUpwait) → ∃ t : State, exec (.sqCmdStepon a x) s = .next t ∧
    t.pending = s.pending ∧ t.sys.dev.fl SQ_EVT_REFUSED = true ∧ KeepsBut [(SQ_EVT_REFUSED, 0)] s.atCommands.dev
    t.sys.dev) ∧
  (∀ (s : State) (a : Accessor) (x : Fin 32), s.turn → a ≠ .sp → writeKind s.sys.dev (accIx a) (0x9810) (8 + 16 * x.val)
    = 0 → x.val < nStep s.atCommands.dev → s.atCommands.dev.rd SQ_STATUS_STATE = sqOn → (stepState s.atCommands.dev
    x.val = stHostoff ∨ stepState s.atCommands.dev x.val = stFailed ∨ stepState s.atCommands.dev x.val = stShed) →
    stepShed s.atCommands.dev x.val = false → ∃ t : State, exec (.sqCmdStepon a x) s = .next t ∧ t.pending = s.pending
    ∧ stepState t.sys.dev x.val = stUpwait ∧ t.sys.dev.rd SQ_STATUS_STATE = sqOn ∧ (t.sys.dev.stp x.val).cnt = 0) ∧
  (∀ (s : State) (a : Accessor) (x : Fin 32), s.turn → a ≠ .sp → writeKind s.sys.dev (accIx a) (0x9810) (1024 + 16 *
    x.val) = 0 → (nStep s.atCommands.dev ≤ x.val ∨ s.atCommands.dev.rd SQ_STATUS_STATE ≠ sqOn) → ∃ t : State, exec
    (.sqCmdStepoff a x) s = .next t ∧ t.pending = s.pending ∧ t.sys.dev.fl SQ_EVT_REFUSED = true ∧ KeepsBut
    [(SQ_EVT_REFUSED, 0)] s.atCommands.dev t.sys.dev) ∧
  (∀ (s : State) (a : Accessor) (x : Fin 32), s.turn → a ≠ .sp → writeKind s.sys.dev (accIx a) (0x9810) (1024 + 16 *
    x.val) = 0 → x.val < nStep s.atCommands.dev → s.atCommands.dev.rd SQ_STATUS_STATE = sqOn → ∃ t : State, exec
    (.sqCmdStepoff a x) s = .next t ∧ t.pending = s.pending ∧ stepState t.sys.dev x.val = stHostoff ∧ t.sys.dev.rd
    SQ_STATUS_STATE = sqOn ∧ t.sys.dev.fl SQ_STATUS_REQ = s.atCommands.dev.fl SQ_STATUS_REQ) ∧
  (∀ (s : State) (a : Accessor), s.turn → a ≠ .sp → writeKind s.sys.dev (accIx a) (0x9810) (512) = 0 → ∃ t : State, exec
    (.sqCmdClrcnt a) s = .next t ∧ t.pending = s.pending ∧ (∀ n : Fin 16, t.sys.dev.rd SQ_RAIL_STARTS n.val = 0 ∧
    t.sys.dev.rd SQ_RAIL_UV n.val = 0 ∧ t.sys.dev.rd SQ_RAIL_OV n.val = 0 ∧ t.sys.dev.rd SQ_RAIL_STO n.val = 0 ∧
    t.sys.dev.rd SQ_RAIL_RETRY n.val = 0 ∧ t.sys.dev.rd SQ_RAIL_PDF n.val = 0) ∧ t.sys.dev.rd SQ_SAT_0 = 0 ∧
    t.sys.dev.rd SQ_SAT_1 = 0 ∧ t.sys.dev.rd SQ_SAT_2 = 0 ∧ t.sys.dev.rd SQ_STATUS_STATE = s.atCommands.dev.rd
    SQ_STATUS_STATE) ∧
  (∀ (s : State) (a : Accessor), s.turn → a ≠ .sp → writeKind s.sys.dev (accIx a) (0x9810) (4) = 0 → ∃ t : State, exec
    (.sqCmdClrflt a) s = .next t ∧ t.pending = s.pending ∧ t.sys.dev.rd SQ_STATUS_STATE = (if s.atCommands.dev.rd
    SQ_STATUS_STATE = sqLocked then sqMinoff else s.atCommands.dev.rd SQ_STATUS_STATE) ∧ bitOf t.sys.dev.seq.fault 4 =
    false ∧ (bitOf s.atCommands.dev.seq.fault 6 = true → (s.atCommands.dev.rd SQ_STATUS_STATE = sqOn ∧ ∃ k ∈
    List.range (nStep s.atCommands.dev), stepState s.atCommands.dev k = stFailed ∧ s.atCommands.dev.rd SQ_STEP_FACT k
    = 1) → bitOf t.sys.dev.seq.fault 6 = true) ∧ t.sys.dev.fl GL_STATUS_FAULT = (t.sys.dev.seq.fault != 0) ∧ KeepsBut
    ([(SQ_STATUS_STATE, 0), (SQ_STATUS_FAULT, 0), (GL_STATUS_FAULT, 0), (TW_ALERT_FAULT, 0)] ++ recFields)
    s.atCommands.dev t.sys.dev) ∧
  (∀ (s : State), s.expiring → minoffDue s.atTimers.dev = true → ∃ t : State, exec (.minoffEnd) s = .next t ∧ t.pending
    = s.pending ∧ t.sys.dev.rd SQ_STATUS_STATE = sqOff ∧ t.sys.dev.fl SQ_EVT_OFF = true ∧ t.sys.dev.fl SQ_STATUS_REQ =
    s.atTimers.dev.fl SQ_STATUS_REQ ∧ KeepsBut [(SQ_STATUS_STATE, 0), (SQ_EVT_OFF, 0), (SQ_STEPST, 0), (SQ_STEPST, 1),
    (SQ_STEPST, 2), (SQ_STEPST, 3)] s.atTimers.dev t.sys.dev) ∧
  (∀ (s : State), s.expiring → seqRetryDue s.atTimers.dev = true → ∃ t : State, exec (.seqRetry) s = .next t ∧ t.pending
    = s.pending ∧ t.sys.dev.rd SQ_STATUS_RCNT = incSat 3 (s.atTimers.dev.rd SQ_STATUS_RCNT) ∧ t.sys.dev.fl
    SQ_EVT_RETRY = true ∧ t.sys.dev.rd SQ_STATUS_STATE = (if nStep s.atTimers.dev = 0 then sqOn else sqUp)) ∧
  (∀ (s : State) (k : Nat), s.expiring → s.atTimers.dev.rd SQ_STATUS_STATE = sqOn → s.atTimers.dev.seq.rstAt = some k →
    k ≤ s.atTimers.dev.tb.now → ∃ t : State, exec (.rstoutRelease) s = .next t ∧ t.pending = s.pending ∧ t.sys.dev.rd
    SQ_STATUS_RSTREL = 1 ∧ t.sys.dev.rd GL_STATUS_RSTOUT = 0 ∧ t.sys.dev.seq.rstAt = none ∧ KeepsBut
    [(SQ_STATUS_RSTREL, 0), (GL_STATUS_RSTOUT, 0)] s.atTimers.dev t.sys.dev)

/-- STEP_BEGIN, STEP_COMPLETE and STEP_TIMEOUT (R228, R229, R231, R232): in UP the step that is due enters UPWAIT as
the current step unless its target is shed; a completed step is DONE and the next one is due in the next tick; a step
that times out in UP is FAILED, counted and recorded and the sequence powers down as a failure; a step that completes
in power-down is IDLE and the next lower one is due. -/
def Obligations.StepsBeginAndEnd : Prop :=
  (∀ (s : State) (x k : Nat), s.judging → s.atCommands.dev.seq.next = some (x, k) → k ≤ s.atCommands.dev.cur → k ≤
    s.atCommands.dev.tb.now + 1 → (s.atCommands.dev.tb.frameOpen = true → k ≤ s.atCommands.dev.tb.now) →
    s.atCommands.dev.rd SQ_STATUS_STATE = sqUp → s.atCommands.dev.fl SQ_STATUS_REQ = true → s.atCommands.dev.seq.press
    = false → x < nStep s.atCommands.dev → x < 32 → stepShed s.atCommands.dev x = false → stepState s.atCommands.dev x
    ≠ stShed → ∃ t : State, exec (.stepBegin) s = .next t ∧ t.pending = s.pending ∧ stepState t.sys.dev x = stUpwait ∧
    t.sys.dev.rd SQ_STATUS_STEP = x ∧ t.sys.dev.rd SQ_STATUS_STATE = sqUp ∧ t.sys.dev.seq.next = none) ∧
  (∀ (s : State) (x k : Nat), s.judging → s.atCommands.dev.seq.next = some (x, k) → k ≤ s.atCommands.dev.cur → k ≤
    s.atCommands.dev.tb.now + 1 → (s.atCommands.dev.tb.frameOpen = true → k ≤ s.atCommands.dev.tb.now) →
    s.atCommands.dev.rd SQ_STATUS_STATE = sqUp → s.atCommands.dev.fl SQ_STATUS_REQ = true → s.atCommands.dev.seq.press
    = false → x < nStep s.atCommands.dev → x < 32 → stepShed s.atCommands.dev x = true → ∃ t : State, exec
    (.stepBegin) s = .next t ∧ t.pending = s.pending ∧ stepState t.sys.dev x = stShed ∧ t.sys.dev.rd SQ_STATUS_STEP =
    x ∧ t.sys.dev.rd SQ_STATUS_STATE = sqUp ∧ t.sys.dev.seq.next.map (fun e => e.1) = some (x + 1)) ∧
  (∀ (s : State) (x : Fin 32), s.expiring → stepState s.atTimers.dev x.val = stUpwait → act1 (s.atTimers.dev.rd
    SQ_STEP_FILT x.val) ≤ (s.atTimers.dev.stp x.val).cnt → s.atTimers.dev.rd SQ_STATUS_STATE = sqUp →
    s.atTimers.dev.seq.offTaken = false → ∃ t : State, exec (.stepComplete x) s = .next t ∧ t.pending = s.pending ∧
    stepState t.sys.dev x.val = stDone ∧ t.sys.dev.rd SQ_STATUS_STATE = (if nStep s.atTimers.dev ≤ x.val + 1 then sqOn
    else sqUp) ∧ (x.val + 1 < nStep s.atTimers.dev → t.sys.dev.seq.next.map (fun e => e.1) = some (x.val + 1)) ∧
    (nStep s.atTimers.dev ≤ x.val + 1 → t.sys.dev.fl SQ_EVT_ON = true ∧ t.sys.dev.seq.rstAt.isSome = true)) ∧
  (∀ (s : State) (x : Fin 32), s.expiring → stepState s.atTimers.dev x.val = stDnwait → (s.atTimers.dev.stp x.val).blind
    = false → act1 (s.atTimers.dev.rd SQ_STEP_FILT x.val) ≤ (s.atTimers.dev.stp x.val).cnt → s.atTimers.dev.rd
    SQ_STATUS_STATE = sqDown → x.val ≠ 0 → ∃ t : State, exec (.stepComplete x) s = .next t ∧ t.pending = s.pending ∧
    stepState t.sys.dev x.val = stIdle ∧ t.sys.dev.rd SQ_STATUS_STATE = sqDown ∧ t.sys.dev.seq.next.map (fun e => e.1)
    = some (x.val - 1)) ∧
  (∀ (s : State) (x : Fin 32), s.expiring → stepTimeoutDue s.atTimers.dev x.val = true → stepState s.atTimers.dev x.val
    = stUpwait → s.atTimers.dev.rd SQ_STATUS_STATE = sqUp → x.val < nStep s.atTimers.dev → ∃ t : State, exec
    (.stepTimeout x) s = .next t ∧ t.pending = s.pending ∧ stepState t.sys.dev x.val = stFailed ∨ stepState t.sys.dev
    x.val = stDnwait ∨ stepState t.sys.dev x.val = stIdle ∧ t.sys.dev.fl SQ_EVT_TIMEOUT = true ∧ t.sys.dev.fl
    SQ_EVT_FAIL = true ∧ t.sys.dev.rd SQ_FLT_STEP = x.val ∧ t.sys.dev.rd SQ_FLT_CAUSE = 1 ∧ t.sys.dev.rd
    SQ_STATUS_STATE ≠ sqUp ∧ t.sys.dev.rd SQ_STATUS_RSTREL = 0)

/-- MR_SHORT, MR_LONG, MR_FORCEOFF and FORCE_CLEAR (R238, R239): a short press of 50 ms to 4 s sets MRSHORT and sets
REQ on or off as SHACT says; a longer press before FORCET sets MRLONG and changes no request; a press that reaches
FORCET sets FORCE and takes the sequence to MINOFF with every step IDLE; its release clears FORCE. -/
def Obligations.PushButtonPresses : Prop :=
  (∀ (s : State) (ms : BitVec 16), s.sys.dev.quiet → 50 ≤ ms.toNat → ms.toNat ≤ 4000 → ms.toNat < forcet s.sys.dev *
    1000 → s.sys.dev.fl SQ_STATUS_FORCE = false → s.sys.dev.rd SQ_CTRL_SHACT = 0 → ∃ t : State, exec (.mrShort ms) s =
    .next t ∧ t.pending = s.pending ∧ t.sys.dev.fl SQ_EVT_MRSHORT = true ∧ KeepsBut ([(SQ_EVT_MRSHORT, 0)] ++
    recFields) s.sys.dev t.sys.dev) ∧
  (∀ (s : State) (ms : BitVec 16), s.sys.dev.quiet → 50 ≤ ms.toNat → ms.toNat ≤ 4000 → ms.toNat < forcet s.sys.dev *
    1000 → s.sys.dev.fl SQ_STATUS_FORCE = false → s.sys.dev.rd SQ_CTRL_SHACT ≠ 0 → s.sys.dev.rd SQ_STATUS_STATE ≠
    sqLocked → ∃ t : State, exec (.mrShort ms) s = .next t ∧ t.pending = s.pending ∧ t.sys.dev.fl SQ_EVT_MRSHORT =
    true ∧ t.sys.dev.seq.press = true ∧ (pressRequest t.sys.dev).fl SQ_STATUS_REQ = (if s.sys.dev.rd SQ_CTRL_SHACT = 1
    then !s.sys.dev.fl SQ_STATUS_REQ else decide (s.sys.dev.rd SQ_CTRL_SHACT = 2))) ∧
  (∀ (s : State) (ms : BitVec 16), s.sys.dev.quiet → ms.toNat < 50 → ∃ t : State, exec (.mrShort ms) s = .next t ∧
    t.pending = s.pending ∧ KeepsBut [] s.sys.dev t.sys.dev) ∧
  (∀ (s : State) (ms : BitVec 16), s.sys.dev.quiet → 4000 < ms.toNat → ms.toNat < forcet s.sys.dev * 1000 → s.sys.dev.fl
    SQ_STATUS_FORCE = false → ∃ t : State, exec (.mrLong ms) s = .next t ∧ t.pending = s.pending ∧ t.sys.dev.fl
    SQ_EVT_MRLONG = true ∧ t.sys.dev.fl SQ_STATUS_REQ = s.sys.dev.fl SQ_STATUS_REQ ∧ KeepsBut ([(SQ_EVT_MRLONG, 0)] ++
    recFields) s.sys.dev t.sys.dev) ∧
  (∀ (s : State), s.sys.dev.quiet → s.sys.dev.fl SQ_STATUS_FORCE = false → nStep s.sys.dev ≤ 32 → ∃ t : State, exec
    (.mrForceoff) s = .next t ∧ t.pending = s.pending ∧ t.sys.dev.fl SQ_STATUS_FORCE = true ∧ t.sys.dev.fl
    SQ_EVT_FORCEOFF = true ∧ t.sys.dev.rd SQ_STATUS_STATE = sqMinoff ∧ t.sys.dev.rd GL_STATUS_RSTOUT = 1 ∧ (∀ k <
    nStep s.sys.dev, stepState t.sys.dev k = stIdle) ∧ t.sys.dev.fl SQ_STATUS_REQ = s.sys.dev.fl SQ_STATUS_REQ) ∧
  (∀ (s : State), s.sys.dev.quiet → s.sys.dev.fl SQ_STATUS_FORCE = true → ∃ t : State, exec (.forceClear) s = .next t ∧
    t.pending = s.pending ∧ t.sys.dev.fl SQ_STATUS_FORCE = false ∧ KeepsBut [(SQ_STATUS_FORCE, 0)] s.sys.dev
    t.sys.dev)

/-- R288: every index is a free-running 16-bit count, entry k of a ring lies at base + (k mod 2^LOG2SZ) × entry size,
and a ring holds (producer − consumer) mod 65,536 entries. A doorbell (HQ_CQ_DB of a producer, HQ_CPL_DB, HQ_EVQ_DB
and HQ_TEL_DB of a consumer) is valid where the new index lies within the range from the consumer index (to it plus
the ring size, or to the producer index), ends included, mod 65,536; a valid one sets the index, an invalid one is
ignored and sets DBERR, and one that repeats the index in force changes nothing. An entry to sleep ignores doorbells
(R414). The arrival is the latch in phase A. -/
def Obligations.DoorbellsMoveTheRings : Prop :=
  (∀ (d : Dev) (e k ix sz : Nat), 4 ≤ d.rd (hostRing k).log2sz e → d.rd (hostRing k).log2sz e ≤ 12 → hqAddr d e k ix sz
    = (d.rd (hostRing k).baseHi e * 2 ^ 32 + d.rd (hostRing k).baseLo e * 4096) + ix % 2 ^ d.rd (hostRing k).log2sz e
    * sz ∧ hqSize d e k = 2 ^ d.rd (hostRing k).log2sz e) ∧
  (∀ (d : Dev) (e k : Nat), d.rd (hostRing k).ci e < 65536 → hqHeld d e k = (d.rd (hostRing k).pi e + 65536 - d.rd
    (hostRing k).ci e) % 65536) ∧
  (∀ (s : State) (e : Endpoint) (ix : BitVec 16), s.sys.dev.quiet → s.sys.dev.pw.entry = 0 → (ix.toNat + 65536 -
    s.sys.dev.rd HQ_CQ_IDX_CI (epIx e)) % 65536 ≤ hqSize s.sys.dev (epIx e) 0 → ∃ t : State, exec (.hqCqDb e ix) s =
    .next t ∧ t.pending = s.pending ∧ t.sys.dev.rd HQ_CQ_IDX_PI (epIx e) = ix.toNat ∧ KeepsBut [(HQ_CQ_IDX_PI, epIx
    e)] s.sys.dev t.sys.dev) ∧
  (∀ (s : State) (e : Endpoint) (ix : BitVec 16), s.sys.dev.quiet → s.sys.dev.pw.entry = 0 → ¬ ((ix.toNat + 65536 -
    s.sys.dev.rd HQ_CQ_IDX_CI (epIx e)) % 65536 ≤ hqSize s.sys.dev (epIx e) 0) → ∃ t : State, exec (.hqCqDb e ix) s =
    .next t ∧ t.pending = s.pending ∧ t.sys.dev.fl HQ_EVT_DBERR (epIx e) = true ∧ KeepsBut [(HQ_EVT_DBERR, epIx e)]
    s.sys.dev t.sys.dev) ∧
  (∀ (s : State) (e : Endpoint) (ix : BitVec 16), s.sys.dev.quiet → s.sys.dev.pw.entry ≠ 0 → ∃ t : State, exec (.hqCqDb
    e ix) s = .next t ∧ t.pending = s.pending ∧ t.sys.dev.host = s.sys.dev.host ∧ KeepsBut [] s.sys.dev t.sys.dev) ∧
  (∀ (s : State) (e : Endpoint) (ix : BitVec 16), s.sys.dev.quiet → s.sys.dev.pw.entry = 0 → (ix.toNat + 65536 -
    s.sys.dev.rd HQ_CPL_IDX_CI (epIx e)) % 65536 ≤ hqHeld s.sys.dev (epIx e) 1 → ∃ t : State, exec (.hqCplDb e ix) s =
    .next t ∧ t.pending = s.pending ∧ t.sys.dev.rd HQ_CPL_IDX_CI (epIx e) = ix.toNat ∧ KeepsBut [(HQ_CPL_IDX_CI, epIx
    e)] s.sys.dev t.sys.dev) ∧
  (∀ (s : State) (e : Endpoint) (ix : BitVec 16), s.sys.dev.quiet → s.sys.dev.pw.entry = 0 → ¬ ((ix.toNat + 65536 -
    s.sys.dev.rd HQ_CPL_IDX_CI (epIx e)) % 65536 ≤ hqHeld s.sys.dev (epIx e) 1) → ∃ t : State, exec (.hqCplDb e ix) s
    = .next t ∧ t.pending = s.pending ∧ t.sys.dev.fl HQ_EVT_DBERR (epIx e) = true ∧ KeepsBut [(HQ_EVT_DBERR, epIx e)]
    s.sys.dev t.sys.dev) ∧
  (∀ (s : State) (e : Endpoint) (ix : BitVec 16), s.sys.dev.quiet → s.sys.dev.pw.entry ≠ 0 → ∃ t : State, exec (.hqCplDb
    e ix) s = .next t ∧ t.pending = s.pending ∧ t.sys.dev.host = s.sys.dev.host ∧ KeepsBut [] s.sys.dev t.sys.dev) ∧
  (∀ (s : State) (e : Endpoint) (ix : BitVec 16), s.sys.dev.quiet → s.sys.dev.pw.entry = 0 → (ix.toNat + 65536 -
    s.sys.dev.rd HQ_EVQ_IDX_CI (epIx e)) % 65536 ≤ hqHeld s.sys.dev (epIx e) 2 → ∃ t : State, exec (.hqEvqDb e ix) s =
    .next t ∧ t.pending = s.pending ∧ t.sys.dev.rd HQ_EVQ_IDX_CI (epIx e) = ix.toNat ∧ KeepsBut [(HQ_EVQ_IDX_CI, epIx
    e)] s.sys.dev t.sys.dev) ∧
  (∀ (s : State) (e : Endpoint) (ix : BitVec 16), s.sys.dev.quiet → s.sys.dev.pw.entry = 0 → ¬ ((ix.toNat + 65536 -
    s.sys.dev.rd HQ_EVQ_IDX_CI (epIx e)) % 65536 ≤ hqHeld s.sys.dev (epIx e) 2) → ∃ t : State, exec (.hqEvqDb e ix) s
    = .next t ∧ t.pending = s.pending ∧ t.sys.dev.fl HQ_EVT_DBERR (epIx e) = true ∧ KeepsBut [(HQ_EVT_DBERR, epIx e)]
    s.sys.dev t.sys.dev) ∧
  (∀ (s : State) (e : Endpoint) (ix : BitVec 16), s.sys.dev.quiet → s.sys.dev.pw.entry ≠ 0 → ∃ t : State, exec (.hqEvqDb
    e ix) s = .next t ∧ t.pending = s.pending ∧ t.sys.dev.host = s.sys.dev.host ∧ KeepsBut [] s.sys.dev t.sys.dev) ∧
  (∀ (s : State) (e : Endpoint) (ix : BitVec 16), s.sys.dev.quiet → s.sys.dev.pw.entry = 0 → (ix.toNat + 65536 -
    s.sys.dev.rd HQ_TEL_IDX_CI (epIx e)) % 65536 ≤ hqHeld s.sys.dev (epIx e) 3 → ∃ t : State, exec (.hqTelDb e ix) s =
    .next t ∧ t.pending = s.pending ∧ t.sys.dev.rd HQ_TEL_IDX_CI (epIx e) = ix.toNat ∧ KeepsBut [(HQ_TEL_IDX_CI, epIx
    e)] s.sys.dev t.sys.dev) ∧
  (∀ (s : State) (e : Endpoint) (ix : BitVec 16), s.sys.dev.quiet → s.sys.dev.pw.entry = 0 → ¬ ((ix.toNat + 65536 -
    s.sys.dev.rd HQ_TEL_IDX_CI (epIx e)) % 65536 ≤ hqHeld s.sys.dev (epIx e) 3) → ∃ t : State, exec (.hqTelDb e ix) s
    = .next t ∧ t.pending = s.pending ∧ t.sys.dev.fl HQ_EVT_DBERR (epIx e) = true ∧ KeepsBut [(HQ_EVT_DBERR, epIx e)]
    s.sys.dev t.sys.dev) ∧
  (∀ (s : State) (e : Endpoint) (ix : BitVec 16), s.sys.dev.quiet → s.sys.dev.pw.entry ≠ 0 → ∃ t : State, exec (.hqTelDb
    e ix) s = .next t ∧ t.pending = s.pending ∧ t.sys.dev.host = s.sys.dev.host ∧ KeepsBut [] s.sys.dev t.sys.dev) ∧
  (∀ (s : State) (e : Endpoint) (ix : BitVec 16), s.sys.dev.quiet → ix.toNat = s.sys.dev.rd HQ_CQ_IDX_PI (epIx e) →
    (ix.toNat + 65536 - s.sys.dev.rd HQ_CQ_IDX_CI (epIx e)) % 65536 ≤ hqSize s.sys.dev (epIx e) 0 → ∃ t : State, exec
    (.hqCqDb e ix) s = .next t ∧ t.pending = s.pending ∧ t.sys.dev.host = s.sys.dev.host ∧ KeepsBut [] s.sys.dev
    t.sys.dev) ∧
  (∀ (s : State) (e : Endpoint) (ix : BitVec 16), s.sys.dev.quiet → ix.toNat = s.sys.dev.rd HQ_CPL_IDX_CI (epIx e) →
    (ix.toNat + 65536 - s.sys.dev.rd HQ_CPL_IDX_CI (epIx e)) % 65536 ≤ hqHeld s.sys.dev (epIx e) 1 → ∃ t : State, exec
    (.hqCplDb e ix) s = .next t ∧ t.pending = s.pending ∧ t.sys.dev.host = s.sys.dev.host ∧ KeepsBut [] s.sys.dev
    t.sys.dev) ∧
  (∀ (s : State) (e : Endpoint) (ix : BitVec 16), s.sys.dev.quiet → ix.toNat = s.sys.dev.rd HQ_EVQ_IDX_CI (epIx e) →
    (ix.toNat + 65536 - s.sys.dev.rd HQ_EVQ_IDX_CI (epIx e)) % 65536 ≤ hqHeld s.sys.dev (epIx e) 2 → ∃ t : State, exec
    (.hqEvqDb e ix) s = .next t ∧ t.pending = s.pending ∧ t.sys.dev.host = s.sys.dev.host ∧ KeepsBut [] s.sys.dev
    t.sys.dev) ∧
  (∀ (s : State) (e : Endpoint) (ix : BitVec 16), s.sys.dev.quiet → ix.toNat = s.sys.dev.rd HQ_TEL_IDX_CI (epIx e) →
    (ix.toNat + 65536 - s.sys.dev.rd HQ_TEL_IDX_CI (epIx e)) % 65536 ≤ hqHeld s.sys.dev (epIx e) 3 → ∃ t : State, exec
    (.hqTelDb e ix) s = .next t ∧ t.pending = s.pending ∧ t.sys.dev.host = s.sys.dev.host ∧ KeepsBut [] s.sys.dev
    t.sys.dev)

/-- DESCRIPTOR_FETCH (R292, R296, R308, R311, R312, R314): the descriptors of the oldest read advance the ring and
wait in their tick (stated for a read of one descriptor); they are paired before the commands of the tick are handed
over: a local copy, and any copy of the one host heard outside TWIN, goes to the dispatcher; in TWIN an ungated first
copy enters the table and is dispatched; a gated first copy only enters the table; a gated second copy that agrees is
dispatched once with both copies, and one that disagrees is held as a divergence. -/
def Obligations.DescriptorsArePaired : Prop :=
  (∀ (s : State) (e : Endpoint) (x : List Byte), s.sys.dev.quiet → (s.sys.dev.hep (epIx e)).reads = [] → ∃ t : State,
    exec (.descriptorFetch e [x]) s = .next t ∧ t.pending = s.pending ∧ KeepsBut [] s.sys.dev t.sys.dev ∧
    t.sys.dev.host.dq = s.sys.dev.host.dq) ∧
  (∀ (s : State) (e : Endpoint) (x : List Byte) (k : Nat), s.sys.dev.quiet → (s.sys.dev.hep (epIx e)).reads =
    [{ tick := k, n := 1 }] → s.sys.dev.host.arr = [] → descLocal (fit 64 (natBytes x)) = true ∨ (s.sys.dev.rd
    AU_CTRL_MODE = epIx e ∧ (gatedOps.contains (descOp (fit 64 (natBytes x))) = false ∨ s.sys.dev.fl GL_STATUS_MHALT =
    false)) → ∃ t : State, exec (.descriptorFetch e [x]) s = .next t ∧ t.pending = s.pending ∧ t.sys.dev.rd
    HQ_CQ_IDX_CI (epIx e) = (s.sys.dev.rd HQ_CQ_IDX_CI (epIx e) + 1) % 65536 ∧ t.sys.dev.host.arr = [(copyCtx
    s.sys.dev (epIx e) (s.sys.dev.rd HQ_CQ_IDX_CI (epIx e) % 65536) (fit 64 (natBytes x)), fit 64 (natBytes x))] ∧
    ((pairArrived t.sys.dev).host.dq.any (fun y => y.bytes == fit 64 (natBytes x) && y.ctxs.length == 1)) = true ∧
    (pairArrived t.sys.dev).au.table = s.sys.dev.au.table) ∧
  (∀ (s : State) (e : Endpoint) (x : List Byte) (k : Nat), s.sys.dev.quiet → (s.sys.dev.hep (epIx e)).reads =
    [{ tick := k, n := 1 }] → s.sys.dev.host.arr = [] → descLocal (fit 64 (natBytes x)) = false → s.sys.dev.rd
    AU_CTRL_MODE ≠ 2 → s.sys.dev.rd AU_CTRL_MODE ≠ epIx e → ∃ t : State, exec (.descriptorFetch e [x]) s = .next t ∧
    t.pending = s.pending ∧ t.sys.dev.rd HQ_CQ_IDX_CI (epIx e) = (s.sys.dev.rd HQ_CQ_IDX_CI (epIx e) + 1) % 65536 ∧
    t.sys.dev.host.arr = [(copyCtx s.sys.dev (epIx e) (s.sys.dev.rd HQ_CQ_IDX_CI (epIx e) % 65536) (fit 64 (natBytes
    x)), fit 64 (natBytes x))] ∧ (pairArrived t.sys.dev).host.dq = s.sys.dev.host.dq ∧ (pairArrived
    t.sys.dev).au.table = s.sys.dev.au.table) ∧
  (∀ (s : State) (e : Endpoint) (x : List Byte) (k : Nat), s.sys.dev.quiet → (s.sys.dev.hep (epIx e)).reads =
    [{ tick := k, n := 1 }] → s.sys.dev.host.arr = [] → descLocal (fit 64 (natBytes x)) = false → s.sys.dev.rd
    AU_CTRL_MODE = 2 → gatedOps.contains (descOp (fit 64 (natBytes x))) = false → (s.sys.dev.fl (seqSet (epIx e)) =
    false ∨ laterThan (leAt (fit 64 (natBytes x)) 4 4) (s.sys.dev.rd (seqReg (epIx e))) = true) → (s.sys.dev.fl
    (seqSet (1 - epIx e)) = false ∨ laterThan (leAt (fit 64 (natBytes x)) 4 4) (s.sys.dev.rd (seqReg (1 - epIx e))) =
    true) → s.sys.dev.au.table.find? (fun p => p.seq == leAt (fit 64 (natBytes x)) 4 4) = none → ∃ t : State, exec
    (.descriptorFetch e [x]) s = .next t ∧ t.pending = s.pending ∧ t.sys.dev.rd HQ_CQ_IDX_CI (epIx e) = (s.sys.dev.rd
    HQ_CQ_IDX_CI (epIx e) + 1) % 65536 ∧ t.sys.dev.host.arr = [(copyCtx s.sys.dev (epIx e) (s.sys.dev.rd HQ_CQ_IDX_CI
    (epIx e) % 65536) (fit 64 (natBytes x)), fit 64 (natBytes x))] ∧ ((pairArrived t.sys.dev).host.dq.any (fun y =>
    y.bytes == fit 64 (natBytes x) && y.ctxs.length == 1)) = true ∧ (pairArrived t.sys.dev).au.table.any (fun p =>
    p.seq == leAt (fit 64 (natBytes x)) 4 4 && !p.gated) = true ∧ (pairArrived t.sys.dev).rd (seqReg (epIx e)) = leAt
    (fit 64 (natBytes x)) 4 4) ∧
  (∀ (s : State) (e : Endpoint) (x : List Byte) (k : Nat), s.sys.dev.quiet → (s.sys.dev.hep (epIx e)).reads =
    [{ tick := k, n := 1 }] → s.sys.dev.host.arr = [] → descLocal (fit 64 (natBytes x)) = false → s.sys.dev.rd
    AU_CTRL_MODE = 2 → gatedOps.contains (descOp (fit 64 (natBytes x))) = true → s.sys.dev.fl GL_STATUS_MHALT = false
    → (s.sys.dev.fl (seqSet (epIx e)) = false ∨ laterThan (leAt (fit 64 (natBytes x)) 4 4) (s.sys.dev.rd (seqReg (epIx
    e))) = true) → (s.sys.dev.fl (seqSet (1 - epIx e)) = false ∨ laterThan (leAt (fit 64 (natBytes x)) 4 4)
    (s.sys.dev.rd (seqReg (1 - epIx e))) = true) → s.sys.dev.au.table.find? (fun p => p.seq == leAt (fit 64 (natBytes
    x)) 4 4) = none → s.sys.dev.au.table.length < 1024 → ∃ t : State, exec (.descriptorFetch e [x]) s = .next t ∧
    t.pending = s.pending ∧ t.sys.dev.rd HQ_CQ_IDX_CI (epIx e) = (s.sys.dev.rd HQ_CQ_IDX_CI (epIx e) + 1) % 65536 ∧
    t.sys.dev.host.arr = [(copyCtx s.sys.dev (epIx e) (s.sys.dev.rd HQ_CQ_IDX_CI (epIx e) % 65536) (fit 64 (natBytes
    x)), fit 64 (natBytes x))] ∧ (pairArrived t.sys.dev).host.dq = s.sys.dev.host.dq ∧ (pairArrived
    t.sys.dev).au.table.any (fun p => p.seq == leAt (fit 64 (natBytes x)) 4 4 && p.gated && p.copy.bytes == fit 64
    (natBytes x)) = true) ∧
  (∀ (s : State) (e : Endpoint) (x : List Byte) (k : Nat) (p : PairEnt), s.sys.dev.quiet → (s.sys.dev.hep (epIx
    e)).reads = [{ tick := k, n := 1 }] → s.sys.dev.host.arr = [] → descLocal (fit 64 (natBytes x)) = false →
    s.sys.dev.rd AU_CTRL_MODE = 2 → gatedOps.contains (descOp (fit 64 (natBytes x))) = true → s.sys.dev.fl
    GL_STATUS_MHALT = false → (s.sys.dev.fl (seqSet (epIx e)) = false ∨ laterThan (leAt (fit 64 (natBytes x)) 4 4)
    (s.sys.dev.rd (seqReg (epIx e))) = true) → s.sys.dev.au.table.find? (fun p => p.seq == leAt (fit 64 (natBytes x))
    4 4) = some p → p.gated = true → p.copy.dig = copyDigest (fit 64 (natBytes x)) → ∃ t : State, exec
    (.descriptorFetch e [x]) s = .next t ∧ t.pending = s.pending ∧ t.sys.dev.rd HQ_CQ_IDX_CI (epIx e) = (s.sys.dev.rd
    HQ_CQ_IDX_CI (epIx e) + 1) % 65536 ∧ t.sys.dev.host.arr = [(copyCtx s.sys.dev (epIx e) (s.sys.dev.rd HQ_CQ_IDX_CI
    (epIx e) % 65536) (fit 64 (natBytes x)), fit 64 (natBytes x))] ∧ ((pairArrived t.sys.dev).host.dq.any (fun y =>
    y.bytes == p.copy.bytes && y.ctxs.length == 2)) = true ∧ (pairArrived t.sys.dev).au.table =
    s.sys.dev.au.table.filter (fun y => y.seq != p.seq)) ∧
  (∀ (s : State) (e : Endpoint) (x : List Byte) (k : Nat) (p : PairEnt), s.sys.dev.quiet → (s.sys.dev.hep (epIx
    e)).reads = [{ tick := k, n := 1 }] → s.sys.dev.host.arr = [] → descLocal (fit 64 (natBytes x)) = false →
    s.sys.dev.rd AU_CTRL_MODE = 2 → gatedOps.contains (descOp (fit 64 (natBytes x))) = true → s.sys.dev.fl
    GL_STATUS_MHALT = false → (s.sys.dev.fl (seqSet (epIx e)) = false ∨ laterThan (leAt (fit 64 (natBytes x)) 4 4)
    (s.sys.dev.rd (seqReg (epIx e))) = true) → s.sys.dev.au.table.find? (fun p => p.seq == leAt (fit 64 (natBytes x))
    4 4) = some p → p.gated = true → p.copy.dig ≠ copyDigest (fit 64 (natBytes x)) → s.sys.dev.au.held.length < 8 → ∃
    t : State, exec (.descriptorFetch e [x]) s = .next t ∧ t.pending = s.pending ∧ t.sys.dev.rd HQ_CQ_IDX_CI (epIx e)
    = (s.sys.dev.rd HQ_CQ_IDX_CI (epIx e) + 1) % 65536 ∧ t.sys.dev.host.arr = [(copyCtx s.sys.dev (epIx e)
    (s.sys.dev.rd HQ_CQ_IDX_CI (epIx e) % 65536) (fit 64 (natBytes x)), fit 64 (natBytes x))] ∧ (pairArrived
    t.sys.dev).host.dq = s.sys.dev.host.dq ∧ (pairArrived t.sys.dev).au.held.length = s.sys.dev.au.held.length + 1 ∧
    (pairArrived t.sys.dev).au.held.any (fun h => h.seq == p.copy.ctx.seq) = true ∧ (pairArrived t.sys.dev).fl
    AU_EVT_GDIV = true ∧ (pairArrived t.sys.dev).fl GL_STATUS_DIVERGE = true)

/-- PAIR_WINDOW_EXPIRY, AU_VERDICT, VERDICT_TIMEOUT and DIVERGE_PULSE_END (R313, R315, R316): an ungated entry closes
with nothing; a gated one goes to the dispatcher where the authority is its host, else it is a dead letter with
NOPAIR; a verdict dispatches the host it names, releases the hold and sets VERDICT, and one that names no held SEQ
sets VREFUSED; a verdict that does not come in time ends the hold with VTIMEOUT; DIVERGE_N is released with the last
hold and the pulse. -/
def Obligations.PairingWindowsAndVerdicts : Prop :=
  (∀ (s : State) (q : BitVec 32) (p : PairEnt), s.expiring → windowDue s.atTimers.dev q.toNat = true →
    s.atTimers.dev.au.table.find? (fun p => p.seq == q.toNat) = some p → p.gated = false → ∃ t : State, exec
    (.pairWindowExpiry q) s = .next t ∧ t.pending = s.pending ∧ t.sys.dev.host.dq = s.atTimers.dev.host.dq ∧
    t.sys.dev.au.table = s.atTimers.dev.au.table.filter (fun y => y.seq != p.seq) ∧ KeepsBut [(AU_STATUS_DIVERGE, 0),
    (GL_STATUS_DIVERGE, 0), (AU_STATUS_NHELD, 0), (AU_NPEND, 0), (AU_DIV_SEQ, 0), (AU_DIV_DIGA, 0), (AU_DIV_DIGB, 0)]
    s.atTimers.dev t.sys.dev) ∧
  (∀ (s : State) (q : BitVec 32) (p : PairEnt), s.expiring → windowDue s.atTimers.dev q.toNat = true →
    s.atTimers.dev.au.table.find? (fun p => p.seq == q.toNat) = some p → p.gated = true → s.atTimers.dev.rd
    AU_STATUS_AUTH = p.copy.ctx.src + 1 → ∃ t : State, exec (.pairWindowExpiry q) s = .next t ∧ t.pending = s.pending
    ∧ (t.sys.dev.host.dq.any (fun y => y.bytes == p.copy.bytes && y.ctxs == [p.copy.ctx])) = true ∧ t.sys.dev.au.table
    = s.atTimers.dev.au.table.filter (fun y => y.seq != p.seq)) ∧
  (∀ (s : State) (q : BitVec 32) (p : PairEnt), s.expiring → windowDue s.atTimers.dev q.toNat = true →
    s.atTimers.dev.au.table.find? (fun p => p.seq == q.toNat) = some p → p.gated = true → s.atTimers.dev.rd
    AU_STATUS_AUTH ≠ p.copy.ctx.src + 1 → ∃ t : State, exec (.pairWindowExpiry q) s = .next t ∧ t.pending = s.pending
    ∧ t.sys.dev.host.dq = s.atTimers.dev.host.dq ∧ t.sys.dev.fl AU_EVT_NOPAIR = true ∧ t.sys.dev.rd AU_DLCNT = incSat
    AU_DLCNT.w (s.atTimers.dev.rd AU_DLCNT) ∧ t.sys.dev.au.table = s.atTimers.dev.au.table.filter (fun y => y.seq !=
    p.seq) ∧ KeepsBut ([(AU_STATUS_DIVERGE, 0), (GL_STATUS_DIVERGE, 0), (AU_STATUS_NHELD, 0), (AU_NPEND, 0),
    (AU_DIV_SEQ, 0), (AU_DIV_DIGA, 0), (AU_DIV_DIGB, 0)] ++ [(HQ_CPL_IDX_PI, 0), (HQ_CPL_IDX_PI, 1)] ++
    [(AU_EVT_NOPAIR, 0), (AU_DLCNT, 0)] ++ recFields) s.atTimers.dev t.sys.dev) ∧
  (∀ (s : State) (act : BitVec 2), s.turn → writeKind s.sys.dev 2 0x1840 act.toNat = 0 → act ≠ 0 →
    s.atCommands.dev.au.held.find? (fun h => h.seq == s.atCommands.dev.rd AU_VERDICT_SEQ) = none → ∃ t : State, exec
    (.auVerdict act) s = .next t ∧ t.pending = s.pending ∧ t.sys.dev.fl AU_EVT_VREFUSED = true ∧ KeepsBut
    [(AU_EVT_VREFUSED, 0)] s.atCommands.dev t.sys.dev) ∧
  (∀ (s : State) (act : BitVec 2) (h : HeldDiv), s.turn → writeKind s.sys.dev 2 0x1840 act.toNat = 0 → (act = 1 ∨ act =
    2) → s.atCommands.dev.au.held.find? (fun h => h.seq == s.atCommands.dev.rd AU_VERDICT_SEQ) = some h → ∃ t : State,
    exec (.auVerdict act) s = .next t ∧ t.pending = s.pending ∧ t.sys.dev.fl AU_EVT_VERDICT = true ∧
    (t.sys.dev.host.dq.any (fun y => y.bytes == (if act = 1 then h.a.bytes else h.b.bytes) && y.ctxs == [if act = 1
    then h.a.ctx else h.b.ctx])) = true ∧ t.sys.dev.au.held = s.atCommands.dev.au.held.filter (fun y => y.seq !=
    s.atCommands.dev.rd AU_VERDICT_SEQ) ∧ KeepsBut ([(AU_STATUS_DIVERGE, 0), (GL_STATUS_DIVERGE, 0), (AU_STATUS_NHELD,
    0), (AU_NPEND, 0), (AU_DIV_SEQ, 0), (AU_DIV_DIGA, 0), (AU_DIV_DIGB, 0)] ++ [(HQ_CPL_IDX_PI, 0), (HQ_CPL_IDX_PI,
    1)] ++ [(AU_EVT_VERDICT, 0), (AU_DLCNT, 0)] ++ recFields) s.atCommands.dev t.sys.dev) ∧
  (∀ (s : State) (act : BitVec 2) (h : HeldDiv), s.turn → writeKind s.sys.dev 2 0x1840 act.toNat = 0 → act = 3 →
    s.atCommands.dev.au.held.find? (fun h => h.seq == s.atCommands.dev.rd AU_VERDICT_SEQ) = some h → ∃ t : State, exec
    (.auVerdict act) s = .next t ∧ t.pending = s.pending ∧ t.sys.dev.fl AU_EVT_VERDICT = true ∧ t.sys.dev.host.dq =
    s.atCommands.dev.host.dq ∧ t.sys.dev.au.held = s.atCommands.dev.au.held.filter (fun y => y.seq !=
    s.atCommands.dev.rd AU_VERDICT_SEQ)) ∧
  (∀ (s : State) (q : BitVec 32), s.expiring → verdictDue s.atTimers.dev q.toNat = true → ∃ t : State, exec
    (.verdictTimeout q) s = .next t ∧ t.pending = s.pending ∧ t.sys.dev.fl AU_EVT_VTIMEOUT = true ∧ t.sys.dev.fl
    TW_ALERT_VTIMEOUT = true ∧ t.sys.dev.host.dq = s.atTimers.dev.host.dq ∧ t.sys.dev.au.held =
    s.atTimers.dev.au.held.filter (fun y => y.seq != q.toNat) ∧ (t.sys.dev.au.held = [] → s.atTimers.dev.au.pulseEnd =
    none → t.sys.dev.fl GL_STATUS_DIVERGE = false)) ∧
  (∀ (s : State), s.expiring → pulseDue s.atTimers.dev = true → ∃ t : State, exec (.divergePulseEnd) s = .next t ∧
    t.pending = s.pending ∧ t.sys.dev.au.pulseEnd = none ∧ t.sys.dev.fl GL_STATUS_DIVERGE =
    !s.atTimers.dev.au.held.isEmpty ∧ KeepsBut [(AU_STATUS_DIVERGE, 0), (GL_STATUS_DIVERGE, 0), (AU_STATUS_NHELD, 0),
    (AU_NPEND, 0), (AU_DIV_SEQ, 0), (AU_DIV_DIGA, 0), (AU_DIV_DIGB, 0)] s.atTimers.dev t.sys.dev)

/-- AUTH_CHANGE, AU_TOKCMD_GO, AUTH_TOKEN_CHECK, LEASE_EXPIRY and LEASE_BELOW_ONE_SECOND (R318 to R320, R380): a
filtered pin code sets the authority; a submitted token is under check with a new nonce; a check that passes with BSRC
set sets authority and lease from the next tick, and any other outcome sets TOKFAIL and leaves the authority; the end
of the lease takes the authority to none. -/
def Obligations.AuthorityFollowsBraceAndTokens : Prop :=
  (∀ (s : State), s.judging → authDue s.atCommands.dev = true → ∃ t : State, exec (.authChange) s = .next t ∧ t.pending
    = s.pending ∧ t.sys.dev.rd AU_STATUS_AUTH = pinAuth (s.atCommands.dev.rd AU_STATUS_PINS) ∧ t.sys.dev.fl
    AU_EVT_AUTH = true ∧ KeepsBut ([(AU_STATUS_AUTH, 0), (AU_EVT_AUTH, 0)] ++ recFields) s.atCommands.dev t.sys.dev) ∧
  (∀ (s : State), s.turn → writeKind s.sys.dev 2 0x1850 1 = 0 → s.atCommands.dev.fl GL_STATUS_MHALT = false → ∃ t :
    State, exec (.auTokcmdGo) s = .next t ∧ t.pending = s.pending ∧ t.sys.dev.rd AU_STATUS_TOKST = 1 ∧
    t.sys.dev.au.tok = some (tokBytes s.atCommands.dev, s.atCommands.dev.au.nonce) ∧ KeepsBut [(AU_STATUS_TOKST, 0)]
    s.atCommands.dev t.sys.dev) ∧
  (∀ (s : State), s.turn → writeKind s.sys.dev 2 0x1850 1 = 0 → s.atCommands.dev.fl GL_STATUS_MHALT = true → ∃ t :
    State, exec (.auTokcmdGo) s = .next t ∧ t.pending = s.pending ∧ t.sys.dev.rd AU_STATUS_TOKST = 6 ∧ t.sys.dev.fl
    AU_EVT_TOKFAIL = true ∧ t.sys.dev.au.tok = s.atCommands.dev.au.tok ∧ t.sys.dev.rd AU_STATUS_AUTH =
    s.atCommands.dev.rd AU_STATUS_AUTH) ∧
  (∀ (s : State) (x : List Nat) (k : Nat), s.sys.dev.quiet → s.sys.dev.au.tok = some (x, k) → tokOutcome s.sys x k = 2 →
    leAt x 2 2 < 65536 → x.getD 1 0 ≤ 2 → s.sys.dev.fl AU_CTRL_BSRC = true → ∃ t : State, exec (.authTokenCheck) s =
    .next t ∧ t.pending = s.pending ∧ t.sys.dev.rd AU_STATUS_TOKST = 2 ∧ t.sys.dev.fl AU_EVT_TOKEN = true ∧
    t.sys.dev.au.tok = none ∧ t.sys.dev.au.tokOk = some (x.getD 1 0, leAt x 2 2) ∧ (tokApply t.sys.dev).rd AU_LEASE =
    leAt x 2 2 ∧ (tokApply t.sys.dev).rd AU_STATUS_AUTH = x.getD 1 0 ∧ (tokApply t.sys.dev).au.leaseOn = true) ∧
  (∀ (s : State) (x : List Nat) (k : Nat), s.sys.dev.quiet → s.sys.dev.au.tok = some (x, k) → tokOutcome s.sys x k ≠ 2 →
    ∃ t : State, exec (.authTokenCheck) s = .next t ∧ t.pending = s.pending ∧ t.sys.dev.rd AU_STATUS_TOKST =
    tokOutcome s.sys x k ∧ t.sys.dev.fl AU_EVT_TOKFAIL = true ∧ t.sys.dev.au.tok = none ∧ t.sys.dev.rd AU_STATUS_AUTH
    = s.sys.dev.rd AU_STATUS_AUTH ∧ t.sys.dev.rd AU_LEASE = s.sys.dev.rd AU_LEASE) ∧
  (∀ (s : State), s.expiring → s.atTimers.dev.au.leaseOn = true → s.atTimers.dev.rd AU_LEASE = 0 → ∃ t : State, exec
    (.leaseExpiry) s = .next t ∧ t.pending = s.pending ∧ t.sys.dev.rd AU_STATUS_AUTH = 0 ∧ t.sys.dev.fl AU_EVT_LEASE =
    true ∧ t.sys.dev.fl TW_ALERT_LEASE = true ∧ t.sys.dev.au.leaseOn = false) ∧
  (∀ (s : State), s.expiring → s.atTimers.dev.au.leaseOn = true → s.atTimers.dev.au.leaseLow = false → s.atTimers.dev.rd
    AU_LEASE < 100 → ∃ t : State, exec (.leaseBelowOneSecond) s = .next t ∧ t.pending = s.pending ∧ t.sys.dev.fl
    TW_ALERT_LEASE = true ∧ t.sys.dev.au.leaseLow = true ∧ KeepsBut [(TW_ALERT_LEASE, 0), (TW_STATUS_TWB_ALERT, 0)]
    s.atTimers.dev t.sys.dev)

/-- PH_CLAIM, PH_RELEASE, PH_BAR2_WRITE, PH_RECLAIM and PH_COPY_DONE (R301 to R303): an endpoint claims a free hole
below 56 and releases its own; a claim or release of any other hole sets PHVIOL; a window write inside holes that the
endpoint holds reaches hole memory, and any other write leaves it unchanged; a hole held too long is free again; a
copy from host memory that succeeds fills the hole from its start. -/
def Obligations.PidgeonholesChangeHands : Prop :=
  (∀ (s : State) (e : Endpoint) (n : Fin 64), s.sys.dev.quiet → n.val < 56 → phState s.sys.dev n.val = 0 → ∃ t : State,
    exec (.phClaim e n) s = .next t ∧ t.pending = s.pending ∧ phState t.sys.dev n.val = 1 ∧ t.sys.dev.rd HQ_PH_HOLDER
    n.val = epIx e ∧ KeepsBut [(HQ_PH_STATE, n.val), (HQ_PH_HOLDER, n.val)] s.sys.dev t.sys.dev) ∧
  (∀ (s : State) (e : Endpoint) (n : Fin 64), s.sys.dev.quiet → (56 ≤ n.val ∨ phState s.sys.dev n.val ≠ 0) → ∃ t :
    State, exec (.phClaim e n) s = .next t ∧ t.pending = s.pending ∧ t.sys.dev.fl HQ_EVT_PHVIOL (epIx e) = true ∧
    KeepsBut [(HQ_EVT_PHVIOL, epIx e)] s.sys.dev t.sys.dev) ∧
  (∀ (s : State) (e : Endpoint) (n : Fin 64), s.sys.dev.quiet → (phState s.sys.dev n.val = 1 ∨ phState s.sys.dev n.val =
    3) → s.sys.dev.rd HQ_PH_HOLDER n.val = epIx e → ∃ t : State, exec (.phRelease e n) s = .next t ∧ t.pending =
    s.pending ∧ phState t.sys.dev n.val = 0 ∧ t.sys.dev.rd HQ_PH_LEN n.val = 0 ∧ KeepsBut [(HQ_PH_STATE, n.val),
    (HQ_PH_LEN, n.val)] s.sys.dev t.sys.dev) ∧
  (∀ (s : State) (e : Endpoint) (n : Fin 64), s.sys.dev.quiet → ((phState s.sys.dev n.val ≠ 1 ∧ phState s.sys.dev n.val
    ≠ 3) ∨ s.sys.dev.rd HQ_PH_HOLDER n.val ≠ epIx e) → ∃ t : State, exec (.phRelease e n) s = .next t ∧ t.pending =
    s.pending ∧ t.sys.dev.fl HQ_EVT_PHVIOL (epIx e) = true ∧ KeepsBut [(HQ_EVT_PHVIOL, epIx e)] s.sys.dev t.sys.dev) ∧
  (∀ (s : State) (e : Endpoint) (n : Fin 64) (ofs : BitVec 18) (data : List Byte), s.sys.dev.quiet → n.val * 4096 ≤
    ofs.toNat → ofs.toNat + data.length ≤ (n.val + 1) * 4096 → phState s.sys.dev n.val = 1 → s.sys.dev.rd HQ_PH_HOLDER
    n.val = epIx e → data ≠ [] → ∃ t : State, exec (.phBar2Write e ofs data) s = .next t ∧ t.pending = s.pending ∧
    t.sys.ph = Mem.put s.sys.ph ofs.toNat (natBytes data) ∧ t.sys.nv = s.sys.nv ∧ KeepsBut [] s.sys.dev t.sys.dev) ∧
  (∀ (s : State) (e : Endpoint) (ofs : BitVec 18) (data : List Byte), s.sys.dev.quiet → data ≠ [] → (phState s.sys.dev
    (ofs.toNat / 4096) ≠ 1 ∨ s.sys.dev.rd HQ_PH_HOLDER (ofs.toNat / 4096) ≠ epIx e) → ∃ t : State, exec (.phBar2Write
    e ofs data) s = .next t ∧ t.pending = s.pending ∧ t.sys.ph = s.sys.ph ∧ t.sys.dev.fl HQ_EVT_PHVIOL (epIx e) = true
    ∧ KeepsBut ([(HQ_EVT_PHVIOL, epIx e)] ++ recFields) s.sys.dev t.sys.dev) ∧
  (∀ (s : State) (n : Fin 64), s.expiring → reclaimDue s.atTimers.dev n.val = true → ∃ t : State, exec (.phReclaim n) s
    = .next t ∧ t.pending = s.pending ∧ phState t.sys.dev n.val = 0 ∧ t.sys.dev.rd HQ_PH_LEN n.val = 0 ∧ t.sys.dev.fl
    HQ_EVT_RECLAIM (phHolder s.atTimers.dev n.val) = true ∧ KeepsBut ([(HQ_PH_STATE, n.val), (HQ_PH_LEN, n.val),
    (HQ_EVT_RECLAIM, phHolder s.atTimers.dev n.val)] ++ recFields) s.atTimers.dev t.sys.dev) ∧
  (∀ (s : State) (n : Fin 64) (data : List Byte) (o : CopyOp), s.sys.dev.quiet → s.sys.dev.host.copies.find? (fun o =>
    o.hole == n.val && o.sent) = some o → o.dir = 0 → o.back < 4 → bitOf s.sys.dev.host.phDrop n.val = false → ∃ t :
    State, exec (.phCopyDone n true data) s = .next t ∧ t.pending = s.pending ∧ t.sys.ph = Mem.put s.sys.ph (n.val *
    4096) (fit o.len (natBytes data)) ∧ t.sys.nv = s.sys.nv ∧ phState t.sys.dev n.val = o.back ∧ t.sys.dev.host.copies
    = s.sys.dev.host.copies.filter (fun x => x.hole != n.val)) ∧
  (∀ (s : State) (n : Fin 64) (data : List Byte) (o : CopyOp), s.sys.dev.quiet → s.sys.dev.host.copies.find? (fun o =>
    o.hole == n.val && o.sent) = some o → o.back < 4 → bitOf s.sys.dev.host.phDrop n.val = false → ∃ t : State, exec
    (.phCopyDone n false data) s = .next t ∧ t.pending = s.pending ∧ t.sys.ph = s.sys.ph ∧ t.sys.nv = s.sys.nv ∧
    phState t.sys.dev n.val = o.back ∧ t.sys.dev.host.copies = s.sys.dev.host.copies.filter (fun x => x.hole !=
    n.val))

/-- HOST_DMA_ERR, MSIX_MESSAGE, ENDPOINT_DOWN and ENDPOINT_UP (R286, R299, R304): a failed host access disables its
ring, counts and sets DMAERR; a due message leaves once; an endpoint that goes down returns its group to reset values,
drops its reads and frees its holes; one that comes up sets LINK. -/
def Obligations.EndpointsFallAndRise : Prop :=
  (∀ (s : State) (e : Endpoint) (k : Fin 4), s.sys.dev.quiet → ∃ t : State, exec (.hostDmaErr e k) s = .next t ∧
    t.pending = s.pending ∧ t.sys.dev.rd (hostRing k.val).en (epIx e) = 0 ∧ t.sys.dev.fl HQ_EVT_DMAERR (epIx e) = true
    ∧ t.sys.dev.rd HQ_DMAERR (epIx e) = incSat HQ_DMAERR.w (s.sys.dev.rd HQ_DMAERR (epIx e)) ∧ KeepsBut ([((hostRing
    k.val).en, epIx e), (HQ_EVT_DMAERR, epIx e), (HQ_DMAERR, epIx e)] ++ recFields) s.sys.dev t.sys.dev ∧ (k.val = 0 →
    (t.sys.dev.hep (epIx e)).reads = [])) ∧
  (∀ (s : State) (e : Endpoint) (v : Fin 16), s.expiring → bitOf (s.atTimers.dev.hep (epIx e)).msi v.val = true → ∃ t :
    State, exec (.msixMessage e v) s = .next t ∧ t.pending = s.pending ∧ bitOf (t.sys.dev.hep (epIx e)).msi v.val =
    false ∧ t.sys.dev.out = s.atTimers.dev.out ++ [Emission.msix (epIx e) v.val] ∧ KeepsBut [] s.atTimers.dev
    t.sys.dev) ∧
  (∀ (s : State) (e : Endpoint), s.sys.dev.quiet → ∃ t : State, exec (.endpointDown e) s = .next t ∧ t.pending =
    s.pending ∧ t.sys.dev.rd HQ_STATUS_LINK (epIx e) = 0 ∧ t.sys.dev.fl HQ_CQ_CFG_EN (epIx e) = false ∧ t.sys.dev.rd
    HQ_CQ_IDX_PI (epIx e) = 0 ∧ (t.sys.dev.hep (epIx e)).reads = [] ∧ t.sys.dev.fl (seqSet (epIx e)) = false ∧
    (t.sys.dev.hep (epIx e)).gen = (s.sys.dev.hep (epIx e)).gen + 1 ∧ (∀ n : Fin 64, phHolder s.sys.dev n.val = epIx e
    → phState s.sys.dev n.val = 1 ∨ phState s.sys.dev n.val = 3 → phState t.sys.dev n.val = 0)) ∧
  (∀ (s : State) (e : Endpoint), s.sys.dev.quiet → ∃ t : State, exec (.endpointUp e) s = .next t ∧ t.pending = s.pending
    ∧ t.sys.dev.rd HQ_STATUS_LINK (epIx e) = 1 ∧ KeepsBut [(HQ_STATUS_LINK, epIx e)] s.sys.dev t.sys.dev)

/-- The checks of R292 on the host commands of rails, fuses and rings: reserved LOCAL gives BAD_ARG, an argument
outside its range BAD_ARG, a target that is not configured BAD_TARGET, and a gated command under a management halt
ends as a dead letter; nothing but the completion changes. NOP, QUERY_REG, QUERY_CHAN and PH_COPY (R291, R295, R301):
NOP changes nothing; a query writes its bytes to a free result hole, which is DONE with their length and named in the
completion, or is BUSY with no free hole; PH_COPY puts its hole in DEVICE and waits for the host access. -/
def Obligations.HostQueriesAndRefusalsAnswer : Prop :=
  (∀ (s : State) (h : Sender) (n : Byte) (v : Word), s.turn → h.path ≠ .sp → (h.lcl = true ∨ 16 ≤ n.toNat) → ∃ t :
    State, exec (.railVset h n v) s = .next t ∧ t.pending = s.pending ∧ KeepsBut [] s.atCommands.dev t.sys.dev ∧
    Answered h stBadArg 0 s.atCommands.dev t.sys.dev) ∧
  (∀ (s : State) (h : Sender) (n : Byte), s.turn → h.path ≠ .sp → h.lcl = false → n.toNat < 16 → railConf
    s.atCommands.dev n.toNat = false → ∃ t : State, exec (.railOn h n) s = .next t ∧ t.pending = s.pending ∧ KeepsBut
    ([]) s.atCommands.dev t.sys.dev ∧ Answered h stBadTgt (0) s.atCommands.dev t.sys.dev) ∧
  (∀ (s : State) (h : Sender) (f : Byte), s.turn → h.path ≠ .sp → h.lcl = false → f.toNat < 64 → fuValid
    s.atCommands.dev f.toNat = false → ∃ t : State, exec (.fuseOn h f) s = .next t ∧ t.pending = s.pending ∧ KeepsBut
    ([]) s.atCommands.dev t.sys.dev ∧ Answered h stBadTgt (0) s.atCommands.dev t.sys.dev) ∧
  (∀ (s : State) (h : Sender) (f : Byte), s.turn → h.path ≠ .sp → h.lcl = false → 64 ≤ f.toNat → ∃ t : State, exec
    (.fuseOn h f) s = .next t ∧ t.pending = s.pending ∧ KeepsBut ([]) s.atCommands.dev t.sys.dev ∧ Answered h stBadArg
    (0) s.atCommands.dev t.sys.dev) ∧
  (∀ (s : State) (h : Sender) (r : Byte), s.turn → h.path ≠ .sp → h.lcl = false → r.toNat < 8 → s.atCommands.dev.fl
    GL_STATUS_MHALT = false → s.atCommands.dev.fl RG_CTRL_EN r.toNat = false → ∃ t : State, exec (.ringReset h r) s =
    .next t ∧ t.pending = s.pending ∧ KeepsBut ([]) s.atCommands.dev t.sys.dev ∧ Answered h stBadTgt (0)
    s.atCommands.dev t.sys.dev) ∧
  (∀ (s : State) (h : Sender) (n : Byte), s.turn → (h.path = .pa ∨ h.path = .pb) → s.atCommands.dev.fl GL_STATUS_MHALT =
    true → ∃ t : State, exec (.railOff h n) s = .next t ∧ t.pending = s.pending ∧ KeepsBut ([(AU_DLCNT, 0)] ++
    recFields) s.atCommands.dev t.sys.dev ∧ t.sys.dev.rd AU_DLCNT = incSat AU_DLCNT.w (s.atCommands.dev.rd AU_DLCNT)) ∧
  (∀ (s : State) (h : Sender), s.turn → h.path ≠ .sp → h.lcl = false → ∃ t : State, exec (.nop h) s = .next t ∧
    t.pending = s.pending ∧ KeepsBut ([]) s.atCommands.dev t.sys.dev ∧ Answered h stSuccess (0) s.atCommands.dev
    t.sys.dev) ∧
  (∀ (s : State) (h : Sender) (ofs : BitVec 16) (cnt : Byte) (n : Nat), s.turn → h.path ≠ .sp → h.lcl = false →
    ofs.toNat % 4 = 0 → 1 ≤ cnt.toNat → cnt.toNat ≤ 16 → ofs.toNat + 4 * cnt.toNat ≤ 65536 → (List.range
    cnt.toNat).all (fun k => wordThere s.atCommands.dev (accIx h.path) (ofs.toNat + 4 * k)) = true → resultHole
    s.atCommands.dev = some n → ∃ t : State, exec (.queryReg h ofs cnt) s = .next t ∧ t.pending = s.pending ∧ t.sys.ph
    = Mem.put s.atCommands.ph (n * 4096) (readWords s.atCommands (accIx h.path) ofs.toNat cnt.toNat).1 ∧ phState
    t.sys.dev n = 3 ∧ t.sys.dev.rd HQ_PH_HOLDER n = (accIx h.path) % 2 ∧ t.sys.dev.rd HQ_PH_LEN n = (readWords
    s.atCommands (accIx h.path) ofs.toNat cnt.toNat).1.length ∧ Answered h stSuccess (n + (readWords s.atCommands
    (accIx h.path) ofs.toNat cnt.toNat).1.length * 256) s.atCommands.dev t.sys.dev) ∧
  (∀ (s : State) (h : Sender) (ofs : BitVec 16) (cnt : Byte), s.turn → h.path ≠ .sp → h.lcl = false → ofs.toNat % 4 = 0
    → 1 ≤ cnt.toNat → cnt.toNat ≤ 16 → ofs.toNat + 4 * cnt.toNat ≤ 65536 → (List.range cnt.toNat).all (fun k =>
    wordThere s.atCommands.dev (accIx h.path) (ofs.toNat + 4 * k)) = true → resultHole s.atCommands.dev = none → ∃ t :
    State, exec (.queryReg h ofs cnt) s = .next t ∧ t.pending = s.pending ∧ t.sys.ph = s.atCommands.ph ∧ KeepsBut ([])
    s.atCommands.dev t.sys.dev ∧ Answered h stBusy (0) s.atCommands.dev t.sys.dev) ∧
  (∀ (s : State) (h : Sender) (ofs : BitVec 16) (cnt : Byte), s.turn → h.path ≠ .sp → h.lcl = false → (ofs.toNat % 4 ≠ 0
    ∨ cnt = 0 ∨ 16 < cnt.toNat ∨ 65536 < ofs.toNat + 4 * cnt.toNat ∨ (List.range cnt.toNat).all (fun k => wordThere
    s.atCommands.dev (accIx h.path) (ofs.toNat + 4 * k)) = false) → ∃ t : State, exec (.queryReg h ofs cnt) s = .next
    t ∧ t.pending = s.pending ∧ t.sys.ph = s.atCommands.ph ∧ KeepsBut ([]) s.atCommands.dev t.sys.dev ∧ Answered h
    stBadArg (0) s.atCommands.dev t.sys.dev) ∧
  (∀ (s : State) (h : Sender) (c : Byte) (n : Nat), s.turn → h.path ≠ .sp → h.lcl = false → roleOf s.atCommands.dev
    c.toNat ≠ 0 → resultHole s.atCommands.dev = some n → ∃ t : State, exec (.queryChan h c) s = .next t ∧ t.pending =
    s.pending ∧ t.sys.ph = Mem.put s.atCommands.ph (n * 4096) (chanBytes s.atCommands.dev c.toNat) ∧ phState t.sys.dev
    n = 3 ∧ t.sys.dev.rd HQ_PH_LEN n = 64 ∧ KeepsBut ([(HQ_PH_STATE, n), (HQ_PH_HOLDER, n), (HQ_PH_LEN, n)])
    s.atCommands.dev t.sys.dev ∧ Answered h stSuccess (n + 64 * 256) s.atCommands.dev t.sys.dev) ∧
  (∀ (s : State) (h : Sender) (c : Byte), s.turn → h.path ≠ .sp → h.lcl = false → roleOf s.atCommands.dev c.toNat = 0 →
    ∃ t : State, exec (.queryChan h c) s = .next t ∧ t.pending = s.pending ∧ t.sys.ph = s.atCommands.ph ∧ KeepsBut
    ([]) s.atCommands.dev t.sys.dev ∧ Answered h stBadTgt (0) s.atCommands.dev t.sys.dev) ∧
  (∀ (s : State) (h : Sender) (n dir : Byte) (len : BitVec 16) (addr : Word64), s.turn → h.path ≠ .sp → h.lcl = false →
    dir.toNat ≤ 1 → 1 ≤ len.toNat → len.toNat ≤ 4096 → addr.toNat % 4 = 0 → holeOk s.atCommands.dev (accIx h.path)
    (n.toNat, 2) = true → ∃ t : State, exec (.phCopy h n dir len addr) s = .next t ∧ t.pending = s.pending ∧ phState
    t.sys.dev n.toNat = 2 ∧ t.sys.dev.host.copies = s.atCommands.dev.host.copies ++ [CopyOp.mk n.toNat dir.toNat
    len.toNat (phState s.atCommands.dev n.toNat) (ctxOf s.atCommands.dev h) addr.toNat (paceReady s.atCommands.dev
    (accIx h.path))] ∧ t.sys.dev.out = (if paceReady s.atCommands.dev (accIx h.path) then s.atCommands.dev.out ++
    [Emission.phCopy (accIx h.path) dir.toNat n.toNat addr.toNat len.toNat] else s.atCommands.dev.out) ∧ t.sys.ph =
    s.atCommands.ph ∧ KeepsBut ([(HQ_PH_STATE, n.toNat)]) s.atCommands.dev t.sys.dev)

/-- RAIL_VSET, RAIL_ON, RAIL_OFF, FUSE_ON, FUSE_OFF and FUSE_RESET (R156, R212, R236, R291): RAIL_VSET writes VR_VSET;
RAIL_ON takes a rail in OFF that no step names to PREP, stays pending where the request loses (R25), and acts as
SEQ_STEPON for one that a step names; RAIL_OFF in ON takes a step to HOSTOFF and otherwise disables the rail; the fuse
commands act as the register commands. -/
def Obligations.RailAndFuseCommandsAct : Prop :=
  (∀ (s : State) (h : Sender) (n : Byte) (v : Word), s.turn → h.path ≠ .sp → h.lcl = false → s.atCommands.dev.sill =
    false → railOk s.atCommands.dev n.toNat = true → ∃ t : State, exec (.railVset h n v) s = .next t ∧ t.pending =
    s.pending ∧ t.sys.dev.rd VR_VSET n.toNat = v.toNat ∧ KeepsBut ([(VR_VSET, n.toNat)]) s.atCommands.dev t.sys.dev ∧
    Answered h stSuccess (0) s.atCommands.dev t.sys.dev) ∧
  (∀ (s : State) (h : Sender) (n : Byte), s.turn → h.path ≠ .sp → h.lcl = false → s.atCommands.dev.sill = false → railOk
    s.atCommands.dev n.toNat = true → stepOf s.atCommands.dev 1 n.toNat = none → kindShed s.atCommands.dev 1 n.toNat =
    false → railState s.atCommands.dev n.toNat = vrOff → ∃ t : State, exec (.railOn h n) s = .next t ∧ t.pending =
    s.pending ∧ t.sys.dev.rd VR_STATUS_STATE n.toNat = vrPrep ∧ Answered h stSuccess (0) s.atCommands.dev t.sys.dev) ∧
  (∀ (s : State) (h : Sender) (n : Byte), s.turn → h.path ≠ .sp → h.lcl = false → s.atCommands.dev.sill = false → railOk
    s.atCommands.dev n.toNat = true → stepOf s.atCommands.dev 1 n.toNat = none → (kindShed s.atCommands.dev 1 n.toNat
    = true ∨ railState s.atCommands.dev n.toNat = vrRampdn) → ∃ t : State, exec (.railOn h n) s = .next t ∧ t.pending
    = s.pending ∧ (t.sys.dev.rail n.toNat).pend = some true ∧ KeepsBut ([]) s.atCommands.dev t.sys.dev ∧ Answered h
    stSuccess (0) s.atCommands.dev t.sys.dev) ∧
  (∀ (s : State) (h : Sender) (n : Byte) (x : Nat), s.turn → h.path ≠ .sp → h.lcl = false → s.atCommands.dev.sill =
    false → railOk s.atCommands.dev n.toNat = true → stepOf s.atCommands.dev 1 n.toNat = some x → sqState
    s.atCommands.dev = sqOn → stepState s.atCommands.dev x = stHostoff → stepShed s.atCommands.dev x = false → x < 32
    → ∃ t : State, exec (.railOn h n) s = .next t ∧ t.pending = s.pending ∧ stepState t.sys.dev x = stUpwait ∧
    Answered h stSuccess (0) s.atCommands.dev t.sys.dev) ∧
  (∀ (s : State) (h : Sender) (n : Byte) (x : Nat), s.turn → h.path ≠ .sp → h.lcl = false → s.atCommands.dev.sill =
    false → railOk s.atCommands.dev n.toNat = true → stepOf s.atCommands.dev 1 n.toNat = some x → sqState
    s.atCommands.dev ≠ sqOn → ∃ t : State, exec (.railOn h n) s = .next t ∧ t.pending = s.pending ∧ t.sys.dev.fl
    SQ_EVT_REFUSED = true ∧ KeepsBut ([(SQ_EVT_REFUSED, 0)]) s.atCommands.dev t.sys.dev ∧ Answered h stRefused (0)
    s.atCommands.dev t.sys.dev) ∧
  (∀ (s : State) (h : Sender) (n : Byte) (x : Nat), s.turn → h.path ≠ .sp → h.lcl = false → s.atCommands.dev.fl
    GL_STATUS_MHALT = false → s.atCommands.dev.sill = false → railOk s.atCommands.dev n.toNat = true → stepOf
    s.atCommands.dev 1 n.toNat = some x → sqState s.atCommands.dev = sqOn → x < 32 → ∃ t : State, exec (.railOff h n)
    s = .next t ∧ t.pending = s.pending ∧ stepState t.sys.dev x = stHostoff ∧ t.sys.dev.rd SQ_STATUS_STATE = sqOn ∧
    Answered h stSuccess (0) s.atCommands.dev t.sys.dev) ∧
  (∀ (s : State) (h : Sender) (n : Byte), s.turn → h.path ≠ .sp → h.lcl = false → s.atCommands.dev.fl GL_STATUS_MHALT =
    false → s.atCommands.dev.sill = false → railOk s.atCommands.dev n.toNat = true → stepOf s.atCommands.dev 1 n.toNat
    = none → railState s.atCommands.dev n.toNat = vrPrep → ∃ t : State, exec (.railOff h n) s = .next t ∧ t.pending =
    s.pending ∧ t.sys.dev.rd VR_STATUS_STATE n.toNat = vrOff ∧ Answered h stSuccess (0) s.atCommands.dev t.sys.dev) ∧
  (∀ (s : State) (h : Sender) (f : Byte) (c : Nat), s.turn → h.path ≠ .sp → h.lcl = false → s.atCommands.dev.sill =
    false → fuseOk s.atCommands.dev f.toNat = true → fuInfg s.atCommands.dev f.toNat = false → fuPortsw
    s.atCommands.dev f.toNat = false → fuState s.atCommands.dev f.toNat = fuOff → classShed s.atCommands.dev f.toNat =
    false → seqClaim s.atCommands.dev 2 f.toNat ≠ some false → chanOfFuse s.atCommands.dev f.toNat = some c →
    (s.atCommands.dev.chn c).smp.has = true → chFlag s.atCommands.dev c flRolef = false → ∃ t : State, exec (.fuseOn h
    f) s = .next t ∧ t.pending = s.pending ∧ t.sys.dev.rd FU_STATUS_STATE f.toNat = fuRamp ∧ (t.sys.dev.fuz
    f.toNat).want = true ∧ (t.sys.dev.fuz f.toNat).pend = none ∧ Answered h stSuccess (0) s.atCommands.dev t.sys.dev) ∧
  (∀ (s : State) (h : Sender) (f : Byte), s.turn → h.path ≠ .sp → h.lcl = false → s.atCommands.dev.sill = false → fuseOk
    s.atCommands.dev f.toNat = true → fuInfg s.atCommands.dev f.toNat = false → fuPortsw s.atCommands.dev f.toNat =
    false → fuState s.atCommands.dev f.toNat = fuOff → classShed s.atCommands.dev f.toNat = true → ∃ t : State, exec
    (.fuseOn h f) s = .next t ∧ t.pending = s.pending ∧ (t.sys.dev.fuz f.toNat).pend = some true ∧ KeepsBut ([])
    s.atCommands.dev t.sys.dev ∧ Answered h stSuccess (0) s.atCommands.dev t.sys.dev) ∧
  (∀ (s : State) (h : Sender) (f : Byte), s.turn → h.path ≠ .sp → h.lcl = false → s.atCommands.dev.fl GL_STATUS_MHALT =
    false → s.atCommands.dev.sill = false → fuseOk s.atCommands.dev f.toNat = true → fuInfg s.atCommands.dev f.toNat =
    false → fuPortsw s.atCommands.dev f.toNat = false → (fuState s.atCommands.dev f.toNat = fuRamp ∨ fuState
    s.atCommands.dev f.toNat = fuOn ∨ fuState s.atCommands.dev f.toNat = fuTripped) → stepOf s.atCommands.dev 2
    f.toNat = none → ∃ t : State, exec (.fuseOff h f) s = .next t ∧ t.pending = s.pending ∧ t.sys.dev.rd
    FU_STATUS_STATE f.toNat = fuOff ∧ (t.sys.dev.fuz f.toNat).want = false ∧ KeepsBut ([(FU_STATUS_STATE, f.toNat)])
    s.atCommands.dev t.sys.dev ∧ Answered h stSuccess (0) s.atCommands.dev t.sys.dev) ∧
  (∀ (s : State) (h : Sender) (f : Byte), s.turn → h.path ≠ .sp → h.lcl = false → s.atCommands.dev.sill = false → fuseOk
    s.atCommands.dev f.toNat = true → fuState s.atCommands.dev f.toNat = fuLockout → (s.atCommands.dev.fuz
    f.toNat).want = false → ∃ t : State, exec (.fuseReset h f) s = .next t ∧ t.pending = s.pending ∧ t.sys.dev.rd
    FU_STATUS_STATE f.toNat = fuOff ∧ t.sys.dev.rd FU_STATUS_RCNT f.toNat = 0 ∧ t.sys.dev.fl FU_STATUS_IMPL f.toNat =
    false ∧ KeepsBut ([(FU_STATUS_STATE, f.toNat), (FU_STATUS_RCNT, f.toNat), (FU_STATUS_IMPL, f.toNat)])
    s.atCommands.dev t.sys.dev ∧ Answered h stSuccess (0) s.atCommands.dev t.sys.dev)

/-- FG_ON, FG_OFF, FG_XFER, BUS_VSET, FEEDER_REMOVE, FEEDER_READMIT, CAP_SET and THROT_SET (R173, R176, R177, R220,
R221, R247, R291): a group is enabled, or disabled with both members open; a feed change of a group that is off or
shed is refused; BUS_VSET and CAP_SET are staged; a feeder in WAIT is removed by the host and a removed one returns to
WAIT; a throttle request of a sender is kept for an output pin in mode 0 and is CONFLICT for another. -/
def Obligations.GroupBusAndCapCommandsAct : Prop :=
  (∀ (s : State) (h : Sender) (n : Byte), s.turn → h.path ≠ .sp → h.lcl = false → s.atCommands.dev.sill = false →
    groupOk s.atCommands.dev n.toNat = true → groupShed s.atCommands.dev n.toNat = false → seqClaim s.atCommands.dev 3
    n.toNat ≠ some false → ∃ t : State, exec (.fgOn h n) s = .next t ∧ t.pending = s.pending ∧ (t.sys.dev.fg
    n.toNat).en = true ∧ (t.sys.dev.fg n.toNat).pend = none ∧ Answered h stSuccess (0) s.atCommands.dev t.sys.dev) ∧
  (∀ (s : State) (h : Sender) (n : Byte), s.turn → h.path ≠ .sp → h.lcl = false → s.atCommands.dev.fl GL_STATUS_MHALT =
    false → s.atCommands.dev.sill = false → groupOk s.atCommands.dev n.toNat = true → stepOf s.atCommands.dev 3
    n.toNat = none → ∃ t : State, exec (.fgOff h n) s = .next t ∧ t.pending = s.pending ∧ (t.sys.dev.fg n.toNat).en =
    false ∧ (groupMembers s.atCommands.dev n.toNat).all (fun f => !t.sys.dev.fl FU_STATUS_SEL f && fuState t.sys.dev f
    != fuOn && fuState t.sys.dev f != fuRamp && fuState t.sys.dev f != fuTripped) = true ∧ Answered h stSuccess (0)
    s.atCommands.dev t.sys.dev) ∧
  (∀ (s : State) (h : Sender) (n : Byte), s.turn → h.path ≠ .sp → h.lcl = false → s.atCommands.dev.fl GL_STATUS_MHALT =
    false → s.atCommands.dev.sill = false → groupOk s.atCommands.dev n.toNat = true → ((s.atCommands.dev.fg
    n.toNat).en = false ∨ (s.atCommands.dev.fg n.toNat).shed = true) → ∃ t : State, exec (.fgXfer h n) s = .next t ∧
    t.pending = s.pending ∧ KeepsBut ([]) s.atCommands.dev t.sys.dev ∧ Answered h stRefused (0) s.atCommands.dev
    t.sys.dev) ∧
  (∀ (s : State) (h : Sender) (n : Byte) (p q : Nat), s.turn → h.path ≠ .sp → h.lcl = false → s.atCommands.dev.fl
    GL_STATUS_MHALT = false → s.atCommands.dev.sill = false → groupOk s.atCommands.dev n.toNat = true → groupPrim
    s.atCommands.dev n.toNat = some p → groupSec s.atCommands.dev n.toNat = some q → groupSel s.atCommands.dev n.toNat
    = some p → fuState s.atCommands.dev p = fuOn → (s.atCommands.dev.fuz p).supply < 4 → fuAvail s.atCommands.dev q =
    true → (s.atCommands.dev.fg n.toNat).en = true → (s.atCommands.dev.fg n.toNat).shed = false → (s.atCommands.dev.fg
    n.toNat).stuck = false → (s.atCommands.dev.fg n.toNat).chg.isNone = true → (chanOfFuse s.atCommands.dev p).isSome
    = true → ∃ t : State, exec (.fgXfer h n) s = .next t ∧ t.pending = s.pending ∧ (t.sys.dev.fg n.toNat).req = true ∧
    (groupSelect t.sys.dev n.toNat).fl FU_STATUS_SEL p = false ∧ (groupSelect t.sys.dev n.toNat).fl FU_STATUS_SEL q =
    true ∧ (groupSelect t.sys.dev n.toNat).fl FU_STATUS_XFER p = true ∧ (groupSelect t.sys.dev n.toNat).fl
    FU_STATUS_GMAN p = true ∧ Answered h stSuccess (0) s.atCommands.dev t.sys.dev) ∧
  (∀ (s : State) (h : Sender) (v : BitVec 16), s.turn → h.path ≠ .sp → h.lcl = false → s.atCommands.dev.sill = false → ∃
    t : State, exec (.busVset h v) s = .next t ∧ t.pending = s.pending ∧ t.sys.dev.staged.any (fun y => y.reg.id ==
    FD_VSET_VSET.id && y.val == v.toNat && y.batch == accIx h.path + 1) = true ∧ KeepsBut ([]) s.atCommands.dev
    t.sys.dev ∧ Answered h stSuccess (0) s.atCommands.dev t.sys.dev) ∧
  (∀ (s : State) (h : Sender) (i : Byte), s.turn → h.path ≠ .sp → h.lcl = false → s.atCommands.dev.sill = false →
    feederOk s.atCommands.dev i.toNat = true → fmState s.atCommands.dev i.toNat = fmIdle → ∃ t : State, exec
    (.feederRemove h i) s = .next t ∧ t.pending = s.pending ∧ t.sys.dev.fl FD_EVT_REFUSED = true ∧ KeepsBut
    ([(FD_EVT_REFUSED, 0)]) s.atCommands.dev t.sys.dev ∧ Answered h stRefused (0) s.atCommands.dev t.sys.dev) ∧
  (∀ (s : State) (h : Sender) (i : Byte), s.turn → h.path ≠ .sp → h.lcl = false → s.atCommands.dev.sill = false →
    feederOk s.atCommands.dev i.toNat = true → fmState s.atCommands.dev i.toNat = fmWait → ∃ t : State, exec
    (.feederRemove h i) s = .next t ∧ t.pending = s.pending ∧ t.sys.dev.rd FD_FM_STATE i.toNat = fmRemoved ∧
    t.sys.dev.rd FD_FM_REASON i.toNat = 1 ∧ t.sys.dev.rd FD_FM_NREM i.toNat = incSat FD_FM_NREM.w (s.atCommands.dev.rd
    FD_FM_NREM i.toNat) ∧ t.sys.dev.fl FD_EVT_REMOVE = true ∧ Answered h stSuccess (0) s.atCommands.dev t.sys.dev) ∧
  (∀ (s : State) (h : Sender) (i : Byte), s.turn → h.path ≠ .sp → h.lcl = false → s.atCommands.dev.sill = false →
    feederOk s.atCommands.dev i.toNat = true → fmState s.atCommands.dev i.toNat = fmRemoved → ∃ t : State, exec
    (.feederReadmit h i) s = .next t ∧ t.pending = s.pending ∧ t.sys.dev.rd FD_FM_STATE i.toNat = fmWait ∧
    t.sys.dev.rd FD_FM_REASON i.toNat = 0 ∧ t.sys.dev.fl FD_EVT_READMIT = true ∧ Answered h stSuccess (0)
    s.atCommands.dev t.sys.dev) ∧
  (∀ (s : State) (h : Sender) (k n : Byte) (w : BitVec 16), s.turn → h.path ≠ .sp → h.lcl = false →
    s.atCommands.dev.sill = false → (k.toNat = 0 ∨ k.toNat = 3) → n = 0 → ∃ t : State, exec (.capSet h k n w) s =
    .next t ∧ t.pending = s.pending ∧ t.sys.dev.staged.any (fun y => y.reg.id == (if k.toNat = 0 then CP_HUB_CAPW.id
    else CP_HUCAP_HUCAP.id) && y.val == w.toNat) = true ∧ KeepsBut ([]) s.atCommands.dev t.sys.dev ∧ Answered h
    stSuccess (0) s.atCommands.dev t.sys.dev) ∧
  (∀ (s : State) (h : Sender) (k n : Byte) (w : BitVec 16), s.turn → h.path ≠ .sp → h.lcl = false →
    s.atCommands.dev.sill = false → k.toNat = 1 → railOk s.atCommands.dev n.toNat = true → ∃ t : State, exec (.capSet
    h k n w) s = .next t ∧ t.pending = s.pending ∧ t.sys.dev.staged.any (fun y => y.reg.id == CP_RAIL.id && y.ix ==
    n.toNat && y.val % 65536 == w.toNat) = true ∧ KeepsBut ([]) s.atCommands.dev t.sys.dev ∧ Answered h stSuccess (0)
    s.atCommands.dev t.sys.dev) ∧
  (∀ (s : State) (h : Sender) (k on : Byte), s.turn → h.path ≠ .sp → h.lcl = false → s.atCommands.dev.sill = false →
    k.toNat < 4 → on.toNat < 2 → pinMode s.atCommands.dev k.toNat = 0 → ∃ t : State, exec (.throtSet h k on) s = .next
    t ∧ t.pending = s.pending ∧ bitOf t.sys.dev.gov.req (4 * accIx h.path + k.toNat) = (on == 1) ∧ KeepsBut
    ([(CP_STATUS_THR, 0), (CP_ASSERT_BUS, 0), (CP_ASSERT_RAILCAP, 0), (CP_ASSERT_FORCE, 0)]) s.atCommands.dev
    t.sys.dev ∧ Answered h stSuccess (0) s.atCommands.dev t.sys.dev) ∧
  (∀ (s : State) (h : Sender) (k on : Byte), s.turn → h.path ≠ .sp → h.lcl = false → s.atCommands.dev.sill = false →
    k.toNat < 4 → on.toNat < 2 → pinMode s.atCommands.dev k.toNat ≠ 0 → ∃ t : State, exec (.throtSet h k on) s = .next
    t ∧ t.pending = s.pending ∧ t.sys.dev.gov.req = s.atCommands.dev.gov.req ∧ KeepsBut ([]) s.atCommands.dev
    t.sys.dev ∧ Answered h stConflict (0) s.atCommands.dev t.sys.dev)

/-- SEQ_ON, SEQ_OFF, SEQ_STEPON, SEQ_STEPOFF, SEQ_CLRFLT, LOOP_SETPT, LOOP_MODE, LOOP_MANOUT, CHAN_REIDENT and
RING_RESET (R84, R109, R126, R128, R131, R235, R236, R240, R291): the sequence commands act as the register commands;
a set-point is refused for a slot with PAR_EN or whose set-point a function writes; mode and manual output reach the
scarf register of their slot; a channel is marked for a new identity; a ring that runs is reset after its SAFE frames.
-/
def Obligations.SequenceAndLoopCommandsAct : Prop :=
  (∀ (s : State) (h : Sender), s.turn → h.path ≠ .sp → h.lcl = false → s.atCommands.dev.sill = false →
    s.atCommands.dev.fl SQ_STATUS_FORCE = false → s.atCommands.dev.rd SQ_STATUS_STATE = sqMinoff → ∃ t : State, exec
    (.seqOn h) s = .next t ∧ t.pending = s.pending ∧ t.sys.dev.fl SQ_STATUS_REQ = true ∧ KeepsBut ([(SQ_STATUS_REQ,
    0)] ++ recFields) s.atCommands.dev t.sys.dev ∧ Answered h stSuccess (0) s.atCommands.dev t.sys.dev) ∧
  (∀ (s : State) (h : Sender), s.turn → h.path ≠ .sp → h.lcl = false → s.atCommands.dev.sill = false →
    (s.atCommands.dev.fl SQ_STATUS_FORCE = true ∨ s.atCommands.dev.rd SQ_STATUS_STATE = sqLocked) → ∃ t : State, exec
    (.seqOn h) s = .next t ∧ t.pending = s.pending ∧ t.sys.dev.fl SQ_EVT_REFUSED = true ∧ KeepsBut ([(SQ_EVT_REFUSED,
    0)] ++ recFields) s.atCommands.dev t.sys.dev ∧ Answered h stRefused (0) s.atCommands.dev t.sys.dev) ∧
  (∀ (s : State) (h : Sender), s.turn → h.path ≠ .sp → h.lcl = false → s.atCommands.dev.fl GL_STATUS_MHALT = false →
    s.atCommands.dev.sill = false → s.atCommands.dev.rd SQ_STATUS_STATE = sqOn → ∃ t : State, exec (.seqOff h) s =
    .next t ∧ t.pending = s.pending ∧ t.sys.dev.fl SQ_STATUS_REQ = false ∧ (seqActReq t.sys.dev).rd SQ_STATUS_STATE =
    sqDown ∧ (seqActReq t.sys.dev).rd GL_STATUS_RSTOUT = 1 ∧ KeepsBut ([(SQ_STATUS_REQ, 0)] ++ recFields)
    s.atCommands.dev t.sys.dev ∧ Answered h stSuccess (0) s.atCommands.dev t.sys.dev) ∧
  (∀ (s : State) (h : Sender) (x : Byte), s.turn → h.path ≠ .sp → h.lcl = false → s.atCommands.dev.sill = false →
    x.toNat < nStep s.atCommands.dev → x.toNat < 32 → s.atCommands.dev.rd SQ_STATUS_STATE = sqOn → (stepState
    s.atCommands.dev x.toNat = stHostoff ∨ stepState s.atCommands.dev x.toNat = stFailed ∨ stepState s.atCommands.dev
    x.toNat = stShed) → stepShed s.atCommands.dev x.toNat = false → ∃ t : State, exec (.seqStepon h x) s = .next t ∧
    t.pending = s.pending ∧ stepState t.sys.dev x.toNat = stUpwait ∧ Answered h stSuccess (0) s.atCommands.dev
    t.sys.dev) ∧
  (∀ (s : State) (h : Sender) (x : Byte), s.turn → h.path ≠ .sp → h.lcl = false → s.atCommands.dev.fl GL_STATUS_MHALT =
    false → s.atCommands.dev.sill = false → x.toNat < nStep s.atCommands.dev → x.toNat < 32 → s.atCommands.dev.rd
    SQ_STATUS_STATE = sqOn → ∃ t : State, exec (.seqStepoff h x) s = .next t ∧ t.pending = s.pending ∧ stepState
    t.sys.dev x.toNat = stHostoff ∧ Answered h stSuccess (0) s.atCommands.dev t.sys.dev) ∧
  (∀ (s : State) (h : Sender) (x : Byte), s.turn → h.path ≠ .sp → h.lcl = false → s.atCommands.dev.fl GL_STATUS_MHALT =
    false → s.atCommands.dev.sill = false → x.toNat < nStep s.atCommands.dev → x.toNat < 32 → s.atCommands.dev.rd
    SQ_STATUS_STATE ≠ sqOn → ∃ t : State, exec (.seqStepoff h x) s = .next t ∧ t.pending = s.pending ∧ t.sys.dev.fl
    SQ_EVT_REFUSED = true ∧ KeepsBut ([(SQ_EVT_REFUSED, 0)]) s.atCommands.dev t.sys.dev ∧ Answered h stRefused (0)
    s.atCommands.dev t.sys.dev) ∧
  (∀ (s : State) (h : Sender), s.turn → h.path ≠ .sp → h.lcl = false → s.atCommands.dev.sill = false → ∃ t : State, exec
    (.seqClrflt h) s = .next t ∧ t.pending = s.pending ∧ t.sys.dev.rd SQ_STATUS_STATE = (if s.atCommands.dev.rd
    SQ_STATUS_STATE = sqLocked then sqMinoff else s.atCommands.dev.rd SQ_STATUS_STATE) ∧ bitOf t.sys.dev.seq.fault 4 =
    false ∧ Answered h stSuccess (0) s.atCommands.dev t.sys.dev) ∧
  (∀ (s : State) (h : Sender) (x : Byte) (v : Word), s.turn → h.path ≠ .sp → h.lcl = false → s.atCommands.dev.sill =
    false → s.atCommands.dev.fl LS_EN x.toNat = true → (s.atCommands.dev.fl LS_PAR_EN x.toNat = true ∨ functionSetpt
    s.atCommands.dev x.toNat = true) → ∃ t : State, exec (.loopSetpt h x v) s = .next t ∧ t.pending = s.pending ∧
    KeepsBut ([]) s.atCommands.dev t.sys.dev ∧ Answered h stRefused (0) s.atCommands.dev t.sys.dev) ∧
  (∀ (s : State) (h : Sender) (x : Byte) (v : Word), s.turn → h.path ≠ .sp → h.lcl = false → s.atCommands.dev.sill =
    false → s.atCommands.dev.fl LS_EN x.toNat = true → s.atCommands.dev.fl LS_PAR_EN x.toNat = false → functionSetpt
    s.atCommands.dev x.toNat = false → ∃ t : State, exec (.loopSetpt h x v) s = .next t ∧ t.pending = s.pending ∧
    t.sys.dev.rd LS_SETPT x.toNat = v.toNat ∧ KeepsBut ([(LS_SETPT, x.toNat)]) s.atCommands.dev t.sys.dev ∧ Answered h
    stSuccess (0) s.atCommands.dev t.sys.dev) ∧
  (∀ (s : State) (h : Sender) (x m : Byte) (i : Nat), s.turn → h.path ≠ .sp → h.lcl = false → s.atCommands.dev.fl
    GL_STATUS_MHALT = false → s.atCommands.dev.sill = false → s.atCommands.dev.fl LS_EN x.toNat = true → m.toNat < 2 →
    scarfIx s.atCommands.dev x.toNat = some i → ∃ t : State, exec (.loopMode h x m) s = .next t ∧ t.pending =
    s.pending ∧ t.sys.dev.rd LE_SCARF_MODE i = m.toNat ∧ KeepsBut ([(LE_SCARF_MODE, i)]) s.atCommands.dev t.sys.dev ∧
    Answered h stSuccess (0) s.atCommands.dev t.sys.dev) ∧
  (∀ (s : State) (h : Sender) (x : Byte) (v : Word) (i : Nat), s.turn → h.path ≠ .sp → h.lcl = false →
    s.atCommands.dev.sill = false → s.atCommands.dev.fl LS_EN x.toNat = true → scarfIx s.atCommands.dev x.toNat = some
    i → ∃ t : State, exec (.loopManout h x v) s = .next t ∧ t.pending = s.pending ∧ t.sys.dev.rd LE_SCARF_MAN_OUT i =
    v.toNat ∧ KeepsBut ([(LE_SCARF_MAN_OUT, i)]) s.atCommands.dev t.sys.dev ∧ Answered h stSuccess (0)
    s.atCommands.dev t.sys.dev) ∧
  (∀ (s : State) (h : Sender) (x : Byte) (v : Word), s.turn → h.path ≠ .sp → h.lcl = false → scarfIx s.atCommands.dev
    x.toNat = none → ∃ t : State, exec (.loopManout h x v) s = .next t ∧ t.pending = s.pending ∧ KeepsBut ([])
    s.atCommands.dev t.sys.dev ∧ Answered h stBadTgt (0) s.atCommands.dev t.sys.dev) ∧
  (∀ (s : State) (h : Sender) (c : Byte), s.turn → h.path ≠ .sp → h.lcl = false → s.atCommands.dev.sill = false → roleOf
    s.atCommands.dev c.toNat ≠ 0 → ∃ t : State, exec (.chanReident h c) s = .next t ∧ t.pending = s.pending ∧
    (t.sys.dev.chn c.toNat).reid = true ∧ KeepsBut ([]) s.atCommands.dev t.sys.dev ∧ Answered h stSuccess (0)
    s.atCommands.dev t.sys.dev) ∧
  (∀ (s : State) (h : Sender) (r : Byte), s.turn → h.path ≠ .sp → h.lcl = false → s.atCommands.dev.fl GL_STATUS_MHALT =
    false → s.atCommands.dev.sill = false → ringOk s.atCommands.dev r.toNat = true → ringState s.atCommands.dev
    r.toNat = rgRun → ∃ t : State, exec (.ringReset h r) s = .next t ∧ t.pending = s.pending ∧ (t.sys.dev.rg
    r.toNat).resetPend = true ∧ 3 ≤ (t.sys.dev.rg r.toNat).safeAll ∧ KeepsBut ([]) s.atCommands.dev t.sys.dev ∧
    Answered h stSuccess (0) s.atCommands.dev t.sys.dev)

/-- CAP_RELEASE, AVG_WINDOW, SNAPSHOT_ENTRY_WRITE, TM_PK_READ and TM_CHSTAT_READ (R246, R257, R258, R264, R265): a cap
that has been clear long enough is released; a completed window becomes the one shown; the oldest snapshot entry is
written; reading a hold answers it and empties that accessor's hold alone; reading the channel status answers it and
shadows the window for that accessor. -/
def Obligations.TelemetryAndCapsAnswer : Prop :=
  (∀ (s : State) (k : Fin 33), s.expiring → capReleaseDue s.atTimers.dev k.val = true → ∃ t : State, exec (.capRelease
    k) s = .next t ∧ t.pending = s.pending ∧ capOn t.sys.dev k.val = false ∧ Tbl.get 0 t.sys.dev.gov.rel k.val = 0 ∧
    KeepsBut ([(CP_ASSERT_HUB, 0), (CP_ASSERT2_RAIL, 0), (CP_ASSERT2_FG, 0), (CP_STATUS_THR, 0), (CP_ASSERT_BUS, 0),
    (CP_ASSERT_RAILCAP, 0), (CP_ASSERT_FORCE, 0)] ++ recFields) s.atTimers.dev t.sys.dev) ∧
  (∀ (s : State) (c : Fin 256) (q : Quad), s.expiring → (s.atTimers.dev.tc c.val).done = some q → ∃ t : State, exec
    (.avgWindow c) s = .next t ∧ t.pending = s.pending ∧ (t.sys.dev.tc c.val).shown = q ∧ (t.sys.dev.tc c.val).done =
    none ∧ KeepsBut [] s.atTimers.dev t.sys.dev) ∧
  (∀ (s : State), s.expiring → s.atTimers.dev.tm.entries ≠ [] → paceReady s.atTimers.dev 4 = true → ∃ t : State, exec
    (.snapshotEntryWrite) s = .next t ∧ t.pending = s.pending ∧ t.sys.dev.tm.entries = s.atTimers.dev.tm.entries.tail
    ∧ Tbl.get none t.sys.dev.th.paceEnd 4 = some t.sys.dev.cur ∧ KeepsBut [(HQ_TEL_IDX_PI, 0), (HQ_TEL_IDX_PI, 1),
    (TM_DROPA, 0), (TM_DROPB, 0), (TM_EVT_DROPA, 0), (TM_EVT_DROPB, 0), (TM_STATUS_BUSY, 0)] s.atTimers.dev t.sys.dev
    ∧ (hqOn s.atTimers.dev 0 3 = true → hqHeld s.atTimers.dev 0 3 < hqSize s.atTimers.dev 0 3 → t.sys.dev.rd
    HQ_TEL_IDX_PI 0 = (s.atTimers.dev.rd HQ_TEL_IDX_PI 0 + 1) % 65536)) ∧
  (∀ (s : State) (a : Accessor) (q : Fin 8), s.sys.dev.quiet → wordThere s.sys.dev (accIx a) (0xA040 + 4 * q.val) = true
    → ∃ t : State, exec (.tmPkRead a q) s = .next t ∧ t.pending = s.pending ∧ t.sys.dev.out.getLast? = some (.readData
    (accIx a) (0xA040 + 4 * q.val) (ofS 32 (sat32 ((Tbl.get none (s.sys.dev.tc (telSel s.sys.dev (accIx a))).pk (8 *
    accIx a + q.val)).getD 0)))) ∧ Tbl.get none (t.sys.dev.tc (telSel s.sys.dev (accIx a))).pk (8 * accIx a + q.val) =
    none ∧ (∀ o : Fin 32, o.val ≠ 8 * accIx a + q.val → Tbl.get none (t.sys.dev.tc (telSel s.sys.dev (accIx a))).pk
    o.val = Tbl.get none (s.sys.dev.tc (telSel s.sys.dev (accIx a))).pk o.val) ∧ KeepsBut [] s.sys.dev t.sys.dev) ∧
  (∀ (s : State) (a : Accessor), s.sys.dev.quiet → wordThere s.sys.dev (accIx a) 0xA02C = true → ∃ t : State, exec
    (.tmChstatRead a) s = .next t ∧ t.pending = s.pending ∧ t.sys.dev.out.getLast? = some (.readData (accIx a) 0xA02C
    (chstatWord s.sys.dev (accIx a))) ∧ Tbl.get {} t.sys.dev.tm.shadow (accIx a) = (s.sys.dev.tc (telSel s.sys.dev
    (accIx a))).shown ∧ KeepsBut [] s.sys.dev t.sys.dev)

/-- THERM_DIE, THERM_DIE_CLEAR, THERM_LEVEL, THERM_RATE, THERM_STAGE and PACED_OPERATION_START (R268 to R273): a die
limit sets HOT or CRIT with its event until the temperature has come back; the level that the next tick takes follows
the average and never falls below LVLMIN; a rate beyond its limit sets its event; a stage at its limit is recorded as
the last one and faults its owner where ACT says so; a paced operation that is ready is let go. -/
def Obligations.ThermalEventsAct : Prop :=
  (∀ (s : State) (crit : Bool), s.expiring → dieDue s.atTimers.dev crit = true → ∃ t : State, exec (.thermDie crit) s =
    .next t ∧ t.pending = s.pending ∧ t.sys.dev.fl (if crit then TH_STATUS_CRIT else TH_STATUS_HOT) = true ∧
    t.sys.dev.fl (if crit then TH_EVT_DIECRIT else TH_EVT_DIEWARN) = true ∧ KeepsBut ([(TH_STATUS_CRIT, 0),
    (TH_STATUS_HOT, 0), (TH_EVT_DIECRIT, 0), (TH_EVT_DIEWARN, 0)] ++ recFields) s.atTimers.dev t.sys.dev ∧
    t.sys.dev.tfq = s.atTimers.dev.tfq ++ (if crit ∧ s.atTimers.dev.fl TH_CTRL_CRIT_ACT = true then [(0, 0, 2)] else
    [])) ∧
  (∀ (s : State) (crit : Bool), s.judging → dieClearDue s.atCommands.dev crit = true → ∃ t : State, exec (.thermDieClear
    crit) s = .next t ∧ t.pending = s.pending ∧ t.sys.dev.fl (if crit then TH_STATUS_CRIT else TH_STATUS_HOT) = false
    ∧ KeepsBut [(if crit then TH_STATUS_CRIT else TH_STATUS_HOT, 0)] s.atCommands.dev t.sys.dev) ∧
  (∀ (s : State), s.expiring → s.atTimers.dev.th.lvlDue = true → ∃ t : State, exec (.thermLevel) s = .next t ∧ t.pending
    = s.pending ∧ t.sys.dev.th.lvlNext = (if levelNext s.atTimers.dev (s.atTimers.dev.rdS TH_DIEAVG) =
    s.atTimers.dev.rd TH_STATUS_LEVEL then s.atTimers.dev.th.lvlNext else some (levelNext s.atTimers.dev
    (s.atTimers.dev.rdS TH_DIEAVG))) ∧ s.atTimers.dev.rd TH_CTRL_LVLMIN ≤ levelNext s.atTimers.dev (s.atTimers.dev.rdS
    TH_DIEAVG) ∧ (levelNext s.atTimers.dev (s.atTimers.dev.rdS TH_DIEAVG) ≠ s.atTimers.dev.rd TH_STATUS_LEVEL →
    t.sys.dev.fl TH_EVT_LEVEL = true) ∧ t.sys.dev.th.lvlDue = false ∧ KeepsBut ([(TH_EVT_LEVEL, 0)] ++ recFields)
    s.atTimers.dev t.sys.dev) ∧
  (∀ (s : State) (j : Fin 8), s.expiring → rateOver s.atTimers.dev j.val ≠ [] → ∃ t : State, exec (.thermRate j) s =
    .next t ∧ t.pending = s.pending ∧ rateOver t.sys.dev j.val = [] ∧ t.sys.dev.fl TH_EVT_DRATE = true ∨ t.sys.dev.fl
    TH_EVT_SRATE = true ∧ ((rateOver s.atTimers.dev j.val).any (fun e => e.1 == 0) = true → t.sys.dev.fl TH_EVT_DRATE
    = true)) ∧
  (∀ (s : State) (c : Fin 256) (flt : Bool), s.expiring → stageDue s.atTimers.dev c.val flt = true → ∃ t : State, exec
    (.thermStage c flt) s = .next t ∧ t.pending = s.pending ∧ t.sys.dev.fl (if flt then TH_EVT_SFAULT else
    TH_EVT_SWARN) = true ∧ t.sys.dev.rd TH_LAST_CH = c.val ∧ t.sys.dev.rd TH_LAST_LIM = flt.toNat ∧ stageDue t.sys.dev
    c.val flt = false ∧ (t.sys.dev.tfq = s.atTimers.dev.tfq ∨ flt = true)) ∧
  (∀ (s : State) (k : Fin 5), s.expiring → paceReady s.atTimers.dev k.val = true → ∃ t : State, exec
    (.pacedOperationStart k) s = .next t ∧ t.pending = s.pending ∧ bitOf t.sys.dev.th.paceGo k.val = true ∧ KeepsBut
    [] s.atTimers.dev t.sys.dev)

/-- PLAN_PERIOD_END, PLANNER_WRITE, PLAN_EXPIRED, MP_CMD_APPROVE, MP_CMD_REJECT, MP_CMD_RUNNOW, MP_CMD_REBASE,
ID_CHIP, ID_RESUME and MEASUREMENT_BLOCK (R275 to R284): a period takes the next plan number; an approval of the
pending plan queues its changes for the next frame and any other is refused; a plan that expires is gone; changes that
may be written are written and leave the queue; a chip advances the identification; a measurement of a stage is added
to its sums. -/
def Obligations.PlansAreMadeAndApplied : Prop :=
  (∀ (s : State), s.expiring → periodDue s.atTimers.dev = true → s.atTimers.dev.fl GL_STATUS_MHALT = false → ∃ t :
    State, exec (.planPeriodEnd) s = .next t ∧ t.pending = s.pending ∧ t.sys.dev.rd MP_PLANNUM = (s.atTimers.dev.rd
    MP_PLANNUM + 1) % 2 ^ 32 ∧ t.sys.dev.fl MP_EVT_PLAN = true ∧ t.sys.dev.mp.runNow = false ∧ t.sys.dev.mp.since =
    s.atTimers.dev.tb.now ∧ t.sys.dev.mp.todoAt = s.atTimers.dev.rd TB_FRAME_NUM + 1 ∧ (s.atTimers.dev.fl MP_CTRL_MODE
    = false → t.sys.dev.fl MP_STATUS_ADVPEND = true ∧ t.sys.dev.mp.todo = [])) ∧
  (∀ (s : State), s.expiring → periodDue s.atTimers.dev = true → s.atTimers.dev.fl GL_STATUS_MHALT = true → ∃ t : State,
    exec (.planPeriodEnd) s = .next t ∧ t.pending = s.pending ∧ t.sys.dev.mp.runNow = false ∧ t.sys.dev.mp.since =
    s.atTimers.dev.tb.now ∧ KeepsBut [] s.atTimers.dev t.sys.dev) ∧
  (∀ (s : State) (x : PlanItem), s.expiring → s.atTimers.dev.mp.todo = [x] → s.atTimers.dev.mp.todoAt ≤
    s.atTimers.dev.rd TB_FRAME_NUM → s.atTimers.dev.fl GL_STATUS_MHALT = false → blockPend s.atTimers.dev x.reg =
    false → x.o ≠ 8 → ∃ t : State, exec (.plannerWrite) s = .next t ∧ t.pending = s.pending ∧ t.sys.dev.fl
    MP_EVT_APPLIED = true ∧ t.sys.dev.mp.todo = [] ∧ t.sys.dev.staged.any (fun y => y.reg.id == x.reg.id && y.ix ==
    x.ix) = true ∧ t.sys.dev.mp.todoAt = s.atTimers.dev.rd TB_FRAME_NUM + 1) ∧
  (∀ (s : State), s.expiring → s.atTimers.dev.fl MP_STATUS_ADVPEND = true → s.atTimers.dev.mp.advEnd ≤
    s.atTimers.dev.tb.now → ∃ t : State, exec (.planExpired) s = .next t ∧ t.pending = s.pending ∧ t.sys.dev.fl
    MP_STATUS_ADVPEND = false ∧ t.sys.dev.fl MP_EVT_EXPIRED = true ∧ t.sys.dev.mp.advice = [] ∧ KeepsBut
    ([(MP_STATUS_ADVPEND, 0), (MP_EVT_EXPIRED, 0)] ++ recFields) s.atTimers.dev t.sys.dev) ∧
  (∀ (s : State) (a : Accessor), s.turn → a ≠ .sp → writeKind s.sys.dev (accIx a) (0xAC10) (1) = 0 → s.atCommands.dev.fl
    MP_STATUS_ADVPEND = true → s.atCommands.dev.rd MP_APPRNUM = s.atCommands.dev.rd MP_PLANNUM → ∃ t : State, exec
    (.mpCmdApprove a) s = .next t ∧ t.pending = s.pending ∧ t.sys.dev.fl MP_STATUS_ADVPEND = false ∧
    t.sys.dev.mp.todo.length = s.atCommands.dev.mp.todo.length + s.atCommands.dev.mp.advice.length ∧
    t.sys.dev.mp.todoAt = s.atCommands.dev.rd TB_FRAME_NUM + 1 ∧ t.sys.dev.mp.advice = [] ∧ KeepsBut
    ([(MP_STATUS_ADVPEND, 0)] ++ recFields) s.atCommands.dev t.sys.dev) ∧
  (∀ (s : State) (a : Accessor), s.turn → a ≠ .sp → writeKind s.sys.dev (accIx a) (0xAC10) (1) = 0 →
    (s.atCommands.dev.fl MP_STATUS_ADVPEND = false ∨ s.atCommands.dev.rd MP_APPRNUM ≠ s.atCommands.dev.rd MP_PLANNUM)
    → ∃ t : State, exec (.mpCmdApprove a) s = .next t ∧ t.pending = s.pending ∧ t.sys.dev.fl MP_EVT_REFUSED = true ∧
    t.sys.dev.mp = s.atCommands.dev.mp ∧ KeepsBut ([(MP_EVT_REFUSED, 0)] ++ recFields) s.atCommands.dev t.sys.dev) ∧
  (∀ (s : State) (a : Accessor), s.turn → a ≠ .sp → writeKind s.sys.dev (accIx a) (0xAC10) (2) = 0 → s.atCommands.dev.fl
    MP_STATUS_ADVPEND = true → s.atCommands.dev.rd MP_APPRNUM = s.atCommands.dev.rd MP_PLANNUM → ∃ t : State, exec
    (.mpCmdReject a) s = .next t ∧ t.pending = s.pending ∧ t.sys.dev.fl MP_STATUS_ADVPEND = false ∧
    t.sys.dev.mp.advice = [] ∧ t.sys.dev.mp.todo = s.atCommands.dev.mp.todo ∧ KeepsBut ([(MP_STATUS_ADVPEND, 0)] ++
    recFields) s.atCommands.dev t.sys.dev) ∧
  (∀ (s : State) (a : Accessor), s.turn → a ≠ .sp → writeKind s.sys.dev (accIx a) (0xAC10) (2) = 0 →
    (s.atCommands.dev.fl MP_STATUS_ADVPEND = false ∨ s.atCommands.dev.rd MP_APPRNUM ≠ s.atCommands.dev.rd MP_PLANNUM)
    → ∃ t : State, exec (.mpCmdReject a) s = .next t ∧ t.pending = s.pending ∧ t.sys.dev.fl MP_EVT_REFUSED = true ∧
    t.sys.dev.mp = s.atCommands.dev.mp ∧ KeepsBut ([(MP_EVT_REFUSED, 0)] ++ recFields) s.atCommands.dev t.sys.dev) ∧
  (∀ (s : State) (a : Accessor), s.turn → a ≠ .sp → writeKind s.sys.dev (accIx a) (0xAC10) (4) = 0 → ∃ t : State, exec
    (.mpCmdRunnow a) s = .next t ∧ t.pending = s.pending ∧ t.sys.dev.mp.runNow = true ∧ KeepsBut [] s.atCommands.dev
    t.sys.dev) ∧
  (∀ (s : State) (a : Accessor), s.turn → a ≠ .sp → writeKind s.sys.dev (accIx a) (0xAC10) (8) = 0 → ∃ t : State, exec
    (.mpCmdRebase a) s = .next t ∧ t.pending = s.pending ∧ (t.sys.dev.mp.res.all (fun e => e.2.all (fun r =>
    r.base.isNone))) = true ∧ t.sys.dev.mp.res.map (fun e => e.1) = s.atCommands.dev.mp.res.map (fun e => e.1) ∧
    KeepsBut [] s.atCommands.dev t.sys.dev) ∧
  (∀ (s : State), s.expiring → chipDue s.atTimers.dev = true → s.atTimers.dev.fl GL_STATUS_MHALT = false →
    s.atTimers.dev.rd MP_IDSTAT_CHIP < 1022 → ∃ t : State, exec (.idChip) s = .next t ∧ t.pending = s.pending ∧
    t.sys.dev.rd MP_IDSTAT_CHIP = s.atTimers.dev.rd MP_IDSTAT_CHIP + 1 ∧ t.sys.dev.mp.lfsr = lfsrNext
    s.atTimers.dev.mp.lfsr ∧ t.sys.dev.mp.chipEnd = s.atTimers.dev.mp.chipEnd + chipLen s.atTimers.dev ∧ KeepsBut
    [(MP_IDSTAT_CHIP, 0)] s.atTimers.dev t.sys.dev) ∧
  (∀ (s : State), s.expiring → chipDue s.atTimers.dev = true → s.atTimers.dev.fl GL_STATUS_MHALT = false → 1022 ≤
    s.atTimers.dev.rd MP_IDSTAT_CHIP → ∃ t : State, exec (.idChip) s = .next t ∧ t.pending = s.pending ∧ t.sys.dev.fl
    MP_EVT_IDDONE = true ∧ t.sys.dev.fl MP_IDSTAT_ACTIVE = false ∧ (s.atTimers.dev.rd MP_IDSTAT_RAIL < 16 →
    (t.sys.dev.rail (s.atTimers.dev.rd MP_IDSTAT_RAIL)).pid = 0)) ∧
  (∀ (s : State), s.expiring → resumeDue s.atTimers.dev = true → s.atTimers.dev.fl GL_STATUS_MHALT = false → railM
    s.atTimers.dev (s.atTimers.dev.rd MP_IDSTAT_RAIL) = s.atTimers.dev.mp.startM → ∃ t : State, exec (.idResume) s =
    .next t ∧ t.pending = s.pending ∧ t.sys.dev.fl MP_IDSTAT_PAUSED = false ∧ t.sys.dev.fl MP_IDSTAT_ACTIVE = true ∧
    t.sys.dev.rd MP_IDSTAT_CHIP = s.atTimers.dev.rd MP_IDSTAT_CHIP ∧ t.sys.dev.mp.clearAt = none ∧ KeepsBut
    [(MP_IDSTAT_PAUSED, 0)] s.atTimers.dev t.sys.dev) ∧
  (∀ (s : State) (r : Fin 8) (p : Nat) (x : List Nat) (ms : List (Nat × List Nat)), s.sys.dev.quiet → (s.sys.dev.rg
    r.val).meas = (p, x) :: ms → s.sys.dev.fl MP_CTRL_MEAS_EN = true → x.length = 16 → leAt x 10 2 ≠ 0 → ∃ t : State,
    exec (.measurementBlock r) s = .next t ∧ t.pending = s.pending ∧ (t.sys.dev.rg r.val).meas = ms ∧ Tbl.get (0, 0)
    t.sys.dev.mp.blocks (r.val * 32 + p) = ((Tbl.get (0, 0) s.sys.dev.mp.blocks (r.val * 32 + p)).1 + 1, (Tbl.get (0,
    0) s.sys.dev.mp.blocks (r.val * 32 + p)).2 + rdiv ((leAt x 8 2 : Int) * 50 * 65536) (leAt x 10 2)) ∧ KeepsBut []
    s.sys.dev t.sys.dev)

/-- RECORD_WRITE, RECORD_CLOSE, EV_CMD_REGISTER and CLEAR_OVERWRITE_DONE (R27, R324 to R328, R330, R334): the oldest
entry is written with its frank at the head of the rolling region under the number EV_RNUM, which then counts on, and
the next write waits 5 ticks; a store that fails keeps the rolling region; an open record that is quiet closes; a
manual trigger joins the queue; the overwrite that ends leaves nothing of the cleared records. -/
def Obligations.RecordsAreWritten : Prop :=
  (∀ (s : State) (k : StoreCase) (e : Ent) (q : List Ent), s.expiring → k = .fine → recordDue s.atTimers.dev = true →
    wrapDue s.atTimers.dev = false → s.atTimers.dev.rcd.clrRec = none → s.atTimers.dev.rcd.rewrites = [] →
    s.atTimers.dev.rcd.queue = e :: q → s.atTimers.dev.rcd.clr = none → s.atTimers.dev.rcd.refused = 0 → capturing
    s.atTimers.dev = none → isTrigger s.atTimers.dev e.code e.sev = false → e.code < 65536 → s.atTimers.dev.rcd.head <
    81920 → ∃ t : State, exec (.recordWrite k) s = .next t ∧ t.pending = s.pending ∧ t.sys.dev.rd EV_RNUM =
    (s.atTimers.dev.rd EV_RNUM + 1) % 2 ^ 32 ∧ t.sys.dev.rcd.queue = q ∧ t.sys.dev.rcd.nextWrite =
    s.atTimers.dev.tb.now + 5 ∧ t.sys.dev.rcd.head = (s.atTimers.dev.rcd.head + 1) % 81920 ∧ frankOk (Mem.bytes
    t.sys.nv (rollAddr s.atTimers.dev.rcd.head) 64) = true ∧ leAt (Mem.bytes t.sys.nv (rollAddr
    s.atTimers.dev.rcd.head) 64) 8 4 = s.atTimers.dev.rd EV_RNUM ∧ leAt (Mem.bytes t.sys.nv (rollAddr
    s.atTimers.dev.rcd.head) 64) 12 2 = e.code) ∧
  (∀ (s : State) (w : BitVec 24), s.expiring → recordDue s.atTimers.dev = true → ∃ t : State, exec (.recordWrite
    (.writeFail w)) s = .next t ∧ t.pending = s.pending ∧ t.sys.nv = s.atTimers.nv ∧ t.sys.ph = s.atTimers.ph ∧
    t.sys.dev.fl NV_EVT_WFAIL = true ∧ t.sys.dev.rd NV_FAILADDR = w.toNat ∧ t.sys.dev.rcd.nextWrite =
    s.atTimers.dev.tb.now + 5) ∧
  (∀ (s : State) (cls : BitVec 4) (src : BitVec 16), s.expiring → closeDue s.atTimers.dev cls.toNat src.toNat = true → ∃
    t : State, exec (.recordClose cls src) s = .next t ∧ t.pending = s.pending ∧ (t.sys.dev.rcd.opens.all (fun o =>
    !(o.cls == cls.toNat && o.src == src.toNat && decide (o.lastTick + s.atTimers.dev.rd1 EV_FOLD_QUIET ≤
    s.atTimers.dev.tb.now)))) = true ∧ t.sys.dev.rcd.opens.length < s.atTimers.dev.rcd.opens.length ∧ computedField
    t.sys.dev 0 EV_STATUS_NOPEN 0 = some t.sys.dev.rcd.opens.length) ∧
  (∀ (s : State) (a : Accessor), s.turn → a ≠ .sp → writeKind s.sys.dev (accIx a) (0xB018) (1) = 0 →
    s.atCommands.dev.rcd.queue.length < 768 → ∃ t : State, exec (.evCmdRegister a) s = .next t ∧ t.pending = s.pending
    ∧ (t.sys.dev.rcd.queue.any (fun e => e.code == 0x0D03)) = true ∧ t.sys.dev.rcd.queue.length =
    s.atCommands.dev.rcd.queue.length + 1 ∧ KeepsBut [] s.atCommands.dev t.sys.dev) ∧
  (∀ (s : State) (k : Nat), s.sys.dev.quiet → s.sys.dev.rcd.zeroing = some k → ∃ t : State, exec (.clearOverwriteDone) s
    = .next t ∧ t.pending = s.pending ∧ t.sys.dev.rcd.zeroing = none ∧ computedField t.sys.dev 0 EV_STATUS_CLRBUSY 0 =
    some 0 ∧ (∀ x ∈ t.sys.nv, x ∈ s.sys.nv) ∧ KeepsBut [] s.sys.dev t.sys.dev)

/-- REFRESH_START, REFRESH_BLOCK and NV_CMD_REFRNOW (R342, R343): a refresh starts at block 0 and is busy until its
last block, which sets REFDONE and clears the age; a request while one runs changes nothing; a correctable error is
counted. UPD_VERIFIED, UPD_CONFIRM, UPD_FALLBACK and UP_CMD_CONFIRM (R353 to R355): a verification ends the download
and leaves the idle slot VERIFIED or BAD by its outcome; a confirmed trial is CONFIRMED and raises the floor to the
running number; a trial that runs out is BAD and counts as failed. -/
def Obligations.StoreAndImagesAreKept : Prop :=
  (∀ (s : State), s.expiring → refreshDue s.atTimers.dev = true → ∃ t : State, exec (.refreshStart) s = .next t ∧
    t.pending = s.pending ∧ t.sys.dev.rd NV_STATUS_REFBUSY = 1 ∧ t.sys.dev.up.refr = some 0 ∧ KeepsBut
    [(NV_STATUS_REFBUSY, 0)] s.atTimers.dev t.sys.dev) ∧
  (∀ (s : State) (a : Accessor), s.turn → a ≠ .sp → writeKind s.sys.dev (accIx a) (0xB420) (1) = 0 →
    s.atCommands.dev.up.refr = none → ∃ t : State, exec (.nvCmdRefrnow a) s = .next t ∧ t.pending = s.pending ∧
    t.sys.dev.rd NV_STATUS_REFBUSY = 1 ∧ t.sys.dev.up.refr = some 0 ∧ KeepsBut [(NV_STATUS_REFBUSY, 0)]
    s.atCommands.dev t.sys.dev) ∧
  (∀ (s : State) (a : Accessor), s.turn → a ≠ .sp → writeKind s.sys.dev (accIx a) (0xB420) (1) = 0 →
    s.atCommands.dev.up.refr ≠ none → ∃ t : State, exec (.nvCmdRefrnow a) s = .next t ∧ t.pending = s.pending ∧
    t.sys.dev.up = s.atCommands.dev.up ∧ KeepsBut [] s.atCommands.dev t.sys.dev) ∧
  (∀ (s : State) (k : StoreCase) (x : Nat), s.expiring → refreshBlockDue s.atTimers.dev = true → s.atTimers.dev.up.refr
    = some x → x < 262143 → ∃ t : State, exec (.refreshBlock k) s = .next t ∧ t.pending = s.pending ∧
    t.sys.dev.up.refr = some (x + 1) ∧ t.sys.dev.up.refrAt = t.sys.dev.cur ∧ (k = .fine → t.sys.nv = s.atTimers.nv ∧
    t.sys.dev.rd NV_CORR = s.atTimers.dev.rd NV_CORR) ∧ (k = .corrected → t.sys.dev.rd NV_CORR = incSat NV_CORR.w
    (s.atTimers.dev.rd NV_CORR) ∧ t.sys.dev.fl NV_EVT_CORR = true)) ∧
  (∀ (s : State) (k : StoreCase), s.expiring → refreshBlockDue s.atTimers.dev = true → s.atTimers.dev.up.refr = some
    262143 → ∃ t : State, exec (.refreshBlock k) s = .next t ∧ t.pending = s.pending ∧ t.sys.dev.up.refr = none ∧
    t.sys.dev.rd NV_REFR_AGE = 0 ∧ t.sys.dev.rd NV_STATUS_REFBUSY = 0 ∧ t.sys.dev.fl NV_EVT_REFDONE = true) ∧
  (∀ (s : State) (x : List HCtx × Nat), s.sys.dev.quiet → s.sys.dev.up.verify = some x → s.sys.dev.fl GL_STATUS_MHALT =
    false → ∃ t : State, exec (.updVerified) s = .next t ∧ t.pending = s.pending ∧ imgState t.sys.dev (idleSlot
    s.sys.dev) = (if (verifyImage s.sys (idleSlot s.sys.dev)).isNone then 2 else 6) ∧ t.sys.dev.fl (if (verifyImage
    s.sys (idleSlot s.sys.dev)).isNone then UP_EVT_VERIFIED else UP_EVT_VFAIL) = true ∧ t.sys.dev.fl UP_STATUS_DLOPEN
    = false ∧ t.sys.dev.up.verify = none ∧ t.sys.nv = s.sys.nv) ∧
  (∀ (s : State), s.expiring → confirmDue s.atTimers.dev = true → runSlot s.atTimers.dev < 2 → ∃ t : State, exec
    (.updConfirm) s = .next t ∧ t.pending = s.pending ∧ imgState t.sys.dev (runSlot s.atTimers.dev) = 5 ∧ t.sys.dev.rd
    UP_SVN_FLOOR = s.atTimers.dev.rd UP_SVN_RUN ∧ t.sys.dev.rd UP_TRIALT = 0 ∧ t.sys.dev.fl UP_EVT_CONFIRM = true ∧
    KeepsBut ([(UP_STATUS_SLOTA, 0), (UP_STATUS_SLOTB, 0), (UP_SVN_FLOOR, 0), (UP_TRIALT, 0), (UP_EVT_CONFIRM, 0)] ++
    recFields) s.atTimers.dev t.sys.dev) ∧
  (∀ (s : State), s.expiring → fallbackDue s.atTimers.dev = true → ∃ t : State, exec (.updFallback) s = .next t ∧
    t.pending = s.pending ∧ imgState t.sys.dev (runSlot s.atTimers.dev) = 6 ∧ t.sys.dev.rd UP_TRIALT = 0 ∧
    t.sys.dev.fl UP_EVT_FALLBACK = true ∧ t.sys.dev.up.failed = true ∧ KeepsBut ([(UP_STATUS_SLOTA, 0),
    (UP_STATUS_SLOTB, 0), (UP_TRIALT, 0), (UP_EVT_FALLBACK, 0)] ++ recFields) s.atTimers.dev t.sys.dev) ∧
  (∀ (s : State) (a : Accessor), s.turn → a ≠ .sp → writeKind s.sys.dev (accIx a) (0xB824) (1) = 0 → ∃ t : State, exec
    (.upCmdConfirm a) s = .next t ∧ t.pending = s.pending ∧ t.sys.dev.up.conf = true ∧ KeepsBut [] s.atCommands.dev
    t.sys.dev)

/-- UP_CMD_RLYSTOP, RELAY_VERIFY_RESULT, RELAY_RELEASE, RELAY_WRITE_DONE, RELAY_SKIP and RELAY_RESUME (R358 to R361):
a stage that verifies becomes a source and waits for its release, one that fails is counted and recorded; a release
opens its write window with COND.UPD set; the end of the window asks the stage for its identity; a stage that waits
too long is skipped; a stop ends every round; a round resumes on a running ring. -/
def Obligations.RelaysFillAndRelease : Prop :=
  (∀ (s : State) (a : Accessor), s.turn → a ≠ .sp → writeKind s.sys.dev (accIx a) (0xB824) (2) = 0 → ∃ t : State, exec
    (.upCmdRlystop a) s = .next t ∧ t.pending = s.pending ∧ (∀ r : Fin 8, (rlyState s.atCommands.dev r.val = 1 ∨
    rlyState s.atCommands.dev r.val = 2) → rlyState t.sys.dev r.val = 3 ∧ t.sys.dev.fl UP_EVT_RLYEND = true) ∧ (∀ r :
    Fin 8, rlyState s.atCommands.dev r.val ≠ 1 → rlyState s.atCommands.dev r.val ≠ 2 → rlyState t.sys.dev r.val =
    rlyState s.atCommands.dev r.val)) ∧
  (∀ (s : State) (r : Fin 8) (p : Nat) (vs : List (Nat × Nat)), s.sys.dev.quiet → (s.sys.dev.rg r.val).vers = (p, 0) ::
    vs → rlyState s.sys.dev r.val = 1 → (s.sys.dev.rly r.val).await.contains (r.val * 32 + p) = true → ∃ t : State,
    exec (.relayVerifyResult r) s = .next t ∧ t.pending = s.pending ∧ (t.sys.dev.rg r.val).vers = vs ∧ (t.sys.dev.rly
    r.val).ready = (s.sys.dev.rly r.val).ready ++ [(r.val * 32 + p, t.sys.dev.cur)] ∧ (t.sys.dev.rly r.val).sources =
    (s.sys.dev.rly r.val).sources ++ [r.val * 32 + p] ∧ KeepsBut [] s.sys.dev t.sys.dev) ∧
  (∀ (s : State) (r : Fin 8) (p k : Nat) (vs : List (Nat × Nat)), s.sys.dev.quiet → (s.sys.dev.rg r.val).vers = (p, k)
    :: vs → k ≠ 0 → rlyState s.sys.dev r.val = 1 → (s.sys.dev.rly r.val).await.contains (r.val * 32 + p) = true → ∃ t
    : State, exec (.relayVerifyResult r) s = .next t ∧ t.pending = s.pending ∧ (t.sys.dev.rg r.val).vers = vs ∧
    t.sys.dev.rd UP_RLY_NFAIL r.val = incSat UP_RLY_NFAIL.w (s.sys.dev.rd UP_RLY_NFAIL r.val) ∧ t.sys.dev.fl
    UP_EVT_RLYSTAGE = true ∧ (t.sys.dev.rly r.val).ready = (s.sys.dev.rly r.val).ready ∧ KeepsBut ([(UP_RLY_NFAIL,
    r.val), (UP_EVT_RLYSTAGE, 0)] ++ recFields) s.sys.dev t.sys.dev) ∧
  (∀ (s : State) (c : Fin 256), s.sys.dev.quiet → rlyState s.sys.dev (c.val / 32) = 1 → (s.sys.dev.rly (c.val /
    32)).ready.any (fun y => y.1 == c.val) = true → ((List.range 8).any (fun q => (s.sys.dev.rly q).window.any (fun w
    => ownerOf s.sys.dev w.1 == ownerOf s.sys.dev c.val))) = false → (s.sys.dev.rly (c.val / 32)).window.length < 4 →
    (ownerRelease s.sys.dev c.val).1 = true → ∃ t : State, exec (.relayRelease c) s = .next t ∧ t.pending = s.pending
    ∧ (t.sys.dev.rly (c.val / 32)).window.any (fun w => w.1 == c.val) = true ∧ (t.sys.dev.rly (c.val / 32)).ready =
    (s.sys.dev.rly (c.val / 32)).ready.filter (fun y => y.1 != c.val) ∧ t.sys.dev.fl CD_ENT_COND_UPD c.val = true) ∧
  (∀ (s : State) (c : Fin 256), s.expiring → writeDoneDue s.atTimers.dev c.val = true → ∃ t : State, exec
    (.relayWriteDone c) s = .next t ∧ t.pending = s.pending ∧ (t.sys.dev.rly (c.val / 32)).window =
    (s.atTimers.dev.rly (c.val / 32)).window.filter (fun w => w.1 != c.val) ∧ (t.sys.dev.rly (c.val / 32)).reids =
    (s.atTimers.dev.rly (c.val / 32)).reids ++ [c.val] ∧ (t.sys.dev.chn c.val).reiding = true) ∧
  (∀ (s : State) (c : Fin 256), s.expiring → relaySkipDue s.atTimers.dev c.val = true → ∃ t : State, exec (.relaySkip c)
    s = .next t ∧ t.pending = s.pending ∧ t.sys.dev.rd UP_RLY_NSKIP (c.val / 32) = incSat UP_RLY_NSKIP.w
    (s.atTimers.dev.rd UP_RLY_NSKIP (c.val / 32)) ∧ t.sys.dev.fl UP_EVT_RLYSTAGE = true ∧ (t.sys.dev.rly (c.val /
    32)).ready = (s.atTimers.dev.rly (c.val / 32)).ready.filter (fun y => y.1 != c.val) ∧ KeepsBut ([(UP_RLY_NSKIP,
    c.val / 32), (UP_EVT_RLYSTAGE, 0)] ++ recFields) s.atTimers.dev t.sys.dev) ∧
  (∀ (s : State) (r : Fin 8), s.sys.dev.quiet → rlyState s.sys.dev r.val = 2 → ringState s.sys.dev r.val = rgRun →
    s.sys.dev.fl GL_STATUS_MHALT = false → (s.sys.dev.rg r.val).bufs = false → ∃ t : State, exec (.relayResume r) s =
    .next t ∧ t.pending = s.pending ∧ rlyState t.sys.dev r.val = 1 ∧ (t.sys.dev.rly r.val).todo = includedOn s.sys
    r.val (s.sys.dev.rd UP_RLY_TYPE r.val) ∧ (t.sys.dev.rly r.val).types = (s.sys.dev.rly r.val).types ∧ KeepsBut
    [(UP_RLY_STATE, r.val)] s.sys.dev t.sys.dev ∧ t.sys.nv = s.sys.nv) ∧
  (∀ (s : State) (r : Fin 8), s.sys.dev.quiet → rlyState s.sys.dev r.val = 2 → ringState s.sys.dev r.val = rgRun →
    s.sys.dev.fl GL_STATUS_MHALT = false → (s.sys.dev.rg r.val).bufs = true → ∃ t : State, exec (.relayResume r) s =
    .next t ∧ t.pending = s.pending ∧ rlyState t.sys.dev r.val = 1 ∧ (t.sys.dev.rly r.val).sources = (s.sys.dev.rly
    r.val).sources ∧ (t.sys.dev.rly r.val).todo = (s.sys.dev.rly r.val).todo.filter (fun c => (includedOn s.sys r.val
    (s.sys.dev.rd UP_RLY_TYPE r.val)).contains c) ∧ (∀ y ∈ (s.sys.dev.rly r.val).ready, (includedOn s.sys r.val
    (s.sys.dev.rd UP_RLY_TYPE r.val)).contains y.1 = true → (y.1, s.sys.dev.cur) ∈ (t.sys.dev.rly r.val).ready) ∧
    (t.sys.dev.rly r.val).types = (s.sys.dev.rly r.val).types ∧ KeepsBut [(UP_RLY_STATE, r.val)] s.sys.dev t.sys.dev ∧
    t.sys.nv = s.sys.nv)

/-- CFG_LOAD, CFG_COMMIT and COMMIT_CHECKS_DONE (R346, R347): CFG_LOAD writes the hole into the inactive buffer and
frees the hole; CFG_COMMIT starts the checks of that buffer; both are BUSY while a commit is under way; checks that
pass set the commit for a boundary two ticks on and discard the staged configuration fields, and a rejection ends the
commit with the status of its class. -/
def Obligations.ConfigurationIsLoadedAndChecked : Prop :=
  (∀ (s : State) (h : Sender) (n : Byte) (ofs : Word) (len : BitVec 16), s.turn → h.path ≠ .sp → h.lcl = false →
    s.atCommands.dev.fl GL_STATUS_MHALT = false → ofs.toNat % 4096 = 0 → 1 ≤ len.toNat → len.toNat ≤ 4096 → ofs.toNat
    + len.toNat ≤ 524288 → holeOk s.atCommands.dev (accIx h.path) (n.toNat, 0) = true → s.atCommands.dev.commit = none
    → bitOf s.atCommands.dev.host.phDrop n.toNat = false → ∃ t : State, exec (.cfgLoad h n ofs len) s = .next t ∧
    t.pending = s.pending ∧ t.sys.nv = Mem.put s.atCommands.nv (cfgAddr (1 - s.atCommands.dev.rd NV_STATUS_CFGBUF) +
    ofs.toNat) (Mem.bytes s.atCommands.ph (n.toNat * 4096) len.toNat) ∧ t.sys.ph = s.atCommands.ph ∧ phState t.sys.dev
    n.toNat = 0 ∧ KeepsBut ([(HQ_PH_STATE, n.toNat)]) s.atCommands.dev t.sys.dev ∧ Answered h stSuccess (0)
    s.atCommands.dev t.sys.dev) ∧
  (∀ (s : State) (h : Sender) (n : Byte) (ofs : Word) (len : BitVec 16), s.turn → h.path ≠ .sp → h.lcl = false →
    s.atCommands.dev.fl GL_STATUS_MHALT = false → ofs.toNat % 4096 = 0 → 1 ≤ len.toNat → len.toNat ≤ 4096 → ofs.toNat
    + len.toNat ≤ 524288 → holeOk s.atCommands.dev (accIx h.path) (n.toNat, 0) = true → s.atCommands.dev.commit.isSome
    = true → bitOf s.atCommands.dev.host.phDrop n.toNat = false → ∃ t : State, exec (.cfgLoad h n ofs len) s = .next t
    ∧ t.pending = s.pending ∧ t.sys.nv = s.atCommands.nv ∧ phState t.sys.dev n.toNat = 1 ∧ KeepsBut ([(HQ_PH_STATE,
    n.toNat)]) s.atCommands.dev t.sys.dev ∧ Answered h stBusy (0) s.atCommands.dev t.sys.dev) ∧
  (∀ (s : State) (h : Sender) (n : Byte) (ofs : Word) (len : BitVec 16), s.turn → h.path ≠ .sp → h.lcl = false →
    s.atCommands.dev.fl GL_STATUS_MHALT = false → (ofs.toNat % 4096 ≠ 0 ∨ len = 0 ∨ 4096 < len.toNat ∨ 524288 <
    ofs.toNat + len.toNat) → ∃ t : State, exec (.cfgLoad h n ofs len) s = .next t ∧ t.pending = s.pending ∧ t.sys.nv =
    s.atCommands.nv ∧ KeepsBut ([]) s.atCommands.dev t.sys.dev ∧ Answered h stBadArg (0) s.atCommands.dev t.sys.dev) ∧
  (∀ (s : State) (h : Sender) (n : Byte) (ofs : Word) (len : BitVec 16), s.turn → h.path ≠ .sp → h.lcl = false →
    s.atCommands.dev.fl GL_STATUS_MHALT = false → ofs.toNat % 4096 = 0 → 1 ≤ len.toNat → len.toNat ≤ 4096 → ofs.toNat
    + len.toNat ≤ 524288 → holeOk s.atCommands.dev (accIx h.path) (n.toNat, 0) = false → ∃ t : State, exec (.cfgLoad h
    n ofs len) s = .next t ∧ t.pending = s.pending ∧ t.sys.nv = s.atCommands.nv ∧ KeepsBut ([]) s.atCommands.dev
    t.sys.dev ∧ Answered h stPh (0) s.atCommands.dev t.sys.dev) ∧
  (∀ (s : State) (h : Sender) (len : Word), s.turn → h.path ≠ .sp → h.lcl = false → s.atCommands.dev.fl GL_STATUS_MHALT
    = false → s.atCommands.dev.commit = none → ∃ t : State, exec (.cfgCommit h len) s = .next t ∧ t.pending =
    s.pending ∧ t.sys.dev.commit = some
    { buf := 1 - s.atCommands.dev.rd NV_STATUS_CFGBUF, len := len.toNat, ctxs := [ctxOf s.atCommands.dev h] } ∧
    t.sys.nv = s.atCommands.nv ∧ KeepsBut ([]) s.atCommands.dev t.sys.dev) ∧
  (∀ (s : State) (h : Sender) (len : Word), s.turn → h.path ≠ .sp → h.lcl = false → s.atCommands.dev.fl GL_STATUS_MHALT
    = false → s.atCommands.dev.commit.isSome = true → ∃ t : State, exec (.cfgCommit h len) s = .next t ∧ t.pending =
    s.pending ∧ t.sys.dev.commit = s.atCommands.dev.commit ∧ KeepsBut ([]) s.atCommands.dev t.sys.dev ∧ Answered h
    stBusy (0) s.atCommands.dev t.sys.dev) ∧
  (∀ (s : State) (c : CommitJob), s.sys.dev.quiet → s.sys.dev.commit = some c → c.staged = false → s.sys.dev.fl
    GL_STATUS_MHALT = false → commitOk s.sys c = true → ∃ t : State, exec (.commitChecksDone) s = .next t ∧ t.pending
    = s.pending ∧ t.sys.dev.commit = some { c with staged := true, okAt := t.sys.dev.tb.now + 2 } ∧ t.sys.dev.staged =
    s.sys.dev.staged.filter (fun y => !isConfig y.reg) ∧ t.sys.nv = s.sys.nv ∧ KeepsBut [] s.sys.dev t.sys.dev) ∧
  (∀ (s : State) (c : CommitJob), s.sys.dev.quiet → s.sys.dev.commit = some c → c.staged = false → s.sys.dev.fl
    GL_STATUS_MHALT = false → commitOk s.sys c = false → ∃ t : State, exec (.commitChecksDone) s = .next t ∧ t.pending
    = s.pending ∧ t.sys.dev.commit = none ∧ t.sys.nv = s.sys.nv ∧ t.sys.dev.staged = s.sys.dev.staged)

/-- EV_READ, EV_NOTE and EV_CLEAR (R333, R334, R336, R337): EV_READ puts the records into a readout hole with their
length; EV_NOTE queues a note of its sender with the severity and number given; EV_CLEAR is refused with AUTH where
the token in its hole fails, draws a new nonce, and is BUSY while a clear waits. -/
def Obligations.RecorderCommandsAct : Prop :=
  (∀ (s : State) (h : Sender) (n rg cnt : Byte) (st : Word), s.turn → h.path ≠ .sp → h.lcl = false → s.atCommands.dev.fl
    GL_STATUS_MHALT = false → rg.toNat < 2 → 1 ≤ cnt.toNat → cnt.toNat ≤ 64 → holeOk s.atCommands.dev (accIx h.path)
    (n.toNat, 1) = true → bitOf s.atCommands.dev.host.phDrop n.toNat = false → ∃ t : State, exec (.evRead h n rg cnt
    st) s = .next t ∧ t.pending = s.pending ∧ t.sys.ph = Mem.put s.atCommands.ph (n.toNat * 4096) (readRecs
    s.atCommands (readAddrs s.atCommands.dev rg.toNat st.toNat cnt.toNat)).1 ∧ phState t.sys.dev n.toNat = 3 ∧
    t.sys.dev.rd HQ_PH_LEN n.toNat = (readRecs s.atCommands (readAddrs s.atCommands.dev rg.toNat st.toNat
    cnt.toNat)).1.length % 2 ^ HQ_PH_LEN.w ∧ t.sys.nv = s.atCommands.nv ∧ KeepsBut ([(HQ_PH_STATE, n.toNat),
    (HQ_PH_LEN, n.toNat), (EV_FRKERR, 0), (EV_EVT_FRKERR, 0)]) s.atCommands.dev t.sys.dev ∧ Answered h stSuccess
    (n.toNat + (readRecs s.atCommands (readAddrs s.atCommands.dev rg.toNat st.toNat cnt.toNat)).1.length * 256)
    s.atCommands.dev t.sys.dev) ∧
  (∀ (s : State) (h : Sender) (code : BitVec 16) (pay : List Byte), s.turn → h.path ≠ .sp → h.lcl = false →
    s.atCommands.dev.fl GL_STATUS_MHALT = false → code.toNat % 16 ≤ 4 → Tbl.get {} s.atCommands.dev.rcd.buckets
    (bucketKey 0x0C08 (8 + accIx h.path)) = {} → s.atCommands.dev.rcd.queue.length < 768 → 0 < (bucketNow
    s.atCommands.dev 0x0C08 {}).lvl / 1000000 → ∃ t : State, exec (.evNote h code pay) s = .next t ∧ t.pending =
    s.pending ∧ t.sys.dev.rcd.queue.any (fun e => e.code == 0x0C08 && e.cls == 8 + accIx h.path && e.src == code.toNat
    / 16 && e.sev == code.toNat % 16 && e.pay == fit 40 (fit 40 (natBytes pay))) = true ∧ KeepsBut ([])
    s.atCommands.dev t.sys.dev ∧ Answered h stSuccess (0) s.atCommands.dev t.sys.dev) ∧
  (∀ (s : State) (h : Sender) (code : BitVec 16) (pay : List Byte), s.turn → h.path ≠ .sp → h.lcl = false →
    s.atCommands.dev.fl GL_STATUS_MHALT = false → 4 < code.toNat % 16 → ∃ t : State, exec (.evNote h code pay) s =
    .next t ∧ t.pending = s.pending ∧ t.sys.dev.rcd.queue = s.atCommands.dev.rcd.queue ∧ KeepsBut ([])
    s.atCommands.dev t.sys.dev ∧ Answered h stBadArg (0) s.atCommands.dev t.sys.dev) ∧
  (∀ (s : State) (h : Sender) (n sc : Byte), s.turn → h.path ≠ .sp → h.lcl = false → s.atCommands.dev.fl GL_STATUS_MHALT
    = false → sc.toNat < 2 → holeOk s.atCommands.dev (accIx h.path) (n.toNat, 0) = true → s.atCommands.dev.rcd.clr =
    none → bitOf s.atCommands.dev.host.phDrop n.toNat = false → clearTokenOk s.atCommands (Mem.bytes s.atCommands.ph
    (n.toNat * 4096) 80) sc.toNat = false → ∃ t : State, exec (.evClear h n sc) s = .next t ∧ t.pending = s.pending ∧
    t.sys.dev.rcd.nonce = s.atCommands.dev.freeV % 2 ^ 64 ∧ t.sys.nv = s.atCommands.nv ∧ t.sys.dev.rcd.clr = none ∧
    t.sys.dev.rcd.count = s.atCommands.dev.rcd.count ∧ phState t.sys.dev n.toNat = 1 ∧ KeepsBut ([(HQ_PH_STATE,
    n.toNat)]) s.atCommands.dev t.sys.dev ∧ Answered h stAuth (0) s.atCommands.dev t.sys.dev) ∧
  (∀ (s : State) (h : Sender) (n sc : Byte), s.turn → h.path ≠ .sp → h.lcl = false → s.atCommands.dev.fl GL_STATUS_MHALT
    = false → sc.toNat < 2 → holeOk s.atCommands.dev (accIx h.path) (n.toNat, 0) = true →
    s.atCommands.dev.rcd.clr.isSome = true → bitOf s.atCommands.dev.host.phDrop n.toNat = false → ∃ t : State, exec
    (.evClear h n sc) s = .next t ∧ t.pending = s.pending ∧ t.sys.dev.rcd = s.atCommands.dev.rcd ∧ KeepsBut
    ([(HQ_PH_STATE, n.toNat)]) s.atCommands.dev t.sys.dev ∧ Answered h stBusy (0) s.atCommands.dev t.sys.dev)

/-- UPD_BEGIN, UPD_PIECE, UPD_ACTIVATE, UPD_STAGES, UPD_ABORT, PLAN_APPROVE and PLAN_REJECT (R280, R352 to R354,
R358): a new download opens with every piece missing; a piece goes to its place in the idle slot and is counted once;
the last one starts the verification; a verified image is marked pending and any other activation is refused; a relay
on a ring that does not run is refused; an abort closes the download; a plan that is not the pending one is refused.
-/
def Obligations.UpdateCommandsAct : Prop :=
  (∀ (s : State) (h : Sender) (size : Word) (dig : List Byte), s.turn → h.path ≠ .sp → h.lcl = false →
    s.atCommands.dev.fl GL_STATUS_MHALT = false → 1 ≤ size.toNat → size.toNat ≤ 4194304 → s.atCommands.dev.up.verify =
    none → imgState s.atCommands.dev (runSlot s.atCommands.dev) ≠ 4 → imgState s.atCommands.dev (idleSlot
    s.atCommands.dev) ≠ 3 → s.atCommands.dev.up.dig ≠ fit 32 (natBytes dig) → ∃ t : State, exec (.updBegin h size dig)
    s = .next t ∧ t.pending = s.pending ∧ t.sys.dev.fl UP_STATUS_DLOPEN = true ∧ t.sys.dev.rd UP_DL_SIZE = size.toNat
    ∧ t.sys.dev.rd UP_DL_MISSING = cdiv size.toNat 4096 ∧ imgState t.sys.dev (idleSlot s.atCommands.dev) = 1 ∧
    t.sys.dev.up.dig = fit 32 (natBytes dig) ∧ Answered h stSuccess (0) s.atCommands.dev t.sys.dev) ∧
  (∀ (s : State) (h : Sender) (size : Word) (dig : List Byte), s.turn → h.path ≠ .sp → h.lcl = false →
    s.atCommands.dev.fl GL_STATUS_MHALT = false → 1 ≤ size.toNat → size.toNat ≤ 4194304 → s.atCommands.dev.up.verify =
    none → (imgState s.atCommands.dev (runSlot s.atCommands.dev) = 4 ∨ imgState s.atCommands.dev (idleSlot
    s.atCommands.dev) = 3) → ∃ t : State, exec (.updBegin h size dig) s = .next t ∧ t.pending = s.pending ∧
    t.sys.dev.fl UP_STATUS_DLOPEN = s.atCommands.dev.fl UP_STATUS_DLOPEN ∧ KeepsBut ([]) s.atCommands.dev t.sys.dev ∧
    Answered h stRefused (0) s.atCommands.dev t.sys.dev) ∧
  (∀ (s : State) (h : Sender) (n : Byte) (p : Word), s.turn → h.path ≠ .sp → h.lcl = false → s.atCommands.dev.fl
    GL_STATUS_MHALT = false → holeOk s.atCommands.dev (accIx h.path) (n.toNat, 0) = true → bitOf
    s.atCommands.dev.host.phDrop n.toNat = false → s.atCommands.dev.fl UP_STATUS_DLOPEN = true → p.toNat < dlPieces
    s.atCommands.dev → s.atCommands.dev.up.verify = none → s.atCommands.dev.bit UP_DLMAP (p.toNat / 32) (p.toNat % 32)
    = false → 2 ≤ s.atCommands.dev.rd UP_DL_MISSING → ∃ t : State, exec (.updPiece h n p .fine) s = .next t ∧
    t.pending = s.pending ∧ t.sys.nv = Mem.put s.atCommands.nv (slotAddr (idleSlot s.atCommands.dev) + p.toNat * 4096)
    (fit (min 4096 (s.atCommands.dev.rd UP_DL_SIZE - p.toNat * 4096)) (Mem.bytes s.atCommands.ph (n.toNat * 4096)
    4096)) ∧ t.sys.dev.rd UP_DL_MISSING = s.atCommands.dev.rd UP_DL_MISSING - 1 ∧ t.sys.dev.bit UP_DLMAP (p.toNat /
    32) (p.toNat % 32) = true ∧ phState t.sys.dev n.toNat = 0 ∧ KeepsBut ([(UP_DL_MISSING, 0), (UP_DLMAP, p.toNat /
    32), (HQ_PH_STATE, n.toNat)]) s.atCommands.dev t.sys.dev ∧ Answered h stSuccess (s.atCommands.dev.rd UP_DL_MISSING
    - 1) s.atCommands.dev t.sys.dev) ∧
  (∀ (s : State) (h : Sender) (n : Byte) (p : Word) (k : StoreCase), s.turn → h.path ≠ .sp → h.lcl = false →
    s.atCommands.dev.fl GL_STATUS_MHALT = false → holeOk s.atCommands.dev (accIx h.path) (n.toNat, 0) = true → bitOf
    s.atCommands.dev.host.phDrop n.toNat = false → s.atCommands.dev.fl UP_STATUS_DLOPEN = false → ∃ t : State, exec
    (.updPiece h n p k) s = .next t ∧ t.pending = s.pending ∧ t.sys.nv = s.atCommands.nv ∧ phState t.sys.dev n.toNat =
    1 ∧ KeepsBut ([(HQ_PH_STATE, n.toNat)]) s.atCommands.dev t.sys.dev ∧ Answered h stRefused (0) s.atCommands.dev
    t.sys.dev) ∧
  (∀ (s : State) (h : Sender), s.turn → h.path ≠ .sp → h.lcl = false → s.atCommands.dev.fl GL_STATUS_MHALT = false →
    imgState s.atCommands.dev (idleSlot s.atCommands.dev) = 2 → idleSlot s.atCommands.dev < 2 → ∃ t : State, exec
    (.updActivate h) s = .next t ∧ t.pending = s.pending ∧ imgState t.sys.dev (idleSlot s.atCommands.dev) = 3 ∧
    KeepsBut ([(UP_STATUS_SLOTA, 0), (UP_STATUS_SLOTB, 0)] ++ recFields) s.atCommands.dev t.sys.dev ∧ Answered h
    stSuccess (0) s.atCommands.dev t.sys.dev) ∧
  (∀ (s : State) (h : Sender), s.turn → h.path ≠ .sp → h.lcl = false → s.atCommands.dev.fl GL_STATUS_MHALT = false →
    imgState s.atCommands.dev (idleSlot s.atCommands.dev) ≠ 2 → ∃ t : State, exec (.updActivate h) s = .next t ∧
    t.pending = s.pending ∧ KeepsBut ([]) s.atCommands.dev t.sys.dev ∧ Answered h stRefused (0) s.atCommands.dev
    t.sys.dev) ∧
  (∀ (s : State) (h : Sender) (r : Byte), s.turn → h.path ≠ .sp → h.lcl = false → s.atCommands.dev.fl GL_STATUS_MHALT =
    false → s.atCommands.dev.sill = false → imgState s.atCommands.dev (runSlot s.atCommands.dev) = 5 →
    s.atCommands.dev.pw.recovery = false → ringOk s.atCommands.dev r.toNat = true → rlyState s.atCommands.dev r.toNat
    = 0 → ringState s.atCommands.dev r.toNat = rgRun → typesOn s.atCommands r.toNat ≠ [] → ∃ t : State, exec
    (.updStages h r) s = .next t ∧ t.pending = s.pending ∧ t.sys.dev.rd UP_RLY_STATE r.toNat = 1 ∨ t.sys.dev.rd
    UP_RLY_STATE r.toNat = 3 ∧ Answered h stSuccess (0) s.atCommands.dev t.sys.dev) ∧
  (∀ (s : State) (h : Sender) (r : Byte), s.turn → h.path ≠ .sp → h.lcl = false → s.atCommands.dev.fl GL_STATUS_MHALT =
    false → s.atCommands.dev.sill = false → (r.toNat = 255 ∨ ringOk s.atCommands.dev r.toNat = true) → (imgState
    s.atCommands.dev (runSlot s.atCommands.dev) ≠ 5 ∨ s.atCommands.dev.pw.recovery = true) → ∃ t : State, exec
    (.updStages h r) s = .next t ∧ t.pending = s.pending ∧ t.sys.nv = s.atCommands.nv ∧ KeepsBut ([]) s.atCommands.dev
    t.sys.dev ∧ Answered h stRefused (0) s.atCommands.dev t.sys.dev) ∧
  (∀ (s : State) (h : Sender), s.turn → h.path ≠ .sp → h.lcl = false → s.atCommands.dev.fl GL_STATUS_MHALT = false →
    idleSlot s.atCommands.dev < 2 → ∃ t : State, exec (.updAbort h) s = .next t ∧ t.pending = s.pending ∧ t.sys.dev.fl
    UP_STATUS_DLOPEN = false ∧ imgState t.sys.dev (idleSlot s.atCommands.dev) = (if imgState s.atCommands.dev
    (idleSlot s.atCommands.dev) = 3 then 2 else imgState s.atCommands.dev (idleSlot s.atCommands.dev)) ∧ t.sys.dev.rd
    UP_DL_MISSING = s.atCommands.dev.rd UP_DL_MISSING ∧ KeepsBut ([(UP_STATUS_DLOPEN, 0), (UP_STATUS_SLOTA, 0),
    (UP_STATUS_SLOTB, 0)]) s.atCommands.dev t.sys.dev ∧ Answered h stSuccess (0) s.atCommands.dev t.sys.dev) ∧
  (∀ (s : State) (h : Sender) (num : Word), s.turn → h.path ≠ .sp → h.lcl = false → s.atCommands.dev.fl GL_STATUS_MHALT
    = false → s.atCommands.dev.fl MP_STATUS_ADVPEND = true → num.toNat = s.atCommands.dev.rd MP_PLANNUM → ∃ t : State,
    exec (.planApprove h num) s = .next t ∧ t.pending = s.pending ∧ t.sys.dev.fl MP_STATUS_ADVPEND = false ∧
    t.sys.dev.mp.todo.length = s.atCommands.dev.mp.todo.length + s.atCommands.dev.mp.advice.length ∧ KeepsBut
    ([(MP_STATUS_ADVPEND, 0)] ++ recFields) s.atCommands.dev t.sys.dev ∧ Answered h stSuccess (0) s.atCommands.dev
    t.sys.dev) ∧
  (∀ (s : State) (h : Sender) (num : Word), s.turn → h.path ≠ .sp → h.lcl = false → s.atCommands.dev.fl GL_STATUS_MHALT
    = false → (s.atCommands.dev.fl MP_STATUS_ADVPEND = false ∨ num.toNat ≠ s.atCommands.dev.rd MP_PLANNUM) → ∃ t :
    State, exec (.planApprove h num) s = .next t ∧ t.pending = s.pending ∧ t.sys.dev.fl MP_EVT_REFUSED = true ∧
    t.sys.dev.mp = s.atCommands.dev.mp ∧ KeepsBut ([(MP_EVT_REFUSED, 0)] ++ recFields) s.atCommands.dev t.sys.dev ∧
    Answered h stRefused (0) s.atCommands.dev t.sys.dev) ∧
  (∀ (s : State) (h : Sender) (num : Word), s.turn → h.path ≠ .sp → h.lcl = false → s.atCommands.dev.fl GL_STATUS_MHALT
    = false → s.atCommands.dev.fl MP_STATUS_ADVPEND = true → num.toNat = s.atCommands.dev.rd MP_PLANNUM → ∃ t : State,
    exec (.planReject h num) s = .next t ∧ t.pending = s.pending ∧ t.sys.dev.fl MP_STATUS_ADVPEND = false ∧
    t.sys.dev.mp.todo = s.atCommands.dev.mp.todo ∧ t.sys.dev.mp.advice = [] ∧ KeepsBut ([(MP_STATUS_ADVPEND, 0)] ++
    recFields) s.atCommands.dev t.sys.dev ∧ Answered h stSuccess (0) s.atCommands.dev t.sys.dev) ∧
  (∀ (s : State) (h : Sender) (num : Word), s.turn → h.path ≠ .sp → h.lcl = false → s.atCommands.dev.fl GL_STATUS_MHALT
    = false → (s.atCommands.dev.fl MP_STATUS_ADVPEND = false ∨ num.toNat ≠ s.atCommands.dev.rd MP_PLANNUM) → ∃ t :
    State, exec (.planReject h num) s = .next t ∧ t.pending = s.pending ∧ t.sys.dev.fl MP_EVT_REFUSED = true ∧
    t.sys.dev.mp = s.atCommands.dev.mp ∧ KeepsBut ([(MP_EVT_REFUSED, 0)] ++ recFields) s.atCommands.dev t.sys.dev ∧
    Answered h stRefused (0) s.atCommands.dev t.sys.dev)

/-- AU_MODE, DEV_RESET and DEV_SLEEP (R321, R408, R413): a mode change waits for the next frame boundary; a reset is
completed first and begins at the next frame boundary; a sleep that a condition forbids is refused with its reason;
one that is accepted is completed and entered with the state ENTRY. PM_CMD_SLEEP, SLEEP_WAITS_DONE, SLEEP_POWER_DOWN,
WAKE_EVENT and WAKE_COMPLETE (R413, R414, R416, R417): a refused request shows its reason; an accepted one enters; the
end of the waits abandons the two-wire transactions; the power-down counts the sleep and stops the time base; a source
wakes the device only where it is enabled, and waits for the main supplies; a wake completes in RUN with its alert. -/
def Obligations.SleepAndModeCommandsAct : Prop :=
  (∀ (s : State) (h : Sender) (m : Byte), s.turn → h.path ≠ .sp → h.lcl = false → s.atCommands.dev.fl GL_STATUS_MHALT =
    false → m.toNat < 3 → ∃ t : State, exec (.auMode h m) s = .next t ∧ t.pending = s.pending ∧ t.sys.dev.au.newMode =
    some m.toNat ∧ KeepsBut ([]) s.atCommands.dev t.sys.dev ∧ Answered h stSuccess (0) s.atCommands.dev t.sys.dev) ∧
  (∀ (s : State) (h : Sender) (m : Byte), s.turn → h.path ≠ .sp → h.lcl = false → s.atCommands.dev.fl GL_STATUS_MHALT =
    false → 3 ≤ m.toNat → ∃ t : State, exec (.auMode h m) s = .next t ∧ t.pending = s.pending ∧ t.sys.dev.au.newMode =
    s.atCommands.dev.au.newMode ∧ KeepsBut ([]) s.atCommands.dev t.sys.dev ∧ Answered h stBadArg (0) s.atCommands.dev
    t.sys.dev) ∧
  (∀ (s : State) (h : Sender), s.turn → h.path ≠ .sp → h.lcl = false → s.atCommands.dev.fl GL_STATUS_MHALT = false → ∃ t
    : State, exec (.devReset h) s = .next t ∧ t.pending = s.pending ∧ t.sys.dev.pw.rstReq = true ∧ KeepsBut ([])
    s.atCommands.dev t.sys.dev ∧ Answered h stSuccess (0) s.atCommands.dev t.sys.dev) ∧
  (∀ (s : State) (h : Sender), s.turn → h.path ≠ .sp → h.lcl = false → s.atCommands.dev.fl GL_STATUS_MHALT = false →
    sleepRefusal s.atCommands.dev ≠ 0 → ∃ t : State, exec (.devSleep h) s = .next t ∧ t.pending = s.pending ∧
    t.sys.dev.rd PM_SLPREF_REASON = sleepRefusal s.atCommands.dev ∧ t.sys.dev.pw = s.atCommands.dev.pw ∧ KeepsBut
    ([(PM_SLPREF_REASON, 0)]) s.atCommands.dev t.sys.dev ∧ Answered h stRefused (0) s.atCommands.dev t.sys.dev) ∧
  (∀ (s : State) (h : Sender), s.turn → h.path ≠ .sp → h.lcl = false → s.atCommands.dev.fl GL_STATUS_MHALT = false →
    sleepRefusal s.atCommands.dev = 0 → s.atCommands.dev.pw.entry = 0 → ∃ t : State, exec (.devSleep h) s = .next t ∧
    t.pending = s.pending ∧ t.sys.dev.rd PM_STATUS_STATE = 2 ∧ t.sys.dev.pw.entry = 1 ∧ t.sys.dev.rd AU_STATUS_AUTH =
    0 ∧ Answered h stSuccess (0) s.atCommands.dev t.sys.dev) ∧
  (∀ (s : State), s.turn → writeKind s.sys.dev 2 0x430 2 = 0 → sleepRefusal s.atCommands.dev ≠ 0 → ∃ t : State, exec
    (.pmCmdSleep) s = .next t ∧ t.pending = s.pending ∧ t.sys.dev.rd PM_SLPREF_REASON = sleepRefusal s.atCommands.dev
    ∧ t.sys.dev.pw = s.atCommands.dev.pw ∧ KeepsBut [(PM_SLPREF_REASON, 0)] s.atCommands.dev t.sys.dev) ∧
  (∀ (s : State), s.turn → writeKind s.sys.dev 2 0x430 2 = 0 → sleepRefusal s.atCommands.dev = 0 →
    s.atCommands.dev.pw.entry = 0 → ∃ t : State, exec (.pmCmdSleep) s = .next t ∧ t.pending = s.pending ∧ t.sys.dev.rd
    PM_STATUS_STATE = 2 ∧ t.sys.dev.pw.entry = 1 ∧ t.sys.dev.rd AU_STATUS_AUTH = 0 ∧ t.sys.dev.au.table = []) ∧
  (∀ (s : State), s.expiring → sleepWaitsDue s.atTimers.dev = true → ∃ t : State, exec (.sleepWaitsDone) s = .next t ∧
    t.pending = s.pending ∧ t.sys.dev.pw.entry = 2 ∧ t.sys.dev.tw.bus = 0 ∧ t.sys.dev.tw.xfer = none ∧ KeepsBut
    [(TW_STATUS_TWA_BUSY, 0)] s.atTimers.dev t.sys.dev) ∧
  (∀ (s : State) (m : Bool) (k : Word), s.expiring → powerDownDue s.atTimers.dev = true → s.atTimers.dev.pw.wakePend =
    false → ∃ t : State, exec (.sleepPowerDown m k) s = .next t ∧ t.pending = s.pending ∧ t.sys.dev.pw.asleep = true ∧
    t.sys.dev.tb.run = false ∧ t.sys.dev.rd PM_CNT_SLEEPS = incSat PM_CNT_SLEEPS.w (s.atTimers.dev.rd PM_CNT_SLEEPS) ∧
    t.sys.dev.rd GL_STATUS_RSTOUT = 1 ∧ t.sys.dev.rd HQ_STATUS_LINK 0 = 0 ∧ t.sys.dev.rd HQ_STATUS_LINK 1 = 0 ∧
    t.sys.dev.pw.ck = some s.atTimers.dev.tb.pm) ∧
  (∀ (s : State) (src : Fin 5) (m : Bool) (k : Word), (s.sys.dev.pw.asleep = true ∨ s.sys.dev.pw.entry ≠ 0) →
    s.sys.dev.bit PM_WAKEEN 0 src.val = false → ∃ t : State, exec (.wakeEvent src m k) s = .next t ∧ t.pending =
    s.pending ∧ t.sys.dev.pw = s.sys.dev.pw ∧ t.sys.dev.bit PM_WAKESRC 0 src.val = true ∧ KeepsBut [(PM_WAKESRC, 0)]
    s.sys.dev t.sys.dev) ∧
  (∀ (s : State) (src : Fin 5) (m : Bool) (k : Word), s.sys.dev.pw.asleep = true → s.sys.dev.pw.waking = false →
    s.sys.dev.bit PM_WAKEEN 0 src.val = true → ∃ t : State, exec (.wakeEvent src m k) s = .next t ∧ t.pending =
    s.pending ∧ t.sys.dev.pw.asleep = !m ∧ t.sys.dev.pw.waking = true ∧ t.sys.dev.pw.waitMain = !m ∧ t.sys.dev.bit
    PM_WAKESRC 0 src.val = true ∧ (m = true → t.sys.dev.rd TB_TICK = 0 ∧ t.sys.dev.rd AU_STATUS_AUTH = 0 ∧
    t.sys.dev.rd TW_STATUS_TWB_PTR = 0)) ∧
  (∀ (s : State), s.expiring → wakeCompleteDue s.atTimers.dev = true → ∃ t : State, exec (.wakeComplete) s = .next t ∧
    t.pending = s.pending ∧ t.sys.dev.rd PM_STATUS_STATE = 1 ∧ t.sys.dev.pw.waking = false ∧ t.sys.dev.fl
    TW_ALERT_WAKE = true ∧ t.sys.dev.rd PM_TIME_WAKE = min 65535 (s.atTimers.dev.tb.now - s.atTimers.dev.pw.startAt +
    350))

/-- TWB_ADDRESS, TWB_PAGE_WRITE, TWB_POINTER_WRITE, TWB_STOP and TWB_ABORT (R365, R366, R367, R371): the register and
the page address are acknowledged and begin their transactions, and another address is not acknowledged; the first
byte to the page address is the page and a further one is not acknowledged; a pointer byte that is a multiple of 4 is
the pointer and any other is not acknowledged and leaves it; a STOP after whole words ends the transaction, and one
after 1 to 3 bytes reports an access of another width; an abort keeps the pointer. -/
def Obligations.TwbAddressesAndPointers : Prop :=
  (∀ (s : State) (x : BitVec 7) (rd : Bool) (m : Bool) (k : Word), s.sys.dev.quiet → s.sys.dev.pw.asleep = false →
    s.sys.dev.pw.waking = false → s.sys.dev.pw.held = false → s.sys.dev.pw.entry = 0 → s.sys.dev.tw.bus = 0 → x.toNat
    = s.sys.dev.rd TW_TWB_ADDR → ∃ t : State, exec (.twbAddress x rd 0 m k) s = .next t ∧ t.pending = s.pending ∧
    t.sys.dev.tw.bus = (if rd then 3 else 1) ∧ KeepsBut [] s.sys.dev t.sys.dev) ∧
  (∀ (s : State) (x : BitVec 7) (rd : Bool) (m : Bool) (k : Word), s.sys.dev.quiet → s.sys.dev.pw.asleep = false →
    s.sys.dev.pw.waking = false → s.sys.dev.pw.held = false → s.sys.dev.pw.entry = 0 → s.sys.dev.tw.bus = 0 → x.toNat
    = s.sys.dev.rd TW_TWB_PADDR → x.toNat ≠ s.sys.dev.rd TW_TWB_ADDR → ∃ t : State, exec (.twbAddress x rd 0 m k) s =
    .next t ∧ t.pending = s.pending ∧ t.sys.dev.tw.bus = (if rd then 6 else 4) ∧ KeepsBut [] s.sys.dev t.sys.dev) ∧
  (∀ (s : State) (x : BitVec 7) (rd : Bool) (m : Bool) (k : Word), s.sys.dev.quiet → s.sys.dev.pw.asleep = false →
    s.sys.dev.pw.waking = false → s.sys.dev.pw.held = false → s.sys.dev.pw.entry = 0 → s.sys.dev.tw.bus = 0 → x.toNat
    ≠ s.sys.dev.rd TW_TWB_PADDR → x.toNat ≠ s.sys.dev.rd TW_TWB_ADDR → (x.toNat ≠ 12 ∨ rd = false ∨ s.sys.dev.fl
    TW_STATUS_TWB_ALERT = false) → ∃ t : State, exec (.twbAddress x rd 0 m k) s = .next t ∧ t.pending = s.pending ∧
    t.sys.dev.tw.bus = 0 ∧ t.sys.dev.out.getLast? = some .twbNak ∧ KeepsBut [] s.sys.dev t.sys.dev) ∧
  (∀ (s : State) (y : Byte), s.sys.dev.quiet → s.sys.dev.tw.bus = 4 → ∃ t : State, exec (.twbPageWrite y) s = .next t ∧
    t.pending = s.pending ∧ t.sys.dev.rd TW_STATUS_TWB_PAGE = y.toNat ∧ t.sys.dev.tw.bus = 5 ∧ KeepsBut
    [(TW_STATUS_TWB_PAGE, 0)] s.sys.dev t.sys.dev) ∧
  (∀ (s : State) (y : Byte), s.sys.dev.quiet → s.sys.dev.tw.bus = 5 → ∃ t : State, exec (.twbPageWrite y) s = .next t ∧
    t.pending = s.pending ∧ t.sys.dev.out.getLast? = some .twbNak ∧ t.sys.dev.rd TW_TWB_NAK = incSat TW_TWB_NAK.w
    (s.sys.dev.rd TW_TWB_NAK) ∧ KeepsBut [(TW_TWB_NAK, 0), (TW_EVT_TWB_NAK, 0)] s.sys.dev t.sys.dev) ∧
  (∀ (s : State) (y : Byte), s.sys.dev.quiet → s.sys.dev.tw.bus = 1 → y.toNat % 4 = 0 → ∃ t : State, exec
    (.twbPointerWrite y) s = .next t ∧ t.pending = s.pending ∧ t.sys.dev.rd TW_STATUS_TWB_PTR = y.toNat ∧
    t.sys.dev.tw.bus = 2 ∧ KeepsBut [(TW_STATUS_TWB_PTR, 0)] s.sys.dev t.sys.dev) ∧
  (∀ (s : State) (y : Byte), s.sys.dev.quiet → s.sys.dev.tw.bus = 1 → y.toNat % 4 ≠ 0 → ∃ t : State, exec
    (.twbPointerWrite y) s = .next t ∧ t.pending = s.pending ∧ t.sys.dev.rd TW_STATUS_TWB_PTR = s.sys.dev.rd
    TW_STATUS_TWB_PTR ∧ t.sys.dev.tw.bus = 0 ∧ t.sys.dev.out.getLast? = some .twbNak ∧ KeepsBut [(TW_TWB_NAK, 0),
    (TW_EVT_TWB_NAK, 0)] s.sys.dev t.sys.dev) ∧
  (∀ (s : State), s.sys.dev.quiet → ∃ t : State, exec (.twbStop 0) s = .next t ∧ t.pending = s.pending ∧
    t.sys.dev.tw.bus = 0 ∧ t.sys.dev.rd TW_STATUS_TWB_PTR = (if s.sys.dev.tw.bus = 3 ∧ s.sys.dev.tw.sending = true
    then (s.sys.dev.rd TW_STATUS_TWB_PTR + 4) % 256 else s.sys.dev.rd TW_STATUS_TWB_PTR) ∧ KeepsBut
    [(TW_STATUS_TWB_PTR, 0)] s.sys.dev t.sys.dev) ∧
  (∀ (s : State) (p : Fin 4), s.sys.dev.quiet → s.sys.dev.tw.bus = 2 → p.val ≠ 0 → ∃ t : State, exec (.twbStop p) s =
    .next t ∧ t.pending = s.pending ∧ t.sys.dev.tw.bus = 0 ∧ t.sys.dev.fl TW_EVT_TWB_PARTIAL = true ∧ t.sys.dev.fl
    IN_BUSERR_TWB = true ∧ t.sys.dev.fl IN_BUSERR_WIDTH = true ∧ t.sys.dev.rd TW_STATUS_TWB_PTR = s.sys.dev.rd
    TW_STATUS_TWB_PTR ∧ KeepsBut ([(TW_EVT_TWB_PARTIAL, 0)] ++ [(IN_BUSERR_TWB, 0), (IN_BUSERR_WIDTH, 0),
    (IN_BUSERR_LOC, 0), (IN_BUSERR_RSVBIT, 0), (IN_BUSERR_WRITE, 0), (IN_BUSERR_READ, 0), (IN_BERR_OFS_OFS, 0),
    (IN_BERR_OFS_ACC, 0), (IN_BERR_OFS_KIND, 0), (IN_BERR_OFS_WR, 0), (IN_BERR_CNT, 0)] ++ recFields) s.sys.dev
    t.sys.dev) ∧
  (∀ (s : State) (p : Fin 4), s.sys.dev.quiet → ∃ t : State, exec (.twbAbort p) s = .next t ∧ t.pending = s.pending ∧
    t.sys.dev.tw.bus = 0 ∧ t.sys.dev.rd TW_STATUS_TWB_PTR = s.sys.dev.rd TW_STATUS_TWB_PTR ∧ KeepsBut
    ([(TW_EVT_TWB_PARTIAL, 0)] ++ [(IN_BUSERR_TWB, 0), (IN_BUSERR_WIDTH, 0), (IN_BUSERR_LOC, 0), (IN_BUSERR_RSVBIT,
    0), (IN_BUSERR_WRITE, 0), (IN_BUSERR_READ, 0), (IN_BERR_OFS_OFS, 0), (IN_BERR_OFS_ACC, 0), (IN_BERR_OFS_KIND, 0),
    (IN_BERR_OFS_WR, 0), (IN_BERR_CNT, 0)] ++ recFields) s.sys.dev t.sys.dev)

/-- TWB_WORD_WRITE, TWB_WORD_READ, TWB_HOLD_TIMEOUT and TWB_ALERT_RESPONSE (R365, R367 to R369, R373): a permitted
word is written as a register write by TWB and the pointer moves on by 4 within its page; a refused one is a bus error
that is not acknowledged and leaves the pointer; a word that exists is sent with the register read's value; an access
that runs out is a bus error and nothing is written; the device releases TWB_ALERT_N where no lower address answers.
Which kind the timeout's bus error shows is a free value. -/
def Obligations.TwbWordsAndAlerts : Prop :=
  (∀ (s : State) (w : Word), s.sys.dev.quiet → s.sys.dev.tw.bus = 2 → writeKind s.sys.dev 2 (twbOfs s.sys.dev) w.toNat =
    0 → s.sys.dev.tw.sending = false → (regWrite 2 (twbOfs s.sys.dev) w.toNat s.sys.dev).tfq = [] → (regWrite 2
    (twbOfs s.sys.dev) w.toNat s.sys.dev).bs.shedReq = 0 → ∃ t : State, exec (.twbWordWrite w) s = .next t ∧ t.pending
    = s.pending ∧ t.sys.dev = twbAdvance (writeWord 2 (twbOfs s.sys.dev) w.toNat s.sys.dev)) ∧
  (∀ (s : State) (w : Word), s.sys.dev.quiet → s.sys.dev.tw.bus = 2 → writeKind s.sys.dev 2 (twbOfs s.sys.dev) w.toNat ≠
    0 → ∃ t : State, exec (.twbWordWrite w) s = .next t ∧ t.pending = s.pending ∧ t.sys.dev.tw.bus = 0 ∧
    t.sys.dev.out.getLast? = some .twbNak ∧ t.sys.dev.rd TW_STATUS_TWB_PTR = s.sys.dev.rd TW_STATUS_TWB_PTR ∧
    t.sys.dev.rd IN_BERR_OFS_KIND = writeKind s.sys.dev 2 (twbOfs s.sys.dev) w.toNat ∧ t.sys.dev.fl IN_BUSERR_TWB =
    true ∧ KeepsBut ([(TW_TWB_NAK, 0), (TW_EVT_TWB_NAK, 0)] ++ [(IN_BUSERR_TWB, 0), (IN_BUSERR_WIDTH, 0),
    (IN_BUSERR_LOC, 0), (IN_BUSERR_RSVBIT, 0), (IN_BUSERR_WRITE, 0), (IN_BUSERR_READ, 0), (IN_BERR_OFS_OFS, 0),
    (IN_BERR_OFS_ACC, 0), (IN_BERR_OFS_KIND, 0), (IN_BERR_OFS_WR, 0), (IN_BERR_CNT, 0)] ++ recFields) s.sys.dev
    t.sys.dev) ∧
  (∀ (s : State), s.sys.dev.quiet → s.sys.dev.tw.bus = 3 → s.sys.dev.tw.sending = false → wordThere s.sys.dev 2 (twbOfs
    s.sys.dev) = true → ∃ t : State, exec (.twbWordRead) s = .next t ∧ t.pending = s.pending ∧ t.sys.dev.tw.sending =
    true ∧ t.sys.dev.out.drop s.sys.dev.out.length = (le 4 (readWord s.sys 2 (twbOfs s.sys.dev)).1).map (fun y =>
    Emission.twb y)) ∧
  (∀ (s : State), s.sys.dev.quiet → s.sys.dev.tw.bus = 3 → s.sys.dev.tw.sending = false → wordThere s.sys.dev 2 (twbOfs
    s.sys.dev) = false → ∃ t : State, exec (.twbWordRead) s = .next t ∧ t.pending = s.pending ∧ t.sys.dev.tw.sending =
    true ∧ t.sys.dev.fl IN_BUSERR_TWB = true ∧ t.sys.dev.fl IN_BUSERR_LOC = true ∧ t.sys.dev.out.drop
    (t.sys.dev.out.length - 4) = [Emission.twb 0, Emission.twb 0, Emission.twb 0, Emission.twb 0] ∧ KeepsBut
    ([(IN_BUSERR_TWB, 0), (IN_BUSERR_WIDTH, 0), (IN_BUSERR_LOC, 0), (IN_BUSERR_RSVBIT, 0), (IN_BUSERR_WRITE, 0),
    (IN_BUSERR_READ, 0), (IN_BERR_OFS_OFS, 0), (IN_BERR_OFS_ACC, 0), (IN_BERR_OFS_KIND, 0), (IN_BERR_OFS_WR, 0),
    (IN_BERR_CNT, 0)] ++ recFields) s.sys.dev t.sys.dev) ∧
  (∀ (s : State) (w : Word), s.sys.dev.quiet → s.sys.dev.tw.bus = 2 → ∃ t : State, exec (.twbHoldTimeout true w) s =
    .next t ∧ t.pending = s.pending ∧ t.sys.dev.tw.bus = 0 ∧ t.sys.dev.out.getLast? = some .twbNak ∧ t.sys.dev.fl
    IN_BUSERR_TWB = true ∧ t.sys.dev.rd TW_STATUS_TWB_PTR = s.sys.dev.rd TW_STATUS_TWB_PTR ∧ KeepsBut ([(TW_TWB_NAK,
    0), (TW_EVT_TWB_NAK, 0)] ++ [(IN_BUSERR_TWB, 0), (IN_BUSERR_WIDTH, 0), (IN_BUSERR_LOC, 0), (IN_BUSERR_RSVBIT, 0),
    (IN_BUSERR_WRITE, 0), (IN_BUSERR_READ, 0), (IN_BERR_OFS_OFS, 0), (IN_BERR_OFS_ACC, 0), (IN_BERR_OFS_KIND, 0),
    (IN_BERR_OFS_WR, 0), (IN_BERR_CNT, 0)] ++ recFields) s.sys.dev t.sys.dev) ∧
  (∀ (s : State) (w : Word), s.sys.dev.quiet → s.sys.dev.tw.bus = 3 → ∃ t : State, exec (.twbHoldTimeout false w) s =
    .next t ∧ t.pending = s.pending ∧ t.sys.dev.tw.bus = 3 ∧ t.sys.dev.tw.sending = true ∧ t.sys.dev.fl IN_BUSERR_TWB
    = true ∧ t.sys.dev.out.drop (t.sys.dev.out.length - 4) = [Emission.twb 0, Emission.twb 0, Emission.twb 0,
    Emission.twb 0] ∧ KeepsBut ([(TW_STATUS_TWB_PTR, 0)] ++ [(IN_BUSERR_TWB, 0), (IN_BUSERR_WIDTH, 0), (IN_BUSERR_LOC,
    0), (IN_BUSERR_RSVBIT, 0), (IN_BUSERR_WRITE, 0), (IN_BUSERR_READ, 0), (IN_BERR_OFS_OFS, 0), (IN_BERR_OFS_ACC, 0),
    (IN_BERR_OFS_KIND, 0), (IN_BERR_OFS_WR, 0), (IN_BERR_CNT, 0)] ++ recFields) s.sys.dev t.sys.dev) ∧
  (∀ (s : State) (y : Byte), s.sys.dev.quiet → s.sys.dev.tw.bus = 7 → 2 * s.sys.dev.rd TW_TWB_ADDR ≤ y.toNat → ∃ t :
    State, exec (.twbAlertResponse y) s = .next t ∧ t.pending = s.pending ∧ t.sys.dev.tw.bus = 0 ∧ t.sys.dev.fl
    TW_STATUS_TWB_ALERT = false ∧ t.sys.dev.out.getLast? = some (.twb (2 * s.sys.dev.rd TW_TWB_ADDR)) ∧ KeepsBut
    [(TW_STATUS_TWB_ALERT, 0)] s.sys.dev t.sys.dev) ∧
  (∀ (s : State) (y : Byte), s.sys.dev.quiet → s.sys.dev.tw.bus = 7 → y.toNat < 2 * s.sys.dev.rd TW_TWB_ADDR → ∃ t :
    State, exec (.twbAlertResponse y) s = .next t ∧ t.pending = s.pending ∧ t.sys.dev.tw.bus = 0 ∧ KeepsBut []
    s.sys.dev t.sys.dev)

/-- TWA_POLL, TWA_POLL_RESULT, TWA_PROTOCOL_ERROR, TWA_SCL_TIMEOUT and TWA_ALERT (R375 to R379): a due poll goes on
the bus; its bytes are the entry's result and end its failures; a transfer not acknowledged counts a failure; lost
arbitration and the first protocol error are retried; an SCL timeout fails the transfer; an answered alert names its
target and asks for its polls. -/
def Obligations.TwaPollsAct : Prop :=
  (∀ (s : State) (i : Fin 16) (low : Bool), s.expiring → pollDue s.atTimers.dev i.val = true → ∃ t : State, exec
    (.twaPoll i low) s = .next t ∧ t.pending = s.pending ∧ t.sys.dev.tw.xfer = some { entry := i.val } ∧ t.sys.dev.fl
    TW_STATUS_TWA_BUSY = true ∧ t.sys.dev.out.getLast? = some (.twa (s.atTimers.dev.rd TW_POLL_ADDR i.val)
    (s.atTimers.dev.rd TW_POLL_PTR i.val) (s.atTimers.dev.rd TW_POLL_LEN i.val)) ∧ KeepsBut [(TW_STATUS_TWA_BUSY, 0)]
    s.atTimers.dev t.sys.dev) ∧
  (∀ (s : State) (bs : List Byte) (x : TwaXfer), s.sys.dev.quiet → s.sys.dev.tw.xfer = some x → ∃ t : State, exec
    (.twaPollResult (.ok bs)) s = .next t ∧ t.pending = s.pending ∧ t.sys.dev.tw.xfer = none ∧ t.sys.dev.fl
    TW_STATUS_TWA_BUSY = false ∧ t.sys.dev.rd TW_PRES_LO x.entry = leAt (fit 8 (fit (s.sys.dev.rd TW_POLL_LEN x.entry)
    (natBytes bs))) 0 4 ∧ t.sys.dev.rd TW_PRES_HI x.entry = leAt (fit 8 (fit (s.sys.dev.rd TW_POLL_LEN x.entry)
    (natBytes bs))) 4 4 ∧ t.sys.dev.rd TW_POLL_CFAIL x.entry = 0 ∧ t.sys.dev.fl TW_POLL_FAILED x.entry = false) ∧
  (∀ (s : State) (x : TwaXfer), s.sys.dev.quiet → s.sys.dev.tw.xfer = some x → ∃ t : State, exec (.twaPollResult .nak) s
    = .next t ∧ t.pending = s.pending ∧ t.sys.dev.tw.xfer = none ∧ t.sys.dev.fl TW_STATUS_TWA_BUSY = false ∧
    t.sys.dev.rd TW_POLL_CFAIL x.entry = incSat TW_POLL_CFAIL.w (s.sys.dev.rd TW_POLL_CFAIL x.entry) ∧ t.sys.dev.fl
    TW_EVT_TWA_FAIL = true ∧ t.sys.dev.rd TW_PRES_LO x.entry = s.sys.dev.rd TW_PRES_LO x.entry) ∧
  (∀ (s : State) (x : TwaXfer), s.sys.dev.quiet → s.sys.dev.tw.xfer = some x → x.arb + 1 < s.sys.dev.rd1 TW_TWA_CFG_NARB
    → ∃ t : State, exec (.twaPollResult .arbLost) s = .next t ∧ t.pending = s.pending ∧ t.sys.dev.tw.xfer = some
    { x with arb := x.arb + 1 } ∧ t.sys.dev.fl TW_EVT_ARBLOST = true ∧ t.sys.dev.rd TW_TWA_ARB = incSat TW_TWA_ARB.w
    (s.sys.dev.rd TW_TWA_ARB) ∧ KeepsBut [(TW_TWA_ARB, 0), (TW_EVT_ARBLOST, 0)] s.sys.dev t.sys.dev) ∧
  (∀ (s : State) (x : TwaXfer), s.sys.dev.quiet → s.sys.dev.tw.xfer = some x → x.retried = false → ∃ t : State, exec
    (.twaProtocolError) s = .next t ∧ t.pending = s.pending ∧ t.sys.dev.tw.xfer = some { x with retried := true } ∧
    t.sys.dev.fl TW_EVT_TWA_PROTO = true ∧ KeepsBut ([(TW_TWA_ERR, 0), (TW_EVT_TWA_PROTO, 0)] ++ recFields) s.sys.dev
    t.sys.dev) ∧
  (∀ (s : State) (x : TwaXfer), s.sys.dev.quiet → s.sys.dev.tw.xfer = some x → x.retried = true → ∃ t : State, exec
    (.twaProtocolError) s = .next t ∧ t.pending = s.pending ∧ t.sys.dev.tw.xfer = none ∧ t.sys.dev.fl TW_EVT_TWA_PROTO
    = true ∧ t.sys.dev.fl TW_EVT_TWA_FAIL = true) ∧
  (∀ (s : State) (x : TwaXfer), s.sys.dev.quiet → s.sys.dev.tw.xfer = some x → ∃ t : State, exec (.twaSclTimeout) s =
    .next t ∧ t.pending = s.pending ∧ t.sys.dev.tw.xfer = none ∧ t.sys.dev.fl TW_EVT_TWA_FAIL = true ∧ t.sys.dev.rd
    TW_POLL_CFAIL x.entry = incSat TW_POLL_CFAIL.w (s.sys.dev.rd TW_POLL_CFAIL x.entry)) ∧
  (∀ (s : State) (a : BitVec 7), s.sys.dev.quiet → twaAlertDue s.sys.dev = true → ∃ t : State, exec (.twaAlert ⟨some a,
    false⟩) s = .next t ∧ t.pending = s.pending ∧ t.sys.dev.rd TW_TALERT_ADDR = a.toNat ∧ t.sys.dev.fl TW_TALERT_VALID
    = true ∧ t.sys.dev.fl TW_EVT_TALERT = true ∧ t.sys.dev.tw.now = (List.range 16).filter (fun i => s.sys.dev.fl
    TW_POLL_EN i && s.sys.dev.rd TW_POLL_ADDR i == a.toNat) ∧ KeepsBut [(TW_TALERT_ADDR, 0), (TW_TALERT_VALID, 0),
    (TW_EVT_TALERT, 0)] s.sys.dev t.sys.dev) ∧
  (∀ (s : State), s.sys.dev.quiet → twaAlertDue s.sys.dev = true → ∃ t : State, exec (.twaAlert ⟨none, false⟩) s = .next
    t ∧ t.pending = s.pending ∧ t.sys.dev.tw.now = s.sys.dev.tw.now ∧ KeepsBut [] s.sys.dev t.sys.dev)

/-- PORT_ATTACH, SOURCE_DETACH, SINK_DETACH, ACCESSORY_DETACH, DISCHARGE_END, DISCHARGE_TIMEOUT, ERROR_RECOVERY_END
and DRP_TOGGLE (R382 to R386): an unattached port that presents Rd attaches as sink to Rp with VBUS present; a partner
whose terminations R384 does not list changes nothing; a source that detaches and an accessory end contract, session
and USB and discharge; a sink that detaches and the end of a discharge or of error recovery return to UNATTACHED; a
DRP changes the termination it presents. -/
def Obligations.PortAttachesAndDetaches : Prop :=
  (∀ (s : State) (c1 c2 : Term) (st p o : Nat) (ra : Bool), s.sys.dev.quiet → partnerOf (spRp s.sys.dev) c1 c2 = some
    (st, p, o, ra) → spState s.sys.dev = spUnatt → (st = spSnk → 400 < s.sys.dev.rd SP_VBUS_V) → s.sys.dev.sp.again =
    false → ∃ t : State, exec (.portAttach c1 c2) s = .next t ∧ t.pending = s.pending ∧ spState t.sys.dev = st ∧
    t.sys.dev.rd SP_STATUS_PARTNER = p ∧ t.sys.dev.rd SP_STATUS_ORIENT = o ∧ t.sys.dev.fl SP_EVT_ATTACH = true ∧
    t.sys.dev.sp.again = false ∧ (st = spSrc → t.sys.dev.fl SP_STATUS_PROLE = true ∧ t.sys.dev.fl SP_STATUS_DROLE =
    true ∧ t.sys.dev.ps.vout = 250 ∧ t.sys.dev.ps.en = true)) ∧
  (∀ (s : State) (c1 c2 : Term), s.sys.dev.quiet → (partnerOf (spRp s.sys.dev) c1 c2 = none ∨ spState s.sys.dev ≠
    spUnatt) → ∃ t : State, exec (.portAttach c1 c2) s = .next t ∧ t.pending = s.pending ∧ KeepsBut [] s.sys.dev
    t.sys.dev ∧ t.sys.dev.sp = s.sys.dev.sp) ∧
  (∀ (s : State) (pm : Word64), s.sys.dev.quiet → spState s.sys.dev = spSrc → s.sys.dev.fl SP_STATUS_XSITION = false → ∃
    t : State, exec (.sourceDetach pm) s = .next t ∧ t.pending = s.pending ∧ spState t.sys.dev = spDisch ∧
    t.sys.dev.ps.en = false ∧ t.sys.dev.ps.disch = true ∧ t.sys.dev.fl SP_STATUS_CONTRACT = false ∧ t.sys.dev.rd
    SP_STATUS_LEVEL = 0 ∧ t.sys.dev.fl SP_STATUS_USBCFG = false ∧ t.sys.dev.sp.xs = none) ∧
  (∀ (s : State) (pm : Word64), s.sys.dev.quiet → spState s.sys.dev = spSrc → s.sys.dev.fl SP_STATUS_XSITION = true → ∃
    t : State, exec (.sourceDetach pm) s = .next t ∧ t.pending = s.pending ∧ spState t.sys.dev = spDisch ∧
    t.sys.dev.fl SP_EVT_DIT = true ∧ t.sys.dev.rd SP_CNT_DIT = incSat SP_CNT_DIT.w (s.sys.dev.rd SP_CNT_DIT) ∧
    t.sys.dev.fl SP_STATUS_CONTRACT = false ∧ t.sys.dev.rd SP_STATUS_LEVEL = 0 ∧ t.sys.dev.fl SP_STATUS_USBCFG = false
    ∧ t.sys.dev.sp.xs = none) ∧
  (∀ (s : State), s.sys.dev.quiet → spState s.sys.dev = spSnk → sinkGone s.sys.dev = true → ∃ t : State, exec
    (.sinkDetach) s = .next t ∧ t.pending = s.pending ∧ spState t.sys.dev = spUnatt ∧ t.sys.dev.fl SP_EVT_DETACH =
    true ∧ t.sys.dev.fl SP_STATUS_CONTRACT = false ∧ t.sys.dev.rd SP_STATUS_LEVEL = 0 ∧ t.sys.dev.fl SP_STATUS_USBCFG
    = false ∧ t.sys.dev.sp.xs = none) ∧
  (∀ (s : State), s.sys.dev.quiet → (spState s.sys.dev ≠ spSnk ∨ sinkGone s.sys.dev = false) → ∃ t : State, exec
    (.sinkDetach) s = .next t ∧ t.pending = s.pending ∧ KeepsBut [] s.sys.dev t.sys.dev ∧ t.sys.dev.sp = s.sys.dev.sp) ∧
  (∀ (s : State), s.sys.dev.quiet → (spState s.sys.dev = spAudio ∨ spState s.sys.dev = spDebug) → ∃ t : State, exec
    (.accessoryDetach) s = .next t ∧ t.pending = s.pending ∧ spState t.sys.dev = spDisch ∧ t.sys.dev.ps.disch = true ∧
    t.sys.dev.fl SP_STATUS_CONTRACT = false ∧ t.sys.dev.rd SP_STATUS_LEVEL = 0 ∧ t.sys.dev.fl SP_STATUS_USBCFG = false
    ∧ t.sys.dev.sp.xs = none) ∧
  (∀ (s : State), s.expiring → dischargeEndDue s.atTimers.dev = true → ∃ t : State, exec (.dischargeEnd) s = .next t ∧
    t.pending = s.pending ∧ spState t.sys.dev = spUnatt ∧ t.sys.dev.ps.disch = false ∧ t.sys.dev.fl SP_EVT_DETACH =
    true) ∧
  (∀ (s : State), s.expiring → dischargeToDue s.atTimers.dev = true → ∃ t : State, exec (.dischargeTimeout) s = .next t
    ∧ t.pending = s.pending ∧ spState t.sys.dev = spUnatt ∧ t.sys.dev.fl SP_EVT_DISCHTO = true ∧ t.sys.dev.fl
    SP_EVT_DETACH = true) ∧
  (∀ (s : State), s.expiring → errorEndDue s.atTimers.dev = true → ∃ t : State, exec (.errorRecoveryEnd) s = .next t ∧
    t.pending = s.pending ∧ spState t.sys.dev = spUnatt ∧ t.sys.dev.fl SP_EVT_DETACH = true ∧ t.sys.dev.fl
    SP_STATUS_CONTRACT = false ∧ t.sys.dev.rd SP_STATUS_LEVEL = 0 ∧ t.sys.dev.fl SP_STATUS_USBCFG = false ∧
    t.sys.dev.sp.xs = none) ∧
  (∀ (s : State), s.expiring → drpDue s.atTimers.dev = true → ∃ t : State, exec (.drpToggle) s = .next t ∧ t.pending =
    s.pending ∧ t.sys.dev.sp.rp = !s.atTimers.dev.sp.rp ∧ t.sys.dev.sp.toggleAt = t.sys.dev.cur ∧ KeepsBut []
    s.atTimers.dev t.sys.dev)

/-- PD_REQUEST, PS_RDY_TIMEOUT, PPS_TIMEOUT, SP_CMD_HRST, SP_CMD_ERRREC, PD_HARD_RESET and PD_NOT_SUPPORTED (R383,
R388, R391, R395): a Request of an offered fixed voltage within the current is accepted and starts its change, and one
of no offered object is rejected; a Hard Reset counts, ends the contract and any swap, and takes the role of the
termination presented; error recovery opens the switch; without PD a message changes nothing. -/
def Obligations.PortPowerPolicySource : Prop :=
  (∀ (s : State) (pos : BitVec 3) (volt : BitVec 11) (curr : BitVec 10) (v : Nat), s.sys.dev.quiet → pdOn s.sys.dev =
    true → spState s.sys.dev = spSrc → pos ≠ 0 → (srcOffer s.sys.dev)[pos.toNat - 1]? = some (some v) → curr.toNat ≤
    imax s.sys.dev * 5 → ∃ t : State, exec (.pdRequest pos volt curr) s = .next t ∧ t.pending = s.pending ∧
    t.sys.dev.fl SP_STATUS_XSITION = true ∧ t.sys.dev.sp.xs = some
    { pos := pos.toNat, volt := v, curr := imax s.sys.dev, pps := false, next := t.sys.dev.cur + 1 } ∧
    t.sys.dev.out.getLast? = some (.pd pdAccept []) ∧ KeepsBut [(SP_STATUS_XSITION, 0)] s.sys.dev t.sys.dev) ∧
  (∀ (s : State) (pos : BitVec 3) (volt : BitVec 11) (curr : BitVec 10), s.sys.dev.quiet → pdOn s.sys.dev = true →
    spState s.sys.dev = spSrc → (pos = 0 ∨ (srcOffer s.sys.dev)[pos.toNat - 1]? = none) → ∃ t : State, exec
    (.pdRequest pos volt curr) s = .next t ∧ t.pending = s.pending ∧ t.sys.dev.out.getLast? = some (.pd pdReject []) ∧
    t.sys.dev.sp.xs = s.sys.dev.sp.xs ∧ KeepsBut [] s.sys.dev t.sys.dev) ∧
  (∀ (s : State), s.expiring → psRdyDue s.atTimers.dev = true → ∃ t : State, exec (.psRdyTimeout) s = .next t ∧
    t.pending = s.pending ∧ t.sys.dev.fl SP_EVT_HRST = true ∧ t.sys.dev.rd SP_CNT_HRST = incSat SP_CNT_HRST.w
    (s.atTimers.dev.rd SP_CNT_HRST) ∧ t.sys.dev.fl SP_STATUS_CONTRACT = false ∧ t.sys.dev.sp.xs = none) ∧
  (∀ (s : State), s.expiring → ppsTimeoutDue s.atTimers.dev = true → ∃ t : State, exec (.ppsTimeout) s = .next t ∧
    t.pending = s.pending ∧ t.sys.dev.fl SP_EVT_PPSTO = true ∧ t.sys.dev.sp.xs.isSome = true ∧ KeepsBut
    [(SP_EVT_PPSTO, 0)] s.atTimers.dev t.sys.dev) ∧
  (∀ (s : State) (a : Accessor), s.turn → a ≠ .sp → writeKind s.sys.dev (accIx a) (0xC01C) (1) = 0 → pdOn
    s.atCommands.dev = true → ∃ t : State, exec (.spCmdHrst a) s = .next t ∧ t.pending = s.pending ∧ t.sys.dev.fl
    SP_EVT_HRST = true ∧ t.sys.dev.fl SP_STATUS_CONTRACT = false ∧ spState t.sys.dev = (if s.atCommands.dev.sp.rp =
    true then spSrc else spSnk) ∧ t.sys.dev.sp.swap = 0) ∧
  (∀ (s : State) (a : Accessor), s.turn → a ≠ .sp → writeKind s.sys.dev (accIx a) (0xC01C) (1) = 0 → pdOn
    s.atCommands.dev = false → ∃ t : State, exec (.spCmdHrst a) s = .next t ∧ t.pending = s.pending ∧ KeepsBut []
    s.atCommands.dev t.sys.dev ∧ t.sys.dev.sp = s.atCommands.dev.sp) ∧
  (∀ (s : State) (a : Accessor), s.turn → a ≠ .sp → writeKind s.sys.dev (accIx a) (0xC01C) (2) = 0 → (spState
    s.atCommands.dev = spSnk ∨ spState s.atCommands.dev = spSrc) → ∃ t : State, exec (.spCmdErrrec a) s = .next t ∧
    t.pending = s.pending ∧ spState t.sys.dev = spErr ∧ t.sys.dev.ps.en = false ∧ t.sys.dev.fl SP_STATUS_CONTRACT =
    false ∧ t.sys.dev.rd SP_STATUS_LEVEL = 0 ∧ t.sys.dev.fl SP_STATUS_USBCFG = false ∧ t.sys.dev.sp.xs = none) ∧
  (∀ (s : State), s.sys.dev.quiet → pdOn s.sys.dev = true → ∃ t : State, exec (.pdHardReset) s = .next t ∧ t.pending =
    s.pending ∧ t.sys.dev.fl SP_EVT_HRST = true ∧ t.sys.dev.rd SP_CNT_HRST = incSat SP_CNT_HRST.w (s.sys.dev.rd
    SP_CNT_HRST) ∧ t.sys.dev.fl SP_STATUS_CONTRACT = false ∧ spState t.sys.dev = (if s.sys.dev.sp.rp = true then spSrc
    else spSnk) ∧ t.sys.dev.sp.mark = none) ∧
  (∀ (s : State), s.sys.dev.quiet → pdOn s.sys.dev = true → ∃ t : State, exec (.pdNotSupported) s = .next t ∧ t.pending
    = s.pending ∧ t.sys.dev.out = s.sys.dev.out ++ [.pd pdNotSup []] ∧ KeepsBut [] s.sys.dev t.sys.dev)

/-- PD_SOURCE_CAPS, PD_ACCEPT, PD_PS_RDY, PPS_KEEPALIVE, PR_SWAP and DR_SWAP (R392 to R396): the objects of a source
are answered with the Request that R392 selects; its Accept marks the transition and its PS_RDY puts the contract in
force; a swap the control bits permit is accepted and any other rejected. -/
def Obligations.PortPowerPolicySink : Prop :=
  (∀ (s : State) (l : List Pdo), s.sys.dev.quiet → pdOn s.sys.dev = true → spState s.sys.dev = spSnk → spLocked
    s.sys.dev = false → ∃ t : State, exec (.pdSourceCaps l) s = .next t ∧ t.pending = s.pending ∧ t.sys.dev.sp.ask =
    some ((sinkSelect s.sys.dev l).1, (sinkSelect s.sys.dev l).2.1, (sinkSelect s.sys.dev l).2.2.1, (sinkSelect
    s.sys.dev l).2.2.2.1) ∧ t.sys.dev.out.getLast? = some (.pd pdRequestMsg [(sinkSelect s.sys.dev l).1, (sinkSelect
    s.sys.dev l).2.1, (sinkSelect s.sys.dev l).2.2.1, (sinkSelect s.sys.dev l).2.2.2.1.toNat, (sinkSelect s.sys.dev
    l).2.2.2.2.toNat]) ∧ KeepsBut [] s.sys.dev t.sys.dev) ∧
  (∀ (s : State) (p v i : Nat) (pps : Bool), s.sys.dev.quiet → pdOn s.sys.dev = true → s.sys.dev.sp.swap ≠ 2 → spState
    s.sys.dev = spSnk → s.sys.dev.sp.ask = some (p, v, i, pps) → ∃ t : State, exec (.pdAccept) s = .next t ∧ t.pending
    = s.pending ∧ t.sys.dev.fl SP_STATUS_XSITION = true ∧ t.sys.dev.sp.mark = some (if s.sys.dev.fl SP_STATUS_CONTRACT
    = true then s.sys.dev.rd SP_CONTR_VOLT else 250, v) ∧ KeepsBut [(SP_STATUS_XSITION, 0)] s.sys.dev t.sys.dev) ∧
  (∀ (s : State) (p v i : Nat) (pps : Bool), s.sys.dev.quiet → pdOn s.sys.dev = true → s.sys.dev.sp.swap ≠ 1 → spState
    s.sys.dev = spSnk → s.sys.dev.fl SP_STATUS_XSITION = true → s.sys.dev.sp.ask = some (p, v, i, pps) → ∃ t : State,
    exec (.pdPsRdy) s = .next t ∧ t.pending = s.pending ∧ t.sys.dev.fl SP_STATUS_CONTRACT = true ∧ t.sys.dev.fl
    SP_STATUS_XSITION = false ∧ t.sys.dev.rd SP_CONTR_VOLT = v % 2 ^ SP_CONTR_VOLT.w ∧ t.sys.dev.rd SP_CONTR_CURR = i
    % 2 ^ SP_CONTR_CURR.w ∧ t.sys.dev.rd SP_CONTR_POS = p % 2 ^ SP_CONTR_POS.w ∧ t.sys.dev.fl SP_CONTR_PPS = pps ∧
    t.sys.dev.fl SP_EVT_CONTRACT = true ∧ t.sys.dev.sp.mark = none) ∧
  (∀ (s : State) (p v i : Nat) (pps : Bool), s.expiring → keepaliveDue s.atTimers.dev = true → s.atTimers.dev.sp.ask =
    some (p, v, i, pps) → ∃ t : State, exec (.ppsKeepalive) s = .next t ∧ t.pending = s.pending ∧ t.sys.dev.out =
    s.atTimers.dev.out ++ [.pd pdRequestMsg [p, v, i, pps.toNat, 0]] ∧ KeepsBut [] s.atTimers.dev t.sys.dev) ∧
  (∀ (s : State), s.sys.dev.quiet → pdOn s.sys.dev = true → s.sys.dev.fl SP_STATUS_PROLE = true → s.sys.dev.bit
    SP_CTRL_PRS 0 0 = true → ∃ t : State, exec (.prSwap) s = .next t ∧ t.pending = s.pending ∧ t.sys.dev.sp.swap = 1 ∧
    t.sys.dev.ps.en = false ∧ t.sys.dev.ps.disch = true ∧ t.sys.dev.out.contains (.pd pdAccept []) = true) ∧
  (∀ (s : State), s.sys.dev.quiet → pdOn s.sys.dev = true → (s.sys.dev.fl SP_STATUS_PROLE = true → s.sys.dev.bit
    SP_CTRL_PRS 0 0 = false) → (s.sys.dev.fl SP_STATUS_PROLE = false → s.sys.dev.bit SP_CTRL_PRS 0 1 = false ∨
    srcAvail s.sys.dev = false) → ∃ t : State, exec (.prSwap) s = .next t ∧ t.pending = s.pending ∧ t.sys.dev.sp.swap
    = s.sys.dev.sp.swap ∧ t.sys.dev.out = s.sys.dev.out ++ [.pd pdReject []] ∧ KeepsBut [] s.sys.dev t.sys.dev) ∧
  (∀ (s : State), s.sys.dev.quiet → pdOn s.sys.dev = true → s.sys.dev.fl SP_STATUS_DROLE = true → ∃ t : State, exec
    (.drSwap) s = .next t ∧ t.pending = s.pending ∧ t.sys.dev.fl SP_STATUS_DROLE = false ∧ t.sys.dev.fl SP_EVT_SWAP =
    true ∧ t.sys.dev.out.contains (.pd pdAccept []) = true ∧ t.sys.dev.sp.swap = 0) ∧
  (∀ (s : State), s.sys.dev.quiet → pdOn s.sys.dev = true → s.sys.dev.fl SP_STATUS_DROLE = false → ∃ t : State, exec
    (.drSwap) s = .next t ∧ t.pending = s.pending ∧ t.sys.dev.out = s.sys.dev.out ++ [.pd pdReject []] ∧ KeepsBut []
    s.sys.dev t.sys.dev)

/-- USB_COMMAND, USB_RESPONSE_READ, GET_STATE, GET_NONCE, AUTH, DEAUTH, KEY_WRITE, KEY_LOCK, USB_STALL, SP_CMD_DEAUTH,
SESSION_EXPIRY and USB_STANDARD_REQUEST (R344, R402 to R405): a command transfer is handed to the dispatcher while no
response waits; a waiting response is sent once; a nonce is drawn and used up by the next AUTH, which opens a session
only for a token that passes; keys are written only in recovery before the lock and otherwise answered with STALL; a
session ends on command or at its end. -/
def Obligations.UsbServiceAnswers : Prop :=
  (∀ (s : State) (bs : List Byte), s.sys.dev.quiet → usbOn s.sys.dev = true → s.sys.dev.fl SP_STATUS_USBCFG = true →
    s.sys.dev.sp.resp = none → s.sys.dev.host.dq = [] → s.sys.dev.up.verify = none → s.sys.dev.commit = none →
    s.sys.dev.rcd.clr = none → ∃ t : State, exec (.usbCommand bs) s = .next t ∧ t.pending = s.pending ∧
    (t.sys.dev.host.dq.any (fun y => y.bytes == fit 64 (natBytes bs) ++ (natBytes bs).drop 64 && srcOf y.ctxs == 3)) =
    true ∧ t.sys.dev.host.dq.length = s.sys.dev.host.dq.length + 1 ∧ KeepsBut [] s.sys.dev t.sys.dev) ∧
  (∀ (s : State) (bs : List Byte), s.sys.dev.quiet → (usbOn s.sys.dev = false ∨ s.sys.dev.fl SP_STATUS_USBCFG = false ∨
    s.sys.dev.sp.resp.isSome = true) → ∃ t : State, exec (.usbCommand bs) s = .next t ∧ t.pending = s.pending ∧
    t.sys.dev.host.dq = s.sys.dev.host.dq ∧ KeepsBut [] s.sys.dev t.sys.dev) ∧
  (∀ (s : State) (r : List Nat), s.sys.dev.quiet → s.sys.dev.sp.resp = some r → ∃ t : State, exec (.usbResponseRead) s =
    .next t ∧ t.pending = s.pending ∧ t.sys.dev.sp.resp = none ∧ t.sys.dev.out = s.sys.dev.out ++ [.usb r] ∧ KeepsBut
    [] s.sys.dev t.sys.dev) ∧
  (∀ (s : State), s.sys.dev.quiet → usbOn s.sys.dev = true → ∃ t : State, exec (.getState) s = .next t ∧ t.pending =
    s.pending ∧ t.sys.dev.out = s.sys.dev.out ++ [.usb ([s.sys.dev.rd SP_STATUS_LEVEL, s.sys.dev.rd SP_STATUS_SVCBOOT
    + 2 * s.sys.dev.rd UP_STATUS_BOOT] ++ le 2 (s.sys.dev.rd SP_SESS) ++ [s.sys.dev.rd NV_STATUS_KEYLOCK, 0, 0, 0])] ∧
    KeepsBut [] s.sys.dev t.sys.dev) ∧
  (∀ (s : State), s.sys.dev.quiet → usbOn s.sys.dev = true → ∃ t : State, exec (.getNonce) s = .next t ∧ t.pending =
    s.pending ∧ t.sys.dev.sp.nonce = some (s.sys.dev.freeV % 2 ^ 64) ∧ t.sys.dev.out = s.sys.dev.out ++ [.usb (le 8
    (s.sys.dev.freeV % 2 ^ 64))] ∧ KeepsBut [] s.sys.dev t.sys.dev) ∧
  (∀ (s : State) (x : List Byte), s.sys.dev.quiet → usbOn s.sys.dev = true → sessionOk s.sys (natBytes x) = false → ∃ t
    : State, exec (.auth x) s = .next t ∧ t.pending = s.pending ∧ t.sys.dev.sp.nonce = none ∧ t.sys.dev.fl
    SP_EVT_AUTHFAIL = true ∧ t.sys.dev.rd SP_STATUS_LEVEL = s.sys.dev.rd SP_STATUS_LEVEL ∧ t.sys.dev.rd SP_SESS =
    s.sys.dev.rd SP_SESS ∧ t.sys.nv = s.sys.nv) ∧
  (∀ (s : State) (x : List Byte), s.sys.dev.quiet → usbOn s.sys.dev = true → sessionOk s.sys (natBytes x) = true → ∃ t :
    State, exec (.auth x) s = .next t ∧ t.pending = s.pending ∧ t.sys.dev.sp.nonce = none ∧ t.sys.dev.fl SP_EVT_AUTH =
    true ∧ t.sys.dev.rd SP_STATUS_LEVEL = (natBytes x).getD 1 0 ∧ t.sys.dev.rd SP_SESS = leAt (natBytes x) 2 2) ∧
  (∀ (s : State), s.sys.dev.quiet → usbOn s.sys.dev = true → ∃ t : State, exec (.deauth) s = .next t ∧ t.pending =
    s.pending ∧ t.sys.dev.rd SP_STATUS_LEVEL = 0 ∧ t.sys.dev.rd SP_SESS = 0 ∧ KeepsBut [(SP_STATUS_LEVEL, 0),
    (SP_SESS, 0)] s.sys.dev t.sys.dev) ∧
  (∀ (s : State) (a : Accessor), s.turn → a ≠ .sp → writeKind s.sys.dev (accIx a) (0xC01C) (4) = 0 → ∃ t : State, exec
    (.spCmdDeauth a) s = .next t ∧ t.pending = s.pending ∧ t.sys.dev.rd SP_STATUS_LEVEL = 0 ∧ t.sys.dev.rd SP_SESS = 0
    ∧ KeepsBut [(SP_STATUS_LEVEL, 0), (SP_SESS, 0)] s.atCommands.dev t.sys.dev) ∧
  (∀ (s : State), s.expiring → sessDue s.atTimers.dev = true → ∃ t : State, exec (.sessionExpiry) s = .next t ∧
    t.pending = s.pending ∧ t.sys.dev.rd SP_STATUS_LEVEL = 0 ∧ t.sys.dev.rd SP_SESS = 0 ∧ KeepsBut [(SP_STATUS_LEVEL,
    0), (SP_SESS, 0)] s.atTimers.dev t.sys.dev) ∧
  (∀ (s : State) (k : Byte) (key : List Byte), s.sys.dev.quiet → usbOn s.sys.dev = true → s.sys.dev.fl NV_STATUS_KEYLOCK
    = false → s.sys.dev.pw.recovery = true → 1 ≤ k.toNat → k.toNat ≤ 3 → ∃ t : State, exec (.keyWrite k key) s = .next
    t ∧ t.pending = s.pending ∧ t.sys.nv = Mem.put s.sys.nv (keyAddr k.toNat) (fit 64 (natBytes key)) ∧ t.sys.dev.bit
    NV_STATUS_KEYVALID 0 k.toNat = true ∧ KeepsBut [(NV_STATUS_KEYVALID, 0)] s.sys.dev t.sys.dev) ∧
  (∀ (s : State) (k : Byte) (key : List Byte), s.sys.dev.quiet → usbOn s.sys.dev = true → (s.sys.dev.fl
    NV_STATUS_KEYLOCK = true ∨ s.sys.dev.pw.recovery = false ∨ k = 0 ∨ 3 < k.toNat) → ∃ t : State, exec (.keyWrite k
    key) s = .next t ∧ t.pending = s.pending ∧ t.sys.nv = s.sys.nv ∧ t.sys.dev.out = s.sys.dev.out ++ [.usbStall] ∧
    KeepsBut [] s.sys.dev t.sys.dev) ∧
  (∀ (s : State), s.sys.dev.quiet → usbOn s.sys.dev = true → s.sys.dev.fl NV_STATUS_KEYLOCK = false →
    s.sys.dev.pw.recovery = true → ∃ t : State, exec (.keyLock) s = .next t ∧ t.pending = s.pending ∧ t.sys.dev.rd
    NV_STATUS_KEYLOCK = 1 ∧ KeepsBut [(NV_STATUS_KEYLOCK, 0)] s.sys.dev t.sys.dev) ∧
  (∀ (s : State), s.sys.dev.quiet → usbOn s.sys.dev = true → (s.sys.dev.fl NV_STATUS_KEYLOCK = true ∨
    s.sys.dev.pw.recovery = false) → ∃ t : State, exec (.keyLock) s = .next t ∧ t.pending = s.pending ∧ t.sys.dev.out
    = s.sys.dev.out ++ [.usbStall] ∧ KeepsBut [] s.sys.dev t.sys.dev) ∧
  (∀ (s : State), s.sys.dev.quiet → usbOn s.sys.dev = true → ∃ t : State, exec (.usbStall) s = .next t ∧ t.pending =
    s.pending ∧ t.sys.dev.out = s.sys.dev.out ++ [.usbStall] ∧ KeepsBut [] s.sys.dev t.sys.dev) ∧
  (∀ (s : State) (req : Byte) (v : BitVec 16), s.sys.dev.quiet → usbOn s.sys.dev = true → req = 9 → v.toNat ≤ 1 → ∃ t :
    State, exec (.usbStandardRequest req v) s = .next t ∧ t.pending = s.pending ∧ t.sys.dev.rd SP_STATUS_USBCFG =
    v.toNat ∧ t.sys.dev.out = s.sys.dev.out ++ [.usb []] ∧ KeepsBut [(SP_STATUS_USBCFG, 0)] s.sys.dev t.sys.dev) ∧
  (∀ (s : State) (req : Byte) (v : BitVec 16), s.sys.dev.quiet → usbOn s.sys.dev = true → req = 9 → 1 < v.toNat → ∃ t :
    State, exec (.usbStandardRequest req v) s = .next t ∧ t.pending = s.pending ∧ t.sys.dev.out = s.sys.dev.out ++
    [.usbStall] ∧ KeepsBut [] s.sys.dev t.sys.dev) ∧
  (∀ (s : State) (req : Byte) (v : BitVec 16), s.sys.dev.quiet → usbOn s.sys.dev = true → req ≠ 9 → ∃ t : State, exec
    (.usbStandardRequest req v) s = .next t ∧ t.pending = s.pending ∧ KeepsBut [] s.sys.dev t.sys.dev ∧
    t.sys.dev.out.length = s.sys.dev.out.length + 1)

/-- POWER_ON_RESET, RESET_N_ASSERT, SUPPLY_FAULT, CLOCK_LOSS, PM_CMD_RESET, WATCHDOG_EXPIRY and MGMT_HALT (R21, R34,
R408 to R411): a reset holds the device with the time base stopped, the sequence OFF and nothing waiting, and keeps
what the store keeps; any but a power-on reset counts, sets its cause and keeps what the always-on domain keeps; an
expiry of the watchdog without ACT halts the management plane, which asserts FAULT_N. -/
def Obligations.ResetsLeaveTheirState : Prop :=
  (∀ (s : State), ∃ t : State, exec (.powerOnReset) s = .next t ∧ t.pending = s.pending ∧ t.sys.dev.pw.held = true ∧
    t.sys.dev.tb.run = false ∧ t.sys.dev.fl GL_STATUS_MHALT = false ∧ t.sys.dev.rd SQ_STATUS_STATE = sqOff ∧
    t.sys.dev.host.dq = [] ∧ t.sys.dev.staged = [] ∧ t.sys.dev.rd EV_RNUM = s.sys.dev.rd EV_RNUM ∧ t.sys.dev.rd
    UP_SVN_FLOOR = s.sys.dev.rd UP_SVN_FLOOR ∧ t.sys.dev.rd PM_CNT_RESETS = 0 ∧ t.sys.dev.fl PM_CAUSE_POR = true ∧
    t.sys.dev.fl SQ_STATUS_FORCE = false ∧ t.sys.dev.fl GL_STATUS_FAULT = false) ∧
  (∀ (s : State), ∃ t : State, exec (.resetNAssert) s = .next t ∧ t.pending = s.pending ∧ t.sys.dev.pw.held = true ∧
    t.sys.dev.tb.run = false ∧ t.sys.dev.fl GL_STATUS_MHALT = false ∧ t.sys.dev.rd SQ_STATUS_STATE = sqOff ∧
    t.sys.dev.host.dq = [] ∧ t.sys.dev.staged = [] ∧ t.sys.dev.rd EV_RNUM = s.sys.dev.rd EV_RNUM ∧ t.sys.dev.rd
    UP_SVN_FLOOR = s.sys.dev.rd UP_SVN_FLOOR ∧ t.sys.dev.rd PM_CNT_RESETS = incSat PM_CNT_RESETS.w (s.sys.dev.rd
    PM_CNT_RESETS) ∧ t.sys.dev.fl SQ_STATUS_FORCE = s.sys.dev.fl SQ_STATUS_FORCE ∧ t.sys.dev.rd PM_WAKEEN =
    s.sys.dev.rd PM_WAKEEN ∧ t.sys.dev.fl PM_CAUSE_RESETN = true) ∧
  (∀ (s : State) (k : Fin 6), s.sys.dev.live = true → s.sys.dev.fl SP_STATUS_SVCBOOT = false → ∃ t : State, exec
    (.supplyFault k) s = .next t ∧ t.pending = s.pending ∧ t.sys.dev.pw.held = true ∧ t.sys.dev.tb.run = false ∧
    t.sys.dev.fl GL_STATUS_MHALT = false ∧ t.sys.dev.rd SQ_STATUS_STATE = sqOff ∧ t.sys.dev.host.dq = [] ∧
    t.sys.dev.staged = [] ∧ t.sys.dev.rd EV_RNUM = s.sys.dev.rd EV_RNUM ∧ t.sys.dev.rd UP_SVN_FLOOR = s.sys.dev.rd
    UP_SVN_FLOOR ∧ t.sys.dev.rd PM_CNT_RESETS = incSat PM_CNT_RESETS.w (s.sys.dev.rd PM_CNT_RESETS) ∧ t.sys.dev.fl
    SQ_STATUS_FORCE = s.sys.dev.fl SQ_STATUS_FORCE ∧ t.sys.dev.rd PM_WAKEEN = s.sys.dev.rd PM_WAKEEN ∧ t.sys.dev.fl
    PM_CAUSE_SUPPLY = true ∧ t.sys.dev.fl GL_STATUS_FAULT = true ∧ bitOf (t.sys.dev.rd PM_SUPFLT) k.val = true ∧ bitOf
    (t.sys.dev.rd PM_SUP_GOOD) k.val = false) ∧
  (∀ (s : State) (k : Fin 6), (s.sys.dev.pw.asleep = true ∨ s.sys.dev.fl SP_STATUS_SVCBOOT = true) → ∃ t : State, exec
    (.supplyFault k) s = .next t ∧ t.pending = s.pending ∧ t.sys.dev.pw = s.sys.dev.pw ∧ bitOf (t.sys.dev.rd
    PM_SUP_GOOD) k.val = false ∧ KeepsBut [(PM_SUP_GOOD, 0)] s.sys.dev t.sys.dev) ∧
  (∀ (s : State), s.sys.dev.pw.asleep = false → ∃ t : State, exec (.clockLoss) s = .next t ∧ t.pending = s.pending ∧
    t.sys.dev.pw.held = true ∧ t.sys.dev.tb.run = false ∧ t.sys.dev.fl GL_STATUS_MHALT = false ∧ t.sys.dev.rd
    SQ_STATUS_STATE = sqOff ∧ t.sys.dev.host.dq = [] ∧ t.sys.dev.staged = [] ∧ t.sys.dev.rd EV_RNUM = s.sys.dev.rd
    EV_RNUM ∧ t.sys.dev.rd UP_SVN_FLOOR = s.sys.dev.rd UP_SVN_FLOOR ∧ t.sys.dev.rd PM_CNT_RESETS = incSat
    PM_CNT_RESETS.w (s.sys.dev.rd PM_CNT_RESETS) ∧ t.sys.dev.fl SQ_STATUS_FORCE = s.sys.dev.fl SQ_STATUS_FORCE ∧
    t.sys.dev.rd PM_WAKEEN = s.sys.dev.rd PM_WAKEEN ∧ t.sys.dev.fl PM_CAUSE_CLOCK = true ∧ t.sys.dev.fl
    GL_STATUS_FAULT = true ∧ t.sys.dev.pw.clockLost = true) ∧
  (∀ (s : State), s.turn → writeKind s.sys.dev 2 0x430 1 = 0 → ∃ t : State, exec (.pmCmdReset) s = .next t ∧ t.pending =
    s.pending ∧ t.sys.dev.pw.rstReq = true ∧ t.sys.dev.pw.held = false ∧ KeepsBut [] s.atCommands.dev t.sys.dev) ∧
  (∀ (s : State), s.sys.dev.quiet → s.sys.dev.fl GL_STATUS_MHALT = false → s.sys.dev.pw.entry = 0 → (s.sys.dev.fl
    PM_CTRL_WDOG_ACT = true ∨ s.sys.dev.rd PM_STATUS_STATE = 3 ∨ s.sys.dev.rd PM_STATUS_STATE = 4) → ∃ t : State, exec
    (.watchdogExpiry) s = .next t ∧ t.pending = s.pending ∧ t.sys.dev.pw.held = true ∧ t.sys.dev.tb.run = false ∧
    t.sys.dev.fl GL_STATUS_MHALT = false ∧ t.sys.dev.rd SQ_STATUS_STATE = sqOff ∧ t.sys.dev.host.dq = [] ∧
    t.sys.dev.staged = [] ∧ t.sys.dev.rd EV_RNUM = s.sys.dev.rd EV_RNUM ∧ t.sys.dev.rd UP_SVN_FLOOR = s.sys.dev.rd
    UP_SVN_FLOOR ∧ t.sys.dev.rd PM_CNT_RESETS = incSat PM_CNT_RESETS.w (s.sys.dev.rd PM_CNT_RESETS) ∧ t.sys.dev.fl
    SQ_STATUS_FORCE = s.sys.dev.fl SQ_STATUS_FORCE ∧ t.sys.dev.rd PM_WAKEEN = s.sys.dev.rd PM_WAKEEN ∧ t.sys.dev.fl
    PM_CAUSE_WDOG = true ∧ t.sys.dev.fl GL_STATUS_FAULT = true) ∧
  (∀ (s : State), s.sys.dev.quiet → s.sys.dev.fl GL_STATUS_MHALT = false → s.sys.dev.pw.entry = 0 → s.sys.dev.fl
    PM_CTRL_WDOG_ACT = false → s.sys.dev.rd PM_STATUS_STATE = 1 → ∃ t : State, exec (.watchdogExpiry) s = .next t ∧
    t.pending = s.pending ∧ t.sys.dev.fl GL_STATUS_MHALT = true ∧ t.sys.dev.fl GL_STATUS_FAULT = true ∧
    t.sys.dev.pw.held = false ∧ t.sys.dev.au.held = []) ∧
  (∀ (s : State), s.sys.dev.quiet → s.sys.dev.fl GL_STATUS_MHALT = false → ∃ t : State, exec (.mgmtHalt) s = .next t ∧
    t.pending = s.pending ∧ t.sys.dev.fl GL_STATUS_MHALT = true ∧ bitOf t.sys.dev.seq.fault 0 = true ∧ t.sys.dev.fl
    GL_STATUS_FAULT = true ∧ t.sys.dev.au.held = [] ∧ (t.sys.dev.au.table.any (fun p => p.gated)) = false ∧
    t.sys.dev.rd SQ_STATUS_STATE = s.sys.dev.rd SQ_STATUS_STATE)

/-- ACLK_FALLBACK, VIN_AON_FAULT, VSVC_LOSS, MAIN_SUPPLIES_GOOD and BOUNDARY_SCAN (R35, R396, R411, R417, R454): the
fallback shows the internal oscillator; the loss of one of VIN_AON and VSVC is shown and latched while the other stays
good, and of both is a power-on reset; main supplies that are good are shown; TESTEN holds the device in reset. -/
def Obligations.SuppliesClocksAndScan : Prop :=
  (∀ (s : State), ∃ t : State, exec (.aclkFallback) s = .next t ∧ t.pending = s.pending ∧ t.sys.dev.rd
    PM_STATUS_ACLK_INT = 1 ∧ KeepsBut ([(PM_STATUS_ACLK_INT, 0)] ++ recFields) s.sys.dev t.sys.dev) ∧
  (∀ (s : State), bitOf (s.sys.dev.rd PM_SUP_GOOD) 7 = true → ∃ t : State, exec (.vinAonFault) s = .next t ∧ t.pending =
    s.pending ∧ bitOf (t.sys.dev.rd PM_SUP_GOOD) 6 = false ∧ bitOf (t.sys.dev.rd PM_SUPFLT) 6 = true ∧ t.sys.dev.pw =
    s.sys.dev.pw ∧ KeepsBut [(PM_SUP_GOOD, 0), (PM_SUPFLT, 0)] s.sys.dev t.sys.dev) ∧
  (∀ (s : State), bitOf (s.sys.dev.rd PM_SUP_GOOD) 7 = false → ∃ t : State, exec (.vinAonFault) s = .next t ∧ t.pending
    = s.pending ∧ t.sys.dev.pw.held = true ∧ t.sys.dev.pw.por = true ∧ t.sys.dev.rd PM_CNT_RESETS = 0 ∧ bitOf
    (t.sys.dev.rd PM_SUPFLT) 6 = true) ∧
  (∀ (s : State), bitOf (s.sys.dev.rd PM_SUP_GOOD) 6 = true → s.sys.dev.fl SP_STATUS_SVCBOOT = false → ∃ t : State, exec
    (.vsvcLoss) s = .next t ∧ t.pending = s.pending ∧ bitOf (t.sys.dev.rd PM_SUP_GOOD) 7 = false ∧ bitOf (t.sys.dev.rd
    PM_SUPFLT) 7 = true ∧ t.sys.dev.pw = s.sys.dev.pw ∧ KeepsBut [(PM_SUP_GOOD, 0), (PM_SUPFLT, 0)] s.sys.dev
    t.sys.dev) ∧
  (∀ (s : State), bitOf (s.sys.dev.rd PM_SUP_GOOD) 6 = false → ∃ t : State, exec (.vsvcLoss) s = .next t ∧ t.pending =
    s.pending ∧ t.sys.dev.pw.held = true ∧ t.sys.dev.pw.por = true ∧ bitOf (t.sys.dev.rd PM_SUPFLT) 7 = true) ∧
  (∀ (s : State) (k : Word), (s.sys.dev.pw.asleep = false ∨ s.sys.dev.pw.waitMain = false) → ∃ t : State, exec
    (.mainSuppliesGood k) s = .next t ∧ t.pending = s.pending ∧ bitsOf (t.sys.dev.rd PM_SUP_GOOD) 0 6 = 63 ∧
    t.sys.dev.pw = s.sys.dev.pw ∧ KeepsBut [(PM_SUP_GOOD, 0)] s.sys.dev t.sys.dev) ∧
  (∀ (s : State) (k : Word), s.sys.dev.pw.asleep = true → s.sys.dev.pw.waitMain = true → ∃ t : State, exec
    (.mainSuppliesGood k) s = .next t ∧ t.pending = s.pending ∧ t.sys.dev.pw.asleep = false ∧ t.sys.dev.pw.waking =
    true ∧ t.sys.dev.pw.waitMain = false) ∧
  (∀ (s : State), ∃ t : State, exec (.boundaryScan true) s = .next t ∧ t.pending = s.pending ∧ t.sys.dev.pw.held = true
    ∧ t.sys.dev.fl GL_STATUS_TESTEN = true) ∧
  (∀ (s : State), ∃ t : State, exec (.boundaryScan false) s = .next t ∧ t.pending = s.pending ∧ t.sys.dev.pw =
    s.sys.dev.pw ∧ t.sys.dev.fl GL_STATUS_TESTEN = false ∧ KeepsBut [(GL_STATUS_TESTEN, 0)] s.sys.dev t.sys.dev)

/-- START_UP, START_UP_END, SERVICE_BOOT and PROMOTION (R398, R399, R412): a device that is ready starts at tick 0
with its supplies shown, in recovery for BOOTSEL high; one that is not ready does not change; the end of start-up is
RUN, and AUTO then asks for the sequence; a service boot starts with SVCBOOT; a promotion leaves service boot with
PROMO. The part of the start time before tick 0 is a free value. -/
def Obligations.StartsAndServiceBoots : Prop :=
  (∀ (s : State) (boot : Bool) (good : Byte) (k : Word), startReady s.sys.dev good.toNat = true → ∃ t : State, exec
    (.startUp boot good k) s = .next t ∧ t.pending = s.pending ∧ t.sys.dev.pw.booted = true ∧ t.sys.dev.pw.held =
    false ∧ t.sys.dev.rd TB_TICK = 0 ∧ t.sys.dev.rd PM_SUP_GOOD = good.toNat ∧ t.sys.dev.fl GL_STATUS_BOOTSEL = boot ∧
    (boot = true → t.sys.dev.rd PM_STATUS_STATE = 4 ∧ t.sys.dev.pw.recovery = true)) ∧
  (∀ (s : State) (boot : Bool) (good : Byte) (k : Word), startReady s.sys.dev good.toNat = false → ∃ t : State, exec
    (.startUp boot good k) s = .next t ∧ t.pending = s.pending ∧ t.sys = s.sys) ∧
  (∀ (s : State), s.judging → startEndDue s.atCommands.dev = true → ∃ t : State, exec (.startUpEnd) s = .next t ∧
    t.pending = s.pending ∧ t.sys.dev.rd PM_STATUS_STATE = 1 ∧ t.sys.dev.rd PM_TIME_START = min 65535
    (s.atCommands.dev.tb.now - s.atCommands.dev.pw.startAt + s.atCommands.dev.freeV) ∧ t.sys.dev.up.svc = 0 ∧
    (s.atCommands.dev.fl SQ_CTRL_AUTO = true → s.atCommands.dev.fl SQ_STATUS_FORCE = false → s.atCommands.dev.rd
    SQ_STATUS_STATE ≠ sqLocked → t.sys.dev.fl SQ_STATUS_REQ = true)) ∧
  (∀ (s : State) (boot : Bool) (k : Word), s.sys.dev.pw.booted = false → s.sys.dev.pw.asleep = false → s.sys.dev.bit
    PM_SUP_GOOD 0 0 = false → s.sys.dev.fl GL_STATUS_TESTEN = false → ∃ t : State, exec (.serviceBoot boot k) s =
    .next t ∧ t.pending = s.pending ∧ t.sys.dev.pw.booted = true ∧ t.sys.dev.pw.held = false ∧ t.sys.dev.fl
    SP_STATUS_SVCBOOT = true ∧ t.sys.dev.rd PM_STATUS_STATE = 3 ∧ bitOf (t.sys.dev.rd PM_SUP_GOOD) 7 = true) ∧
  (∀ (s : State) (good : Byte), s.sys.dev.fl SP_STATUS_SVCBOOT = true → bitsOf good.toNat 0 6 = 63 →
    s.sys.dev.pw.recovery = true → ∃ t : State, exec (.promotion good) s = .next t ∧ t.pending = s.pending ∧
    t.sys.dev.fl SP_STATUS_SVCBOOT = false ∧ t.sys.dev.fl SP_EVT_PROMO = true ∧ t.sys.dev.rd PM_SUP_GOOD = good.toNat
    ∧ t.sys.dev.rd PM_STATUS_STATE = 4) ∧
  (∀ (s : State) (good : Byte), s.sys.dev.fl SP_STATUS_SVCBOOT = true → bitsOf good.toNat 0 6 = 63 →
    s.sys.dev.pw.recovery = false → ∃ t : State, exec (.promotion good) s = .next t ∧ t.pending = s.pending ∧
    t.sys.dev.fl SP_STATUS_SVCBOOT = false ∧ t.sys.dev.fl SP_EVT_PROMO = true ∧ t.sys.dev.rd PM_SUP_GOOD = good.toNat
    ∧ t.sys.dev.rd PM_STATUS_STATE = 0)

/-- REGISTER_WRITE (R15, R17, R369, R423, R424, R426): an access of another width, or one that a word or its bits do
not admit, is a bus error of its kind and changes no field of the word; a tick field is staged; a field whose Apply is
now takes its value; a WO bit joins the dispatcher; RO fields ignore the write; a doorbell word acts as its doorbell.
-/
def Obligations.RegisterWritesActByAccess : Prop :=
  (∀ (s : State) (a : Accessor) (ofs : BitVec 16) (v : Word), s.sys.dev.quiet → a ≠ .sp → ∃ t : State, exec
    (.registerWrite a false ofs v) s = .next t ∧ t.pending = s.pending ∧ t.sys.dev.rd IN_BERR_OFS_KIND = 1 ∧
    t.sys.dev.rd IN_BERR_OFS_OFS = ofs.toNat ∧ t.sys.dev.fl IN_BUSERR_WIDTH = true ∧ t.sys.dev.fl IN_BUSERR_WRITE =
    true ∧ t.sys.dev.rd IN_BERR_CNT = incSat IN_BERR_CNT.w (s.sys.dev.rd IN_BERR_CNT) ∧ KeepsBut busErrFields
    s.sys.dev t.sys.dev ∧ t.sys.dev.staged = s.sys.dev.staged ∧ t.sys.dev.host.dq = s.sys.dev.host.dq ∧
    t.sys.dev.host.arr = s.sys.dev.host.arr ∧ t.sys.dev.host.cpls = s.sys.dev.host.cpls) ∧
  (∀ (s : State) (a : Accessor) (ofs : BitVec 16) (v : Word), s.sys.dev.quiet → a ≠ .sp → writeKind s.sys.dev (accIx a)
    ofs.toNat v.toNat ≠ 0 → ∃ t : State, exec (.registerWrite a true ofs v) s = .next t ∧ t.pending = s.pending ∧
    t.sys.dev.rd IN_BERR_OFS_KIND = writeKind s.sys.dev (accIx a) ofs.toNat v.toNat ∧ t.sys.dev.rd IN_BERR_OFS_OFS =
    ofs.toNat ∧ t.sys.dev.fl (if a = .pa then IN_BUSERR_PA else if a = .pb then IN_BUSERR_PB else IN_BUSERR_TWB) =
    true ∧ t.sys.dev.fl IN_BUSERR_WRITE = true ∧ KeepsBut busErrFields s.sys.dev t.sys.dev ∧ t.sys.dev.staged =
    s.sys.dev.staged ∧ t.sys.dev.host = s.sys.dev.host) ∧
  (∀ (s : State) (w : Bool) (ofs : BitVec 16) (v : Word), s.sys.dev.quiet → ∃ t : State, exec (.registerWrite .sp w ofs
    v) s = .next t ∧ t.pending = s.pending ∧ KeepsBut [] s.sys.dev t.sys.dev ∧ t.sys.dev.staged = s.sys.dev.staged) ∧
  (∀ (s : State) (a : Accessor) (f : Fin 64) (v : Word), s.sys.dev.quiet → a ≠ .sp → writeKind s.sys.dev (accIx a)
    (0x9004 + 0x20 * f.val) v.toNat = 0 → ∃ t : State, exec (.registerWrite a true (BitVec.ofNat 16 (0x9004 + 0x20 *
    f.val)) v) s = .next t ∧ t.pending = s.pending ∧ (t.sys.dev.staged.any (fun y => y.reg.id == FU_LIM_IINST.id &&
    y.ix == f.val && y.val == v.toNat % 65536 && y.batch == accIx a + 1)) = true ∧ (t.sys.dev.staged.any (fun y =>
    y.reg.id == FU_LIM_IINR.id && y.ix == f.val && y.val == v.toNat / 65536)) = true ∧ KeepsBut [] s.sys.dev
    t.sys.dev) ∧
  (∀ (s : State) (a : Accessor) (f : Fin 64) (v : Word), s.sys.dev.quiet → a ≠ .sp → writeKind s.sys.dev (accIx a)
    (0x900C + 0x20 * f.val) v.toNat = 0 → ∃ t : State, exec (.registerWrite a true (BitVec.ofNat 16 (0x900C + 0x20 *
    f.val)) v) s = .next t ∧ t.pending = s.pending ∧ t.sys.dev.rd FU_WSEL f.val = v.toNat % 16 ∧ (t.sys.dev.staged.any
    (fun y => y.reg.id == FU_TMAX.id && y.ix == f.val && y.val == v.toNat / 256 % 256)) = true ∧ KeepsBut [(FU_WSEL,
    f.val)] s.sys.dev t.sys.dev) ∧
  (∀ (s : State) (a : Accessor), s.sys.dev.quiet → a ≠ .sp → writeKind s.sys.dev (accIx a) 0x9810 1 = 0 → ∃ t : State,
    exec (.registerWrite a true 0x9810 1) s = .next t ∧ t.pending = s.pending ∧ (t.sys.dev.host.dq.any (fun y => y.reg
    == some (accIx a, 0x9810, 1))) = true ∧ t.sys.dev.host.dq.length = s.sys.dev.host.dq.length + 1 ∧ KeepsBut []
    s.sys.dev t.sys.dev ∧ t.sys.dev.staged = s.sys.dev.staged) ∧
  (∀ (s : State) (a : Accessor) (v : Word), s.sys.dev.quiet → a ≠ .sp → writeKind s.sys.dev (accIx a) 0x0808 v.toNat = 0
    → ∃ t : State, exec (.registerWrite a true 0x0808 v) s = .next t ∧ t.pending = s.pending ∧ KeepsBut [] s.sys.dev
    t.sys.dev ∧ t.sys.dev.staged = s.sys.dev.staged ∧ t.sys.dev.host = s.sys.dev.host) ∧
  (∀ (s : State) (v : Word), s.sys.dev.quiet → writeKind s.sys.dev 1 0x100C v.toNat = 0 → s.sys.dev.pw.entry = 0 →
    (v.toNat % 65536 + 65536 - s.sys.dev.rd HQ_CQ_IDX_CI 1) % 65536 ≤ hqSize s.sys.dev 1 0 → ∃ t : State, exec
    (.registerWrite .pb true 0x100C v) s = .next t ∧ t.pending = s.pending ∧ t.sys.dev.rd HQ_CQ_IDX_PI 1 = v.toNat %
    65536 ∧ KeepsBut [(HQ_CQ_IDX_PI, 1)] s.sys.dev t.sys.dev)

/-- RC_READ, LL_READ and REGISTER_READ_BUS_ERROR (R15, R16, R305, R423, R425, R432): a read of a word answers its
value, clears its RC fields and no other, or no field at all through a view of the other endpoint; a read of a
location that is not there, and one of another width or alignment, is a bus error of its kind. -/
def Obligations.RegisterReadsActByAccess : Prop :=
  (∀ (s : State) (a : Accessor) (ofs : BitVec 16), s.sys.dev.quiet → ofs.toNat % 4 = 0 → wordThere s.sys.dev (accIx a)
    ofs.toNat = true → specialRead ofs.toNat = false → (llPairs.any (fun p => p.1 == ofs.toNat)) = false → ∃ t :
    State, exec (.rcRead a ofs) s = .next t ∧ t.pending = s.pending ∧ t.sys.dev.out.getLast? = some (.readData (accIx
    a) ofs.toNat (readWord s.sys (accIx a) ofs.toNat).1) ∧ ((wordFields (accIx a) ofs.toNat).all (fun f => f.1.acc !=
    .rc || (wordView (accIx a) ofs.toNat).view || t.sys.dev.rd f.1 f.2 == 0)) = true ∧ KeepsBut ((wordFields (accIx a)
    ofs.toNat).filter (fun f => f.1.acc == .rc && !(wordView (accIx a) ofs.toNat).view)) s.sys.dev t.sys.dev ∧
    t.sys.nv = s.sys.nv ∧ t.sys.ph = s.sys.ph) ∧
  (∀ (s : State) (a : Accessor), s.sys.dev.quiet → wordThere s.sys.dev (accIx a) 0x0844 = true → ∃ t : State, exec
    (.rcRead a 0x0844) s = .next t ∧ t.pending = s.pending ∧ t.sys.dev.fl TB_EVT_MISS = false ∧ t.sys.dev.fl
    TB_EVT_OUTLIER = false ∧ t.sys.dev.fl TB_EVT_HOLDOVER = false ∧ bitOf (readWord s.sys (accIx a) 0x0844).1
    TB_EVT_MISS.lo = s.sys.dev.fl TB_EVT_MISS ∧ bitOf (readWord s.sys (accIx a) 0x0844).1 TB_EVT_OUTLIER.lo =
    s.sys.dev.fl TB_EVT_OUTLIER ∧ t.sys.dev.out.getLast? = some (.readData (accIx a) 0x0844 (readWord s.sys (accIx a)
    0x0844).1)) ∧
  (∀ (s : State) (a : Accessor) (ofs : BitVec 16), s.sys.dev.quiet → a ≠ .sp → ∃ t : State, exec (.registerReadBusError
    a ofs false) s = .next t ∧ t.pending = s.pending ∧ t.sys.dev.rd IN_BERR_OFS_KIND = 1 ∧ t.sys.dev.rd
    IN_BERR_OFS_OFS = ofs.toNat ∧ t.sys.dev.fl IN_BUSERR_WIDTH = true ∧ t.sys.dev.fl IN_BUSERR_READ = true ∧
    t.sys.dev.rd IN_BERR_CNT = incSat IN_BERR_CNT.w (s.sys.dev.rd IN_BERR_CNT) ∧ KeepsBut busErrFields s.sys.dev
    t.sys.dev) ∧
  (∀ (s : State) (a : Accessor) (ofs : BitVec 16), s.sys.dev.quiet → a ≠ .sp → (ofs.toNat % 4 ≠ 0 ∨ wordThere s.sys.dev
    (accIx a) ofs.toNat = false) → ∃ t : State, exec (.registerReadBusError a ofs true) s = .next t ∧ t.pending =
    s.pending ∧ t.sys.dev.rd IN_BERR_OFS_KIND = (if ofs.toNat % 4 ≠ 0 then 1 else 2) ∧ t.sys.dev.rd IN_BERR_OFS_OFS =
    ofs.toNat ∧ t.sys.dev.fl IN_BUSERR_READ = true ∧ KeepsBut busErrFields s.sys.dev t.sys.dev ∧ t.sys.nv = s.sys.nv)

/-- R433: a read of an LL field returns the low word and copies the companion high word into the reading accessor's
shadow for that pair alone; a read of the LH field returns that shadow and leaves it as it is; after a device reset
every shadow reads 0. -/
def Obligations.PairedReadsLatchTheirHighWord : Prop :=
  (∀ (s : State) (a : Accessor) (p : Nat × Reg × Reg), s.sys.dev.quiet → p ∈ llPairs → wordThere s.sys.dev (accIx a) p.1
    = true → ∃ t : State, exec (.llRead a (BitVec.ofNat 16 p.1)) s = .next t ∧ t.pending = s.pending ∧
    t.sys.dev.out.getLast? = some (.readData (accIx a) p.1 (llValue s.sys.dev (accIx a) p.2.1 % 2 ^ 32)) ∧
    t.sys.dev.rd p.2.2 (accIx a) = llValue s.sys.dev (accIx a) p.2.1 / 2 ^ 32 % 2 ^ 32 ∧ KeepsBut [(p.2.2, accIx a)]
    s.sys.dev t.sys.dev) ∧
  (∀ (s : State) (a : Accessor) (p : Nat × Reg × Reg), s.sys.dev.quiet → p ∈ llPairs → wordThere s.sys.dev (accIx a)
    (p.1 + 4) = true → ∃ t : State, exec (.llRead a (BitVec.ofNat 16 (p.1 + 4))) s = .next t ∧ t.pending = s.pending ∧
    t.sys.dev.out.getLast? = some (.readData (accIx a) (p.1 + 4) (s.sys.dev.rd p.2.2 (accIx a))) ∧ KeepsBut []
    s.sys.dev t.sys.dev) ∧
  (∀ (s : State), ∃ t : State, exec (.resetNAssert) s = .next t ∧ t.pending = s.pending ∧ (∀ p ∈ llPairs, ∀ k : Fin 4,
    t.sys.dev.rd p.2.2 k.val = 0))

/-- What a step is (R28, model): with a command at the front of the queue, step is exec of that command on the state
with the queue's rest; on an empty queue the block idles (the model's choice, log entry 2). -/
def Obligations.StepRunsTheFrontCommand : Prop :=
  (∀ (c : Instr) (q : List Instr) (s : State), step { s with pending := c :: q } = exec c { s with pending := q }) ∧
  (∀ s : State, s.pending = [] → step s = .next s)

/-- Every command answers a next state in every state, with the queue as it was (the model's rule: R28 gives every
command an effect or an answer, and none stops the device). -/
def Obligations.EveryCommandCompletes : Prop :=
  ∀ (c : Instr) (s : State), ∃ t : State, exec c s = .next t ∧ t.pending = s.pending

/-- An invariant: a step from a state whose store and pigeonhole window are in canonical form answers a state in which
they are. The form is the model's (log entry 3); the store is that of R340 and the window that of R301. -/
def Obligations.SoundnessIsKept : Prop :=
  ∀ s t : State, s.sound → step s = .next t → t.sound

/-- The machine right after reset has both memories in canonical form, with nothing listed, and no command waits (log
entries 2 and 3). -/
def Obligations.ResetIsSound : Prop :=
  State.reset.sound ∧ State.reset.pending = [] ∧ State.reset.sys.nv = [] ∧ State.reset.sys.ph = []

/-- The reset column of the register tables of the time base, bus, shelf, fuses, sequencer, governor, telemetry,
thermal unit, host rings, recorder, two-wire ports and service port: every field with a reset value other than 0 holds
it at State.reset, in every element; the state machines stand in FREE, DOWN, OFF and IDLE, which the tables code as 0.
-/
def Obligations.ResetLeavesTheTableValues : Prop :=
  (∀ f ∈ resetValues, ∀ ix < f.2.1, State.reset.sys.dev.rd f.1 ix = f.2.2) ∧
  (∀ ix < 64, State.reset.sys.dev.rd HQ_PH_AREA ix = if ix < 48 then 0 else if ix < 56 then 1 else 2) ∧
  [0, 1, 2].map (fun ix => State.reset.sys.dev.rd TH_RATE_W ix) = [10, 14, 20] ∧
  [0, 1, 2].map (fun ix => State.reset.sys.dev.rd TH_RATE_RLIM ix) = [2000, 500, 50] ∧
  State.reset.sys.dev.rd TB_STATUS_LOCK = 0 ∧ State.reset.sys.dev.rd TB_TICK = 0 ∧
  State.reset.sys.dev.rd SQ_STATUS_STATE = 0 ∧
  State.reset.sys.dev.rd BS_STATUS_STATE = 0 ∧ (∀ ix < 64, State.reset.sys.dev.rd FU_STATUS_STATE ix = 0)

/-- The frame of memory: a command that is not among those that write hole memory (R301) leaves every byte of the
pigeonhole window as it was, and one that is not among those that write the store (R340) leaves every byte of the
store as it was: as they were before the step, or as the work that the tick still had to do before the step left them
(queued commands of the dispatcher, R28). -/
def Obligations.MemoriesAreKept : Prop :=
  ∀ (c : Instr) (s t : State), exec c s = .next t →
    ∃ b ∈ [s.sys, s.atCommands, s.atTimers],
      (writesHoles c = false → ∀ a : Nat, Mem.rd t.sys.ph a = Mem.rd b.ph a) ∧
      (writesStore c = false → ∀ a : Nat, Mem.rd t.sys.nv a = Mem.rd b.nv a)

/-- R53: a tick advances the postmark by 1000 nanoseconds, in each of which the rate word is added to the 32-bit
fraction, a carry adding one count and a borrow suppressing one; the rate word stays within ±858,993, so that
successive tick-edge postmarks differ by 999, 1000 or 1001 ns apart from a forward step. -/
def Obligations.PostmarkAdvancesByTheRate : Prop :=
  (∀ (pm frac : Nat) (rate : Int), frac < 2 ^ 32 → -858993 ≤ rate → rate ≤ 858993 → pmAdvance pm frac rate = Nat.iterate
    (nsStep rate) 1000 (pm, frac) ∧ (pmAdvance pm frac rate).2 < 2 ^ 32 ∧ pm + 999 ≤ (pmAdvance pm frac rate).1 ∧
    (pmAdvance pm frac rate).1 ≤ pm + 1001) ∧
  (∀ (s : State) (p : Pins), s.sys.dev.live = true → s.sys.dev.tb.run = true → s.sys.dev.tb.frameOpen = false →
    s.ended.dev.rd TB_FRAME_POS ≠ 999 → s.ended.dev.tb.frac < 2 ^ 32 → -rateMax ≤ s.ended.dev.rdS TB_RATE →
    s.ended.dev.rdS TB_RATE ≤ rateMax → ∃ t : State, exec (.tickEdge p) s = .next t ∧ t.pending = s.pending ∧ ∃ e :
    Dev, t.sys = (if (feclrApply (boundaryApply e false)).live then phaseA p
    { s.ended with dev := feclrApply (boundaryApply e false) } else
    { s.ended with dev := feclrApply (boundaryApply e false) }) ∧ e.tb.pm = (Nat.iterate (nsStep (s.ended.dev.rdS
    TB_RATE)) 1000 (s.ended.dev.tb.pm, s.ended.dev.tb.frac)).1 + s.ended.dev.tb.stepNext ∧ e.tb.frac = (Nat.iterate
    (nsStep (s.ended.dev.rdS TB_RATE)) 1000 (s.ended.dev.tb.pm, s.ended.dev.tb.frac)).2) ∧
  (∀ (s : State) (pm : Word64), s.sys.dev.quiet → s.sys.dev.rd TB_CTRL_SYNC_MODE ≠ 0 → -rateMax ≤ s.sys.dev.rdS TB_FREQ
    → s.sys.dev.rdS TB_FREQ ≤ rateMax → (∀ r ∈ s.sys.dev.tb.rateNext, -rateMax ≤ r ∧ r ≤ rateMax) → ∃ t : State, exec
    (.syncCapture pm) s = .next t ∧ t.pending = s.pending ∧ -rateMax ≤ t.sys.dev.rdS TB_FREQ ∧ t.sys.dev.rdS TB_FREQ ≤
    rateMax ∧ (∀ r ∈ t.sys.dev.tb.rateNext, -rateMax ≤ r ∧ r ≤ rateMax))

/-- R57: for each capture c the target t is the multiple of TB_SYNC_PERIOD nearest to c, and the offset e = c − t lies
in −period/2 < e ≤ +period/2; e is positive where the postmark runs ahead of the target. -/
def Obligations.CaptureOffsetsAreNearest : Prop :=
  ∀ c period : Nat, 0 < period → ∃ t : Int,
    syncOffset c period = (c : Int) - t * period ∧
    (∀ u : Int, ((c : Int) - t * period).natAbs ≤ ((c : Int) - u * period).natAbs) ∧
    -(period : Int) < 2 * syncOffset c period ∧ 2 * syncOffset c period ≤ period

/-- R28, stated for a command bit and for a host command: a command that arrives where 32 have been handed over in the
tick, or where another waits, joins the queue of the dispatcher with nothing else changed from what the tick did
before it; one that arrives after the edge of the next tick is open joins the queue for that tick (R46). -/
def Obligations.CommandsWaitTheirTurn : Prop :=
  (∀ (s : State) (a : Accessor), s.sys.dev.live = true → s.sys.dev.tb.frameOpen = false → (32 ≤
    s.atCommands.dev.tb.handed ∨ dispNext s.atCommands.dev ≠ none) → a ≠ .sp → writeKind s.sys.dev (accIx a) 0x9810 1
    = 0 → ∃ t : State, exec (.sqCmdOn a) s = .next t ∧ t.pending = s.pending ∧ t.sys = s.atCommands.on (dispatchAdd
    (wordItem a 0x9810 1 s.atCommands.dev)) ∧ KeepsBut [] s.atCommands.dev t.sys.dev ∧ (∃ l r : List DispItem,
    t.sys.dev.host.dq = l ++ wordItem a 0x9810 1 s.atCommands.dev :: r ∧ s.atCommands.dev.host.dq = l ++ r)) ∧
  (∀ (s : State) (a : Accessor), s.sys.dev.live = true → s.sys.dev.tb.frameOpen = true → a ≠ .sp → writeKind s.sys.dev
    (accIx a) 0x9810 1 = 0 → ∃ t : State, exec (.sqCmdOn a) s = .next t ∧ t.pending = s.pending ∧ t.sys = s.sys.on
    (dispatchAdd (wordItem a 0x9810 1 s.sys.dev)) ∧ KeepsBut [] s.sys.dev t.sys.dev) ∧
  (∀ (s : State) (h : Sender) (n : Byte), s.sys.dev.live = true → s.sys.dev.tb.frameOpen = false → (32 ≤
    s.atCommands.dev.tb.handed ∨ dispNext s.atCommands.dev ≠ none) → ∃ t : State, exec (.railOn h n) s = .next t ∧
    t.pending = s.pending ∧ t.sys = s.atCommands.on (dispatchAdd (hostItem 0x0101 h [(16, [n.toNat])] .fine
    s.atCommands.dev)) ∧ KeepsBut [] s.atCommands.dev t.sys.dev ∧ (∃ l r : List DispItem, t.sys.dev.host.dq = l ++
    hostItem 0x0101 h [(16, [n.toNat])] .fine s.atCommands.dev :: r ∧ s.atCommands.dev.host.dq = l ++ r)) ∧
  (∀ (s : State) (h : Sender) (n : Byte), s.sys.dev.live = true → s.sys.dev.tb.frameOpen = true → ∃ t : State, exec
    (.railOn h n) s = .next t ∧ t.pending = s.pending ∧ t.sys = s.sys.on (dispatchAdd (hostItem 0x0101 h [(16,
    [n.toNat])] .fine s.sys.dev)) ∧ KeepsBut [] s.sys.dev t.sys.dev)
end

