-- ==== Sys2Proof/Laws/Table.lean ====
section
/-! SUPPORT. Laws of sparse tables: what a key holds after a write, and that every operation keeps the canonical form. -/

namespace Sys2Proof.Machine

variable {α : Type}

/-- After an erasure the key holds the default, and every other key what it held. -/
theorem Tbl.get_erase (d : α) (t : Tbl α) (k k' : Nat) :
    Tbl.get d (Tbl.erase t k) k' = if k' = k then d else Tbl.get d t k' := by
  unfold Tbl.erase
  induction t with
  | nil => simp [Tbl.get]
  | cons e r ih =>
    obtain ⟨a, v⟩ := e
    by_cases h : a = k
    · subst h
      simp only [List.filter_cons, bne_self_eq_false, Bool.false_eq_true, if_false, ih, Tbl.get]
      by_cases h' : k' = a
      · simp [h']
      · simp [h', Ne.symm h']
    · have h1 : (a != k) = true := by simpa using h
      simp only [List.filter_cons, h1, if_true, Tbl.get, ih]
      by_cases h' : a = k'
      · subst h'; simp [h]
      · simp [h']

/-- An inserted key holds its value, and every other key what it held. -/
theorem Tbl.get_ins (d : α) (t : Tbl α) (k k' : Nat) (v : α) (h : ∀ e ∈ t, e.1 ≠ k) :
    Tbl.get d (Tbl.ins t k v) k' = if k' = k then v else Tbl.get d t k' := by
  induction t with
  | nil => simp only [Tbl.ins, Tbl.get, eq_comm]
  | cons e r ih =>
    obtain ⟨a, w⟩ := e
    have hr : ∀ e ∈ r, e.1 ≠ k := fun e he => h e (List.mem_cons_of_mem _ he)
    have ha : a ≠ k := h (a, w) (List.mem_cons_self ..)
    simp only [Tbl.ins]
    split
    · simp only [Tbl.get, eq_comm]
    · simp only [Tbl.get, ih hr]
      by_cases h' : a = k'
      · subst h'; simp [ha]
      · simp [h']

/-- No entry of a table from which `k` was erased has the key `k`. -/
theorem Tbl.erase_ne (t : Tbl α) (k : Nat) : ∀ e ∈ Tbl.erase t k, e.1 ≠ k := by
  intro e he
  have := (List.mem_filter.mp he).2
  simpa using this

variable [DecidableEq α]

/-- A read after a write: the written key gives the value, every other key what it gave. -/
theorem Tbl.get_set (d : α) (t : Tbl α) (k k' : Nat) (v : α) :
    Tbl.get d (Tbl.set d t k v) k' = if k' = k then v else Tbl.get d t k' := by
  unfold Tbl.set
  split
  · rename_i h; subst h; exact Tbl.get_erase ..
  · rw [Tbl.get_ins _ _ _ _ _ (Tbl.erase_ne t k), Tbl.get_erase]
    by_cases h' : k' = k <;> simp [h']

/-- The written key gives the value. -/
@[simp] theorem Tbl.get_set_same (d : α) (t : Tbl α) (k : Nat) (v : α) : Tbl.get d (Tbl.set d t k v) k = v := by
  simp [Tbl.get_set]

/-- Another key gives what it gave, whatever the default of the read. -/
theorem Tbl.get_set_ne (d d' : α) (t : Tbl α) {k k' : Nat} (v : α) (h : k' ≠ k) :
    Tbl.get d (Tbl.set d' t k v) k' = Tbl.get d t k' := by
  unfold Tbl.set
  split
  · simp [Tbl.get_erase, h]
  · rw [Tbl.get_ins _ _ _ _ _ (Tbl.erase_ne t k), Tbl.get_erase]
    simp [h]

/-- The canonical form in the words of list order. -/
theorem Tbl.wf_iff (d : α) (t : Tbl α) :
    Tbl.wf d t = true ↔ (∀ e ∈ t, e.2 ≠ d) ∧ t.Pairwise (fun a b => a.1 < b.1) := by
  induction t with
  | nil => simp [Tbl.wf]
  | cons e r ih =>
    cases r with
    | nil => simp [Tbl.wf]
    | cons e' r =>
      have ht : ∀ x ∈ r, (e' :: r).Pairwise (fun a b => a.1 < b.1) → e'.1 < x.1 := fun x hx hp =>
        (List.pairwise_cons.mp hp).1 x hx
      simp only [Tbl.wf, Bool.and_eq_true, decide_eq_true_eq, ih, List.mem_cons, forall_eq_or_imp]
      constructor
      · rintro ⟨⟨h1, h2⟩, ⟨h3, h4⟩, h5⟩
        refine ⟨⟨h1, h3, h4⟩, List.pairwise_cons.mpr ⟨?_, h5⟩⟩
        intro x hx
        rcases List.mem_cons.mp hx with rfl | hx
        · exact h2
        · exact h2.trans (ht x hx h5)
      · rintro ⟨⟨h1, h3, h4⟩, h5⟩
        obtain ⟨h6, h7⟩ := List.pairwise_cons.mp h5
        exact ⟨⟨h1, h6 e' (List.mem_cons_self ..)⟩, ⟨h3, h4⟩, h7⟩

/-- The empty table is canonical. -/
@[simp] theorem Tbl.wf_nil (d : α) : Tbl.wf d ([] : Tbl α) = true := rfl

/-- A filtered canonical table is canonical. -/
theorem Tbl.wf_filter (d : α) (t : Tbl α) (p : Nat × α → Bool) (h : Tbl.wf d t = true) :
    Tbl.wf d (t.filter p) = true := by
  rw [Tbl.wf_iff] at h ⊢
  exact ⟨fun e he => h.1 e (List.mem_filter.mp he).1, h.2.filter _⟩

/-- An erasure keeps the canonical form. -/
theorem Tbl.wf_erase (d : α) (t : Tbl α) (k : Nat) (h : Tbl.wf d t = true) : Tbl.wf d (Tbl.erase t k) = true :=
  Tbl.wf_filter d t _ h

/-- The entries of a table after an insertion. -/
theorem Tbl.mem_ins (t : Tbl α) (k : Nat) (v : α) (e : Nat × α) : e ∈ Tbl.ins t k v ↔ e = (k, v) ∨ e ∈ t := by
  induction t with
  | nil => simp [Tbl.ins]
  | cons x r ih =>
    obtain ⟨a, w⟩ := x
    simp only [Tbl.ins]
    split
    · simp
    · simp only [List.mem_cons, ih]; tauto

/-- An insertion of a new key with a value other than the default keeps the canonical form. -/
theorem Tbl.wf_ins (d : α) (t : Tbl α) (k : Nat) (v : α) (hv : v ≠ d) (hk : ∀ e ∈ t, e.1 ≠ k)
    (h : Tbl.wf d t = true) : Tbl.wf d (Tbl.ins t k v) = true := by
  rw [Tbl.wf_iff] at h ⊢
  obtain ⟨h1, h2⟩ := h
  refine ⟨fun e he => ?_, ?_⟩
  · rcases (Tbl.mem_ins t k v e).mp he with rfl | he
    · exact hv
    · exact h1 e he
  · clear h1
    induction t with
    | nil => simp [Tbl.ins]
    | cons x r ih =>
      obtain ⟨a, w⟩ := x
      obtain ⟨h3, h4⟩ := List.pairwise_cons.mp h2
      have ha : a ≠ k := hk (a, w) (List.mem_cons_self ..)
      simp only [Tbl.ins]
      split
      · rename_i hlt
        refine List.pairwise_cons.mpr ⟨fun y hy => ?_, h2⟩
        rcases List.mem_cons.mp hy with rfl | hy
        · exact hlt
        · exact hlt.trans (h3 y hy)
      · rename_i hlt
        refine List.pairwise_cons.mpr ⟨fun y hy => ?_, ih (fun e he => hk e (List.mem_cons_of_mem _ he)) h4⟩
        rcases (Tbl.mem_ins r k v y).mp hy with rfl | hy
        · exact lt_of_le_of_ne (not_lt.mp hlt) ha
        · exact h3 y hy

/-- A write keeps the canonical form. -/
theorem Tbl.wf_set (d : α) (t : Tbl α) (k : Nat) (v : α) (h : Tbl.wf d t = true) : Tbl.wf d (Tbl.set d t k v) = true := by
  unfold Tbl.set
  split
  · exact Tbl.wf_erase d t k h
  · rename_i hv
    exact Tbl.wf_ins d _ k v hv (Tbl.erase_ne t k) (Tbl.wf_erase d t k h)

end Sys2Proof.Machine
end

