-- ==== Sys2Proof/Laws/Regs.lean ====
section
/-! SUPPORT. Laws of the register file: what a field reads after a write, an event bit, an alert or a record, and which
parts of the device these operations leave. A condition `r'.id ≠ r.id` between two named fields is closed by `decide`. -/

namespace Sys2Proof.Machine
open R

/-! ### Writes of a field -/

/-- A field reads within its width. -/
theorem Dev.rd_lt (d : Dev) (r : Reg) (ix : Nat) : d.rd r ix < 2 ^ r.w := Nat.mod_lt _ (Nat.two_pow_pos _)

/-- Cutting a field's value to its width changes nothing. -/
@[simp] theorem Dev.rd_mod (d : Dev) (r : Reg) (ix : Nat) : d.rd r ix % 2 ^ r.w = d.rd r ix :=
  Nat.mod_eq_of_lt (d.rd_lt r ix)

/-- The written element reads as the value, cut to the field's width. -/
@[simp] theorem Dev.rd_wr (d : Dev) (r : Reg) (ix v : Nat) : (d.wr r ix v).rd r ix = v % 2 ^ r.w := by
  simp [Dev.rd, Dev.wr, Tbl.upd]

/-- Another element of the field reads as before. -/
theorem Dev.rd_wr_ix (d : Dev) (r : Reg) {ix ix' : Nat} (v : Nat) (h : ix' ≠ ix) : (d.wr r ix v).rd r ix' = d.rd r ix' := by
  simp [Dev.rd, Dev.wr, Tbl.upd, Tbl.get_set_ne _ _ _ _ h]

/-- Another field reads as before. -/
theorem Dev.rd_wr_ne (d : Dev) {r r' : Reg} (ix ix' v : Nat) (h : r'.id ≠ r.id) : (d.wr r ix v).rd r' ix' = d.rd r' ix' := by
  simp [Dev.rd, Dev.wr, Tbl.upd, Tbl.get_set_ne _ _ _ _ h]

/-- Every element but the written one reads as before. -/
theorem Dev.rd_wr_out (d : Dev) {r r' : Reg} {ix ix' : Nat} (v : Nat) (h : r'.id ≠ r.id ∨ ix' ≠ ix) :
    (d.wr r ix v).rd r' ix' = d.rd r' ix' := by
  by_cases hr : r'.id = r.id
  · have hx : ix' ≠ ix := h.resolve_left (fun n => n hr)
    simp [Dev.rd, Dev.wr, Tbl.upd, hr, Tbl.get_set_ne _ _ _ _ hx]
  · exact Dev.rd_wr_ne d ix ix' v hr

/-- A one-bit field reads as the truth value written. -/
theorem Dev.fl_wrB (d : Dev) (r : Reg) (ix : Nat) (b : Bool) (h : r.w = 1) : (d.wrB r ix b).fl r ix = b := by
  cases b <;> simp [Dev.fl, Dev.wrB, h]

/-- The flag of another field stands. -/
theorem Dev.fl_wr_ne (d : Dev) {r r' : Reg} (ix ix' v : Nat) (h : r'.id ≠ r.id) : (d.wr r ix v).fl r' ix' = d.fl r' ix' := by
  simp [Dev.fl, Dev.rd_wr_ne _ _ _ _ h]

/-- A cleared field reads as its reset value. -/
@[simp] theorem Dev.rd_clrReg (d : Dev) (r : Reg) (ix : Nat) : (d.clrReg r).rd r ix = r.rstAt ix % 2 ^ r.w := by
  simp [Dev.rd, Dev.clrReg, Tbl.get_erase, Tbl.get]

/-- Clearing a field leaves every other. -/
theorem Dev.rd_clrReg_ne (d : Dev) {r r' : Reg} (ix : Nat) (h : r'.id ≠ r.id) : (d.clrReg r).rd r' ix = d.rd r' ix := by
  simp [Dev.rd, Dev.clrReg, Tbl.get_erase, h]

/-! ### Event bits and alerts -/

/-- The event bit reads 1. -/
theorem Dev.fl_ev (d : Dev) (r : Reg) (ix : Nat) (h : r.w = 1) : (d.ev r ix).fl r ix = true := by
  unfold Dev.ev
  split
  · assumption
  · simp only [Dev.fl]
    have : ({ d.wr r ix 1 with rise := setBit d.rise (causeOf r ix) true } : Dev).rd r ix = (d.wr r ix 1).rd r ix := rfl
    rw [this]; simp [h]

/-- The event bit reads 1 wherever it was 0. -/
theorem Dev.rd_ev (d : Dev) (r : Reg) (ix : Nat) (h : r.w = 1) :
    (d.ev r ix).rd r ix = if d.rd r ix = 0 then 1 else d.rd r ix := by
  unfold Dev.ev Dev.fl
  by_cases hz : d.rd r ix = 0
  · simp only [hz, bne_self_eq_false, Bool.false_eq_true, if_false, if_true]
    show (d.wr r ix 1).rd r ix = 1
    simp [h]
  · simp [hz]

/-- Every other field reads as before. -/
theorem Dev.rd_ev_ne (d : Dev) {r r' : Reg} (ix ix' : Nat) (h : r'.id ≠ r.id) : (d.ev r ix).rd r' ix' = d.rd r' ix' := by
  unfold Dev.ev
  split
  · rfl
  · exact Dev.rd_wr_ne d ix ix' 1 h

/-- The same element of another index reads as before. -/
theorem Dev.rd_ev_ix (d : Dev) (r : Reg) {ix ix' : Nat} (h : ix' ≠ ix) : (d.ev r ix).rd r ix' = d.rd r ix' := by
  unfold Dev.ev
  split
  · rfl
  · exact Dev.rd_wr_ix d r 1 h

/-- Every element but the event bit reads as before. -/
theorem Dev.rd_ev_out (d : Dev) {r r' : Reg} {ix ix' : Nat} (h : r'.id ≠ r.id ∨ ix' ≠ ix) :
    (d.ev r ix).rd r' ix' = d.rd r' ix' := by
  unfold Dev.ev
  split
  · rfl
  · exact Dev.rd_wr_out d 1 h

/-- Every field but the alert cause and TW_STATUS.TWB_ALERT reads as before an alert. -/
theorem Dev.rd_alert_ne (d : Dev) {r r' : Reg} (ix : Nat) (h : r'.id ≠ r.id) (h' : r'.id ≠ TW_STATUS_TWB_ALERT.id) :
    (d.alert r).rd r' ix = d.rd r' ix := by
  unfold Dev.alert
  dsimp only
  split
  · rfl
  · split
    · rw [Dev.rd_wr_ne _ _ _ _ h', Dev.rd_wr_ne _ _ _ _ h]
    · rw [Dev.rd_wr_ne _ _ _ _ h]

/-! ### Records -/

/-- The fields that the recorder's input queue writes. -/
def recIds : List Nat := [EV_QREF.id, EV_EVT_QREF.id, EV_SUPP.id, EV_EVT_SUPP.id]

/-- A refused entry writes no field outside `recIds`. -/
theorem rd_refuseEnt (d : Dev) (r : Reg) (ix : Nat) (h : r.id ∉ recIds) : (refuseEnt d).rd r ix = d.rd r ix := by
  simp only [recIds, List.mem_cons, List.not_mem_nil, or_false, not_or] at h
  show ((d.inc EV_QREF).ev EV_EVT_QREF).rd r ix = d.rd r ix
  rw [Dev.rd_ev_ne _ _ _ h.2.1, Dev.inc, Dev.rd_wr_ne _ _ _ _ h.1]

/-- An entry that joins the queue writes no field outside `recIds`. -/
theorem rd_joinEnt (d : Dev) (e : Ent) (r : Reg) (ix : Nat) (h : r.id ∉ recIds) : (joinEnt d e).rd r ix = d.rd r ix := by
  have hs := h
  simp only [recIds, List.mem_cons, List.not_mem_nil, or_false, not_or] at hs
  unfold joinEnt
  dsimp only
  split
  · unfold joinHw
    split
    · rfl
    · split
      · exact rd_refuseEnt d r ix h
      · rfl
  · unfold joinLimited
    dsimp only
    split
    · show ((Dev.inc _ EV_SUPP).ev EV_EVT_SUPP).rd r ix = d.rd r ix
      rw [Dev.rd_ev_ne _ _ _ hs.2.2.2, Dev.inc, Dev.rd_wr_ne _ _ _ _ hs.2.2.1]; rfl
    · split
      · rw [rd_refuseEnt _ r ix h]; rfl
      · rfl

/-- A record writes no field outside `recIds`. -/
theorem Dev.rd_recAt (d : Dev) (pm code cls src : Nat) (pay : List Nat) (r : Reg) (ix : Nat) (h : r.id ∉ recIds) :
    (d.recAt pm code cls src pay).rd r ix = d.rd r ix := rd_joinEnt d _ r ix h

/-- A record of the tick in hand writes no field outside `recIds`. -/
theorem Dev.rd_recd (d : Dev) (code cls src : Nat) (pay : List Nat) (r : Reg) (ix : Nat) (h : r.id ∉ recIds) :
    (d.recd code cls src pay).rd r ix = d.rd r ix := rd_joinEnt d _ r ix h

/-! ### What these operations leave -/

@[simp] theorem Dev.wr_staged (d : Dev) (r : Reg) (ix v : Nat) : (d.wr r ix v).staged = d.staged := rfl
@[simp] theorem Dev.wrB_staged (d : Dev) (r : Reg) (ix : Nat) (b : Bool) : (d.wrB r ix b).staged = d.staged := rfl
@[simp] theorem Dev.inc_staged (d : Dev) (r : Reg) (ix : Nat) : (d.inc r ix).staged = d.staged := rfl
@[simp] theorem Dev.clrReg_staged (d : Dev) (r : Reg) : (d.clrReg r).staged = d.staged := rfl
@[simp] theorem Dev.wr_freeCtr (d : Dev) (r : Reg) (ix v : Nat) : (d.wr r ix v).freeCtr = d.freeCtr := rfl
@[simp] theorem Dev.wrB_freeCtr (d : Dev) (r : Reg) (ix : Nat) (b : Bool) : (d.wrB r ix b).freeCtr = d.freeCtr := rfl
@[simp] theorem Dev.inc_freeCtr (d : Dev) (r : Reg) (ix : Nat) : (d.inc r ix).freeCtr = d.freeCtr := rfl
@[simp] theorem Dev.clrReg_freeCtr (d : Dev) (r : Reg) : (d.clrReg r).freeCtr = d.freeCtr := rfl
@[simp] theorem Dev.wr_out (d : Dev) (r : Reg) (ix v : Nat) : (d.wr r ix v).out = d.out := rfl
@[simp] theorem Dev.wrB_out (d : Dev) (r : Reg) (ix : Nat) (b : Bool) : (d.wrB r ix b).out = d.out := rfl
@[simp] theorem Dev.inc_out (d : Dev) (r : Reg) (ix : Nat) : (d.inc r ix).out = d.out := rfl
@[simp] theorem Dev.clrReg_out (d : Dev) (r : Reg) : (d.clrReg r).out = d.out := rfl
@[simp] theorem Dev.wr_tfq (d : Dev) (r : Reg) (ix v : Nat) : (d.wr r ix v).tfq = d.tfq := rfl
@[simp] theorem Dev.wrB_tfq (d : Dev) (r : Reg) (ix : Nat) (b : Bool) : (d.wrB r ix b).tfq = d.tfq := rfl
@[simp] theorem Dev.inc_tfq (d : Dev) (r : Reg) (ix : Nat) : (d.inc r ix).tfq = d.tfq := rfl
@[simp] theorem Dev.clrReg_tfq (d : Dev) (r : Reg) : (d.clrReg r).tfq = d.tfq := rfl
@[simp] theorem Dev.wr_tb (d : Dev) (r : Reg) (ix v : Nat) : (d.wr r ix v).tb = d.tb := rfl
@[simp] theorem Dev.wrB_tb (d : Dev) (r : Reg) (ix : Nat) (b : Bool) : (d.wrB r ix b).tb = d.tb := rfl
@[simp] theorem Dev.inc_tb (d : Dev) (r : Reg) (ix : Nat) : (d.inc r ix).tb = d.tb := rfl
@[simp] theorem Dev.clrReg_tb (d : Dev) (r : Reg) : (d.clrReg r).tb = d.tb := rfl
@[simp] theorem Dev.wr_ring (d : Dev) (r : Reg) (ix v : Nat) : (d.wr r ix v).ring = d.ring := rfl
@[simp] theorem Dev.wrB_ring (d : Dev) (r : Reg) (ix : Nat) (b : Bool) : (d.wrB r ix b).ring = d.ring := rfl
@[simp] theorem Dev.inc_ring (d : Dev) (r : Reg) (ix : Nat) : (d.inc r ix).ring = d.ring := rfl
@[simp] theorem Dev.clrReg_ring (d : Dev) (r : Reg) : (d.clrReg r).ring = d.ring := rfl
@[simp] theorem Dev.wr_ch (d : Dev) (r : Reg) (ix v : Nat) : (d.wr r ix v).ch = d.ch := rfl
@[simp] theorem Dev.wrB_ch (d : Dev) (r : Reg) (ix : Nat) (b : Bool) : (d.wrB r ix b).ch = d.ch := rfl
@[simp] theorem Dev.inc_ch (d : Dev) (r : Reg) (ix : Nat) : (d.inc r ix).ch = d.ch := rfl
@[simp] theorem Dev.clrReg_ch (d : Dev) (r : Reg) : (d.clrReg r).ch = d.ch := rfl
@[simp] theorem Dev.wr_le (d : Dev) (r : Reg) (ix v : Nat) : (d.wr r ix v).le = d.le := rfl
@[simp] theorem Dev.wrB_le (d : Dev) (r : Reg) (ix : Nat) (b : Bool) : (d.wrB r ix b).le = d.le := rfl
@[simp] theorem Dev.inc_le (d : Dev) (r : Reg) (ix : Nat) : (d.inc r ix).le = d.le := rfl
@[simp] theorem Dev.clrReg_le (d : Dev) (r : Reg) : (d.clrReg r).le = d.le := rfl
@[simp] theorem Dev.wr_vr (d : Dev) (r : Reg) (ix v : Nat) : (d.wr r ix v).vr = d.vr := rfl
@[simp] theorem Dev.wrB_vr (d : Dev) (r : Reg) (ix : Nat) (b : Bool) : (d.wrB r ix b).vr = d.vr := rfl
@[simp] theorem Dev.inc_vr (d : Dev) (r : Reg) (ix : Nat) : (d.inc r ix).vr = d.vr := rfl
@[simp] theorem Dev.clrReg_vr (d : Dev) (r : Reg) : (d.clrReg r).vr = d.vr := rfl
@[simp] theorem Dev.wr_ph (d : Dev) (r : Reg) (ix v : Nat) : (d.wr r ix v).ph = d.ph := rfl
@[simp] theorem Dev.wrB_ph (d : Dev) (r : Reg) (ix : Nat) (b : Bool) : (d.wrB r ix b).ph = d.ph := rfl
@[simp] theorem Dev.inc_ph (d : Dev) (r : Reg) (ix : Nat) : (d.inc r ix).ph = d.ph := rfl
@[simp] theorem Dev.clrReg_ph (d : Dev) (r : Reg) : (d.clrReg r).ph = d.ph := rfl
@[simp] theorem Dev.wr_bus (d : Dev) (r : Reg) (ix v : Nat) : (d.wr r ix v).bus = d.bus := rfl
@[simp] theorem Dev.wrB_bus (d : Dev) (r : Reg) (ix : Nat) (b : Bool) : (d.wrB r ix b).bus = d.bus := rfl
@[simp] theorem Dev.inc_bus (d : Dev) (r : Reg) (ix : Nat) : (d.inc r ix).bus = d.bus := rfl
@[simp] theorem Dev.clrReg_bus (d : Dev) (r : Reg) : (d.clrReg r).bus = d.bus := rfl
@[simp] theorem Dev.wr_bs (d : Dev) (r : Reg) (ix v : Nat) : (d.wr r ix v).bs = d.bs := rfl
@[simp] theorem Dev.wrB_bs (d : Dev) (r : Reg) (ix : Nat) (b : Bool) : (d.wrB r ix b).bs = d.bs := rfl
@[simp] theorem Dev.inc_bs (d : Dev) (r : Reg) (ix : Nat) : (d.inc r ix).bs = d.bs := rfl
@[simp] theorem Dev.clrReg_bs (d : Dev) (r : Reg) : (d.clrReg r).bs = d.bs := rfl
@[simp] theorem Dev.wr_fuse (d : Dev) (r : Reg) (ix v : Nat) : (d.wr r ix v).fuse = d.fuse := rfl
@[simp] theorem Dev.wrB_fuse (d : Dev) (r : Reg) (ix : Nat) (b : Bool) : (d.wrB r ix b).fuse = d.fuse := rfl
@[simp] theorem Dev.inc_fuse (d : Dev) (r : Reg) (ix : Nat) : (d.inc r ix).fuse = d.fuse := rfl
@[simp] theorem Dev.clrReg_fuse (d : Dev) (r : Reg) : (d.clrReg r).fuse = d.fuse := rfl
@[simp] theorem Dev.wr_grp (d : Dev) (r : Reg) (ix v : Nat) : (d.wr r ix v).grp = d.grp := rfl
@[simp] theorem Dev.wrB_grp (d : Dev) (r : Reg) (ix : Nat) (b : Bool) : (d.wrB r ix b).grp = d.grp := rfl
@[simp] theorem Dev.inc_grp (d : Dev) (r : Reg) (ix : Nat) : (d.inc r ix).grp = d.grp := rfl
@[simp] theorem Dev.clrReg_grp (d : Dev) (r : Reg) : (d.clrReg r).grp = d.grp := rfl
@[simp] theorem Dev.wr_ps (d : Dev) (r : Reg) (ix v : Nat) : (d.wr r ix v).ps = d.ps := rfl
@[simp] theorem Dev.wrB_ps (d : Dev) (r : Reg) (ix : Nat) (b : Bool) : (d.wrB r ix b).ps = d.ps := rfl
@[simp] theorem Dev.inc_ps (d : Dev) (r : Reg) (ix : Nat) : (d.inc r ix).ps = d.ps := rfl
@[simp] theorem Dev.clrReg_ps (d : Dev) (r : Reg) : (d.clrReg r).ps = d.ps := rfl
@[simp] theorem Dev.wr_seq (d : Dev) (r : Reg) (ix v : Nat) : (d.wr r ix v).seq = d.seq := rfl
@[simp] theorem Dev.wrB_seq (d : Dev) (r : Reg) (ix : Nat) (b : Bool) : (d.wrB r ix b).seq = d.seq := rfl
@[simp] theorem Dev.inc_seq (d : Dev) (r : Reg) (ix : Nat) : (d.inc r ix).seq = d.seq := rfl
@[simp] theorem Dev.clrReg_seq (d : Dev) (r : Reg) : (d.clrReg r).seq = d.seq := rfl
@[simp] theorem Dev.wr_gov (d : Dev) (r : Reg) (ix v : Nat) : (d.wr r ix v).gov = d.gov := rfl
@[simp] theorem Dev.wrB_gov (d : Dev) (r : Reg) (ix : Nat) (b : Bool) : (d.wrB r ix b).gov = d.gov := rfl
@[simp] theorem Dev.inc_gov (d : Dev) (r : Reg) (ix : Nat) : (d.inc r ix).gov = d.gov := rfl
@[simp] theorem Dev.clrReg_gov (d : Dev) (r : Reg) : (d.clrReg r).gov = d.gov := rfl
@[simp] theorem Dev.wr_tm (d : Dev) (r : Reg) (ix v : Nat) : (d.wr r ix v).tm = d.tm := rfl
@[simp] theorem Dev.wrB_tm (d : Dev) (r : Reg) (ix : Nat) (b : Bool) : (d.wrB r ix b).tm = d.tm := rfl
@[simp] theorem Dev.inc_tm (d : Dev) (r : Reg) (ix : Nat) : (d.inc r ix).tm = d.tm := rfl
@[simp] theorem Dev.clrReg_tm (d : Dev) (r : Reg) : (d.clrReg r).tm = d.tm := rfl
@[simp] theorem Dev.wr_th (d : Dev) (r : Reg) (ix v : Nat) : (d.wr r ix v).th = d.th := rfl
@[simp] theorem Dev.wrB_th (d : Dev) (r : Reg) (ix : Nat) (b : Bool) : (d.wrB r ix b).th = d.th := rfl
@[simp] theorem Dev.inc_th (d : Dev) (r : Reg) (ix : Nat) : (d.inc r ix).th = d.th := rfl
@[simp] theorem Dev.clrReg_th (d : Dev) (r : Reg) : (d.clrReg r).th = d.th := rfl
@[simp] theorem Dev.wr_mp (d : Dev) (r : Reg) (ix v : Nat) : (d.wr r ix v).mp = d.mp := rfl
@[simp] theorem Dev.wrB_mp (d : Dev) (r : Reg) (ix : Nat) (b : Bool) : (d.wrB r ix b).mp = d.mp := rfl
@[simp] theorem Dev.inc_mp (d : Dev) (r : Reg) (ix : Nat) : (d.inc r ix).mp = d.mp := rfl
@[simp] theorem Dev.clrReg_mp (d : Dev) (r : Reg) : (d.clrReg r).mp = d.mp := rfl
@[simp] theorem Dev.wr_host (d : Dev) (r : Reg) (ix v : Nat) : (d.wr r ix v).host = d.host := rfl
@[simp] theorem Dev.wrB_host (d : Dev) (r : Reg) (ix : Nat) (b : Bool) : (d.wrB r ix b).host = d.host := rfl
@[simp] theorem Dev.inc_host (d : Dev) (r : Reg) (ix : Nat) : (d.inc r ix).host = d.host := rfl
@[simp] theorem Dev.clrReg_host (d : Dev) (r : Reg) : (d.clrReg r).host = d.host := rfl
@[simp] theorem Dev.wr_au (d : Dev) (r : Reg) (ix v : Nat) : (d.wr r ix v).au = d.au := rfl
@[simp] theorem Dev.wrB_au (d : Dev) (r : Reg) (ix : Nat) (b : Bool) : (d.wrB r ix b).au = d.au := rfl
@[simp] theorem Dev.inc_au (d : Dev) (r : Reg) (ix : Nat) : (d.inc r ix).au = d.au := rfl
@[simp] theorem Dev.clrReg_au (d : Dev) (r : Reg) : (d.clrReg r).au = d.au := rfl
@[simp] theorem Dev.wr_commit (d : Dev) (r : Reg) (ix v : Nat) : (d.wr r ix v).commit = d.commit := rfl
@[simp] theorem Dev.wrB_commit (d : Dev) (r : Reg) (ix : Nat) (b : Bool) : (d.wrB r ix b).commit = d.commit := rfl
@[simp] theorem Dev.inc_commit (d : Dev) (r : Reg) (ix : Nat) : (d.inc r ix).commit = d.commit := rfl
@[simp] theorem Dev.clrReg_commit (d : Dev) (r : Reg) : (d.clrReg r).commit = d.commit := rfl
@[simp] theorem Dev.wr_up (d : Dev) (r : Reg) (ix v : Nat) : (d.wr r ix v).up = d.up := rfl
@[simp] theorem Dev.wrB_up (d : Dev) (r : Reg) (ix : Nat) (b : Bool) : (d.wrB r ix b).up = d.up := rfl
@[simp] theorem Dev.inc_up (d : Dev) (r : Reg) (ix : Nat) : (d.inc r ix).up = d.up := rfl
@[simp] theorem Dev.clrReg_up (d : Dev) (r : Reg) : (d.clrReg r).up = d.up := rfl
@[simp] theorem Dev.wr_tw (d : Dev) (r : Reg) (ix v : Nat) : (d.wr r ix v).tw = d.tw := rfl
@[simp] theorem Dev.wrB_tw (d : Dev) (r : Reg) (ix : Nat) (b : Bool) : (d.wrB r ix b).tw = d.tw := rfl
@[simp] theorem Dev.inc_tw (d : Dev) (r : Reg) (ix : Nat) : (d.inc r ix).tw = d.tw := rfl
@[simp] theorem Dev.clrReg_tw (d : Dev) (r : Reg) : (d.clrReg r).tw = d.tw := rfl
@[simp] theorem Dev.wr_sp (d : Dev) (r : Reg) (ix v : Nat) : (d.wr r ix v).sp = d.sp := rfl
@[simp] theorem Dev.wrB_sp (d : Dev) (r : Reg) (ix : Nat) (b : Bool) : (d.wrB r ix b).sp = d.sp := rfl
@[simp] theorem Dev.inc_sp (d : Dev) (r : Reg) (ix : Nat) : (d.inc r ix).sp = d.sp := rfl
@[simp] theorem Dev.clrReg_sp (d : Dev) (r : Reg) : (d.clrReg r).sp = d.sp := rfl
@[simp] theorem Dev.wr_pw (d : Dev) (r : Reg) (ix v : Nat) : (d.wr r ix v).pw = d.pw := rfl
@[simp] theorem Dev.wrB_pw (d : Dev) (r : Reg) (ix : Nat) (b : Bool) : (d.wrB r ix b).pw = d.pw := rfl
@[simp] theorem Dev.inc_pw (d : Dev) (r : Reg) (ix : Nat) : (d.inc r ix).pw = d.pw := rfl
@[simp] theorem Dev.clrReg_pw (d : Dev) (r : Reg) : (d.clrReg r).pw = d.pw := rfl
@[simp] theorem Dev.wr_rcd (d : Dev) (r : Reg) (ix v : Nat) : (d.wr r ix v).rcd = d.rcd := rfl
@[simp] theorem Dev.wrB_rcd (d : Dev) (r : Reg) (ix : Nat) (b : Bool) : (d.wrB r ix b).rcd = d.rcd := rfl
@[simp] theorem Dev.inc_rcd (d : Dev) (r : Reg) (ix : Nat) : (d.inc r ix).rcd = d.rcd := rfl
@[simp] theorem Dev.clrReg_rcd (d : Dev) (r : Reg) : (d.clrReg r).rcd = d.rcd := rfl
@[simp] theorem Dev.wr_rise (d : Dev) (r : Reg) (ix v : Nat) : (d.wr r ix v).rise = d.rise := rfl
@[simp] theorem Dev.wrB_rise (d : Dev) (r : Reg) (ix : Nat) (b : Bool) : (d.wrB r ix b).rise = d.rise := rfl
@[simp] theorem Dev.inc_rise (d : Dev) (r : Reg) (ix : Nat) : (d.inc r ix).rise = d.rise := rfl
@[simp] theorem Dev.clrReg_rise (d : Dev) (r : Reg) : (d.clrReg r).rise = d.rise := rfl
@[simp] theorem Dev.ev_staged (d : Dev) (r : Reg) (ix : Nat) : (d.ev r ix).staged = d.staged := by unfold Dev.ev; split <;> rfl
@[simp] theorem Dev.ev_freeCtr (d : Dev) (r : Reg) (ix : Nat) : (d.ev r ix).freeCtr = d.freeCtr := by unfold Dev.ev; split <;> rfl
@[simp] theorem Dev.ev_out (d : Dev) (r : Reg) (ix : Nat) : (d.ev r ix).out = d.out := by unfold Dev.ev; split <;> rfl
@[simp] theorem Dev.ev_tfq (d : Dev) (r : Reg) (ix : Nat) : (d.ev r ix).tfq = d.tfq := by unfold Dev.ev; split <;> rfl
@[simp] theorem Dev.ev_tb (d : Dev) (r : Reg) (ix : Nat) : (d.ev r ix).tb = d.tb := by unfold Dev.ev; split <;> rfl
@[simp] theorem Dev.ev_ring (d : Dev) (r : Reg) (ix : Nat) : (d.ev r ix).ring = d.ring := by unfold Dev.ev; split <;> rfl
@[simp] theorem Dev.ev_ch (d : Dev) (r : Reg) (ix : Nat) : (d.ev r ix).ch = d.ch := by unfold Dev.ev; split <;> rfl
@[simp] theorem Dev.ev_le (d : Dev) (r : Reg) (ix : Nat) : (d.ev r ix).le = d.le := by unfold Dev.ev; split <;> rfl
@[simp] theorem Dev.ev_vr (d : Dev) (r : Reg) (ix : Nat) : (d.ev r ix).vr = d.vr := by unfold Dev.ev; split <;> rfl
@[simp] theorem Dev.ev_ph (d : Dev) (r : Reg) (ix : Nat) : (d.ev r ix).ph = d.ph := by unfold Dev.ev; split <;> rfl
@[simp] theorem Dev.ev_bus (d : Dev) (r : Reg) (ix : Nat) : (d.ev r ix).bus = d.bus := by unfold Dev.ev; split <;> rfl
@[simp] theorem Dev.ev_bs (d : Dev) (r : Reg) (ix : Nat) : (d.ev r ix).bs = d.bs := by unfold Dev.ev; split <;> rfl
@[simp] theorem Dev.ev_fuse (d : Dev) (r : Reg) (ix : Nat) : (d.ev r ix).fuse = d.fuse := by unfold Dev.ev; split <;> rfl
@[simp] theorem Dev.ev_grp (d : Dev) (r : Reg) (ix : Nat) : (d.ev r ix).grp = d.grp := by unfold Dev.ev; split <;> rfl
@[simp] theorem Dev.ev_ps (d : Dev) (r : Reg) (ix : Nat) : (d.ev r ix).ps = d.ps := by unfold Dev.ev; split <;> rfl
@[simp] theorem Dev.ev_seq (d : Dev) (r : Reg) (ix : Nat) : (d.ev r ix).seq = d.seq := by unfold Dev.ev; split <;> rfl
@[simp] theorem Dev.ev_gov (d : Dev) (r : Reg) (ix : Nat) : (d.ev r ix).gov = d.gov := by unfold Dev.ev; split <;> rfl
@[simp] theorem Dev.ev_tm (d : Dev) (r : Reg) (ix : Nat) : (d.ev r ix).tm = d.tm := by unfold Dev.ev; split <;> rfl
@[simp] theorem Dev.ev_th (d : Dev) (r : Reg) (ix : Nat) : (d.ev r ix).th = d.th := by unfold Dev.ev; split <;> rfl
@[simp] theorem Dev.ev_mp (d : Dev) (r : Reg) (ix : Nat) : (d.ev r ix).mp = d.mp := by unfold Dev.ev; split <;> rfl
@[simp] theorem Dev.ev_host (d : Dev) (r : Reg) (ix : Nat) : (d.ev r ix).host = d.host := by unfold Dev.ev; split <;> rfl
@[simp] theorem Dev.ev_au (d : Dev) (r : Reg) (ix : Nat) : (d.ev r ix).au = d.au := by unfold Dev.ev; split <;> rfl
@[simp] theorem Dev.ev_commit (d : Dev) (r : Reg) (ix : Nat) : (d.ev r ix).commit = d.commit := by unfold Dev.ev; split <;> rfl
@[simp] theorem Dev.ev_up (d : Dev) (r : Reg) (ix : Nat) : (d.ev r ix).up = d.up := by unfold Dev.ev; split <;> rfl
@[simp] theorem Dev.ev_tw (d : Dev) (r : Reg) (ix : Nat) : (d.ev r ix).tw = d.tw := by unfold Dev.ev; split <;> rfl
@[simp] theorem Dev.ev_sp (d : Dev) (r : Reg) (ix : Nat) : (d.ev r ix).sp = d.sp := by unfold Dev.ev; split <;> rfl
@[simp] theorem Dev.ev_pw (d : Dev) (r : Reg) (ix : Nat) : (d.ev r ix).pw = d.pw := by unfold Dev.ev; split <;> rfl
@[simp] theorem Dev.ev_rcd (d : Dev) (r : Reg) (ix : Nat) : (d.ev r ix).rcd = d.rcd := by unfold Dev.ev; split <;> rfl
@[simp] theorem Dev.alert_staged (d : Dev) (r : Reg) : (d.alert r).staged = d.staged := by unfold Dev.alert; dsimp only; (repeat' split) <;> rfl
@[simp] theorem Dev.alert_freeCtr (d : Dev) (r : Reg) : (d.alert r).freeCtr = d.freeCtr := by unfold Dev.alert; dsimp only; (repeat' split) <;> rfl
@[simp] theorem Dev.alert_out (d : Dev) (r : Reg) : (d.alert r).out = d.out := by unfold Dev.alert; dsimp only; (repeat' split) <;> rfl
@[simp] theorem Dev.alert_tfq (d : Dev) (r : Reg) : (d.alert r).tfq = d.tfq := by unfold Dev.alert; dsimp only; (repeat' split) <;> rfl
@[simp] theorem Dev.alert_tb (d : Dev) (r : Reg) : (d.alert r).tb = d.tb := by unfold Dev.alert; dsimp only; (repeat' split) <;> rfl
@[simp] theorem Dev.alert_ring (d : Dev) (r : Reg) : (d.alert r).ring = d.ring := by unfold Dev.alert; dsimp only; (repeat' split) <;> rfl
@[simp] theorem Dev.alert_ch (d : Dev) (r : Reg) : (d.alert r).ch = d.ch := by unfold Dev.alert; dsimp only; (repeat' split) <;> rfl
@[simp] theorem Dev.alert_le (d : Dev) (r : Reg) : (d.alert r).le = d.le := by unfold Dev.alert; dsimp only; (repeat' split) <;> rfl
@[simp] theorem Dev.alert_vr (d : Dev) (r : Reg) : (d.alert r).vr = d.vr := by unfold Dev.alert; dsimp only; (repeat' split) <;> rfl
@[simp] theorem Dev.alert_ph (d : Dev) (r : Reg) : (d.alert r).ph = d.ph := by unfold Dev.alert; dsimp only; (repeat' split) <;> rfl
@[simp] theorem Dev.alert_bus (d : Dev) (r : Reg) : (d.alert r).bus = d.bus := by unfold Dev.alert; dsimp only; (repeat' split) <;> rfl
@[simp] theorem Dev.alert_bs (d : Dev) (r : Reg) : (d.alert r).bs = d.bs := by unfold Dev.alert; dsimp only; (repeat' split) <;> rfl
@[simp] theorem Dev.alert_fuse (d : Dev) (r : Reg) : (d.alert r).fuse = d.fuse := by unfold Dev.alert; dsimp only; (repeat' split) <;> rfl
@[simp] theorem Dev.alert_grp (d : Dev) (r : Reg) : (d.alert r).grp = d.grp := by unfold Dev.alert; dsimp only; (repeat' split) <;> rfl
@[simp] theorem Dev.alert_ps (d : Dev) (r : Reg) : (d.alert r).ps = d.ps := by unfold Dev.alert; dsimp only; (repeat' split) <;> rfl
@[simp] theorem Dev.alert_seq (d : Dev) (r : Reg) : (d.alert r).seq = d.seq := by unfold Dev.alert; dsimp only; (repeat' split) <;> rfl
@[simp] theorem Dev.alert_gov (d : Dev) (r : Reg) : (d.alert r).gov = d.gov := by unfold Dev.alert; dsimp only; (repeat' split) <;> rfl
@[simp] theorem Dev.alert_tm (d : Dev) (r : Reg) : (d.alert r).tm = d.tm := by unfold Dev.alert; dsimp only; (repeat' split) <;> rfl
@[simp] theorem Dev.alert_th (d : Dev) (r : Reg) : (d.alert r).th = d.th := by unfold Dev.alert; dsimp only; (repeat' split) <;> rfl
@[simp] theorem Dev.alert_mp (d : Dev) (r : Reg) : (d.alert r).mp = d.mp := by unfold Dev.alert; dsimp only; (repeat' split) <;> rfl
@[simp] theorem Dev.alert_host (d : Dev) (r : Reg) : (d.alert r).host = d.host := by unfold Dev.alert; dsimp only; (repeat' split) <;> rfl
@[simp] theorem Dev.alert_au (d : Dev) (r : Reg) : (d.alert r).au = d.au := by unfold Dev.alert; dsimp only; (repeat' split) <;> rfl
@[simp] theorem Dev.alert_commit (d : Dev) (r : Reg) : (d.alert r).commit = d.commit := by unfold Dev.alert; dsimp only; (repeat' split) <;> rfl
@[simp] theorem Dev.alert_up (d : Dev) (r : Reg) : (d.alert r).up = d.up := by unfold Dev.alert; dsimp only; (repeat' split) <;> rfl
@[simp] theorem Dev.alert_tw (d : Dev) (r : Reg) : (d.alert r).tw = d.tw := by unfold Dev.alert; dsimp only; (repeat' split) <;> rfl
@[simp] theorem Dev.alert_sp (d : Dev) (r : Reg) : (d.alert r).sp = d.sp := by unfold Dev.alert; dsimp only; (repeat' split) <;> rfl
@[simp] theorem Dev.alert_pw (d : Dev) (r : Reg) : (d.alert r).pw = d.pw := by unfold Dev.alert; dsimp only; (repeat' split) <;> rfl
@[simp] theorem Dev.alert_rcd (d : Dev) (r : Reg) : (d.alert r).rcd = d.rcd := by unfold Dev.alert; dsimp only; (repeat' split) <;> rfl
@[simp] theorem Dev.alert_rise (d : Dev) (r : Reg) : (d.alert r).rise = d.rise := by unfold Dev.alert; dsimp only; (repeat' split) <;> rfl
@[simp] theorem refuseEnt_staged (d : Dev) : (refuseEnt d).staged = d.staged := by simp [refuseEnt]
@[simp] theorem joinHw_staged (d : Dev) (e : Ent) : (joinHw d e).staged = d.staged := by unfold joinHw; dsimp only; (repeat' split) <;> simp
@[simp] theorem joinLimited_staged (d : Dev) (e : Ent) : (joinLimited d e).staged = d.staged := by unfold joinLimited; dsimp only; (repeat' split) <;> simp
@[simp] theorem joinEnt_staged (d : Dev) (e : Ent) : (joinEnt d e).staged = d.staged := by unfold joinEnt; dsimp only; split <;> simp
@[simp] theorem Dev.recAt_staged (d : Dev) (pm code cls src : Nat) (pay : List Nat) : (d.recAt pm code cls src pay).staged = d.staged := by simp [Dev.recAt]
@[simp] theorem Dev.recd_staged (d : Dev) (code cls src : Nat) (pay : List Nat) : (d.recd code cls src pay).staged = d.staged := by simp [Dev.recd]
@[simp] theorem refuseEnt_freeCtr (d : Dev) : (refuseEnt d).freeCtr = d.freeCtr := by simp [refuseEnt]
@[simp] theorem joinHw_freeCtr (d : Dev) (e : Ent) : (joinHw d e).freeCtr = d.freeCtr := by unfold joinHw; dsimp only; (repeat' split) <;> simp
@[simp] theorem joinLimited_freeCtr (d : Dev) (e : Ent) : (joinLimited d e).freeCtr = d.freeCtr := by unfold joinLimited; dsimp only; (repeat' split) <;> simp
@[simp] theorem joinEnt_freeCtr (d : Dev) (e : Ent) : (joinEnt d e).freeCtr = d.freeCtr := by unfold joinEnt; dsimp only; split <;> simp
@[simp] theorem Dev.recAt_freeCtr (d : Dev) (pm code cls src : Nat) (pay : List Nat) : (d.recAt pm code cls src pay).freeCtr = d.freeCtr := by simp [Dev.recAt]
@[simp] theorem Dev.recd_freeCtr (d : Dev) (code cls src : Nat) (pay : List Nat) : (d.recd code cls src pay).freeCtr = d.freeCtr := by simp [Dev.recd]
@[simp] theorem refuseEnt_out (d : Dev) : (refuseEnt d).out = d.out := by simp [refuseEnt]
@[simp] theorem joinHw_out (d : Dev) (e : Ent) : (joinHw d e).out = d.out := by unfold joinHw; dsimp only; (repeat' split) <;> simp
@[simp] theorem joinLimited_out (d : Dev) (e : Ent) : (joinLimited d e).out = d.out := by unfold joinLimited; dsimp only; (repeat' split) <;> simp
@[simp] theorem joinEnt_out (d : Dev) (e : Ent) : (joinEnt d e).out = d.out := by unfold joinEnt; dsimp only; split <;> simp
@[simp] theorem Dev.recAt_out (d : Dev) (pm code cls src : Nat) (pay : List Nat) : (d.recAt pm code cls src pay).out = d.out := by simp [Dev.recAt]
@[simp] theorem Dev.recd_out (d : Dev) (code cls src : Nat) (pay : List Nat) : (d.recd code cls src pay).out = d.out := by simp [Dev.recd]
@[simp] theorem refuseEnt_tfq (d : Dev) : (refuseEnt d).tfq = d.tfq := by simp [refuseEnt]
@[simp] theorem joinHw_tfq (d : Dev) (e : Ent) : (joinHw d e).tfq = d.tfq := by unfold joinHw; dsimp only; (repeat' split) <;> simp
@[simp] theorem joinLimited_tfq (d : Dev) (e : Ent) : (joinLimited d e).tfq = d.tfq := by unfold joinLimited; dsimp only; (repeat' split) <;> simp
@[simp] theorem joinEnt_tfq (d : Dev) (e : Ent) : (joinEnt d e).tfq = d.tfq := by unfold joinEnt; dsimp only; split <;> simp
@[simp] theorem Dev.recAt_tfq (d : Dev) (pm code cls src : Nat) (pay : List Nat) : (d.recAt pm code cls src pay).tfq = d.tfq := by simp [Dev.recAt]
@[simp] theorem Dev.recd_tfq (d : Dev) (code cls src : Nat) (pay : List Nat) : (d.recd code cls src pay).tfq = d.tfq := by simp [Dev.recd]
@[simp] theorem refuseEnt_tb (d : Dev) : (refuseEnt d).tb = d.tb := by simp [refuseEnt]
@[simp] theorem joinHw_tb (d : Dev) (e : Ent) : (joinHw d e).tb = d.tb := by unfold joinHw; dsimp only; (repeat' split) <;> simp
@[simp] theorem joinLimited_tb (d : Dev) (e : Ent) : (joinLimited d e).tb = d.tb := by unfold joinLimited; dsimp only; (repeat' split) <;> simp
@[simp] theorem joinEnt_tb (d : Dev) (e : Ent) : (joinEnt d e).tb = d.tb := by unfold joinEnt; dsimp only; split <;> simp
@[simp] theorem Dev.recAt_tb (d : Dev) (pm code cls src : Nat) (pay : List Nat) : (d.recAt pm code cls src pay).tb = d.tb := by simp [Dev.recAt]
@[simp] theorem Dev.recd_tb (d : Dev) (code cls src : Nat) (pay : List Nat) : (d.recd code cls src pay).tb = d.tb := by simp [Dev.recd]
@[simp] theorem refuseEnt_ring (d : Dev) : (refuseEnt d).ring = d.ring := by simp [refuseEnt]
@[simp] theorem joinHw_ring (d : Dev) (e : Ent) : (joinHw d e).ring = d.ring := by unfold joinHw; dsimp only; (repeat' split) <;> simp
@[simp] theorem joinLimited_ring (d : Dev) (e : Ent) : (joinLimited d e).ring = d.ring := by unfold joinLimited; dsimp only; (repeat' split) <;> simp
@[simp] theorem joinEnt_ring (d : Dev) (e : Ent) : (joinEnt d e).ring = d.ring := by unfold joinEnt; dsimp only; split <;> simp
@[simp] theorem Dev.recAt_ring (d : Dev) (pm code cls src : Nat) (pay : List Nat) : (d.recAt pm code cls src pay).ring = d.ring := by simp [Dev.recAt]
@[simp] theorem Dev.recd_ring (d : Dev) (code cls src : Nat) (pay : List Nat) : (d.recd code cls src pay).ring = d.ring := by simp [Dev.recd]
@[simp] theorem refuseEnt_ch (d : Dev) : (refuseEnt d).ch = d.ch := by simp [refuseEnt]
@[simp] theorem joinHw_ch (d : Dev) (e : Ent) : (joinHw d e).ch = d.ch := by unfold joinHw; dsimp only; (repeat' split) <;> simp
@[simp] theorem joinLimited_ch (d : Dev) (e : Ent) : (joinLimited d e).ch = d.ch := by unfold joinLimited; dsimp only; (repeat' split) <;> simp
@[simp] theorem joinEnt_ch (d : Dev) (e : Ent) : (joinEnt d e).ch = d.ch := by unfold joinEnt; dsimp only; split <;> simp
@[simp] theorem Dev.recAt_ch (d : Dev) (pm code cls src : Nat) (pay : List Nat) : (d.recAt pm code cls src pay).ch = d.ch := by simp [Dev.recAt]
@[simp] theorem Dev.recd_ch (d : Dev) (code cls src : Nat) (pay : List Nat) : (d.recd code cls src pay).ch = d.ch := by simp [Dev.recd]
@[simp] theorem refuseEnt_le (d : Dev) : (refuseEnt d).le = d.le := by simp [refuseEnt]
@[simp] theorem joinHw_le (d : Dev) (e : Ent) : (joinHw d e).le = d.le := by unfold joinHw; dsimp only; (repeat' split) <;> simp
@[simp] theorem joinLimited_le (d : Dev) (e : Ent) : (joinLimited d e).le = d.le := by unfold joinLimited; dsimp only; (repeat' split) <;> simp
@[simp] theorem joinEnt_le (d : Dev) (e : Ent) : (joinEnt d e).le = d.le := by unfold joinEnt; dsimp only; split <;> simp
@[simp] theorem Dev.recAt_le (d : Dev) (pm code cls src : Nat) (pay : List Nat) : (d.recAt pm code cls src pay).le = d.le := by simp [Dev.recAt]
@[simp] theorem Dev.recd_le (d : Dev) (code cls src : Nat) (pay : List Nat) : (d.recd code cls src pay).le = d.le := by simp [Dev.recd]
@[simp] theorem refuseEnt_vr (d : Dev) : (refuseEnt d).vr = d.vr := by simp [refuseEnt]
@[simp] theorem joinHw_vr (d : Dev) (e : Ent) : (joinHw d e).vr = d.vr := by unfold joinHw; dsimp only; (repeat' split) <;> simp
@[simp] theorem joinLimited_vr (d : Dev) (e : Ent) : (joinLimited d e).vr = d.vr := by unfold joinLimited; dsimp only; (repeat' split) <;> simp
@[simp] theorem joinEnt_vr (d : Dev) (e : Ent) : (joinEnt d e).vr = d.vr := by unfold joinEnt; dsimp only; split <;> simp
@[simp] theorem Dev.recAt_vr (d : Dev) (pm code cls src : Nat) (pay : List Nat) : (d.recAt pm code cls src pay).vr = d.vr := by simp [Dev.recAt]
@[simp] theorem Dev.recd_vr (d : Dev) (code cls src : Nat) (pay : List Nat) : (d.recd code cls src pay).vr = d.vr := by simp [Dev.recd]
@[simp] theorem refuseEnt_ph (d : Dev) : (refuseEnt d).ph = d.ph := by simp [refuseEnt]
@[simp] theorem joinHw_ph (d : Dev) (e : Ent) : (joinHw d e).ph = d.ph := by unfold joinHw; dsimp only; (repeat' split) <;> simp
@[simp] theorem joinLimited_ph (d : Dev) (e : Ent) : (joinLimited d e).ph = d.ph := by unfold joinLimited; dsimp only; (repeat' split) <;> simp
@[simp] theorem joinEnt_ph (d : Dev) (e : Ent) : (joinEnt d e).ph = d.ph := by unfold joinEnt; dsimp only; split <;> simp
@[simp] theorem Dev.recAt_ph (d : Dev) (pm code cls src : Nat) (pay : List Nat) : (d.recAt pm code cls src pay).ph = d.ph := by simp [Dev.recAt]
@[simp] theorem Dev.recd_ph (d : Dev) (code cls src : Nat) (pay : List Nat) : (d.recd code cls src pay).ph = d.ph := by simp [Dev.recd]
@[simp] theorem refuseEnt_bus (d : Dev) : (refuseEnt d).bus = d.bus := by simp [refuseEnt]
@[simp] theorem joinHw_bus (d : Dev) (e : Ent) : (joinHw d e).bus = d.bus := by unfold joinHw; dsimp only; (repeat' split) <;> simp
@[simp] theorem joinLimited_bus (d : Dev) (e : Ent) : (joinLimited d e).bus = d.bus := by unfold joinLimited; dsimp only; (repeat' split) <;> simp
@[simp] theorem joinEnt_bus (d : Dev) (e : Ent) : (joinEnt d e).bus = d.bus := by unfold joinEnt; dsimp only; split <;> simp
@[simp] theorem Dev.recAt_bus (d : Dev) (pm code cls src : Nat) (pay : List Nat) : (d.recAt pm code cls src pay).bus = d.bus := by simp [Dev.recAt]
@[simp] theorem Dev.recd_bus (d : Dev) (code cls src : Nat) (pay : List Nat) : (d.recd code cls src pay).bus = d.bus := by simp [Dev.recd]
@[simp] theorem refuseEnt_bs (d : Dev) : (refuseEnt d).bs = d.bs := by simp [refuseEnt]
@[simp] theorem joinHw_bs (d : Dev) (e : Ent) : (joinHw d e).bs = d.bs := by unfold joinHw; dsimp only; (repeat' split) <;> simp
@[simp] theorem joinLimited_bs (d : Dev) (e : Ent) : (joinLimited d e).bs = d.bs := by unfold joinLimited; dsimp only; (repeat' split) <;> simp
@[simp] theorem joinEnt_bs (d : Dev) (e : Ent) : (joinEnt d e).bs = d.bs := by unfold joinEnt; dsimp only; split <;> simp
@[simp] theorem Dev.recAt_bs (d : Dev) (pm code cls src : Nat) (pay : List Nat) : (d.recAt pm code cls src pay).bs = d.bs := by simp [Dev.recAt]
@[simp] theorem Dev.recd_bs (d : Dev) (code cls src : Nat) (pay : List Nat) : (d.recd code cls src pay).bs = d.bs := by simp [Dev.recd]
@[simp] theorem refuseEnt_fuse (d : Dev) : (refuseEnt d).fuse = d.fuse := by simp [refuseEnt]
@[simp] theorem joinHw_fuse (d : Dev) (e : Ent) : (joinHw d e).fuse = d.fuse := by unfold joinHw; dsimp only; (repeat' split) <;> simp
@[simp] theorem joinLimited_fuse (d : Dev) (e : Ent) : (joinLimited d e).fuse = d.fuse := by unfold joinLimited; dsimp only; (repeat' split) <;> simp
@[simp] theorem joinEnt_fuse (d : Dev) (e : Ent) : (joinEnt d e).fuse = d.fuse := by unfold joinEnt; dsimp only; split <;> simp
@[simp] theorem Dev.recAt_fuse (d : Dev) (pm code cls src : Nat) (pay : List Nat) : (d.recAt pm code cls src pay).fuse = d.fuse := by simp [Dev.recAt]
@[simp] theorem Dev.recd_fuse (d : Dev) (code cls src : Nat) (pay : List Nat) : (d.recd code cls src pay).fuse = d.fuse := by simp [Dev.recd]
@[simp] theorem refuseEnt_grp (d : Dev) : (refuseEnt d).grp = d.grp := by simp [refuseEnt]
@[simp] theorem joinHw_grp (d : Dev) (e : Ent) : (joinHw d e).grp = d.grp := by unfold joinHw; dsimp only; (repeat' split) <;> simp
@[simp] theorem joinLimited_grp (d : Dev) (e : Ent) : (joinLimited d e).grp = d.grp := by unfold joinLimited; dsimp only; (repeat' split) <;> simp
@[simp] theorem joinEnt_grp (d : Dev) (e : Ent) : (joinEnt d e).grp = d.grp := by unfold joinEnt; dsimp only; split <;> simp
@[simp] theorem Dev.recAt_grp (d : Dev) (pm code cls src : Nat) (pay : List Nat) : (d.recAt pm code cls src pay).grp = d.grp := by simp [Dev.recAt]
@[simp] theorem Dev.recd_grp (d : Dev) (code cls src : Nat) (pay : List Nat) : (d.recd code cls src pay).grp = d.grp := by simp [Dev.recd]
@[simp] theorem refuseEnt_ps (d : Dev) : (refuseEnt d).ps = d.ps := by simp [refuseEnt]
@[simp] theorem joinHw_ps (d : Dev) (e : Ent) : (joinHw d e).ps = d.ps := by unfold joinHw; dsimp only; (repeat' split) <;> simp
@[simp] theorem joinLimited_ps (d : Dev) (e : Ent) : (joinLimited d e).ps = d.ps := by unfold joinLimited; dsimp only; (repeat' split) <;> simp
@[simp] theorem joinEnt_ps (d : Dev) (e : Ent) : (joinEnt d e).ps = d.ps := by unfold joinEnt; dsimp only; split <;> simp
@[simp] theorem Dev.recAt_ps (d : Dev) (pm code cls src : Nat) (pay : List Nat) : (d.recAt pm code cls src pay).ps = d.ps := by simp [Dev.recAt]
@[simp] theorem Dev.recd_ps (d : Dev) (code cls src : Nat) (pay : List Nat) : (d.recd code cls src pay).ps = d.ps := by simp [Dev.recd]
@[simp] theorem refuseEnt_seq (d : Dev) : (refuseEnt d).seq = d.seq := by simp [refuseEnt]
@[simp] theorem joinHw_seq (d : Dev) (e : Ent) : (joinHw d e).seq = d.seq := by unfold joinHw; dsimp only; (repeat' split) <;> simp
@[simp] theorem joinLimited_seq (d : Dev) (e : Ent) : (joinLimited d e).seq = d.seq := by unfold joinLimited; dsimp only; (repeat' split) <;> simp
@[simp] theorem joinEnt_seq (d : Dev) (e : Ent) : (joinEnt d e).seq = d.seq := by unfold joinEnt; dsimp only; split <;> simp
@[simp] theorem Dev.recAt_seq (d : Dev) (pm code cls src : Nat) (pay : List Nat) : (d.recAt pm code cls src pay).seq = d.seq := by simp [Dev.recAt]
@[simp] theorem Dev.recd_seq (d : Dev) (code cls src : Nat) (pay : List Nat) : (d.recd code cls src pay).seq = d.seq := by simp [Dev.recd]
@[simp] theorem refuseEnt_gov (d : Dev) : (refuseEnt d).gov = d.gov := by simp [refuseEnt]
@[simp] theorem joinHw_gov (d : Dev) (e : Ent) : (joinHw d e).gov = d.gov := by unfold joinHw; dsimp only; (repeat' split) <;> simp
@[simp] theorem joinLimited_gov (d : Dev) (e : Ent) : (joinLimited d e).gov = d.gov := by unfold joinLimited; dsimp only; (repeat' split) <;> simp
@[simp] theorem joinEnt_gov (d : Dev) (e : Ent) : (joinEnt d e).gov = d.gov := by unfold joinEnt; dsimp only; split <;> simp
@[simp] theorem Dev.recAt_gov (d : Dev) (pm code cls src : Nat) (pay : List Nat) : (d.recAt pm code cls src pay).gov = d.gov := by simp [Dev.recAt]
@[simp] theorem Dev.recd_gov (d : Dev) (code cls src : Nat) (pay : List Nat) : (d.recd code cls src pay).gov = d.gov := by simp [Dev.recd]
@[simp] theorem refuseEnt_tm (d : Dev) : (refuseEnt d).tm = d.tm := by simp [refuseEnt]
@[simp] theorem joinHw_tm (d : Dev) (e : Ent) : (joinHw d e).tm = d.tm := by unfold joinHw; dsimp only; (repeat' split) <;> simp
@[simp] theorem joinLimited_tm (d : Dev) (e : Ent) : (joinLimited d e).tm = d.tm := by unfold joinLimited; dsimp only; (repeat' split) <;> simp
@[simp] theorem joinEnt_tm (d : Dev) (e : Ent) : (joinEnt d e).tm = d.tm := by unfold joinEnt; dsimp only; split <;> simp
@[simp] theorem Dev.recAt_tm (d : Dev) (pm code cls src : Nat) (pay : List Nat) : (d.recAt pm code cls src pay).tm = d.tm := by simp [Dev.recAt]
@[simp] theorem Dev.recd_tm (d : Dev) (code cls src : Nat) (pay : List Nat) : (d.recd code cls src pay).tm = d.tm := by simp [Dev.recd]
@[simp] theorem refuseEnt_th (d : Dev) : (refuseEnt d).th = d.th := by simp [refuseEnt]
@[simp] theorem joinHw_th (d : Dev) (e : Ent) : (joinHw d e).th = d.th := by unfold joinHw; dsimp only; (repeat' split) <;> simp
@[simp] theorem joinLimited_th (d : Dev) (e : Ent) : (joinLimited d e).th = d.th := by unfold joinLimited; dsimp only; (repeat' split) <;> simp
@[simp] theorem joinEnt_th (d : Dev) (e : Ent) : (joinEnt d e).th = d.th := by unfold joinEnt; dsimp only; split <;> simp
@[simp] theorem Dev.recAt_th (d : Dev) (pm code cls src : Nat) (pay : List Nat) : (d.recAt pm code cls src pay).th = d.th := by simp [Dev.recAt]
@[simp] theorem Dev.recd_th (d : Dev) (code cls src : Nat) (pay : List Nat) : (d.recd code cls src pay).th = d.th := by simp [Dev.recd]
@[simp] theorem refuseEnt_mp (d : Dev) : (refuseEnt d).mp = d.mp := by simp [refuseEnt]
@[simp] theorem joinHw_mp (d : Dev) (e : Ent) : (joinHw d e).mp = d.mp := by unfold joinHw; dsimp only; (repeat' split) <;> simp
@[simp] theorem joinLimited_mp (d : Dev) (e : Ent) : (joinLimited d e).mp = d.mp := by unfold joinLimited; dsimp only; (repeat' split) <;> simp
@[simp] theorem joinEnt_mp (d : Dev) (e : Ent) : (joinEnt d e).mp = d.mp := by unfold joinEnt; dsimp only; split <;> simp
@[simp] theorem Dev.recAt_mp (d : Dev) (pm code cls src : Nat) (pay : List Nat) : (d.recAt pm code cls src pay).mp = d.mp := by simp [Dev.recAt]
@[simp] theorem Dev.recd_mp (d : Dev) (code cls src : Nat) (pay : List Nat) : (d.recd code cls src pay).mp = d.mp := by simp [Dev.recd]
@[simp] theorem refuseEnt_host (d : Dev) : (refuseEnt d).host = d.host := by simp [refuseEnt]
@[simp] theorem joinHw_host (d : Dev) (e : Ent) : (joinHw d e).host = d.host := by unfold joinHw; dsimp only; (repeat' split) <;> simp
@[simp] theorem joinLimited_host (d : Dev) (e : Ent) : (joinLimited d e).host = d.host := by unfold joinLimited; dsimp only; (repeat' split) <;> simp
@[simp] theorem joinEnt_host (d : Dev) (e : Ent) : (joinEnt d e).host = d.host := by unfold joinEnt; dsimp only; split <;> simp
@[simp] theorem Dev.recAt_host (d : Dev) (pm code cls src : Nat) (pay : List Nat) : (d.recAt pm code cls src pay).host = d.host := by simp [Dev.recAt]
@[simp] theorem Dev.recd_host (d : Dev) (code cls src : Nat) (pay : List Nat) : (d.recd code cls src pay).host = d.host := by simp [Dev.recd]
@[simp] theorem refuseEnt_au (d : Dev) : (refuseEnt d).au = d.au := by simp [refuseEnt]
@[simp] theorem joinHw_au (d : Dev) (e : Ent) : (joinHw d e).au = d.au := by unfold joinHw; dsimp only; (repeat' split) <;> simp
@[simp] theorem joinLimited_au (d : Dev) (e : Ent) : (joinLimited d e).au = d.au := by unfold joinLimited; dsimp only; (repeat' split) <;> simp
@[simp] theorem joinEnt_au (d : Dev) (e : Ent) : (joinEnt d e).au = d.au := by unfold joinEnt; dsimp only; split <;> simp
@[simp] theorem Dev.recAt_au (d : Dev) (pm code cls src : Nat) (pay : List Nat) : (d.recAt pm code cls src pay).au = d.au := by simp [Dev.recAt]
@[simp] theorem Dev.recd_au (d : Dev) (code cls src : Nat) (pay : List Nat) : (d.recd code cls src pay).au = d.au := by simp [Dev.recd]
@[simp] theorem refuseEnt_commit (d : Dev) : (refuseEnt d).commit = d.commit := by simp [refuseEnt]
@[simp] theorem joinHw_commit (d : Dev) (e : Ent) : (joinHw d e).commit = d.commit := by unfold joinHw; dsimp only; (repeat' split) <;> simp
@[simp] theorem joinLimited_commit (d : Dev) (e : Ent) : (joinLimited d e).commit = d.commit := by unfold joinLimited; dsimp only; (repeat' split) <;> simp
@[simp] theorem joinEnt_commit (d : Dev) (e : Ent) : (joinEnt d e).commit = d.commit := by unfold joinEnt; dsimp only; split <;> simp
@[simp] theorem Dev.recAt_commit (d : Dev) (pm code cls src : Nat) (pay : List Nat) : (d.recAt pm code cls src pay).commit = d.commit := by simp [Dev.recAt]
@[simp] theorem Dev.recd_commit (d : Dev) (code cls src : Nat) (pay : List Nat) : (d.recd code cls src pay).commit = d.commit := by simp [Dev.recd]
@[simp] theorem refuseEnt_up (d : Dev) : (refuseEnt d).up = d.up := by simp [refuseEnt]
@[simp] theorem joinHw_up (d : Dev) (e : Ent) : (joinHw d e).up = d.up := by unfold joinHw; dsimp only; (repeat' split) <;> simp
@[simp] theorem joinLimited_up (d : Dev) (e : Ent) : (joinLimited d e).up = d.up := by unfold joinLimited; dsimp only; (repeat' split) <;> simp
@[simp] theorem joinEnt_up (d : Dev) (e : Ent) : (joinEnt d e).up = d.up := by unfold joinEnt; dsimp only; split <;> simp
@[simp] theorem Dev.recAt_up (d : Dev) (pm code cls src : Nat) (pay : List Nat) : (d.recAt pm code cls src pay).up = d.up := by simp [Dev.recAt]
@[simp] theorem Dev.recd_up (d : Dev) (code cls src : Nat) (pay : List Nat) : (d.recd code cls src pay).up = d.up := by simp [Dev.recd]
@[simp] theorem refuseEnt_tw (d : Dev) : (refuseEnt d).tw = d.tw := by simp [refuseEnt]
@[simp] theorem joinHw_tw (d : Dev) (e : Ent) : (joinHw d e).tw = d.tw := by unfold joinHw; dsimp only; (repeat' split) <;> simp
@[simp] theorem joinLimited_tw (d : Dev) (e : Ent) : (joinLimited d e).tw = d.tw := by unfold joinLimited; dsimp only; (repeat' split) <;> simp
@[simp] theorem joinEnt_tw (d : Dev) (e : Ent) : (joinEnt d e).tw = d.tw := by unfold joinEnt; dsimp only; split <;> simp
@[simp] theorem Dev.recAt_tw (d : Dev) (pm code cls src : Nat) (pay : List Nat) : (d.recAt pm code cls src pay).tw = d.tw := by simp [Dev.recAt]
@[simp] theorem Dev.recd_tw (d : Dev) (code cls src : Nat) (pay : List Nat) : (d.recd code cls src pay).tw = d.tw := by simp [Dev.recd]
@[simp] theorem refuseEnt_sp (d : Dev) : (refuseEnt d).sp = d.sp := by simp [refuseEnt]
@[simp] theorem joinHw_sp (d : Dev) (e : Ent) : (joinHw d e).sp = d.sp := by unfold joinHw; dsimp only; (repeat' split) <;> simp
@[simp] theorem joinLimited_sp (d : Dev) (e : Ent) : (joinLimited d e).sp = d.sp := by unfold joinLimited; dsimp only; (repeat' split) <;> simp
@[simp] theorem joinEnt_sp (d : Dev) (e : Ent) : (joinEnt d e).sp = d.sp := by unfold joinEnt; dsimp only; split <;> simp
@[simp] theorem Dev.recAt_sp (d : Dev) (pm code cls src : Nat) (pay : List Nat) : (d.recAt pm code cls src pay).sp = d.sp := by simp [Dev.recAt]
@[simp] theorem Dev.recd_sp (d : Dev) (code cls src : Nat) (pay : List Nat) : (d.recd code cls src pay).sp = d.sp := by simp [Dev.recd]
@[simp] theorem refuseEnt_pw (d : Dev) : (refuseEnt d).pw = d.pw := by simp [refuseEnt]
@[simp] theorem joinHw_pw (d : Dev) (e : Ent) : (joinHw d e).pw = d.pw := by unfold joinHw; dsimp only; (repeat' split) <;> simp
@[simp] theorem joinLimited_pw (d : Dev) (e : Ent) : (joinLimited d e).pw = d.pw := by unfold joinLimited; dsimp only; (repeat' split) <;> simp
@[simp] theorem joinEnt_pw (d : Dev) (e : Ent) : (joinEnt d e).pw = d.pw := by unfold joinEnt; dsimp only; split <;> simp
@[simp] theorem Dev.recAt_pw (d : Dev) (pm code cls src : Nat) (pay : List Nat) : (d.recAt pm code cls src pay).pw = d.pw := by simp [Dev.recAt]
@[simp] theorem Dev.recd_pw (d : Dev) (code cls src : Nat) (pay : List Nat) : (d.recd code cls src pay).pw = d.pw := by simp [Dev.recd]

end Sys2Proof.Machine
end

