-- ==== Sys2Proof/Laws/Arith.lean ====
section
/-! SUPPORT. Laws of the two's-complement codes: what a field reads after a signed value was written. -/

namespace Sys2Proof.Machine

/-- A signed value within the width reads back from its code. -/
theorem toS_ofS (w : Nat) (x : Int) (hw : 0 < w) (h : -(2 ^ (w - 1) : Int) ≤ x) (h' : x < (2 ^ (w - 1) : Int)) :
    toS w (ofS w x) = x := by
  obtain ⟨n, rfl⟩ : ∃ n, w = n + 1 := ⟨w - 1, by omega⟩
  simp only [Nat.add_sub_cancel] at h h'
  have hp : (0 : Int) < 2 ^ n := by positivity
  have e : ((2 ^ (n + 1) : Nat) : Int) = 2 * 2 ^ n := by push_cast; ring
  have hm : ((ofS (n + 1) x : Nat) : Int) = x % (2 * 2 ^ n) := by
    unfold ofS; rw [e]; exact Int.toNat_of_nonneg (Int.emod_nonneg _ (by omega))
  have hl : x % (2 * 2 ^ n) < 2 * 2 ^ n := Int.emod_lt_of_pos _ (by omega)
  have hlt : ofS (n + 1) x < 2 ^ (n + 1) := by zify; rw [hm]; rw [pow_succ]; omega
  unfold toS
  rw [Nat.mod_eq_of_lt hlt]
  by_cases hx : 0 ≤ x
  · have : x % (2 * 2 ^ n) = x := Int.emod_eq_of_lt hx (by omega)
    rw [if_pos (by zify; rw [hm, this, pow_succ]; omega), hm, this]
  · have : x % (2 * 2 ^ n) = x + 2 * 2 ^ n := by
      rw [← Int.add_emod_right, Int.emod_eq_of_lt (by omega) (by omega)]
    rw [if_neg (by zify; rw [hm, this, pow_succ]; omega), hm, this, e]; omega

/-- A saturated value lies within its width. -/
theorem satS_range (w : Nat) (x : Int) : -(2 ^ (w - 1) : Int) ≤ satS w x ∧ satS w x < (2 ^ (w - 1) : Int) := by
  have : (0 : Int) < 2 ^ (w - 1) := by positivity
  unfold satS clampI
  push_cast
  constructor
  · exact le_max_left _ _
  · omega

/-- A value within the width is not changed by saturation. -/
theorem satS_id (w : Nat) (x : Int) (h : -(2 ^ (w - 1) : Int) ≤ x) (h' : x < (2 ^ (w - 1) : Int)) : satS w x = x := by
  unfold satS clampI
  push_cast
  omega

/-- A field reads the signed value written, saturated to its width (R11, R12). -/
theorem Dev.rdS_wrS (d : Dev) (r : Reg) (ix : Nat) (x : Int) (hw : 0 < r.w) : (d.wrS r ix x).rdS r ix = satS r.w x := by
  have := satS_range r.w x
  unfold Dev.rdS Dev.wrS
  rw [Dev.rd_wr]
  have hm : ofS r.w (satS r.w x) % 2 ^ r.w = ofS r.w (satS r.w x) := by
    apply Nat.mod_eq_of_lt
    unfold ofS
    have h0 : (0 : Int) < ((2 ^ r.w : Nat) : Int) := by positivity
    have := Int.emod_lt_of_pos (satS r.w x) h0
    have := Int.emod_nonneg (satS r.w x) h0.ne'
    omega
  rw [hm, toS_ofS _ _ hw this.1 this.2]

/-- Another field's signed reading stands. -/
theorem Dev.rdS_wr_ne (d : Dev) {r r' : Reg} (ix ix' v : Nat) (h : r'.id ≠ r.id) : (d.wr r ix v).rdS r' ix' = d.rdS r' ix' := by
  unfold Dev.rdS; rw [Dev.rd_wr_ne _ _ _ _ h]

end Sys2Proof.Machine
end

