-- ==== Sys2Proof/Laws/Memory.lean ====
section
/-! SUPPORT. Laws of the two memories: a read after a write, and that every memory operation keeps the canonical form. -/

namespace Sys2Proof.Machine

/-- A read after a write of one byte. -/
theorem Mem.rd_wr (m : Mem) (a b v : Nat) : (Mem.wr m a v).rd b = if b = a then v % 256 else m.rd b := by
  unfold Mem.rd Mem.wr
  rw [Tbl.get_set]
  split <;> simp

/-- The written address reads as the byte. -/
@[simp] theorem Mem.rd_wr_same (m : Mem) (a v : Nat) : (Mem.wr m a v).rd a = v % 256 := by simp [Mem.rd_wr]

/-- Every other address reads as before. -/
theorem Mem.rd_wr_ne (m : Mem) {a b : Nat} (v : Nat) (h : b ≠ a) : (Mem.wr m a v).rd b = m.rd b := by
  simp [Mem.rd_wr, h]

/-- Bytes put from an address on leave every address outside them. -/
theorem Mem.rd_put_out (m : Mem) (l : List Nat) (a b : Nat) (h : b < a ∨ a + l.length ≤ b) :
    (Mem.put m a l).rd b = m.rd b := by
  induction l generalizing m a with
  | nil => rfl
  | cons x r ih =>
    simp only [List.length_cons] at h
    rw [Mem.put, ih _ _ (by omega), Mem.rd_wr_ne _ _ (by omega)]

/-- Bytes put from an address on read back. -/
theorem Mem.rd_put_in (m : Mem) (l : List Nat) (a i : Nat) (h : i < l.length) :
    (Mem.put m a l).rd (a + i) = l[i] % 256 := by
  induction l generalizing m a i with
  | nil => simp at h
  | cons x r ih =>
    cases i with
    | zero =>
      rw [Mem.put, Mem.rd_put_out _ _ _ _ (by omega)]; simp
    | succ i =>
      have hi : i < r.length := by simpa using h
      have : a + (i + 1) = (a + 1) + i := by omega
      rw [Mem.put, this, ih _ _ _ hi]; simp

/-- The empty memory is canonical. -/
@[simp] theorem Mem.wf_nil : Mem.wf [] = true := rfl

/-- A write of a byte keeps the canonical form. -/
theorem Mem.wf_wr (m : Mem) (a v : Nat) (h : m.wf = true) : (Mem.wr m a v).wf = true := Tbl.wf_set _ _ _ _ h

/-- A write of bytes keeps the canonical form. -/
theorem Mem.wf_put (m : Mem) (a : Nat) (l : List Nat) (h : m.wf = true) : (Mem.put m a l).wf = true := by
  induction l generalizing m a with
  | nil => exact h
  | cons x r ih => exact ih _ _ (Mem.wf_wr m a x h)

/-- Blanking addresses keeps the canonical form. -/
theorem Mem.wf_drop (m : Mem) (p : Nat → Bool) (h : m.wf = true) : (Mem.drop m p).wf = true := Tbl.wf_filter _ _ _ h

/-- A device-only change leaves the store. -/
@[simp] theorem Sys.on_nv (s : Sys) (f : Dev → Dev) : (s.on f).nv = s.nv := rfl
/-- A device-only change leaves the window. -/
@[simp] theorem Sys.on_ph (s : Sys) (f : Dev → Dev) : (s.on f).ph = s.ph := rfl
/-- A device-only change changes the device by its function. -/
@[simp] theorem Sys.on_dev (s : Sys) (f : Dev → Dev) : (s.on f).dev = f s.dev := rfl

end Sys2Proof.Machine
end

