-- ==== Sys2Proof/Laws/State.lean ====
section
/-! SUPPORT. Laws of the state's updates: for each field what every update leaves or makes of it. -/

namespace Sys2Proof.Machine

/-! ### The state and the device with its memories -/

@[simp] theorem State.sys_with_pending (s : State) (q : List Instr) : ({ s with pending := q } : State).sys = s.sys := rfl
@[simp] theorem State.pending_with_pending (s : State) (q : List Instr) : ({ s with pending := q } : State).pending = q := rfl
@[simp] theorem State.sys_with_sys (s : State) (x : Sys) : ({ s with sys := x } : State).sys = x := rfl
@[simp] theorem State.pending_with_sys (s : State) (x : Sys) : ({ s with sys := x } : State).pending = s.pending := rfl
@[simp] theorem Sys.dev_with_dev (s : Sys) (d : Dev) : ({ s with dev := d } : Sys).dev = d := rfl
@[simp] theorem Sys.nv_with_dev (s : Sys) (d : Dev) : ({ s with dev := d } : Sys).nv = s.nv := rfl
@[simp] theorem Sys.ph_with_dev (s : Sys) (d : Dev) : ({ s with dev := d } : Sys).ph = s.ph := rfl
@[simp] theorem Sys.dev_with_nv (s : Sys) (m : Mem) : ({ s with nv := m } : Sys).dev = s.dev := rfl
@[simp] theorem Sys.nv_with_nv (s : Sys) (m : Mem) : ({ s with nv := m } : Sys).nv = m := rfl
@[simp] theorem Sys.ph_with_nv (s : Sys) (m : Mem) : ({ s with nv := m } : Sys).ph = s.ph := rfl
@[simp] theorem Sys.dev_with_ph (s : Sys) (m : Mem) : ({ s with ph := m } : Sys).dev = s.dev := rfl
@[simp] theorem Sys.nv_with_ph (s : Sys) (m : Mem) : ({ s with ph := m } : Sys).nv = s.nv := rfl
@[simp] theorem Sys.ph_with_ph (s : Sys) (m : Mem) : ({ s with ph := m } : Sys).ph = m := rfl

/-! ### The parts of a device -/

/-- A register field reads what the register file holds. -/
theorem Dev.rd_congr (a b : Dev) (h : a.regs = b.regs) (r : Reg) (ix : Nat) : a.rd r ix = b.rd r ix := by
  unfold Dev.rd; rw [h]

/-- A register field of a device whose register file is that of `d` reads as in `d`. -/
@[simp] theorem Dev.rd_mk (d : Dev) (x1 : List Staged) (x2 : Nat) (x3 : Nat) (x4 : List Emission) (x5 : List (Nat ×
    Nat × Nat)) (x6 : List Nat) (x7 : TimeBase) (x8 : Tbl RingSt) (x9 : Tbl ChanSt) (x10 : RecSt) (x11 : LoopSt) (x12
    : Tbl RailSt) (x13 : Tbl PhSt) (x14 : BusSt) (x15 : ShelfSt) (x16 : Tbl FuseSt) (x17 : Tbl GroupSt) (x18 : PortSw)
    (x19 : SeqSt) (x20 : GovSt) (x21 : TelSt) (x22 : ThermSt) (x23 : MpSt) (x24 : HostSt) (x25 : AuSt) (x26 : Option
    CommitJob) (x27 : UpSt) (x28 : TwSt) (x29 : SpSt) (x30 : PwrSt) (r : Reg) (ix : Nat) : (Dev.mk d.regs x1 x2 x3 x4
    x5 x6 x7 x8 x9 x10 x11 x12 x13 x14 x15 x16 x17 x18 x19 x20 x21 x22 x23 x24 x25 x26 x27 x28 x29 x30).rd r ix = d.rd
    r ix := rfl

/-- The same for a flag. -/
@[simp] theorem Dev.fl_mk (d : Dev) (x1 : List Staged) (x2 : Nat) (x3 : Nat) (x4 : List Emission) (x5 : List (Nat ×
    Nat × Nat)) (x6 : List Nat) (x7 : TimeBase) (x8 : Tbl RingSt) (x9 : Tbl ChanSt) (x10 : RecSt) (x11 : LoopSt) (x12
    : Tbl RailSt) (x13 : Tbl PhSt) (x14 : BusSt) (x15 : ShelfSt) (x16 : Tbl FuseSt) (x17 : Tbl GroupSt) (x18 : PortSw)
    (x19 : SeqSt) (x20 : GovSt) (x21 : TelSt) (x22 : ThermSt) (x23 : MpSt) (x24 : HostSt) (x25 : AuSt) (x26 : Option
    CommitJob) (x27 : UpSt) (x28 : TwSt) (x29 : SpSt) (x30 : PwrSt) (r : Reg) (ix : Nat) : (Dev.mk d.regs x1 x2 x3 x4
    x5 x6 x7 x8 x9 x10 x11 x12 x13 x14 x15 x16 x17 x18 x19 x20 x21 x22 x23 x24 x25 x26 x27 x28 x29 x30).fl r ix = d.fl
    r ix := rfl

/-- The same for a signed reading. -/
@[simp] theorem Dev.rdS_mk (d : Dev) (x1 : List Staged) (x2 : Nat) (x3 : Nat) (x4 : List Emission) (x5 : List (Nat ×
    Nat × Nat)) (x6 : List Nat) (x7 : TimeBase) (x8 : Tbl RingSt) (x9 : Tbl ChanSt) (x10 : RecSt) (x11 : LoopSt) (x12
    : Tbl RailSt) (x13 : Tbl PhSt) (x14 : BusSt) (x15 : ShelfSt) (x16 : Tbl FuseSt) (x17 : Tbl GroupSt) (x18 : PortSw)
    (x19 : SeqSt) (x20 : GovSt) (x21 : TelSt) (x22 : ThermSt) (x23 : MpSt) (x24 : HostSt) (x25 : AuSt) (x26 : Option
    CommitJob) (x27 : UpSt) (x28 : TwSt) (x29 : SpSt) (x30 : PwrSt) (r : Reg) (ix : Nat) : (Dev.mk d.regs x1 x2 x3 x4
    x5 x6 x7 x8 x9 x10 x11 x12 x13 x14 x15 x16 x17 x18 x19 x20 x21 x22 x23 x24 x25 x26 x27 x28 x29 x30).rdS r ix =
    d.rdS r ix := rfl

@[simp] theorem Dev.setRg_rd (d : Dev) (r : Nat) (x : RingSt) (r' : Reg) (ix : Nat) : (d.setRg r x).rd r' ix = d.rd r' ix := rfl
@[simp] theorem Dev.setRg_fl (d : Dev) (r : Nat) (x : RingSt) (r' : Reg) (ix : Nat) : (d.setRg r x).fl r' ix = d.fl r' ix := rfl
@[simp] theorem Dev.setRg_regs (d : Dev) (r : Nat) (x : RingSt) : (d.setRg r x).regs = d.regs := rfl
@[simp] theorem Dev.setRg_rise (d : Dev) (r : Nat) (x : RingSt) : (d.setRg r x).rise = d.rise := rfl
@[simp] theorem Dev.setRg_staged (d : Dev) (r : Nat) (x : RingSt) : (d.setRg r x).staged = d.staged := rfl
@[simp] theorem Dev.setRg_freeCtr (d : Dev) (r : Nat) (x : RingSt) : (d.setRg r x).freeCtr = d.freeCtr := rfl
@[simp] theorem Dev.setRg_out (d : Dev) (r : Nat) (x : RingSt) : (d.setRg r x).out = d.out := rfl
@[simp] theorem Dev.setRg_tfq (d : Dev) (r : Nat) (x : RingSt) : (d.setRg r x).tfq = d.tfq := rfl
@[simp] theorem Dev.setRg_reval (d : Dev) (r : Nat) (x : RingSt) : (d.setRg r x).reval = d.reval := rfl
@[simp] theorem Dev.setRg_tb (d : Dev) (r : Nat) (x : RingSt) : (d.setRg r x).tb = d.tb := rfl
@[simp] theorem Dev.setRg_ch (d : Dev) (r : Nat) (x : RingSt) : (d.setRg r x).ch = d.ch := rfl
@[simp] theorem Dev.setRg_rcd (d : Dev) (r : Nat) (x : RingSt) : (d.setRg r x).rcd = d.rcd := rfl
@[simp] theorem Dev.setRg_le (d : Dev) (r : Nat) (x : RingSt) : (d.setRg r x).le = d.le := rfl
@[simp] theorem Dev.setRg_vr (d : Dev) (r : Nat) (x : RingSt) : (d.setRg r x).vr = d.vr := rfl
@[simp] theorem Dev.setRg_ph (d : Dev) (r : Nat) (x : RingSt) : (d.setRg r x).ph = d.ph := rfl
@[simp] theorem Dev.setRg_bus (d : Dev) (r : Nat) (x : RingSt) : (d.setRg r x).bus = d.bus := rfl
@[simp] theorem Dev.setRg_bs (d : Dev) (r : Nat) (x : RingSt) : (d.setRg r x).bs = d.bs := rfl
@[simp] theorem Dev.setRg_fuse (d : Dev) (r : Nat) (x : RingSt) : (d.setRg r x).fuse = d.fuse := rfl
@[simp] theorem Dev.setRg_grp (d : Dev) (r : Nat) (x : RingSt) : (d.setRg r x).grp = d.grp := rfl
@[simp] theorem Dev.setRg_ps (d : Dev) (r : Nat) (x : RingSt) : (d.setRg r x).ps = d.ps := rfl
@[simp] theorem Dev.setRg_seq (d : Dev) (r : Nat) (x : RingSt) : (d.setRg r x).seq = d.seq := rfl
@[simp] theorem Dev.setRg_gov (d : Dev) (r : Nat) (x : RingSt) : (d.setRg r x).gov = d.gov := rfl
@[simp] theorem Dev.setRg_tm (d : Dev) (r : Nat) (x : RingSt) : (d.setRg r x).tm = d.tm := rfl
@[simp] theorem Dev.setRg_th (d : Dev) (r : Nat) (x : RingSt) : (d.setRg r x).th = d.th := rfl
@[simp] theorem Dev.setRg_mp (d : Dev) (r : Nat) (x : RingSt) : (d.setRg r x).mp = d.mp := rfl
@[simp] theorem Dev.setRg_host (d : Dev) (r : Nat) (x : RingSt) : (d.setRg r x).host = d.host := rfl
@[simp] theorem Dev.setRg_au (d : Dev) (r : Nat) (x : RingSt) : (d.setRg r x).au = d.au := rfl
@[simp] theorem Dev.setRg_commit (d : Dev) (r : Nat) (x : RingSt) : (d.setRg r x).commit = d.commit := rfl
@[simp] theorem Dev.setRg_up (d : Dev) (r : Nat) (x : RingSt) : (d.setRg r x).up = d.up := rfl
@[simp] theorem Dev.setRg_tw (d : Dev) (r : Nat) (x : RingSt) : (d.setRg r x).tw = d.tw := rfl
@[simp] theorem Dev.setRg_sp (d : Dev) (r : Nat) (x : RingSt) : (d.setRg r x).sp = d.sp := rfl
@[simp] theorem Dev.setRg_pw (d : Dev) (r : Nat) (x : RingSt) : (d.setRg r x).pw = d.pw := rfl

@[simp] theorem Dev.setCh_rd (d : Dev) (c : Nat) (x : ChanSt) (r' : Reg) (ix : Nat) : (d.setCh c x).rd r' ix = d.rd r' ix := rfl
@[simp] theorem Dev.setCh_fl (d : Dev) (c : Nat) (x : ChanSt) (r' : Reg) (ix : Nat) : (d.setCh c x).fl r' ix = d.fl r' ix := rfl
@[simp] theorem Dev.setCh_regs (d : Dev) (c : Nat) (x : ChanSt) : (d.setCh c x).regs = d.regs := rfl
@[simp] theorem Dev.setCh_rise (d : Dev) (c : Nat) (x : ChanSt) : (d.setCh c x).rise = d.rise := rfl
@[simp] theorem Dev.setCh_staged (d : Dev) (c : Nat) (x : ChanSt) : (d.setCh c x).staged = d.staged := rfl
@[simp] theorem Dev.setCh_freeCtr (d : Dev) (c : Nat) (x : ChanSt) : (d.setCh c x).freeCtr = d.freeCtr := rfl
@[simp] theorem Dev.setCh_out (d : Dev) (c : Nat) (x : ChanSt) : (d.setCh c x).out = d.out := rfl
@[simp] theorem Dev.setCh_tfq (d : Dev) (c : Nat) (x : ChanSt) : (d.setCh c x).tfq = d.tfq := rfl
@[simp] theorem Dev.setCh_reval (d : Dev) (c : Nat) (x : ChanSt) : (d.setCh c x).reval = d.reval := rfl
@[simp] theorem Dev.setCh_tb (d : Dev) (c : Nat) (x : ChanSt) : (d.setCh c x).tb = d.tb := rfl
@[simp] theorem Dev.setCh_ring (d : Dev) (c : Nat) (x : ChanSt) : (d.setCh c x).ring = d.ring := rfl
@[simp] theorem Dev.setCh_rcd (d : Dev) (c : Nat) (x : ChanSt) : (d.setCh c x).rcd = d.rcd := rfl
@[simp] theorem Dev.setCh_le (d : Dev) (c : Nat) (x : ChanSt) : (d.setCh c x).le = d.le := rfl
@[simp] theorem Dev.setCh_vr (d : Dev) (c : Nat) (x : ChanSt) : (d.setCh c x).vr = d.vr := rfl
@[simp] theorem Dev.setCh_ph (d : Dev) (c : Nat) (x : ChanSt) : (d.setCh c x).ph = d.ph := rfl
@[simp] theorem Dev.setCh_bus (d : Dev) (c : Nat) (x : ChanSt) : (d.setCh c x).bus = d.bus := rfl
@[simp] theorem Dev.setCh_bs (d : Dev) (c : Nat) (x : ChanSt) : (d.setCh c x).bs = d.bs := rfl
@[simp] theorem Dev.setCh_fuse (d : Dev) (c : Nat) (x : ChanSt) : (d.setCh c x).fuse = d.fuse := rfl
@[simp] theorem Dev.setCh_grp (d : Dev) (c : Nat) (x : ChanSt) : (d.setCh c x).grp = d.grp := rfl
@[simp] theorem Dev.setCh_ps (d : Dev) (c : Nat) (x : ChanSt) : (d.setCh c x).ps = d.ps := rfl
@[simp] theorem Dev.setCh_seq (d : Dev) (c : Nat) (x : ChanSt) : (d.setCh c x).seq = d.seq := rfl
@[simp] theorem Dev.setCh_gov (d : Dev) (c : Nat) (x : ChanSt) : (d.setCh c x).gov = d.gov := rfl
@[simp] theorem Dev.setCh_tm (d : Dev) (c : Nat) (x : ChanSt) : (d.setCh c x).tm = d.tm := rfl
@[simp] theorem Dev.setCh_th (d : Dev) (c : Nat) (x : ChanSt) : (d.setCh c x).th = d.th := rfl
@[simp] theorem Dev.setCh_mp (d : Dev) (c : Nat) (x : ChanSt) : (d.setCh c x).mp = d.mp := rfl
@[simp] theorem Dev.setCh_host (d : Dev) (c : Nat) (x : ChanSt) : (d.setCh c x).host = d.host := rfl
@[simp] theorem Dev.setCh_au (d : Dev) (c : Nat) (x : ChanSt) : (d.setCh c x).au = d.au := rfl
@[simp] theorem Dev.setCh_commit (d : Dev) (c : Nat) (x : ChanSt) : (d.setCh c x).commit = d.commit := rfl
@[simp] theorem Dev.setCh_up (d : Dev) (c : Nat) (x : ChanSt) : (d.setCh c x).up = d.up := rfl
@[simp] theorem Dev.setCh_tw (d : Dev) (c : Nat) (x : ChanSt) : (d.setCh c x).tw = d.tw := rfl
@[simp] theorem Dev.setCh_sp (d : Dev) (c : Nat) (x : ChanSt) : (d.setCh c x).sp = d.sp := rfl
@[simp] theorem Dev.setCh_pw (d : Dev) (c : Nat) (x : ChanSt) : (d.setCh c x).pw = d.pw := rfl

@[simp] theorem Dev.setSlot_rd (d : Dev) (s : Nat) (x : SlotSt) (r' : Reg) (ix : Nat) : (d.setSlot s x).rd r' ix = d.rd r' ix := rfl
@[simp] theorem Dev.setSlot_fl (d : Dev) (s : Nat) (x : SlotSt) (r' : Reg) (ix : Nat) : (d.setSlot s x).fl r' ix = d.fl r' ix := rfl
@[simp] theorem Dev.setSlot_regs (d : Dev) (s : Nat) (x : SlotSt) : (d.setSlot s x).regs = d.regs := rfl
@[simp] theorem Dev.setSlot_rise (d : Dev) (s : Nat) (x : SlotSt) : (d.setSlot s x).rise = d.rise := rfl
@[simp] theorem Dev.setSlot_staged (d : Dev) (s : Nat) (x : SlotSt) : (d.setSlot s x).staged = d.staged := rfl
@[simp] theorem Dev.setSlot_freeCtr (d : Dev) (s : Nat) (x : SlotSt) : (d.setSlot s x).freeCtr = d.freeCtr := rfl
@[simp] theorem Dev.setSlot_out (d : Dev) (s : Nat) (x : SlotSt) : (d.setSlot s x).out = d.out := rfl
@[simp] theorem Dev.setSlot_tfq (d : Dev) (s : Nat) (x : SlotSt) : (d.setSlot s x).tfq = d.tfq := rfl
@[simp] theorem Dev.setSlot_reval (d : Dev) (s : Nat) (x : SlotSt) : (d.setSlot s x).reval = d.reval := rfl
@[simp] theorem Dev.setSlot_tb (d : Dev) (s : Nat) (x : SlotSt) : (d.setSlot s x).tb = d.tb := rfl
@[simp] theorem Dev.setSlot_ring (d : Dev) (s : Nat) (x : SlotSt) : (d.setSlot s x).ring = d.ring := rfl
@[simp] theorem Dev.setSlot_ch (d : Dev) (s : Nat) (x : SlotSt) : (d.setSlot s x).ch = d.ch := rfl
@[simp] theorem Dev.setSlot_rcd (d : Dev) (s : Nat) (x : SlotSt) : (d.setSlot s x).rcd = d.rcd := rfl
@[simp] theorem Dev.setSlot_vr (d : Dev) (s : Nat) (x : SlotSt) : (d.setSlot s x).vr = d.vr := rfl
@[simp] theorem Dev.setSlot_ph (d : Dev) (s : Nat) (x : SlotSt) : (d.setSlot s x).ph = d.ph := rfl
@[simp] theorem Dev.setSlot_bus (d : Dev) (s : Nat) (x : SlotSt) : (d.setSlot s x).bus = d.bus := rfl
@[simp] theorem Dev.setSlot_bs (d : Dev) (s : Nat) (x : SlotSt) : (d.setSlot s x).bs = d.bs := rfl
@[simp] theorem Dev.setSlot_fuse (d : Dev) (s : Nat) (x : SlotSt) : (d.setSlot s x).fuse = d.fuse := rfl
@[simp] theorem Dev.setSlot_grp (d : Dev) (s : Nat) (x : SlotSt) : (d.setSlot s x).grp = d.grp := rfl
@[simp] theorem Dev.setSlot_ps (d : Dev) (s : Nat) (x : SlotSt) : (d.setSlot s x).ps = d.ps := rfl
@[simp] theorem Dev.setSlot_seq (d : Dev) (s : Nat) (x : SlotSt) : (d.setSlot s x).seq = d.seq := rfl
@[simp] theorem Dev.setSlot_gov (d : Dev) (s : Nat) (x : SlotSt) : (d.setSlot s x).gov = d.gov := rfl
@[simp] theorem Dev.setSlot_tm (d : Dev) (s : Nat) (x : SlotSt) : (d.setSlot s x).tm = d.tm := rfl
@[simp] theorem Dev.setSlot_th (d : Dev) (s : Nat) (x : SlotSt) : (d.setSlot s x).th = d.th := rfl
@[simp] theorem Dev.setSlot_mp (d : Dev) (s : Nat) (x : SlotSt) : (d.setSlot s x).mp = d.mp := rfl
@[simp] theorem Dev.setSlot_host (d : Dev) (s : Nat) (x : SlotSt) : (d.setSlot s x).host = d.host := rfl
@[simp] theorem Dev.setSlot_au (d : Dev) (s : Nat) (x : SlotSt) : (d.setSlot s x).au = d.au := rfl
@[simp] theorem Dev.setSlot_commit (d : Dev) (s : Nat) (x : SlotSt) : (d.setSlot s x).commit = d.commit := rfl
@[simp] theorem Dev.setSlot_up (d : Dev) (s : Nat) (x : SlotSt) : (d.setSlot s x).up = d.up := rfl
@[simp] theorem Dev.setSlot_tw (d : Dev) (s : Nat) (x : SlotSt) : (d.setSlot s x).tw = d.tw := rfl
@[simp] theorem Dev.setSlot_sp (d : Dev) (s : Nat) (x : SlotSt) : (d.setSlot s x).sp = d.sp := rfl
@[simp] theorem Dev.setSlot_pw (d : Dev) (s : Nat) (x : SlotSt) : (d.setSlot s x).pw = d.pw := rfl

@[simp] theorem Dev.setFv_rd (d : Dev) (i : Nat) (x : Int) (r' : Reg) (ix : Nat) : (d.setFv i x).rd r' ix = d.rd r' ix := rfl
@[simp] theorem Dev.setFv_fl (d : Dev) (i : Nat) (x : Int) (r' : Reg) (ix : Nat) : (d.setFv i x).fl r' ix = d.fl r' ix := rfl
@[simp] theorem Dev.setFv_regs (d : Dev) (i : Nat) (x : Int) : (d.setFv i x).regs = d.regs := rfl
@[simp] theorem Dev.setFv_rise (d : Dev) (i : Nat) (x : Int) : (d.setFv i x).rise = d.rise := rfl
@[simp] theorem Dev.setFv_staged (d : Dev) (i : Nat) (x : Int) : (d.setFv i x).staged = d.staged := rfl
@[simp] theorem Dev.setFv_freeCtr (d : Dev) (i : Nat) (x : Int) : (d.setFv i x).freeCtr = d.freeCtr := rfl
@[simp] theorem Dev.setFv_out (d : Dev) (i : Nat) (x : Int) : (d.setFv i x).out = d.out := rfl
@[simp] theorem Dev.setFv_tfq (d : Dev) (i : Nat) (x : Int) : (d.setFv i x).tfq = d.tfq := rfl
@[simp] theorem Dev.setFv_reval (d : Dev) (i : Nat) (x : Int) : (d.setFv i x).reval = d.reval := rfl
@[simp] theorem Dev.setFv_tb (d : Dev) (i : Nat) (x : Int) : (d.setFv i x).tb = d.tb := rfl
@[simp] theorem Dev.setFv_ring (d : Dev) (i : Nat) (x : Int) : (d.setFv i x).ring = d.ring := rfl
@[simp] theorem Dev.setFv_ch (d : Dev) (i : Nat) (x : Int) : (d.setFv i x).ch = d.ch := rfl
@[simp] theorem Dev.setFv_rcd (d : Dev) (i : Nat) (x : Int) : (d.setFv i x).rcd = d.rcd := rfl
@[simp] theorem Dev.setFv_vr (d : Dev) (i : Nat) (x : Int) : (d.setFv i x).vr = d.vr := rfl
@[simp] theorem Dev.setFv_ph (d : Dev) (i : Nat) (x : Int) : (d.setFv i x).ph = d.ph := rfl
@[simp] theorem Dev.setFv_bus (d : Dev) (i : Nat) (x : Int) : (d.setFv i x).bus = d.bus := rfl
@[simp] theorem Dev.setFv_bs (d : Dev) (i : Nat) (x : Int) : (d.setFv i x).bs = d.bs := rfl
@[simp] theorem Dev.setFv_fuse (d : Dev) (i : Nat) (x : Int) : (d.setFv i x).fuse = d.fuse := rfl
@[simp] theorem Dev.setFv_grp (d : Dev) (i : Nat) (x : Int) : (d.setFv i x).grp = d.grp := rfl
@[simp] theorem Dev.setFv_ps (d : Dev) (i : Nat) (x : Int) : (d.setFv i x).ps = d.ps := rfl
@[simp] theorem Dev.setFv_seq (d : Dev) (i : Nat) (x : Int) : (d.setFv i x).seq = d.seq := rfl
@[simp] theorem Dev.setFv_gov (d : Dev) (i : Nat) (x : Int) : (d.setFv i x).gov = d.gov := rfl
@[simp] theorem Dev.setFv_tm (d : Dev) (i : Nat) (x : Int) : (d.setFv i x).tm = d.tm := rfl
@[simp] theorem Dev.setFv_th (d : Dev) (i : Nat) (x : Int) : (d.setFv i x).th = d.th := rfl
@[simp] theorem Dev.setFv_mp (d : Dev) (i : Nat) (x : Int) : (d.setFv i x).mp = d.mp := rfl
@[simp] theorem Dev.setFv_host (d : Dev) (i : Nat) (x : Int) : (d.setFv i x).host = d.host := rfl
@[simp] theorem Dev.setFv_au (d : Dev) (i : Nat) (x : Int) : (d.setFv i x).au = d.au := rfl
@[simp] theorem Dev.setFv_commit (d : Dev) (i : Nat) (x : Int) : (d.setFv i x).commit = d.commit := rfl
@[simp] theorem Dev.setFv_up (d : Dev) (i : Nat) (x : Int) : (d.setFv i x).up = d.up := rfl
@[simp] theorem Dev.setFv_tw (d : Dev) (i : Nat) (x : Int) : (d.setFv i x).tw = d.tw := rfl
@[simp] theorem Dev.setFv_sp (d : Dev) (i : Nat) (x : Int) : (d.setFv i x).sp = d.sp := rfl
@[simp] theorem Dev.setFv_pw (d : Dev) (i : Nat) (x : Int) : (d.setFv i x).pw = d.pw := rfl

@[simp] theorem Dev.setRail_rd (d : Dev) (n : Nat) (x : RailSt) (r' : Reg) (ix : Nat) : (d.setRail n x).rd r' ix = d.rd r' ix := rfl
@[simp] theorem Dev.setRail_fl (d : Dev) (n : Nat) (x : RailSt) (r' : Reg) (ix : Nat) : (d.setRail n x).fl r' ix = d.fl r' ix := rfl
@[simp] theorem Dev.setRail_regs (d : Dev) (n : Nat) (x : RailSt) : (d.setRail n x).regs = d.regs := rfl
@[simp] theorem Dev.setRail_rise (d : Dev) (n : Nat) (x : RailSt) : (d.setRail n x).rise = d.rise := rfl
@[simp] theorem Dev.setRail_staged (d : Dev) (n : Nat) (x : RailSt) : (d.setRail n x).staged = d.staged := rfl
@[simp] theorem Dev.setRail_freeCtr (d : Dev) (n : Nat) (x : RailSt) : (d.setRail n x).freeCtr = d.freeCtr := rfl
@[simp] theorem Dev.setRail_out (d : Dev) (n : Nat) (x : RailSt) : (d.setRail n x).out = d.out := rfl
@[simp] theorem Dev.setRail_tfq (d : Dev) (n : Nat) (x : RailSt) : (d.setRail n x).tfq = d.tfq := rfl
@[simp] theorem Dev.setRail_reval (d : Dev) (n : Nat) (x : RailSt) : (d.setRail n x).reval = d.reval := rfl
@[simp] theorem Dev.setRail_tb (d : Dev) (n : Nat) (x : RailSt) : (d.setRail n x).tb = d.tb := rfl
@[simp] theorem Dev.setRail_ring (d : Dev) (n : Nat) (x : RailSt) : (d.setRail n x).ring = d.ring := rfl
@[simp] theorem Dev.setRail_ch (d : Dev) (n : Nat) (x : RailSt) : (d.setRail n x).ch = d.ch := rfl
@[simp] theorem Dev.setRail_rcd (d : Dev) (n : Nat) (x : RailSt) : (d.setRail n x).rcd = d.rcd := rfl
@[simp] theorem Dev.setRail_le (d : Dev) (n : Nat) (x : RailSt) : (d.setRail n x).le = d.le := rfl
@[simp] theorem Dev.setRail_ph (d : Dev) (n : Nat) (x : RailSt) : (d.setRail n x).ph = d.ph := rfl
@[simp] theorem Dev.setRail_bus (d : Dev) (n : Nat) (x : RailSt) : (d.setRail n x).bus = d.bus := rfl
@[simp] theorem Dev.setRail_bs (d : Dev) (n : Nat) (x : RailSt) : (d.setRail n x).bs = d.bs := rfl
@[simp] theorem Dev.setRail_fuse (d : Dev) (n : Nat) (x : RailSt) : (d.setRail n x).fuse = d.fuse := rfl
@[simp] theorem Dev.setRail_grp (d : Dev) (n : Nat) (x : RailSt) : (d.setRail n x).grp = d.grp := rfl
@[simp] theorem Dev.setRail_ps (d : Dev) (n : Nat) (x : RailSt) : (d.setRail n x).ps = d.ps := rfl
@[simp] theorem Dev.setRail_seq (d : Dev) (n : Nat) (x : RailSt) : (d.setRail n x).seq = d.seq := rfl
@[simp] theorem Dev.setRail_gov (d : Dev) (n : Nat) (x : RailSt) : (d.setRail n x).gov = d.gov := rfl
@[simp] theorem Dev.setRail_tm (d : Dev) (n : Nat) (x : RailSt) : (d.setRail n x).tm = d.tm := rfl
@[simp] theorem Dev.setRail_th (d : Dev) (n : Nat) (x : RailSt) : (d.setRail n x).th = d.th := rfl
@[simp] theorem Dev.setRail_mp (d : Dev) (n : Nat) (x : RailSt) : (d.setRail n x).mp = d.mp := rfl
@[simp] theorem Dev.setRail_host (d : Dev) (n : Nat) (x : RailSt) : (d.setRail n x).host = d.host := rfl
@[simp] theorem Dev.setRail_au (d : Dev) (n : Nat) (x : RailSt) : (d.setRail n x).au = d.au := rfl
@[simp] theorem Dev.setRail_commit (d : Dev) (n : Nat) (x : RailSt) : (d.setRail n x).commit = d.commit := rfl
@[simp] theorem Dev.setRail_up (d : Dev) (n : Nat) (x : RailSt) : (d.setRail n x).up = d.up := rfl
@[simp] theorem Dev.setRail_tw (d : Dev) (n : Nat) (x : RailSt) : (d.setRail n x).tw = d.tw := rfl
@[simp] theorem Dev.setRail_sp (d : Dev) (n : Nat) (x : RailSt) : (d.setRail n x).sp = d.sp := rfl
@[simp] theorem Dev.setRail_pw (d : Dev) (n : Nat) (x : RailSt) : (d.setRail n x).pw = d.pw := rfl

@[simp] theorem Dev.setPhs_rd (d : Dev) (n h : Nat) (x : PhSt) (r' : Reg) (ix : Nat) : (d.setPhs n h x).rd r' ix = d.rd r' ix := rfl
@[simp] theorem Dev.setPhs_fl (d : Dev) (n h : Nat) (x : PhSt) (r' : Reg) (ix : Nat) : (d.setPhs n h x).fl r' ix = d.fl r' ix := rfl
@[simp] theorem Dev.setPhs_regs (d : Dev) (n h : Nat) (x : PhSt) : (d.setPhs n h x).regs = d.regs := rfl
@[simp] theorem Dev.setPhs_rise (d : Dev) (n h : Nat) (x : PhSt) : (d.setPhs n h x).rise = d.rise := rfl
@[simp] theorem Dev.setPhs_staged (d : Dev) (n h : Nat) (x : PhSt) : (d.setPhs n h x).staged = d.staged := rfl
@[simp] theorem Dev.setPhs_freeCtr (d : Dev) (n h : Nat) (x : PhSt) : (d.setPhs n h x).freeCtr = d.freeCtr := rfl
@[simp] theorem Dev.setPhs_out (d : Dev) (n h : Nat) (x : PhSt) : (d.setPhs n h x).out = d.out := rfl
@[simp] theorem Dev.setPhs_tfq (d : Dev) (n h : Nat) (x : PhSt) : (d.setPhs n h x).tfq = d.tfq := rfl
@[simp] theorem Dev.setPhs_reval (d : Dev) (n h : Nat) (x : PhSt) : (d.setPhs n h x).reval = d.reval := rfl
@[simp] theorem Dev.setPhs_tb (d : Dev) (n h : Nat) (x : PhSt) : (d.setPhs n h x).tb = d.tb := rfl
@[simp] theorem Dev.setPhs_ring (d : Dev) (n h : Nat) (x : PhSt) : (d.setPhs n h x).ring = d.ring := rfl
@[simp] theorem Dev.setPhs_ch (d : Dev) (n h : Nat) (x : PhSt) : (d.setPhs n h x).ch = d.ch := rfl
@[simp] theorem Dev.setPhs_rcd (d : Dev) (n h : Nat) (x : PhSt) : (d.setPhs n h x).rcd = d.rcd := rfl
@[simp] theorem Dev.setPhs_le (d : Dev) (n h : Nat) (x : PhSt) : (d.setPhs n h x).le = d.le := rfl
@[simp] theorem Dev.setPhs_vr (d : Dev) (n h : Nat) (x : PhSt) : (d.setPhs n h x).vr = d.vr := rfl
@[simp] theorem Dev.setPhs_bus (d : Dev) (n h : Nat) (x : PhSt) : (d.setPhs n h x).bus = d.bus := rfl
@[simp] theorem Dev.setPhs_bs (d : Dev) (n h : Nat) (x : PhSt) : (d.setPhs n h x).bs = d.bs := rfl
@[simp] theorem Dev.setPhs_fuse (d : Dev) (n h : Nat) (x : PhSt) : (d.setPhs n h x).fuse = d.fuse := rfl
@[simp] theorem Dev.setPhs_grp (d : Dev) (n h : Nat) (x : PhSt) : (d.setPhs n h x).grp = d.grp := rfl
@[simp] theorem Dev.setPhs_ps (d : Dev) (n h : Nat) (x : PhSt) : (d.setPhs n h x).ps = d.ps := rfl
@[simp] theorem Dev.setPhs_seq (d : Dev) (n h : Nat) (x : PhSt) : (d.setPhs n h x).seq = d.seq := rfl
@[simp] theorem Dev.setPhs_gov (d : Dev) (n h : Nat) (x : PhSt) : (d.setPhs n h x).gov = d.gov := rfl
@[simp] theorem Dev.setPhs_tm (d : Dev) (n h : Nat) (x : PhSt) : (d.setPhs n h x).tm = d.tm := rfl
@[simp] theorem Dev.setPhs_th (d : Dev) (n h : Nat) (x : PhSt) : (d.setPhs n h x).th = d.th := rfl
@[simp] theorem Dev.setPhs_mp (d : Dev) (n h : Nat) (x : PhSt) : (d.setPhs n h x).mp = d.mp := rfl
@[simp] theorem Dev.setPhs_host (d : Dev) (n h : Nat) (x : PhSt) : (d.setPhs n h x).host = d.host := rfl
@[simp] theorem Dev.setPhs_au (d : Dev) (n h : Nat) (x : PhSt) : (d.setPhs n h x).au = d.au := rfl
@[simp] theorem Dev.setPhs_commit (d : Dev) (n h : Nat) (x : PhSt) : (d.setPhs n h x).commit = d.commit := rfl
@[simp] theorem Dev.setPhs_up (d : Dev) (n h : Nat) (x : PhSt) : (d.setPhs n h x).up = d.up := rfl
@[simp] theorem Dev.setPhs_tw (d : Dev) (n h : Nat) (x : PhSt) : (d.setPhs n h x).tw = d.tw := rfl
@[simp] theorem Dev.setPhs_sp (d : Dev) (n h : Nat) (x : PhSt) : (d.setPhs n h x).sp = d.sp := rfl
@[simp] theorem Dev.setPhs_pw (d : Dev) (n h : Nat) (x : PhSt) : (d.setPhs n h x).pw = d.pw := rfl

@[simp] theorem Dev.setFuse_rd (d : Dev) (f : Nat) (x : FuseSt) (r' : Reg) (ix : Nat) : (d.setFuse f x).rd r' ix = d.rd r' ix := rfl
@[simp] theorem Dev.setFuse_fl (d : Dev) (f : Nat) (x : FuseSt) (r' : Reg) (ix : Nat) : (d.setFuse f x).fl r' ix = d.fl r' ix := rfl
@[simp] theorem Dev.setFuse_regs (d : Dev) (f : Nat) (x : FuseSt) : (d.setFuse f x).regs = d.regs := rfl
@[simp] theorem Dev.setFuse_rise (d : Dev) (f : Nat) (x : FuseSt) : (d.setFuse f x).rise = d.rise := rfl
@[simp] theorem Dev.setFuse_staged (d : Dev) (f : Nat) (x : FuseSt) : (d.setFuse f x).staged = d.staged := rfl
@[simp] theorem Dev.setFuse_freeCtr (d : Dev) (f : Nat) (x : FuseSt) : (d.setFuse f x).freeCtr = d.freeCtr := rfl
@[simp] theorem Dev.setFuse_out (d : Dev) (f : Nat) (x : FuseSt) : (d.setFuse f x).out = d.out := rfl
@[simp] theorem Dev.setFuse_tfq (d : Dev) (f : Nat) (x : FuseSt) : (d.setFuse f x).tfq = d.tfq := rfl
@[simp] theorem Dev.setFuse_reval (d : Dev) (f : Nat) (x : FuseSt) : (d.setFuse f x).reval = d.reval := rfl
@[simp] theorem Dev.setFuse_tb (d : Dev) (f : Nat) (x : FuseSt) : (d.setFuse f x).tb = d.tb := rfl
@[simp] theorem Dev.setFuse_ring (d : Dev) (f : Nat) (x : FuseSt) : (d.setFuse f x).ring = d.ring := rfl
@[simp] theorem Dev.setFuse_ch (d : Dev) (f : Nat) (x : FuseSt) : (d.setFuse f x).ch = d.ch := rfl
@[simp] theorem Dev.setFuse_rcd (d : Dev) (f : Nat) (x : FuseSt) : (d.setFuse f x).rcd = d.rcd := rfl
@[simp] theorem Dev.setFuse_le (d : Dev) (f : Nat) (x : FuseSt) : (d.setFuse f x).le = d.le := rfl
@[simp] theorem Dev.setFuse_vr (d : Dev) (f : Nat) (x : FuseSt) : (d.setFuse f x).vr = d.vr := rfl
@[simp] theorem Dev.setFuse_ph (d : Dev) (f : Nat) (x : FuseSt) : (d.setFuse f x).ph = d.ph := rfl
@[simp] theorem Dev.setFuse_bus (d : Dev) (f : Nat) (x : FuseSt) : (d.setFuse f x).bus = d.bus := rfl
@[simp] theorem Dev.setFuse_bs (d : Dev) (f : Nat) (x : FuseSt) : (d.setFuse f x).bs = d.bs := rfl
@[simp] theorem Dev.setFuse_grp (d : Dev) (f : Nat) (x : FuseSt) : (d.setFuse f x).grp = d.grp := rfl
@[simp] theorem Dev.setFuse_ps (d : Dev) (f : Nat) (x : FuseSt) : (d.setFuse f x).ps = d.ps := rfl
@[simp] theorem Dev.setFuse_seq (d : Dev) (f : Nat) (x : FuseSt) : (d.setFuse f x).seq = d.seq := rfl
@[simp] theorem Dev.setFuse_gov (d : Dev) (f : Nat) (x : FuseSt) : (d.setFuse f x).gov = d.gov := rfl
@[simp] theorem Dev.setFuse_tm (d : Dev) (f : Nat) (x : FuseSt) : (d.setFuse f x).tm = d.tm := rfl
@[simp] theorem Dev.setFuse_th (d : Dev) (f : Nat) (x : FuseSt) : (d.setFuse f x).th = d.th := rfl
@[simp] theorem Dev.setFuse_mp (d : Dev) (f : Nat) (x : FuseSt) : (d.setFuse f x).mp = d.mp := rfl
@[simp] theorem Dev.setFuse_host (d : Dev) (f : Nat) (x : FuseSt) : (d.setFuse f x).host = d.host := rfl
@[simp] theorem Dev.setFuse_au (d : Dev) (f : Nat) (x : FuseSt) : (d.setFuse f x).au = d.au := rfl
@[simp] theorem Dev.setFuse_commit (d : Dev) (f : Nat) (x : FuseSt) : (d.setFuse f x).commit = d.commit := rfl
@[simp] theorem Dev.setFuse_up (d : Dev) (f : Nat) (x : FuseSt) : (d.setFuse f x).up = d.up := rfl
@[simp] theorem Dev.setFuse_tw (d : Dev) (f : Nat) (x : FuseSt) : (d.setFuse f x).tw = d.tw := rfl
@[simp] theorem Dev.setFuse_sp (d : Dev) (f : Nat) (x : FuseSt) : (d.setFuse f x).sp = d.sp := rfl
@[simp] theorem Dev.setFuse_pw (d : Dev) (f : Nat) (x : FuseSt) : (d.setFuse f x).pw = d.pw := rfl

@[simp] theorem Dev.setFg_rd (d : Dev) (n : Nat) (x : GroupSt) (r' : Reg) (ix : Nat) : (d.setFg n x).rd r' ix = d.rd r' ix := rfl
@[simp] theorem Dev.setFg_fl (d : Dev) (n : Nat) (x : GroupSt) (r' : Reg) (ix : Nat) : (d.setFg n x).fl r' ix = d.fl r' ix := rfl
@[simp] theorem Dev.setFg_regs (d : Dev) (n : Nat) (x : GroupSt) : (d.setFg n x).regs = d.regs := rfl
@[simp] theorem Dev.setFg_rise (d : Dev) (n : Nat) (x : GroupSt) : (d.setFg n x).rise = d.rise := rfl
@[simp] theorem Dev.setFg_staged (d : Dev) (n : Nat) (x : GroupSt) : (d.setFg n x).staged = d.staged := rfl
@[simp] theorem Dev.setFg_freeCtr (d : Dev) (n : Nat) (x : GroupSt) : (d.setFg n x).freeCtr = d.freeCtr := rfl
@[simp] theorem Dev.setFg_out (d : Dev) (n : Nat) (x : GroupSt) : (d.setFg n x).out = d.out := rfl
@[simp] theorem Dev.setFg_tfq (d : Dev) (n : Nat) (x : GroupSt) : (d.setFg n x).tfq = d.tfq := rfl
@[simp] theorem Dev.setFg_reval (d : Dev) (n : Nat) (x : GroupSt) : (d.setFg n x).reval = d.reval := rfl
@[simp] theorem Dev.setFg_tb (d : Dev) (n : Nat) (x : GroupSt) : (d.setFg n x).tb = d.tb := rfl
@[simp] theorem Dev.setFg_ring (d : Dev) (n : Nat) (x : GroupSt) : (d.setFg n x).ring = d.ring := rfl
@[simp] theorem Dev.setFg_ch (d : Dev) (n : Nat) (x : GroupSt) : (d.setFg n x).ch = d.ch := rfl
@[simp] theorem Dev.setFg_rcd (d : Dev) (n : Nat) (x : GroupSt) : (d.setFg n x).rcd = d.rcd := rfl
@[simp] theorem Dev.setFg_le (d : Dev) (n : Nat) (x : GroupSt) : (d.setFg n x).le = d.le := rfl
@[simp] theorem Dev.setFg_vr (d : Dev) (n : Nat) (x : GroupSt) : (d.setFg n x).vr = d.vr := rfl
@[simp] theorem Dev.setFg_ph (d : Dev) (n : Nat) (x : GroupSt) : (d.setFg n x).ph = d.ph := rfl
@[simp] theorem Dev.setFg_bus (d : Dev) (n : Nat) (x : GroupSt) : (d.setFg n x).bus = d.bus := rfl
@[simp] theorem Dev.setFg_bs (d : Dev) (n : Nat) (x : GroupSt) : (d.setFg n x).bs = d.bs := rfl
@[simp] theorem Dev.setFg_fuse (d : Dev) (n : Nat) (x : GroupSt) : (d.setFg n x).fuse = d.fuse := rfl
@[simp] theorem Dev.setFg_ps (d : Dev) (n : Nat) (x : GroupSt) : (d.setFg n x).ps = d.ps := rfl
@[simp] theorem Dev.setFg_seq (d : Dev) (n : Nat) (x : GroupSt) : (d.setFg n x).seq = d.seq := rfl
@[simp] theorem Dev.setFg_gov (d : Dev) (n : Nat) (x : GroupSt) : (d.setFg n x).gov = d.gov := rfl
@[simp] theorem Dev.setFg_tm (d : Dev) (n : Nat) (x : GroupSt) : (d.setFg n x).tm = d.tm := rfl
@[simp] theorem Dev.setFg_th (d : Dev) (n : Nat) (x : GroupSt) : (d.setFg n x).th = d.th := rfl
@[simp] theorem Dev.setFg_mp (d : Dev) (n : Nat) (x : GroupSt) : (d.setFg n x).mp = d.mp := rfl
@[simp] theorem Dev.setFg_host (d : Dev) (n : Nat) (x : GroupSt) : (d.setFg n x).host = d.host := rfl
@[simp] theorem Dev.setFg_au (d : Dev) (n : Nat) (x : GroupSt) : (d.setFg n x).au = d.au := rfl
@[simp] theorem Dev.setFg_commit (d : Dev) (n : Nat) (x : GroupSt) : (d.setFg n x).commit = d.commit := rfl
@[simp] theorem Dev.setFg_up (d : Dev) (n : Nat) (x : GroupSt) : (d.setFg n x).up = d.up := rfl
@[simp] theorem Dev.setFg_tw (d : Dev) (n : Nat) (x : GroupSt) : (d.setFg n x).tw = d.tw := rfl
@[simp] theorem Dev.setFg_sp (d : Dev) (n : Nat) (x : GroupSt) : (d.setFg n x).sp = d.sp := rfl
@[simp] theorem Dev.setFg_pw (d : Dev) (n : Nat) (x : GroupSt) : (d.setFg n x).pw = d.pw := rfl

@[simp] theorem Dev.setEp_rd (d : Dev) (e : Nat) (x : HostEp) (r' : Reg) (ix : Nat) : (d.setEp e x).rd r' ix = d.rd r' ix := rfl
@[simp] theorem Dev.setEp_fl (d : Dev) (e : Nat) (x : HostEp) (r' : Reg) (ix : Nat) : (d.setEp e x).fl r' ix = d.fl r' ix := rfl
@[simp] theorem Dev.setEp_regs (d : Dev) (e : Nat) (x : HostEp) : (d.setEp e x).regs = d.regs := rfl
@[simp] theorem Dev.setEp_rise (d : Dev) (e : Nat) (x : HostEp) : (d.setEp e x).rise = d.rise := rfl
@[simp] theorem Dev.setEp_staged (d : Dev) (e : Nat) (x : HostEp) : (d.setEp e x).staged = d.staged := rfl
@[simp] theorem Dev.setEp_freeCtr (d : Dev) (e : Nat) (x : HostEp) : (d.setEp e x).freeCtr = d.freeCtr := rfl
@[simp] theorem Dev.setEp_out (d : Dev) (e : Nat) (x : HostEp) : (d.setEp e x).out = d.out := rfl
@[simp] theorem Dev.setEp_tfq (d : Dev) (e : Nat) (x : HostEp) : (d.setEp e x).tfq = d.tfq := rfl
@[simp] theorem Dev.setEp_reval (d : Dev) (e : Nat) (x : HostEp) : (d.setEp e x).reval = d.reval := rfl
@[simp] theorem Dev.setEp_tb (d : Dev) (e : Nat) (x : HostEp) : (d.setEp e x).tb = d.tb := rfl
@[simp] theorem Dev.setEp_ring (d : Dev) (e : Nat) (x : HostEp) : (d.setEp e x).ring = d.ring := rfl
@[simp] theorem Dev.setEp_ch (d : Dev) (e : Nat) (x : HostEp) : (d.setEp e x).ch = d.ch := rfl
@[simp] theorem Dev.setEp_rcd (d : Dev) (e : Nat) (x : HostEp) : (d.setEp e x).rcd = d.rcd := rfl
@[simp] theorem Dev.setEp_le (d : Dev) (e : Nat) (x : HostEp) : (d.setEp e x).le = d.le := rfl
@[simp] theorem Dev.setEp_vr (d : Dev) (e : Nat) (x : HostEp) : (d.setEp e x).vr = d.vr := rfl
@[simp] theorem Dev.setEp_ph (d : Dev) (e : Nat) (x : HostEp) : (d.setEp e x).ph = d.ph := rfl
@[simp] theorem Dev.setEp_bus (d : Dev) (e : Nat) (x : HostEp) : (d.setEp e x).bus = d.bus := rfl
@[simp] theorem Dev.setEp_bs (d : Dev) (e : Nat) (x : HostEp) : (d.setEp e x).bs = d.bs := rfl
@[simp] theorem Dev.setEp_fuse (d : Dev) (e : Nat) (x : HostEp) : (d.setEp e x).fuse = d.fuse := rfl
@[simp] theorem Dev.setEp_grp (d : Dev) (e : Nat) (x : HostEp) : (d.setEp e x).grp = d.grp := rfl
@[simp] theorem Dev.setEp_ps (d : Dev) (e : Nat) (x : HostEp) : (d.setEp e x).ps = d.ps := rfl
@[simp] theorem Dev.setEp_seq (d : Dev) (e : Nat) (x : HostEp) : (d.setEp e x).seq = d.seq := rfl
@[simp] theorem Dev.setEp_gov (d : Dev) (e : Nat) (x : HostEp) : (d.setEp e x).gov = d.gov := rfl
@[simp] theorem Dev.setEp_tm (d : Dev) (e : Nat) (x : HostEp) : (d.setEp e x).tm = d.tm := rfl
@[simp] theorem Dev.setEp_th (d : Dev) (e : Nat) (x : HostEp) : (d.setEp e x).th = d.th := rfl
@[simp] theorem Dev.setEp_mp (d : Dev) (e : Nat) (x : HostEp) : (d.setEp e x).mp = d.mp := rfl
@[simp] theorem Dev.setEp_au (d : Dev) (e : Nat) (x : HostEp) : (d.setEp e x).au = d.au := rfl
@[simp] theorem Dev.setEp_commit (d : Dev) (e : Nat) (x : HostEp) : (d.setEp e x).commit = d.commit := rfl
@[simp] theorem Dev.setEp_up (d : Dev) (e : Nat) (x : HostEp) : (d.setEp e x).up = d.up := rfl
@[simp] theorem Dev.setEp_tw (d : Dev) (e : Nat) (x : HostEp) : (d.setEp e x).tw = d.tw := rfl
@[simp] theorem Dev.setEp_sp (d : Dev) (e : Nat) (x : HostEp) : (d.setEp e x).sp = d.sp := rfl
@[simp] theorem Dev.setEp_pw (d : Dev) (e : Nat) (x : HostEp) : (d.setEp e x).pw = d.pw := rfl

@[simp] theorem Dev.setStp_rd (d : Dev) (s : Nat) (x : StepSt) (r' : Reg) (ix : Nat) : (d.setStp s x).rd r' ix = d.rd r' ix := rfl
@[simp] theorem Dev.setStp_fl (d : Dev) (s : Nat) (x : StepSt) (r' : Reg) (ix : Nat) : (d.setStp s x).fl r' ix = d.fl r' ix := rfl
@[simp] theorem Dev.setStp_regs (d : Dev) (s : Nat) (x : StepSt) : (d.setStp s x).regs = d.regs := rfl
@[simp] theorem Dev.setStp_rise (d : Dev) (s : Nat) (x : StepSt) : (d.setStp s x).rise = d.rise := rfl
@[simp] theorem Dev.setStp_staged (d : Dev) (s : Nat) (x : StepSt) : (d.setStp s x).staged = d.staged := rfl
@[simp] theorem Dev.setStp_freeCtr (d : Dev) (s : Nat) (x : StepSt) : (d.setStp s x).freeCtr = d.freeCtr := rfl
@[simp] theorem Dev.setStp_out (d : Dev) (s : Nat) (x : StepSt) : (d.setStp s x).out = d.out := rfl
@[simp] theorem Dev.setStp_tfq (d : Dev) (s : Nat) (x : StepSt) : (d.setStp s x).tfq = d.tfq := rfl
@[simp] theorem Dev.setStp_reval (d : Dev) (s : Nat) (x : StepSt) : (d.setStp s x).reval = d.reval := rfl
@[simp] theorem Dev.setStp_tb (d : Dev) (s : Nat) (x : StepSt) : (d.setStp s x).tb = d.tb := rfl
@[simp] theorem Dev.setStp_ring (d : Dev) (s : Nat) (x : StepSt) : (d.setStp s x).ring = d.ring := rfl
@[simp] theorem Dev.setStp_ch (d : Dev) (s : Nat) (x : StepSt) : (d.setStp s x).ch = d.ch := rfl
@[simp] theorem Dev.setStp_rcd (d : Dev) (s : Nat) (x : StepSt) : (d.setStp s x).rcd = d.rcd := rfl
@[simp] theorem Dev.setStp_le (d : Dev) (s : Nat) (x : StepSt) : (d.setStp s x).le = d.le := rfl
@[simp] theorem Dev.setStp_vr (d : Dev) (s : Nat) (x : StepSt) : (d.setStp s x).vr = d.vr := rfl
@[simp] theorem Dev.setStp_ph (d : Dev) (s : Nat) (x : StepSt) : (d.setStp s x).ph = d.ph := rfl
@[simp] theorem Dev.setStp_bus (d : Dev) (s : Nat) (x : StepSt) : (d.setStp s x).bus = d.bus := rfl
@[simp] theorem Dev.setStp_bs (d : Dev) (s : Nat) (x : StepSt) : (d.setStp s x).bs = d.bs := rfl
@[simp] theorem Dev.setStp_fuse (d : Dev) (s : Nat) (x : StepSt) : (d.setStp s x).fuse = d.fuse := rfl
@[simp] theorem Dev.setStp_grp (d : Dev) (s : Nat) (x : StepSt) : (d.setStp s x).grp = d.grp := rfl
@[simp] theorem Dev.setStp_ps (d : Dev) (s : Nat) (x : StepSt) : (d.setStp s x).ps = d.ps := rfl
@[simp] theorem Dev.setStp_gov (d : Dev) (s : Nat) (x : StepSt) : (d.setStp s x).gov = d.gov := rfl
@[simp] theorem Dev.setStp_tm (d : Dev) (s : Nat) (x : StepSt) : (d.setStp s x).tm = d.tm := rfl
@[simp] theorem Dev.setStp_th (d : Dev) (s : Nat) (x : StepSt) : (d.setStp s x).th = d.th := rfl
@[simp] theorem Dev.setStp_mp (d : Dev) (s : Nat) (x : StepSt) : (d.setStp s x).mp = d.mp := rfl
@[simp] theorem Dev.setStp_host (d : Dev) (s : Nat) (x : StepSt) : (d.setStp s x).host = d.host := rfl
@[simp] theorem Dev.setStp_au (d : Dev) (s : Nat) (x : StepSt) : (d.setStp s x).au = d.au := rfl
@[simp] theorem Dev.setStp_commit (d : Dev) (s : Nat) (x : StepSt) : (d.setStp s x).commit = d.commit := rfl
@[simp] theorem Dev.setStp_up (d : Dev) (s : Nat) (x : StepSt) : (d.setStp s x).up = d.up := rfl
@[simp] theorem Dev.setStp_tw (d : Dev) (s : Nat) (x : StepSt) : (d.setStp s x).tw = d.tw := rfl
@[simp] theorem Dev.setStp_sp (d : Dev) (s : Nat) (x : StepSt) : (d.setStp s x).sp = d.sp := rfl
@[simp] theorem Dev.setStp_pw (d : Dev) (s : Nat) (x : StepSt) : (d.setStp s x).pw = d.pw := rfl

@[simp] theorem Dev.setTc_rd (d : Dev) (c : Nat) (x : TelCh) (r' : Reg) (ix : Nat) : (d.setTc c x).rd r' ix = d.rd r' ix := rfl
@[simp] theorem Dev.setTc_fl (d : Dev) (c : Nat) (x : TelCh) (r' : Reg) (ix : Nat) : (d.setTc c x).fl r' ix = d.fl r' ix := rfl
@[simp] theorem Dev.setTc_regs (d : Dev) (c : Nat) (x : TelCh) : (d.setTc c x).regs = d.regs := rfl
@[simp] theorem Dev.setTc_rise (d : Dev) (c : Nat) (x : TelCh) : (d.setTc c x).rise = d.rise := rfl
@[simp] theorem Dev.setTc_staged (d : Dev) (c : Nat) (x : TelCh) : (d.setTc c x).staged = d.staged := rfl
@[simp] theorem Dev.setTc_freeCtr (d : Dev) (c : Nat) (x : TelCh) : (d.setTc c x).freeCtr = d.freeCtr := rfl
@[simp] theorem Dev.setTc_out (d : Dev) (c : Nat) (x : TelCh) : (d.setTc c x).out = d.out := rfl
@[simp] theorem Dev.setTc_tfq (d : Dev) (c : Nat) (x : TelCh) : (d.setTc c x).tfq = d.tfq := rfl
@[simp] theorem Dev.setTc_reval (d : Dev) (c : Nat) (x : TelCh) : (d.setTc c x).reval = d.reval := rfl
@[simp] theorem Dev.setTc_tb (d : Dev) (c : Nat) (x : TelCh) : (d.setTc c x).tb = d.tb := rfl
@[simp] theorem Dev.setTc_ring (d : Dev) (c : Nat) (x : TelCh) : (d.setTc c x).ring = d.ring := rfl
@[simp] theorem Dev.setTc_ch (d : Dev) (c : Nat) (x : TelCh) : (d.setTc c x).ch = d.ch := rfl
@[simp] theorem Dev.setTc_rcd (d : Dev) (c : Nat) (x : TelCh) : (d.setTc c x).rcd = d.rcd := rfl
@[simp] theorem Dev.setTc_le (d : Dev) (c : Nat) (x : TelCh) : (d.setTc c x).le = d.le := rfl
@[simp] theorem Dev.setTc_vr (d : Dev) (c : Nat) (x : TelCh) : (d.setTc c x).vr = d.vr := rfl
@[simp] theorem Dev.setTc_ph (d : Dev) (c : Nat) (x : TelCh) : (d.setTc c x).ph = d.ph := rfl
@[simp] theorem Dev.setTc_bus (d : Dev) (c : Nat) (x : TelCh) : (d.setTc c x).bus = d.bus := rfl
@[simp] theorem Dev.setTc_bs (d : Dev) (c : Nat) (x : TelCh) : (d.setTc c x).bs = d.bs := rfl
@[simp] theorem Dev.setTc_fuse (d : Dev) (c : Nat) (x : TelCh) : (d.setTc c x).fuse = d.fuse := rfl
@[simp] theorem Dev.setTc_grp (d : Dev) (c : Nat) (x : TelCh) : (d.setTc c x).grp = d.grp := rfl
@[simp] theorem Dev.setTc_ps (d : Dev) (c : Nat) (x : TelCh) : (d.setTc c x).ps = d.ps := rfl
@[simp] theorem Dev.setTc_seq (d : Dev) (c : Nat) (x : TelCh) : (d.setTc c x).seq = d.seq := rfl
@[simp] theorem Dev.setTc_gov (d : Dev) (c : Nat) (x : TelCh) : (d.setTc c x).gov = d.gov := rfl
@[simp] theorem Dev.setTc_th (d : Dev) (c : Nat) (x : TelCh) : (d.setTc c x).th = d.th := rfl
@[simp] theorem Dev.setTc_mp (d : Dev) (c : Nat) (x : TelCh) : (d.setTc c x).mp = d.mp := rfl
@[simp] theorem Dev.setTc_host (d : Dev) (c : Nat) (x : TelCh) : (d.setTc c x).host = d.host := rfl
@[simp] theorem Dev.setTc_au (d : Dev) (c : Nat) (x : TelCh) : (d.setTc c x).au = d.au := rfl
@[simp] theorem Dev.setTc_commit (d : Dev) (c : Nat) (x : TelCh) : (d.setTc c x).commit = d.commit := rfl
@[simp] theorem Dev.setTc_up (d : Dev) (c : Nat) (x : TelCh) : (d.setTc c x).up = d.up := rfl
@[simp] theorem Dev.setTc_tw (d : Dev) (c : Nat) (x : TelCh) : (d.setTc c x).tw = d.tw := rfl
@[simp] theorem Dev.setTc_sp (d : Dev) (c : Nat) (x : TelCh) : (d.setTc c x).sp = d.sp := rfl
@[simp] theorem Dev.setTc_pw (d : Dev) (c : Nat) (x : TelCh) : (d.setTc c x).pw = d.pw := rfl

@[simp] theorem Dev.setRly_rd (d : Dev) (r : Nat) (x : RelaySt) (r' : Reg) (ix : Nat) : (d.setRly r x).rd r' ix = d.rd r' ix := rfl
@[simp] theorem Dev.setRly_fl (d : Dev) (r : Nat) (x : RelaySt) (r' : Reg) (ix : Nat) : (d.setRly r x).fl r' ix = d.fl r' ix := rfl
@[simp] theorem Dev.setRly_regs (d : Dev) (r : Nat) (x : RelaySt) : (d.setRly r x).regs = d.regs := rfl
@[simp] theorem Dev.setRly_rise (d : Dev) (r : Nat) (x : RelaySt) : (d.setRly r x).rise = d.rise := rfl
@[simp] theorem Dev.setRly_staged (d : Dev) (r : Nat) (x : RelaySt) : (d.setRly r x).staged = d.staged := rfl
@[simp] theorem Dev.setRly_freeCtr (d : Dev) (r : Nat) (x : RelaySt) : (d.setRly r x).freeCtr = d.freeCtr := rfl
@[simp] theorem Dev.setRly_out (d : Dev) (r : Nat) (x : RelaySt) : (d.setRly r x).out = d.out := rfl
@[simp] theorem Dev.setRly_tfq (d : Dev) (r : Nat) (x : RelaySt) : (d.setRly r x).tfq = d.tfq := rfl
@[simp] theorem Dev.setRly_reval (d : Dev) (r : Nat) (x : RelaySt) : (d.setRly r x).reval = d.reval := rfl
@[simp] theorem Dev.setRly_tb (d : Dev) (r : Nat) (x : RelaySt) : (d.setRly r x).tb = d.tb := rfl
@[simp] theorem Dev.setRly_ring (d : Dev) (r : Nat) (x : RelaySt) : (d.setRly r x).ring = d.ring := rfl
@[simp] theorem Dev.setRly_ch (d : Dev) (r : Nat) (x : RelaySt) : (d.setRly r x).ch = d.ch := rfl
@[simp] theorem Dev.setRly_rcd (d : Dev) (r : Nat) (x : RelaySt) : (d.setRly r x).rcd = d.rcd := rfl
@[simp] theorem Dev.setRly_le (d : Dev) (r : Nat) (x : RelaySt) : (d.setRly r x).le = d.le := rfl
@[simp] theorem Dev.setRly_vr (d : Dev) (r : Nat) (x : RelaySt) : (d.setRly r x).vr = d.vr := rfl
@[simp] theorem Dev.setRly_ph (d : Dev) (r : Nat) (x : RelaySt) : (d.setRly r x).ph = d.ph := rfl
@[simp] theorem Dev.setRly_bus (d : Dev) (r : Nat) (x : RelaySt) : (d.setRly r x).bus = d.bus := rfl
@[simp] theorem Dev.setRly_bs (d : Dev) (r : Nat) (x : RelaySt) : (d.setRly r x).bs = d.bs := rfl
@[simp] theorem Dev.setRly_fuse (d : Dev) (r : Nat) (x : RelaySt) : (d.setRly r x).fuse = d.fuse := rfl
@[simp] theorem Dev.setRly_grp (d : Dev) (r : Nat) (x : RelaySt) : (d.setRly r x).grp = d.grp := rfl
@[simp] theorem Dev.setRly_ps (d : Dev) (r : Nat) (x : RelaySt) : (d.setRly r x).ps = d.ps := rfl
@[simp] theorem Dev.setRly_seq (d : Dev) (r : Nat) (x : RelaySt) : (d.setRly r x).seq = d.seq := rfl
@[simp] theorem Dev.setRly_gov (d : Dev) (r : Nat) (x : RelaySt) : (d.setRly r x).gov = d.gov := rfl
@[simp] theorem Dev.setRly_tm (d : Dev) (r : Nat) (x : RelaySt) : (d.setRly r x).tm = d.tm := rfl
@[simp] theorem Dev.setRly_th (d : Dev) (r : Nat) (x : RelaySt) : (d.setRly r x).th = d.th := rfl
@[simp] theorem Dev.setRly_mp (d : Dev) (r : Nat) (x : RelaySt) : (d.setRly r x).mp = d.mp := rfl
@[simp] theorem Dev.setRly_host (d : Dev) (r : Nat) (x : RelaySt) : (d.setRly r x).host = d.host := rfl
@[simp] theorem Dev.setRly_au (d : Dev) (r : Nat) (x : RelaySt) : (d.setRly r x).au = d.au := rfl
@[simp] theorem Dev.setRly_commit (d : Dev) (r : Nat) (x : RelaySt) : (d.setRly r x).commit = d.commit := rfl
@[simp] theorem Dev.setRly_tw (d : Dev) (r : Nat) (x : RelaySt) : (d.setRly r x).tw = d.tw := rfl
@[simp] theorem Dev.setRly_sp (d : Dev) (r : Nat) (x : RelaySt) : (d.setRly r x).sp = d.sp := rfl
@[simp] theorem Dev.setRly_pw (d : Dev) (r : Nat) (x : RelaySt) : (d.setRly r x).pw = d.pw := rfl

@[simp] theorem Dev.setFm_rd (d : Dev) (i : Nat) (x : FeederSt) (r' : Reg) (ix : Nat) : (d.setFm i x).rd r' ix = d.rd r' ix := rfl
@[simp] theorem Dev.setFm_fl (d : Dev) (i : Nat) (x : FeederSt) (r' : Reg) (ix : Nat) : (d.setFm i x).fl r' ix = d.fl r' ix := rfl
@[simp] theorem Dev.setFm_regs (d : Dev) (i : Nat) (x : FeederSt) : (d.setFm i x).regs = d.regs := rfl
@[simp] theorem Dev.setFm_rise (d : Dev) (i : Nat) (x : FeederSt) : (d.setFm i x).rise = d.rise := rfl
@[simp] theorem Dev.setFm_staged (d : Dev) (i : Nat) (x : FeederSt) : (d.setFm i x).staged = d.staged := rfl
@[simp] theorem Dev.setFm_freeCtr (d : Dev) (i : Nat) (x : FeederSt) : (d.setFm i x).freeCtr = d.freeCtr := rfl
@[simp] theorem Dev.setFm_out (d : Dev) (i : Nat) (x : FeederSt) : (d.setFm i x).out = d.out := rfl
@[simp] theorem Dev.setFm_tfq (d : Dev) (i : Nat) (x : FeederSt) : (d.setFm i x).tfq = d.tfq := rfl
@[simp] theorem Dev.setFm_reval (d : Dev) (i : Nat) (x : FeederSt) : (d.setFm i x).reval = d.reval := rfl
@[simp] theorem Dev.setFm_tb (d : Dev) (i : Nat) (x : FeederSt) : (d.setFm i x).tb = d.tb := rfl
@[simp] theorem Dev.setFm_ring (d : Dev) (i : Nat) (x : FeederSt) : (d.setFm i x).ring = d.ring := rfl
@[simp] theorem Dev.setFm_ch (d : Dev) (i : Nat) (x : FeederSt) : (d.setFm i x).ch = d.ch := rfl
@[simp] theorem Dev.setFm_rcd (d : Dev) (i : Nat) (x : FeederSt) : (d.setFm i x).rcd = d.rcd := rfl
@[simp] theorem Dev.setFm_le (d : Dev) (i : Nat) (x : FeederSt) : (d.setFm i x).le = d.le := rfl
@[simp] theorem Dev.setFm_vr (d : Dev) (i : Nat) (x : FeederSt) : (d.setFm i x).vr = d.vr := rfl
@[simp] theorem Dev.setFm_ph (d : Dev) (i : Nat) (x : FeederSt) : (d.setFm i x).ph = d.ph := rfl
@[simp] theorem Dev.setFm_bs (d : Dev) (i : Nat) (x : FeederSt) : (d.setFm i x).bs = d.bs := rfl
@[simp] theorem Dev.setFm_fuse (d : Dev) (i : Nat) (x : FeederSt) : (d.setFm i x).fuse = d.fuse := rfl
@[simp] theorem Dev.setFm_grp (d : Dev) (i : Nat) (x : FeederSt) : (d.setFm i x).grp = d.grp := rfl
@[simp] theorem Dev.setFm_ps (d : Dev) (i : Nat) (x : FeederSt) : (d.setFm i x).ps = d.ps := rfl
@[simp] theorem Dev.setFm_seq (d : Dev) (i : Nat) (x : FeederSt) : (d.setFm i x).seq = d.seq := rfl
@[simp] theorem Dev.setFm_gov (d : Dev) (i : Nat) (x : FeederSt) : (d.setFm i x).gov = d.gov := rfl
@[simp] theorem Dev.setFm_tm (d : Dev) (i : Nat) (x : FeederSt) : (d.setFm i x).tm = d.tm := rfl
@[simp] theorem Dev.setFm_th (d : Dev) (i : Nat) (x : FeederSt) : (d.setFm i x).th = d.th := rfl
@[simp] theorem Dev.setFm_mp (d : Dev) (i : Nat) (x : FeederSt) : (d.setFm i x).mp = d.mp := rfl
@[simp] theorem Dev.setFm_host (d : Dev) (i : Nat) (x : FeederSt) : (d.setFm i x).host = d.host := rfl
@[simp] theorem Dev.setFm_au (d : Dev) (i : Nat) (x : FeederSt) : (d.setFm i x).au = d.au := rfl
@[simp] theorem Dev.setFm_commit (d : Dev) (i : Nat) (x : FeederSt) : (d.setFm i x).commit = d.commit := rfl
@[simp] theorem Dev.setFm_up (d : Dev) (i : Nat) (x : FeederSt) : (d.setFm i x).up = d.up := rfl
@[simp] theorem Dev.setFm_tw (d : Dev) (i : Nat) (x : FeederSt) : (d.setFm i x).tw = d.tw := rfl
@[simp] theorem Dev.setFm_sp (d : Dev) (i : Nat) (x : FeederSt) : (d.setFm i x).sp = d.sp := rfl
@[simp] theorem Dev.setFm_pw (d : Dev) (i : Nat) (x : FeederSt) : (d.setFm i x).pw = d.pw := rfl

@[simp] theorem Dev.tfault_rd (d : Dev) (kind num cause : Nat) (r' : Reg) (ix : Nat) : (d.tfault kind num cause).rd r' ix = d.rd r' ix := rfl
@[simp] theorem Dev.tfault_fl (d : Dev) (kind num cause : Nat) (r' : Reg) (ix : Nat) : (d.tfault kind num cause).fl r' ix = d.fl r' ix := rfl
@[simp] theorem Dev.tfault_regs (d : Dev) (kind num cause : Nat) : (d.tfault kind num cause).regs = d.regs := rfl
@[simp] theorem Dev.tfault_rise (d : Dev) (kind num cause : Nat) : (d.tfault kind num cause).rise = d.rise := rfl
@[simp] theorem Dev.tfault_staged (d : Dev) (kind num cause : Nat) : (d.tfault kind num cause).staged = d.staged := rfl
@[simp] theorem Dev.tfault_freeCtr (d : Dev) (kind num cause : Nat) : (d.tfault kind num cause).freeCtr = d.freeCtr := rfl
@[simp] theorem Dev.tfault_out (d : Dev) (kind num cause : Nat) : (d.tfault kind num cause).out = d.out := rfl
@[simp] theorem Dev.tfault_tb (d : Dev) (kind num cause : Nat) : (d.tfault kind num cause).tb = d.tb := rfl
@[simp] theorem Dev.tfault_ring (d : Dev) (kind num cause : Nat) : (d.tfault kind num cause).ring = d.ring := rfl
@[simp] theorem Dev.tfault_ch (d : Dev) (kind num cause : Nat) : (d.tfault kind num cause).ch = d.ch := rfl
@[simp] theorem Dev.tfault_rcd (d : Dev) (kind num cause : Nat) : (d.tfault kind num cause).rcd = d.rcd := rfl
@[simp] theorem Dev.tfault_le (d : Dev) (kind num cause : Nat) : (d.tfault kind num cause).le = d.le := rfl
@[simp] theorem Dev.tfault_vr (d : Dev) (kind num cause : Nat) : (d.tfault kind num cause).vr = d.vr := rfl
@[simp] theorem Dev.tfault_ph (d : Dev) (kind num cause : Nat) : (d.tfault kind num cause).ph = d.ph := rfl
@[simp] theorem Dev.tfault_bus (d : Dev) (kind num cause : Nat) : (d.tfault kind num cause).bus = d.bus := rfl
@[simp] theorem Dev.tfault_bs (d : Dev) (kind num cause : Nat) : (d.tfault kind num cause).bs = d.bs := rfl
@[simp] theorem Dev.tfault_fuse (d : Dev) (kind num cause : Nat) : (d.tfault kind num cause).fuse = d.fuse := rfl
@[simp] theorem Dev.tfault_grp (d : Dev) (kind num cause : Nat) : (d.tfault kind num cause).grp = d.grp := rfl
@[simp] theorem Dev.tfault_ps (d : Dev) (kind num cause : Nat) : (d.tfault kind num cause).ps = d.ps := rfl
@[simp] theorem Dev.tfault_seq (d : Dev) (kind num cause : Nat) : (d.tfault kind num cause).seq = d.seq := rfl
@[simp] theorem Dev.tfault_gov (d : Dev) (kind num cause : Nat) : (d.tfault kind num cause).gov = d.gov := rfl
@[simp] theorem Dev.tfault_tm (d : Dev) (kind num cause : Nat) : (d.tfault kind num cause).tm = d.tm := rfl
@[simp] theorem Dev.tfault_th (d : Dev) (kind num cause : Nat) : (d.tfault kind num cause).th = d.th := rfl
@[simp] theorem Dev.tfault_mp (d : Dev) (kind num cause : Nat) : (d.tfault kind num cause).mp = d.mp := rfl
@[simp] theorem Dev.tfault_host (d : Dev) (kind num cause : Nat) : (d.tfault kind num cause).host = d.host := rfl
@[simp] theorem Dev.tfault_au (d : Dev) (kind num cause : Nat) : (d.tfault kind num cause).au = d.au := rfl
@[simp] theorem Dev.tfault_commit (d : Dev) (kind num cause : Nat) : (d.tfault kind num cause).commit = d.commit := rfl
@[simp] theorem Dev.tfault_up (d : Dev) (kind num cause : Nat) : (d.tfault kind num cause).up = d.up := rfl
@[simp] theorem Dev.tfault_tw (d : Dev) (kind num cause : Nat) : (d.tfault kind num cause).tw = d.tw := rfl
@[simp] theorem Dev.tfault_sp (d : Dev) (kind num cause : Nat) : (d.tfault kind num cause).sp = d.sp := rfl
@[simp] theorem Dev.tfault_pw (d : Dev) (kind num cause : Nat) : (d.tfault kind num cause).pw = d.pw := rfl

@[simp] theorem Dev.emit_rd (d : Dev) (e : Emission) (r' : Reg) (ix : Nat) : (d.emit e).rd r' ix = d.rd r' ix := rfl
@[simp] theorem Dev.emit_fl (d : Dev) (e : Emission) (r' : Reg) (ix : Nat) : (d.emit e).fl r' ix = d.fl r' ix := rfl
@[simp] theorem Dev.emit_regs (d : Dev) (e : Emission) : (d.emit e).regs = d.regs := rfl
@[simp] theorem Dev.emit_rise (d : Dev) (e : Emission) : (d.emit e).rise = d.rise := rfl
@[simp] theorem Dev.emit_staged (d : Dev) (e : Emission) : (d.emit e).staged = d.staged := rfl
@[simp] theorem Dev.emit_freeCtr (d : Dev) (e : Emission) : (d.emit e).freeCtr = d.freeCtr := rfl
@[simp] theorem Dev.emit_tfq (d : Dev) (e : Emission) : (d.emit e).tfq = d.tfq := rfl
@[simp] theorem Dev.emit_reval (d : Dev) (e : Emission) : (d.emit e).reval = d.reval := rfl
@[simp] theorem Dev.emit_tb (d : Dev) (e : Emission) : (d.emit e).tb = d.tb := rfl
@[simp] theorem Dev.emit_ring (d : Dev) (e : Emission) : (d.emit e).ring = d.ring := rfl
@[simp] theorem Dev.emit_ch (d : Dev) (e : Emission) : (d.emit e).ch = d.ch := rfl
@[simp] theorem Dev.emit_rcd (d : Dev) (e : Emission) : (d.emit e).rcd = d.rcd := rfl
@[simp] theorem Dev.emit_le (d : Dev) (e : Emission) : (d.emit e).le = d.le := rfl
@[simp] theorem Dev.emit_vr (d : Dev) (e : Emission) : (d.emit e).vr = d.vr := rfl
@[simp] theorem Dev.emit_ph (d : Dev) (e : Emission) : (d.emit e).ph = d.ph := rfl
@[simp] theorem Dev.emit_bus (d : Dev) (e : Emission) : (d.emit e).bus = d.bus := rfl
@[simp] theorem Dev.emit_bs (d : Dev) (e : Emission) : (d.emit e).bs = d.bs := rfl
@[simp] theorem Dev.emit_fuse (d : Dev) (e : Emission) : (d.emit e).fuse = d.fuse := rfl
@[simp] theorem Dev.emit_grp (d : Dev) (e : Emission) : (d.emit e).grp = d.grp := rfl
@[simp] theorem Dev.emit_ps (d : Dev) (e : Emission) : (d.emit e).ps = d.ps := rfl
@[simp] theorem Dev.emit_seq (d : Dev) (e : Emission) : (d.emit e).seq = d.seq := rfl
@[simp] theorem Dev.emit_gov (d : Dev) (e : Emission) : (d.emit e).gov = d.gov := rfl
@[simp] theorem Dev.emit_tm (d : Dev) (e : Emission) : (d.emit e).tm = d.tm := rfl
@[simp] theorem Dev.emit_th (d : Dev) (e : Emission) : (d.emit e).th = d.th := rfl
@[simp] theorem Dev.emit_mp (d : Dev) (e : Emission) : (d.emit e).mp = d.mp := rfl
@[simp] theorem Dev.emit_host (d : Dev) (e : Emission) : (d.emit e).host = d.host := rfl
@[simp] theorem Dev.emit_au (d : Dev) (e : Emission) : (d.emit e).au = d.au := rfl
@[simp] theorem Dev.emit_commit (d : Dev) (e : Emission) : (d.emit e).commit = d.commit := rfl
@[simp] theorem Dev.emit_up (d : Dev) (e : Emission) : (d.emit e).up = d.up := rfl
@[simp] theorem Dev.emit_tw (d : Dev) (e : Emission) : (d.emit e).tw = d.tw := rfl
@[simp] theorem Dev.emit_sp (d : Dev) (e : Emission) : (d.emit e).sp = d.sp := rfl
@[simp] theorem Dev.emit_pw (d : Dev) (e : Emission) : (d.emit e).pw = d.pw := rfl

@[simp] theorem Dev.freeNext_rd (d : Dev) (r' : Reg) (ix : Nat) : (d.freeNext).rd r' ix = d.rd r' ix := rfl
@[simp] theorem Dev.freeNext_fl (d : Dev) (r' : Reg) (ix : Nat) : (d.freeNext).fl r' ix = d.fl r' ix := rfl
@[simp] theorem Dev.freeNext_regs (d : Dev) : (d.freeNext).regs = d.regs := rfl
@[simp] theorem Dev.freeNext_rise (d : Dev) : (d.freeNext).rise = d.rise := rfl
@[simp] theorem Dev.freeNext_staged (d : Dev) : (d.freeNext).staged = d.staged := rfl
@[simp] theorem Dev.freeNext_out (d : Dev) : (d.freeNext).out = d.out := rfl
@[simp] theorem Dev.freeNext_tfq (d : Dev) : (d.freeNext).tfq = d.tfq := rfl
@[simp] theorem Dev.freeNext_reval (d : Dev) : (d.freeNext).reval = d.reval := rfl
@[simp] theorem Dev.freeNext_tb (d : Dev) : (d.freeNext).tb = d.tb := rfl
@[simp] theorem Dev.freeNext_ring (d : Dev) : (d.freeNext).ring = d.ring := rfl
@[simp] theorem Dev.freeNext_ch (d : Dev) : (d.freeNext).ch = d.ch := rfl
@[simp] theorem Dev.freeNext_rcd (d : Dev) : (d.freeNext).rcd = d.rcd := rfl
@[simp] theorem Dev.freeNext_le (d : Dev) : (d.freeNext).le = d.le := rfl
@[simp] theorem Dev.freeNext_vr (d : Dev) : (d.freeNext).vr = d.vr := rfl
@[simp] theorem Dev.freeNext_ph (d : Dev) : (d.freeNext).ph = d.ph := rfl
@[simp] theorem Dev.freeNext_bus (d : Dev) : (d.freeNext).bus = d.bus := rfl
@[simp] theorem Dev.freeNext_bs (d : Dev) : (d.freeNext).bs = d.bs := rfl
@[simp] theorem Dev.freeNext_fuse (d : Dev) : (d.freeNext).fuse = d.fuse := rfl
@[simp] theorem Dev.freeNext_grp (d : Dev) : (d.freeNext).grp = d.grp := rfl
@[simp] theorem Dev.freeNext_ps (d : Dev) : (d.freeNext).ps = d.ps := rfl
@[simp] theorem Dev.freeNext_seq (d : Dev) : (d.freeNext).seq = d.seq := rfl
@[simp] theorem Dev.freeNext_gov (d : Dev) : (d.freeNext).gov = d.gov := rfl
@[simp] theorem Dev.freeNext_tm (d : Dev) : (d.freeNext).tm = d.tm := rfl
@[simp] theorem Dev.freeNext_th (d : Dev) : (d.freeNext).th = d.th := rfl
@[simp] theorem Dev.freeNext_mp (d : Dev) : (d.freeNext).mp = d.mp := rfl
@[simp] theorem Dev.freeNext_host (d : Dev) : (d.freeNext).host = d.host := rfl
@[simp] theorem Dev.freeNext_au (d : Dev) : (d.freeNext).au = d.au := rfl
@[simp] theorem Dev.freeNext_commit (d : Dev) : (d.freeNext).commit = d.commit := rfl
@[simp] theorem Dev.freeNext_up (d : Dev) : (d.freeNext).up = d.up := rfl
@[simp] theorem Dev.freeNext_tw (d : Dev) : (d.freeNext).tw = d.tw := rfl
@[simp] theorem Dev.freeNext_sp (d : Dev) : (d.freeNext).sp = d.sp := rfl
@[simp] theorem Dev.freeNext_pw (d : Dev) : (d.freeNext).pw = d.pw := rfl

@[simp] theorem Dev.atStage_rd (d : Dev) (n : Nat) (r : Reg) (ix : Nat) : (d.atStage n).rd r ix = d.rd r ix := rfl
@[simp] theorem Dev.atStage_fl (d : Dev) (n : Nat) (r : Reg) (ix : Nat) : (d.atStage n).fl r ix = d.fl r ix := rfl
@[simp] theorem Dev.atStage_stage (d : Dev) (n : Nat) : (d.atStage n).tb.stage = n := rfl
@[simp] theorem Dev.atStage_rise (d : Dev) (n : Nat) : (d.atStage n).rise = d.rise := rfl
@[simp] theorem Dev.atStage_staged (d : Dev) (n : Nat) : (d.atStage n).staged = d.staged := rfl
@[simp] theorem Dev.atStage_freeCtr (d : Dev) (n : Nat) : (d.atStage n).freeCtr = d.freeCtr := rfl
@[simp] theorem Dev.atStage_out (d : Dev) (n : Nat) : (d.atStage n).out = d.out := rfl
@[simp] theorem Dev.atStage_tfq (d : Dev) (n : Nat) : (d.atStage n).tfq = d.tfq := rfl
@[simp] theorem Dev.atStage_reval (d : Dev) (n : Nat) : (d.atStage n).reval = d.reval := rfl
@[simp] theorem Dev.atStage_ring (d : Dev) (n : Nat) : (d.atStage n).ring = d.ring := rfl
@[simp] theorem Dev.atStage_ch (d : Dev) (n : Nat) : (d.atStage n).ch = d.ch := rfl
@[simp] theorem Dev.atStage_rcd (d : Dev) (n : Nat) : (d.atStage n).rcd = d.rcd := rfl
@[simp] theorem Dev.atStage_le (d : Dev) (n : Nat) : (d.atStage n).le = d.le := rfl
@[simp] theorem Dev.atStage_vr (d : Dev) (n : Nat) : (d.atStage n).vr = d.vr := rfl
@[simp] theorem Dev.atStage_ph (d : Dev) (n : Nat) : (d.atStage n).ph = d.ph := rfl
@[simp] theorem Dev.atStage_bus (d : Dev) (n : Nat) : (d.atStage n).bus = d.bus := rfl
@[simp] theorem Dev.atStage_bs (d : Dev) (n : Nat) : (d.atStage n).bs = d.bs := rfl
@[simp] theorem Dev.atStage_fuse (d : Dev) (n : Nat) : (d.atStage n).fuse = d.fuse := rfl
@[simp] theorem Dev.atStage_grp (d : Dev) (n : Nat) : (d.atStage n).grp = d.grp := rfl
@[simp] theorem Dev.atStage_ps (d : Dev) (n : Nat) : (d.atStage n).ps = d.ps := rfl
@[simp] theorem Dev.atStage_seq (d : Dev) (n : Nat) : (d.atStage n).seq = d.seq := rfl
@[simp] theorem Dev.atStage_gov (d : Dev) (n : Nat) : (d.atStage n).gov = d.gov := rfl
@[simp] theorem Dev.atStage_tm (d : Dev) (n : Nat) : (d.atStage n).tm = d.tm := rfl
@[simp] theorem Dev.atStage_th (d : Dev) (n : Nat) : (d.atStage n).th = d.th := rfl
@[simp] theorem Dev.atStage_mp (d : Dev) (n : Nat) : (d.atStage n).mp = d.mp := rfl
@[simp] theorem Dev.atStage_host (d : Dev) (n : Nat) : (d.atStage n).host = d.host := rfl
@[simp] theorem Dev.atStage_au (d : Dev) (n : Nat) : (d.atStage n).au = d.au := rfl
@[simp] theorem Dev.atStage_commit (d : Dev) (n : Nat) : (d.atStage n).commit = d.commit := rfl
@[simp] theorem Dev.atStage_up (d : Dev) (n : Nat) : (d.atStage n).up = d.up := rfl
@[simp] theorem Dev.atStage_tw (d : Dev) (n : Nat) : (d.atStage n).tw = d.tw := rfl
@[simp] theorem Dev.atStage_sp (d : Dev) (n : Nat) : (d.atStage n).sp = d.sp := rfl
@[simp] theorem Dev.atStage_pw (d : Dev) (n : Nat) : (d.atStage n).pw = d.pw := rfl
@[simp] theorem Dev.atStage_regs (d : Dev) (n : Nat) : (d.atStage n).regs = d.regs := rfl

@[simp] theorem handOver_rd (d : Dev) (r : Reg) (ix : Nat) : (handOver d).rd r ix = d.rd r ix := rfl
@[simp] theorem handOver_fl (d : Dev) (r : Reg) (ix : Nat) : (handOver d).fl r ix = d.fl r ix := rfl
@[simp] theorem handOver_rdS (d : Dev) (r : Reg) (ix : Nat) : (handOver d).rdS r ix = d.rdS r ix := rfl
@[simp] theorem handOver_rise (d : Dev) : (handOver d).rise = d.rise := rfl
@[simp] theorem handOver_staged (d : Dev) : (handOver d).staged = d.staged := rfl
@[simp] theorem handOver_freeCtr (d : Dev) : (handOver d).freeCtr = d.freeCtr := rfl
@[simp] theorem handOver_out (d : Dev) : (handOver d).out = d.out := rfl
@[simp] theorem handOver_tfq (d : Dev) : (handOver d).tfq = d.tfq := rfl
@[simp] theorem handOver_reval (d : Dev) : (handOver d).reval = d.reval := rfl
@[simp] theorem handOver_ring (d : Dev) : (handOver d).ring = d.ring := rfl
@[simp] theorem handOver_ch (d : Dev) : (handOver d).ch = d.ch := rfl
@[simp] theorem handOver_rcd (d : Dev) : (handOver d).rcd = d.rcd := rfl
@[simp] theorem handOver_le (d : Dev) : (handOver d).le = d.le := rfl
@[simp] theorem handOver_vr (d : Dev) : (handOver d).vr = d.vr := rfl
@[simp] theorem handOver_ph (d : Dev) : (handOver d).ph = d.ph := rfl
@[simp] theorem handOver_bus (d : Dev) : (handOver d).bus = d.bus := rfl
@[simp] theorem handOver_bs (d : Dev) : (handOver d).bs = d.bs := rfl
@[simp] theorem handOver_fuse (d : Dev) : (handOver d).fuse = d.fuse := rfl
@[simp] theorem handOver_grp (d : Dev) : (handOver d).grp = d.grp := rfl
@[simp] theorem handOver_ps (d : Dev) : (handOver d).ps = d.ps := rfl
@[simp] theorem handOver_seq (d : Dev) : (handOver d).seq = d.seq := rfl
@[simp] theorem handOver_gov (d : Dev) : (handOver d).gov = d.gov := rfl
@[simp] theorem handOver_tm (d : Dev) : (handOver d).tm = d.tm := rfl
@[simp] theorem handOver_th (d : Dev) : (handOver d).th = d.th := rfl
@[simp] theorem handOver_mp (d : Dev) : (handOver d).mp = d.mp := rfl
@[simp] theorem handOver_host (d : Dev) : (handOver d).host = d.host := rfl
@[simp] theorem handOver_au (d : Dev) : (handOver d).au = d.au := rfl
@[simp] theorem handOver_commit (d : Dev) : (handOver d).commit = d.commit := rfl
@[simp] theorem handOver_up (d : Dev) : (handOver d).up = d.up := rfl
@[simp] theorem handOver_tw (d : Dev) : (handOver d).tw = d.tw := rfl
@[simp] theorem handOver_sp (d : Dev) : (handOver d).sp = d.sp := rfl
@[simp] theorem handOver_pw (d : Dev) : (handOver d).pw = d.pw := rfl
@[simp] theorem handOver_regs (d : Dev) : (handOver d).regs = d.regs := rfl

/-! ### A unit reads back what it was set to -/

@[simp] theorem Dev.rg_setRg (d : Dev) (r : Nat) (x : RingSt) : (d.setRg r x).rg r = x := Tbl.get_set_same ..
theorem Dev.rg_setRg_ne (d : Dev) {r r' : Nat} (x : RingSt) (h : r' ≠ r) : (d.setRg r x).rg r' = d.rg r' := Tbl.get_set_ne _ _ _ _ h
@[simp] theorem Dev.chn_setCh (d : Dev) (r : Nat) (x : ChanSt) : (d.setCh r x).chn r = x := Tbl.get_set_same ..
theorem Dev.chn_setCh_ne (d : Dev) {r r' : Nat} (x : ChanSt) (h : r' ≠ r) : (d.setCh r x).chn r' = d.chn r' := Tbl.get_set_ne _ _ _ _ h
@[simp] theorem Dev.slot_setSlot (d : Dev) (r : Nat) (x : SlotSt) : (d.setSlot r x).slot r = x := Tbl.get_set_same ..
theorem Dev.slot_setSlot_ne (d : Dev) {r r' : Nat} (x : SlotSt) (h : r' ≠ r) : (d.setSlot r x).slot r' = d.slot r' := Tbl.get_set_ne _ _ _ _ h
@[simp] theorem Dev.rail_setRail (d : Dev) (r : Nat) (x : RailSt) : (d.setRail r x).rail r = x := Tbl.get_set_same ..
theorem Dev.rail_setRail_ne (d : Dev) {r r' : Nat} (x : RailSt) (h : r' ≠ r) : (d.setRail r x).rail r' = d.rail r' := Tbl.get_set_ne _ _ _ _ h
@[simp] theorem Dev.fuz_setFuse (d : Dev) (r : Nat) (x : FuseSt) : (d.setFuse r x).fuz r = x := Tbl.get_set_same ..
theorem Dev.fuz_setFuse_ne (d : Dev) {r r' : Nat} (x : FuseSt) (h : r' ≠ r) : (d.setFuse r x).fuz r' = d.fuz r' := Tbl.get_set_ne _ _ _ _ h
@[simp] theorem Dev.fg_setFg (d : Dev) (r : Nat) (x : GroupSt) : (d.setFg r x).fg r = x := Tbl.get_set_same ..
theorem Dev.fg_setFg_ne (d : Dev) {r r' : Nat} (x : GroupSt) (h : r' ≠ r) : (d.setFg r x).fg r' = d.fg r' := Tbl.get_set_ne _ _ _ _ h
@[simp] theorem Dev.hep_setEp (d : Dev) (r : Nat) (x : HostEp) : (d.setEp r x).hep r = x := Tbl.get_set_same ..
theorem Dev.hep_setEp_ne (d : Dev) {r r' : Nat} (x : HostEp) (h : r' ≠ r) : (d.setEp r x).hep r' = d.hep r' := Tbl.get_set_ne _ _ _ _ h
@[simp] theorem Dev.stp_setStp (d : Dev) (r : Nat) (x : StepSt) : (d.setStp r x).stp r = x := Tbl.get_set_same ..
theorem Dev.stp_setStp_ne (d : Dev) {r r' : Nat} (x : StepSt) (h : r' ≠ r) : (d.setStp r x).stp r' = d.stp r' := Tbl.get_set_ne _ _ _ _ h
@[simp] theorem Dev.rly_setRly (d : Dev) (r : Nat) (x : RelaySt) : (d.setRly r x).rly r = x := Tbl.get_set_same ..
theorem Dev.rly_setRly_ne (d : Dev) {r r' : Nat} (x : RelaySt) (h : r' ≠ r) : (d.setRly r x).rly r' = d.rly r' := Tbl.get_set_ne _ _ _ _ h
@[simp] theorem Dev.fm_setFm (d : Dev) (r : Nat) (x : FeederSt) : (d.setFm r x).fm r = x := Tbl.get_set_same ..
theorem Dev.fm_setFm_ne (d : Dev) {r r' : Nat} (x : FeederSt) (h : r' ≠ r) : (d.setFm r x).fm r' = d.fm r' := Tbl.get_set_ne _ _ _ _ h

end Sys2Proof.Machine
end

