-- ==== Sys2Proof/Laws/Frame.lean ====
section
/-! SUPPORT. Laws of the frame every command acts in: what each kind of row does in a quiet device, and the calculus of
`KeepsBut`. -/

namespace Sys2Proof.Machine
open R

/-- Two updates of the device are one. -/
theorem Sys.on_on (s : Sys) (f g : Dev → Dev) : (s.on f).on g = s.on (fun d => g (f d)) := rfl

/-! ### What follows a step -/

/-- With no shed waiting, nothing is shed. -/
theorem shedService_quiet (d : Dev) (h : d.bs.shedReq = 0) : shedService d = d := by simp [shedService, h]

/-- With no shed waiting, a machine is as it was. -/
theorem Sys.on_shedService (s : Sys) (h : s.dev.bs.shedReq = 0) : s.on shedService = s := by
  simp [Sys.on, shedService_quiet _ h]

/-! ### The kinds of rows -/

/-- A latch of the tick in a live device. -/
theorem latched_live (f : Dev → Dev) (s : Sys) (h : s.dev.live = true) : latched f s = s.on (fun d => shedService (f d)) := by
  simp [latched, h]

/-- A latch that reaches a memory, in a live device. -/
theorem latchedS_live (f : Sys → Sys) (s : Sys) (h : s.dev.live = true) : latchedS f s = (f s).on shedService := by
  simp [latchedS, h]

/-- Something that waits is taken. -/
theorem takes_has (has : Dev → Bool) (f : Dev → Dev) (s : Sys) (h : s.dev.live = true) (hd : has s.dev = true) :
    takes has f s = s.on (fun d => shedService (f d)) := by simp [takes, latched, h, hd, Sys.on]

/-- With nothing waiting, a step changes no more than what follows any step. -/
theorem takes_idle (has : Dev → Bool) (f : Dev → Dev) (s : Sys) (hq : s.dev.quiet) (hd : has s.dev = false) :
    takes has f s = s := by simp [takes, latched, hq.1, hd, Sys.on, shedService_quiet _ hq.2]

/-- Something that waits is taken, and reaches a memory. -/
theorem takesS_has (has : Dev → Bool) (f : Sys → Sys) (s : Sys) (h : s.dev.live = true) (hd : has s.dev = true) :
    takesS has f s = (f s).on shedService := by simp [takesS, latchedS, h, hd]

/-- A command whose turn has come acts at once. -/
theorem handed_turn (x : Dev → DispItem) (f : Sys → Sys) (s : State) (h : s.turn) :
    handed x f s.sys = (f (s.atCommands.on handOver)).on shedService := by
  obtain ⟨hl, ⟨ho, hq⟩, hn, hk⟩ := h
  unfold State.atCommands at *
  simp [handed, hl, ho, hq.1, hn, hk]

/-- A command word of an accessor other than the service port, admitted by the word, is a command of the dispatcher. -/
theorem wordCmd_handed (a : Accessor) (ofs v : Nat) (f : Dev → Dev) (s : Sys) (ha : ¬ 3 ≤ accIx a)
    (hk : writeKind s.dev (accIx a) ofs v = 0) : wordCmd a ofs v f s = handed (wordItem a ofs v) (fun s => s.on f) s := by
  unfold wordCmd
  rw [if_neg ha]
  exact if_pos hk

/-- It acts when its turn has come. -/
theorem wordCmd_turn (a : Accessor) (ofs v : Nat) (f : Dev → Dev) (s : State) (h : s.turn) (ha : a ≠ .sp)
    (hk : writeKind s.sys.dev (accIx a) ofs v = 0) :
    wordCmd a ofs v f s.sys = s.atCommands.on (fun d => shedService (f (handOver d))) := by
  have hx : ¬ 3 ≤ accIx a := by cases a <;> simp_all [accIx]
  rw [wordCmd_handed a ofs v f s.sys hx hk, handed_turn _ _ s h, Sys.on_on, Sys.on_on]

/-! ### A command completes by what its row does -/

/-- A latch completes where nothing waits after it. -/
theorem completes_latched {c : Instr} {s : State} {Q : Sys → Prop} (f : Dev → Dev) (he : exec c s = sysRow (latched f) s)
    (hl : s.sys.dev.live = true) (h2 : (f s.sys.dev).bs.shedReq = 0)
    (hQ : Q { s.sys with dev := f s.sys.dev }) : ∃ t : State, exec c s = .next t ∧ t.pending = s.pending ∧ Q t.sys := by
  refine ⟨_, he.trans rfl, rfl, ?_⟩
  simpa [latched_live _ _ hl, Sys.on, shedService_quiet _ h2] using hQ

/-- A latch that reaches a memory. -/
theorem completes_latchedS {c : Instr} {s : State} {Q : Sys → Prop} (f : Sys → Sys) (he : exec c s = sysRow (latchedS f) s)
    (hl : s.sys.dev.live = true) (h2 : (f s.sys).dev.bs.shedReq = 0) (hQ : Q (f s.sys)) :
    ∃ t : State, exec c s = .next t ∧ t.pending = s.pending ∧ Q t.sys := by
  refine ⟨_, he.trans rfl, rfl, ?_⟩
  simpa [latchedS_live _ _ hl, Sys.on, shedService_quiet _ h2] using hQ

/-- A step that takes what waits for it. -/
theorem completes_takes {c : Instr} {s : State} {Q : Sys → Prop} (has : Dev → Bool) (f : Dev → Dev)
    (he : exec c s = sysRow (takes has f) s) (hl : s.sys.dev.live = true) (hd : has s.sys.dev = true)
    (h2 : (f s.sys.dev).bs.shedReq = 0) (hQ : Q { s.sys with dev := f s.sys.dev }) :
    ∃ t : State, exec c s = .next t ∧ t.pending = s.pending ∧ Q t.sys := by
  refine ⟨_, he.trans rfl, rfl, ?_⟩
  simpa [takes_has _ _ _ hl hd, Sys.on, shedService_quiet _ h2] using hQ

/-- A step of phase B, where it is due. -/
theorem completes_judged {c : Instr} {s : State} {Q : Sys → Prop} (due : Dev → Bool) (f : Dev → Dev)
    (he : exec c s = sysRow (judged due f) s) (hj : s.judging) (hd : due s.atCommands.dev = true)
    (h2 : (f s.atCommands.dev).bs.shedReq = 0) (hQ : Q { s.atCommands with dev := f s.atCommands.dev }) :
    ∃ t : State, exec c s = .next t ∧ t.pending = s.pending ∧ Q t.sys := by
  refine ⟨_, he.trans rfl, rfl, ?_⟩
  obtain ⟨ho, hq⟩ := hj
  unfold State.atCommands at *
  simpa [judged, ho, takes_has _ _ _ hq.1 hd, Sys.on, shedService_quiet _ h2] using hQ

/-- The expiry of a timer, where it is due. -/
theorem completes_timed {c : Instr} {s : State} {Q : Sys → Prop} (due : Dev → Bool) (f : Dev → Dev)
    (he : exec c s = sysRow (timed due f) s) (hx : s.expiring) (hd : due s.atTimers.dev = true)
    (h2 : (f s.atTimers.dev).bs.shedReq = 0) (hQ : Q { s.atTimers with dev := f s.atTimers.dev }) :
    ∃ t : State, exec c s = .next t ∧ t.pending = s.pending ∧ Q t.sys := by
  refine ⟨_, he.trans rfl, rfl, ?_⟩
  obtain ⟨ho, hq⟩ := hx
  unfold State.atTimers at *
  simpa [timed, ho, takes_has _ _ _ hq.1 hd, Sys.on, shedService_quiet _ h2] using hQ

/-- The expiry of a timer that reaches a memory. -/
theorem completes_timedS {c : Instr} {s : State} {Q : Sys → Prop} (due : Dev → Bool) (f : Sys → Sys)
    (he : exec c s = sysRow (timedS due f) s) (hx : s.expiring) (hd : due s.atTimers.dev = true)
    (h2 : (f s.atTimers).dev.bs.shedReq = 0) (hQ : Q (f s.atTimers)) :
    ∃ t : State, exec c s = .next t ∧ t.pending = s.pending ∧ Q t.sys := by
  refine ⟨_, he.trans rfl, rfl, ?_⟩
  obtain ⟨ho, hq⟩ := hx
  unfold State.atTimers at *
  simpa [timedS, ho, takesS_has _ _ _ hq.1 hd, Sys.on, shedService_quiet _ h2] using hQ

/-- A command word whose turn has come. -/
theorem completes_wordCmd {c : Instr} {s : State} {Q : Sys → Prop} (a : Accessor) (ofs v : Nat) (f : Dev → Dev)
    (he : exec c s = sysRow (wordCmd a ofs v f) s) (ht : s.turn) (ha : a ≠ .sp)
    (hk : writeKind s.sys.dev (accIx a) ofs v = 0)
    (h2 : (f (handOver s.atCommands.dev)).bs.shedReq = 0)
    (hQ : Q { s.atCommands with dev := f (handOver s.atCommands.dev) }) :
    ∃ t : State, exec c s = .next t ∧ t.pending = s.pending ∧ Q t.sys := by
  refine ⟨_, he.trans rfl, rfl, ?_⟩
  simpa [wordCmd_turn _ _ _ _ _ ht ha hk, Sys.on, shedService_quiet _ h2] using hQ

/-- A host command whose turn has come. -/
theorem completes_hostCmd {c : Instr} {s : State} {Q : Sys → Prop} (op : Nat) (h : Sender) (args : List (Nat × List Nat))
    (mk : Sys → List Nat → List HCtx → HCmd) (he : exec c s = sysRow (hostCmd op h args mk) s) (ht : s.turn)
    (h2 : (hostDirect (s.atCommands.on handOver) op h args mk).dev.bs.shedReq = 0)
    (hQ : Q (hostDirect (s.atCommands.on handOver) op h args mk)) :
    ∃ t : State, exec c s = .next t ∧ t.pending = s.pending ∧ Q t.sys := by
  refine ⟨_, he.trans rfl, rfl, ?_⟩
  show Q (hostCmd op h args mk s.sys)
  unfold hostCmd
  rw [handed_turn _ _ _ ht, Sys.on_shedService _ h2]
  exact hQ

/-- A command that acts on the device alone. -/
theorem completes_dev {c : Instr} {s : State} {Q : Sys → Prop} (f : Dev → Dev) (he : exec c s = devRow f s)
    (hQ : Q { s.sys with dev := f s.sys.dev }) : ∃ t : State, exec c s = .next t ∧ t.pending = s.pending ∧ Q t.sys :=
  ⟨_, he.trans rfl, rfl, hQ⟩

/-! ### The calculus of `KeepsBut` -/

theorem KeepsBut.refl (l : List (Reg × Nat)) (d : Dev) : KeepsBut l d d := fun _ _ _ => rfl

theorem KeepsBut.trans {l : List (Reg × Nat)} {a b c : Dev} (h : KeepsBut l a b) (h' : KeepsBut l b c) : KeepsBut l a c :=
  fun r ix x => (h' r ix x).trans (h r ix x)

theorem KeepsBut.wr {l : List (Reg × Nat)} {a b : Dev} (h : KeepsBut l a b) (r : Reg) (ix v : Nat) (m : (r, ix) ∈ l) :
    KeepsBut l a (b.wr r ix v) := fun r' ix' x => (Dev.rd_wr_out b v (x _ m)).trans (h r' ix' x)

theorem KeepsBut.ev {l : List (Reg × Nat)} {a b : Dev} (h : KeepsBut l a b) (r : Reg) (ix : Nat) (m : (r, ix) ∈ l) :
    KeepsBut l a (b.ev r ix) := fun r' ix' x => (Dev.rd_ev_out b (x _ m)).trans (h r' ix' x)

theorem KeepsBut.mono {l l' : List (Reg × Nat)} {a b : Dev} (h : KeepsBut l a b) (m : ∀ x ∈ l, x ∈ l') : KeepsBut l' a b :=
  fun r ix x => h r ix (fun f hf => x f (m f hf))

theorem KeepsBut.alert {l : List (Reg × Nat)} {a b : Dev} (h : KeepsBut l a b) (r : Reg) (m : (r, 0) ∈ l)
    (m' : (TW_STATUS_TWB_ALERT, 0) ∈ l) : KeepsBut l a (b.alert r) := by
  unfold Dev.alert
  dsimp only
  split
  · exact h
  · split
    · exact (h.wr r 0 1 m).wr TW_STATUS_TWB_ALERT 0 1 m'
    · exact h.wr r 0 1 m

/-- A device with the same register file keeps everything. -/
theorem KeepsBut.of_regs {l : List (Reg × Nat)} {a b c : Dev} (h : KeepsBut l a b) (hr : c.regs = b.regs) :
    KeepsBut l a c := fun r ix x => (Dev.rd_congr c b hr r ix).trans (h r ix x)

/-- A device with the register file of `b` keeps what `b` keeps. -/
theorem KeepsBut.mk {l : List (Reg × Nat)} {a b : Dev} (h : KeepsBut l a b) (x1 : List Staged) (x2 : Nat) (x3 : Nat)
    (x4 : List Emission) (x5 : List (Nat × Nat × Nat)) (x6 : List Nat) (x7 : TimeBase) (x8 : Tbl RingSt) (x9 : Tbl
    ChanSt) (x10 : RecSt) (x11 : LoopSt) (x12 : Tbl RailSt) (x13 : Tbl PhSt) (x14 : BusSt) (x15 : ShelfSt) (x16 : Tbl
    FuseSt) (x17 : Tbl GroupSt) (x18 : PortSw) (x19 : SeqSt) (x20 : GovSt) (x21 : TelSt) (x22 : ThermSt) (x23 : MpSt)
    (x24 : HostSt) (x25 : AuSt) (x26 : Option CommitJob) (x27 : UpSt) (x28 : TwSt) (x29 : SpSt) (x30 : PwrSt) :
    KeepsBut l a (Dev.mk b.regs x1 x2 x3 x4 x5 x6 x7 x8 x9 x10 x11 x12 x13 x14 x15 x16 x17 x18 x19 x20 x21 x22 x23 x24
    x25 x26 x27 x28 x29 x30) := h

theorem KeepsBut.setRg {l : List (Reg × Nat)} {a b : Dev} (h : KeepsBut l a b) (r : Nat) (x : RingSt) : KeepsBut l a (b.setRg r x) := h

theorem KeepsBut.setCh {l : List (Reg × Nat)} {a b : Dev} (h : KeepsBut l a b) (c : Nat) (x : ChanSt) : KeepsBut l a (b.setCh c x) := h

theorem KeepsBut.setSlot {l : List (Reg × Nat)} {a b : Dev} (h : KeepsBut l a b) (k : Nat) (x : SlotSt) : KeepsBut l a (b.setSlot k x) := h

theorem KeepsBut.setFv {l : List (Reg × Nat)} {a b : Dev} (h : KeepsBut l a b) (k : Nat) (x : Int) : KeepsBut l a (b.setFv k x) := h

theorem KeepsBut.setRail {l : List (Reg × Nat)} {a b : Dev} (h : KeepsBut l a b) (k : Nat) (x : RailSt) : KeepsBut l a (b.setRail k x) := h

theorem KeepsBut.setFuse {l : List (Reg × Nat)} {a b : Dev} (h : KeepsBut l a b) (k : Nat) (x : FuseSt) : KeepsBut l a (b.setFuse k x) := h

theorem KeepsBut.setFg {l : List (Reg × Nat)} {a b : Dev} (h : KeepsBut l a b) (k : Nat) (x : GroupSt) : KeepsBut l a (b.setFg k x) := h

theorem KeepsBut.setEp {l : List (Reg × Nat)} {a b : Dev} (h : KeepsBut l a b) (k : Nat) (x : HostEp) : KeepsBut l a (b.setEp k x) := h

theorem KeepsBut.setStp {l : List (Reg × Nat)} {a b : Dev} (h : KeepsBut l a b) (k : Nat) (x : StepSt) : KeepsBut l a (b.setStp k x) := h

theorem KeepsBut.setRly {l : List (Reg × Nat)} {a b : Dev} (h : KeepsBut l a b) (k : Nat) (x : RelaySt) : KeepsBut l a (b.setRly k x) := h

theorem KeepsBut.setFm {l : List (Reg × Nat)} {a b : Dev} (h : KeepsBut l a b) (k : Nat) (x : FeederSt) : KeepsBut l a (b.setFm k x) := h

theorem KeepsBut.tfault {l : List (Reg × Nat)} {a b : Dev} (h : KeepsBut l a b) (k n c : Nat) : KeepsBut l a (b.tfault k n c) := h

theorem KeepsBut.emit {l : List (Reg × Nat)} {a b : Dev} (h : KeepsBut l a b) (e : Emission) : KeepsBut l a (b.emit e) := h

theorem KeepsBut.freeNext {l : List (Reg × Nat)} {a b : Dev} (h : KeepsBut l a b) : KeepsBut l a (b.freeNext) := h

theorem KeepsBut.setTc {l : List (Reg × Nat)} {a b : Dev} (h : KeepsBut l a b) (c : Nat) (x : TelCh) : KeepsBut l a (b.setTc c x) := h

theorem KeepsBut.setPhs {l : List (Reg × Nat)} {a b : Dev} (h : KeepsBut l a b) (n k : Nat) (x : PhSt) : KeepsBut l a (b.setPhs n k x) := h

theorem KeepsBut.wrB {l : List (Reg × Nat)} {a b : Dev} (h : KeepsBut l a b) (r : Reg) (ix : Nat) (v : Bool) (m : (r, ix) ∈ l) :
    KeepsBut l a (b.wrB r ix v) := h.wr r ix _ m

theorem KeepsBut.wrS {l : List (Reg × Nat)} {a b : Dev} (h : KeepsBut l a b) (r : Reg) (ix : Nat) (v : Int) (m : (r, ix) ∈ l) :
    KeepsBut l a (b.wrS r ix v) := h.wr r ix _ m

theorem KeepsBut.inc {l : List (Reg × Nat)} {a b : Dev} (h : KeepsBut l a b) (r : Reg) (ix : Nat) (m : (r, ix) ∈ l) :
    KeepsBut l a (b.inc r ix) := h.wr r ix _ m

theorem KeepsBut.wrBit {l : List (Reg × Nat)} {a b : Dev} (h : KeepsBut l a b) (r : Reg) (ix k : Nat) (v : Bool) (m : (r, ix) ∈ l) :
    KeepsBut l a (b.wrBit r ix k v) := h.wr r ix _ m

/-- Handing a command over counts it; no field changes. -/
theorem KeepsBut.handOver {l : List (Reg × Nat)} {a b : Dev} (h : KeepsBut l a b) : KeepsBut l a (handOver b) := h

/-- A walk over indices keeps what every step of it keeps. -/
theorem KeepsBut.forIx {l : List (Reg × Nat)} {a b : Dev} (h : KeepsBut l a b) (n : Nat) (f : Nat → Dev → Dev)
    (hf : ∀ i c, KeepsBut l a c → KeepsBut l a (f i c)) : KeepsBut l a (forIx n f b) := by
  unfold Sys2Proof.Machine.forIx
  generalize List.range n = q
  induction q generalizing b with
  | nil => exact h
  | cons i r ih => exact ih (hf i b h)

/-- A walk over a list keeps what every step of it keeps. -/
theorem KeepsBut.forL {α : Type} {l : List (Reg × Nat)} {a b : Dev} (h : KeepsBut l a b) (q : List α) (f : α → Dev → Dev)
    (hf : ∀ i c, KeepsBut l a c → KeepsBut l a (f i c)) : KeepsBut l a (forL q f b) := by
  unfold Sys2Proof.Machine.forL
  induction q generalizing b with
  | nil => exact h
  | cons i r ih => exact ih (hf i b h)

/-- An entry refused by the recorder writes only its fields. -/
theorem KeepsBut.refuseEnt {l : List (Reg × Nat)} {a b : Dev} (h : KeepsBut l a b) (m : ∀ x ∈ recFields, x ∈ l) :
    KeepsBut l a (refuseEnt b) := by
  have h1 := (h.wr EV_QREF 0 (incSat EV_QREF.w (b.rd EV_QREF)) (m _ (by simp [recFields]))).ev EV_EVT_QREF 0
    (m _ (by simp [recFields]))
  exact KeepsBut.of_regs h1 rfl

/-- An entry that joins the recorder's queue writes only its fields. -/
theorem KeepsBut.joinEnt {l : List (Reg × Nat)} {a b : Dev} (h : KeepsBut l a b) (e : Ent) (m : ∀ x ∈ recFields, x ∈ l) :
    KeepsBut l a (joinEnt b e) := by
  unfold Sys2Proof.Machine.joinEnt
  dsimp only
  split
  · unfold joinHw
    dsimp only
    split
    · exact h.of_regs rfl
    · split
      · exact h.refuseEnt m
      · exact h.of_regs rfl
  · unfold joinLimited
    dsimp only
    split
    · generalize hb : ({ b with rcd := _ } : Dev) = c
      have hc : c.regs = b.regs := by rw [← hb]
      have h1 := ((h.of_regs hc).wr EV_SUPP 0 (incSat EV_SUPP.w (c.rd EV_SUPP)) (m _ (by simp [recFields]))).ev EV_EVT_SUPP 0
        (m _ (by simp [recFields]))
      exact KeepsBut.of_regs h1 rfl
    · split
      · exact KeepsBut.refuseEnt (h.of_regs rfl) m
      · exact h.of_regs rfl

/-- A record writes only the recorder's fields. -/
theorem KeepsBut.recAt {l : List (Reg × Nat)} {a b : Dev} (h : KeepsBut l a b) (pm code cls src : Nat) (pay : List Nat)
    (m : ∀ x ∈ recFields, x ∈ l) : KeepsBut l a (b.recAt pm code cls src pay) := h.joinEnt _ m

/-- A record of the tick in hand writes only the recorder's fields. -/
theorem KeepsBut.recd {l : List (Reg × Nat)} {a b : Dev} (h : KeepsBut l a b) (code cls src : Nat) (pay : List Nat)
    (m : ∀ x ∈ recFields, x ∈ l) : KeepsBut l a (b.recd code cls src pay) := h.joinEnt _ m

end Sys2Proof.Machine
end

