-- ==== Sys2Proof/WellFormed.lean ====
section
/-! DEFINITION. Which commands are well formed: the lengths that the manual gives to frames, blocks, tokens and keys, and
who may send a host command. Every other operand has its range in its type. -/

namespace Sys2Proof

/-- A host command comes from an endpoint or the service port, which alone sends bytes after the descriptor (R290, R403). -/
def Sender.wf (h : Sender) : Bool := h.path != .twb && (h.path == .sp || h.extra.isEmpty)

/-- A word that a store access returns has 8 bytes (R341). -/
def StoreCase.wf : StoreCase → Bool
  | .uncorrectable _ w => w.length == 8
  | .fine | .corrected | .writeFail _ => true

/-- A poll reads at most 8 bytes (R378, R380). -/
def TwaResult.wf : TwaResult → Bool
  | .ok bytes => decide (bytes.length ≤ 8)
  | .nak | .arbLost => true

/-- The well-formed commands. -/
def Instr.wf : Instr → Bool
  | .tickEdge _ => true
  | .frameBoundary => true
  | .syncCapture _ => true
  | .syncMiss => true
  | .rgCmdReset _ _ => true
  | .rgCmdClrcnt _ _ => true
  | .trainingFrameReturn _ _ _ => true
  | .lockTimeout _ => true
  | .measureComplete _ fwd rev own _ => decide (fwd.length ≤ 32) && decide (rev.length ≤ 32) && decide (own.length ≤ 32)
      && fwd.all (fun l => decide (l.length ≤ 16)) && rev.all (fun l => decide (l.length ≤ 16))
  | .trainRetry _ => true
  | .upstreamFrame _ f => f.hdr.length == 16 && f.secs.map List.length == [68, 68, 68, 68, 68, 68, 48]
  | .notReporting _ => true
  | .breakBeacon _ _ _ => true
  | .rxSofLoss _ => true
  | .splitStart _ => true
  | .splitTrainTimeout _ => true
  | .strayToken _ => true
  | .stageEvent _ => true
  | .identityMatch _ => true
  | .configPieceAck _ => true
  | .reident _ _ => true
  | .loopFollowErr _ => true
  | .tickOverrun _ => true
  | .feclr _ _ => true
  | .clrpeak _ => true
  | .stageHold _ _ _ => true
  | .prepTimeout _ => true
  | .dwellEnd _ => true
  | .capacityEnd _ => true
  | .phaseSenseFail _ _ => true
  | .readyTimeout _ => true
  | .hvokReturn _ => true
  | .feederRunResend _ => true
  | .senseClearReturn _ => true
  | .busWindow _ => true
  | .busCapacity => true
  | .busCapacityEnd => true
  | .fdCmdRemove _ _ => true
  | .fdCmdReadmit _ _ => true
  | .slowLoss => true
  | .holdupTaken => true
  | .emergAssert => true
  | .emergClear => true
  | .handbackStart => true
  | .stringCloseTimeout _ => true
  | .stringOffTimeout _ => true
  | .bsCmdOpen _ _ => true
  | .bsCmdClose _ _ => true
  | .trampExpiry _ => true
  | .fuseTrip _ => true
  | .fuseRetry _ => true
  | .rcntReset _ => true
  | .fuseTsense _ => true
  | .feedRevert _ => true
  | .feedXfer _ => true
  | .feedStuck _ => true
  | .fuCmdOn _ _ => true
  | .fuCmdOff _ _ => true
  | .fuCmdReset _ _ => true
  | .fuCmdXfer _ _ => true
  | .sqCmdOn _ => true
  | .sqCmdOff _ => true
  | .sqCmdClrflt _ => true
  | .sqCmdStepon _ _ => true
  | .sqCmdStepoff _ _ => true
  | .sqCmdClrcnt _ => true
  | .stepBegin => true
  | .stepComplete _ => true
  | .stepTimeout _ => true
  | .minoffEnd => true
  | .seqRetry => true
  | .rstoutRelease => true
  | .mrShort _ => true
  | .mrLong _ => true
  | .mrForceoff => true
  | .forceClear => true
  | .supervisionEntry _ _ => true
  | .capRelease _ => true
  | .avgWindow _ => true
  | .snapshotEntryWrite => true
  | .tmPkRead _ _ => true
  | .tmChstatRead _ => true
  | .thermDie _ => true
  | .thermDieClear _ => true
  | .thermLevel => true
  | .thermRate _ => true
  | .thermStage _ _ => true
  | .pacedOperationStart _ => true
  | .planPeriodEnd => true
  | .plannerWrite => true
  | .planExpired => true
  | .mpCmdApprove _ => true
  | .mpCmdReject _ => true
  | .mpCmdRunnow _ => true
  | .mpCmdRebase _ => true
  | .idChip => true
  | .idResume => true
  | .measurementBlock _ => true
  | .hqCqDb _ _ => true
  | .hqCplDb _ _ => true
  | .hqEvqDb _ _ => true
  | .hqTelDb _ _ => true
  | .descriptorFetch _ ds => ds.all (fun b => b.length == 64)
  | .pairWindowExpiry _ => true
  | .auVerdict _ => true
  | .verdictTimeout _ => true
  | .divergePulseEnd => true
  | .authChange => true
  | .auTokcmdGo => true
  | .authTokenCheck => true
  | .leaseExpiry => true
  | .phCopyDone _ _ data => decide (data.length ≤ 4096)
  | .commitChecksDone => true
  | .phClaim _ _ => true
  | .phRelease _ _ => true
  | .phBar2Write _ ofs data => decide (ofs.toNat + data.length ≤ 0x40000)
  | .phReclaim _ => true
  | .hostDmaErr _ _ => true
  | .msixMessage _ _ => true
  | .endpointDown _ => true
  | .endpointUp _ => true
  | .leaseBelowOneSecond => true
  | .nop h => h.wf
  | .queryReg h _ _ => h.wf
  | .queryChan h _ => h.wf
  | .phCopy h _ _ _ _ => h.wf
  | .cfgLoad h _ _ _ => h.wf
  | .cfgCommit h _ => h.wf
  | .railVset h _ _ => h.wf
  | .railOn h _ => h.wf
  | .railOff h _ => h.wf
  | .fuseOn h _ => h.wf
  | .fuseOff h _ => h.wf
  | .fuseReset h _ => h.wf
  | .fgOn h _ => h.wf
  | .fgOff h _ => h.wf
  | .fgXfer h _ => h.wf
  | .busVset h _ => h.wf
  | .feederRemove h _ => h.wf
  | .feederReadmit h _ => h.wf
  | .capSet h _ _ _ => h.wf
  | .throtSet h _ _ => h.wf
  | .seqOn h => h.wf
  | .seqOff h => h.wf
  | .seqStepon h _ => h.wf
  | .seqStepoff h _ => h.wf
  | .seqClrflt h => h.wf
  | .loopSetpt h _ _ => h.wf
  | .loopMode h _ _ => h.wf
  | .loopManout h _ _ => h.wf
  | .chanReident h _ => h.wf
  | .ringReset h _ => h.wf
  | .planApprove h _ => h.wf
  | .planReject h _ => h.wf
  | .evRead h _ _ _ _ => h.wf
  | .evNote h _ pay => h.wf && pay.length == 40
  | .evClear h _ _ => h.wf
  | .updBegin h _ digest => h.wf && digest.length == 32
  | .updPiece h _ _ k => h.wf && k.wf
  | .updActivate h => h.wf
  | .updStages h _ => h.wf
  | .updAbort h => h.wf
  | .auMode h _ => h.wf
  | .devReset h => h.wf
  | .devSleep h => h.wf
  | .clearOverwriteDone => true
  | .recordWrite k => k.wf
  | .recordClose _ _ => true
  | .evCmdRegister _ => true
  | .nvCmdRefrnow _ => true
  | .refreshStart => true
  | .refreshBlock k => k.wf
  | .updConfirm => true
  | .updFallback => true
  | .updVerified => true
  | .upCmdConfirm _ => true
  | .upCmdRlystop _ => true
  | .relayVerifyResult _ => true
  | .relayRelease _ => true
  | .relayWriteDone _ => true
  | .relaySkip _ => true
  | .relayResume _ => true
  | .twbAddress _ _ _ _ _ => true
  | .twbPageWrite _ => true
  | .twbPointerWrite _ => true
  | .twbWordWrite _ => true
  | .twbWordRead => true
  | .twbStop _ => true
  | .twbAbort _ => true
  | .twbHoldTimeout _ _ => true
  | .twbAlertResponse _ => true
  | .twaPoll _ _ => true
  | .twaPollResult x => x.wf
  | .twaProtocolError => true
  | .twaSclTimeout => true
  | .twaAlert _ => true
  | .portAttach _ _ => true
  | .sourceDetach _ => true
  | .sinkDetach => true
  | .accessoryDetach => true
  | .dischargeEnd => true
  | .dischargeTimeout => true
  | .errorRecoveryEnd => true
  | .spCmdHrst _ => true
  | .spCmdErrrec _ => true
  | .spCmdDeauth _ => true
  | .pdRequest _ _ _ => true
  | .psRdyTimeout => true
  | .ppsTimeout => true
  | .pdSourceCaps l => decide (1 ≤ l.length) && decide (l.length ≤ 7)
  | .pdAccept => true
  | .pdPsRdy => true
  | .ppsKeepalive => true
  | .prSwap => true
  | .drSwap => true
  | .pdHardReset => true
  | .pdNotSupported => true
  | .usbCommand bytes => decide (64 ≤ bytes.length)
  | .usbResponseRead => true
  | .getState => true
  | .getNonce => true
  | .auth t => t.length == 80
  | .deauth => true
  | .keyWrite _ key => key.length == 64
  | .keyLock => true
  | .usbStall => true
  | .sessionExpiry => true
  | .drpToggle => true
  | .usbStandardRequest _ _ => true
  | .serviceBoot _ _ => true
  | .promotion _ => true
  | .vsvcLoss => true
  | .powerOnReset => true
  | .resetNAssert => true
  | .watchdogExpiry => true
  | .pmCmdReset => true
  | .supplyFault _ => true
  | .clockLoss => true
  | .aclkFallback => true
  | .mgmtHalt => true
  | .startUp _ _ _ => true
  | .startUpEnd => true
  | .pmCmdSleep => true
  | .sleepWaitsDone => true
  | .sleepPowerDown _ _ => true
  | .wakeEvent _ _ _ => true
  | .wakeComplete => true
  | .vinAonFault => true
  | .mainSuppliesGood _ => true
  | .boundaryScan _ => true
  | .registerWrite _ _ _ _ => true
  | .rcRead _ _ => true
  | .llRead _ _ => true
  | .registerReadBusError _ _ _ => true

end Sys2Proof
end

