-- ==== Sys2Proof/Tests/Slice0.lean ====
section
/-! SUPPORT. The author's tests: the words that WellFormed refuses, worked examples of the manual, and for every statement of
Certificates/Slice0/Obligations.lean that has hypotheses a witness of each clause. -/

namespace Sys2Proof.Tests
open Sys2Proof Sys2Proof.Machine Sys2Proof.Machine.R

/-! ### Ill-formed commands are refused -/

/-- A sender on PA. -/
def onPa : Sender := { path := .pa, seq := 1, tag := 2, irq := false, lcl := false, cidx := 0, extra := [] }

theorem test_wf_sender_on_twb : (Instr.nop { onPa with path := .twb }).wf = false := by decide
theorem test_wf_sender_extra_bytes : (Instr.nop { onPa with extra := [0] }).wf = false := by decide
theorem test_wf_sender_service_port : (Instr.nop { onPa with path := .sp, extra := [0] }).wf = true := by decide
theorem test_wf_measure_positions : (Instr.measureComplete 0 (List.replicate 33 []) [] [] 0).wf = false := by decide
theorem test_wf_measure_positions_back : (Instr.measureComplete 0 [] (List.replicate 33 []) [] 0).wf = false := by decide
theorem test_wf_measure_own : (Instr.measureComplete 0 [] [] (List.replicate 33 ⟨0, 0⟩) 0).wf = false := by decide
theorem test_wf_measure_tokens : (Instr.measureComplete 0 [List.replicate 17 0] [] [] 0).wf = false := by decide
theorem test_wf_measure_tokens_back : (Instr.measureComplete 0 [] [List.replicate 17 0] [] 0).wf = false := by decide
theorem test_wf_frame_header : (Instr.upstreamFrame 0 ⟨true, [], []⟩).wf = false := by decide
theorem test_wf_frame_sections : (Instr.upstreamFrame 0 ⟨true, List.replicate 16 0, []⟩).wf = false := by decide
theorem test_wf_descriptor : (Instr.descriptorFetch .pa [[0]]).wf = false := by decide
theorem test_wf_copy : (Instr.phCopyDone 0 true (List.replicate 4097 0)).wf = false := by decide +kernel
theorem test_wf_bar2 : (Instr.phBar2Write .pa 0x3FFFF [0, 0]).wf = false := by decide
theorem test_wf_note : (Instr.evNote onPa 0 []).wf = false := by decide
theorem test_wf_update_digest : (Instr.updBegin onPa 0 []).wf = false := by decide
theorem test_wf_store_word : (Instr.recordWrite (.uncorrectable 0 [])).wf = false := by decide
theorem test_wf_refresh_word : (Instr.refreshBlock (.uncorrectable 0 [])).wf = false := by decide
theorem test_wf_piece_word : (Instr.updPiece onPa 0 0 (.uncorrectable 0 [])).wf = false := by decide
theorem test_wf_poll : (Instr.twaPollResult (.ok (List.replicate 9 0))).wf = false := by decide
theorem test_wf_caps_none : (Instr.pdSourceCaps []).wf = false := by decide
theorem test_wf_caps_eight : (Instr.pdSourceCaps (List.replicate 8 .other)).wf = false := by decide
theorem test_wf_usb : (Instr.usbCommand []).wf = false := by decide
theorem test_wf_token : (Instr.auth []).wf = false := by decide
theorem test_wf_key : (Instr.keyWrite 0 []).wf = false := by decide

/-! ### The step and the words -/

theorem test_no_word_spells_a_command : decodeTableWord 32 0 = none ∧ State.reset.withFetchWord 32 0 = State.reset := by decide
theorem test_idle_step : step State.reset = .next State.reset := rfl
theorem test_front_command : step { State.reset with pending := [.frameBoundary, .syncMiss] } =
    exec .frameBoundary { State.reset with pending := [.syncMiss] } := rfl

/-! ### Worked examples of the manual -/

/-- The CRC of the nine ASCII bytes "123456789" (R8). -/
theorem test_crc_check_string : crc32 [0x31, 0x32, 0x33, 0x34, 0x35, 0x36, 0x37, 0x38, 0x39] = 0xCBF43926 := by decide +kernel

/-- The example of R58: freq_acc −1,200 and e = +200 ns at 1 Hz, KP = 1, KI = 4. -/
theorem test_discipline_example :
    let d := syncUpdate ((({} : Dev).wrS TB_FREQ 0 (-1200)).wr TB_STATUS_LOCK 0 2) 200 false
    d.rdS TB_FREQ = -1254 ∧ d.tb.rateNext = some (-1684) := by decide +kernel

/-- R57: half a period is a positive offset. -/
theorem test_offset_at_half : syncOffset 15 10 = 5 ∧ syncOffset 16 10 = -4 ∧ syncOffset 20 10 = 0 := by decide

/-- R53: the largest rate advances the fraction by 858,993,000 a tick; a carry adds a count, a borrow suppresses one. -/
theorem test_postmark_edges : pmAdvance 0 0 858993 = (1000, 858993000) ∧ pmAdvance 0 0xFFFFFFFF 1 = (1001, 999) ∧
    pmAdvance 0 0 (-1) = (999, 0xFFFFFFFF - 999) := by decide

/-- The example of R101: a phase reports DATA = B8 0B 98 3A 38 02. -/
theorem test_sample_scaling : scaleV 1 0x0BB8 = 0xC000 ∧ scaleI 1 0x3A98 = 0x1E0000 ∧ scaleT 0x238 = 0x4E0000 := by decide

/-- The add orders that R148 writes out. -/
theorem test_add_orders : addOrder 8 = [0, 4, 2, 6, 1, 5, 3, 7] ∧ addOrder 24 =
    [0, 16, 8, 4, 20, 12, 2, 18, 10, 6, 22, 14, 1, 17, 9, 5, 21, 13, 3, 19, 11, 7, 23, 15] := by decide +kernel

/-- The rotation of R149 over the active hops 0, 2, 4, 6 of the shedding example. -/
theorem test_rotation : rotation [0, 2, 4, 6] = [0, 4, 6, 2] ∧ maxStep [0, 4, 6, 2] = 4 := by decide

/-- The droop of the bus example: 180 A over 2.00 mΩ. -/
theorem test_droop : rdiv (11796480 * 200) 100000 = 23593 ∧ (3145728 : Int) - rdiv (11796480 * 200) 100000 = 3122135 := by decide

/-- Rounding is half away from zero (R12). -/
theorem test_rounding : rdiv 5 2 = 3 ∧ rdiv (-5) 2 = -3 ∧ rdiv 7 3 = 2 ∧ rdiv (-7) 3 = -2 := by decide

/-- The identification term of the planner's example: AMP = 15 gives 98. -/
theorem test_identification_term : pidOf (({} : Dev).wr MP_ID_AMP 0 15) true = 98 := by decide +kernel

/-- The first period of the planner's example: 102 proposed, 124 written, marked CLAMPED. -/
theorem test_plan_is_bounded :
    let x := planItem (({} : Dev).wr MP_CTRL_MODE 0 1) 4 FU_CSCALE 0 0 8 0 102
    x.old = 128 ∧ x.prop = 102 ∧ x.new = 124 ∧ x.mark = 1 := by decide +kernel

/-- A window comparison of tick numbers wraps (R44). -/
theorem test_later_than : laterThan 0 (2 ^ 32 - 1) = true ∧ laterThan 5 5 = false ∧ laterThan 0 (2 ^ 31) = false := by decide

/-! ### Memory -/

theorem test_write_blank_removes : Mem.wr (Mem.wr [] 5 7) 5 0 = [] := by decide
theorem test_write_keeps_order : Mem.wr (Mem.wr [] 9 1) 5 7 = [(5, 7), (9, 1)] := by decide

/-! ### Witnesses of the statements' hypotheses -/

/-- A running device whose tick has come to stage `k`, changed by `f`. -/
def stAt (k : Nat) (f : Dev → Dev) : State := { sys := { dev := f { tb := { now := 5000, pm := 5000000, run := true, stage := k } } } }
/-- A state with its memories changed as well. -/
def stS (s : State) (f : Sys → Sys) : State := { s with sys := f s.sys }

section
set_option Elab.async false

theorem witness_tick_edges_advance_the_counters :
    (∃ (s : State), s.sys.dev.live = true ∧ s.sys.dev.tb.run = true ∧ s.sys.dev.tb.frameOpen = false ∧ s.ended.dev.rd
     TB_FRAME_POS ≠ 999) ∧
    (∃ (s : State), s.sys.dev.live = true ∧ s.sys.dev.tb.run = true ∧ s.sys.dev.tb.frameOpen = false ∧ s.ended.dev.rd
     TB_FRAME_POS = 999) ∧
    (∃ (s : State), s.sys.dev.live = true ∧ s.sys.dev.tb.run = true ∧ s.sys.dev.tb.frameOpen = false ∧ s.sys.dev.rd
     TB_FRAME_POS = 999) ∧
    (∃ (s : State), s.sys.dev.live = true ∧ s.sys.dev.tb.run = true ∧ s.sys.dev.tb.frameOpen = true) :=
  ⟨⟨stAt 3 (fun d => d.wr TB_FRAME_POS 0 998), by decide +kernel⟩,
   ⟨stAt 3 (fun d => d.wr TB_FRAME_POS 0 999), by decide +kernel⟩,
   ⟨stAt 3 (fun d => d.wr TB_FRAME_POS 0 999), by decide +kernel⟩,
   ⟨stAt 0 (fun d => { d with tb := { d.tb with frameOpen := true } }), by decide +kernel⟩⟩

theorem witness_sync_pulses_discipline_the_time_base :
    (∃ (s : State) (pm : Word64), s.sys.dev.quiet ∧ pm.toNat < s.sys.dev.tb.pm ∧ s.sys.dev.rd TB_CTRL_SYNC_MODE ≠ 0 ∧
     capEarly s.sys.dev pm.toNat = true) ∧
    (∃ (s : State) (pm : Word64), s.sys.dev.quiet ∧ pm.toNat < s.sys.dev.tb.pm ∧ s.sys.dev.rd TB_CTRL_SYNC_MODE ≠ 0 ∧
     capEarly s.sys.dev pm.toNat = false ∧ s.sys.dev.rd TB_STATUS_LOCK = 2 ∧ s.sys.dev.rd TB_SYNC_WIN < (syncOffset
     pm.toNat (syncPeriod s.sys.dev)).natAbs) ∧
    (∃ (s : State) (pm : Word64), s.sys.dev.quiet ∧ pm.toNat < s.sys.dev.tb.pm ∧ s.sys.dev.rd TB_CTRL_SYNC_MODE ≠ 0 ∧
     capEarly s.sys.dev pm.toNat = false ∧ (s.sys.dev.rd TB_STATUS_LOCK = 2 → (syncOffset pm.toNat (syncPeriod
     s.sys.dev)).natAbs ≤ s.sys.dev.rd TB_SYNC_WIN)) ∧
    (∃ (s : State) (pm : Word64), s.sys.dev.quiet ∧ s.sys.dev.tb.pm ≤ pm.toNat) ∧
    (∃ (s : State) (x : Nat), s.expiring ∧ s.atTimers.dev.tb.expect = some x ∧ x + s.atTimers.dev.rd TB_SYNC_WIN <
     s.atTimers.dev.tb.pm ∧ s.atTimers.dev.rd TB_CTRL_SYNC_MODE ≠ 0) :=
  ⟨⟨stAt 0 (fun d => { (d.wr TB_CTRL_SYNC_MODE 0 1) with tb := { d.tb with lastCap := some 4899999 } }), 4900000,
     by decide +kernel⟩,
   ⟨stAt 0 (fun d =>
     { (((d.wr TB_CTRL_SYNC_MODE 0 1).wr TB_STATUS_LOCK 0 2).wr TB_SYNC_WIN 0 100).wr TB_SYNC_PERIOD 0 1000000 with tb := { d.tb with lastCap := none } }),
     4900300, by decide +kernel⟩,
   ⟨stAt 0 (fun d =>
     { ((d.wr TB_CTRL_SYNC_MODE 0 1).wr TB_STATUS_LOCK 0 1).wr TB_SYNC_PERIOD 0 1000000 with tb := { d.tb with lastCap := none } }),
     4000003, by decide +kernel⟩,
   ⟨stAt 0 (fun d => d), 5000000, by decide +kernel⟩,
   ⟨stAt 2 (fun d =>
     { ((((d.wr TB_CTRL_SYNC_MODE 0 1).wr TB_SYNC_WIN 0 100).wr TB_STATUS_LOCK 0 2).wr TB_SYNC_GAIN_MISS_LIM 0 1) with tb := { d.tb with expect := some 100 } }),
     100, by decide +kernel⟩⟩

theorem witness_ring_reset_and_counters :
    (∃ (s : State) (a : Accessor) (r : Fin 8), s.turn ∧ a ≠ .sp ∧ writeKind s.sys.dev (accIx a) (0x2004 + 0x100 *
     r.val) (1) = 0 ∧ (ringState s.atCommands.dev r.val = rgIdent ∨ ringState s.atCommands.dev r.val = rgRun ∨
     (ringState s.atCommands.dev r.val = rgSplit ∧ (s.atCommands.dev.rg r.val).splitTrain = false))) ∧
    (∃ (s : State) (a : Accessor) (r : Fin 8), s.turn ∧ a ≠ .sp ∧ writeKind s.sys.dev (accIx a) (0x2004 + 0x100 *
     r.val) (1) = 0 ∧ ringState s.atCommands.dev r.val = rgFailed) ∧
    (∃ (s : State) (a : Accessor) (r : Fin 8), s.turn ∧ a ≠ .sp ∧ writeKind s.sys.dev (accIx a) (0x2004 + 0x100 *
     r.val) (2) = 0) ∧
    (∃ (s : State), s.sys.dev.quiet) :=
  ⟨⟨stAt 1 (fun d => d.wr RG_STATUS_STATE 3 5), Accessor.pa, 3, by decide +kernel⟩,
   ⟨stAt 1 (fun d => d.wr RG_STATUS_STATE 7 7), Accessor.pb, 7, by decide +kernel⟩,
   ⟨stAt 1 (fun d => d.wr RG_STRAY 2 9), Accessor.pa, 2, by decide +kernel⟩,
   ⟨stAt 0 (fun d => d), by decide +kernel⟩⟩

theorem witness_ring_training_advances :
    (∃ (s : State) (r : Fin 8), s.sys.dev.quiet ∧ ringState s.sys.dev r.val = rgLock) ∧
    (∃ (s : State) (r : Fin 8) (n : Byte), s.sys.dev.quiet ∧ ringState s.sys.dev r.val = rgCount ∧ n.toNat ≤ 32 ∧
     (s.sys.dev.rg r.val).wake = false) ∧
    (∃ (s : State) (r : Fin 8) (n : Byte), s.sys.dev.quiet ∧ ringState s.sys.dev r.val = rgCount ∧ 32 < n.toNat) ∧
    (∃ (s : State) (r : Fin 8), s.expiring ∧ lockDue s.atTimers.dev r.val = true) ∧
    (∃ (s : State) (r : Fin 8) (dl : BitVec 32), s.sys.dev.quiet ∧ ringState s.sys.dev r.val = rgMeasure ∧ latencyOf
     dl.toNat ≤ 6) ∧
    (∃ (s : State) (r : Fin 8) (dl : BitVec 32), s.sys.dev.quiet ∧ ringState s.sys.dev r.val = rgMeasure ∧ 6 <
     latencyOf dl.toNat) ∧
    (∃ (s : State) (r : Fin 8), s.expiring ∧ trainRetryDue s.atTimers.dev r.val = true) ∧
    (∃ (s : State) (r : Fin 8), s.expiring ∧ splitTrainDue s.atTimers.dev r.val = true) :=
  ⟨⟨stAt 0 (fun d => d.wr RG_STATUS_STATE 1 1), 1, by decide +kernel⟩,
   ⟨stAt 0 (fun d => d.wr RG_STATUS_STATE 1 2), 1, 32, by decide +kernel⟩,
   ⟨stAt 0 (fun d => d.wr RG_STATUS_STATE 1 2), 1, 33, by decide +kernel⟩,
   ⟨stAt 2 (fun d => d.wr RG_STATUS_STATE 0 1), 0, by decide +kernel⟩,
   ⟨stAt 0 (fun d => (d.wr RG_STATUS_STATE 2 3).wr RG_STATUS_NSTAGES 2 2), 2, 1288191, by decide +kernel⟩,
   ⟨stAt 0 (fun d => d.wr RG_STATUS_STATE 2 3), 2, 1288192, by decide +kernel⟩,
   ⟨stAt 2 (fun d => let d := (d.wr RG_STATUS_STATE 4 7).wr RG_CTRL_EN 4 1;
     { d with tb := { d.tb with now := 10000 } }), 4, by decide +kernel⟩,
   ⟨stAt 2 (fun d => (d.wr RG_STATUS_STATE 4 6).setRg 4 { splitTrain := true }), 4, by decide +kernel⟩⟩

theorem witness_ring_breaks_and_frames :
    (∃ (s : State) (r : Fin 8), s.sys.dev.quiet ∧ ringState s.sys.dev r.val = rgRun ∧ (s.sys.dev.rg r.val).splitT =
     none) ∧
    (∃ (s : State) (r : Fin 8), s.sys.dev.quiet ∧ breakFails s.sys.dev r.val = true) ∧
    (∃ (s : State) (r : Fin 8), s.expiring ∧ rxLossDue s.atTimers.dev r.val = true ∧ breakFails s.atTimers.dev r.val =
     true) ∧
    (∃ (s : State) (r : Fin 8), s.expiring ∧ rxLossDue s.atTimers.dev r.val = true ∧ ringState s.atTimers.dev r.val =
     rgRun) ∧
    (∃ (s : State) (r : Fin 8), s.sys.dev.quiet ∧ splitDue s.sys.dev r.val = true) ∧
    (∃ (s : State) (r : Fin 8) (f : UpFrame), s.sys.dev.quiet ∧ ringLatches s.sys.dev r.val f.rx = true ∧ ringState
     s.sys.dev r.val = rgRun ∧ s.sys.dev.tb.stage = 0) ∧
    (∃ (s : State), s.sys.dev.quiet ∧ s.sys.dev.tb.stage ≠ 0) :=
  ⟨⟨stAt 0 (fun d => d.wr RG_STATUS_STATE 0 5), 0, by decide +kernel⟩,
   ⟨stAt 0 (fun d => d.wr RG_STATUS_STATE 0 4), 0, by decide +kernel⟩,
   ⟨stAt 2 (fun d => d.wr RG_STATUS_STATE 0 3), 0, by decide +kernel⟩,
   ⟨stAt 2 (fun d => (d.wr RG_STATUS_STATE 0 5).setRg 0 { noSof := 3 }), 0, by decide +kernel⟩,
   ⟨stAt 0 (fun d => (d.wr RG_STATUS_STATE 0 5).setRg 0 { splitT := some 5000 }), 0, by decide +kernel⟩,
   ⟨stAt 0 (fun d => d.wr RG_STATUS_STATE 0 5), 0,
     { rx := true, hdr := [0, 0, 0, 0, 0, 0, 0, 0, 0, 0, 1, 0, 0, 0, 0, 0], secs := List.replicate 6 (List.replicate 68 0) ++ [List.replicate 48 0] },
     by decide +kernel⟩,
   ⟨stAt 0 (fun d => { d with tb := { d.tb with stage := 1 } }), by decide +kernel⟩⟩

theorem witness_channel_directory_answers :
    (∃ (s : State) (c : Fin 256), s.judging ∧ missDue s.atCommands.dev c.val = true) ∧
    (∃ (s : State) (c : Fin 256), s.sys.dev.quiet ∧ (s.sys.dev.chn c.val).idAns = 2 ∧ roleOf s.sys.dev c.val ≠ 0 ∧
     (s.sys.dev.chn c.val).same = false ∧ (s.sys.dev.chn c.val).quar = false ∧ (s.sys.dev.rg (c.val / 32)).wake =
     false) ∧
    (∃ (s : State) (c : Fin 256), s.sys.dev.quiet ∧ (s.sys.dev.chn c.val).cfgAns = 1 ∧ (s.sys.dev.chn c.val).quar =
     false) ∧
    (∃ (s : State) (c : Fin 256), s.sys.dev.quiet ∧ (s.sys.dev.chn c.val).cfgAns = 2 ∧ (s.sys.dev.chn c.val).quar =
     false) ∧
    (∃ (s : State) (a : Accessor) (c : Fin 256), s.turn ∧ a ≠ .sp ∧ writeKind s.sys.dev (accIx a) (0x280C + 0x10 *
     c.val) (0x4000) = 0) ∧
    (∃ (s : State) (r : Fin 8) (p : Nat) (b : List Nat) (es : List (Nat × List Nat)), s.sys.dev.quiet ∧ (s.sys.dev.rg
     r.val).evts = (p, b) :: es) :=
  ⟨⟨stAt 1 (fun d => (d.wr CD_ENT_ROLE 5 3).setCh 5 { miss := 20, matched := true, enum := true }|>.wr
     CD_ENT_COND_NOREP 5 0), 5, by decide +kernel⟩,
   ⟨stAt 0 (fun d => (d.wr CD_ENT_ROLE 5 3).setCh 5 { idAns := 2 }), 5, by decide +kernel⟩,
   ⟨stAt 0 (fun d => (d.wr CD_ENT_ROLE 5 3).setCh 5 { cfgAns := 1 }), 5, by decide +kernel⟩,
   ⟨stAt 0 (fun d => (d.wr CD_ENT_ROLE 5 3).setCh 5 { cfgAns := 2 }), 5, by decide +kernel⟩,
   ⟨stAt 1 (fun d => d), Accessor.pa, 255, by decide +kernel⟩,
   ⟨stAt 0 (fun d => d.setRg 1 { evts := [(3, [1,2,3])] }), 1, 3, [1,2,3], [], by decide +kernel⟩⟩

theorem witness_loop_engine_faults_and_commands :
    (∃ (s : State) (k : Fin 256), s.expiring ∧ feDue s.atTimers.dev k.val = true ∧ s.atTimers.dev.rd LS_FE_ACT k.val <
     2) ∧
    (∃ (s : State) (k : Fin 256), s.sys.dev.quiet ∧ s.sys.dev.tb.frameOpen = false ∧ scheduled s.sys.dev k.val
     ((s.sys.dev.rd TB_TICK + 1) % 1024) = true) ∧
    (∃ (s : State) (a : Accessor) (k : Fin 256), s.turn ∧ a ≠ .sp ∧ writeKind s.sys.dev (accIx a) (0x3818) (256 +
     k.val) = 0) ∧
    (∃ (s : State) (a : Accessor), s.turn ∧ a ≠ .sp ∧ writeKind s.sys.dev (accIx a) (0x3818) (512) = 0) ∧
    (∃ (s : State) (a : Accessor) (g : BitVec 7) (h : Bool), s.sys.dev.quiet ∧ a ≠ .sp ∧ writeKind s.sys.dev (accIx a)
     (0x3800) (g.toNat + 256 * h.toNat) = 0) :=
  ⟨⟨stAt 2 (fun d => ((d.wr LS_EN 40 1).wr LS_FE_EN 40 1).wr LS_FE_ACT 40 1|>.wr LS_FAULT 40 0|>.wr LS_FE_TIME 40
     5|>.setSlot 40 { fe := 5 }), 40, by decide +kernel⟩,
   ⟨stAt 0 (fun d => ((d.wr LS_EN 255 1).wr LS_OFS 255 0).wr LS_RATE 255 0), 255, by decide +kernel⟩,
   ⟨stAt 1 (fun d => d), Accessor.pb, 3, by decide +kernel⟩,
   ⟨stAt 1 (fun d => d), Accessor.pa, by decide +kernel⟩,
   ⟨stAt 0 (fun d => d), Accessor.pa, 5, true, by decide +kernel⟩⟩

theorem witness_rail_timers_and_supervision_act :
    (∃ (s : State) (n : Fin 16) (c : Nat) (cs : List Nat), s.expiring ∧ prepDue s.atTimers.dev n.val = true ∧
     railChans s.atTimers.dev n.val = c :: cs ∧ inService s.atTimers.dev c = false) ∧
    (∃ (s : State) (n : Fin 16), s.expiring ∧ s.atTimers.dev.fl VR_STATUS_DWELL n.val = true ∧ dwellOver
     s.atTimers.dev n.val = true) ∧
    (∃ (s : State) (n : Fin 16), s.expiring ∧ capacityEndDue s.atTimers.dev n.val = true) ∧
    (∃ (s : State) (n : Fin 16) (h : Fin 32), s.expiring ∧ senseDue s.atTimers.dev n.val h.val = true) ∧
    (∃ (s : State) (n : Fin 16) (ov : Bool), s.expiring ∧ supDue s.atTimers.dev n.val ov = true) :=
  ⟨⟨stAt 2 (fun d => (d.wr CD_ENT_ROLE 0 2).wr CD_ENT_OWNK 0 1|>.wr CD_ENT_OWNN 0 2|>.wr CD_ENT_HEALTH 0 1|>.wr
     VR_STATUS_STATE 2 1|>.wr VR_CFG_NPH 2 1), 2, (railChans (stAt 2 (fun d => (d.wr CD_ENT_ROLE 0 2).wr CD_ENT_OWNK 0
     1|>.wr CD_ENT_OWNN 0 2|>.wr CD_ENT_HEALTH 0 1|>.wr VR_STATUS_STATE 2 1|>.wr VR_CFG_NPH 2 1)).sys.dev 2).headD
     999, (railChans (stAt 2 (fun d => (d.wr CD_ENT_ROLE 0 2).wr CD_ENT_OWNK 0 1|>.wr CD_ENT_OWNN 0 2|>.wr
     CD_ENT_HEALTH 0 1|>.wr VR_STATUS_STATE 2 1|>.wr VR_CFG_NPH 2 1)).sys.dev 2).tail, by decide +kernel⟩,
   ⟨stAt 2 (fun d => d.wr VR_STATUS_DWELL 15 1), 15, by decide +kernel⟩,
   ⟨stAt 2 (fun d => (d.wr VR_STATUS_THR 0 1).setRail 0 { capLow := 1001 }), 0, by decide +kernel⟩,
   ⟨stAt 2 (fun d => (d.wr CD_ENT_ROLE 7 1).wr CD_ENT_OWNK 7 1|>.wr CD_ENT_OWNN 7 1|>.wr CD_ENT_ROLE 5 2|>.wr
     CD_ENT_OWNK 5 1|>.wr CD_ENT_OWNN 5 1|>.wr VR_CFG_NPH 1 3|>.wr VR_CFG_RING 1 0|>.wr VR_CFG_LEADPOS 1 5|>.wr
     VR_STATUS_STATE 1 3|>.setPhs 1 2 { bad := 16 }), 1, 2, by decide +kernel⟩,
   ⟨stAt 2 (fun d => { (d.wr SQ_CFG_SFILT 0 1) with seq := { d.seq with sup := [(5, (65536, false))] } }), 2, true,
     by decide +kernel⟩⟩

theorem witness_feeders_leave_and_return :
    (∃ (s : State) (i : Fin 8), s.expiring ∧ readyDue s.atTimers.dev i.val = true ∧ (fmChan s.atTimers.dev
     i.val).isSome = true) ∧
    (∃ (s : State) (i : Fin 8), s.expiring ∧ hvokDue s.atTimers.dev i.val = true ∧ (fmChan s.atTimers.dev
     i.val).isSome = true) ∧
    (∃ (s : State) (i : Fin 8) (c : Nat), s.expiring ∧ feederRunDue s.atTimers.dev i.val = true ∧ fmChan
     s.atTimers.dev i.val = some c ∧ (s.atTimers.dev.chn c).quar = false) ∧
    (∃ (s : State) (i : Fin 8) (c : Nat), s.expiring ∧ senseClearDue s.atTimers.dev i.val = true ∧ fmChan
     s.atTimers.dev i.val = some c) ∧
    (∃ (s : State) (a : Accessor) (i : Fin 8), s.turn ∧ a ≠ .sp ∧ writeKind s.sys.dev (accIx a) (0x8824) (8 + i.val) =
     0 ∧ fmState s.atCommands.dev i.val = fmIdle) ∧
    (∃ (s : State) (a : Accessor) (i : Fin 8), s.turn ∧ a ≠ .sp ∧ writeKind s.sys.dev (accIx a) (0x8824) (8 + i.val) =
     0 ∧ fmState s.atCommands.dev i.val = fmWait ∧ (fmChan s.atCommands.dev i.val).isSome = true) ∧
    (∃ (s : State) (a : Accessor) (i : Fin 8), s.turn ∧ a ≠ .sp ∧ writeKind s.sys.dev (accIx a) (0x8824) (16 + i.val)
     = 0 ∧ fmState s.atCommands.dev i.val = fmRemoved ∧ (fmChan s.atCommands.dev i.val).isSome = true) :=
  ⟨⟨stAt 2 (fun d => (d.wr CD_ENT_ROLE 0 7).wr CD_ENT_UNIT 0 1|>.wr FD_FM_STATE 1 1), 1, by decide +kernel⟩,
   ⟨stAt 2 (fun d => (d.wr CD_ENT_ROLE 0 7).wr CD_ENT_UNIT 0 7|>.wr FD_FM_STATE 7 4|>.wr FD_FM_REASON 7 4|>.wr
     FD_CAPT_HVOK 0 3|>.setFm 7 { hvok := 3 }), 7, by decide +kernel⟩,
   ⟨stAt 2 (fun d => (d.wr CD_ENT_ROLE 0 7).wr CD_ENT_UNIT 0 0|>.wr FD_FM_STATE 0 1|>.wr CD_ENT_HEALTH 0 5|>.setFm 0
     { runAt := some 4984 }), 0, 0, by decide +kernel⟩,
   ⟨stAt 2 (fun d => (d.wr CD_ENT_ROLE 0 7).wr CD_ENT_UNIT 0 0|>.wr FD_FM_STATE 0 3|>.wr CD_ENT_COND_DEGR 0 1|>.setFm
     0 { sense := 1000 }), 0, 0, by decide +kernel⟩,
   ⟨stAt 1 (fun d => d.wr FD_FM_STATE 3 0), Accessor.pa, 3, by decide +kernel⟩,
   ⟨stAt 1 (fun d => (d.wr CD_ENT_ROLE 0 7).wr CD_ENT_UNIT 0 3|>.wr FD_FM_STATE 3 1), Accessor.pa, 3,
     by decide +kernel⟩,
   ⟨stAt 1 (fun d => (d.wr CD_ENT_ROLE 0 7).wr CD_ENT_UNIT 0 3|>.wr FD_FM_STATE 3 4), Accessor.pa, 3,
     by decide +kernel⟩⟩

theorem witness_bus_window_and_capacity :
    (∃ (s : State) (w : Fin 4), s.expiring ∧ winDue s.atTimers.dev w.val = true ∧ w.val < 2) ∧
    (∃ (s : State) (w : Fin 4), s.expiring ∧ winDue s.atTimers.dev w.val = true ∧ w.val = 2) ∧
    (∃ (s : State) (w : Fin 4), s.expiring ∧ winDue s.atTimers.dev w.val = true ∧ w.val = 3) ∧
    (∃ (s : State), s.expiring ∧ busCapDue s.atTimers.dev = true) ∧
    (∃ (s : State), s.expiring ∧ busCapEndDue s.atTimers.dev = true) :=
  ⟨⟨stAt 2 (fun d => { d with bus := { d.bus with win := [(0, (2000000, false)), (1, (2000000, false))] } }), 1,
     by decide +kernel⟩,
   ⟨stAt 2 (fun d => { d with bus := { d.bus with win := [(2, (2000000, false))] } }), 2, by decide +kernel⟩,
   ⟨stAt 2 (fun d => (d.wr CD_ENT_ROLE 0 7).wr CD_ENT_UNIT 0 2|>.wr FD_FM_STATE 2 3|> fun d =>
     { d with bus := { d.bus with win := [(3, (2000000, false))] } }), 3, by decide +kernel⟩,
   ⟨stAt 2 (fun d => (d.wr FD_STATUS_CAP 0 0).wr FD_CAPT_SATT 0 5|> fun d =>
     { d with bus := { d.bus with sat := 5 } }), by decide +kernel⟩,
   ⟨stAt 2 (fun d => (d.wr FD_STATUS_CAP 0 1)|> fun d => { d with bus := { d.bus with low := 1001 } }),
     by decide +kernel⟩⟩

theorem witness_holdup_and_strings_act :
    (∃ (s : State), s.judging ∧ slowLossDue s.atCommands.dev = true ∧ ((closed s.atCommands.dev).isEmpty || (legs
     s.atCommands.dev).isEmpty) = true) ∧
    (∃ (s : State), s.judging ∧ takenDue s.atCommands.dev = true ∧ s.atCommands.dev.fl BS_STATUS_EMERG = false) ∧
    (∃ (s : State), s.judging ∧ emergDue s.atCommands.dev = true ∧ shelfState s.atCommands.dev < bsReady) ∧
    (∃ (s : State), s.judging ∧ emergClearDue s.atCommands.dev = true) ∧
    (∃ (s : State), s.expiring ∧ hbDue s.atTimers.dev = true) ∧
    (∃ (s : State) (j : Fin 8), s.expiring ∧ strCloseDue s.atTimers.dev j.val = true ∧ (strChan s.atTimers.dev
     j.val).isSome = true) ∧
    (∃ (s : State) (j : Fin 8), s.expiring ∧ strOffDue s.atTimers.dev j.val = true) ∧
    (∃ (s : State) (a : Accessor) (j : Fin 8), s.turn ∧ a ≠ .sp ∧ writeKind s.sys.dev (accIx a) (0x8C2C) (8 + j.val) =
     0 ∧ strState s.atCommands.dev j.val = 3 ∧ shelfState s.atCommands.dev ≠ bsConnect) ∧
    (∃ (s : State) (a : Accessor) (j : Fin 8), s.turn ∧ a ≠ .sp ∧ writeKind s.sys.dev (accIx a) (0x8C2C) (16 + j.val)
     = 0 ∧ strState s.atCommands.dev j.val = 4) :=
  ⟨⟨stAt 1 (fun d => (d.wr CD_ENT_ROLE 0 0).wr CD_ENT_ROLE 1 0|>.wr CD_ENT_ROLE 2 0|>.wr CD_ENT_ROLE 3 0|>.wr
     BS_DETA_SLOWF 0 3|> fun d => { d with bs := { d.bs with slow := 3 } }), by decide +kernel⟩,
   ⟨stAt 1 (fun d => (d.wr BS_STATUS_TAKEN 0 0).wr BS_STATUS_EMERG 0 0|> fun d =>
     { d with bs := { d.bs with takenAt := some 5000 } }), by decide +kernel⟩,
   ⟨stAt 1 (fun d => (d.wr BS_STATUS_EMERG 0 0).wr BS_CTRL_EM_EN 0 1|>.wr BS_STATUS_STATE 0 1|>.wr BS_DETB_EMFILT 0
     2|> fun d => { d with bs := { d.bs with emLow := 2 } }), by decide +kernel⟩,
   ⟨stAt 1 (fun d => (d.wr BS_STATUS_EMERG 0 1).wr BS_DETB_EMFILT 0 2|> fun d =>
     { d with bs := { d.bs with emHigh := 2 } }), by decide +kernel⟩,
   ⟨stAt 2 (fun d => d.wr BS_STATUS_STATE 0 3|>.wr BS_HB_HBT 0 1|>.wr FD_FM_STATE 0 3|>.wr BS_STATUS_EMERG 0 0|>.wr
     BS_HB_NFEED 0 1|> fun d => { d with bs := { d.bs with hbCnt := 5 } }), by decide +kernel⟩,
   ⟨stAt 2 (fun d => (d.wr CD_ENT_ROLE 0 5).wr CD_ENT_UNIT 0 2|>.wr BS_STR_STATE 2 2), 2, by decide +kernel⟩,
   ⟨stAt 2 (fun d => (d.wr BS_STR_STATE 2 0)|> fun d => { d with bs := { d.bs with offEnd := [(2, some 4000)] } }), 2,
     by decide +kernel⟩,
   ⟨stAt 1 (fun d => (d.wr CD_ENT_ROLE 0 5).wr CD_ENT_UNIT 0 2|>.wr BS_STR_STATE 2 3|>.wr BS_STATUS_STATE 0 2),
     Accessor.pa, 2, by decide +kernel⟩,
   ⟨stAt 1 (fun d => (d.wr CD_ENT_ROLE 0 5).wr CD_ENT_UNIT 0 2|>.wr BS_STR_STATE 2 4), Accessor.pb, 2,
     by decide +kernel⟩⟩

theorem witness_fuses_trip_and_recover :
    (∃ (s : State) (f : Fin 64), s.expiring ∧ tripDue s.atTimers.dev f.val = true ∧ portSw s.atTimers.dev = none ∧
     fuPortsw s.atTimers.dev f.val = false) ∧
    (∃ (s : State) (f : Fin 64), s.expiring ∧ trampDue s.atTimers.dev f.val = true ∧ tripSet s.atTimers.dev f.val = 0
     ∧ (chanOfFuse s.atTimers.dev f.val).isSome = true ∧ portSw s.atTimers.dev = none) ∧
    (∃ (s : State) (f : Fin 64), s.judging ∧ retryDue s.atCommands.dev f.val = true ∧ (chanOfFuse s.atCommands.dev
     f.val).isSome = true) ∧
    (∃ (s : State) (f : Fin 64), s.expiring ∧ rcntDue s.atTimers.dev f.val = true) ∧
    (∃ (s : State) (f : Fin 64), s.expiring ∧ tsenseDue s.atTimers.dev f.val = true) :=
  ⟨⟨stAt 2 (fun d => (d.wr CD_ENT_ROLE 0 3).wr CD_ENT_UNIT 0 0|>.wr CD_ENT_OWNK 0 3|>.wr FU_CFG_VALID 0 1|>.wr
     FU_CFG_INFG 0 0|>.wr FU_CFG_PORTSW 0 0|>.wr FU_STATUS_STATE 0 3|>.wr FU_CFG_VALID 1 0|>.wr FU_CFG_VALID 2 0|>.wr
     FU_CFG_VALID 3 0|>.setFuse 0 { acc := 2147483648 }|>.setCh 0 {}), 0, by decide +kernel⟩,
   ⟨stAt 2 (fun d => (d.wr CD_ENT_ROLE 0 3).wr CD_ENT_UNIT 0 0|>.wr CD_ENT_OWNK 0 3|>.wr FU_CFG_VALID 0 1|>.wr
     FU_CFG_INFG 0 0|>.wr FU_CFG_PORTSW 0 0|>.wr FU_STATUS_STATE 0 2|>.wr FU_CFG_VALID 1 0|>.wr FU_CFG_VALID 2 0|>.wr
     FU_CFG_VALID 3 0|>.wr FU_INR_TRAMP 0 1|>.setFuse 0 { rampAt := 4000 }|>.setCh 0 {}), 0, by decide +kernel⟩,
   ⟨stAt 1 (fun d => (d.wr CD_ENT_ROLE 0 3).wr CD_ENT_UNIT 0 0|>.wr CD_ENT_OWNK 0 3|>.wr FU_CFG_VALID 0 1|>.wr
     FU_CFG_INFG 0 0|>.wr FU_CFG_PORTSW 0 0|>.wr FU_STATUS_STATE 0 4|>.setFuse 0 { backEnd := 5000 }), 0,
     by decide +kernel⟩,
   ⟨stAt 2 (fun d => (d.wr CD_ENT_ROLE 0 3).wr CD_ENT_UNIT 0 0|>.wr CD_ENT_OWNK 0 3|>.wr FU_CFG_VALID 0 1|>.wr
     FU_CFG_INFG 0 0|>.wr FU_CFG_PORTSW 0 0|>.wr FU_STATUS_STATE 0 3|>.wr FU_STATUS_RCNT 0 2|>.wr FU_RTY_RWIN 0 1|>
     fun d => { d with tb := { d.tb with now := 1000000 } }), 0, by decide +kernel⟩,
   ⟨stAt 2 (fun d => (d.wr CD_ENT_ROLE 0 3).wr CD_ENT_UNIT 0 0|>.wr CD_ENT_OWNK 0 3|>.wr FU_CFG_VALID 0 1|>.wr
     FU_CFG_INFG 0 0|>.wr FU_CFG_PORTSW 0 0|>.wr FU_STATUS_STATE 0 3|>.wr FU_STATUS_IMPL 0 0|>.setCh 0
     { smp := { has := true, t := 95 }, idb := List.replicate 16 0 ++ [4] }), 0, by decide +kernel⟩⟩

theorem witness_feed_group_changes :
    (∃ (s : State) (n : Fin 16) (p : Nat) (q : Nat), s.judging ∧ revertDue s.atCommands.dev n.val = true ∧ groupPrim
     s.atCommands.dev n.val = some p ∧ groupSec s.atCommands.dev n.val = some q ∧ (chanOfFuse s.atCommands.dev
     q).isSome = true) ∧
    (∃ (s : State) (n : Fin 16) (p : Nat), s.expiring ∧ xferDue s.atTimers.dev n.val = true ∧ groupPrim s.atTimers.dev
     n.val = some p) ∧
    (∃ (s : State) (n : Fin 16) (p : Nat), s.expiring ∧ stuckDue s.atTimers.dev n.val = true ∧ groupPrim
     s.atTimers.dev n.val = some p) ∧
    (∃ (s : State) (a : Accessor) (f : Fin 64) (n : Nat) (q : Nat), s.turn ∧ a ≠ .sp ∧ writeKind s.sys.dev (accIx a)
     (0x901C + 0x20 * f.val) (0x80000) = 0 ∧ fuValid s.atCommands.dev f.val = true ∧ fuInfg s.atCommands.dev f.val =
     true ∧ s.atCommands.dev.fl FU_CFG_PRIO f.val = false ∧ fuFg s.atCommands.dev f.val = n ∧ groupPrim
     s.atCommands.dev n = some f.val ∧ groupSec s.atCommands.dev n = some q ∧ groupSel s.atCommands.dev n = some f.val
     ∧ fuState s.atCommands.dev f.val = fuOn ∧ (s.atCommands.dev.fuz f.val).supply < 4 ∧ fuAvail s.atCommands.dev q =
     true ∧ (s.atCommands.dev.fg n).en = true ∧ (s.atCommands.dev.fg n).shed = false ∧ (s.atCommands.dev.fg n).stuck =
     false ∧ (s.atCommands.dev.fg n).chg.isNone = true ∧ (chanOfFuse s.atCommands.dev f.val).isSome = true) :=
  ⟨⟨stAt 1 (fun d => (d.wr CD_ENT_ROLE 0 3).wr CD_ENT_UNIT 0 0|>.wr CD_ENT_OWNK 0 2|>.wr CD_ENT_OWNN 0 2|>.wr
     CD_ENT_OWNK 1 2|>.wr CD_ENT_OWNN 1 2|>.wr CD_ENT_ROLE 1 3|>.wr CD_ENT_UNIT 1 1|>.wr FU_CFG_VALID 0 1|>.wr
     FU_CFG_INFG 0 1|>.wr FU_CFG_FG 0 2|>.wr FU_CFG_PRIO 0 0|>.wr FU_CFG_VALID 1 1|>.wr FU_CFG_INFG 1 1|>.wr FU_CFG_FG
     1 2|>.wr FU_CFG_PRIO 1 1|>.wr FU_CFG_VALID 2 0|>.wr FU_CFG_VALID 3 0|>.wr FU_CFG_REVT 0 1|>.setFg 2
     { en := true, rev := 100000 }), 2, 0, 1, by decide +kernel⟩,
   ⟨stAt 2 (fun d => (d.wr CD_ENT_ROLE 0 3).wr CD_ENT_UNIT 0 0|>.wr CD_ENT_OWNK 0 2|>.wr CD_ENT_OWNN 0 2|>.wr
     CD_ENT_OWNK 1 2|>.wr CD_ENT_OWNN 1 2|>.wr CD_ENT_ROLE 1 3|>.wr CD_ENT_UNIT 1 1|>.wr FU_CFG_VALID 0 1|>.wr
     FU_CFG_INFG 0 1|>.wr FU_CFG_FG 0 2|>.wr FU_CFG_PRIO 0 0|>.wr FU_CFG_VALID 1 1|>.wr FU_CFG_INFG 1 1|>.wr FU_CFG_FG
     1 2|>.wr FU_CFG_PRIO 1 1|>.wr FU_CFG_VALID 2 0|>.wr FU_CFG_VALID 3 0|>.setFg 2
     { en := true, chg := some { out := 1, inc := 0, at_ := 4000, offEdge := 4001, known := 4000, ein := some 5000 } }),
     2, 0, by decide +kernel⟩,
   ⟨stAt 2 (fun d => (d.wr CD_ENT_ROLE 0 3).wr CD_ENT_UNIT 0 0|>.wr CD_ENT_OWNK 0 2|>.wr CD_ENT_OWNN 0 2|>.wr
     CD_ENT_OWNK 1 2|>.wr CD_ENT_OWNN 1 2|>.wr CD_ENT_ROLE 1 3|>.wr CD_ENT_UNIT 1 1|>.wr FU_CFG_VALID 0 1|>.wr
     FU_CFG_INFG 0 1|>.wr FU_CFG_FG 0 2|>.wr FU_CFG_PRIO 0 0|>.wr FU_CFG_VALID 1 1|>.wr FU_CFG_INFG 1 1|>.wr FU_CFG_FG
     1 2|>.wr FU_CFG_PRIO 1 1|>.wr FU_CFG_VALID 2 0|>.wr FU_CFG_VALID 3 0|>.setFg 2
     { en := true, chg := some { out := 1, inc := 0, at_ := 4900, offEdge := 4901, known := 4900 } }), 2, 0,
     by decide +kernel⟩,
   ⟨stAt 1 (fun d => (d.wr CD_ENT_ROLE 0 3).wr CD_ENT_UNIT 0 0|>.wr CD_ENT_OWNK 0 2|>.wr CD_ENT_OWNN 0 2|>.wr
     CD_ENT_OWNK 1 2|>.wr CD_ENT_OWNN 1 2|>.wr CD_ENT_ROLE 1 3|>.wr CD_ENT_UNIT 1 1|>.wr FU_CFG_VALID 0 1|>.wr
     FU_CFG_INFG 0 1|>.wr FU_CFG_FG 0 2|>.wr FU_CFG_PRIO 0 0|>.wr FU_CFG_VALID 1 1|>.wr FU_CFG_INFG 1 1|>.wr FU_CFG_FG
     1 2|>.wr FU_CFG_PRIO 1 1|>.wr FU_CFG_VALID 2 0|>.wr FU_CFG_VALID 3 0|>.wr FU_STATUS_SEL 0 1|>.wr FU_STATUS_SEL 1
     0|>.wr FU_STATUS_STATE 0 3|>.wr FU_STATUS_STATE 1 1|>.wr CD_ENT_HEALTH 1 2|>.setFg 2 { en := true }|>.setCh 1
     { smp := { has := true }, matched := true }), Accessor.pa, 0, 2, 1, by decide +kernel⟩⟩

theorem witness_fuse_commands_act :
    (∃ (s : State) (a : Accessor) (f : Fin 64) (c : Nat), s.turn ∧ a ≠ .sp ∧ writeKind s.sys.dev (accIx a) (0x901C +
     0x20 * f.val) (0x10000) = 0 ∧ fuValid s.atCommands.dev f.val = true ∧ fuInfg s.atCommands.dev f.val = false ∧
     fuPortsw s.atCommands.dev f.val = false ∧ fuState s.atCommands.dev f.val = fuOff ∧ classShed s.atCommands.dev
     f.val = false ∧ seqClaim s.atCommands.dev 2 f.val ≠ some false ∧ chanOfFuse s.atCommands.dev f.val = some c ∧
     (s.atCommands.dev.chn c).smp.has = true ∧ chFlag s.atCommands.dev c flRolef = false) ∧
    (∃ (s : State) (a : Accessor) (f : Fin 64), s.turn ∧ a ≠ .sp ∧ writeKind s.sys.dev (accIx a) (0x901C + 0x20 *
     f.val) (0x10000) = 0 ∧ fuValid s.atCommands.dev f.val = true ∧ fuInfg s.atCommands.dev f.val = false ∧ fuPortsw
     s.atCommands.dev f.val = false ∧ fuState s.atCommands.dev f.val = fuOff ∧ (classShed s.atCommands.dev f.val =
     true ∨ seqClaim s.atCommands.dev 2 f.val = some false)) ∧
    (∃ (s : State) (a : Accessor) (f : Fin 64), s.turn ∧ a ≠ .sp ∧ writeKind s.sys.dev (accIx a) (0x901C + 0x20 *
     f.val) (0x20000) = 0 ∧ fuValid s.atCommands.dev f.val = true ∧ fuInfg s.atCommands.dev f.val = false ∧ fuPortsw
     s.atCommands.dev f.val = false ∧ (fuState s.atCommands.dev f.val = fuRamp ∨ fuState s.atCommands.dev f.val = fuOn
     ∨ fuState s.atCommands.dev f.val = fuTripped) ∧ stepOf s.atCommands.dev 2 f.val = none) ∧
    (∃ (s : State) (a : Accessor) (f : Fin 64), s.turn ∧ a ≠ .sp ∧ writeKind s.sys.dev (accIx a) (0x901C + 0x20 *
     f.val) (0x40000) = 0 ∧ fuState s.atCommands.dev f.val = fuLockout ∧ (s.atCommands.dev.fuz f.val).want = false) :=
  ⟨⟨stAt 1 (fun d => (d.wr CD_ENT_ROLE 0 3).wr CD_ENT_UNIT 0 0|>.wr CD_ENT_OWNK 0 3|>.wr FU_CFG_VALID 0 1|>.wr
     FU_CFG_INFG 0 0|>.wr FU_CFG_PORTSW 0 0|>.wr FU_STATUS_STATE 0 1|>.wr BS_STATUS_SHED 0 0|>.wr SQ_CFG_NSTEP 0
     0|>.setCh 0 { smp := { has := true } }), Accessor.pa, 0, 0, by decide +kernel⟩,
   ⟨stAt 1 (fun d => (d.wr CD_ENT_ROLE 0 3).wr CD_ENT_UNIT 0 0|>.wr CD_ENT_OWNK 0 3|>.wr FU_CFG_VALID 0 1|>.wr
     FU_CFG_INFG 0 0|>.wr FU_CFG_PORTSW 0 0|>.wr FU_STATUS_STATE 0 1|>.wr SQ_CFG_NSTEP 0 1|>.wr SQ_STEP_KIND 0 2|>.wr
     SQ_STEP_TGT 0 0|>.wr SQ_STEPST 0 0), Accessor.pa, 0, by decide +kernel⟩,
   ⟨stAt 1 (fun d => (d.wr CD_ENT_ROLE 0 3).wr CD_ENT_UNIT 0 0|>.wr CD_ENT_OWNK 0 3|>.wr FU_CFG_VALID 0 1|>.wr
     FU_CFG_INFG 0 0|>.wr FU_CFG_PORTSW 0 0|>.wr FU_STATUS_STATE 0 3), Accessor.pb, 0, by decide +kernel⟩,
   ⟨stAt 1 (fun d => d.wr FU_STATUS_STATE 63 5), Accessor.pa, 63, by decide +kernel⟩⟩

theorem witness_sequence_requests_are_taken :
    (∃ (s : State) (a : Accessor), s.turn ∧ a ≠ .sp ∧ writeKind s.sys.dev (accIx a) (0x9810) (1) = 0 ∧
     (s.atCommands.dev.fl SQ_STATUS_FORCE = true ∨ s.atCommands.dev.rd SQ_STATUS_STATE = sqLocked)) ∧
    (∃ (s : State) (a : Accessor), s.turn ∧ a ≠ .sp ∧ writeKind s.sys.dev (accIx a) (0x9810) (1) = 0 ∧
     s.atCommands.dev.fl SQ_STATUS_FORCE = false ∧ s.atCommands.dev.rd SQ_STATUS_STATE = sqOff) ∧
    (∃ (s : State) (a : Accessor), s.turn ∧ a ≠ .sp ∧ writeKind s.sys.dev (accIx a) (0x9810) (1) = 0 ∧
     s.atCommands.dev.fl SQ_STATUS_FORCE = false ∧ (s.atCommands.dev.rd SQ_STATUS_STATE = sqUp ∨ s.atCommands.dev.rd
     SQ_STATUS_STATE = sqOn ∨ s.atCommands.dev.rd SQ_STATUS_STATE = sqDown ∨ s.atCommands.dev.rd SQ_STATUS_STATE =
     sqBackoff ∨ s.atCommands.dev.rd SQ_STATUS_STATE = sqMinoff)) ∧
    (∃ (s : State) (a : Accessor), s.turn ∧ a ≠ .sp ∧ writeKind s.sys.dev (accIx a) (0x9810) (2) = 0 ∧
     s.atCommands.dev.rd SQ_STATUS_STATE = sqOn) ∧
    (∃ (s : State) (a : Accessor), s.turn ∧ a ≠ .sp ∧ writeKind s.sys.dev (accIx a) (0x9810) (2) = 0 ∧
     (s.atCommands.dev.rd SQ_STATUS_STATE = sqOff ∨ s.atCommands.dev.rd SQ_STATUS_STATE = sqDown ∨ s.atCommands.dev.rd
     SQ_STATUS_STATE = sqMinoff ∨ s.atCommands.dev.rd SQ_STATUS_STATE = sqLocked)) ∧
    (∃ (s : State) (a : Accessor), s.turn ∧ a ≠ .sp ∧ writeKind s.sys.dev (accIx a) (0x9810) (2) = 0 ∧
     s.atCommands.dev.rd SQ_STATUS_STATE = sqBackoff) ∧
    (∃ (s : State) (a : Accessor), s.turn ∧ a ≠ .sp ∧ writeKind s.sys.dev (accIx a) (0x9810) (2) = 0 ∧
     s.atCommands.dev.rd SQ_STATUS_STATE = sqUp ∧ s.atCommands.dev.seq.offTaken = false ∧ s.atCommands.dev.seq.next =
     none) :=
  ⟨⟨stAt 1 (fun d => d.wr SQ_STATUS_STATE 0 6|>.wr SQ_STATUS_FORCE 0 1), Accessor.pa, by decide +kernel⟩,
   ⟨stAt 1 (fun d => d.wr SQ_STATUS_STATE 0 0|>.wr SQ_STATUS_FORCE 0 0|>.wr SQ_CFG_NSTEP 0 2|>.wr SQ_STEP_KIND 0 1),
     Accessor.pb, by decide +kernel⟩,
   ⟨stAt 1 (fun d => d.wr SQ_STATUS_STATE 0 3|>.wr SQ_STATUS_FORCE 0 0), Accessor.pb, by decide +kernel⟩,
   ⟨stAt 1 (fun d => d.wr SQ_STATUS_STATE 0 2|>.wr SQ_CFG_NSTEP 0 2|>.wr SQ_STEPST 0 0x22|>.wr SQ_STEP_KIND 1 4),
     Accessor.pa, by decide +kernel⟩,
   ⟨stAt 1 (fun d => d.wr SQ_STATUS_STATE 0 0|>.wr SQ_STATUS_REQ 0 1), Accessor.pa, by decide +kernel⟩,
   ⟨stAt 1 (fun d => d.wr SQ_STATUS_STATE 0 5|>.wr SQ_STATUS_REQ 0 1), Accessor.pa, by decide +kernel⟩,
   ⟨stAt 1 (fun d => d.wr SQ_STATUS_STATE 0 1|>.wr SQ_STATUS_REQ 0 1), Accessor.pa, by decide +kernel⟩⟩

theorem witness_step_commands_and_timers_act :
    (∃ (s : State) (a : Accessor) (x : Fin 32), s.turn ∧ a ≠ .sp ∧ writeKind s.sys.dev (accIx a) (0x9810) (8 + 16 *
     x.val) = 0 ∧ (nStep s.atCommands.dev ≤ x.val ∨ s.atCommands.dev.rd SQ_STATUS_STATE ≠ sqOn ∨ stepState
     s.atCommands.dev x.val = stDone ∨ stepState s.atCommands.dev x.val = stUpwait)) ∧
    (∃ (s : State) (a : Accessor) (x : Fin 32), s.turn ∧ a ≠ .sp ∧ writeKind s.sys.dev (accIx a) (0x9810) (8 + 16 *
     x.val) = 0 ∧ x.val < nStep s.atCommands.dev ∧ s.atCommands.dev.rd SQ_STATUS_STATE = sqOn ∧ (stepState
     s.atCommands.dev x.val = stHostoff ∨ stepState s.atCommands.dev x.val = stFailed ∨ stepState s.atCommands.dev
     x.val = stShed) ∧ stepShed s.atCommands.dev x.val = false) ∧
    (∃ (s : State) (a : Accessor) (x : Fin 32), s.turn ∧ a ≠ .sp ∧ writeKind s.sys.dev (accIx a) (0x9810) (1024 + 16 *
     x.val) = 0 ∧ (nStep s.atCommands.dev ≤ x.val ∨ s.atCommands.dev.rd SQ_STATUS_STATE ≠ sqOn)) ∧
    (∃ (s : State) (a : Accessor) (x : Fin 32), s.turn ∧ a ≠ .sp ∧ writeKind s.sys.dev (accIx a) (0x9810) (1024 + 16 *
     x.val) = 0 ∧ x.val < nStep s.atCommands.dev ∧ s.atCommands.dev.rd SQ_STATUS_STATE = sqOn) ∧
    (∃ (s : State) (a : Accessor), s.turn ∧ a ≠ .sp ∧ writeKind s.sys.dev (accIx a) (0x9810) (512) = 0) ∧
    (∃ (s : State) (a : Accessor), s.turn ∧ a ≠ .sp ∧ writeKind s.sys.dev (accIx a) (0x9810) (4) = 0) ∧
    (∃ (s : State), s.expiring ∧ minoffDue s.atTimers.dev = true) ∧
    (∃ (s : State), s.expiring ∧ seqRetryDue s.atTimers.dev = true) ∧
    (∃ (s : State) (k : Nat), s.expiring ∧ s.atTimers.dev.rd SQ_STATUS_STATE = sqOn ∧ s.atTimers.dev.seq.rstAt = some
     k ∧ k ≤ s.atTimers.dev.tb.now) :=
  ⟨⟨stAt 1 (fun d => d.wr SQ_STATUS_STATE 0 3), Accessor.pa, 31, by decide +kernel⟩,
   ⟨stAt 1 (fun d => d.wr SQ_STATUS_STATE 0 2|>.wr SQ_CFG_NSTEP 0 2|>.wr SQ_STEPST 0 0x62|>.wr SQ_STEP_KIND 1 4),
     Accessor.pa, 1, by decide +kernel⟩,
   ⟨stAt 1 (fun d => d.wr SQ_STATUS_STATE 0 0), Accessor.pa, 3, by decide +kernel⟩,
   ⟨stAt 1 (fun d => d.wr SQ_STATUS_STATE 0 2|>.wr SQ_CFG_NSTEP 0 2|>.wr SQ_STEPST 0 0x22|>.wr SQ_STEP_KIND 1 4),
     Accessor.pb, 1, by decide +kernel⟩,
   ⟨stAt 1 (fun d => d.wr SQ_RAIL_UV 3 7), Accessor.pa, by decide +kernel⟩,
   ⟨stAt 1 (fun d => { (d.wr SQ_STATUS_STATE 0 6) with seq := { d.seq with fault := 0x30 } }), Accessor.pa,
     by decide +kernel⟩,
   ⟨stAt 2 (fun d => { (d.wr SQ_STATUS_STATE 0 4|>.wr SQ_TIME_MINOFF 0 1) with seq := { d.seq with since := 100 } }),
     by decide +kernel⟩,
   ⟨stAt 2 (fun d =>
     { (d.wr SQ_STATUS_STATE 0 5|>.wr SQ_TIME_BOFF 0 1|>.wr SQ_CTRL_DOUBLE 0 0|>.wr SQ_CFG_NSTEP 0 1) with seq := { d.seq with since := 100 } }),
     by decide +kernel⟩,
   ⟨stAt 2 (fun d => { (d.wr SQ_STATUS_STATE 0 2) with seq := { d.seq with rstAt := some 100 } }), 100,
     by decide +kernel⟩⟩

theorem witness_steps_begin_and_end :
    (∃ (s : State) (x : Nat) (k : Nat), s.judging ∧ s.atCommands.dev.seq.next = some (x, k) ∧ k ≤ s.atCommands.dev.cur
     ∧ k ≤ s.atCommands.dev.tb.now + 1 ∧ (s.atCommands.dev.tb.frameOpen = true → k ≤ s.atCommands.dev.tb.now) ∧
     s.atCommands.dev.rd SQ_STATUS_STATE = sqUp ∧ s.atCommands.dev.fl SQ_STATUS_REQ = true ∧
     s.atCommands.dev.seq.press = false ∧ x < nStep s.atCommands.dev ∧ x < 32 ∧ stepShed s.atCommands.dev x = false ∧
     stepState s.atCommands.dev x ≠ stShed) ∧
    (∃ (s : State) (x : Nat) (k : Nat), s.judging ∧ s.atCommands.dev.seq.next = some (x, k) ∧ k ≤ s.atCommands.dev.cur
     ∧ k ≤ s.atCommands.dev.tb.now + 1 ∧ (s.atCommands.dev.tb.frameOpen = true → k ≤ s.atCommands.dev.tb.now) ∧
     s.atCommands.dev.rd SQ_STATUS_STATE = sqUp ∧ s.atCommands.dev.fl SQ_STATUS_REQ = true ∧
     s.atCommands.dev.seq.press = false ∧ x < nStep s.atCommands.dev ∧ x < 32 ∧ stepShed s.atCommands.dev x = true) ∧
    (∃ (s : State) (x : Fin 32), s.expiring ∧ stepState s.atTimers.dev x.val = stUpwait ∧ act1 (s.atTimers.dev.rd
     SQ_STEP_FILT x.val) ≤ (s.atTimers.dev.stp x.val).cnt ∧ s.atTimers.dev.rd SQ_STATUS_STATE = sqUp ∧
     s.atTimers.dev.seq.offTaken = false) ∧
    (∃ (s : State) (x : Fin 32), s.expiring ∧ stepState s.atTimers.dev x.val = stDnwait ∧ (s.atTimers.dev.stp
     x.val).blind = false ∧ act1 (s.atTimers.dev.rd SQ_STEP_FILT x.val) ≤ (s.atTimers.dev.stp x.val).cnt ∧
     s.atTimers.dev.rd SQ_STATUS_STATE = sqDown ∧ x.val ≠ 0) ∧
    (∃ (s : State) (x : Fin 32), s.expiring ∧ stepTimeoutDue s.atTimers.dev x.val = true ∧ stepState s.atTimers.dev
     x.val = stUpwait ∧ s.atTimers.dev.rd SQ_STATUS_STATE = sqUp ∧ x.val < nStep s.atTimers.dev) :=
  ⟨⟨stAt 1 (fun d =>
     { (d.wr SQ_STATUS_STATE 0 1|>.wr SQ_STATUS_REQ 0 1|>.wr SQ_CFG_NSTEP 0 2|>.wr SQ_STEP_KIND 1 1) with seq := { d.seq with next := some (1, 4000) } }),
     1, 4000, by decide +kernel⟩,
   ⟨stAt 1 (fun d =>
     { (d.wr SQ_STATUS_STATE 0 1|>.wr SQ_STATUS_REQ 0 1|>.wr SQ_CFG_NSTEP 0 2|>.wr SQ_STEP_KIND 1 1|>.wr SQ_STEP_TGT 1 0|>.wr BS_STATUS_SHED 0 255|>.wr BS_LCLS_R 0 3) with seq := { d.seq with next := some (1, 4000) } }),
     1, 4000, by decide +kernel⟩,
   ⟨stAt 2 (fun d => (d.wr SQ_STATUS_STATE 0 1|>.wr SQ_CFG_NSTEP 0 2|>.wr SQ_STEP_FILT 0 1|>.wr SQ_STEPST 0 1).setStp
     0 { cnt := 65536 }), 0, by decide +kernel⟩,
   ⟨stAt 2 (fun d => (d.wr SQ_STATUS_STATE 0 3|>.wr SQ_CFG_NSTEP 0 2|>.wr SQ_STEP_FILT 1 1|>.wr SQ_STEPST 0
     0x30).setStp 1 { cnt := 65536 }), 1, by decide +kernel⟩,
   ⟨stAt 2 (fun d => (d.wr SQ_STATUS_STATE 0 1|>.wr SQ_CFG_NSTEP 0 2|>.wr SQ_STEP_TOUP 1 1|>.wr SQ_STEPST 0 0x12|>.wr
     SQ_STEP_KIND 1 1).setStp 1 { beg := 100 }), 1, by decide +kernel⟩⟩

theorem witness_push_button_presses :
    (∃ (s : State) (ms : BitVec 16), s.sys.dev.quiet ∧ 50 ≤ ms.toNat ∧ ms.toNat ≤ 4000 ∧ ms.toNat < forcet s.sys.dev *
     1000 ∧ s.sys.dev.fl SQ_STATUS_FORCE = false ∧ s.sys.dev.rd SQ_CTRL_SHACT = 0) ∧
    (∃ (s : State) (ms : BitVec 16), s.sys.dev.quiet ∧ 50 ≤ ms.toNat ∧ ms.toNat ≤ 4000 ∧ ms.toNat < forcet s.sys.dev *
     1000 ∧ s.sys.dev.fl SQ_STATUS_FORCE = false ∧ s.sys.dev.rd SQ_CTRL_SHACT ≠ 0 ∧ s.sys.dev.rd SQ_STATUS_STATE ≠
     sqLocked) ∧
    (∃ (s : State) (ms : BitVec 16), s.sys.dev.quiet ∧ ms.toNat < 50) ∧
    (∃ (s : State) (ms : BitVec 16), s.sys.dev.quiet ∧ 4000 < ms.toNat ∧ ms.toNat < forcet s.sys.dev * 1000 ∧
     s.sys.dev.fl SQ_STATUS_FORCE = false) ∧
    (∃ (s : State), s.sys.dev.quiet ∧ s.sys.dev.fl SQ_STATUS_FORCE = false ∧ nStep s.sys.dev ≤ 32) ∧
    (∃ (s : State), s.sys.dev.quiet ∧ s.sys.dev.fl SQ_STATUS_FORCE = true) :=
  ⟨⟨stAt 0 (fun d => d.wr SQ_STATUS_FORCE 0 0|>.wr SQ_CTRL_SHACT 0 0|>.wr SQ_CTRL_FORCET 0 4), 50, by decide +kernel⟩,
   ⟨stAt 0 (fun d => d.wr SQ_STATUS_FORCE 0 0|>.wr SQ_CTRL_SHACT 0 1|>.wr SQ_CTRL_FORCET 0 2|>.wr SQ_STATUS_STATE 0
     0), 1999, by decide +kernel⟩,
   ⟨stAt 0 (fun d => d), 49, by decide +kernel⟩,
   ⟨stAt 0 (fun d => d.wr SQ_STATUS_FORCE 0 0|>.wr SQ_CTRL_FORCET 0 15), 4001, by decide +kernel⟩,
   ⟨stAt 0 (fun d => d.wr SQ_STATUS_FORCE 0 0|>.wr SQ_CFG_NSTEP 0 2|>.wr SQ_STATUS_STATE 0 2|>.wr SQ_STEPST 0
     0x22|>.wr SQ_STEP_KIND 1 4), by decide +kernel⟩,
   ⟨stAt 0 (fun d => d.wr SQ_STATUS_FORCE 0 1), by decide +kernel⟩⟩

theorem witness_doorbells_move_the_rings :
    (∃ (s : State) (e : Endpoint) (ix : BitVec 16), s.sys.dev.quiet ∧ s.sys.dev.pw.entry = 0 ∧ (ix.toNat + 65536 -
     s.sys.dev.rd HQ_CQ_IDX_CI (epIx e)) % 65536 ≤ hqSize s.sys.dev (epIx e) 0) ∧
    (∃ (s : State) (e : Endpoint) (ix : BitVec 16), s.sys.dev.quiet ∧ s.sys.dev.pw.entry = 0 ∧ ¬ ((ix.toNat + 65536 -
     s.sys.dev.rd HQ_CQ_IDX_CI (epIx e)) % 65536 ≤ hqSize s.sys.dev (epIx e) 0)) ∧
    (∃ (s : State), s.sys.dev.quiet ∧ s.sys.dev.pw.entry ≠ 0) ∧
    (∃ (s : State) (e : Endpoint) (ix : BitVec 16), s.sys.dev.quiet ∧ s.sys.dev.pw.entry = 0 ∧ (ix.toNat + 65536 -
     s.sys.dev.rd HQ_CPL_IDX_CI (epIx e)) % 65536 ≤ hqHeld s.sys.dev (epIx e) 1) ∧
    (∃ (s : State) (e : Endpoint) (ix : BitVec 16), s.sys.dev.quiet ∧ s.sys.dev.pw.entry = 0 ∧ ¬ ((ix.toNat + 65536 -
     s.sys.dev.rd HQ_CPL_IDX_CI (epIx e)) % 65536 ≤ hqHeld s.sys.dev (epIx e) 1)) ∧
    (∃ (s : State), s.sys.dev.quiet ∧ s.sys.dev.pw.entry ≠ 0) ∧
    (∃ (s : State) (e : Endpoint) (ix : BitVec 16), s.sys.dev.quiet ∧ s.sys.dev.pw.entry = 0 ∧ (ix.toNat + 65536 -
     s.sys.dev.rd HQ_EVQ_IDX_CI (epIx e)) % 65536 ≤ hqHeld s.sys.dev (epIx e) 2) ∧
    (∃ (s : State) (e : Endpoint) (ix : BitVec 16), s.sys.dev.quiet ∧ s.sys.dev.pw.entry = 0 ∧ ¬ ((ix.toNat + 65536 -
     s.sys.dev.rd HQ_EVQ_IDX_CI (epIx e)) % 65536 ≤ hqHeld s.sys.dev (epIx e) 2)) ∧
    (∃ (s : State), s.sys.dev.quiet ∧ s.sys.dev.pw.entry ≠ 0) ∧
    (∃ (s : State) (e : Endpoint) (ix : BitVec 16), s.sys.dev.quiet ∧ s.sys.dev.pw.entry = 0 ∧ (ix.toNat + 65536 -
     s.sys.dev.rd HQ_TEL_IDX_CI (epIx e)) % 65536 ≤ hqHeld s.sys.dev (epIx e) 3) ∧
    (∃ (s : State) (e : Endpoint) (ix : BitVec 16), s.sys.dev.quiet ∧ s.sys.dev.pw.entry = 0 ∧ ¬ ((ix.toNat + 65536 -
     s.sys.dev.rd HQ_TEL_IDX_CI (epIx e)) % 65536 ≤ hqHeld s.sys.dev (epIx e) 3)) ∧
    (∃ (s : State), s.sys.dev.quiet ∧ s.sys.dev.pw.entry ≠ 0) ∧
    (∃ (s : State) (e : Endpoint) (ix : BitVec 16), s.sys.dev.quiet ∧ ix.toNat = s.sys.dev.rd HQ_CQ_IDX_PI (epIx e) ∧
     (ix.toNat + 65536 - s.sys.dev.rd HQ_CQ_IDX_CI (epIx e)) % 65536 ≤ hqSize s.sys.dev (epIx e) 0) ∧
    (∃ (s : State) (e : Endpoint) (ix : BitVec 16), s.sys.dev.quiet ∧ ix.toNat = s.sys.dev.rd HQ_CPL_IDX_CI (epIx e) ∧
     (ix.toNat + 65536 - s.sys.dev.rd HQ_CPL_IDX_CI (epIx e)) % 65536 ≤ hqHeld s.sys.dev (epIx e) 1) ∧
    (∃ (s : State) (e : Endpoint) (ix : BitVec 16), s.sys.dev.quiet ∧ ix.toNat = s.sys.dev.rd HQ_EVQ_IDX_CI (epIx e) ∧
     (ix.toNat + 65536 - s.sys.dev.rd HQ_EVQ_IDX_CI (epIx e)) % 65536 ≤ hqHeld s.sys.dev (epIx e) 2) ∧
    (∃ (s : State) (e : Endpoint) (ix : BitVec 16), s.sys.dev.quiet ∧ ix.toNat = s.sys.dev.rd HQ_TEL_IDX_CI (epIx e) ∧
     (ix.toNat + 65536 - s.sys.dev.rd HQ_TEL_IDX_CI (epIx e)) % 65536 ≤ hqHeld s.sys.dev (epIx e) 3) :=
  ⟨⟨stAt 0 (fun d => d.wr HQ_CQ_IDX_CI 1 0|>.wr HQ_CQ_IDX_PI 1 2), Endpoint.pb, 16, by decide +kernel⟩,
   ⟨stAt 0 (fun d => d.wr HQ_CQ_IDX_CI 0 0|>.wr HQ_CQ_IDX_PI 0 2), Endpoint.pa, 65535, by decide +kernel⟩,
   ⟨stAt 0 (fun d => { d with pw := { d.pw with entry := 1 } }), by decide +kernel⟩,
   ⟨stAt 0 (fun d => d.wr HQ_CPL_IDX_CI 1 0|>.wr HQ_CPL_IDX_PI 1 2), Endpoint.pb, 2, by decide +kernel⟩,
   ⟨stAt 0 (fun d => d.wr HQ_CPL_IDX_CI 0 0|>.wr HQ_CPL_IDX_PI 0 2), Endpoint.pa, 65535, by decide +kernel⟩,
   ⟨stAt 0 (fun d => { d with pw := { d.pw with entry := 1 } }), by decide +kernel⟩,
   ⟨stAt 0 (fun d => d.wr HQ_EVQ_IDX_CI 1 0|>.wr HQ_EVQ_IDX_PI 1 2), Endpoint.pb, 2, by decide +kernel⟩,
   ⟨stAt 0 (fun d => d.wr HQ_EVQ_IDX_CI 0 0|>.wr HQ_EVQ_IDX_PI 0 2), Endpoint.pa, 65535, by decide +kernel⟩,
   ⟨stAt 0 (fun d => { d with pw := { d.pw with entry := 1 } }), by decide +kernel⟩,
   ⟨stAt 0 (fun d => d.wr HQ_TEL_IDX_CI 1 0|>.wr HQ_TEL_IDX_PI 1 2), Endpoint.pb, 2, by decide +kernel⟩,
   ⟨stAt 0 (fun d => d.wr HQ_TEL_IDX_CI 0 0|>.wr HQ_TEL_IDX_PI 0 2), Endpoint.pa, 65535, by decide +kernel⟩,
   ⟨stAt 0 (fun d => { d with pw := { d.pw with entry := 1 } }), by decide +kernel⟩,
   ⟨stAt 0 (fun d => d.wr HQ_CQ_IDX_CI 1 2|>.wr HQ_CQ_IDX_PI 1 2), Endpoint.pb, 2, by decide +kernel⟩,
   ⟨stAt 0 (fun d => d.wr HQ_CPL_IDX_CI 1 2|>.wr HQ_CPL_IDX_PI 1 2), Endpoint.pb, 2, by decide +kernel⟩,
   ⟨stAt 0 (fun d => d.wr HQ_EVQ_IDX_CI 1 2|>.wr HQ_EVQ_IDX_PI 1 2), Endpoint.pb, 2, by decide +kernel⟩,
   ⟨stAt 0 (fun d => d.wr HQ_TEL_IDX_CI 1 2|>.wr HQ_TEL_IDX_PI 1 2), Endpoint.pb, 2, by decide +kernel⟩⟩

theorem witness_descriptors_are_paired :
    (∃ (s : State) (e : Endpoint), s.sys.dev.quiet ∧ (s.sys.dev.hep (epIx e)).reads = []) ∧
    (∃ (s : State) (e : Endpoint) (x : List Byte) (k : Nat), s.sys.dev.quiet ∧ (s.sys.dev.hep (epIx e)).reads =
     [{ tick := k, n := 1 }] ∧ s.sys.dev.host.arr = [] ∧ (descLocal (fit 64 (natBytes x)) = true ∨ (s.sys.dev.rd
     AU_CTRL_MODE = epIx e ∧ (gatedOps.contains (descOp (fit 64 (natBytes x))) = false ∨ s.sys.dev.fl GL_STATUS_MHALT
     = false)))) ∧
    (∃ (s : State) (e : Endpoint) (x : List Byte) (k : Nat), s.sys.dev.quiet ∧ (s.sys.dev.hep (epIx e)).reads =
     [{ tick := k, n := 1 }] ∧ s.sys.dev.host.arr = [] ∧ descLocal (fit 64 (natBytes x)) = false ∧ s.sys.dev.rd
     AU_CTRL_MODE ≠ 2 ∧ s.sys.dev.rd AU_CTRL_MODE ≠ epIx e) ∧
    (∃ (s : State) (e : Endpoint) (x : List Byte) (k : Nat), s.sys.dev.quiet ∧ (s.sys.dev.hep (epIx e)).reads =
     [{ tick := k, n := 1 }] ∧ s.sys.dev.host.arr = [] ∧ descLocal (fit 64 (natBytes x)) = false ∧ s.sys.dev.rd
     AU_CTRL_MODE = 2 ∧ gatedOps.contains (descOp (fit 64 (natBytes x))) = false ∧ (s.sys.dev.fl (seqSet (epIx e)) =
     false ∨ laterThan (leAt (fit 64 (natBytes x)) 4 4) (s.sys.dev.rd (seqReg (epIx e))) = true) ∧ (s.sys.dev.fl
     (seqSet (1 - epIx e)) = false ∨ laterThan (leAt (fit 64 (natBytes x)) 4 4) (s.sys.dev.rd (seqReg (1 - epIx e))) =
     true) ∧ s.sys.dev.au.table.find? (fun p => p.seq == leAt (fit 64 (natBytes x)) 4 4) = none) ∧
    (∃ (s : State) (e : Endpoint) (x : List Byte) (k : Nat), s.sys.dev.quiet ∧ (s.sys.dev.hep (epIx e)).reads =
     [{ tick := k, n := 1 }] ∧ s.sys.dev.host.arr = [] ∧ descLocal (fit 64 (natBytes x)) = false ∧ s.sys.dev.rd
     AU_CTRL_MODE = 2 ∧ gatedOps.contains (descOp (fit 64 (natBytes x))) = true ∧ s.sys.dev.fl GL_STATUS_MHALT = false
     ∧ (s.sys.dev.fl (seqSet (epIx e)) = false ∨ laterThan (leAt (fit 64 (natBytes x)) 4 4) (s.sys.dev.rd (seqReg
     (epIx e))) = true) ∧ (s.sys.dev.fl (seqSet (1 - epIx e)) = false ∨ laterThan (leAt (fit 64 (natBytes x)) 4 4)
     (s.sys.dev.rd (seqReg (1 - epIx e))) = true) ∧ s.sys.dev.au.table.find? (fun p => p.seq == leAt (fit 64 (natBytes
     x)) 4 4) = none ∧ s.sys.dev.au.table.length < 1024) ∧
    (∃ (s : State) (e : Endpoint) (x : List Byte) (k : Nat) (p : PairEnt), s.sys.dev.quiet ∧ (s.sys.dev.hep (epIx
     e)).reads = [{ tick := k, n := 1 }] ∧ s.sys.dev.host.arr = [] ∧ descLocal (fit 64 (natBytes x)) = false ∧
     s.sys.dev.rd AU_CTRL_MODE = 2 ∧ gatedOps.contains (descOp (fit 64 (natBytes x))) = true ∧ s.sys.dev.fl
     GL_STATUS_MHALT = false ∧ (s.sys.dev.fl (seqSet (epIx e)) = false ∨ laterThan (leAt (fit 64 (natBytes x)) 4 4)
     (s.sys.dev.rd (seqReg (epIx e))) = true) ∧ s.sys.dev.au.table.find? (fun p => p.seq == leAt (fit 64 (natBytes x))
     4 4) = some p ∧ p.gated = true ∧ p.copy.dig = copyDigest (fit 64 (natBytes x))) ∧
    (∃ (s : State) (e : Endpoint) (x : List Byte) (k : Nat) (p : PairEnt), s.sys.dev.quiet ∧ (s.sys.dev.hep (epIx
     e)).reads = [{ tick := k, n := 1 }] ∧ s.sys.dev.host.arr = [] ∧ descLocal (fit 64 (natBytes x)) = false ∧
     s.sys.dev.rd AU_CTRL_MODE = 2 ∧ gatedOps.contains (descOp (fit 64 (natBytes x))) = true ∧ s.sys.dev.fl
     GL_STATUS_MHALT = false ∧ (s.sys.dev.fl (seqSet (epIx e)) = false ∨ laterThan (leAt (fit 64 (natBytes x)) 4 4)
     (s.sys.dev.rd (seqReg (epIx e))) = true) ∧ s.sys.dev.au.table.find? (fun p => p.seq == leAt (fit 64 (natBytes x))
     4 4) = some p ∧ p.gated = true ∧ p.copy.dig ≠ copyDigest (fit 64 (natBytes x)) ∧ s.sys.dev.au.held.length < 8) :=
  ⟨⟨stAt 0 (fun d => d), Endpoint.pb, by decide +kernel⟩,
   ⟨stAt 0 (fun d => (d.wr AU_CTRL_MODE 0 1).setEp 1 { reads := [{ tick := 4998, n := 1 }] }), Endpoint.pb, [1, 0, 0,
     0, 5], 4998, by decide +kernel⟩,
   ⟨stAt 0 (fun d => (d.wr AU_CTRL_MODE 0 0).setEp 1 { reads := [{ tick := 4998, n := 1 }] }), Endpoint.pb, [16, 1, 0,
     0, 5], 4998, by decide +kernel⟩,
   ⟨stAt 0 (fun d =>
     { ((d.wr AU_CTRL_MODE 0 2).wr AU_STATUS_ESET_A 0 0|>.wr AU_STATUS_ESET_B 0 0|>.wr GL_STATUS_MHALT 0 0).setEp 1 { reads := [{ tick := 4998, n := 1 }] } with au := d.au }),
     Endpoint.pb, [16, 1, 0, 0, 5], 4998, by decide +kernel⟩,
   ⟨stAt 0 (fun d =>
     { ((d.wr AU_CTRL_MODE 0 2).wr AU_STATUS_ESET_A 0 0|>.wr AU_STATUS_ESET_B 0 0|>.wr GL_STATUS_MHALT 0 0).setEp 1 { reads := [{ tick := 4998, n := 1 }] } with au := d.au }),
     Endpoint.pb, [2, 1, 0, 0, 5], 4998, by decide +kernel⟩,
   ⟨stAt 0 (fun d =>
     { ((d.wr AU_CTRL_MODE 0 2).wr AU_STATUS_ESET_A 0 0|>.wr AU_STATUS_ESET_B 0 0|>.wr GL_STATUS_MHALT 0 0).setEp 1 { reads := [{ tick := 4998, n := 1 }] } with au := { d.au with table := [{ seq := 5, at_ := 4999, gated := true, copy := { ctx := { src := 0, seq := 5 }, dig := copyDigest (fit 64 [2, 1, 0, 0, 5]), bytes := [] } }] } }),
     Endpoint.pb, [2, 1, 0, 0, 5], 4998,
     { seq := 5, at_ := 4999, gated := true, copy := { ctx := { src := 0, seq := 5 }, dig := copyDigest (fit 64 [2, 1, 0, 0, 5]), bytes := [] } },
     by decide +kernel⟩,
   ⟨stAt 0 (fun d =>
     { ((d.wr AU_CTRL_MODE 0 2).wr AU_STATUS_ESET_A 0 0|>.wr AU_STATUS_ESET_B 0 0|>.wr GL_STATUS_MHALT 0 0).setEp 1 { reads := [{ tick := 4998, n := 1 }] } with au := { d.au with table := [{ seq := 5, at_ := 4999, gated := true, copy := { ctx := { src := 0, seq := 5 }, dig := 1, bytes := [] } }] } }),
     Endpoint.pb, [2, 1, 0, 0, 5], 4998,
     { seq := 5, at_ := 4999, gated := true, copy := { ctx := { src := 0, seq := 5 }, dig := 1, bytes := [] } },
     by decide +kernel⟩⟩

theorem witness_pairing_windows_and_verdicts :
    (∃ (s : State) (q : BitVec 32) (p : PairEnt), s.expiring ∧ windowDue s.atTimers.dev q.toNat = true ∧
     s.atTimers.dev.au.table.find? (fun p => p.seq == q.toNat) = some p ∧ p.gated = false) ∧
    (∃ (s : State) (q : BitVec 32) (p : PairEnt), s.expiring ∧ windowDue s.atTimers.dev q.toNat = true ∧
     s.atTimers.dev.au.table.find? (fun p => p.seq == q.toNat) = some p ∧ p.gated = true ∧ s.atTimers.dev.rd
     AU_STATUS_AUTH = p.copy.ctx.src + 1) ∧
    (∃ (s : State) (q : BitVec 32) (p : PairEnt), s.expiring ∧ windowDue s.atTimers.dev q.toNat = true ∧
     s.atTimers.dev.au.table.find? (fun p => p.seq == q.toNat) = some p ∧ p.gated = true ∧ s.atTimers.dev.rd
     AU_STATUS_AUTH ≠ p.copy.ctx.src + 1) ∧
    (∃ (s : State) (act : BitVec 2), s.turn ∧ writeKind s.sys.dev 2 0x1840 act.toNat = 0 ∧ act ≠ 0 ∧
     s.atCommands.dev.au.held.find? (fun h => h.seq == s.atCommands.dev.rd AU_VERDICT_SEQ) = none) ∧
    (∃ (s : State) (act : BitVec 2) (h : HeldDiv), s.turn ∧ writeKind s.sys.dev 2 0x1840 act.toNat = 0 ∧ (act = 1 ∨
     act = 2) ∧ s.atCommands.dev.au.held.find? (fun h => h.seq == s.atCommands.dev.rd AU_VERDICT_SEQ) = some h) ∧
    (∃ (s : State) (act : BitVec 2) (h : HeldDiv), s.turn ∧ writeKind s.sys.dev 2 0x1840 act.toNat = 0 ∧ act = 3 ∧
     s.atCommands.dev.au.held.find? (fun h => h.seq == s.atCommands.dev.rd AU_VERDICT_SEQ) = some h) ∧
    (∃ (s : State) (q : BitVec 32), s.expiring ∧ verdictDue s.atTimers.dev q.toNat = true) ∧
    (∃ (s : State), s.expiring ∧ pulseDue s.atTimers.dev = true) :=
  ⟨⟨stAt 2 (fun d =>
     { d with au := { d.au with table := [{ seq := 5, at_ := 100, gated := false, copy := { ctx := {}, dig := 1, bytes := [] } }] } }),
     5, { seq := 5, at_ := 100, gated := false, copy := { ctx := {}, dig := 1, bytes := [] } }, by decide +kernel⟩,
   ⟨stAt 2 (fun d =>
     { (d.wr AU_STATUS_AUTH 0 1) with au := { d.au with table := [{ seq := 5, at_ := 100, gated := true, copy := { ctx := {}, dig := 1, bytes := [] } }] } }),
     5, { seq := 5, at_ := 100, gated := true, copy := { ctx := {}, dig := 1, bytes := [] } }, by decide +kernel⟩,
   ⟨stAt 2 (fun d =>
     { (d.wr AU_STATUS_AUTH 0 0) with au := { d.au with table := [{ seq := 5, at_ := 100, gated := true, copy := { ctx := {}, dig := 1, bytes := [] } }] } }),
     5, { seq := 5, at_ := 100, gated := true, copy := { ctx := {}, dig := 1, bytes := [] } }, by decide +kernel⟩,
   ⟨stAt 1 (fun d => d), 1, by decide +kernel⟩,
   ⟨stAt 1 (fun d =>
     { (d.wr AU_VERDICT_SEQ 0 5) with au := { d.au with held := [{ seq := 5, at_ := 100, a := { ctx := {}, dig := 1, bytes := [] }, b := { ctx := { src := 1 }, dig := 2, bytes := [7] } }] } }),
     2,
     { seq := 5, at_ := 100, a := { ctx := {}, dig := 1, bytes := [] }, b := { ctx := { src := 1 }, dig := 2, bytes := [7] } },
     by decide +kernel⟩,
   ⟨stAt 1 (fun d =>
     { (d.wr AU_VERDICT_SEQ 0 5) with au := { d.au with held := [{ seq := 5, at_ := 100, a := { ctx := {}, dig := 1, bytes := [] }, b := { ctx := { src := 1 }, dig := 2, bytes := [7] } }] } }),
     3,
     { seq := 5, at_ := 100, a := { ctx := {}, dig := 1, bytes := [] }, b := { ctx := { src := 1 }, dig := 2, bytes := [7] } },
     by decide +kernel⟩,
   ⟨stAt 2 (fun d =>
     { (d.wr AU_TIME_VWAIT 0 1) with au := { d.au with held := [{ seq := 5, at_ := 100, a := { ctx := {}, dig := 1, bytes := [] }, b := { ctx := { src := 1 }, dig := 2, bytes := [7] } }] } }),
     5, by decide +kernel⟩,
   ⟨stAt 2 (fun d => { d with au := { d.au with pulseEnd := some 4000 } }), by decide +kernel⟩⟩

theorem witness_authority_follows_brace_and_tokens :
    (∃ (s : State), s.judging ∧ authDue s.atCommands.dev = true) ∧
    (∃ (s : State), s.turn ∧ writeKind s.sys.dev 2 0x1850 1 = 0 ∧ s.atCommands.dev.fl GL_STATUS_MHALT = false) ∧
    (∃ (s : State), s.turn ∧ writeKind s.sys.dev 2 0x1850 1 = 0 ∧ s.atCommands.dev.fl GL_STATUS_MHALT = true) ∧
    (∃ (s : State) (x : List Nat) (k : Nat), s.sys.dev.quiet ∧ s.sys.dev.au.tok = some (x, k) ∧ tokOutcome s.sys x k =
     2 ∧ leAt x 2 2 < 65536 ∧ x.getD 1 0 ≤ 2 ∧ s.sys.dev.fl AU_CTRL_BSRC = true) ∧
    (∃ (s : State) (x : List Nat) (k : Nat), s.sys.dev.quiet ∧ s.sys.dev.au.tok = some (x, k) ∧ tokOutcome s.sys x k ≠
     2) ∧
    (∃ (s : State), s.expiring ∧ s.atTimers.dev.au.leaseOn = true ∧ s.atTimers.dev.rd AU_LEASE = 0) ∧
    (∃ (s : State), s.expiring ∧ s.atTimers.dev.au.leaseOn = true ∧ s.atTimers.dev.au.leaseLow = false ∧
     s.atTimers.dev.rd AU_LEASE < 100) :=
  ⟨⟨stAt 1 (fun d =>
     { (d.wr AU_STATUS_PINS 0 2|>.wr AU_CTRL_BSRC 0 0|>.wr AU_WIN_BFILT 0 1|>.wr AU_STATUS_AUTH 0 0) with au := { d.au with pinRun := 300 } }),
     by decide +kernel⟩,
   ⟨stAt 1 (fun d => d.wr GL_STATUS_MHALT 0 0), by decide +kernel⟩,
   ⟨stAt 1 (fun d => d.wr GL_STATUS_MHALT 0 1), by decide +kernel⟩,
   ⟨stS (stAt 0 (fun d =>
     { (d.wr AU_CTRL_BSRC 0 1|>.wr NV_STATUS_KEYVALID 0 2) with au := { d.au with tok := some ([1, 2, 16, 39, 0, 0, 0, 0, 0, 0, 0, 0, 0, 0, 0, 0, 94, 203, 228, 209, 166, 51, 10, 68, 200, 247, 239, 149, 29, 75, 241, 101, 230, 198, 183, 33, 239, 173, 169, 133, 251, 65, 102, 27, 198, 231, 253, 108, 94, 203, 228, 209, 166, 51, 10, 68, 200, 247, 239, 149, 29, 75, 241, 101, 230, 198, 183, 33, 239, 173, 169, 133, 251, 65, 102, 27, 198, 231, 253, 108], 0) } }))
     (fun s =>
     { s with nv := Mem.put s.nv (keyAddr 1) [102, 163, 159, 65, 2, 177, 76, 8, 201, 211, 27, 217, 190, 152, 124, 113, 163, 112, 240, 140, 116, 16, 71, 58, 104, 191, 182, 91, 196, 227, 194, 59, 253, 89, 69, 104, 93, 225, 57, 208, 36, 117, 38, 3, 73, 153, 46, 7, 28, 250, 44, 107, 13, 193, 148, 175, 84, 42, 164, 43, 214, 102, 252, 66] }),
     [1, 2, 16, 39, 0, 0, 0, 0, 0, 0, 0, 0, 0, 0, 0, 0, 94, 203, 228, 209, 166, 51, 10, 68, 200, 247, 239, 149, 29,
     75, 241, 101, 230, 198, 183, 33, 239, 173, 169, 133, 251, 65, 102, 27, 198, 231, 253, 108, 94, 203, 228, 209,
     166, 51, 10, 68, 200, 247, 239, 149, 29, 75, 241, 101, 230, 198, 183, 33, 239, 173, 169, 133, 251, 65, 102, 27,
     198, 231, 253, 108], 0, by decide +kernel⟩,
   ⟨stAt 0 (fun d => { d with au := { d.au with tok := some ([1, 2], 5) } }), [1, 2], 5, by decide +kernel⟩,
   ⟨stAt 2 (fun d => { (d.wr AU_LEASE 0 0) with au := { d.au with leaseOn := true } }), by decide +kernel⟩,
   ⟨stAt 2 (fun d => { (d.wr AU_LEASE 0 99) with au := { d.au with leaseOn := true } }), by decide +kernel⟩⟩

theorem witness_pidgeonholes_change_hands :
    (∃ (s : State) (n : Fin 64), s.sys.dev.quiet ∧ n.val < 56 ∧ phState s.sys.dev n.val = 0) ∧
    (∃ (s : State) (n : Fin 64), s.sys.dev.quiet ∧ (56 ≤ n.val ∨ phState s.sys.dev n.val ≠ 0)) ∧
    (∃ (s : State) (e : Endpoint) (n : Fin 64), s.sys.dev.quiet ∧ (phState s.sys.dev n.val = 1 ∨ phState s.sys.dev
     n.val = 3) ∧ s.sys.dev.rd HQ_PH_HOLDER n.val = epIx e) ∧
    (∃ (s : State) (e : Endpoint) (n : Fin 64), s.sys.dev.quiet ∧ ((phState s.sys.dev n.val ≠ 1 ∧ phState s.sys.dev
     n.val ≠ 3) ∨ s.sys.dev.rd HQ_PH_HOLDER n.val ≠ epIx e)) ∧
    (∃ (s : State) (e : Endpoint) (n : Fin 64) (ofs : BitVec 18) (data : List Byte), s.sys.dev.quiet ∧ n.val * 4096 ≤
     ofs.toNat ∧ ofs.toNat + data.length ≤ (n.val + 1) * 4096 ∧ phState s.sys.dev n.val = 1 ∧ s.sys.dev.rd
     HQ_PH_HOLDER n.val = epIx e ∧ data ≠ []) ∧
    (∃ (s : State) (e : Endpoint) (ofs : BitVec 18) (data : List Byte), s.sys.dev.quiet ∧ data ≠ [] ∧ (phState
     s.sys.dev (ofs.toNat / 4096) ≠ 1 ∨ s.sys.dev.rd HQ_PH_HOLDER (ofs.toNat / 4096) ≠ epIx e)) ∧
    (∃ (s : State) (n : Fin 64), s.expiring ∧ reclaimDue s.atTimers.dev n.val = true) ∧
    (∃ (s : State) (n : Fin 64) (o : CopyOp), s.sys.dev.quiet ∧ s.sys.dev.host.copies.find? (fun o => o.hole == n.val
     && o.sent) = some o ∧ o.dir = 0 ∧ o.back < 4 ∧ bitOf s.sys.dev.host.phDrop n.val = false) ∧
    (∃ (s : State) (n : Fin 64) (o : CopyOp), s.sys.dev.quiet ∧ s.sys.dev.host.copies.find? (fun o => o.hole == n.val
     && o.sent) = some o ∧ o.back < 4 ∧ bitOf s.sys.dev.host.phDrop n.val = false) :=
  ⟨⟨stAt 0 (fun d => d.wr HQ_PH_STATE 55 0), 55, by decide +kernel⟩,
   ⟨stAt 0 (fun d => d), 56, by decide +kernel⟩,
   ⟨stAt 0 (fun d => d.wr HQ_PH_STATE 63 3|>.wr HQ_PH_HOLDER 63 1), Endpoint.pb, 63, by decide +kernel⟩,
   ⟨stAt 0 (fun d => d.wr HQ_PH_STATE 63 2|>.wr HQ_PH_HOLDER 63 1), Endpoint.pb, 63, by decide +kernel⟩,
   ⟨stAt 0 (fun d => d.wr HQ_PH_STATE 1 1|>.wr HQ_PH_HOLDER 1 1), Endpoint.pb, 1, 4096, [7, 8], by decide +kernel⟩,
   ⟨stAt 0 (fun d => d.wr HQ_PH_STATE 1 1|>.wr HQ_PH_HOLDER 1 1), Endpoint.pa, 4096, [7, 8], by decide +kernel⟩,
   ⟨stAt 2 (fun d => d.wr HQ_PH_STATE 1 1|>.wr HQ_PH_HOLDER 1 1|>.wr HQ_PHTO 1 1), 1, by decide +kernel⟩,
   ⟨stAt 0 (fun d =>
     { d with host := { d.host with copies := [{ hole := 1, dir := 0, len := 4, back := 1, ctx := {} }] } }), 1,
     { hole := 1, dir := 0, len := 4, back := 1, ctx := {} }, by decide +kernel⟩,
   ⟨stAt 0 (fun d =>
     { d with host := { d.host with copies := [{ hole := 1, dir := 1, len := 4, back := 3, ctx := {} }] } }), 1,
     { hole := 1, dir := 1, len := 4, back := 3, ctx := {} }, by decide +kernel⟩⟩

theorem witness_endpoints_fall_and_rise :
    (∃ (s : State), s.sys.dev.quiet) ∧
    (∃ (s : State) (e : Endpoint) (v : Fin 16), s.expiring ∧ bitOf (s.atTimers.dev.hep (epIx e)).msi v.val = true) ∧
    (∃ (s : State), s.sys.dev.quiet) ∧
    (∃ (s : State), s.sys.dev.quiet) :=
  ⟨⟨stAt 0 (fun d => d), by decide +kernel⟩,
   ⟨stAt 2 (fun d => d.setEp 1 { msi := 8 }), Endpoint.pb, 3, by decide +kernel⟩,
   ⟨stAt 0 (fun d => d.wr HQ_STATUS_LINK 0 1|>.wr HQ_PH_STATE 3 1|>.wr HQ_PH_HOLDER 3 0), by decide +kernel⟩,
   ⟨stAt 0 (fun d => d), by decide +kernel⟩⟩

theorem witness_host_queries_and_refusals_answer :
    (∃ (s : State) (h : Sender) (n : Byte), s.turn ∧ h.path ≠ .sp ∧ (h.lcl = true ∨ 16 ≤ n.toNat)) ∧
    (∃ (s : State) (h : Sender) (n : Byte), s.turn ∧ h.path ≠ .sp ∧ h.lcl = false ∧ n.toNat < 16 ∧ railConf
     s.atCommands.dev n.toNat = false) ∧
    (∃ (s : State) (h : Sender) (f : Byte), s.turn ∧ h.path ≠ .sp ∧ h.lcl = false ∧ f.toNat < 64 ∧ fuValid
     s.atCommands.dev f.toNat = false) ∧
    (∃ (s : State) (h : Sender) (f : Byte), s.turn ∧ h.path ≠ .sp ∧ h.lcl = false ∧ 64 ≤ f.toNat) ∧
    (∃ (s : State) (h : Sender) (r : Byte), s.turn ∧ h.path ≠ .sp ∧ h.lcl = false ∧ r.toNat < 8 ∧ s.atCommands.dev.fl
     GL_STATUS_MHALT = false ∧ s.atCommands.dev.fl RG_CTRL_EN r.toNat = false) ∧
    (∃ (s : State) (h : Sender), s.turn ∧ (h.path = .pa ∨ h.path = .pb) ∧ s.atCommands.dev.fl GL_STATUS_MHALT = true)
     ∧
    (∃ (s : State) (h : Sender), s.turn ∧ h.path ≠ .sp ∧ h.lcl = false) ∧
    (∃ (s : State) (h : Sender) (ofs : BitVec 16) (cnt : Byte) (n : Nat), s.turn ∧ h.path ≠ .sp ∧ h.lcl = false ∧
     ofs.toNat % 4 = 0 ∧ 1 ≤ cnt.toNat ∧ cnt.toNat ≤ 16 ∧ ofs.toNat + 4 * cnt.toNat ≤ 65536 ∧ (List.range
     cnt.toNat).all (fun k => wordThere s.atCommands.dev (accIx h.path) (ofs.toNat + 4 * k)) = true ∧ resultHole
     s.atCommands.dev = some n) ∧
    (∃ (s : State) (h : Sender) (ofs : BitVec 16) (cnt : Byte), s.turn ∧ h.path ≠ .sp ∧ h.lcl = false ∧ ofs.toNat % 4
     = 0 ∧ 1 ≤ cnt.toNat ∧ cnt.toNat ≤ 16 ∧ ofs.toNat + 4 * cnt.toNat ≤ 65536 ∧ (List.range cnt.toNat).all (fun k =>
     wordThere s.atCommands.dev (accIx h.path) (ofs.toNat + 4 * k)) = true ∧ resultHole s.atCommands.dev = none) ∧
    (∃ (s : State) (h : Sender) (ofs : BitVec 16) (cnt : Byte), s.turn ∧ h.path ≠ .sp ∧ h.lcl = false ∧ (ofs.toNat % 4
     ≠ 0 ∨ cnt = 0 ∨ 16 < cnt.toNat ∨ 65536 < ofs.toNat + 4 * cnt.toNat ∨ (List.range cnt.toNat).all (fun k =>
     wordThere s.atCommands.dev (accIx h.path) (ofs.toNat + 4 * k)) = false)) ∧
    (∃ (s : State) (h : Sender) (c : Byte) (n : Nat), s.turn ∧ h.path ≠ .sp ∧ h.lcl = false ∧ roleOf s.atCommands.dev
     c.toNat ≠ 0 ∧ resultHole s.atCommands.dev = some n) ∧
    (∃ (s : State) (h : Sender) (c : Byte), s.turn ∧ h.path ≠ .sp ∧ h.lcl = false ∧ roleOf s.atCommands.dev c.toNat =
     0) ∧
    (∃ (s : State) (h : Sender) (n : Byte) (dir : Byte) (len : BitVec 16) (addr : Word64), s.turn ∧ h.path ≠ .sp ∧
     h.lcl = false ∧ dir.toNat ≤ 1 ∧ 1 ≤ len.toNat ∧ len.toNat ≤ 4096 ∧ addr.toNat % 4 = 0 ∧ holeOk s.atCommands.dev
     (accIx h.path) (n.toNat, 2) = true) :=
  ⟨⟨stAt 1 (fun d => d.wr HQ_CPL_CFG_EN 0 1|>.wr GL_STATUS_MHALT 0 0),
     { path := Accessor.pb, seq := 1, tag := 2, irq := true, lcl := true, cidx := 3, extra := [] }, 0,
     by decide +kernel⟩,
   ⟨stAt 1 (fun d => d.wr HQ_CPL_CFG_EN 0 1|>.wr GL_STATUS_MHALT 0 0|>.wr CD_ENT_ROLE 3 0),
     { path := Accessor.pa, seq := 1, tag := 2, irq := true, lcl := false, cidx := 3, extra := [] }, 3,
     by decide +kernel⟩,
   ⟨stAt 1 (fun d => d.wr HQ_CPL_CFG_EN 0 1|>.wr GL_STATUS_MHALT 0 0|>.wr FU_CFG_VALID 3 0),
     { path := Accessor.pa, seq := 1, tag := 2, irq := true, lcl := false, cidx := 3, extra := [] }, 3,
     by decide +kernel⟩,
   ⟨stAt 1 (fun d => d.wr HQ_CPL_CFG_EN 0 1|>.wr GL_STATUS_MHALT 0 0),
     { path := Accessor.pa, seq := 1, tag := 2, irq := true, lcl := false, cidx := 3, extra := [] }, 64,
     by decide +kernel⟩,
   ⟨stAt 1 (fun d => d.wr HQ_CPL_CFG_EN 0 1|>.wr GL_STATUS_MHALT 0 0|>.wr RG_CTRL_EN 7 0),
     { path := Accessor.pa, seq := 1, tag := 2, irq := true, lcl := false, cidx := 3, extra := [] }, 7,
     by decide +kernel⟩,
   ⟨stAt 1 (fun d => d.wr GL_STATUS_MHALT 0 1),
     { path := Accessor.pa, seq := 1, tag := 2, irq := true, lcl := false, cidx := 3, extra := [] },
     by decide +kernel⟩,
   ⟨stAt 1 (fun d => d.wr HQ_CPL_CFG_EN 0 1|>.wr GL_STATUS_MHALT 0 0),
     { path := Accessor.pa, seq := 1, tag := 2, irq := true, lcl := false, cidx := 3, extra := [] },
     by decide +kernel⟩,
   ⟨stAt 1 (fun d => d.wr HQ_CPL_CFG_EN 0 1|>.wr GL_STATUS_MHALT 0 0),
     { path := Accessor.pa, seq := 1, tag := 2, irq := true, lcl := false, cidx := 3, extra := [] }, 0, 2, 56,
     by decide +kernel⟩,
   ⟨stAt 1 (fun d => d.wr HQ_CPL_CFG_EN 0 1|>.wr GL_STATUS_MHALT 0 0|>.wr HQ_PH_STATE 56 3|>.wr HQ_PH_STATE 57 3|>.wr
     HQ_PH_STATE 58 3|>.wr HQ_PH_STATE 59 3|>.wr HQ_PH_STATE 60 3|>.wr HQ_PH_STATE 61 3|>.wr HQ_PH_STATE 62 3|>.wr
     HQ_PH_STATE 63 3),
     { path := Accessor.pa, seq := 1, tag := 2, irq := true, lcl := false, cidx := 3, extra := [] }, 0, 2,
     by decide +kernel⟩,
   ⟨stAt 1 (fun d => d.wr HQ_CPL_CFG_EN 0 1|>.wr GL_STATUS_MHALT 0 0),
     { path := Accessor.pa, seq := 1, tag := 2, irq := true, lcl := false, cidx := 3, extra := [] }, 2, 17,
     by decide +kernel⟩,
   ⟨stAt 1 (fun d => d.wr HQ_CPL_CFG_EN 0 1|>.wr GL_STATUS_MHALT 0 0|>.wr CD_ENT_ROLE 3 3),
     { path := Accessor.pa, seq := 1, tag := 2, irq := true, lcl := false, cidx := 3, extra := [] }, 3, 56,
     by decide +kernel⟩,
   ⟨stAt 1 (fun d => d.wr HQ_CPL_CFG_EN 0 1|>.wr GL_STATUS_MHALT 0 0|>.wr CD_ENT_ROLE 3 0),
     { path := Accessor.pa, seq := 1, tag := 2, irq := true, lcl := false, cidx := 3, extra := [] }, 3,
     by decide +kernel⟩,
   ⟨stAt 1 (fun d => d.wr HQ_CPL_CFG_EN 0 1|>.wr GL_STATUS_MHALT 0 0|>.wr HQ_PH_STATE 2 1|>.wr HQ_PH_HOLDER 2 0),
     { path := Accessor.pa, seq := 1, tag := 2, irq := true, lcl := false, cidx := 3, extra := [] }, 2, 1, 4096, 4096,
     by decide +kernel⟩⟩

theorem witness_rail_and_fuse_commands_act :
    (∃ (s : State) (h : Sender) (n : Byte), s.turn ∧ h.path ≠ .sp ∧ h.lcl = false ∧ s.atCommands.dev.sill = false ∧
     railOk s.atCommands.dev n.toNat = true) ∧
    (∃ (s : State) (h : Sender) (n : Byte), s.turn ∧ h.path ≠ .sp ∧ h.lcl = false ∧ s.atCommands.dev.sill = false ∧
     railOk s.atCommands.dev n.toNat = true ∧ stepOf s.atCommands.dev 1 n.toNat = none ∧ kindShed s.atCommands.dev 1
     n.toNat = false ∧ railState s.atCommands.dev n.toNat = vrOff) ∧
    (∃ (s : State) (h : Sender) (n : Byte), s.turn ∧ h.path ≠ .sp ∧ h.lcl = false ∧ s.atCommands.dev.sill = false ∧
     railOk s.atCommands.dev n.toNat = true ∧ stepOf s.atCommands.dev 1 n.toNat = none ∧ (kindShed s.atCommands.dev 1
     n.toNat = true ∨ railState s.atCommands.dev n.toNat = vrRampdn)) ∧
    (∃ (s : State) (h : Sender) (n : Byte) (x : Nat), s.turn ∧ h.path ≠ .sp ∧ h.lcl = false ∧ s.atCommands.dev.sill =
     false ∧ railOk s.atCommands.dev n.toNat = true ∧ stepOf s.atCommands.dev 1 n.toNat = some x ∧ sqState
     s.atCommands.dev = sqOn ∧ stepState s.atCommands.dev x = stHostoff ∧ stepShed s.atCommands.dev x = false ∧ x <
     32) ∧
    (∃ (s : State) (h : Sender) (n : Byte) (x : Nat), s.turn ∧ h.path ≠ .sp ∧ h.lcl = false ∧ s.atCommands.dev.sill =
     false ∧ railOk s.atCommands.dev n.toNat = true ∧ stepOf s.atCommands.dev 1 n.toNat = some x ∧ sqState
     s.atCommands.dev ≠ sqOn) ∧
    (∃ (s : State) (h : Sender) (n : Byte) (x : Nat), s.turn ∧ h.path ≠ .sp ∧ h.lcl = false ∧ s.atCommands.dev.fl
     GL_STATUS_MHALT = false ∧ s.atCommands.dev.sill = false ∧ railOk s.atCommands.dev n.toNat = true ∧ stepOf
     s.atCommands.dev 1 n.toNat = some x ∧ sqState s.atCommands.dev = sqOn ∧ x < 32) ∧
    (∃ (s : State) (h : Sender) (n : Byte), s.turn ∧ h.path ≠ .sp ∧ h.lcl = false ∧ s.atCommands.dev.fl
     GL_STATUS_MHALT = false ∧ s.atCommands.dev.sill = false ∧ railOk s.atCommands.dev n.toNat = true ∧ stepOf
     s.atCommands.dev 1 n.toNat = none ∧ railState s.atCommands.dev n.toNat = vrPrep) ∧
    (∃ (s : State) (h : Sender) (f : Byte) (c : Nat), s.turn ∧ h.path ≠ .sp ∧ h.lcl = false ∧ s.atCommands.dev.sill =
     false ∧ fuseOk s.atCommands.dev f.toNat = true ∧ fuInfg s.atCommands.dev f.toNat = false ∧ fuPortsw
     s.atCommands.dev f.toNat = false ∧ fuState s.atCommands.dev f.toNat = fuOff ∧ classShed s.atCommands.dev f.toNat
     = false ∧ seqClaim s.atCommands.dev 2 f.toNat ≠ some false ∧ chanOfFuse s.atCommands.dev f.toNat = some c ∧
     (s.atCommands.dev.chn c).smp.has = true ∧ chFlag s.atCommands.dev c flRolef = false) ∧
    (∃ (s : State) (h : Sender) (f : Byte), s.turn ∧ h.path ≠ .sp ∧ h.lcl = false ∧ s.atCommands.dev.sill = false ∧
     fuseOk s.atCommands.dev f.toNat = true ∧ fuInfg s.atCommands.dev f.toNat = false ∧ fuPortsw s.atCommands.dev
     f.toNat = false ∧ fuState s.atCommands.dev f.toNat = fuOff ∧ classShed s.atCommands.dev f.toNat = true) ∧
    (∃ (s : State) (h : Sender) (f : Byte), s.turn ∧ h.path ≠ .sp ∧ h.lcl = false ∧ s.atCommands.dev.fl
     GL_STATUS_MHALT = false ∧ s.atCommands.dev.sill = false ∧ fuseOk s.atCommands.dev f.toNat = true ∧ fuInfg
     s.atCommands.dev f.toNat = false ∧ fuPortsw s.atCommands.dev f.toNat = false ∧ (fuState s.atCommands.dev f.toNat
     = fuRamp ∨ fuState s.atCommands.dev f.toNat = fuOn ∨ fuState s.atCommands.dev f.toNat = fuTripped) ∧ stepOf
     s.atCommands.dev 2 f.toNat = none) ∧
    (∃ (s : State) (h : Sender) (f : Byte), s.turn ∧ h.path ≠ .sp ∧ h.lcl = false ∧ s.atCommands.dev.sill = false ∧
     fuseOk s.atCommands.dev f.toNat = true ∧ fuState s.atCommands.dev f.toNat = fuLockout ∧ (s.atCommands.dev.fuz
     f.toNat).want = false) :=
  ⟨⟨stAt 1 (fun d => d.wr HQ_CPL_CFG_EN 0 1|>.wr GL_STATUS_MHALT 0 0|>.wr CD_ENT_ROLE 0 1|>.wr CD_ENT_OWNN 0 0|>.wr
     CD_ENT_OWNK 0 1|>.wr VR_CFG_NPH 0 1),
     { path := Accessor.pa, seq := 1, tag := 2, irq := true, lcl := false, cidx := 3, extra := [] }, 0,
     by decide +kernel⟩,
   ⟨stAt 1 (fun d => d.wr HQ_CPL_CFG_EN 0 1|>.wr GL_STATUS_MHALT 0 0|>.wr CD_ENT_ROLE 0 1|>.wr CD_ENT_OWNN 0 0|>.wr
     CD_ENT_OWNK 0 1|>.wr VR_CFG_NPH 0 1|>.wr VR_STATUS_STATE 0 0),
     { path := Accessor.pa, seq := 1, tag := 2, irq := true, lcl := false, cidx := 3, extra := [] }, 0,
     by decide +kernel⟩,
   ⟨stAt 1 (fun d => d.wr HQ_CPL_CFG_EN 0 1|>.wr GL_STATUS_MHALT 0 0|>.wr CD_ENT_ROLE 0 1|>.wr CD_ENT_OWNN 0 0|>.wr
     CD_ENT_OWNK 0 1|>.wr VR_CFG_NPH 0 1|>.wr VR_STATUS_STATE 0 4),
     { path := Accessor.pa, seq := 1, tag := 2, irq := true, lcl := false, cidx := 3, extra := [] }, 0,
     by decide +kernel⟩,
   ⟨stAt 1 (fun d => d.wr HQ_CPL_CFG_EN 0 1|>.wr GL_STATUS_MHALT 0 0|>.wr CD_ENT_ROLE 0 1|>.wr CD_ENT_OWNN 0 0|>.wr
     CD_ENT_OWNK 0 1|>.wr VR_CFG_NPH 0 1|>.wr VR_STATUS_STATE 0 0|>.wr SQ_CFG_NSTEP 0 1|>.wr SQ_STEP_KIND 0 1|>.wr
     SQ_STEP_TGT 0 0|>.wr SQ_STATUS_STATE 0 2|>.wr SQ_STEPST 0 6),
     { path := Accessor.pa, seq := 1, tag := 2, irq := true, lcl := false, cidx := 3, extra := [] }, 0, 0,
     by decide +kernel⟩,
   ⟨stAt 1 (fun d => d.wr HQ_CPL_CFG_EN 0 1|>.wr GL_STATUS_MHALT 0 0|>.wr CD_ENT_ROLE 0 1|>.wr CD_ENT_OWNN 0 0|>.wr
     CD_ENT_OWNK 0 1|>.wr VR_CFG_NPH 0 1|>.wr VR_STATUS_STATE 0 0|>.wr SQ_CFG_NSTEP 0 1|>.wr SQ_STEP_KIND 0 1|>.wr
     SQ_STEP_TGT 0 0|>.wr SQ_STATUS_STATE 0 0),
     { path := Accessor.pa, seq := 1, tag := 2, irq := true, lcl := false, cidx := 3, extra := [] }, 0, 0,
     by decide +kernel⟩,
   ⟨stAt 1 (fun d => d.wr HQ_CPL_CFG_EN 0 1|>.wr GL_STATUS_MHALT 0 0|>.wr CD_ENT_ROLE 0 1|>.wr CD_ENT_OWNN 0 0|>.wr
     CD_ENT_OWNK 0 1|>.wr VR_CFG_NPH 0 1|>.wr VR_STATUS_STATE 0 3|>.wr SQ_CFG_NSTEP 0 1|>.wr SQ_STEP_KIND 0 1|>.wr
     SQ_STEP_TGT 0 0|>.wr SQ_STATUS_STATE 0 2|>.wr SQ_STEPST 0 2),
     { path := Accessor.pa, seq := 1, tag := 2, irq := true, lcl := false, cidx := 3, extra := [] }, 0, 0,
     by decide +kernel⟩,
   ⟨stAt 1 (fun d => d.wr HQ_CPL_CFG_EN 0 1|>.wr GL_STATUS_MHALT 0 0|>.wr CD_ENT_ROLE 0 1|>.wr CD_ENT_OWNN 0 0|>.wr
     CD_ENT_OWNK 0 1|>.wr VR_CFG_NPH 0 1|>.wr VR_STATUS_STATE 0 1),
     { path := Accessor.pa, seq := 1, tag := 2, irq := true, lcl := false, cidx := 3, extra := [] }, 0,
     by decide +kernel⟩,
   ⟨stAt 1 (fun d => d.wr HQ_CPL_CFG_EN 0 1|>.wr GL_STATUS_MHALT 0 0|>.wr CD_ENT_ROLE 0 3|>.wr CD_ENT_UNIT 0 0|>.wr
     CD_ENT_OWNK 0 3|>.wr FU_CFG_VALID 0 1|>.wr FU_STATUS_STATE 0 1|>.wr BS_STATUS_SHED 0 0|>.wr SQ_CFG_NSTEP 0
     0|>.setCh 0 { smp := { has := true } }),
     { path := Accessor.pa, seq := 1, tag := 2, irq := true, lcl := false, cidx := 3, extra := [] }, 0, 0,
     by decide +kernel⟩,
   ⟨stAt 1 (fun d => d.wr HQ_CPL_CFG_EN 0 1|>.wr GL_STATUS_MHALT 0 0|>.wr CD_ENT_ROLE 0 3|>.wr CD_ENT_UNIT 0 0|>.wr
     CD_ENT_OWNK 0 3|>.wr FU_CFG_VALID 0 1|>.wr FU_STATUS_STATE 0 1|>.wr BS_STATUS_SHED 0 8|>.wr BS_LCLS_F 0 3),
     { path := Accessor.pa, seq := 1, tag := 2, irq := true, lcl := false, cidx := 3, extra := [] }, 0,
     by decide +kernel⟩,
   ⟨stAt 1 (fun d => d.wr HQ_CPL_CFG_EN 0 1|>.wr GL_STATUS_MHALT 0 0|>.wr CD_ENT_ROLE 0 3|>.wr CD_ENT_UNIT 0 0|>.wr
     FU_CFG_VALID 0 1|>.wr CD_ENT_OWNK 0 3|>.wr FU_STATUS_STATE 0 3),
     { path := Accessor.pa, seq := 1, tag := 2, irq := true, lcl := false, cidx := 3, extra := [] }, 0,
     by decide +kernel⟩,
   ⟨stAt 1 (fun d => d.wr HQ_CPL_CFG_EN 0 1|>.wr GL_STATUS_MHALT 0 0|>.wr FU_CFG_VALID 3 1|>.wr FU_STATUS_STATE 3 5),
     { path := Accessor.pa, seq := 1, tag := 2, irq := true, lcl := false, cidx := 3, extra := [] }, 3,
     by decide +kernel⟩⟩

theorem witness_group_bus_and_cap_commands_act :
    (∃ (s : State) (h : Sender) (n : Byte), s.turn ∧ h.path ≠ .sp ∧ h.lcl = false ∧ s.atCommands.dev.sill = false ∧
     groupOk s.atCommands.dev n.toNat = true ∧ groupShed s.atCommands.dev n.toNat = false ∧ seqClaim s.atCommands.dev
     3 n.toNat ≠ some false) ∧
    (∃ (s : State) (h : Sender) (n : Byte), s.turn ∧ h.path ≠ .sp ∧ h.lcl = false ∧ s.atCommands.dev.fl
     GL_STATUS_MHALT = false ∧ s.atCommands.dev.sill = false ∧ groupOk s.atCommands.dev n.toNat = true ∧ stepOf
     s.atCommands.dev 3 n.toNat = none) ∧
    (∃ (s : State) (h : Sender) (n : Byte), s.turn ∧ h.path ≠ .sp ∧ h.lcl = false ∧ s.atCommands.dev.fl
     GL_STATUS_MHALT = false ∧ s.atCommands.dev.sill = false ∧ groupOk s.atCommands.dev n.toNat = true ∧
     ((s.atCommands.dev.fg n.toNat).en = false ∨ (s.atCommands.dev.fg n.toNat).shed = true)) ∧
    (∃ (s : State) (h : Sender) (n : Byte) (p : Nat) (q : Nat), s.turn ∧ h.path ≠ .sp ∧ h.lcl = false ∧
     s.atCommands.dev.fl GL_STATUS_MHALT = false ∧ s.atCommands.dev.sill = false ∧ groupOk s.atCommands.dev n.toNat =
     true ∧ groupPrim s.atCommands.dev n.toNat = some p ∧ groupSec s.atCommands.dev n.toNat = some q ∧ groupSel
     s.atCommands.dev n.toNat = some p ∧ fuState s.atCommands.dev p = fuOn ∧ (s.atCommands.dev.fuz p).supply < 4 ∧
     fuAvail s.atCommands.dev q = true ∧ (s.atCommands.dev.fg n.toNat).en = true ∧ (s.atCommands.dev.fg n.toNat).shed
     = false ∧ (s.atCommands.dev.fg n.toNat).stuck = false ∧ (s.atCommands.dev.fg n.toNat).chg.isNone = true ∧
     (chanOfFuse s.atCommands.dev p).isSome = true) ∧
    (∃ (s : State) (h : Sender), s.turn ∧ h.path ≠ .sp ∧ h.lcl = false ∧ s.atCommands.dev.sill = false) ∧
    (∃ (s : State) (h : Sender) (i : Byte), s.turn ∧ h.path ≠ .sp ∧ h.lcl = false ∧ s.atCommands.dev.sill = false ∧
     feederOk s.atCommands.dev i.toNat = true ∧ fmState s.atCommands.dev i.toNat = fmIdle) ∧
    (∃ (s : State) (h : Sender) (i : Byte), s.turn ∧ h.path ≠ .sp ∧ h.lcl = false ∧ s.atCommands.dev.sill = false ∧
     feederOk s.atCommands.dev i.toNat = true ∧ fmState s.atCommands.dev i.toNat = fmWait) ∧
    (∃ (s : State) (h : Sender) (i : Byte), s.turn ∧ h.path ≠ .sp ∧ h.lcl = false ∧ s.atCommands.dev.sill = false ∧
     feederOk s.atCommands.dev i.toNat = true ∧ fmState s.atCommands.dev i.toNat = fmRemoved) ∧
    (∃ (s : State) (h : Sender) (k : Byte) (n : Byte), s.turn ∧ h.path ≠ .sp ∧ h.lcl = false ∧ s.atCommands.dev.sill =
     false ∧ (k.toNat = 0 ∨ k.toNat = 3) ∧ n = 0) ∧
    (∃ (s : State) (h : Sender) (k : Byte) (n : Byte), s.turn ∧ h.path ≠ .sp ∧ h.lcl = false ∧ s.atCommands.dev.sill =
     false ∧ k.toNat = 1 ∧ railOk s.atCommands.dev n.toNat = true) ∧
    (∃ (s : State) (h : Sender) (k : Byte) (on : Byte), s.turn ∧ h.path ≠ .sp ∧ h.lcl = false ∧ s.atCommands.dev.sill
     = false ∧ k.toNat < 4 ∧ on.toNat < 2 ∧ pinMode s.atCommands.dev k.toNat = 0) ∧
    (∃ (s : State) (h : Sender) (k : Byte) (on : Byte), s.turn ∧ h.path ≠ .sp ∧ h.lcl = false ∧ s.atCommands.dev.sill
     = false ∧ k.toNat < 4 ∧ on.toNat < 2 ∧ pinMode s.atCommands.dev k.toNat ≠ 0) :=
  ⟨⟨stAt 1 (fun d => d.wr HQ_CPL_CFG_EN 0 1|>.wr GL_STATUS_MHALT 0 0|>.wr CD_ENT_OWNK 0 2|>.wr CD_ENT_OWNN 0 2|>.wr
     CD_ENT_OWNK 1 2|>.wr CD_ENT_OWNN 1 2|>.wr CD_ENT_ROLE 0 3|>.wr CD_ENT_UNIT 0 0|>.wr CD_ENT_ROLE 1 3|>.wr
     CD_ENT_UNIT 1 1|>.wr FU_CFG_VALID 0 1|>.wr FU_CFG_INFG 0 1|>.wr FU_CFG_FG 0 2|>.wr FU_CFG_PRIO 0 0|>.wr
     FU_CFG_VALID 1 1|>.wr FU_CFG_INFG 1 1|>.wr FU_CFG_FG 1 2|>.wr FU_CFG_PRIO 1 1|>.wr FU_CFG_VALID 2 0|>.wr
     FU_CFG_VALID 3 0|>.wr BS_STATUS_SHED 0 0|>.setFg 2 {}),
     { path := Accessor.pa, seq := 1, tag := 2, irq := true, lcl := false, cidx := 3, extra := [] }, 2,
     by decide +kernel⟩,
   ⟨stAt 1 (fun d => d.wr HQ_CPL_CFG_EN 0 1|>.wr GL_STATUS_MHALT 0 0|>.wr CD_ENT_OWNK 0 2|>.wr CD_ENT_OWNN 0 2|>.wr
     CD_ENT_OWNK 1 2|>.wr CD_ENT_OWNN 1 2|>.wr CD_ENT_ROLE 0 3|>.wr CD_ENT_UNIT 0 0|>.wr CD_ENT_ROLE 1 3|>.wr
     CD_ENT_UNIT 1 1|>.wr FU_CFG_VALID 0 1|>.wr FU_CFG_INFG 0 1|>.wr FU_CFG_FG 0 2|>.wr FU_CFG_PRIO 0 0|>.wr
     FU_CFG_VALID 1 1|>.wr FU_CFG_INFG 1 1|>.wr FU_CFG_FG 1 2|>.wr FU_CFG_PRIO 1 1|>.wr FU_CFG_VALID 2 0|>.wr
     FU_CFG_VALID 3 0|>.wr SQ_CFG_NSTEP 0 0|>.setFg 2 { en := true }|>.wr FU_STATUS_STATE 0 3|>.wr FU_STATUS_SEL 0 1),
     { path := Accessor.pa, seq := 1, tag := 2, irq := true, lcl := false, cidx := 3, extra := [] }, 2,
     by decide +kernel⟩,
   ⟨stAt 1 (fun d => d.wr HQ_CPL_CFG_EN 0 1|>.wr GL_STATUS_MHALT 0 0|>.wr CD_ENT_OWNK 0 2|>.wr CD_ENT_OWNN 0 2|>.wr
     CD_ENT_OWNK 1 2|>.wr CD_ENT_OWNN 1 2|>.wr CD_ENT_ROLE 0 3|>.wr CD_ENT_UNIT 0 0|>.wr CD_ENT_ROLE 1 3|>.wr
     CD_ENT_UNIT 1 1|>.wr FU_CFG_VALID 0 1|>.wr FU_CFG_INFG 0 1|>.wr FU_CFG_FG 0 2|>.wr FU_CFG_PRIO 0 0|>.wr
     FU_CFG_VALID 1 1|>.wr FU_CFG_INFG 1 1|>.wr FU_CFG_FG 1 2|>.wr FU_CFG_PRIO 1 1|>.wr FU_CFG_VALID 2 0|>.wr
     FU_CFG_VALID 3 0|>.setFg 2 {}),
     { path := Accessor.pa, seq := 1, tag := 2, irq := true, lcl := false, cidx := 3, extra := [] }, 2,
     by decide +kernel⟩,
   ⟨stAt 1 (fun d => d.wr HQ_CPL_CFG_EN 0 1|>.wr GL_STATUS_MHALT 0 0|>.wr CD_ENT_OWNK 0 2|>.wr CD_ENT_OWNN 0 2|>.wr
     CD_ENT_OWNK 1 2|>.wr CD_ENT_OWNN 1 2|>.wr CD_ENT_ROLE 0 3|>.wr CD_ENT_UNIT 0 0|>.wr CD_ENT_ROLE 1 3|>.wr
     CD_ENT_UNIT 1 1|>.wr FU_CFG_VALID 0 1|>.wr FU_CFG_INFG 0 1|>.wr FU_CFG_FG 0 2|>.wr FU_CFG_PRIO 0 0|>.wr
     FU_CFG_VALID 1 1|>.wr FU_CFG_INFG 1 1|>.wr FU_CFG_FG 1 2|>.wr FU_CFG_PRIO 1 1|>.wr FU_CFG_VALID 2 0|>.wr
     FU_CFG_VALID 3 0|>.wr FU_STATUS_SEL 0 1|>.wr FU_STATUS_SEL 1 0|>.wr FU_STATUS_STATE 0 3|>.wr FU_STATUS_STATE 1
     1|>.wr CD_ENT_HEALTH 1 2|>.setFg 2 { en := true }|>.setCh 1 { smp := { has := true }, matched := true }),
     { path := Accessor.pa, seq := 1, tag := 2, irq := true, lcl := false, cidx := 3, extra := [] }, 2, 0, 1,
     by decide +kernel⟩,
   ⟨stAt 1 (fun d => d.wr HQ_CPL_CFG_EN 0 1|>.wr GL_STATUS_MHALT 0 0),
     { path := Accessor.pa, seq := 1, tag := 2, irq := true, lcl := false, cidx := 3, extra := [] },
     by decide +kernel⟩,
   ⟨stAt 1 (fun d => d.wr HQ_CPL_CFG_EN 0 1|>.wr GL_STATUS_MHALT 0 0|>.wr CD_ENT_ROLE 0 7|>.wr CD_ENT_UNIT 0 0|>.wr
     FD_FM_STATE 0 0), { path := Accessor.pa, seq := 1, tag := 2, irq := true, lcl := false, cidx := 3, extra := [] },
     0, by decide +kernel⟩,
   ⟨stAt 1 (fun d => d.wr HQ_CPL_CFG_EN 0 1|>.wr GL_STATUS_MHALT 0 0|>.wr CD_ENT_ROLE 0 7|>.wr CD_ENT_UNIT 0 0|>.wr
     FD_FM_STATE 0 1), { path := Accessor.pa, seq := 1, tag := 2, irq := true, lcl := false, cidx := 3, extra := [] },
     0, by decide +kernel⟩,
   ⟨stAt 1 (fun d => d.wr HQ_CPL_CFG_EN 0 1|>.wr GL_STATUS_MHALT 0 0|>.wr CD_ENT_ROLE 0 7|>.wr CD_ENT_UNIT 0 0|>.wr
     FD_FM_STATE 0 4), { path := Accessor.pa, seq := 1, tag := 2, irq := true, lcl := false, cidx := 3, extra := [] },
     0, by decide +kernel⟩,
   ⟨stAt 1 (fun d => d.wr HQ_CPL_CFG_EN 0 1|>.wr GL_STATUS_MHALT 0 0),
     { path := Accessor.pa, seq := 1, tag := 2, irq := true, lcl := false, cidx := 3, extra := [] }, 3, 0,
     by decide +kernel⟩,
   ⟨stAt 1 (fun d => d.wr HQ_CPL_CFG_EN 0 1|>.wr GL_STATUS_MHALT 0 0|>.wr CD_ENT_ROLE 0 1|>.wr CD_ENT_OWNN 0 0|>.wr
     CD_ENT_OWNK 0 1|>.wr VR_CFG_NPH 0 1),
     { path := Accessor.pa, seq := 1, tag := 2, irq := true, lcl := false, cidx := 3, extra := [] }, 1, 0,
     by decide +kernel⟩,
   ⟨stAt 1 (fun d => d.wr HQ_CPL_CFG_EN 0 1|>.wr GL_STATUS_MHALT 0 0|>.wr CP_PIN_MODE 0 0),
     { path := Accessor.pa, seq := 1, tag := 2, irq := true, lcl := false, cidx := 3, extra := [] }, 1, 1,
     by decide +kernel⟩,
   ⟨stAt 1 (fun d => d.wr HQ_CPL_CFG_EN 0 1|>.wr GL_STATUS_MHALT 0 0|>.wr CP_PIN_MODE 0 4),
     { path := Accessor.pa, seq := 1, tag := 2, irq := true, lcl := false, cidx := 3, extra := [] }, 1, 1,
     by decide +kernel⟩⟩

theorem witness_sequence_and_loop_commands_act :
    (∃ (s : State) (h : Sender), s.turn ∧ h.path ≠ .sp ∧ h.lcl = false ∧ s.atCommands.dev.sill = false ∧
     s.atCommands.dev.fl SQ_STATUS_FORCE = false ∧ s.atCommands.dev.rd SQ_STATUS_STATE = sqMinoff) ∧
    (∃ (s : State) (h : Sender), s.turn ∧ h.path ≠ .sp ∧ h.lcl = false ∧ s.atCommands.dev.sill = false ∧
     (s.atCommands.dev.fl SQ_STATUS_FORCE = true ∨ s.atCommands.dev.rd SQ_STATUS_STATE = sqLocked)) ∧
    (∃ (s : State) (h : Sender), s.turn ∧ h.path ≠ .sp ∧ h.lcl = false ∧ s.atCommands.dev.fl GL_STATUS_MHALT = false ∧
     s.atCommands.dev.sill = false ∧ s.atCommands.dev.rd SQ_STATUS_STATE = sqOn) ∧
    (∃ (s : State) (h : Sender) (x : Byte), s.turn ∧ h.path ≠ .sp ∧ h.lcl = false ∧ s.atCommands.dev.sill = false ∧
     x.toNat < nStep s.atCommands.dev ∧ x.toNat < 32 ∧ s.atCommands.dev.rd SQ_STATUS_STATE = sqOn ∧ (stepState
     s.atCommands.dev x.toNat = stHostoff ∨ stepState s.atCommands.dev x.toNat = stFailed ∨ stepState s.atCommands.dev
     x.toNat = stShed) ∧ stepShed s.atCommands.dev x.toNat = false) ∧
    (∃ (s : State) (h : Sender) (x : Byte), s.turn ∧ h.path ≠ .sp ∧ h.lcl = false ∧ s.atCommands.dev.fl
     GL_STATUS_MHALT = false ∧ s.atCommands.dev.sill = false ∧ x.toNat < nStep s.atCommands.dev ∧ x.toNat < 32 ∧
     s.atCommands.dev.rd SQ_STATUS_STATE = sqOn) ∧
    (∃ (s : State) (h : Sender) (x : Byte), s.turn ∧ h.path ≠ .sp ∧ h.lcl = false ∧ s.atCommands.dev.fl
     GL_STATUS_MHALT = false ∧ s.atCommands.dev.sill = false ∧ x.toNat < nStep s.atCommands.dev ∧ x.toNat < 32 ∧
     s.atCommands.dev.rd SQ_STATUS_STATE ≠ sqOn) ∧
    (∃ (s : State) (h : Sender), s.turn ∧ h.path ≠ .sp ∧ h.lcl = false ∧ s.atCommands.dev.sill = false) ∧
    (∃ (s : State) (h : Sender) (x : Byte), s.turn ∧ h.path ≠ .sp ∧ h.lcl = false ∧ s.atCommands.dev.sill = false ∧
     s.atCommands.dev.fl LS_EN x.toNat = true ∧ (s.atCommands.dev.fl LS_PAR_EN x.toNat = true ∨ functionSetpt
     s.atCommands.dev x.toNat = true)) ∧
    (∃ (s : State) (h : Sender) (x : Byte), s.turn ∧ h.path ≠ .sp ∧ h.lcl = false ∧ s.atCommands.dev.sill = false ∧
     s.atCommands.dev.fl LS_EN x.toNat = true ∧ s.atCommands.dev.fl LS_PAR_EN x.toNat = false ∧ functionSetpt
     s.atCommands.dev x.toNat = false) ∧
    (∃ (s : State) (h : Sender) (x : Byte) (m : Byte) (i : Nat), s.turn ∧ h.path ≠ .sp ∧ h.lcl = false ∧
     s.atCommands.dev.fl GL_STATUS_MHALT = false ∧ s.atCommands.dev.sill = false ∧ s.atCommands.dev.fl LS_EN x.toNat =
     true ∧ m.toNat < 2 ∧ scarfIx s.atCommands.dev x.toNat = some i) ∧
    (∃ (s : State) (h : Sender) (x : Byte) (i : Nat), s.turn ∧ h.path ≠ .sp ∧ h.lcl = false ∧ s.atCommands.dev.sill =
     false ∧ s.atCommands.dev.fl LS_EN x.toNat = true ∧ scarfIx s.atCommands.dev x.toNat = some i) ∧
    (∃ (s : State) (h : Sender) (x : Byte), s.turn ∧ h.path ≠ .sp ∧ h.lcl = false ∧ scarfIx s.atCommands.dev x.toNat =
     none) ∧
    (∃ (s : State) (h : Sender) (c : Byte), s.turn ∧ h.path ≠ .sp ∧ h.lcl = false ∧ s.atCommands.dev.sill = false ∧
     roleOf s.atCommands.dev c.toNat ≠ 0) ∧
    (∃ (s : State) (h : Sender) (r : Byte), s.turn ∧ h.path ≠ .sp ∧ h.lcl = false ∧ s.atCommands.dev.fl
     GL_STATUS_MHALT = false ∧ s.atCommands.dev.sill = false ∧ ringOk s.atCommands.dev r.toNat = true ∧ ringState
     s.atCommands.dev r.toNat = rgRun) :=
  ⟨⟨stAt 1 (fun d => d.wr HQ_CPL_CFG_EN 0 1|>.wr GL_STATUS_MHALT 0 0|>.wr SQ_STATUS_STATE 0 4|>.wr SQ_STATUS_FORCE 0
     0), { path := Accessor.pa, seq := 1, tag := 2, irq := true, lcl := false, cidx := 3, extra := [] },
     by decide +kernel⟩,
   ⟨stAt 1 (fun d => d.wr HQ_CPL_CFG_EN 0 1|>.wr GL_STATUS_MHALT 0 0|>.wr SQ_STATUS_STATE 0 6),
     { path := Accessor.pa, seq := 1, tag := 2, irq := true, lcl := false, cidx := 3, extra := [] },
     by decide +kernel⟩,
   ⟨stAt 1 (fun d => d.wr HQ_CPL_CFG_EN 0 1|>.wr GL_STATUS_MHALT 0 0|>.wr SQ_STATUS_STATE 0 2|>.wr SQ_CFG_NSTEP 0
     2|>.wr SQ_STEPST 0 0x22|>.wr SQ_STEP_KIND 1 4),
     { path := Accessor.pa, seq := 1, tag := 2, irq := true, lcl := false, cidx := 3, extra := [] },
     by decide +kernel⟩,
   ⟨stAt 1 (fun d => d.wr HQ_CPL_CFG_EN 0 1|>.wr GL_STATUS_MHALT 0 0|>.wr SQ_STATUS_STATE 0 2|>.wr SQ_CFG_NSTEP 0
     2|>.wr SQ_STEPST 0 0x62|>.wr SQ_STEP_KIND 1 4),
     { path := Accessor.pa, seq := 1, tag := 2, irq := true, lcl := false, cidx := 3, extra := [] }, 1,
     by decide +kernel⟩,
   ⟨stAt 1 (fun d => d.wr HQ_CPL_CFG_EN 0 1|>.wr GL_STATUS_MHALT 0 0|>.wr SQ_STATUS_STATE 0 2|>.wr SQ_CFG_NSTEP 0
     2|>.wr SQ_STEPST 0 0x22|>.wr SQ_STEP_KIND 1 4),
     { path := Accessor.pa, seq := 1, tag := 2, irq := true, lcl := false, cidx := 3, extra := [] }, 1,
     by decide +kernel⟩,
   ⟨stAt 1 (fun d => d.wr HQ_CPL_CFG_EN 0 1|>.wr GL_STATUS_MHALT 0 0|>.wr SQ_STATUS_STATE 0 0|>.wr SQ_CFG_NSTEP 0 2),
     { path := Accessor.pa, seq := 1, tag := 2, irq := true, lcl := false, cidx := 3, extra := [] }, 1,
     by decide +kernel⟩,
   ⟨stAt 1 (fun d => d.wr HQ_CPL_CFG_EN 0 1|>.wr GL_STATUS_MHALT 0 0|>.wr SQ_STATUS_STATE 0 6),
     { path := Accessor.pa, seq := 1, tag := 2, irq := true, lcl := false, cidx := 3, extra := [] },
     by decide +kernel⟩,
   ⟨stAt 1 (fun d => d.wr HQ_CPL_CFG_EN 0 1|>.wr GL_STATUS_MHALT 0 0|>.wr LS_EN 1 1|>.wr LS_PAR_EN 1 1),
     { path := Accessor.pa, seq := 1, tag := 2, irq := true, lcl := false, cidx := 3, extra := [] }, 1,
     by decide +kernel⟩,
   ⟨stAt 1 (fun d => d.wr HQ_CPL_CFG_EN 0 1|>.wr GL_STATUS_MHALT 0 0|>.wr LS_EN 200 1),
     { path := Accessor.pa, seq := 1, tag := 2, irq := true, lcl := false, cidx := 3, extra := [] }, 200,
     by decide +kernel⟩,
   ⟨stAt 1 (fun d => d.wr HQ_CPL_CFG_EN 0 1|>.wr GL_STATUS_MHALT 0 0|>.wr LS_EN 2 1|>.wr LE_SCARF_VALID 0 1|>.wr
     LE_SCARF_SLOT 0 2),
     { path := Accessor.pa, seq := 1, tag := 2, irq := true, lcl := false, cidx := 3, extra := [] }, 2, 1, 0,
     by decide +kernel⟩,
   ⟨stAt 1 (fun d => d.wr HQ_CPL_CFG_EN 0 1|>.wr GL_STATUS_MHALT 0 0|>.wr LS_EN 2 1|>.wr LE_SCARF_VALID 0 1|>.wr
     LE_SCARF_SLOT 0 2),
     { path := Accessor.pa, seq := 1, tag := 2, irq := true, lcl := false, cidx := 3, extra := [] }, 2, 0,
     by decide +kernel⟩,
   ⟨stAt 1 (fun d => d.wr HQ_CPL_CFG_EN 0 1|>.wr GL_STATUS_MHALT 0 0|>.wr LE_SCARF_VALID 0 0|>.wr LE_SCARF_VALID 1
     0|>.wr LE_SCARF_VALID 2 0|>.wr LE_SCARF_VALID 3 0),
     { path := Accessor.pa, seq := 1, tag := 2, irq := true, lcl := false, cidx := 3, extra := [] }, 2,
     by decide +kernel⟩,
   ⟨stAt 1 (fun d => d.wr HQ_CPL_CFG_EN 0 1|>.wr GL_STATUS_MHALT 0 0|>.wr CD_ENT_ROLE 3 3),
     { path := Accessor.pa, seq := 1, tag := 2, irq := true, lcl := false, cidx := 3, extra := [] }, 3,
     by decide +kernel⟩,
   ⟨stAt 1 (fun d => d.wr HQ_CPL_CFG_EN 0 1|>.wr GL_STATUS_MHALT 0 0|>.wr RG_CTRL_EN 1 1|>.wr RG_STATUS_STATE 1 5),
     { path := Accessor.pa, seq := 1, tag := 2, irq := true, lcl := false, cidx := 3, extra := [] }, 1,
     by decide +kernel⟩⟩

theorem witness_telemetry_and_caps_answer :
    (∃ (s : State) (k : Fin 33), s.expiring ∧ capReleaseDue s.atTimers.dev k.val = true) ∧
    (∃ (s : State) (c : Fin 256) (q : Quad), s.expiring ∧ (s.atTimers.dev.tc c.val).done = some q) ∧
    (∃ (s : State), s.expiring ∧ s.atTimers.dev.tm.entries ≠ [] ∧ paceReady s.atTimers.dev 4 = true) ∧
    (∃ (s : State) (a : Accessor) (q : Fin 8), s.sys.dev.quiet ∧ wordThere s.sys.dev (accIx a) (0xA040 + 4 * q.val) =
     true) ∧
    (∃ (s : State) (a : Accessor), s.sys.dev.quiet ∧ wordThere s.sys.dev (accIx a) 0xA02C = true) :=
  ⟨⟨stAt 2 (fun d =>
     { (d.wr CP_ASSERT2_FG 0 32768|>.wr CP_REL_REL 0 1) with gov := { d.gov with rel := [(32, 65536)] } }), 32,
     by decide +kernel⟩,
   ⟨stAt 2 (fun d => d.setTc 255 { done := some { v := 5 } }), 255, { v := 5 }, by decide +kernel⟩,
   ⟨stAt 2 (fun d => { (d.wr HQ_TEL_CFG_EN 0 1) with tm := { d.tm with entries := [[1, 2]] } }), by decide +kernel⟩,
   ⟨stAt 0 (fun d => (d.wr TM_SEL_CH 1 5).setTc 5 { pk := [(15, some 77)] }), Accessor.pb, 7, by decide +kernel⟩,
   ⟨stAt 0 (fun d => (d.wr TM_SEL_CH 1 5).setTc 5 { shown := { v := 7 } }), Accessor.pb, by decide +kernel⟩⟩

theorem witness_thermal_events_act :
    (∃ (s : State) (crit : Bool), s.expiring ∧ dieDue s.atTimers.dev crit = true) ∧
    (∃ (s : State) (crit : Bool), s.judging ∧ dieClearDue s.atCommands.dev crit = true) ∧
    (∃ (s : State), s.expiring ∧ s.atTimers.dev.th.lvlDue = true) ∧
    (∃ (s : State) (j : Fin 8), s.expiring ∧ rateOver s.atTimers.dev j.val ≠ []) ∧
    (∃ (s : State) (c : Fin 256) (flt : Bool), s.expiring ∧ stageDue s.atTimers.dev c.val flt = true) ∧
    (∃ (s : State) (k : Fin 5), s.expiring ∧ paceReady s.atTimers.dev k.val = true) :=
  ⟨⟨stAt 2 (fun d => { (d.wr TH_STATUS_CRIT 0 0|>.wr TH_DLIM_CFILT 0 1) with th := { d.th with crit := 300 } }), true,
     by decide +kernel⟩,
   ⟨stAt 1 (fun d => { (d.wr TH_STATUS_HOT 0 1|>.wr TH_DLIM_CFILT 0 1) with th := { d.th with warnLow := 300 } }),
     false, by decide +kernel⟩,
   ⟨stAt 2 (fun d => { (d.wr TH_CTRL_LVLMIN 0 2) with th := { d.th with lvlDue := true } }), by decide +kernel⟩,
   ⟨stAt 2 (fun d =>
     { (d.wr TH_RATE_RLIM 3 1) with th := { d.th with rate := [(3 * 512, { rate := some 100000 })] } }), 3,
     by decide +kernel⟩,
   ⟨stAt 2 (fun d => { (d.wr TH_SFILT 0 1) with th := { d.th with stg := [(7, (70000, false))] } }), 3, true,
     by decide +kernel⟩,
   ⟨stAt 2 (fun d => d), 2, by decide +kernel⟩⟩

theorem witness_plans_are_made_and_applied :
    (∃ (s : State), s.expiring ∧ periodDue s.atTimers.dev = true ∧ s.atTimers.dev.fl GL_STATUS_MHALT = false) ∧
    (∃ (s : State), s.expiring ∧ periodDue s.atTimers.dev = true ∧ s.atTimers.dev.fl GL_STATUS_MHALT = true) ∧
    (∃ (s : State) (x : PlanItem), s.expiring ∧ s.atTimers.dev.mp.todo = [x] ∧ s.atTimers.dev.mp.todoAt ≤
     s.atTimers.dev.rd TB_FRAME_NUM ∧ s.atTimers.dev.fl GL_STATUS_MHALT = false ∧ blockPend s.atTimers.dev x.reg =
     false ∧ x.o ≠ 8) ∧
    (∃ (s : State), s.expiring ∧ s.atTimers.dev.fl MP_STATUS_ADVPEND = true ∧ s.atTimers.dev.mp.advEnd ≤
     s.atTimers.dev.tb.now) ∧
    (∃ (s : State) (a : Accessor), s.turn ∧ a ≠ .sp ∧ writeKind s.sys.dev (accIx a) (0xAC10) (1) = 0 ∧
     s.atCommands.dev.fl MP_STATUS_ADVPEND = true ∧ s.atCommands.dev.rd MP_APPRNUM = s.atCommands.dev.rd MP_PLANNUM) ∧
    (∃ (s : State) (a : Accessor), s.turn ∧ a ≠ .sp ∧ writeKind s.sys.dev (accIx a) (0xAC10) (1) = 0 ∧
     (s.atCommands.dev.fl MP_STATUS_ADVPEND = false ∨ s.atCommands.dev.rd MP_APPRNUM ≠ s.atCommands.dev.rd
     MP_PLANNUM)) ∧
    (∃ (s : State) (a : Accessor), s.turn ∧ a ≠ .sp ∧ writeKind s.sys.dev (accIx a) (0xAC10) (2) = 0 ∧
     s.atCommands.dev.fl MP_STATUS_ADVPEND = true ∧ s.atCommands.dev.rd MP_APPRNUM = s.atCommands.dev.rd MP_PLANNUM) ∧
    (∃ (s : State) (a : Accessor), s.turn ∧ a ≠ .sp ∧ writeKind s.sys.dev (accIx a) (0xAC10) (2) = 0 ∧
     (s.atCommands.dev.fl MP_STATUS_ADVPEND = false ∨ s.atCommands.dev.rd MP_APPRNUM ≠ s.atCommands.dev.rd
     MP_PLANNUM)) ∧
    (∃ (s : State) (a : Accessor), s.turn ∧ a ≠ .sp ∧ writeKind s.sys.dev (accIx a) (0xAC10) (4) = 0) ∧
    (∃ (s : State) (a : Accessor), s.turn ∧ a ≠ .sp ∧ writeKind s.sys.dev (accIx a) (0xAC10) (8) = 0) ∧
    (∃ (s : State), s.expiring ∧ chipDue s.atTimers.dev = true ∧ s.atTimers.dev.fl GL_STATUS_MHALT = false ∧
     s.atTimers.dev.rd MP_IDSTAT_CHIP < 1022) ∧
    (∃ (s : State), s.expiring ∧ chipDue s.atTimers.dev = true ∧ s.atTimers.dev.fl GL_STATUS_MHALT = false ∧ 1022 ≤
     s.atTimers.dev.rd MP_IDSTAT_CHIP) ∧
    (∃ (s : State), s.expiring ∧ resumeDue s.atTimers.dev = true ∧ s.atTimers.dev.fl GL_STATUS_MHALT = false ∧ railM
     s.atTimers.dev (s.atTimers.dev.rd MP_IDSTAT_RAIL) = s.atTimers.dev.mp.startM) ∧
    (∃ (s : State) (r : Fin 8) (p : Nat) (x : List Nat) (ms : List (Nat × List Nat)), s.sys.dev.quiet ∧ (s.sys.dev.rg
     r.val).meas = (p, x) :: ms ∧ s.sys.dev.fl MP_CTRL_MEAS_EN = true ∧ x.length = 16 ∧ leAt x 10 2 ≠ 0) :=
  ⟨⟨stAt 2 (fun d => { (d.wr TB_FRAME_POS 0 0|>.wr GL_STATUS_MHALT 0 0) with mp := { d.mp with runNow := true } }),
     by decide +kernel⟩,
   ⟨stAt 2 (fun d => { (d.wr TB_FRAME_POS 0 0|>.wr GL_STATUS_MHALT 0 1) with mp := { d.mp with runNow := true } }),
     by decide +kernel⟩,
   ⟨stAt 2 (fun d =>
     { (d.wr TB_FRAME_NUM 0 9|>.wr GL_STATUS_MHALT 0 0) with mp := { d.mp with todo := [{ o := 4, reg := FU_CSCALE, ix := 3, lo := 0, w := 8, obj := 3, prop := 100, old := 128, new := 100, mark := 1 }], todoAt := 9 } }),
     { o := 4, reg := FU_CSCALE, ix := 3, lo := 0, w := 8, obj := 3, prop := 100, old := 128, new := 100, mark := 1 },
     by decide +kernel⟩,
   ⟨stAt 2 (fun d =>
     { (d.wr MP_STATUS_ADVPEND 0 1|>.wr MP_PLANNUM 0 7|>.wr MP_APPRNUM 0 7) with mp := { d.mp with advEnd := 100 } }),
     by decide +kernel⟩,
   ⟨stAt 1 (fun d =>
     { (d.wr MP_STATUS_ADVPEND 0 1|>.wr MP_PLANNUM 0 7|>.wr MP_APPRNUM 0 7) with mp := { d.mp with advEnd := 100 } }),
     Accessor.pa, by decide +kernel⟩,
   ⟨stAt 1 (fun d => d.wr MP_STATUS_ADVPEND 0 1|>.wr MP_PLANNUM 0 7|>.wr MP_APPRNUM 0 6), Accessor.pb,
     by decide +kernel⟩,
   ⟨stAt 1 (fun d =>
     { (d.wr MP_STATUS_ADVPEND 0 1|>.wr MP_PLANNUM 0 7|>.wr MP_APPRNUM 0 7) with mp := { d.mp with advEnd := 100 } }),
     Accessor.pa, by decide +kernel⟩,
   ⟨stAt 1 (fun d => d.wr MP_STATUS_ADVPEND 0 0), Accessor.pb, by decide +kernel⟩,
   ⟨stAt 1 (fun d => d), Accessor.pb, by decide +kernel⟩,
   ⟨stAt 1 (fun d => { d with mp := { d.mp with res := [(3, some { val := 5, base := some 6 })] } }), Accessor.pa,
     by decide +kernel⟩,
   ⟨stAt 2 (fun d =>
     { (d.wr MP_IDSTAT_ACTIVE 0 1|>.wr MP_IDSTAT_PAUSED 0 0|>.wr GL_STATUS_MHALT 0 0|>.wr MP_IDSTAT_CHIP 0 1021) with mp := { d.mp with chipEnd := 100 } }),
     by decide +kernel⟩,
   ⟨stAt 2 (fun d =>
     { (d.wr MP_IDSTAT_ACTIVE 0 1|>.wr MP_IDSTAT_PAUSED 0 0|>.wr GL_STATUS_MHALT 0 0|>.wr MP_IDSTAT_CHIP 0 1022) with mp := { d.mp with chipEnd := 100 } }),
     by decide +kernel⟩,
   ⟨stAt 2 (fun d => (fun (d : Dev) =>
     { d with mp := { d.mp with clearAt := some 100, grid := 100, startM := railM d (d.rd MP_IDSTAT_RAIL) } }) (d.wr
     GL_STATUS_MHALT 0 0|>.wr MP_IDSTAT_ACTIVE 0 1|>.wr MP_IDSTAT_PAUSED 0 1|>.wr MP_ID_CHIP 0 6)),
     by decide +kernel⟩,
   ⟨stAt 0 (fun d => (d.wr MP_CTRL_MEAS_EN 0 1).setRg 1 { meas := [(3, [0,0,0,0,0,0,0,0,5,0,9,0,0,0,0,0])] }), 1, 3,
     [0,0,0,0,0,0,0,0,5,0,9,0,0,0,0,0], [], by decide +kernel⟩⟩

theorem witness_records_are_written :
    (∃ (s : State) (k : StoreCase) (e : Ent) (q : List Ent), s.expiring ∧ k = .fine ∧ recordDue s.atTimers.dev = true
     ∧ wrapDue s.atTimers.dev = false ∧ s.atTimers.dev.rcd.clrRec = none ∧ s.atTimers.dev.rcd.rewrites = [] ∧
     s.atTimers.dev.rcd.queue = e :: q ∧ s.atTimers.dev.rcd.clr = none ∧ s.atTimers.dev.rcd.refused = 0 ∧ capturing
     s.atTimers.dev = none ∧ isTrigger s.atTimers.dev e.code e.sev = false ∧ e.code < 65536 ∧ s.atTimers.dev.rcd.head
     < 81920) ∧
    (∃ (s : State), s.expiring ∧ recordDue s.atTimers.dev = true) ∧
    (∃ (s : State) (cls : BitVec 4) (src : BitVec 16), s.expiring ∧ closeDue s.atTimers.dev cls.toNat src.toNat =
     true) ∧
    (∃ (s : State) (a : Accessor), s.turn ∧ a ≠ .sp ∧ writeKind s.sys.dev (accIx a) (0xB018) (1) = 0 ∧
     s.atCommands.dev.rcd.queue.length < 768) ∧
    (∃ (s : State) (k : Nat), s.sys.dev.quiet ∧ s.sys.dev.rcd.zeroing = some k) :=
  ⟨⟨stAt 2 (fun d => (fun (d : Dev) =>
     { d with rcd := { d.rcd with queue := [{ code := 0x0300, cls := 2, src := 3, tick := 4000 }], head := 4, count := 4 } })
     (d.wr EV_RNUM 0 8|>.wr EV_REGD_STATE 0 0|>.wr EV_REGD_STATE 1 0|>.wr EV_REGD_STATE 2 0|>.wr EV_REGD_STATE 3 0)),
     StoreCase.fine, { code := 0x0300, cls := 2, src := 3, tick := 4000 }, [], by decide +kernel⟩,
   ⟨stAt 2 (fun d =>
     { d with rcd := { d.rcd with queue := [{ code := 0x0300, cls := 2, src := 3, tick := 4000 }], head := 4, count := 4 } }),
     by decide +kernel⟩,
   ⟨stAt 2 (fun d =>
     { (d.wr EV_FOLD_QUIET 0 1) with rcd := { d.rcd with opens := [{ oid := 1, code := 0x500, cls := 2, src := 3, lastTick := 100 }] } }),
     2, 3, by decide +kernel⟩,
   ⟨stAt 1 (fun d => d), Accessor.pa, by decide +kernel⟩,
   ⟨stAt 0 (fun d => { d with rcd := { d.rcd with zeroing := some 0 } }), 0, by decide +kernel⟩⟩

theorem witness_store_and_images_are_kept :
    (∃ (s : State), s.expiring ∧ refreshDue s.atTimers.dev = true) ∧
    (∃ (s : State) (a : Accessor), s.turn ∧ a ≠ .sp ∧ writeKind s.sys.dev (accIx a) (0xB420) (1) = 0 ∧
     s.atCommands.dev.up.refr = none) ∧
    (∃ (s : State) (a : Accessor), s.turn ∧ a ≠ .sp ∧ writeKind s.sys.dev (accIx a) (0xB420) (1) = 0 ∧
     s.atCommands.dev.up.refr ≠ none) ∧
    (∃ (s : State) (x : Nat), s.expiring ∧ refreshBlockDue s.atTimers.dev = true ∧ s.atTimers.dev.up.refr = some x ∧ x
     < 262143) ∧
    (∃ (s : State), s.expiring ∧ refreshBlockDue s.atTimers.dev = true ∧ s.atTimers.dev.up.refr = some 262143) ∧
    (∃ (s : State) (x : List HCtx × Nat), s.sys.dev.quiet ∧ s.sys.dev.up.verify = some x ∧ s.sys.dev.fl
     GL_STATUS_MHALT = false) ∧
    (∃ (s : State), s.expiring ∧ confirmDue s.atTimers.dev = true ∧ runSlot s.atTimers.dev < 2) ∧
    (∃ (s : State), s.expiring ∧ fallbackDue s.atTimers.dev = true) ∧
    (∃ (s : State) (a : Accessor), s.turn ∧ a ≠ .sp ∧ writeKind s.sys.dev (accIx a) (0xB824) (1) = 0) :=
  ⟨⟨stAt 2 (fun d => { (d.wr NV_REFR_INTERVAL 0 1|>.wr NV_REFR_AGE 0 1) with up := { d.up with refr := none } }),
     by decide +kernel⟩,
   ⟨stAt 1 (fun d => d), Accessor.pa, by decide +kernel⟩,
   ⟨stAt 1 (fun d => { d with up := { d.up with refr := some 7 } }), Accessor.pa, by decide +kernel⟩,
   ⟨stAt 2 (fun d => { d with up := { d.up with refr := some 262142, refrAt := 100 } }), 262142, by decide +kernel⟩,
   ⟨stAt 2 (fun d => { d with up := { d.up with refr := some 262143, refrAt := 100 } }), by decide +kernel⟩,
   ⟨stAt 0 (fun d =>
     { (d.wr GL_STATUS_MHALT 0 0|>.wr UP_STATUS_DLOPEN 0 1|>.wr UP_DL_SIZE 0 4) with up := { d.up with verify := some ([], 256) } }),
     ([], 256), by decide +kernel⟩,
   ⟨stAt 2 (fun d => (fun (d : Dev) => forIx 8 (fun r (d : Dev) => d.wr RG_CTRL_EN r 0)
     { d with up := { d.up with clean := true, svc := 10000000 } }) (d.wr GL_STATUS_MHALT 0 0|>.wr UP_STATUS_RUNSLOT 0
     0|>.wr UP_STATUS_SLOTA 0 4|>.wr UP_CTRL_HOSTCONF 0 0)), by decide +kernel⟩,
   ⟨stAt 2 (fun d => d.wr UP_STATUS_RUNSLOT 0 1|>.wr UP_STATUS_SLOTB 0 4|>.wr UP_TRIALT 0 0), by decide +kernel⟩,
   ⟨stAt 1 (fun d => d), Accessor.pb, by decide +kernel⟩⟩

theorem witness_relays_fill_and_release :
    (∃ (s : State) (a : Accessor), s.turn ∧ a ≠ .sp ∧ writeKind s.sys.dev (accIx a) (0xB824) (2) = 0) ∧
    (∃ (s : State) (r : Fin 8) (p : Nat) (vs : List (Nat × Nat)), s.sys.dev.quiet ∧ (s.sys.dev.rg r.val).vers = (p, 0)
     :: vs ∧ rlyState s.sys.dev r.val = 1 ∧ (s.sys.dev.rly r.val).await.contains (r.val * 32 + p) = true) ∧
    (∃ (s : State) (r : Fin 8) (p : Nat) (k : Nat) (vs : List (Nat × Nat)), s.sys.dev.quiet ∧ (s.sys.dev.rg
     r.val).vers = (p, k) :: vs ∧ k ≠ 0 ∧ rlyState s.sys.dev r.val = 1 ∧ (s.sys.dev.rly r.val).await.contains (r.val *
     32 + p) = true) ∧
    (∃ (s : State) (c : Fin 256), s.sys.dev.quiet ∧ rlyState s.sys.dev (c.val / 32) = 1 ∧ (s.sys.dev.rly (c.val /
     32)).ready.any (fun y => y.1 == c.val) = true ∧ ((List.range 8).any (fun q => (s.sys.dev.rly q).window.any (fun w
     => ownerOf s.sys.dev w.1 == ownerOf s.sys.dev c.val))) = false ∧ (s.sys.dev.rly (c.val / 32)).window.length < 4 ∧
     (ownerRelease s.sys.dev c.val).1 = true) ∧
    (∃ (s : State) (c : Fin 256), s.expiring ∧ writeDoneDue s.atTimers.dev c.val = true) ∧
    (∃ (s : State) (c : Fin 256), s.expiring ∧ relaySkipDue s.atTimers.dev c.val = true) ∧
    (∃ (s : State) (r : Fin 8), s.sys.dev.quiet ∧ rlyState s.sys.dev r.val = 2 ∧ ringState s.sys.dev r.val = rgRun ∧
     s.sys.dev.fl GL_STATUS_MHALT = false ∧ (s.sys.dev.rg r.val).bufs = false) ∧
    (∃ (s : State) (r : Fin 8), s.sys.dev.quiet ∧ rlyState s.sys.dev r.val = 2 ∧ ringState s.sys.dev r.val = rgRun ∧
     s.sys.dev.fl GL_STATUS_MHALT = false ∧ (s.sys.dev.rg r.val).bufs = true) :=
  ⟨⟨stAt 1 (fun d => d.wr UP_RLY_STATE 2 2), Accessor.pb, by decide +kernel⟩,
   ⟨stAt 0 (fun d => ((d.wr UP_RLY_STATE 1 1).setRly 1 { await := [35] }).setRg 1 { vers := [(3, 0)] }), 1, 3, [],
     by decide +kernel⟩,
   ⟨stAt 0 (fun d => ((d.wr UP_RLY_STATE 1 1).setRly 1 { await := [35] }).setRg 1 { vers := [(3, 1)] }), 1, 3, 1, [],
     by decide +kernel⟩,
   ⟨stAt 0 (fun d => ((d.wr UP_RLY_STATE 1 1).setRly 1 { ready := [(35, 100)] }).setCh 35 { quar := true }), 35,
     by decide +kernel⟩,
   ⟨stAt 2 (fun d =>
     { ((d.wr UP_RLY_STATE 1 1).setRly 1 { window := [(35, 100)] }) with tb := { d.tb with now := 60000 } }), 35,
     by decide +kernel⟩,
   ⟨stAt 2 (fun d =>
     { (((d.wr UP_RLY_STATE 1 1).setRly 1 { ready := [(35, 100)] }).wr UP_RLYCFG_RWAIT 0 1) with tb := { d.tb with now := 3000000 } }),
     35, by decide +kernel⟩,
   ⟨stAt 0 (fun d => d.wr UP_RLY_STATE 1 2|>.wr RG_STATUS_STATE 1 5|>.wr GL_STATUS_MHALT 0 0), 1, by decide +kernel⟩,
   ⟨stAt 0 (fun d => ((d.wr UP_RLY_STATE 1 2|>.wr RG_STATUS_STATE 1 5|>.wr GL_STATUS_MHALT 0 0).setRg 1
     { bufs := true }).setRly 1 { sources := [32], types := [2] }), 1, by decide +kernel⟩⟩

set_option maxRecDepth 20000 in
theorem witness_configuration_is_loaded_and_checked :
    (∃ (s : State) (h : Sender) (n : Byte) (ofs : Word) (len : BitVec 16), s.turn ∧ h.path ≠ .sp ∧ h.lcl = false ∧
     s.atCommands.dev.fl GL_STATUS_MHALT = false ∧ ofs.toNat % 4096 = 0 ∧ 1 ≤ len.toNat ∧ len.toNat ≤ 4096 ∧ ofs.toNat
     + len.toNat ≤ 524288 ∧ holeOk s.atCommands.dev (accIx h.path) (n.toNat, 0) = true ∧ s.atCommands.dev.commit =
     none ∧ bitOf s.atCommands.dev.host.phDrop n.toNat = false) ∧
    (∃ (s : State) (h : Sender) (n : Byte) (ofs : Word) (len : BitVec 16), s.turn ∧ h.path ≠ .sp ∧ h.lcl = false ∧
     s.atCommands.dev.fl GL_STATUS_MHALT = false ∧ ofs.toNat % 4096 = 0 ∧ 1 ≤ len.toNat ∧ len.toNat ≤ 4096 ∧ ofs.toNat
     + len.toNat ≤ 524288 ∧ holeOk s.atCommands.dev (accIx h.path) (n.toNat, 0) = true ∧
     s.atCommands.dev.commit.isSome = true ∧ bitOf s.atCommands.dev.host.phDrop n.toNat = false) ∧
    (∃ (s : State) (h : Sender) (ofs : Word) (len : BitVec 16), s.turn ∧ h.path ≠ .sp ∧ h.lcl = false ∧
     s.atCommands.dev.fl GL_STATUS_MHALT = false ∧ (ofs.toNat % 4096 ≠ 0 ∨ len = 0 ∨ 4096 < len.toNat ∨ 524288 <
     ofs.toNat + len.toNat)) ∧
    (∃ (s : State) (h : Sender) (n : Byte) (ofs : Word) (len : BitVec 16), s.turn ∧ h.path ≠ .sp ∧ h.lcl = false ∧
     s.atCommands.dev.fl GL_STATUS_MHALT = false ∧ ofs.toNat % 4096 = 0 ∧ 1 ≤ len.toNat ∧ len.toNat ≤ 4096 ∧ ofs.toNat
     + len.toNat ≤ 524288 ∧ holeOk s.atCommands.dev (accIx h.path) (n.toNat, 0) = false) ∧
    (∃ (s : State) (h : Sender), s.turn ∧ h.path ≠ .sp ∧ h.lcl = false ∧ s.atCommands.dev.fl GL_STATUS_MHALT = false ∧
     s.atCommands.dev.commit = none) ∧
    (∃ (s : State) (h : Sender), s.turn ∧ h.path ≠ .sp ∧ h.lcl = false ∧ s.atCommands.dev.fl GL_STATUS_MHALT = false ∧
     s.atCommands.dev.commit.isSome = true) ∧
    (∃ (s : State) (c : CommitJob), s.sys.dev.quiet ∧ s.sys.dev.commit = some c ∧ c.staged = false ∧ s.sys.dev.fl
     GL_STATUS_MHALT = false ∧ commitOk s.sys c = true) ∧
    (∃ (s : State) (c : CommitJob), s.sys.dev.quiet ∧ s.sys.dev.commit = some c ∧ c.staged = false ∧ s.sys.dev.fl
     GL_STATUS_MHALT = false ∧ commitOk s.sys c = false) :=
  ⟨⟨stAt 1 (fun d => d.wr HQ_CPL_CFG_EN 0 1|>.wr GL_STATUS_MHALT 0 0|>.wr HQ_PH_STATE 2 1|>.wr HQ_PH_HOLDER 2 0),
     { path := Accessor.pa, seq := 1, tag := 2, irq := true, lcl := false, cidx := 3, extra := [] }, 2, 4096, 4,
     by decide +kernel⟩,
   ⟨stAt 1 (fun d =>
     { (d.wr HQ_CPL_CFG_EN 0 1|>.wr GL_STATUS_MHALT 0 0|>.wr HQ_PH_STATE 2 1|>.wr HQ_PH_HOLDER 2 0) with commit := some { buf := 1, len := 4, ctxs := [] } }),
     { path := Accessor.pa, seq := 1, tag := 2, irq := true, lcl := false, cidx := 3, extra := [] }, 2, 4096, 4,
     by decide +kernel⟩,
   ⟨stAt 1 (fun d => d.wr HQ_CPL_CFG_EN 0 1|>.wr GL_STATUS_MHALT 0 0|>.wr HQ_PH_STATE 2 1|>.wr HQ_PH_HOLDER 2 0),
     { path := Accessor.pa, seq := 1, tag := 2, irq := true, lcl := false, cidx := 3, extra := [] }, 4096, 4097,
     by decide +kernel⟩,
   ⟨stAt 1 (fun d => d.wr HQ_CPL_CFG_EN 0 1|>.wr GL_STATUS_MHALT 0 0),
     { path := Accessor.pa, seq := 1, tag := 2, irq := true, lcl := false, cidx := 3, extra := [] }, 48, 4096, 4096,
     by decide +kernel⟩,
   ⟨stAt 1 (fun d => d.wr HQ_CPL_CFG_EN 0 1|>.wr GL_STATUS_MHALT 0 0),
     { path := Accessor.pa, seq := 1, tag := 2, irq := true, lcl := false, cidx := 3, extra := [] },
     by decide +kernel⟩,
   ⟨stAt 1 (fun d =>
     { (d.wr HQ_CPL_CFG_EN 0 1|>.wr GL_STATUS_MHALT 0 0) with commit := some { buf := 1, len := 4, ctxs := [] } }),
     { path := Accessor.pa, seq := 1, tag := 2, irq := true, lcl := false, cidx := 3, extra := [] },
     by decide +kernel⟩,
   ⟨stS (stAt 0 (fun d => { (d.wr GL_STATUS_MHALT 0 0) with commit := some { buf := 1, len := 68, ctxs := [] } }))
     (fun s =>
     { s with nv := Mem.put s.nv (cfgAddr 1) [49, 70, 71, 67, 1, 0, 0, 0, 68, 0, 0, 0, 1, 0, 0, 0, 0, 10, 86, 66, 0, 0, 0, 0, 0, 0, 0, 0, 0, 0, 0, 0, 253, 245, 209, 182, 36, 204, 69, 141, 255, 189, 80, 53, 238, 87, 2, 99, 11, 60, 235, 60, 228, 25, 103, 102, 32, 153, 28, 41, 13, 45, 62, 142, 0, 0, 0, 240] }),
     { buf := 1, len := 68, ctxs := [] }, by decide +kernel⟩,
   ⟨stAt 0 (fun d => { (d.wr GL_STATUS_MHALT 0 0) with commit := some { buf := 1, len := 4, ctxs := [] } }),
     { buf := 1, len := 4, ctxs := [] }, by decide +kernel⟩⟩

theorem witness_recorder_commands_act :
    (∃ (s : State) (h : Sender) (n : Byte) (rg : Byte) (cnt : Byte), s.turn ∧ h.path ≠ .sp ∧ h.lcl = false ∧
     s.atCommands.dev.fl GL_STATUS_MHALT = false ∧ rg.toNat < 2 ∧ 1 ≤ cnt.toNat ∧ cnt.toNat ≤ 64 ∧ holeOk
     s.atCommands.dev (accIx h.path) (n.toNat, 1) = true ∧ bitOf s.atCommands.dev.host.phDrop n.toNat = false) ∧
    (∃ (s : State) (h : Sender) (code : BitVec 16), s.turn ∧ h.path ≠ .sp ∧ h.lcl = false ∧ s.atCommands.dev.fl
     GL_STATUS_MHALT = false ∧ code.toNat % 16 ≤ 4 ∧ Tbl.get {} s.atCommands.dev.rcd.buckets (bucketKey 0x0C08 (8 +
     accIx h.path)) = {} ∧ s.atCommands.dev.rcd.queue.length < 768 ∧ 0 < (bucketNow s.atCommands.dev 0x0C08 {}).lvl /
     1000000) ∧
    (∃ (s : State) (h : Sender) (code : BitVec 16), s.turn ∧ h.path ≠ .sp ∧ h.lcl = false ∧ s.atCommands.dev.fl
     GL_STATUS_MHALT = false ∧ 4 < code.toNat % 16) ∧
    (∃ (s : State) (h : Sender) (n : Byte) (sc : Byte), s.turn ∧ h.path ≠ .sp ∧ h.lcl = false ∧ s.atCommands.dev.fl
     GL_STATUS_MHALT = false ∧ sc.toNat < 2 ∧ holeOk s.atCommands.dev (accIx h.path) (n.toNat, 0) = true ∧
     s.atCommands.dev.rcd.clr = none ∧ bitOf s.atCommands.dev.host.phDrop n.toNat = false ∧ clearTokenOk s.atCommands
     (Mem.bytes s.atCommands.ph (n.toNat * 4096) 80) sc.toNat = false) ∧
    (∃ (s : State) (h : Sender) (n : Byte) (sc : Byte), s.turn ∧ h.path ≠ .sp ∧ h.lcl = false ∧ s.atCommands.dev.fl
     GL_STATUS_MHALT = false ∧ sc.toNat < 2 ∧ holeOk s.atCommands.dev (accIx h.path) (n.toNat, 0) = true ∧
     s.atCommands.dev.rcd.clr.isSome = true ∧ bitOf s.atCommands.dev.host.phDrop n.toNat = false) :=
  ⟨⟨stAt 1 (fun d => d.wr HQ_CPL_CFG_EN 0 1|>.wr GL_STATUS_MHALT 0 0|>.wr HQ_PH_STATE 48 1|>.wr HQ_PH_HOLDER 48 0),
     { path := Accessor.pa, seq := 1, tag := 2, irq := true, lcl := false, cidx := 3, extra := [] }, 48, 0, 64,
     by decide +kernel⟩,
   ⟨stAt 1 (fun d => d.wr HQ_CPL_CFG_EN 0 1|>.wr GL_STATUS_MHALT 0 0),
     { path := Accessor.pa, seq := 1, tag := 2, irq := true, lcl := false, cidx := 3, extra := [] }, 0x1234,
     by decide +kernel⟩,
   ⟨stAt 1 (fun d => d.wr HQ_CPL_CFG_EN 0 1|>.wr GL_STATUS_MHALT 0 0),
     { path := Accessor.pa, seq := 1, tag := 2, irq := true, lcl := false, cidx := 3, extra := [] }, 0x1235,
     by decide +kernel⟩,
   ⟨stAt 1 (fun d => d.wr HQ_CPL_CFG_EN 0 1|>.wr GL_STATUS_MHALT 0 0|>.wr HQ_PH_STATE 2 1|>.wr HQ_PH_HOLDER 2 0),
     { path := Accessor.pa, seq := 1, tag := 2, irq := true, lcl := false, cidx := 3, extra := [] }, 2, 1,
     by decide +kernel⟩,
   ⟨stAt 1 (fun d =>
     { (d.wr HQ_CPL_CFG_EN 0 1|>.wr GL_STATUS_MHALT 0 0|>.wr HQ_PH_STATE 2 1|>.wr HQ_PH_HOLDER 2 0) with rcd := { d.rcd with clr := some { scope := 0, kcls := 1, nonce := 0, hole := 1, ctxs := [] } } }),
     { path := Accessor.pa, seq := 1, tag := 2, irq := true, lcl := false, cidx := 3, extra := [] }, 2, 1,
     by decide +kernel⟩⟩

theorem witness_update_commands_act :
    (∃ (s : State) (h : Sender) (size : Word) (dig : List Byte), s.turn ∧ h.path ≠ .sp ∧ h.lcl = false ∧
     s.atCommands.dev.fl GL_STATUS_MHALT = false ∧ 1 ≤ size.toNat ∧ size.toNat ≤ 4194304 ∧ s.atCommands.dev.up.verify
     = none ∧ imgState s.atCommands.dev (runSlot s.atCommands.dev) ≠ 4 ∧ imgState s.atCommands.dev (idleSlot
     s.atCommands.dev) ≠ 3 ∧ s.atCommands.dev.up.dig ≠ fit 32 (natBytes dig)) ∧
    (∃ (s : State) (h : Sender) (size : Word), s.turn ∧ h.path ≠ .sp ∧ h.lcl = false ∧ s.atCommands.dev.fl
     GL_STATUS_MHALT = false ∧ 1 ≤ size.toNat ∧ size.toNat ≤ 4194304 ∧ s.atCommands.dev.up.verify = none ∧ (imgState
     s.atCommands.dev (runSlot s.atCommands.dev) = 4 ∨ imgState s.atCommands.dev (idleSlot s.atCommands.dev) = 3)) ∧
    (∃ (s : State) (h : Sender) (n : Byte) (p : Word), s.turn ∧ h.path ≠ .sp ∧ h.lcl = false ∧ s.atCommands.dev.fl
     GL_STATUS_MHALT = false ∧ holeOk s.atCommands.dev (accIx h.path) (n.toNat, 0) = true ∧ bitOf
     s.atCommands.dev.host.phDrop n.toNat = false ∧ s.atCommands.dev.fl UP_STATUS_DLOPEN = true ∧ p.toNat < dlPieces
     s.atCommands.dev ∧ s.atCommands.dev.up.verify = none ∧ s.atCommands.dev.bit UP_DLMAP (p.toNat / 32) (p.toNat %
     32) = false ∧ 2 ≤ s.atCommands.dev.rd UP_DL_MISSING) ∧
    (∃ (s : State) (h : Sender) (n : Byte), s.turn ∧ h.path ≠ .sp ∧ h.lcl = false ∧ s.atCommands.dev.fl
     GL_STATUS_MHALT = false ∧ holeOk s.atCommands.dev (accIx h.path) (n.toNat, 0) = true ∧ bitOf
     s.atCommands.dev.host.phDrop n.toNat = false ∧ s.atCommands.dev.fl UP_STATUS_DLOPEN = false) ∧
    (∃ (s : State) (h : Sender), s.turn ∧ h.path ≠ .sp ∧ h.lcl = false ∧ s.atCommands.dev.fl GL_STATUS_MHALT = false ∧
     imgState s.atCommands.dev (idleSlot s.atCommands.dev) = 2 ∧ idleSlot s.atCommands.dev < 2) ∧
    (∃ (s : State) (h : Sender), s.turn ∧ h.path ≠ .sp ∧ h.lcl = false ∧ s.atCommands.dev.fl GL_STATUS_MHALT = false ∧
     imgState s.atCommands.dev (idleSlot s.atCommands.dev) ≠ 2) ∧
    (∃ (s : State) (h : Sender) (r : Byte), s.turn ∧ h.path ≠ .sp ∧ h.lcl = false ∧ s.atCommands.dev.fl
     GL_STATUS_MHALT = false ∧ s.atCommands.dev.sill = false ∧ imgState s.atCommands.dev (runSlot s.atCommands.dev) =
     5 ∧ s.atCommands.dev.pw.recovery = false ∧ ringOk s.atCommands.dev r.toNat = true ∧ rlyState s.atCommands.dev
     r.toNat = 0 ∧ ringState s.atCommands.dev r.toNat = rgRun ∧ typesOn s.atCommands r.toNat ≠ []) ∧
    (∃ (s : State) (h : Sender) (r : Byte), s.turn ∧ h.path ≠ .sp ∧ h.lcl = false ∧ s.atCommands.dev.fl
     GL_STATUS_MHALT = false ∧ s.atCommands.dev.sill = false ∧ (r.toNat = 255 ∨ ringOk s.atCommands.dev r.toNat =
     true) ∧ (imgState s.atCommands.dev (runSlot s.atCommands.dev) ≠ 5 ∨ s.atCommands.dev.pw.recovery = true)) ∧
    (∃ (s : State) (h : Sender), s.turn ∧ h.path ≠ .sp ∧ h.lcl = false ∧ s.atCommands.dev.fl GL_STATUS_MHALT = false ∧
     idleSlot s.atCommands.dev < 2) ∧
    (∃ (s : State) (h : Sender) (num : Word), s.turn ∧ h.path ≠ .sp ∧ h.lcl = false ∧ s.atCommands.dev.fl
     GL_STATUS_MHALT = false ∧ s.atCommands.dev.fl MP_STATUS_ADVPEND = true ∧ num.toNat = s.atCommands.dev.rd
     MP_PLANNUM) ∧
    (∃ (s : State) (h : Sender) (num : Word), s.turn ∧ h.path ≠ .sp ∧ h.lcl = false ∧ s.atCommands.dev.fl
     GL_STATUS_MHALT = false ∧ (s.atCommands.dev.fl MP_STATUS_ADVPEND = false ∨ num.toNat ≠ s.atCommands.dev.rd
     MP_PLANNUM)) ∧
    (∃ (s : State) (h : Sender) (num : Word), s.turn ∧ h.path ≠ .sp ∧ h.lcl = false ∧ s.atCommands.dev.fl
     GL_STATUS_MHALT = false ∧ s.atCommands.dev.fl MP_STATUS_ADVPEND = true ∧ num.toNat = s.atCommands.dev.rd
     MP_PLANNUM) ∧
    (∃ (s : State) (h : Sender) (num : Word), s.turn ∧ h.path ≠ .sp ∧ h.lcl = false ∧ s.atCommands.dev.fl
     GL_STATUS_MHALT = false ∧ (s.atCommands.dev.fl MP_STATUS_ADVPEND = false ∨ num.toNat ≠ s.atCommands.dev.rd
     MP_PLANNUM)) :=
  ⟨⟨stAt 1 (fun d => d.wr HQ_CPL_CFG_EN 0 1|>.wr GL_STATUS_MHALT 0 0|>.wr UP_STATUS_SLOTA 0 5|>.wr UP_STATUS_SLOTB 0
     0), { path := Accessor.pa, seq := 1, tag := 2, irq := true, lcl := false, cidx := 3, extra := [] }, 4194304, [1],
     by decide +kernel⟩,
   ⟨stAt 1 (fun d => d.wr HQ_CPL_CFG_EN 0 1|>.wr GL_STATUS_MHALT 0 0|>.wr UP_STATUS_RUNSLOT 0 0|>.wr UP_STATUS_SLOTA 0
     4), { path := Accessor.pa, seq := 1, tag := 2, irq := true, lcl := false, cidx := 3, extra := [] }, 1,
     by decide +kernel⟩,
   ⟨stAt 1 (fun d => d.wr HQ_CPL_CFG_EN 0 1|>.wr GL_STATUS_MHALT 0 0|>.wr HQ_PH_STATE 2 1|>.wr HQ_PH_HOLDER 2 0|>.wr
     UP_STATUS_DLOPEN 0 1|>.wr UP_DL_SIZE 0 (4096 * 40)|>.wr UP_DL_MISSING 0 2|>.wr UP_DLMAP 1 0),
     { path := Accessor.pa, seq := 1, tag := 2, irq := true, lcl := false, cidx := 3, extra := [] }, 2, 33,
     by decide +kernel⟩,
   ⟨stAt 1 (fun d => d.wr HQ_CPL_CFG_EN 0 1|>.wr GL_STATUS_MHALT 0 0|>.wr HQ_PH_STATE 2 1|>.wr HQ_PH_HOLDER 2 0|>.wr
     UP_STATUS_DLOPEN 0 0),
     { path := Accessor.pa, seq := 1, tag := 2, irq := true, lcl := false, cidx := 3, extra := [] }, 2,
     by decide +kernel⟩,
   ⟨stAt 1 (fun d => d.wr HQ_CPL_CFG_EN 0 1|>.wr GL_STATUS_MHALT 0 0|>.wr UP_STATUS_RUNSLOT 0 0|>.wr UP_STATUS_BOOT 0
     0|>.wr UP_STATUS_SLOTB 0 2),
     { path := Accessor.pa, seq := 1, tag := 2, irq := true, lcl := false, cidx := 3, extra := [] },
     by decide +kernel⟩,
   ⟨stAt 1 (fun d => d.wr HQ_CPL_CFG_EN 0 1|>.wr GL_STATUS_MHALT 0 0|>.wr UP_STATUS_RUNSLOT 0 0|>.wr UP_STATUS_BOOT 0
     0|>.wr UP_STATUS_SLOTB 0 1),
     { path := Accessor.pa, seq := 1, tag := 2, irq := true, lcl := false, cidx := 3, extra := [] },
     by decide +kernel⟩,
   ⟨stS (stAt 1 (fun d => d.wr HQ_CPL_CFG_EN 0 1|>.wr GL_STATUS_MHALT 0 0|>.wr UP_STATUS_RUNSLOT 0 0|>.wr
     UP_STATUS_SLOTA 0 5|>.wr RG_CTRL_EN 1 1|>.wr RG_STATUS_STATE 1 5|>.wr UP_RLY_STATE 1 0|>.wr CD_ENT_HEALTH 32
     5|>.setCh 32 { idb := [3] })) (fun s =>
     { s with nv := Mem.put s.nv (slotAddr 0) (List.replicate 64 0 ++ [3, 0, 0, 0, 0, 16, 0, 0, 16]) }),
     { path := Accessor.pa, seq := 1, tag := 2, irq := true, lcl := false, cidx := 3, extra := [] }, 1,
     by decide +kernel⟩,
   ⟨stAt 1 (fun d => d.wr HQ_CPL_CFG_EN 0 1|>.wr GL_STATUS_MHALT 0 0|>.wr UP_STATUS_RUNSLOT 0 0|>.wr UP_STATUS_SLOTA 0
     4), { path := Accessor.pa, seq := 1, tag := 2, irq := true, lcl := false, cidx := 3, extra := [] }, 255,
     by decide +kernel⟩,
   ⟨stAt 1 (fun d => d.wr HQ_CPL_CFG_EN 0 1|>.wr GL_STATUS_MHALT 0 0|>.wr UP_STATUS_RUNSLOT 0 0|>.wr UP_STATUS_SLOTB 0
     3), { path := Accessor.pa, seq := 1, tag := 2, irq := true, lcl := false, cidx := 3, extra := [] },
     by decide +kernel⟩,
   ⟨stAt 1 (fun d => d.wr HQ_CPL_CFG_EN 0 1|>.wr GL_STATUS_MHALT 0 0|>.wr MP_STATUS_ADVPEND 0 1|>.wr MP_PLANNUM 0 7),
     { path := Accessor.pa, seq := 1, tag := 2, irq := true, lcl := false, cidx := 3, extra := [] }, 7,
     by decide +kernel⟩,
   ⟨stAt 1 (fun d => d.wr HQ_CPL_CFG_EN 0 1|>.wr GL_STATUS_MHALT 0 0|>.wr MP_STATUS_ADVPEND 0 1|>.wr MP_PLANNUM 0 8),
     { path := Accessor.pa, seq := 1, tag := 2, irq := true, lcl := false, cidx := 3, extra := [] }, 7,
     by decide +kernel⟩,
   ⟨stAt 1 (fun d => d.wr HQ_CPL_CFG_EN 0 1|>.wr GL_STATUS_MHALT 0 0|>.wr MP_STATUS_ADVPEND 0 1|>.wr MP_PLANNUM 0 7),
     { path := Accessor.pa, seq := 1, tag := 2, irq := true, lcl := false, cidx := 3, extra := [] }, 7,
     by decide +kernel⟩,
   ⟨stAt 1 (fun d => d.wr HQ_CPL_CFG_EN 0 1|>.wr GL_STATUS_MHALT 0 0|>.wr MP_STATUS_ADVPEND 0 0),
     { path := Accessor.pa, seq := 1, tag := 2, irq := true, lcl := false, cidx := 3, extra := [] }, 7,
     by decide +kernel⟩⟩

theorem witness_sleep_and_mode_commands_act :
    (∃ (s : State) (h : Sender) (m : Byte), s.turn ∧ h.path ≠ .sp ∧ h.lcl = false ∧ s.atCommands.dev.fl
     GL_STATUS_MHALT = false ∧ m.toNat < 3) ∧
    (∃ (s : State) (h : Sender) (m : Byte), s.turn ∧ h.path ≠ .sp ∧ h.lcl = false ∧ s.atCommands.dev.fl
     GL_STATUS_MHALT = false ∧ 3 ≤ m.toNat) ∧
    (∃ (s : State) (h : Sender), s.turn ∧ h.path ≠ .sp ∧ h.lcl = false ∧ s.atCommands.dev.fl GL_STATUS_MHALT = false)
     ∧
    (∃ (s : State) (h : Sender), s.turn ∧ h.path ≠ .sp ∧ h.lcl = false ∧ s.atCommands.dev.fl GL_STATUS_MHALT = false ∧
     sleepRefusal s.atCommands.dev ≠ 0) ∧
    (∃ (s : State) (h : Sender), s.turn ∧ h.path ≠ .sp ∧ h.lcl = false ∧ s.atCommands.dev.fl GL_STATUS_MHALT = false ∧
     sleepRefusal s.atCommands.dev = 0 ∧ s.atCommands.dev.pw.entry = 0) ∧
    (∃ (s : State), s.turn ∧ writeKind s.sys.dev 2 0x430 2 = 0 ∧ sleepRefusal s.atCommands.dev ≠ 0) ∧
    (∃ (s : State), s.turn ∧ writeKind s.sys.dev 2 0x430 2 = 0 ∧ sleepRefusal s.atCommands.dev = 0 ∧
     s.atCommands.dev.pw.entry = 0) ∧
    (∃ (s : State), s.expiring ∧ sleepWaitsDue s.atTimers.dev = true) ∧
    (∃ (s : State), s.expiring ∧ powerDownDue s.atTimers.dev = true ∧ s.atTimers.dev.pw.wakePend = false) ∧
    (∃ (s : State) (src : Fin 5), (s.sys.dev.pw.asleep = true ∨ s.sys.dev.pw.entry ≠ 0) ∧ s.sys.dev.bit PM_WAKEEN 0
     src.val = false) ∧
    (∃ (s : State) (src : Fin 5), s.sys.dev.pw.asleep = true ∧ s.sys.dev.pw.waking = false ∧ s.sys.dev.bit PM_WAKEEN 0
     src.val = true) ∧
    (∃ (s : State), s.expiring ∧ wakeCompleteDue s.atTimers.dev = true) :=
  ⟨⟨stAt 1 (fun d => d.wr HQ_CPL_CFG_EN 0 1|>.wr GL_STATUS_MHALT 0 0),
     { path := Accessor.pa, seq := 1, tag := 2, irq := true, lcl := false, cidx := 3, extra := [] }, 2,
     by decide +kernel⟩,
   ⟨stAt 1 (fun d => d.wr HQ_CPL_CFG_EN 0 1|>.wr GL_STATUS_MHALT 0 0),
     { path := Accessor.pa, seq := 1, tag := 2, irq := true, lcl := false, cidx := 3, extra := [] }, 3,
     by decide +kernel⟩,
   ⟨stAt 1 (fun d => d.wr HQ_CPL_CFG_EN 0 1|>.wr GL_STATUS_MHALT 0 0),
     { path := Accessor.pa, seq := 1, tag := 2, irq := true, lcl := false, cidx := 3, extra := [] },
     by decide +kernel⟩,
   ⟨stAt 1 (fun d => d.wr HQ_CPL_CFG_EN 0 1|>.wr GL_STATUS_MHALT 0 0|>.wr SQ_STATUS_STATE 0 1),
     { path := Accessor.pa, seq := 1, tag := 2, irq := true, lcl := false, cidx := 3, extra := [] },
     by decide +kernel⟩,
   ⟨stAt 1 (fun d => d.wr HQ_CPL_CFG_EN 0 1|>.wr GL_STATUS_MHALT 0 0),
     { path := Accessor.pa, seq := 1, tag := 2, irq := true, lcl := false, cidx := 3, extra := [] },
     by decide +kernel⟩,
   ⟨stAt 1 (fun d => d.wr SQ_STATUS_STATE 0 1|>.wr TW_TWB_WMASK 0 0x7FFFFF), by decide +kernel⟩,
   ⟨stAt 1 (fun d => (fun (d : Dev) => { d with pw := { d.pw with entry := 0 } }) (d.wr TW_TWB_WMASK 0 0x7FFFFF)),
     by decide +kernel⟩,
   ⟨stAt 2 (fun d => (fun (d : Dev) =>
     { d with pw := { d.pw with entry := 1, entryAt := 5000 }, rcd := {}, tw := {}, up := {} }) (d.wr SP_STATUS_ATT 0
     0|>.wr SP_STATUS_CONTRACT 0 0)), by decide +kernel⟩,
   ⟨stAt 2 (fun d => { d with pw := { d.pw with entry := 4 } }), by decide +kernel⟩,
   ⟨stAt 0 (fun d => (fun (d : Dev) => { d with pw := { d.pw with asleep := true, waking := false, entry := 0 } })
     (d.wr PM_WAKEEN 0 0)), 4, by decide +kernel⟩,
   ⟨stAt 0 (fun d => (fun (d : Dev) => { d with pw := { d.pw with asleep := true, waking := false, entry := 0 } })
     (d.wr PM_WAKEEN 0 16)), 4, by decide +kernel⟩,
   ⟨stAt 2 (fun d => { d with pw := { d.pw with waking := true, asleep := false, startAt := 5 } }),
     by decide +kernel⟩⟩

theorem witness_twb_addresses_and_pointers :
    (∃ (s : State) (x : BitVec 7), s.sys.dev.quiet ∧ s.sys.dev.pw.asleep = false ∧ s.sys.dev.pw.waking = false ∧
     s.sys.dev.pw.held = false ∧ s.sys.dev.pw.entry = 0 ∧ s.sys.dev.tw.bus = 0 ∧ x.toNat = s.sys.dev.rd TW_TWB_ADDR) ∧
    (∃ (s : State) (x : BitVec 7), s.sys.dev.quiet ∧ s.sys.dev.pw.asleep = false ∧ s.sys.dev.pw.waking = false ∧
     s.sys.dev.pw.held = false ∧ s.sys.dev.pw.entry = 0 ∧ s.sys.dev.tw.bus = 0 ∧ x.toNat = s.sys.dev.rd TW_TWB_PADDR ∧
     x.toNat ≠ s.sys.dev.rd TW_TWB_ADDR) ∧
    (∃ (s : State) (x : BitVec 7) (rd : Bool), s.sys.dev.quiet ∧ s.sys.dev.pw.asleep = false ∧ s.sys.dev.pw.waking =
     false ∧ s.sys.dev.pw.held = false ∧ s.sys.dev.pw.entry = 0 ∧ s.sys.dev.tw.bus = 0 ∧ x.toNat ≠ s.sys.dev.rd
     TW_TWB_PADDR ∧ x.toNat ≠ s.sys.dev.rd TW_TWB_ADDR ∧ (x.toNat ≠ 12 ∨ rd = false ∨ s.sys.dev.fl TW_STATUS_TWB_ALERT
     = false)) ∧
    (∃ (s : State), s.sys.dev.quiet ∧ s.sys.dev.tw.bus = 4) ∧
    (∃ (s : State), s.sys.dev.quiet ∧ s.sys.dev.tw.bus = 5) ∧
    (∃ (s : State) (y : Byte), s.sys.dev.quiet ∧ s.sys.dev.tw.bus = 1 ∧ y.toNat % 4 = 0) ∧
    (∃ (s : State) (y : Byte), s.sys.dev.quiet ∧ s.sys.dev.tw.bus = 1 ∧ y.toNat % 4 ≠ 0) ∧
    (∃ (s : State), s.sys.dev.quiet) ∧
    (∃ (s : State) (p : Fin 4), s.sys.dev.quiet ∧ s.sys.dev.tw.bus = 2 ∧ p.val ≠ 0) ∧
    (∃ (s : State), s.sys.dev.quiet) :=
  ⟨⟨stAt 0 (fun d =>
     { (d.wr TW_TWB_ADDR 0 0x4C|>.wr TW_TWB_PADDR 0 0x4D|>.wr TW_STATUS_TWB_ALERT 0 0) with tw := { d.tw with bus := 0 } }),
     0x4C, by decide +kernel⟩,
   ⟨stAt 0 (fun d =>
     { (d.wr TW_TWB_ADDR 0 0x4C|>.wr TW_TWB_PADDR 0 0x4D|>.wr TW_STATUS_TWB_ALERT 0 0) with tw := { d.tw with bus := 0 } }),
     0x4D, by decide +kernel⟩,
   ⟨stAt 0 (fun d =>
     { (d.wr TW_TWB_ADDR 0 0x4C|>.wr TW_TWB_PADDR 0 0x4D|>.wr TW_STATUS_TWB_ALERT 0 0) with tw := { d.tw with bus := 0 } }),
     0x0C, true, by decide +kernel⟩,
   ⟨stAt 0 (fun d => { d with tw := { d.tw with bus := 4 } }), by decide +kernel⟩,
   ⟨stAt 0 (fun d => { d with tw := { d.tw with bus := 5 } }), by decide +kernel⟩,
   ⟨stAt 0 (fun d => { d with tw := { d.tw with bus := 1 } }), 0xFC, by decide +kernel⟩,
   ⟨stAt 0 (fun d => { d with tw := { d.tw with bus := 1 } }), 2, by decide +kernel⟩,
   ⟨stAt 0 (fun d => (fun (d : Dev) => { d with tw := { d.tw with bus := 3, sending := true } }) (d.wr
     TW_STATUS_TWB_PTR 0 0xFC)), by decide +kernel⟩,
   ⟨stAt 0 (fun d => { d with tw := { d.tw with bus := 2 } }), 3, by decide +kernel⟩,
   ⟨stAt 0 (fun d => { d with tw := { d.tw with bus := 2 } }), by decide +kernel⟩⟩

theorem witness_twb_words_and_alerts :
    (∃ (s : State) (w : Word), s.sys.dev.quiet ∧ s.sys.dev.tw.bus = 2 ∧ writeKind s.sys.dev 2 (twbOfs s.sys.dev)
     w.toNat = 0 ∧ s.sys.dev.tw.sending = false ∧ (regWrite 2 (twbOfs s.sys.dev) w.toNat s.sys.dev).tfq = [] ∧
     (regWrite 2 (twbOfs s.sys.dev) w.toNat s.sys.dev).bs.shedReq = 0) ∧
    (∃ (s : State) (w : Word), s.sys.dev.quiet ∧ s.sys.dev.tw.bus = 2 ∧ writeKind s.sys.dev 2 (twbOfs s.sys.dev)
     w.toNat ≠ 0) ∧
    (∃ (s : State), s.sys.dev.quiet ∧ s.sys.dev.tw.bus = 3 ∧ s.sys.dev.tw.sending = false ∧ wordThere s.sys.dev 2
     (twbOfs s.sys.dev) = true) ∧
    (∃ (s : State), s.sys.dev.quiet ∧ s.sys.dev.tw.bus = 3 ∧ s.sys.dev.tw.sending = false ∧ wordThere s.sys.dev 2
     (twbOfs s.sys.dev) = false) ∧
    (∃ (s : State), s.sys.dev.quiet ∧ s.sys.dev.tw.bus = 2) ∧
    (∃ (s : State), s.sys.dev.quiet ∧ s.sys.dev.tw.bus = 3) ∧
    (∃ (s : State) (y : Byte), s.sys.dev.quiet ∧ s.sys.dev.tw.bus = 7 ∧ 2 * s.sys.dev.rd TW_TWB_ADDR ≤ y.toNat) ∧
    (∃ (s : State) (y : Byte), s.sys.dev.quiet ∧ s.sys.dev.tw.bus = 7 ∧ y.toNat < 2 * s.sys.dev.rd TW_TWB_ADDR) :=
  ⟨⟨stAt 0 (fun d => (fun (d : Dev) => { d with tw := { d.tw with bus := 2 } }) (d.wr TW_STATUS_TWB_PAGE 0 0x18|>.wr
     TW_STATUS_TWB_PTR 0 0x3C)), 5, by decide +kernel⟩,
   ⟨stAt 0 (fun d => (fun (d : Dev) => { d with tw := { d.tw with bus := 2 } }) (d.wr TW_STATUS_TWB_PAGE 0 0xFF|>.wr
     TW_STATUS_TWB_PTR 0 0x3C)), 5, by decide +kernel⟩,
   ⟨stAt 0 (fun d => (fun (d : Dev) => { d with tw := { d.tw with bus := 3 } }) (d.wr TW_STATUS_TWB_PAGE 0 0|>.wr
     TW_STATUS_TWB_PTR 0 0)), by decide +kernel⟩,
   ⟨stAt 0 (fun d => (fun (d : Dev) => { d with tw := { d.tw with bus := 3 } }) (d.wr TW_STATUS_TWB_PAGE 0 0xFF|>.wr
     TW_STATUS_TWB_PTR 0 0)), by decide +kernel⟩,
   ⟨stAt 0 (fun d => { d with tw := { d.tw with bus := 2 } }), by decide +kernel⟩,
   ⟨stAt 0 (fun d => { d with tw := { d.tw with bus := 3 } }), by decide +kernel⟩,
   ⟨stAt 0 (fun d => (fun (d : Dev) => { d with tw := { d.tw with bus := 7 } }) (d.wr TW_STATUS_TWB_ALERT 0 1)), 255,
     by decide +kernel⟩,
   ⟨stAt 0 (fun d => (fun (d : Dev) => { d with tw := { d.tw with bus := 7 } }) (d.wr TW_TWB_ADDR 0 0x4C)), 3,
     by decide +kernel⟩⟩

theorem witness_twa_polls_act :
    (∃ (s : State) (i : Fin 16), s.expiring ∧ pollDue s.atTimers.dev i.val = true) ∧
    (∃ (s : State) (x : TwaXfer), s.sys.dev.quiet ∧ s.sys.dev.tw.xfer = some x) ∧
    (∃ (s : State) (x : TwaXfer), s.sys.dev.quiet ∧ s.sys.dev.tw.xfer = some x) ∧
    (∃ (s : State) (x : TwaXfer), s.sys.dev.quiet ∧ s.sys.dev.tw.xfer = some x ∧ x.arb + 1 < s.sys.dev.rd1
     TW_TWA_CFG_NARB) ∧
    (∃ (s : State) (x : TwaXfer), s.sys.dev.quiet ∧ s.sys.dev.tw.xfer = some x ∧ x.retried = false) ∧
    (∃ (s : State) (x : TwaXfer), s.sys.dev.quiet ∧ s.sys.dev.tw.xfer = some x ∧ x.retried = true) ∧
    (∃ (s : State) (x : TwaXfer), s.sys.dev.quiet ∧ s.sys.dev.tw.xfer = some x) ∧
    (∃ (s : State), s.sys.dev.quiet ∧ twaAlertDue s.sys.dev = true) ∧
    (∃ (s : State), s.sys.dev.quiet ∧ twaAlertDue s.sys.dev = true) :=
  ⟨⟨stAt 2 (fun d =>
     { (d.wr TW_CTRL_TWA_EN 0 1|>.wr GL_STATUS_MHALT 0 0|>.wr TW_POLL_EN 0 1) with tw := { d.tw with xfer := none } }),
     0, by decide +kernel⟩,
   ⟨stAt 0 (fun d => { (d.wr TW_STATUS_TWA_BUSY 0 1) with tw := { d.tw with xfer := some { entry := 3 } } }),
     { entry := 3 }, by decide +kernel⟩,
   ⟨stAt 0 (fun d => { (d.wr TW_STATUS_TWA_BUSY 0 1) with tw := { d.tw with xfer := some { entry := 3 } } }),
     { entry := 3 }, by decide +kernel⟩,
   ⟨stAt 0 (fun d => (fun (d : Dev) =>
     { (d.wr TW_STATUS_TWA_BUSY 0 1) with tw := { d.tw with xfer := some { entry := 3 } } }) (d.wr TW_TWA_CFG_NARB 0
     2)), { entry := 3 }, by decide +kernel⟩,
   ⟨stAt 0 (fun d => { (d.wr TW_STATUS_TWA_BUSY 0 1) with tw := { d.tw with xfer := some { entry := 3 } } }),
     { entry := 3 }, by decide +kernel⟩,
   ⟨stAt 0 (fun d =>
     { (d.wr TW_STATUS_TWA_BUSY 0 1) with tw := { d.tw with xfer := some { entry := 3, retried := true } } }),
     { entry := 3, retried := true }, by decide +kernel⟩,
   ⟨stAt 0 (fun d => { (d.wr TW_STATUS_TWA_BUSY 0 1) with tw := { d.tw with xfer := some { entry := 3 } } }),
     { entry := 3 }, by decide +kernel⟩,
   ⟨stAt 0 (fun d =>
     { (d.wr TW_CTRL_TWA_EN 0 1|>.wr TW_CTRL_TWA_ARA 0 1|>.wr GL_STATUS_MHALT 0 0|>.wr TW_POLL_EN 3 1|>.wr TW_POLL_ADDR 3 9) with tw := { d.tw with xfer := none } }),
     by decide +kernel⟩,
   ⟨stAt 0 (fun d =>
     { (d.wr TW_CTRL_TWA_EN 0 1|>.wr TW_CTRL_TWA_ARA 0 1|>.wr GL_STATUS_MHALT 0 0) with tw := { d.tw with xfer := none } }),
     by decide +kernel⟩⟩

theorem witness_port_attaches_and_detaches :
    (∃ (s : State) (c1 : Term) (c2 : Term) (st : Nat) (p : Nat) (o : Nat) (ra : Bool), s.sys.dev.quiet ∧ partnerOf
     (spRp s.sys.dev) c1 c2 = some (st, p, o, ra) ∧ spState s.sys.dev = spUnatt ∧ (st = spSnk → 400 < s.sys.dev.rd
     SP_VBUS_V) ∧ s.sys.dev.sp.again = false) ∧
    (∃ (s : State) (c1 : Term) (c2 : Term), s.sys.dev.quiet ∧ (partnerOf (spRp s.sys.dev) c1 c2 = none ∨ spState
     s.sys.dev ≠ spUnatt)) ∧
    (∃ (s : State), s.sys.dev.quiet ∧ spState s.sys.dev = spSrc ∧ s.sys.dev.fl SP_STATUS_XSITION = false) ∧
    (∃ (s : State), s.sys.dev.quiet ∧ spState s.sys.dev = spSrc ∧ s.sys.dev.fl SP_STATUS_XSITION = true) ∧
    (∃ (s : State), s.sys.dev.quiet ∧ spState s.sys.dev = spSnk ∧ sinkGone s.sys.dev = true) ∧
    (∃ (s : State), s.sys.dev.quiet ∧ (spState s.sys.dev ≠ spSnk ∨ sinkGone s.sys.dev = false)) ∧
    (∃ (s : State), s.sys.dev.quiet ∧ (spState s.sys.dev = spAudio ∨ spState s.sys.dev = spDebug)) ∧
    (∃ (s : State), s.expiring ∧ dischargeEndDue s.atTimers.dev = true) ∧
    (∃ (s : State), s.expiring ∧ dischargeToDue s.atTimers.dev = true) ∧
    (∃ (s : State), s.expiring ∧ errorEndDue s.atTimers.dev = true) ∧
    (∃ (s : State), s.expiring ∧ drpDue s.atTimers.dev = true) :=
  ⟨⟨stAt 0 (fun d => d.wr SP_STATUS_ATT 0 0|>.wr SP_CTRL_EN 0 1|>.wr GL_STATUS_MHALT 0 0|>.wr SP_CTRL_ROLE 0 1|>.wr
     SP_VBUS_V 0 401), Term.opn, Term.rp, 1, 2, 1, false, by decide +kernel⟩,
   ⟨stAt 0 (fun d => d.wr SP_STATUS_ATT 0 0|>.wr SP_CTRL_EN 0 1|>.wr GL_STATUS_MHALT 0 0), Term.opn, Term.opn,
     by decide +kernel⟩,
   ⟨stAt 0 (fun d => d.wr SP_STATUS_ATT 0 2|>.wr SP_CTRL_EN 0 1|>.wr GL_STATUS_MHALT 0 0|>.wr SP_STATUS_XSITION 0 0),
     by decide +kernel⟩,
   ⟨stAt 0 (fun d => d.wr SP_STATUS_ATT 0 2|>.wr SP_CTRL_EN 0 1|>.wr GL_STATUS_MHALT 0 0|>.wr SP_STATUS_XSITION 0 1),
     by decide +kernel⟩,
   ⟨stAt 0 (fun d => d.wr SP_STATUS_ATT 0 1|>.wr SP_CTRL_EN 0 1|>.wr GL_STATUS_MHALT 0 0|>.wr SP_VBUS_V 0 366|>.wr
     SP_STATUS_CONTRACT 0 0), by decide +kernel⟩,
   ⟨stAt 0 (fun d => d.wr SP_STATUS_ATT 0 1|>.wr SP_CTRL_EN 0 1|>.wr GL_STATUS_MHALT 0 0|>.wr SP_VBUS_V 0 367|>.wr
     SP_STATUS_CONTRACT 0 0), by decide +kernel⟩,
   ⟨stAt 0 (fun d => d.wr SP_STATUS_ATT 0 4|>.wr SP_CTRL_EN 0 1|>.wr GL_STATUS_MHALT 0 0), by decide +kernel⟩,
   ⟨stAt 2 (fun d => d.wr SP_STATUS_ATT 0 5|>.wr SP_CTRL_EN 0 1|>.wr GL_STATUS_MHALT 0 0|>.wr SP_VBUS_V 0 79),
     by decide +kernel⟩,
   ⟨stAt 2 (fun d => (fun (d : Dev) => { d with tb := { d.tb with now := 700000 }, sp := { d.sp with since := 5 } })
     (d.wr SP_STATUS_ATT 0 5|>.wr SP_CTRL_EN 0 1|>.wr GL_STATUS_MHALT 0 0)), by decide +kernel⟩,
   ⟨stAt 2 (fun d => (fun (d : Dev) => { d with tb := { d.tb with now := 700000 }, sp := { d.sp with since := 5 } })
     (d.wr SP_STATUS_ATT 0 6|>.wr SP_CTRL_EN 0 1|>.wr GL_STATUS_MHALT 0 0|>.wr SP_VBUS_V 0 79)), by decide +kernel⟩,
   ⟨stAt 2 (fun d => (fun (d : Dev) =>
     { d with tb := { d.tb with now := 700000 }, sp := { d.sp with toggleAt := 5 } }) (d.wr SP_STATUS_ATT 0 0|>.wr
     SP_CTRL_EN 0 1|>.wr GL_STATUS_MHALT 0 0|>.wr SP_CTRL_ROLE 0 0|>.wr SP_CTRL_SRC_EN 0 1|>.wr SP_STATUS_SVCBOOT 0
     0|>.wr CD_ENT_ROLE 1 4|>.wr CD_ENT_UNIT 1 1|>.wr FU_CFG_VALID 1 1|>.wr FU_CFG_PORTSW 1 1|>.wr FU_STATUS_STATE 1
     3|>.wr FU_CFG_VALID 0 0|>.wr CD_ENT_HEALTH 1 2)), by decide +kernel⟩⟩

theorem witness_port_power_policy_source :
    (∃ (s : State) (pos : BitVec 3) (curr : BitVec 10) (v : Nat), s.sys.dev.quiet ∧ pdOn s.sys.dev = true ∧ spState
     s.sys.dev = spSrc ∧ pos ≠ 0 ∧ (srcOffer s.sys.dev)[pos.toNat - 1]? = some (some v) ∧ curr.toNat ≤ imax s.sys.dev
     * 5) ∧
    (∃ (s : State) (pos : BitVec 3), s.sys.dev.quiet ∧ pdOn s.sys.dev = true ∧ spState s.sys.dev = spSrc ∧ (pos = 0 ∨
     (srcOffer s.sys.dev)[pos.toNat - 1]? = none)) ∧
    (∃ (s : State), s.expiring ∧ psRdyDue s.atTimers.dev = true) ∧
    (∃ (s : State), s.expiring ∧ ppsTimeoutDue s.atTimers.dev = true) ∧
    (∃ (s : State) (a : Accessor), s.turn ∧ a ≠ .sp ∧ writeKind s.sys.dev (accIx a) (0xC01C) (1) = 0 ∧ pdOn
     s.atCommands.dev = true) ∧
    (∃ (s : State) (a : Accessor), s.turn ∧ a ≠ .sp ∧ writeKind s.sys.dev (accIx a) (0xC01C) (1) = 0 ∧ pdOn
     s.atCommands.dev = false) ∧
    (∃ (s : State) (a : Accessor), s.turn ∧ a ≠ .sp ∧ writeKind s.sys.dev (accIx a) (0xC01C) (2) = 0 ∧ (spState
     s.atCommands.dev = spSnk ∨ spState s.atCommands.dev = spSrc)) ∧
    (∃ (s : State), s.sys.dev.quiet ∧ pdOn s.sys.dev = true) ∧
    (∃ (s : State), s.sys.dev.quiet ∧ pdOn s.sys.dev = true) :=
  ⟨⟨stAt 0 (fun d => d.wr SP_STATUS_ATT 0 2|>.wr SP_CTRL_EN 0 1|>.wr GL_STATUS_MHALT 0 0|>.wr SP_SRC_IMAX 0 1), 1, 5,
     250, by decide +kernel⟩,
   ⟨stAt 0 (fun d => d.wr SP_STATUS_ATT 0 2|>.wr SP_CTRL_EN 0 1|>.wr GL_STATUS_MHALT 0 0), 6, by decide +kernel⟩,
   ⟨stAt 2 (fun d => (fun (d : Dev) =>
     { d with tb := { d.tb with now := 300000 }, sp := { d.sp with xs := some { pos := 1, volt := 250, curr := 5, pps := false, next := 3, last := some 5 } } })
     (d.wr SP_STATUS_ATT 0 2|>.wr SP_CTRL_EN 0 1|>.wr GL_STATUS_MHALT 0 0)), by decide +kernel⟩,
   ⟨stAt 2 (fun d => (fun (d : Dev) =>
     { d with tb := { d.tb with now := 16000000 }, sp := { d.sp with xs := none, reqAt := 5 } }) (d.wr SP_STATUS_ATT 0
     2|>.wr SP_CTRL_EN 0 1|>.wr GL_STATUS_MHALT 0 0|>.wr SP_STATUS_CONTRACT 0 1|>.wr SP_CONTR_PPS 0 1)),
     by decide +kernel⟩,
   ⟨stAt 1 (fun d => (fun (d : Dev) => { d with sp := { d.sp with rp := false } }) (d.wr SP_STATUS_ATT 0 1|>.wr
     SP_CTRL_EN 0 1|>.wr GL_STATUS_MHALT 0 0)), Accessor.pa, by decide +kernel⟩,
   ⟨stAt 1 (fun d => d.wr SP_STATUS_ATT 0 0|>.wr SP_CTRL_EN 0 1|>.wr GL_STATUS_MHALT 0 0), Accessor.pa,
     by decide +kernel⟩,
   ⟨stAt 1 (fun d => d.wr SP_STATUS_ATT 0 1|>.wr SP_CTRL_EN 0 1|>.wr GL_STATUS_MHALT 0 0), Accessor.pa,
     by decide +kernel⟩,
   ⟨stAt 0 (fun d => (fun (d : Dev) => { d with sp := { d.sp with rp := false } }) (d.wr SP_STATUS_ATT 0 2|>.wr
     SP_CTRL_EN 0 1|>.wr GL_STATUS_MHALT 0 0)), by decide +kernel⟩,
   ⟨stAt 0 (fun d => d.wr SP_STATUS_ATT 0 1|>.wr SP_CTRL_EN 0 1|>.wr GL_STATUS_MHALT 0 0), by decide +kernel⟩⟩

theorem witness_port_power_policy_sink :
    (∃ (s : State), s.sys.dev.quiet ∧ pdOn s.sys.dev = true ∧ spState s.sys.dev = spSnk ∧ spLocked s.sys.dev = false)
     ∧
    (∃ (s : State) (p : Nat) (v : Nat) (i : Nat) (pps : Bool), s.sys.dev.quiet ∧ pdOn s.sys.dev = true ∧
     s.sys.dev.sp.swap ≠ 2 ∧ spState s.sys.dev = spSnk ∧ s.sys.dev.sp.ask = some (p, v, i, pps)) ∧
    (∃ (s : State) (p : Nat) (v : Nat) (i : Nat) (pps : Bool), s.sys.dev.quiet ∧ pdOn s.sys.dev = true ∧
     s.sys.dev.sp.swap ≠ 1 ∧ spState s.sys.dev = spSnk ∧ s.sys.dev.fl SP_STATUS_XSITION = true ∧ s.sys.dev.sp.ask =
     some (p, v, i, pps)) ∧
    (∃ (s : State) (p : Nat) (v : Nat) (i : Nat) (pps : Bool), s.expiring ∧ keepaliveDue s.atTimers.dev = true ∧
     s.atTimers.dev.sp.ask = some (p, v, i, pps)) ∧
    (∃ (s : State), s.sys.dev.quiet ∧ pdOn s.sys.dev = true ∧ s.sys.dev.fl SP_STATUS_PROLE = true ∧ s.sys.dev.bit
     SP_CTRL_PRS 0 0 = true) ∧
    (∃ (s : State), s.sys.dev.quiet ∧ pdOn s.sys.dev = true ∧ (s.sys.dev.fl SP_STATUS_PROLE = true → s.sys.dev.bit
     SP_CTRL_PRS 0 0 = false) ∧ (s.sys.dev.fl SP_STATUS_PROLE = false → s.sys.dev.bit SP_CTRL_PRS 0 1 = false ∨
     srcAvail s.sys.dev = false)) ∧
    (∃ (s : State), s.sys.dev.quiet ∧ pdOn s.sys.dev = true ∧ s.sys.dev.fl SP_STATUS_DROLE = true) ∧
    (∃ (s : State), s.sys.dev.quiet ∧ pdOn s.sys.dev = true ∧ s.sys.dev.fl SP_STATUS_DROLE = false) :=
  ⟨⟨stAt 0 (fun d => d.wr SP_STATUS_ATT 0 1|>.wr SP_CTRL_EN 0 1|>.wr GL_STATUS_MHALT 0 0|>.wr FU_CFG_VALID 0 0|>.wr
     FU_CFG_VALID 1 0|>.wr FU_CFG_VALID 2 0|>.wr FU_CFG_VALID 3 0), by decide +kernel⟩,
   ⟨stAt 0 (fun d => (fun (d : Dev) => { d with sp := { d.sp with ask := some (1, 250, 60, false) } }) (d.wr
     SP_STATUS_ATT 0 1|>.wr SP_CTRL_EN 0 1|>.wr GL_STATUS_MHALT 0 0)), 1, 250, 60, false, by decide +kernel⟩,
   ⟨stAt 0 (fun d => (fun (d : Dev) => { d with sp := { d.sp with ask := some (1, 250, 60, false) } }) (d.wr
     SP_STATUS_ATT 0 1|>.wr SP_CTRL_EN 0 1|>.wr GL_STATUS_MHALT 0 0|>.wr SP_STATUS_XSITION 0 1)), 1, 250, 60, false,
     by decide +kernel⟩,
   ⟨stAt 2 (fun d => (fun (d : Dev) =>
     { d with tb := { d.tb with now := 20000000 }, sp := { d.sp with ask := some (1, 250, 60, true), kaAt := 5 } })
     (d.wr SP_STATUS_ATT 0 1|>.wr SP_CTRL_EN 0 1|>.wr GL_STATUS_MHALT 0 0|>.wr SP_STATUS_CONTRACT 0 1|>.wr
     SP_CONTR_PPS 0 1)), 1, 250, 60, true, by decide +kernel⟩,
   ⟨stAt 0 (fun d => d.wr SP_STATUS_ATT 0 2|>.wr SP_CTRL_EN 0 1|>.wr GL_STATUS_MHALT 0 0|>.wr SP_STATUS_PROLE 0 1|>.wr
     SP_CTRL_PRS 0 1), by decide +kernel⟩,
   ⟨stAt 0 (fun d => d.wr SP_STATUS_ATT 0 1|>.wr SP_CTRL_EN 0 1|>.wr GL_STATUS_MHALT 0 0|>.wr SP_STATUS_PROLE 0 0|>.wr
     SP_CTRL_PRS 0 0), by decide +kernel⟩,
   ⟨stAt 0 (fun d => d.wr SP_STATUS_ATT 0 1|>.wr SP_CTRL_EN 0 1|>.wr GL_STATUS_MHALT 0 0|>.wr SP_STATUS_DROLE 0 1),
     by decide +kernel⟩,
   ⟨stAt 0 (fun d => d.wr SP_STATUS_ATT 0 1|>.wr SP_CTRL_EN 0 1|>.wr GL_STATUS_MHALT 0 0|>.wr SP_STATUS_DROLE 0 0),
     by decide +kernel⟩⟩

theorem witness_usb_service_answers :
    (∃ (s : State), s.sys.dev.quiet ∧ usbOn s.sys.dev = true ∧ s.sys.dev.fl SP_STATUS_USBCFG = true ∧
     s.sys.dev.sp.resp = none ∧ s.sys.dev.host.dq = [] ∧ s.sys.dev.up.verify = none ∧ s.sys.dev.commit = none ∧
     s.sys.dev.rcd.clr = none) ∧
    (∃ (s : State), s.sys.dev.quiet ∧ (usbOn s.sys.dev = false ∨ s.sys.dev.fl SP_STATUS_USBCFG = false ∨
     s.sys.dev.sp.resp.isSome = true)) ∧
    (∃ (s : State) (r : List Nat), s.sys.dev.quiet ∧ s.sys.dev.sp.resp = some r) ∧
    (∃ (s : State), s.sys.dev.quiet ∧ usbOn s.sys.dev = true) ∧
    (∃ (s : State), s.sys.dev.quiet ∧ usbOn s.sys.dev = true) ∧
    (∃ (s : State) (x : List Byte), s.sys.dev.quiet ∧ usbOn s.sys.dev = true ∧ sessionOk s.sys (natBytes x) = false) ∧
    (∃ (s : State) (x : List Byte), s.sys.dev.quiet ∧ usbOn s.sys.dev = true ∧ sessionOk s.sys (natBytes x) = true) ∧
    (∃ (s : State), s.sys.dev.quiet ∧ usbOn s.sys.dev = true) ∧
    (∃ (s : State) (a : Accessor), s.turn ∧ a ≠ .sp ∧ writeKind s.sys.dev (accIx a) (0xC01C) (4) = 0) ∧
    (∃ (s : State), s.expiring ∧ sessDue s.atTimers.dev = true) ∧
    (∃ (s : State) (k : Byte), s.sys.dev.quiet ∧ usbOn s.sys.dev = true ∧ s.sys.dev.fl NV_STATUS_KEYLOCK = false ∧
     s.sys.dev.pw.recovery = true ∧ 1 ≤ k.toNat ∧ k.toNat ≤ 3) ∧
    (∃ (s : State) (k : Byte), s.sys.dev.quiet ∧ usbOn s.sys.dev = true ∧ (s.sys.dev.fl NV_STATUS_KEYLOCK = true ∨
     s.sys.dev.pw.recovery = false ∨ k = 0 ∨ 3 < k.toNat)) ∧
    (∃ (s : State), s.sys.dev.quiet ∧ usbOn s.sys.dev = true ∧ s.sys.dev.fl NV_STATUS_KEYLOCK = false ∧
     s.sys.dev.pw.recovery = true) ∧
    (∃ (s : State), s.sys.dev.quiet ∧ usbOn s.sys.dev = true ∧ (s.sys.dev.fl NV_STATUS_KEYLOCK = true ∨
     s.sys.dev.pw.recovery = false)) ∧
    (∃ (s : State), s.sys.dev.quiet ∧ usbOn s.sys.dev = true) ∧
    (∃ (s : State) (req : Byte) (v : BitVec 16), s.sys.dev.quiet ∧ usbOn s.sys.dev = true ∧ req = 9 ∧ v.toNat ≤ 1) ∧
    (∃ (s : State) (req : Byte) (v : BitVec 16), s.sys.dev.quiet ∧ usbOn s.sys.dev = true ∧ req = 9 ∧ 1 < v.toNat) ∧
    (∃ (s : State) (req : Byte), s.sys.dev.quiet ∧ usbOn s.sys.dev = true ∧ req ≠ 9) :=
  ⟨⟨stAt 0 (fun d => d.wr SP_STATUS_ATT 0 1|>.wr SP_CTRL_EN 0 1|>.wr GL_STATUS_MHALT 0 0|>.wr SP_STATUS_DROLE 0 0|>.wr
     SP_STATUS_USBCFG 0 1), by decide +kernel⟩,
   ⟨stAt 0 (fun d => d.wr SP_STATUS_ATT 0 1|>.wr SP_CTRL_EN 0 1|>.wr GL_STATUS_MHALT 0 0|>.wr SP_STATUS_DROLE 0 0|>.wr
     SP_STATUS_USBCFG 0 0), by decide +kernel⟩,
   ⟨stAt 0 (fun d => { d with sp := { d.sp with resp := some [1, 2] } }), [1, 2], by decide +kernel⟩,
   ⟨stAt 0 (fun d => d.wr SP_STATUS_ATT 0 1|>.wr SP_CTRL_EN 0 1|>.wr GL_STATUS_MHALT 0 0|>.wr SP_STATUS_DROLE 0 0),
     by decide +kernel⟩,
   ⟨stAt 0 (fun d => d.wr SP_STATUS_ATT 0 1|>.wr SP_CTRL_EN 0 1|>.wr GL_STATUS_MHALT 0 0|>.wr SP_STATUS_DROLE 0 0),
     by decide +kernel⟩,
   ⟨stAt 0 (fun d => d.wr SP_STATUS_ATT 0 1|>.wr SP_CTRL_EN 0 1|>.wr GL_STATUS_MHALT 0 0|>.wr SP_STATUS_DROLE 0 0),
     [1, 2], by decide +kernel⟩,
   ⟨stS (stAt 0 (fun d => (fun (d : Dev) => { d with sp := { d.sp with nonce := some 0 } }) (d.wr SP_STATUS_ATT 0
     1|>.wr SP_CTRL_EN 0 1|>.wr GL_STATUS_MHALT 0 0|>.wr SP_STATUS_DROLE 0 0|>.wr NV_STATUS_KEYVALID 0 8))) (fun s =>
     { s with nv := Mem.put s.nv (keyAddr 3) [102, 163, 159, 65, 2, 177, 76, 8, 201, 211, 27, 217, 190, 152, 124, 113, 163, 112, 240, 140, 116, 16, 71, 58, 104, 191, 182, 91, 196, 227, 194, 59, 253, 89, 69, 104, 93, 225, 57, 208, 36, 117, 38, 3, 73, 153, 46, 7, 28, 250, 44, 107, 13, 193, 148, 175, 84, 42, 164, 43, 214, 102, 252, 66] }),
     [1, 2, 16, 39, 0, 0, 0, 0, 0, 0, 0, 0, 0, 0, 0, 0, 94, 203, 228, 209, 166, 51, 10, 68, 200, 247, 239, 149, 29,
     75, 241, 101, 230, 198, 183, 33, 239, 173, 169, 133, 251, 65, 102, 27, 198, 231, 253, 108, 94, 203, 228, 209,
     166, 51, 10, 68, 200, 247, 239, 149, 29, 75, 241, 101, 230, 198, 183, 33, 239, 173, 169, 133, 251, 65, 102, 27,
     198, 231, 253, 108], by decide +kernel⟩,
   ⟨stAt 0 (fun d => d.wr SP_STATUS_ATT 0 1|>.wr SP_CTRL_EN 0 1|>.wr GL_STATUS_MHALT 0 0|>.wr SP_STATUS_DROLE 0 0),
     by decide +kernel⟩,
   ⟨stAt 1 (fun d => d), Accessor.pa, by decide +kernel⟩,
   ⟨stAt 2 (fun d => d.wr SP_STATUS_ATT 0 1|>.wr SP_CTRL_EN 0 1|>.wr GL_STATUS_MHALT 0 0|>.wr SP_STATUS_DROLE 0 0|>.wr
     SP_STATUS_LEVEL 0 1|>.wr SP_SESS 0 0), by decide +kernel⟩,
   ⟨stAt 0 (fun d => (fun (d : Dev) => { d with pw := { d.pw with recovery := true } }) (d.wr SP_STATUS_ATT 0 1|>.wr
     SP_CTRL_EN 0 1|>.wr GL_STATUS_MHALT 0 0|>.wr SP_STATUS_DROLE 0 0|>.wr NV_STATUS_KEYLOCK 0 0)), 3,
     by decide +kernel⟩,
   ⟨stAt 0 (fun d => d.wr SP_STATUS_ATT 0 1|>.wr SP_CTRL_EN 0 1|>.wr GL_STATUS_MHALT 0 0|>.wr SP_STATUS_DROLE 0 0), 4,
     by decide +kernel⟩,
   ⟨stAt 0 (fun d => (fun (d : Dev) => { d with pw := { d.pw with recovery := true } }) (d.wr SP_STATUS_ATT 0 1|>.wr
     SP_CTRL_EN 0 1|>.wr GL_STATUS_MHALT 0 0|>.wr SP_STATUS_DROLE 0 0|>.wr NV_STATUS_KEYLOCK 0 0)),
     by decide +kernel⟩,
   ⟨stAt 0 (fun d => d.wr SP_STATUS_ATT 0 1|>.wr SP_CTRL_EN 0 1|>.wr GL_STATUS_MHALT 0 0|>.wr SP_STATUS_DROLE 0 0),
     by decide +kernel⟩,
   ⟨stAt 0 (fun d => d.wr SP_STATUS_ATT 0 1|>.wr SP_CTRL_EN 0 1|>.wr GL_STATUS_MHALT 0 0|>.wr SP_STATUS_DROLE 0 0),
     by decide +kernel⟩,
   ⟨stAt 0 (fun d => d.wr SP_STATUS_ATT 0 1|>.wr SP_CTRL_EN 0 1|>.wr GL_STATUS_MHALT 0 0|>.wr SP_STATUS_DROLE 0 0), 9,
     1, by decide +kernel⟩,
   ⟨stAt 0 (fun d => d.wr SP_STATUS_ATT 0 1|>.wr SP_CTRL_EN 0 1|>.wr GL_STATUS_MHALT 0 0|>.wr SP_STATUS_DROLE 0 0), 9,
     2, by decide +kernel⟩,
   ⟨stAt 0 (fun d => d.wr SP_STATUS_ATT 0 1|>.wr SP_CTRL_EN 0 1|>.wr GL_STATUS_MHALT 0 0|>.wr SP_STATUS_DROLE 0 0), 6,
     by decide +kernel⟩⟩

theorem witness_resets_leave_their_state :
    (∃ (s : State), s.sys.dev.live = true ∧ s.sys.dev.fl SP_STATUS_SVCBOOT = false) ∧
    (∃ (s : State), (s.sys.dev.pw.asleep = true ∨ s.sys.dev.fl SP_STATUS_SVCBOOT = true)) ∧
    (∃ (s : State), s.sys.dev.pw.asleep = false) ∧
    (∃ (s : State), s.turn ∧ writeKind s.sys.dev 2 0x430 1 = 0) ∧
    (∃ (s : State), s.sys.dev.quiet ∧ s.sys.dev.fl GL_STATUS_MHALT = false ∧ s.sys.dev.pw.entry = 0 ∧ (s.sys.dev.fl
     PM_CTRL_WDOG_ACT = true ∨ s.sys.dev.rd PM_STATUS_STATE = 3 ∨ s.sys.dev.rd PM_STATUS_STATE = 4)) ∧
    (∃ (s : State), s.sys.dev.quiet ∧ s.sys.dev.fl GL_STATUS_MHALT = false ∧ s.sys.dev.pw.entry = 0 ∧ s.sys.dev.fl
     PM_CTRL_WDOG_ACT = false ∧ s.sys.dev.rd PM_STATUS_STATE = 1) ∧
    (∃ (s : State), s.sys.dev.quiet ∧ s.sys.dev.fl GL_STATUS_MHALT = false) :=
  ⟨⟨stAt 0 (fun d => d.wr SP_STATUS_SVCBOOT 0 0), by decide +kernel⟩,
   ⟨stAt 0 (fun d => { d with pw := { d.pw with asleep := true } }), by decide +kernel⟩,
   ⟨stAt 0 (fun d => d), by decide +kernel⟩,
   ⟨stAt 1 (fun d => d.wr TW_TWB_WMASK 0 0x7FFFFF), by decide +kernel⟩,
   ⟨stAt 0 (fun d => d.wr PM_CTRL_WDOG_ACT 0 1|>.wr GL_STATUS_MHALT 0 0), by decide +kernel⟩,
   ⟨stAt 0 (fun d => d.wr PM_CTRL_WDOG_ACT 0 0|>.wr GL_STATUS_MHALT 0 0|>.wr PM_STATUS_STATE 0 1), by decide +kernel⟩,
   ⟨stAt 0 (fun d => d.wr GL_STATUS_MHALT 0 0), by decide +kernel⟩⟩

theorem witness_supplies_clocks_and_scan :
    (∃ (s : State), bitOf (s.sys.dev.rd PM_SUP_GOOD) 7 = true) ∧
    (∃ (s : State), bitOf (s.sys.dev.rd PM_SUP_GOOD) 7 = false) ∧
    (∃ (s : State), bitOf (s.sys.dev.rd PM_SUP_GOOD) 6 = true ∧ s.sys.dev.fl SP_STATUS_SVCBOOT = false) ∧
    (∃ (s : State), bitOf (s.sys.dev.rd PM_SUP_GOOD) 6 = false) ∧
    (∃ (s : State), (s.sys.dev.pw.asleep = false ∨ s.sys.dev.pw.waitMain = false)) ∧
    (∃ (s : State), s.sys.dev.pw.asleep = true ∧ s.sys.dev.pw.waitMain = true) :=
  ⟨⟨stAt 0 (fun d => d.wr PM_SUP_GOOD 0 255), by decide +kernel⟩,
   ⟨stAt 0 (fun d => d.wr PM_SUP_GOOD 0 127), by decide +kernel⟩,
   ⟨stAt 0 (fun d => d.wr PM_SUP_GOOD 0 255|>.wr SP_STATUS_SVCBOOT 0 0), by decide +kernel⟩,
   ⟨stAt 0 (fun d => d.wr PM_SUP_GOOD 0 128), by decide +kernel⟩,
   ⟨stAt 0 (fun d => d.wr PM_SUP_GOOD 0 0), by decide +kernel⟩,
   ⟨stAt 0 (fun d => { d with pw := { d.pw with asleep := true, waitMain := true } }), by decide +kernel⟩⟩

theorem witness_starts_and_service_boots :
    (∃ (s : State) (good : Byte), startReady s.sys.dev good.toNat = true) ∧
    (∃ (s : State) (good : Byte), startReady s.sys.dev good.toNat = false) ∧
    (∃ (s : State), s.judging ∧ startEndDue s.atCommands.dev = true) ∧
    (∃ (s : State), s.sys.dev.pw.booted = false ∧ s.sys.dev.pw.asleep = false ∧ s.sys.dev.bit PM_SUP_GOOD 0 0 = false
     ∧ s.sys.dev.fl GL_STATUS_TESTEN = false) ∧
    (∃ (s : State) (good : Byte), s.sys.dev.fl SP_STATUS_SVCBOOT = true ∧ bitsOf good.toNat 0 6 = 63 ∧
     s.sys.dev.pw.recovery = true) ∧
    (∃ (s : State) (good : Byte), s.sys.dev.fl SP_STATUS_SVCBOOT = true ∧ bitsOf good.toNat 0 6 = 63 ∧
     s.sys.dev.pw.recovery = false) :=
  ⟨⟨stAt 0 (fun d =>
     { d.wr GL_STATUS_TESTEN 0 0|>.wr PM_STATUS_STATE 0 0 with pw := { d.pw with booted := false, asleep := false, held := true } }),
     255, by decide +kernel⟩,
   ⟨stAt 0 (fun d =>
     { d.wr GL_STATUS_TESTEN 0 0|>.wr PM_STATUS_STATE 0 0 with pw := { d.pw with booted := false, asleep := false, held := true } }),
     3, by decide +kernel⟩,
   ⟨stAt 1 (fun d => (fun (d : Dev) => forIx 8 (fun r (d : Dev) => d.wr RG_CTRL_EN r 0)
     { d with pw := { d.pw with booted := true, startAt := 100 }, commit := none }) (d.wr PM_STATUS_STATE 0 0|>.wr
     SQ_CTRL_AUTO 0 1)), by decide +kernel⟩,
   ⟨stAt 0 (fun d => (fun (d : Dev) =>
     { d.wr GL_STATUS_TESTEN 0 0|>.wr PM_STATUS_STATE 0 0 with pw := { d.pw with booted := false, asleep := false, held := true } })
     (d.wr PM_SUP_GOOD 0 128)), by decide +kernel⟩,
   ⟨stAt 0 (fun d => (fun (d : Dev) => { d with pw := { d.pw with recovery := true } }) (d.wr SP_STATUS_SVCBOOT 0 1)),
     63, by decide +kernel⟩,
   ⟨stAt 0 (fun d => (fun (d : Dev) => { d with pw := { d.pw with recovery := false } }) (d.wr SP_STATUS_SVCBOOT 0
     1|>.wr NV_STATUS_CFGBUF 0 0)), 127, by decide +kernel⟩⟩

theorem witness_register_writes_act_by_access :
    (∃ (s : State) (a : Accessor), s.sys.dev.quiet ∧ a ≠ .sp) ∧
    (∃ (s : State) (a : Accessor) (ofs : BitVec 16) (v : Word), s.sys.dev.quiet ∧ a ≠ .sp ∧ writeKind s.sys.dev (accIx
     a) ofs.toNat v.toNat ≠ 0) ∧
    (∃ (s : State), s.sys.dev.quiet) ∧
    (∃ (s : State) (a : Accessor) (f : Fin 64) (v : Word), s.sys.dev.quiet ∧ a ≠ .sp ∧ writeKind s.sys.dev (accIx a)
     (0x9004 + 0x20 * f.val) v.toNat = 0) ∧
    (∃ (s : State) (a : Accessor) (f : Fin 64) (v : Word), s.sys.dev.quiet ∧ a ≠ .sp ∧ writeKind s.sys.dev (accIx a)
     (0x900C + 0x20 * f.val) v.toNat = 0) ∧
    (∃ (s : State) (a : Accessor), s.sys.dev.quiet ∧ a ≠ .sp ∧ writeKind s.sys.dev (accIx a) 0x9810 1 = 0) ∧
    (∃ (s : State) (a : Accessor) (v : Word), s.sys.dev.quiet ∧ a ≠ .sp ∧ writeKind s.sys.dev (accIx a) 0x0808 v.toNat
     = 0) ∧
    (∃ (s : State) (v : Word), s.sys.dev.quiet ∧ writeKind s.sys.dev 1 0x100C v.toNat = 0 ∧ s.sys.dev.pw.entry = 0 ∧
     (v.toNat % 65536 + 65536 - s.sys.dev.rd HQ_CQ_IDX_CI 1) % 65536 ≤ hqSize s.sys.dev 1 0) :=
  ⟨⟨stAt 0 (fun d => d), Accessor.pb, by decide +kernel⟩,
   ⟨stAt 0 (fun d => d), Accessor.twb, 0x9812, 1, by decide +kernel⟩,
   ⟨stAt 0 (fun d => d), by decide +kernel⟩,
   ⟨stAt 0 (fun d => d), Accessor.pa, 63, 0x12345678, by decide +kernel⟩,
   ⟨stAt 0 (fun d => d), Accessor.pa, 63, 0x0000960D, by decide +kernel⟩,
   ⟨stAt 0 (fun d => d), Accessor.pa, by decide +kernel⟩,
   ⟨stAt 0 (fun d => d), Accessor.pa, 0, by decide +kernel⟩,
   ⟨stAt 0 (fun d => d.wr HQ_CQ_IDX_CI 1 1), 3, by decide +kernel⟩⟩

theorem witness_register_reads_act_by_access :
    (∃ (s : State) (a : Accessor) (ofs : BitVec 16), s.sys.dev.quiet ∧ ofs.toNat % 4 = 0 ∧ wordThere s.sys.dev (accIx
     a) ofs.toNat = true ∧ specialRead ofs.toNat = false ∧ (llPairs.any (fun p => p.1 == ofs.toNat)) = false) ∧
    (∃ (s : State) (a : Accessor), s.sys.dev.quiet ∧ wordThere s.sys.dev (accIx a) 0x0844 = true) ∧
    (∃ (s : State) (a : Accessor), s.sys.dev.quiet ∧ a ≠ .sp) ∧
    (∃ (s : State) (a : Accessor) (ofs : BitVec 16), s.sys.dev.quiet ∧ a ≠ .sp ∧ (ofs.toNat % 4 ≠ 0 ∨ wordThere
     s.sys.dev (accIx a) ofs.toNat = false)) :=
  ⟨⟨stAt 0 (fun d => d), Accessor.pb, 0x9814, by decide +kernel⟩,
   ⟨stAt 0 (fun d => d.wr TB_EVT_MISS 0 1), Accessor.pa, by decide +kernel⟩,
   ⟨stAt 0 (fun d => d), Accessor.pb, by decide +kernel⟩,
   ⟨stAt 0 (fun d => d), Accessor.twb, 0xFFFC, by decide +kernel⟩⟩

theorem witness_paired_reads_latch_their_high_word :
    (∃ (s : State) (a : Accessor) (p : Nat × Reg × Reg), s.sys.dev.quiet ∧ p ∈ llPairs ∧ wordThere s.sys.dev (accIx a)
     p.1 = true) ∧
    (∃ (s : State) (a : Accessor) (p : Nat × Reg × Reg), s.sys.dev.quiet ∧ p ∈ llPairs ∧ wordThere s.sys.dev (accIx a)
     (p.1 + 4) = true) :=
  ⟨⟨stAt 0 (fun d => d), Accessor.pb, (0x83C, TB_SYNC_CAP_LO, TB_SYNC_CAP_HI), by decide +kernel⟩,
   ⟨stAt 0 (fun d => d), Accessor.pa, (0x004, GL_UID_LO, GL_UID_HI), by decide +kernel⟩⟩

theorem witness_postmark_advances_by_the_rate :
    (∃ (s : State), s.sys.dev.live = true ∧ s.sys.dev.tb.run = true ∧ s.sys.dev.tb.frameOpen = false ∧ s.ended.dev.rd
     TB_FRAME_POS ≠ 999 ∧ s.ended.dev.tb.frac < 2 ^ 32 ∧ -rateMax ≤ s.ended.dev.rdS TB_RATE ∧ s.ended.dev.rdS TB_RATE
     ≤ rateMax) ∧
    (∃ (s : State), s.sys.dev.quiet ∧ s.sys.dev.rd TB_CTRL_SYNC_MODE ≠ 0 ∧ -rateMax ≤ s.sys.dev.rdS TB_FREQ ∧
     s.sys.dev.rdS TB_FREQ ≤ rateMax ∧ (∀ r ∈ s.sys.dev.tb.rateNext, -rateMax ≤ r ∧ r ≤ rateMax)) :=
  ⟨⟨stAt 3 (fun d => (d.wr TB_FRAME_POS 0 998 |>.wr TB_RATE 0 5)), by decide +kernel⟩,
   ⟨stAt 0 (fun d => (((d.wr TB_CTRL_SYNC_MODE 0 1).wr TB_STATUS_LOCK 0 1).wr TB_SYNC_PERIOD 0 1000|>.wr TB_FREQ 0
     7)), by decide +kernel⟩⟩

theorem witness_commands_wait_their_turn :
    (∃ (s : State) (a : Accessor), s.sys.dev.live = true ∧ s.sys.dev.tb.frameOpen = false ∧ (32 ≤
     s.atCommands.dev.tb.handed ∨ dispNext s.atCommands.dev ≠ none) ∧ a ≠ .sp ∧ writeKind s.sys.dev (accIx a) 0x9810 1
     = 0) ∧
    (∃ (s : State) (a : Accessor), s.sys.dev.live = true ∧ s.sys.dev.tb.frameOpen = true ∧ a ≠ .sp ∧ writeKind
     s.sys.dev (accIx a) 0x9810 1 = 0) ∧
    (∃ (s : State), s.sys.dev.live = true ∧ s.sys.dev.tb.frameOpen = false ∧ (32 ≤ s.atCommands.dev.tb.handed ∨
     dispNext s.atCommands.dev ≠ none)) ∧
    (∃ (s : State), s.sys.dev.live = true ∧ s.sys.dev.tb.frameOpen = true) :=
  ⟨⟨stAt 1 (fun d => { d with tb := { d.tb with handed := 32 } }), Accessor.pa, by decide +kernel⟩,
   ⟨stAt 1 (fun d => { d with tb := { d.tb with frameOpen := true } }), Accessor.pb, by decide +kernel⟩,
   ⟨stAt 1 (fun d => { d with tb := { d.tb with handed := 32 } }), by decide +kernel⟩,
   ⟨stAt 1 (fun d => { d with tb := { d.tb with frameOpen := true } }), by decide +kernel⟩⟩

theorem witness_soundness_is_kept : ∃ s t : State, s.sound ∧ step s = .next t :=
  ⟨{ State.reset with pending := [.frameBoundary] }, _, ⟨by decide, by decide⟩, rfl⟩

theorem witness_memories_are_kept :
    (∃ (c : Instr) (s t : State), exec c s = .next t ∧ writesHoles c = false) ∧
    (∃ (c : Instr) (s t : State), exec c s = .next t ∧ writesStore c = false) :=
  ⟨⟨.syncMiss, State.reset, _, rfl, rfl⟩, ⟨.syncMiss, State.reset, _, rfl, rfl⟩⟩

theorem witness_capture_offsets_are_nearest : ∃ period : Nat, 0 < period := ⟨1, by decide⟩

theorem witness_step_on_an_empty_queue : ∃ s : State, s.pending = [] := ⟨State.reset, rfl⟩

theorem witness_postmark_rate_bounds : (∃ (frac : Nat) (rate : Int), frac < 2 ^ 32 ∧ -858993 ≤ rate ∧ rate ≤ 858993) ∧
    (∃ (d : Dev) (e k : Nat), 4 ≤ d.rd (hostRing k).log2sz e ∧ d.rd (hostRing k).log2sz e ≤ 12) ∧
    (∃ (d : Dev) (e k : Nat), d.rd (hostRing k).ci e < 65536) :=
  ⟨⟨0xFFFFFFFF, -858993, by decide⟩, ⟨{}, 1, 3, by decide +kernel⟩, ⟨{}, 1, 3, by decide +kernel⟩⟩

end

end Sys2Proof.Tests
end

section
/-! PROOFS of `RegisterReadsActByAccess` and of the negation of `RegisterWritesActByAccess` (R15, R16, R421 to R426, R432): first
what a bus error and a read of a word do to the device, then the two statements. -/

namespace Sys2Proof.Machine
open R

/-! ### Bus errors (R15, R423) -/

/-- The event bit of an accessor's bus errors. -/
def busErrAccBit (acc : Nat) : Reg := if acc = 0 then IN_BUSERR_PA else if acc = 1 then IN_BUSERR_PB else IN_BUSERR_TWB

/-- The event bit of a kind of bus error. -/
def busErrKindBit (kind : Nat) : Reg :=
  if kind = 1 then IN_BUSERR_WIDTH else if kind = 2 then IN_BUSERR_LOC else IN_BUSERR_RSVBIT

/-- The event bit of the direction of a bus error. -/
def busErrDirBit (wr : Bool) : Reg := if wr then IN_BUSERR_WRITE else IN_BUSERR_READ

/-- What a bus error writes in the register file before it is recorded and answered. -/
def busErrLatch (d : Dev) (acc ofs kind : Nat) (wr : Bool) : Dev :=
  let d := ((d.ev (busErrAccBit acc)).ev (busErrKindBit kind)).ev (busErrDirBit wr)
  let d := ((d.wr IN_BERR_OFS_OFS 0 ofs).wr IN_BERR_OFS_ACC 0 acc).wr IN_BERR_OFS_KIND 0 kind
  (d.wrB IN_BERR_OFS_WR 0 wr).inc IN_BERR_CNT

@[simp] theorem aerReport_regs (d : Dev) (e : Nat) : (aerReport d e).regs = d.regs := by
  unfold aerReport; dsimp only; split <;> rfl

@[simp] theorem aerReport_bs (d : Dev) (e : Nat) : (aerReport d e).bs = d.bs := by
  unfold aerReport; dsimp only; split <;> rfl

/-- A bus error of an accessor that can raise one: the latch, its record, its answer, and an endpoint's report. -/
theorem busError_eq {acc : Nat} (ha : acc < 3) (d : Dev) (ofs kind : Nat) (wr : Bool) (data : Nat) :
    busError d acc ofs kind wr data =
      let e := ((busErrLatch d acc ofs kind wr).recd 0x0C01 (8 + acc) 0
        (le 2 ofs ++ [kind, wr.toNat] ++ le 4 (if wr then data else 0))).emit (.busError acc ofs kind wr.toNat)
      if acc < 2 then aerReport e acc else e := by
  unfold busError
  rw [if_neg (by omega)]
  rfl

/-- The registers after a bus error: those of the latch, with its record. -/
theorem busError_regs {acc : Nat} (ha : acc < 3) (d : Dev) (ofs kind : Nat) (wr : Bool) (data : Nat) :
    (busError d acc ofs kind wr data).regs = ((busErrLatch d acc ofs kind wr).recd 0x0C01 (8 + acc) 0
      (le 2 ofs ++ [kind, wr.toNat] ++ le 4 (if wr then data else 0))).regs := by
  rw [busError_eq ha]
  dsimp only
  split
  · rw [aerReport_regs, Dev.emit_regs]
  · rw [Dev.emit_regs]

/-- A bus error leaves the shelf's state, and with it the shed request. -/
@[simp] theorem busError_bs (d : Dev) (acc ofs kind : Nat) (wr : Bool) (data : Nat) :
    (busError d acc ofs kind wr data).bs = d.bs := by
  unfold busError
  dsimp only
  split
  · rfl
  · split <;> simp

/-- Outside the recorder's fields, a bus error writes what the latch does. -/
theorem busError_rd {acc : Nat} (ha : acc < 3) (d : Dev) (ofs kind : Nat) (wr : Bool) (data : Nat) {r : Reg} (ix : Nat)
    (h : r.id ∉ recIds) : (busError d acc ofs kind wr data).rd r ix = (busErrLatch d acc ofs kind wr).rd r ix := by
  rw [Dev.rd_congr _ _ (busError_regs ha ..), Dev.rd_recd _ _ _ _ _ _ _ h]

theorem busErrKindBit_w (kind : Nat) : (busErrKindBit kind).w = 1 := by unfold busErrKindBit; (repeat' split) <;> rfl
theorem busErrDirBit_w (wr : Bool) : (busErrDirBit wr).w = 1 := by cases wr <;> rfl

/-- The numbers of the bits of IN_BUSERR: the accessors' first, then the kinds', then the directions'. -/
theorem busErrAccBit_id (acc : Nat) : 921 ≤ (busErrAccBit acc).id ∧ (busErrAccBit acc).id ≤ 923 := by
  unfold busErrAccBit; (repeat' split) <;> decide
theorem busErrKindBit_id (kind : Nat) : 924 ≤ (busErrKindBit kind).id ∧ (busErrKindBit kind).id ≤ 926 := by
  unfold busErrKindBit; (repeat' split) <;> decide
theorem busErrDirBit_id (wr : Bool) : 927 ≤ (busErrDirBit wr).id ∧ (busErrDirBit wr).id ≤ 928 := by
  cases wr <;> decide

theorem busErrAccBit_mem (acc : Nat) : (busErrAccBit acc, 0) ∈ busErrFields := by
  unfold busErrAccBit; (repeat' split) <;> simp [busErrFields]
theorem busErrKindBit_mem (kind : Nat) : (busErrKindBit kind, 0) ∈ busErrFields := by
  unfold busErrKindBit; (repeat' split) <;> simp [busErrFields]
theorem busErrDirBit_mem (wr : Bool) : (busErrDirBit wr, 0) ∈ busErrFields := by
  cases wr <;> simp [busErrFields, busErrDirBit]

/-- The latch leaves a field below IN_BERR_OFS as the three event bits leave it. -/
theorem busErrLatch_rd_bits (d : Dev) (acc ofs kind : Nat) (wr : Bool) {r : Reg} (h : r.id < IN_BERR_OFS_OFS.id) :
    (busErrLatch d acc ofs kind wr).rd r 0 =
      (((d.ev (busErrAccBit acc)).ev (busErrKindBit kind)).ev (busErrDirBit wr)).rd r 0 := by
  have hid : r.id < 929 := h
  have hne : ∀ x : Reg, 929 ≤ x.id → r.id ≠ x.id := fun x hx => by omega
  unfold busErrLatch Dev.inc Dev.wrB
  dsimp only
  rw [Dev.rd_wr_ne _ _ _ _ (hne _ (by decide)), Dev.rd_wr_ne _ _ _ _ (hne _ (by decide)),
    Dev.rd_wr_ne _ _ _ _ (hne _ (by decide)), Dev.rd_wr_ne _ _ _ _ (hne _ (by decide)),
    Dev.rd_wr_ne _ _ _ _ (hne _ (by decide))]

/-- A bus error sets the bit of its kind. -/
theorem busError_kindBit {acc : Nat} (ha : acc < 3) (d : Dev) (ofs kind : Nat) (wr : Bool) (data : Nat) :
    (busError d acc ofs kind wr data).fl (busErrKindBit kind) = true := by
  have hi := busErrKindBit_id kind
  have hd := busErrDirBit_id wr
  have hr : (busErrKindBit kind).id ∉ recIds := by
    unfold busErrKindBit; (repeat' split) <;> decide
  have h := Dev.fl_ev (d.ev (busErrAccBit acc)) (busErrKindBit kind) 0 (busErrKindBit_w kind)
  unfold Dev.fl at h ⊢
  rwa [busError_rd ha _ _ _ _ _ _ hr, busErrLatch_rd_bits _ _ _ _ _ (show _ < 929 by omega),
    Dev.rd_ev_ne _ _ _ (by omega)]

/-- A bus error sets the bit of its direction. -/
theorem busError_dirBit {acc : Nat} (ha : acc < 3) (d : Dev) (ofs kind : Nat) (wr : Bool) (data : Nat) :
    (busError d acc ofs kind wr data).fl (busErrDirBit wr) = true := by
  have hi := busErrDirBit_id wr
  have hr : (busErrDirBit wr).id ∉ recIds := by cases wr <;> decide
  have h := Dev.fl_ev ((d.ev (busErrAccBit acc)).ev (busErrKindBit kind)) (busErrDirBit wr) 0 (busErrDirBit_w wr)
  unfold Dev.fl at h ⊢
  rwa [busError_rd ha _ _ _ _ _ _ hr, busErrLatch_rd_bits _ _ _ _ _ (show _ < 929 by omega)]

/-- IN_BERR_OFS.OFS shows the offset of the access. -/
theorem busError_ofs {acc : Nat} (ha : acc < 3) (d : Dev) (ofs kind : Nat) (wr : Bool) (data : Nat) :
    (busError d acc ofs kind wr data).rd IN_BERR_OFS_OFS = ofs % 2 ^ 16 := by
  rw [busError_rd ha _ _ _ _ _ _ (by decide)]
  unfold busErrLatch Dev.inc Dev.wrB
  dsimp only
  rw [Dev.rd_wr_ne _ _ _ _ (by decide), Dev.rd_wr_ne _ _ _ _ (by decide), Dev.rd_wr_ne _ _ _ _ (by decide),
    Dev.rd_wr_ne _ _ _ _ (by decide), Dev.rd_wr]
  rfl

/-- IN_BERR_OFS.KIND shows the kind. -/
theorem busError_kind {acc : Nat} (ha : acc < 3) (d : Dev) (ofs kind : Nat) (wr : Bool) (data : Nat) :
    (busError d acc ofs kind wr data).rd IN_BERR_OFS_KIND = kind % 2 ^ 2 := by
  rw [busError_rd ha _ _ _ _ _ _ (by decide)]
  unfold busErrLatch Dev.inc Dev.wrB
  dsimp only
  rw [Dev.rd_wr_ne _ _ _ _ (by decide), Dev.rd_wr_ne _ _ _ _ (by decide), Dev.rd_wr]
  rfl

/-- A bus error is counted. -/
theorem busError_cnt {acc : Nat} (ha : acc < 3) (d : Dev) (ofs kind : Nat) (wr : Bool) (data : Nat) :
    (busError d acc ofs kind wr data).rd IN_BERR_CNT = incSat IN_BERR_CNT.w (d.rd IN_BERR_CNT) := by
  have hne : ∀ x : Reg, x.id ≤ 928 → IN_BERR_CNT.id ≠ x.id := fun x hx => by
    show 933 ≠ x.id
    omega
  rw [busError_rd ha _ _ _ _ _ _ (by decide)]
  unfold busErrLatch Dev.inc Dev.wrB
  dsimp only
  rw [Dev.rd_wr, Dev.rd_wr_ne _ _ _ _ (by decide), Dev.rd_wr_ne _ _ _ _ (by decide), Dev.rd_wr_ne _ _ _ _ (by decide),
    Dev.rd_wr_ne _ _ _ _ (by decide), Dev.rd_ev_ne _ _ _ (hne _ (busErrDirBit_id wr).2),
    Dev.rd_ev_ne _ _ _ (hne _ ((busErrKindBit_id kind).2.trans (by decide))),
    Dev.rd_ev_ne _ _ _ (hne _ ((busErrAccBit_id acc).2.trans (by decide)))]
  exact Nat.mod_eq_of_lt (lt_of_le_of_lt (min_le_right _ _) (Nat.sub_lt (Nat.two_pow_pos _) one_pos))

/-- A bus error writes its own fields and those of a record. -/
theorem KeepsBut.busError {l : List (Reg × Nat)} {a b : Dev} (h : KeepsBut l a b) (acc ofs kind : Nat) (wr : Bool) (data : Nat)
    (m : ∀ x ∈ busErrFields, x ∈ l) : KeepsBut l a (busError b acc ofs kind wr data) := by
  by_cases ha : acc < 3
  · have hrec : ∀ x ∈ recFields, x ∈ l := fun x hx => m x (by
      simp only [recFields, List.mem_cons, List.not_mem_nil, or_false] at hx
      rcases hx with rfl | rfl | rfl | rfl <;> simp [busErrFields])
    have hbits := ((h.ev _ 0 (m _ (busErrAccBit_mem acc))).ev _ 0 (m _ (busErrKindBit_mem kind))).ev _ 0
      (m _ (busErrDirBit_mem wr))
    have hlatch : KeepsBut l a (busErrLatch b acc ofs kind wr) :=
      ((((hbits.wr IN_BERR_OFS_OFS 0 ofs (m _ (by simp [busErrFields]))).wr IN_BERR_OFS_ACC 0 acc
        (m _ (by simp [busErrFields]))).wr IN_BERR_OFS_KIND 0 kind (m _ (by simp [busErrFields]))).wrB IN_BERR_OFS_WR 0 wr
        (m _ (by simp [busErrFields]))).inc IN_BERR_CNT 0 (m _ (by simp [busErrFields]))
    exact (hlatch.recd _ _ _ _ hrec).of_regs (busError_regs ha ..)
  · unfold Sys2Proof.Machine.busError
    rwa [if_pos (by omega)]

/-! ### Fields of a word -/

/-- The registers are numbered by their place in the list of all. -/
theorem allRegs_ids : allRegs.map Reg.id = List.range 942 := by decide +kernel

/-- A register is known by its number. -/
theorem allRegs_id_inj {r r' : Reg} (h : r ∈ allRegs) (h' : r' ∈ allRegs) (hid : r.id = r'.id) : r = r' :=
  List.inj_on_of_nodup_map (allRegs_ids ▸ List.nodup_range) h h' hid

/-- A field of a word is a register with an element there. -/
theorem mem_wordFields {acc ofs : Nat} {f : Reg × Nat} (h : f ∈ wordFields acc ofs) :
    f.1 ∈ allRegs ∧ (f.1.elemAt (wordView acc ofs).ofs).isSome = true := by
  unfold wordFields at h
  obtain ⟨r, hr, hf⟩ := List.mem_filterMap.mp h
  split at hf
  · simp at hf
  · rename_i ix hx
    cases hf
    exact ⟨hr, by simp [hx]⟩

/-- A view shows its own offset, that of an endpoint's field groups, or none. -/
theorem wordView_ofs (acc ofs : Nat) : (wordView acc ofs).ofs = ofs ∨
    (0xD00 ≤ (wordView acc ofs).ofs ∧ (wordView acc ofs).ofs < 0x1100) ∨ (wordView acc ofs).ofs = 0x10000 := by
  unfold wordView
  dsimp only
  split
  · exact .inl rfl
  · split
    · exact .inr (.inl (by dsimp only; omega))
    · split
      · exact .inl rfl
      · split
        · exact .inr (.inl (by dsimp only; omega))
        · split
          · exact .inr (.inr rfl)
          · exact .inl rfl

/-- Every LL field is single, stands at the offset of a pair, and is in no endpoint's group. -/
theorem allRegs_ll : ∀ r ∈ allRegs, r.acc = .ll → r.n1 ≤ 1 ∧ r.n2 ≤ 1 ∧ (llPairs.any (fun p => p.1 == r.off)) = true ∧
    ¬ (0xD00 ≤ r.off ∧ r.off < 0x1100) ∧ r.off < 0x10000 := by decide +kernel

/-- A single field stands at its offset alone. -/
theorem Reg.off_of_elemAt {r : Reg} {ofs : Nat} (h1 : r.n1 ≤ 1) (h2 : r.n2 ≤ 1) (h : (r.elemAt ofs).isSome = true) :
    ofs = r.off := by
  unfold Reg.elemAt at h
  split at h
  · simp at h
  · dsimp only at h
    split at h
    · omega
    · simp at h

/-- A word that is no LL word has no LL field. -/
theorem wordFields_not_ll {acc ofs : Nat} (h : (llPairs.any (fun p => p.1 == ofs)) = false) :
    ∀ f ∈ wordFields acc ofs, f.1.acc ≠ .ll := by
  intro f hf hll
  obtain ⟨hr, hx⟩ := mem_wordFields hf
  obtain ⟨h1, h2, hp, hgrp, hlt⟩ := allRegs_ll f.1 hr hll
  have hoff := Reg.off_of_elemAt h1 h2 hx
  rcases wordView_ofs acc ofs with hv | hv | hv
  · rw [← hoff, hv, h] at hp
    exact Bool.false_ne_true hp
  · omega
  · omega

/-! ### A read of a word (R425, R432) -/

/-- The fields that a read of a word clears: its RC fields, where the word is not a view of the other endpoint (R305, R432). -/
def clearedFields (acc ofs : Nat) : List (Reg × Nat) :=
  (wordFields acc ofs).filter (fun f => f.1.acc == .rc && !(wordView acc ofs).view)

/-- Field elements take the value 0, in order. -/
def zeroFields (l : List (Reg × Nat)) (d : Dev) : Dev := forL l (fun f d => d.wr f.1 f.2 0) d

@[simp] theorem zeroFields_nil (d : Dev) : zeroFields [] d = d := rfl
@[simp] theorem zeroFields_cons (f : Reg × Nat) (l : List (Reg × Nat)) (d : Dev) :
    zeroFields (f :: l) d = zeroFields l (d.wr f.1 f.2 0) := rfl

@[simp] theorem zeroFields_bs (l : List (Reg × Nat)) (d : Dev) : (zeroFields l d).bs = d.bs := by
  induction l generalizing d with
  | nil => rfl
  | cons f l ih => rw [zeroFields_cons, ih, Dev.wr_bs]

/-- Only the listed elements change. -/
theorem KeepsBut.zeroFields {l m : List (Reg × Nat)} {a b : Dev} (h : KeepsBut m a b) (hm : ∀ x ∈ l, x ∈ m) :
    KeepsBut m a (zeroFields l b) := by
  induction l generalizing b with
  | nil => exact h
  | cons f l ih =>
    exact ih (h.wr f.1 f.2 0 (hm f (List.mem_cons_self ..))) (fun x hx => hm x (List.mem_cons_of_mem _ hx))

/-- An element that reads 0 goes on reading 0. -/
theorem zeroFields_rd_of_zero (l : List (Reg × Nat)) (d : Dev) {r : Reg} {ix : Nat}
    (hr : ∀ f ∈ l, f.1.id = r.id → f.1 = r) (h0 : d.rd r ix = 0) : (zeroFields l d).rd r ix = 0 := by
  induction l generalizing d with
  | nil => exact h0
  | cons f l ih =>
    refine ih _ (fun g hg => hr g (List.mem_cons_of_mem _ hg)) ?_
    by_cases hx : r.id = f.1.id ∧ ix = f.2
    · obtain ⟨hid, rfl⟩ := hx
      show (d.wr f.1 f.2 0).rd r f.2 = 0
      rw [hr f (List.mem_cons_self ..) hid.symm, Dev.rd_wr, Nat.zero_mod]
    · rw [Dev.rd_wr_out d 0 (by tauto), h0]

/-- Every listed element reads 0. -/
theorem zeroFields_rd_mem (l : List (Reg × Nat)) (d : Dev) {r : Reg} {ix : Nat}
    (hr : ∀ f ∈ l, f.1.id = r.id → f.1 = r) (hm : (r, ix) ∈ l) : (zeroFields l d).rd r ix = 0 := by
  induction l generalizing d with
  | nil => simp at hm
  | cons f l ih =>
    have hl : ∀ g ∈ l, g.1.id = r.id → g.1 = r := fun g hg => hr g (List.mem_cons_of_mem _ hg)
    rcases List.mem_cons.mp hm with rfl | hm
    · exact zeroFields_rd_of_zero l _ hl (by simp)
    · exact ih _ hl hm

/-- The word's cleared fields read 0 afterwards. -/
theorem zeroFields_cleared_rd {acc ofs : Nat} (d : Dev) {r : Reg} {ix : Nat} (hm : (r, ix) ∈ clearedFields acc ofs) :
    (zeroFields (clearedFields acc ofs) d).rd r ix = 0 := by
  have hall : ∀ f ∈ clearedFields acc ofs, f.1 ∈ allRegs := fun f hf =>
    (mem_wordFields (List.mem_filter.mp hf).1).1
  exact zeroFields_rd_mem _ _ (fun f hf => allRegs_id_inj (hall f hf) (hall _ hm)) hm

/-- A read of a field other than LL clears an RC field outside a view, and changes nothing else. -/
theorem readField_snd (s : Sys) (acc : Nat) (view : Bool) (r : Reg) (ix : Nat) (h : r.acc ≠ .ll) :
    (readField s acc view r ix).2 = if (r.acc == .rc && !view) = true then s.on (fun d => d.wr r ix 0) else s := by
  unfold readField
  cases hacc : r.acc
  case ll => exact absurd hacc h
  case rc => cases view <;> rfl
  case wo => rfl
  all_goals (dsimp only; split <;> rfl)

/-- A read of an RC field outside a view answers its value and clears it (R16). -/
theorem readField_rc (s : Sys) (acc : Nat) {r : Reg} (ix : Nat) (h : r.acc = .rc) :
    readField s acc false r ix = (s.dev.rd r ix, s.on (fun d => d.wr r ix 0)) := by
  unfold readField; rw [h]; rfl

/-- The fields of a word are read in order, each value at its place. -/
def readFields (acc : Nat) (view : Bool) (l : List (Reg × Nat)) (x : Nat × Sys) : Nat × Sys :=
  l.foldl (fun x f => (x.1 + (readField x.2 acc view f.1 f.2).1 * 2 ^ f.1.lo, (readField x.2 acc view f.1 f.2).2)) x

/-- A word that is no window or hold is read field by field. -/
theorem readWord_fields (s : Sys) (acc : Nat) {ofs : Nat} (h : specialRead ofs = false) :
    readWord s acc ofs = readFields acc (wordView acc ofs).view (wordFields acc ofs) (0, s) := by
  simp only [specialRead, Bool.or_eq_false_iff, Bool.and_eq_false_iff, decide_eq_false_iff_not, beq_eq_false_iff_ne] at h
  obtain ⟨⟨hw, hp⟩, hc⟩ := h
  unfold readWord
  rw [if_neg (by omega), if_neg (by omega), if_neg hc]
  rfl

/-- A read of fields without LL clears the RC fields among them, outside a view, and changes nothing else. -/
theorem readFields_snd (acc : Nat) (view : Bool) (l : List (Reg × Nat)) (h : ∀ f ∈ l, f.1.acc ≠ .ll) (n : Nat) (s : Sys) :
    (readFields acc view l (n, s)).2 = s.on (zeroFields (l.filter (fun f => f.1.acc == .rc && !view))) := by
  induction l generalizing n s with
  | nil => rfl
  | cons f l ih =>
    have hl : ∀ g ∈ l, g.1.acc ≠ .ll := fun g hg => h g (List.mem_cons_of_mem _ hg)
    have hstep := readField_snd s acc view f.1 f.2 (h f (List.mem_cons_self ..))
    show (readFields acc view l (_, (readField s acc view f.1 f.2).2)).2 = _
    rw [ih hl, hstep, List.filter_cons]
    split <;> rfl

/-- A word that is no window, hold or LL word: its read clears its RC fields, and does nothing else. -/
theorem readWord_snd (s : Sys) {acc ofs : Nat} (hs : specialRead ofs = false)
    (hll : (llPairs.any (fun p => p.1 == ofs)) = false) :
    (readWord s acc ofs).2 = s.on (zeroFields (clearedFields acc ofs)) := by
  rw [readWord_fields s acc hs]
  exact readFields_snd _ _ _ (wordFields_not_ll hll) 0 s

/-- A read of a word that is there answers its value, after what the read does. -/
theorem regRead_there (s : Sys) {acc ofs : Nat} (h4 : ofs % 4 = 0) (ht : wordThere s.dev acc ofs = true) :
    regRead s acc ofs = (readWord s acc ofs).2.on (fun d => d.emit (.readData acc ofs (readWord s acc ofs).1)) := by
  unfold regRead
  rw [if_neg (by omega), ht]
  rfl

/-- A read at a wrong alignment, or of a location that is not there, is a bus error of its kind. -/
theorem regRead_busError (s : Sys) {acc ofs : Nat} (h : ofs % 4 ≠ 0 ∨ wordThere s.dev acc ofs = false) :
    regRead s acc ofs = s.on (fun d => busError d acc ofs (if ofs % 4 ≠ 0 then 1 else 2) false 0) := by
  unfold regRead
  by_cases h4 : ofs % 4 ≠ 0
  · rw [if_pos h4, if_pos h4]
  · rw [if_neg h4, if_neg h4, h.resolve_left h4]
    rfl

/-! ### The commands that access registers -/

theorem exec_rcRead (a : Accessor) (ofs : BitVec 16) (s : State) :
    exec (.rcRead a ofs) s = sysRow (latchedS (fun x => regRead x (accIx a) ofs.toNat)) s := rfl

theorem exec_registerReadBusError (a : Accessor) (ofs : BitVec 16) (whole : Bool) (s : State) :
    exec (.registerReadBusError a ofs whole) s = sysRow (latchedS (fun x => accRead x (accIx a) ofs.toNat whole)) s := rfl

theorem exec_registerWrite (a : Accessor) (whole : Bool) (ofs : BitVec 16) (v : Word) (s : State) :
    exec (.registerWrite a whole ofs v) s = sysRow (latched (fun d => accWrite (accIx a) whole ofs.toNat v.toNat d)) s := rfl

/-- Every accessor but the service port raises bus errors (R423). -/
theorem accIx_lt {a : Accessor} (h : a ≠ .sp) : accIx a < 3 := by
  cases a with
  | sp => exact absurd rfl h
  | _ => decide

/-! ### RC_READ and REGISTER_READ_BUS_ERROR -/

/-- RC_READ of a word that is no window, hold or LL word: it clears its RC fields and answers its value. -/
theorem rcRead_completes (s : State) (a : Accessor) (ofs : BitVec 16) (hq : s.sys.dev.quiet) (h4 : ofs.toNat % 4 = 0)
    (ht : wordThere s.sys.dev (accIx a) ofs.toNat = true) (hs : specialRead ofs.toNat = false)
    (hll : (llPairs.any (fun p => p.1 == ofs.toNat)) = false) :
    ∃ t : State, exec (.rcRead a ofs) s = .next t ∧ t.pending = s.pending ∧
      t.sys = s.sys.on (fun d => (zeroFields (clearedFields (accIx a) ofs.toNat) d).emit
        (.readData (accIx a) ofs.toNat (readWord s.sys (accIx a) ofs.toNat).1)) := by
  have hread : regRead s.sys (accIx a) ofs.toNat = s.sys.on (fun d => (zeroFields (clearedFields (accIx a) ofs.toNat) d).emit
      (.readData (accIx a) ofs.toNat (readWord s.sys (accIx a) ofs.toNat).1)) := by
    rw [regRead_there _ h4 ht, readWord_snd _ hs hll, Sys.on_on]
  refine completes_latchedS (Q := (· = _)) _ (exec_rcRead a ofs s) hq.1 ?_ hread
  rw [hread]
  simpa using hq.2

/-- After a read of a word, each of its fields is without RC, is seen in a view, or reads 0. -/
theorem wordFields_after_read (d : Dev) (acc ofs : Nat) : ((wordFields acc ofs).all (fun f => f.1.acc != .rc ||
    (wordView acc ofs).view || (zeroFields (clearedFields acc ofs) d).rd f.1 f.2 == 0)) = true := by
  refine List.all_eq_true.mpr (fun f hf => ?_)
  by_cases hc : (f.1.acc == .rc && !(wordView acc ofs).view) = true
  · have h0 := zeroFields_cleared_rd d (List.mem_filter.mpr ⟨hf, hc⟩)
    simp [h0]
  · have hne : f.1.acc = .rc → (wordView acc ofs).view = true := by simpa using hc
    by_cases hacc : f.1.acc = .rc
    · simp [hne hacc]
    · simp [hacc]

/-- The word of TB_EVT has its four event bits, the same for every accessor. -/
theorem wordFields_TB_EVT (a : Accessor) :
    wordFields (accIx a) 0x844 = [(TB_EVT_OUTLIER, 0), (TB_EVT_MISS, 0), (TB_EVT_HOLDOVER, 0), (TB_EVT_STEP, 0)] ∧
    clearedFields (accIx a) 0x844 = wordFields (accIx a) 0x844 ∧ (wordView (accIx a) 0x844).view = false := by
  cases a <;> decide +kernel

/-- The value of TB_EVT holds its four bits at their places. -/
theorem readWord_TB_EVT (s : Sys) (a : Accessor) : (readWord s (accIx a) 0x844).1 = s.dev.rd TB_EVT_OUTLIER +
    2 * s.dev.rd TB_EVT_MISS + 4 * s.dev.rd TB_EVT_HOLDOVER + 8 * s.dev.rd TB_EVT_STEP := by
  obtain ⟨hf, -, hv⟩ := wordFields_TB_EVT a
  rw [readWord_fields s _ (by decide), hf, hv]
  simp only [readFields, List.foldl_cons, List.foldl_nil, readField_rc _ _ _ (rfl : TB_EVT_OUTLIER.acc = .rc),
    readField_rc _ _ _ (rfl : TB_EVT_MISS.acc = .rc), readField_rc _ _ _ (rfl : TB_EVT_HOLDOVER.acc = .rc),
    readField_rc _ _ _ (rfl : TB_EVT_STEP.acc = .rc), Sys.on_dev]
  rw [Dev.rd_wr_ne _ _ _ _ (by decide), Dev.rd_wr_ne _ _ _ _ (by decide), Dev.rd_wr_ne _ _ _ _ (by decide),
    Dev.rd_wr_ne _ _ _ _ (by decide), Dev.rd_wr_ne _ _ _ _ (by decide), Dev.rd_wr_ne _ _ _ _ (by decide)]
  show 0 + _ * 2 ^ 0 + _ * 2 ^ 1 + _ * 2 ^ 2 + _ * 2 ^ 3 = _
  omega

/-- Bits 0 and 1 of a word of four one-bit fields. -/
theorem bitOf_TB_EVT (d : Dev) (x y : Nat) :
   bitOf (d.rd TB_EVT_OUTLIER + 2 * d.rd TB_EVT_MISS + 4 * x + 8 * y) TB_EVT_OUTLIER.lo = d.fl TB_EVT_OUTLIER ∧
   bitOf (d.rd TB_EVT_OUTLIER + 2 * d.rd TB_EVT_MISS + 4 * x + 8 * y) TB_EVT_MISS.lo = d.fl TB_EVT_MISS := by
  have ho : d.rd TB_EVT_OUTLIER < 2 := d.rd_lt TB_EVT_OUTLIER 0
  have hm : d.rd TB_EVT_MISS < 2 := d.rd_lt TB_EVT_MISS 0
  unfold bitOf Dev.fl
  simp only [show TB_EVT_OUTLIER.lo = 0 from rfl, show TB_EVT_MISS.lo = 1 from rfl]
  generalize d.rd TB_EVT_OUTLIER = o at *
  generalize d.rd TB_EVT_MISS = m at *
  constructor
  · rw [Bool.eq_iff_iff]; simp; omega
  · rw [Bool.eq_iff_iff]; simp; omega

/-- A field of TB_EVT reads 0 after a read of its word. -/
theorem zeroFields_TB_EVT_fl (d : Dev) (a : Accessor) {r : Reg} (h : (r, 0) ∈ wordFields (accIx a) 0x844) :
    (zeroFields (clearedFields (accIx a) 0x844) d).fl r = false := by
  obtain ⟨-, hc, -⟩ := wordFields_TB_EVT a
  simp [Dev.fl, zeroFields_cleared_rd d (hc ▸ h)]

/-- REGISTER_READ_BUS_ERROR is a bus error where its read is one. -/
theorem registerReadBusError_completes (s : State) (a : Accessor) (ofs : BitVec 16) (whole : Bool) (kind : Nat)
    (hq : s.sys.dev.quiet)
    (hb : accRead s.sys (accIx a) ofs.toNat whole = s.sys.on (fun d => busError d (accIx a) ofs.toNat kind false 0)) :
    ∃ t : State, exec (.registerReadBusError a ofs whole) s = .next t ∧ t.pending = s.pending ∧
      t.sys = s.sys.on (fun d => busError d (accIx a) ofs.toNat kind false 0) := by
  refine completes_latchedS (Q := (· = _)) _ (exec_registerReadBusError a ofs whole s) hq.1 ?_ hb
  rw [hb]
  simpa using hq.2

/-- Settles O50: a read answers its word and clears its RC fields alone, and one that the map does not admit is a bus error of
its kind. -/
theorem registerReadsActByAccess : Obligations.RegisterReadsActByAccess := by
  unfold Obligations.RegisterReadsActByAccess
  refine ⟨?rc, ?evt, ?width, ?location⟩
  case rc =>
    intro s a ofs hq h4 ht hs hll
    obtain ⟨t, he, hp, hsys⟩ := rcRead_completes s a ofs hq h4 ht hs hll
    refine ⟨t, he, hp, ?_⟩
    rw [hsys]
    exact ⟨List.getLast?_concat, wordFields_after_read s.sys.dev _ _,
      ((KeepsBut.refl _ _).zeroFields (fun _ hx => hx)).emit _, rfl, rfl⟩
  case evt =>
    intro s a hq ht
    obtain ⟨hf, -, -⟩ := wordFields_TB_EVT a
    obtain ⟨ho, hm⟩ := bitOf_TB_EVT s.sys.dev (s.sys.dev.rd TB_EVT_HOLDOVER) (s.sys.dev.rd TB_EVT_STEP)
    obtain ⟨t, he, hp, hsys⟩ := rcRead_completes s a 0x0844 hq (by decide) ht (by decide) (by decide)
    rw [show (0x0844 : BitVec 16).toNat = 0x844 from rfl] at hsys
    refine ⟨t, he, hp, ?_⟩
    rw [hsys, Sys.on_dev, Dev.emit_fl, Dev.emit_fl, Dev.emit_fl, readWord_TB_EVT]
    have hclr : ∀ r, (r, 0) ∈ wordFields (accIx a) 0x844 → (zeroFields (clearedFields (accIx a) 0x844) s.sys.dev).fl r = false :=
      fun r => zeroFields_TB_EVT_fl s.sys.dev a
    rw [hf] at hclr
    exact ⟨hclr _ (.tail _ (.head _)), hclr _ (.head _), hclr _ (.tail _ (.tail _ (.head _))), hm, ho, List.getLast?_concat⟩
  case width =>
    intro s a ofs hq ha
    have hi := accIx_lt ha
    obtain ⟨t, he, hp, hsys⟩ := registerReadBusError_completes s a ofs false 1 hq rfl
    refine ⟨t, he, hp, ?_⟩
    rw [hsys]
    exact ⟨busError_kind hi .., (busError_ofs hi ..).trans (Nat.mod_eq_of_lt ofs.isLt), busError_kindBit hi _ _ 1 _ _,
      busError_dirBit hi _ _ _ false _, busError_cnt hi .., (KeepsBut.refl _ _).busError _ _ _ _ _ (fun _ hx => hx)⟩
  case location =>
    intro s a ofs hq ha hbad
    have hi := accIx_lt ha
    obtain ⟨t, he, hp, hsys⟩ := registerReadBusError_completes s a ofs true _ hq (regRead_busError _ hbad)
    refine ⟨t, he, hp, ?_⟩
    rw [hsys]
    refine ⟨(busError_kind hi ..).trans ?_, (busError_ofs hi ..).trans (Nat.mod_eq_of_lt ofs.isLt),
      busError_dirBit hi _ _ _ false _, (KeepsBut.refl _ _).busError _ _ _ _ _ (fun _ hx => hx), rfl⟩
    split <;> rfl

/-! ### A write of a word (R17, R421, R424) -/

/-- A staged value leaves the register file. -/
@[simp] theorem stage_regs (d : Dev) (batch : Nat) (r : Reg) (ix v : Nat) : (stage d batch r ix v).regs = d.regs := by
  unfold stage refHost; dsimp only; (repeat' split) <;> rfl

/-- A staged value leaves the shelf's state. -/
@[simp] theorem stage_bs (d : Dev) (batch : Nat) (r : Reg) (ix v : Nat) : (stage d batch r ix v).bs = d.bs := by
  unfold stage refHost; dsimp only; (repeat' split) <;> rfl

/-- A written field leaves the shelf's state. -/
@[simp] theorem writeField_bs (acc v : Nat) (f : Reg × Nat) (d : Dev) : (writeField acc v f d).bs = d.bs := by
  unfold writeField; dsimp only; (repeat' split) <;> simp

/-- A field whose Apply is now takes its value (R17). -/
theorem writeField_now (acc v : Nat) {f : Reg × Nat} (d : Dev) (h : f.1.acc = .rw) (ha : f.1.app = .now) :
    writeField acc v f d = d.wr f.1 f.2 (bitsOf v f.1.lo f.1.w) := by
  unfold writeField; simp [h, ha]

/-- Any other field waits for its boundary: the register file stands (R17). -/
theorem writeField_regs (acc v : Nat) {f : Reg × Nat} (d : Dev) (ha : f.1.app ≠ .now) :
    (writeField acc v f d).regs = d.regs := by
  unfold writeField; dsimp only; (repeat' split) <;> simp_all

/-- A word without WO bits, outside a view, is written field by field. -/
theorem writeWord_fields {acc ofs : Nat} (v : Nat) (d : Dev) (hv : (wordView acc ofs).view = false)
    (ht : twbOnly ofs = false) (hw : woMask (wordFields acc ofs) = 0) :
    writeWord acc ofs v d = forL (wordFields acc ofs) (writeField acc v) d := by
  unfold writeWord
  simp [hv, ht, hw]

/-- The word of FU[0].WSEL as PB sees it: WSEL is the element of PB, the other fields are those of the fuse (R421). -/
theorem wordFields_FU_WSEL_pb : wordFields 1 0x900C = [(FU_WSEL, 64), (FU_TMAX, 0), (FU_CSCALE, 0)] := by decide +kernel

/-- A write of the word by PB writes field by field. -/
theorem writeWord_FU_WSEL_pb (v : Nat) (d : Dev) : writeWord 1 0x900C v d =
    writeField 1 v (FU_CSCALE, 0) (writeField 1 v (FU_TMAX, 0) (writeField 1 v (FU_WSEL, 64) d)) := by
  rw [writeWord_fields v d (by decide) (by decide) (by rw [wordFields_FU_WSEL_pb]; decide), wordFields_FU_WSEL_pb]
  rfl

/-- Each accessor has its own WSEL (R421): a write by PB sets PB's and leaves PA's. -/
theorem writeWord_wsel_pb (v : Nat) (d : Dev) : (writeWord 1 0x900C v d).rd FU_WSEL 64 = v % 16 ∧
    (writeWord 1 0x900C v d).rd FU_WSEL 0 = d.rd FU_WSEL 0 := by
  have hregs : (writeWord 1 0x900C v d).regs = (d.wr FU_WSEL 64 (bitsOf v 0 4)).regs := by
    rw [writeWord_FU_WSEL_pb, writeField_regs _ _ _ (by decide), writeField_regs _ _ _ (by decide),
      writeField_now _ _ _ rfl rfl]
    rfl
  constructor
  · rw [Dev.rd_congr _ _ hregs, Dev.rd_wr]
    show v / 2 ^ 0 % 2 ^ 4 % 2 ^ 4 = v % 16
    omega
  · rw [Dev.rd_congr _ _ hregs, Dev.rd_wr_ix _ _ _ (by decide)]

/-- REGISTER_WRITE of the word of FU[0].WSEL by PB: PB's selection takes the value, and PA's stands. -/
theorem registerWrite_wsel_pb (s : State) (v : Word) (hq : s.sys.dev.quiet) (hk : writeKind s.sys.dev 1 0x900C v.toNat = 0) :
    ∃ t : State, exec (.registerWrite .pb true 0x900C v) s = .next t ∧ t.pending = s.pending ∧
      t.sys.dev.rd FU_WSEL 64 = v.toNat % 16 ∧ t.sys.dev.rd FU_WSEL 0 = s.sys.dev.rd FU_WSEL 0 := by
  have hw : accWrite 1 true 0x900C v.toNat s.sys.dev = writeWord 1 0x900C v.toNat s.sys.dev := by
    simp [accWrite, regWrite, hk]
  have hshed : (writeWord 1 0x900C v.toNat s.sys.dev).bs.shedReq = 0 := by
    rw [writeWord_FU_WSEL_pb]
    simpa using hq.2
  obtain ⟨t, he, hp, hsys⟩ := completes_latched (Q := (· = _)) _ (exec_registerWrite .pb true 0x900C v s) hq.1
    ((congrArg (·.bs.shedReq) hw).trans hshed) rfl
  refine ⟨t, he, hp, ?_⟩
  rw [hsys]
  show (accWrite 1 true 0x900C v.toNat s.sys.dev).rd FU_WSEL 64 = _ ∧ (accWrite 1 true 0x900C v.toNat s.sys.dev).rd FU_WSEL 0 = _
  rw [hw]
  exact writeWord_wsel_pb ..

/-- Refutes O49: its clause on FU[f].WSEL reads element f, which is PA's selection, after a write by any accessor; every accessor
has its own (R225, R421), and a write of 1 by PB after reset leaves PA's at 0. -/
theorem not_registerWritesActByAccess : ¬ Obligations.RegisterWritesActByAccess := by
  unfold Obligations.RegisterWritesActByAccess
  rintro ⟨-, -, -, -, hnow, -⟩
  have hq : State.reset.sys.dev.quiet := by decide
  have hk : writeKind State.reset.sys.dev 1 0x900C 1 = 0 := by decide +kernel
  obtain ⟨t, ht, -, hsel, -⟩ := hnow State.reset .pb 0 1 hq (by decide) hk
  obtain ⟨u, hu, -, -, hpa⟩ := registerWrite_wsel_pb State.reset 1 hq hk
  have htu : t = u := Host.Outcome.next.inj (ht.symm.trans hu)
  have h0 : State.reset.sys.dev.rd FU_WSEL 0 = 0 := by decide
  rw [htu] at hsel
  exact absurd (hsel.symm.trans (hpa.trans h0)) (by decide)

end Sys2Proof.Machine
end

section
/-! PROOFS about every command: what a step is and that every command completes (R28). -/

namespace Sys2Proof.Machine
open R

/-! ### What a step is (R28) -/

/-- Settles O52, by the two cases of the queue. -/
theorem stepRunsTheFrontCommand : Obligations.StepRunsTheFrontCommand := by
  unfold Obligations.StepRunsTheFrontCommand
  refine ⟨fun _ _ _ => rfl, fun s hs => ?_⟩
  unfold step
  rw [hs]

/-- Every row of the command table answers a next state and leaves the queue. -/
theorem exec_next (c : Instr) (s : State) : ∃ x : Sys, exec c s = .next { s with sys := x } := by
  cases c <;> exact ⟨_, rfl⟩

/-- Settles O53: each arm is a row that acts on the machine alone. -/
theorem everyCommandCompletes : Obligations.EveryCommandCompletes := by
  unfold Obligations.EveryCommandCompletes
  intro c s
  obtain ⟨x, hx⟩ := exec_next c s
  exact ⟨_, hx, rfl⟩

end Sys2Proof.Machine
end

section
/-! PROOFS about the memories: which commands leave the pigeonhole window (R301) and the store (R340). -/

namespace Sys2Proof.Machine
open R

/-! ### Operations that leave both memories

`mems` are the pigeonhole window and the store of a machine. -/

/-- The two memories of a machine. -/
def Sys.mems (s : Sys) : Mem × Mem := (s.ph, s.nv)

@[simp] theorem Sys.on_mems (s : Sys) (f : Dev → Dev) : (s.on f).mems = s.mems := rfl
@[simp] theorem Sys.mems_with_dev (s : Sys) (d : Dev) : ({ s with dev := d } : Sys).mems = s.mems := rfl

/-- A walk keeps what every step of it keeps. -/
theorem foldl_keeps {α β γ : Type} (p : α → γ) (f : α → β → α) (hf : ∀ a b, p (f a b) = p a) (l : List β) (a : α) :
    p (l.foldl f a) = p a := by
  induction l generalizing a with
  | nil => rfl
  | cons b l ih => exact (ih _).trans (hf a b)

@[simp] theorem readRec_mems (s : Sys) (a : Nat) : (readRec s a).2.mems = s.mems := by
  unfold readRec; dsimp only; split <;> rfl

@[simp] theorem readRecs_mems (s : Sys) (l : List Nat) : (readRecs s l).2.mems = s.mems :=
  foldl_keeps (fun x : List Nat × Sys => x.2.mems) (fun x a => (x.1 ++ (readRec x.2 a).1, (readRec x.2 a).2))
    (fun x a => readRec_mems x.2 a) l ([], s)

@[simp] theorem readRwin_mems (s : Sys) (acc w : Nat) : (readRwin s acc w).2.mems = s.mems := by
  unfold readRwin; split <;> simp

@[simp] theorem readField_mems (s : Sys) (acc : Nat) (view : Bool) (r : Reg) (ix : Nat) :
    (readField s acc view r ix).2.mems = s.mems := by
  unfold readField; (repeat' split) <;> rfl

@[simp] theorem readFields_mems (acc : Nat) (view : Bool) (l : List (Reg × Nat)) (x : Nat × Sys) :
    (readFields acc view l x).2.mems = x.2.mems :=
  foldl_keeps (fun x : Nat × Sys => x.2.mems) (fun x (f : Reg × Nat) => (x.1 + (readField x.2 acc view f.1 f.2).1 * 2 ^ f.1.lo,
    (readField x.2 acc view f.1 f.2).2)) (fun x f => readField_mems x.2 acc view f.1 f.2) l x

@[simp] theorem readWord_mems (s : Sys) (acc ofs : Nat) : (readWord s acc ofs).2.mems = s.mems := by
  cases hs : specialRead ofs with
  | false => rw [readWord_fields s acc hs, readFields_mems]
  | true => unfold readWord; (repeat' split) <;> simp_all [specialRead]

@[simp] theorem readWords_mems (s : Sys) (acc ofs n : Nat) : (readWords s acc ofs n).2.mems = s.mems :=
  foldl_keeps (fun x : List Nat × Sys => x.2.mems) _ (fun x k => readWord_mems x.2 acc (ofs + 4 * k)) (List.range n) ([], s)

@[simp] theorem regRead_mems (s : Sys) (acc ofs : Nat) : (regRead s acc ofs).mems = s.mems := by
  by_cases h : ofs % 4 = 0 ∧ wordThere s.dev acc ofs = true
  · rw [regRead_there s h.1 h.2, Sys.on_mems, readWord_mems]
  · rw [regRead_busError s (by simpa [imp_iff_not_or] using h), Sys.on_mems]

@[simp] theorem accRead_mems (s : Sys) (acc ofs : Nat) (whole : Bool) : (accRead s acc ofs whole).mems = s.mems := by
  unfold accRead; split <;> simp

@[simp] theorem twbWordRead_mems (s : Sys) : (twbWordRead s).mems = s.mems := by
  unfold twbWordRead
  split
  · exact Sys.on_mems ..
  · split
    · rfl
    · extract_lets x ofs
      have hx : x.mems = s.mems := Sys.on_mems ..
      split
      · split
        next heq => rw [Sys.on_mems, ← hx, ← readWord_mems x 2 ofs, heq]
      · exact (Sys.on_mems ..).trans hx

@[simp] theorem tokCheck_mems (s : Sys) : (tokCheck s).mems = s.mems := by
  unfold tokCheck; split <;> simp only [↓Sys.on_mems]

@[simp] theorem usbAuth_mems (s : Sys) (t : List Nat) : (usbAuth s t).mems = s.mems := by
  unfold usbAuth; split <;> simp only [↓Sys.on_mems]

@[simp] theorem commitChecks_mems (s : Sys) : (commitChecks s).mems = s.mems := by
  unfold commitChecks; (repeat' split) <;> simp only [↓Sys.on_mems]

@[simp] theorem relayResume_mems (s : Sys) (r : Nat) : (relayResume s r).mems = s.mems := by
  unfold relayResume; split <;> simp only [↓Sys.on_mems]

@[simp] theorem clearApply_mems (s : Sys) (c : ClearOp) : (clearApply s c).mems = s.mems := rfl

@[simp] theorem clearTick_mems (s : Sys) : (clearTick s).mems = s.mems := by
  unfold clearTick; (repeat' split) <;> simp only [↓clearApply_mems]

@[simp] theorem relayService_mems (s : Sys) (r : Nat) : (relayService s r).mems = s.mems := by
  refine (foldl_keeps Sys.mems _ (fun s c => Sys.on_mems s _) _ _).trans ?_
  (repeat' split) <;> simp only [↓Sys.on_mems]

@[simp] theorem frameIn_mems (s : Sys) (r : Nat) (f : UpFrame) : (frameIn s r f).mems = s.mems := by
  unfold frameIn; split <;> simp only [↓relayService_mems, ↓Sys.on_mems]

@[simp] theorem upstream_mems (s : Sys) (r : Nat) (f : UpFrame) : (upstream s r f).mems = s.mems := by
  unfold upstream; split <;> simp only [↓frameIn_mems, ↓Sys.on_mems]

@[simp] theorem chanAnswer_mems (s : Sys) (c : Nat) (d : Dev) : (chanAnswer s c d).mems = s.mems := relayService_mems ..

@[simp] theorem showVersions_mems (s : Sys) : (showVersions s).mems = s.mems := by
  unfold showVersions; simp only [↓Sys.on_mems]

@[simp] theorem updVerified_mems (s : Sys) : (updVerified s).mems = s.mems := by
  unfold updVerified; split <;> simp only [↓showVersions_mems, ↓Sys.on_mems]

@[simp] theorem relayNext_mems (s : Sys) (r : Nat) : (relayNext s r).mems = s.mems := by
  unfold relayNext; dsimp only; split <;> simp only [↓Sys.on_mems]

@[simp] theorem relayStart_mems (s : Sys) (r : Nat) : (relayStart s r).mems = s.mems := by
  unfold relayStart; simp only [↓relayNext_mems, ↓Sys.on_mems]

@[simp] theorem updStages_mems (s : Sys) (r : Nat) : (updStages s r).2.mems = s.mems := by
  unfold updStages
  dsimp only
  (repeat' split) <;> simp only [↓relayStart_mems, ↓foldl_keeps Sys.mems relayStart relayStart_mems]

@[simp] theorem mrForced_mems (s : Sys) : (mrForced s).mems = s.mems := by
  unfold mrForced latched; (repeat' split) <;> simp only [↓Sys.on_mems]

/-! ### Starts (R354, R412) -/

@[simp] theorem bootSlot_mems (s : Sys) (k st how : Nat) : (bootSlot s k st how).mems = s.mems := by
  unfold bootSlot; simp only [↓showVersions_mems, ↓Sys.on_mems]

@[simp] theorem bootGood_mems (s : Sys) : (bootGood s).mems = s.mems := by
  unfold bootGood
  split
  · rw [Sys.on_mems]
  · split
    · rw [Sys.on_mems, bootSlot_mems]
    · rw [Sys.on_mems, Sys.on_mems]

@[simp] theorem bootTrial_mems (s : Sys) : (bootTrial s).mems = s.mems := by
  unfold bootTrial; (repeat' split) <;> simp only [↓Sys.on_mems, ↓bootSlot_mems, ↓bootGood_mems]

@[simp] theorem loaderBoot_mems (s : Sys) (b : Bool) : (loaderBoot s b).mems = s.mems := by
  unfold loaderBoot; (repeat' split) <;> simp only [↓Sys.on_mems, ↓bootSlot_mems, ↓bootTrial_mems]

@[simp] theorem loadConfig_mems (s : Sys) : (loadConfig s).mems = s.mems := by
  unfold loadConfig; dsimp only; (repeat' split) <;> simp only [↓Sys.on_mems]

@[simp] theorem startConfig_mems (s : Sys) : (startConfig s).mems = s.mems := by
  unfold startConfig; simp only [↓loadConfig_mems, ↓Sys.on_mems]

@[simp] theorem promotion_mems (s : Sys) (good : Nat) : (promotion s good).mems = s.mems := by
  unfold promotion; dsimp only; (repeat' split) <;> simp only [↓startConfig_mems, ↓Sys.on_mems]

end Sys2Proof.Machine
end

section
/-! PROOFS about the memories, second part: the operations that write the store leave the pigeonhole window, and those that write
hole memory leave the store. -/

namespace Sys2Proof.Machine
open R

/-- An operation that leaves both memories leaves the pigeonhole window. -/
theorem Sys.ph_of_mems {s t : Sys} (h : t.mems = s.mems) : t.ph = s.ph := congrArg Prod.fst h
/-- An operation that leaves both memories leaves the store. -/
theorem Sys.nv_of_mems {s t : Sys} (h : t.mems = s.mems) : t.nv = s.nv := congrArg Prod.snd h

@[simp] theorem Sys.mk_ph (d : Dev) (nv ph : Mem) : (Sys.mk d nv ph).ph = ph := rfl
@[simp] theorem Sys.mk_nv (d : Dev) (nv ph : Mem) : (Sys.mk d nv ph).nv = nv := rfl

/-! ### The recorder and the store (R325 to R343) -/

@[simp] theorem storeCase_ph (s : Sys) (k : StoreCase) : (storeCase s k).2.ph = s.ph := by
  unfold storeCase; split <;> rfl

@[simp] theorem captureRec_ph (s : Sys) (b : List Nat) : (captureRec s b).ph = s.ph := by
  unfold captureRec; split <;> rfl

@[simp] theorem regOpen_ph (s : Sys) (i rnum code : Nat) : (regOpen s i rnum code).ph = s.ph := by
  unfold regOpen; simp only [↓Sys.mk_ph]

@[simp] theorem putRecord_ph (s : Sys) (pm code cls src sev rep : Nat) (sat : Bool) (pay : List Nat) :
    (putRecord s pm code cls src sev rep sat pay).ph = s.ph := by
  unfold putRecord
  simp only [↓Sys.mk_ph, ↓captureRec_ph]
  split
  · simp only [↓regOpen_ph]
  · split
    · split <;> simp only [↓Sys.on_ph]
    · rfl

@[simp] theorem clearWrite_ph (s : Sys) (pay : List Nat) : (clearWrite s pay).ph = s.ph := by
  unfold clearWrite
  dsimp only
  split <;> simp only [↓Sys.mk_ph, ↓putRecord_ph, ↓Sys.on_ph]

@[simp] theorem wrapWrite_ph (s : Sys) : (wrapWrite s).ph = s.ph := by
  unfold wrapWrite; simp only [↓putRecord_ph, ↓Sys.on_ph]

@[simp] theorem clearTick_ph (s : Sys) : (clearTick s).ph = s.ph := Sys.ph_of_mems (clearTick_mems s)

@[simp] theorem writeEnt_ph (s : Sys) (e : Ent) : (writeEnt s e).ph = s.ph := by
  unfold writeEnt
  extract_lets
  rw [clearTick_ph, putRecord_ph]

@[simp] theorem closeRewrite_ph (s : Sys) (w : Rewrite) : (closeRewrite s w).ph = s.ph := by
  -- the definition is replaced as a function: applied, its unfolding would have the kernel evaluate the roll's positions
  rw [show closeRewrite = _ by delta closeRewrite; rfl]
  generalize rollSlot s.dev w.rnum = k, regdPositions s w.rnum w.epoch = ps
  cases k
  · cases ps <;> rfl
  · rfl

@[simp] theorem recordWrite_ph (s : Sys) (k : StoreCase) : (recordWrite s k).ph = s.ph := by
  unfold recordWrite
  split
  · rfl
  · split
    next bad x hk =>
    have hx : x.ph = s.ph := (congrArg (·.2.ph) hk).symm.trans (storeCase_ph s k)
    extract_lets old y z
    have hy : y.ph = x.ph := by
      simp only [y]
      split
      · split <;> simp only [↓wrapWrite_ph, ↓clearWrite_ph]
      · rw [closeRewrite_ph, Sys.on_ph]
      · split
        · rw [wrapWrite_ph]
        · split
          · rw [writeEnt_ph, Sys.on_ph]
          · rfl
    have hz : z.ph = y.ph := by simp only [z]; split <;> rfl
    rw [Sys.mk_ph, hz, hy, hx]

@[simp] theorem overwriteDone_ph (s : Sys) : (overwriteDone s).ph = s.ph := by
  unfold overwriteDone; split <;> rfl

@[simp] theorem refreshBlock_ph (s : Sys) (k : StoreCase) : (refreshBlock s k).ph = s.ph := by
  unfold refreshBlock; split <;> simp only [↓Sys.on_ph, ↓storeCase_ph]

@[simp] theorem keyWrite_ph (s : Sys) (k : Nat) (key : List Nat) : (keyWrite s k key).ph = s.ph := by
  unfold keyWrite; dsimp only; (repeat' split) <;> rfl

@[simp] theorem pieceWrite_ph (s : Sys) (n : Nat) (data : List Nat) : (pieceWrite s n data).ph = s.ph := rfl

/-! ### Starts, sleep and wake (R55, R412 to R417) -/

@[simp] theorem ckWrite_ph (s : Sys) : (ckWrite s).ph = s.ph := rfl

@[simp] theorem drainQueue_ph (s : Sys) : (drainQueue s).ph = s.ph := by
  unfold drainQueue forL
  exact foldl_keeps Sys.ph _ (fun s e => writeEnt_ph s e) _ _

@[simp] theorem wakeTick0_ph (s : Sys) (aclk : Nat) : (wakeTick0 s aclk).ph = s.ph := by
  unfold wakeTick0; simp only [↓ckWrite_ph, ↓Sys.on_ph]

@[simp] theorem wakeEvent_ph (s : Sys) (src : Nat) (g : Bool) (aclk : Nat) : (wakeEvent s src g aclk).ph = s.ph := by
  unfold wakeEvent; dsimp only; (repeat' split) <;> simp only [↓wakeTick0_ph, ↓Sys.on_ph]

@[simp] theorem mainSuppliesGood_ph (s : Sys) (aclk : Nat) : (mainSuppliesGood s aclk).ph = s.ph := by
  unfold mainSuppliesGood; dsimp only; split <;> simp only [↓wakeTick0_ph, ↓Sys.on_ph]

@[simp] theorem sleepPowerDown_ph (s : Sys) (g : Bool) (aclk : Nat) : (sleepPowerDown s g aclk).ph = s.ph := by
  unfold sleepPowerDown
  split
  · rfl
  · extract_lets x y z
    have hz : z.ph = s.ph := by rw [Sys.on_ph, drainQueue_ph, Sys.on_ph, ckWrite_ph]
    split
    · rw [wakeTick0_ph, hz]
    · exact hz

@[simp] theorem twbAddress_ph (s : Sys) (addr : Nat) (read : Bool) (part : Nat) (g : Bool) (aclk : Nat) :
    (twbAddress s addr read part g aclk).ph = s.ph := by
  unfold twbAddress
  dsimp only
  (repeat' split) <;> simp only [↓wakeEvent_ph, ↓Sys.on_ph]

@[simp] theorem releaseStart_ph (s : Sys) (aclk : Nat) (f : Dev → Dev) : (releaseStart s aclk f).ph = s.ph := by
  unfold releaseStart; simp only [↓Sys.on_ph, ↓ckWrite_ph]

@[simp] theorem loaderBoot_ph (s : Sys) (b : Bool) : (loaderBoot s b).ph = s.ph := Sys.ph_of_mems (loaderBoot_mems s b)
@[simp] theorem startConfig_ph (s : Sys) : (startConfig s).ph = s.ph := Sys.ph_of_mems (startConfig_mems s)
@[simp] theorem bootGood_ph (s : Sys) : (bootGood s).ph = s.ph := Sys.ph_of_mems (bootGood_mems s)

@[simp] theorem startUp_ph (s : Sys) (b : Bool) (good aclk : Nat) : (startUp s b good aclk).ph = s.ph := by
  unfold startUp; dsimp only
  (repeat' split) <;> simp only [↓startConfig_ph, ↓Sys.on_ph, ↓loaderBoot_ph, ↓releaseStart_ph]

@[simp] theorem serviceBoot_ph (s : Sys) (b : Bool) (aclk : Nat) : (serviceBoot s b aclk).ph = s.ph := by
  unfold serviceBoot; dsimp only
  (repeat' split) <;> simp only [↓Sys.on_ph, ↓bootGood_ph, ↓releaseStart_ph]

/-! ### Hole memory (R301) -/

@[simp] theorem phWrite_nv (s : Sys) (e ofs : Nat) (data : List Nat) : (phWrite s e ofs data).nv = s.nv := by
  unfold phWrite; dsimp only; split <;> rfl

@[simp] theorem phCopyDone_nv (s : Sys) (n : Nat) (ok : Bool) (data : List Nat) : (phCopyDone s n ok data).nv = s.nv := by
  unfold phCopyDone
  split
  · rfl
  · dsimp only
    split <;> simp only [↓Sys.on_nv]

end Sys2Proof.Machine
end

section
/-! PROOFS about the memories, third part: each shape of a command row leaves what its effect leaves, and with that the frame of
memory. -/

namespace Sys2Proof.Machine
open R

/-! ### The shapes of the rows

A row leaves `p` of the machine as it was when the step began, or as the work of the tick before the command left it. -/

/-- A part of the machine that no change of the device alone changes. -/
def OffDev {α : Type} (p : Sys → α) : Prop := ∀ (s : Sys) (f : Dev → Dev), p (s.on f) = p s

theorem Sys.mems_offDev : OffDev Sys.mems := Sys.on_mems
theorem Sys.ph_offDev : OffDev Sys.ph := Sys.on_ph
theorem Sys.nv_offDev : OffDev Sys.nv := Sys.on_nv

/-- `p` of `x` is that of `s`, or of `s` with the work of its tick done up to the commands or up to the timers. -/
def Leaves {α : Type} (p : Sys → α) (s x : Sys) : Prop := ∃ b ∈ [s, toDispatch s, toTimers s], p x = p b

section
variable {α : Type} {p : Sys → α} {s x : Sys}

theorem Leaves.start (h : p x = p s) : Leaves p s x := ⟨s, by simp, h⟩
theorem Leaves.commands (h : p x = p (toDispatch s)) : Leaves p s x := ⟨toDispatch s, by simp, h⟩
theorem Leaves.timers (h : p x = p (toTimers s)) : Leaves p s x := ⟨toTimers s, by simp, h⟩

/-- What both branches leave, the choice leaves. -/
theorem ite_keeps {c : Prop} [Decidable c] {y : Sys} (hx : p x = p s) (hy : p y = p s) : p (if c then x else y) = p s := by
  split
  · exact hx
  · exact hy

theorem latched_keeps (hp : OffDev p) (f : Dev → Dev) (s : Sys) : p (latched f s) = p s := by
  unfold latched; split
  · exact hp s _
  · rfl

theorem takes_keeps (hp : OffDev p) (has : Dev → Bool) (f : Dev → Dev) (s : Sys) : p (takes has f s) = p s :=
  latched_keeps hp _ s

theorem latchedS_keeps (hp : OffDev p) {f : Sys → Sys} (hf : ∀ s, p (f s) = p s) (s : Sys) : p (latchedS f s) = p s := by
  unfold latchedS; split
  · exact (hp _ _).trans (hf s)
  · rfl

theorem takesS_keeps (hp : OffDev p) (has : Dev → Bool) {f : Sys → Sys} (hf : ∀ s, p (f s) = p s) (s : Sys) :
    p (takesS has f s) = p s := by
  unfold takesS
  refine latchedS_keeps hp (fun s => ?_) s
  split
  · exact hf s
  · rfl

theorem judged_leaves (hp : OffDev p) (due : Dev → Bool) (f : Dev → Dev) (s : Sys) : Leaves p s (judged due f s) := by
  unfold judged; split
  · exact .start rfl
  · exact .commands (takes_keeps hp due f _)

theorem timed_leaves (hp : OffDev p) (due : Dev → Bool) (f : Dev → Dev) (s : Sys) : Leaves p s (timed due f s) := by
  unfold timed; split
  · exact .start rfl
  · exact .timers (takes_keeps hp due f _)

theorem timedS_leaves (hp : OffDev p) (due : Dev → Bool) {f : Sys → Sys} (hf : ∀ s, p (f s) = p s) (s : Sys) :
    Leaves p s (timedS due f s) := by
  unfold timedS; split
  · exact .start rfl
  · exact .timers (takesS_keeps hp due hf _)

theorem handed_leaves (hp : OffDev p) (x : Dev → DispItem) {f : Sys → Sys} (hf : ∀ s, p (f s) = p s) (s : Sys) :
    Leaves p s (handed x f s) := by
  unfold handed
  split
  · exact .start rfl
  · split
    · exact .start (hp s _)
    · dsimp only
      split
      · exact .commands ((hp _ _).trans ((hf _).trans (hp _ _)))
      · exact .commands (hp _ _)

theorem wordCmd_leaves (hp : OffDev p) (a : Accessor) (ofs v : Nat) (f : Dev → Dev) (s : Sys) :
    Leaves p s (wordCmd a ofs v f s) := by
  unfold wordCmd
  split
  · exact .start rfl
  · dsimp only
    split
    · exact handed_leaves hp _ (fun s => hp s f) s
    · exact .start (latched_keeps hp _ s)

end

/-! ### Host commands -/

/-- The machine that an execution leaves. -/
def HRes.sys : HRes → Sys
  | .fin _ _ s => s
  | .wait s => s

@[simp] theorem HRes.fin_sys (st r : Nat) (s : Sys) : (HRes.fin st r s).sys = s := rfl
@[simp] theorem HRes.wait_sys (s : Sys) : (HRes.wait s).sys = s := rfl

/-- What both answers leave, the choice of an answer leaves. -/
theorem HRes.ite_keeps {α : Type} {p : Sys → α} {c : Prop} [Decidable c] {x y : HRes} {s : Sys} (hx : p x.sys = p s)
    (hy : p y.sys = p s) : p (if c then x else y : HRes).sys = p s := by
  split
  · exact hx
  · exact hy

/-- The execution of a host command leaves `p`. -/
def HCmd.Keeps {α : Type} (p : Sys → α) (h : HCmd) : Prop := ∀ s, p (h.act s).sys = p s

section
variable {α : Type} {p : Sys → α}

/-- The checks and the completion of a host command change the device alone. -/
theorem hostRun_keeps (hp : OffDev p) {h : HCmd} (hk : h.Keeps p) (s : Sys) (b : List Nat) (cs : List HCtx) :
    p (hostRun s b cs h) = p s := by
  have hrun : ∀ x : Sys, p x = p s → p (match h.act x with
      | .fin st r y => y.on (fun d => completeAll (holeDone d h.hole st) cs st r)
      | .wait y => y) = p s := fun x hx => by
    have hy := (hk x).trans hx
    split
    next heq => rw [heq] at hy; exact (hp _ _).trans hy
    next heq => rw [heq] at hy; exact hy
  have hhole : p (match h.hole with
      | some (n, k) => if n < 64 && k ≠ 2 then s.on (fun d => phGo d n 2) else s
      | none => s) = p s := by
    split
    · split
      · exact hp s _
      · rfl
    · rfl
  unfold hostRun
  extract_lets d e fail halted gated x
  exact ite_keeps (hp s _) (ite_keeps (hp s _) (ite_keeps (hp s _) (ite_keeps (hp s _) (ite_keeps (hp s _)
    (ite_keeps ((hp x _).trans hhole) (hrun x hhole))))))

theorem hostDirect_keeps (hp : OffDev p) (op : Nat) (h : Sender) (args : List (Nat × List Nat))
    {mk : Sys → List Nat → List HCtx → HCmd} (hk : ∀ s b cs, (mk s b cs).Keeps p) (s : Sys) :
    p (hostDirect s op h args mk) = p s :=
  hostRun_keeps hp (hk s _ _) s _ _

theorem hostCmd_leaves (hp : OffDev p) (op : Nat) (h : Sender) (args : List (Nat × List Nat))
    {mk : Sys → List Nat → List HCtx → HCmd} (hk : ∀ s b cs, (mk s b cs).Keeps p) (s : Sys) :
    Leaves p s (hostCmd op h args mk s) :=
  handed_leaves hp _ (fun s => hostDirect_keeps hp op h args hk s) s

section
variable (hp : OffDev p) {used : List (Nat × Nat)} {argOk target : Bool} {hole : Option (Nat × Nat)} {level : Nat} {mgmt : Bool}
include hp

/-- A host command that only changes the device. -/
theorem HCmd.Keeps.okDev {f : Dev → Dev} : (HCmd.mk used argOk target hole level mgmt (okDev f)).Keeps p := fun s => hp s f

/-- A host command that only changes the device, and may be refused. -/
theorem HCmd.Keeps.tryDev {f : Dev → Bool × Dev} : (HCmd.mk used argOk target hole level mgmt (tryDev f)).Keeps p :=
  fun s => hp s (fun d => (f d).2)

end

theorem hcPhCopy_keeps (hp : OffDev p) (s : Sys) (b : List Nat) (cs : List HCtx) : (hcPhCopy s b cs).Keeps p := fun s => by
  unfold hcPhCopy; dsimp only; rw [HRes.wait_sys, hp]

theorem hcCfgCommit_keeps (hp : OffDev p) (s : Sys) (b : List Nat) (cs : List HCtx) : (hcCfgCommit s b cs).Keeps p :=
  fun s => HRes.ite_keeps rfl (by rw [HRes.wait_sys, hp])

theorem hcThrotSet_keeps (hp : OffDev p) (s : Sys) (b : List Nat) (cs : List HCtx) : (hcThrotSet s b cs).Keeps p :=
  fun s => HRes.ite_keeps rfl (hp s (fun d => throtReq d (srcOf cs) (a1 b 16) (a1 b 17 == 1)))

theorem hcUpdBegin_keeps (hp : OffDev p) (s : Sys) (b : List Nat) (cs : List HCtx) : (hcUpdBegin s b cs).Keeps p :=
  fun s => hp s (fun d => (updBegin d (a4 b 16) ((b.drop 20).take 32)).2)

theorem hcUpdActivate_keeps (hp : OffDev p) (s : Sys) (b : List Nat) (cs : List HCtx) : (hcUpdActivate s b cs).Keeps p :=
  fun s => hp s (fun d => (updActivate d).2)

theorem hcDevSleep_keeps (hp : OffDev p) (s : Sys) (b : List Nat) (cs : List HCtx) : (hcDevSleep s b cs).Keeps p :=
  fun s => HRes.ite_keeps (hp s (fun d => (sleepRequest d).2))
    (hp s (fun d => (sleepRequest (completeAll d cs stSuccess 0)).2))

end

theorem hcEvClear_keeps (s : Sys) (b : List Nat) (cs : List HCtx) : (hcEvClear s b cs).Keeps Sys.mems := fun s => by
  refine HRes.ite_keeps rfl (HRes.ite_keeps ?_ ?_)
  · rw [HRes.fin_sys, Sys.on_mems]
  · rw [HRes.wait_sys, clearTick_mems, Sys.on_mems, Sys.on_mems]

theorem hcUpdStages_keeps (s : Sys) (b : List Nat) (cs : List HCtx) : (hcUpdStages s b cs).Keeps Sys.mems := fun s =>
  updStages_mems s (a1 b 16)

end Sys2Proof.Machine
end

section
/-! PROOFS about the memories, fourth part: the host commands that write a memory, and the frame of memory (R28, R301, R340). -/

namespace Sys2Proof.Machine
open R

/-! ### Host commands that write a memory -/

@[simp] theorem answer_nv (s : Sys) (e : Nat) (bytes : List Nat) : (answer s e bytes).sys.nv = s.nv := by
  unfold answer queryResult
  split
  · rfl
  · cases resultHole s.dev <;> rfl

theorem hcQueryReg_keeps (s : Sys) (b : List Nat) (cs : List HCtx) : (hcQueryReg s b cs).Keeps Sys.nv := fun s => by
  refine HRes.ite_keeps rfl ?_
  exact (answer_nv _ _ _).trans (Sys.nv_of_mems (readWords_mems s _ _ _))

theorem hcQueryChan_keeps (s : Sys) (b : List Nat) (cs : List HCtx) : (hcQueryChan s b cs).Keeps Sys.nv := fun s =>
  answer_nv s _ _

theorem hcEvRead_keeps (s : Sys) (b : List Nat) (cs : List HCtx) : (hcEvRead s b cs).Keeps Sys.nv := fun s => by
  have hr := Sys.nv_of_mems (readRecs_mems s (readAddrs s.dev (a1 b 17) (a4 b 20) (a1 b 18)))
  exact HRes.ite_keeps ((answer_nv _ _ _).trans hr) hr

theorem hcCfgLoad_keeps (s : Sys) (b : List Nat) (cs : List HCtx) : (hcCfgLoad s b cs).Keeps Sys.ph := fun _ =>
  HRes.ite_keeps rfl rfl

theorem hcUpdPiece_keeps (k : StoreCase) (b : List Nat) (cs : List HCtx) : (hcUpdPiece k b cs).Keeps Sys.ph := fun s => by
  refine HRes.ite_keeps rfl (HRes.ite_keeps rfl (HRes.ite_keeps rfl ?_))
  have hs := storeCase_ph s k
  exact HRes.ite_keeps hs (HRes.ite_keeps hs hs)

/-- TWB_ADDRESS leaves the pigeonhole window, awake and asleep. -/
theorem twbPhase_ph (s : Sys) (addr : Nat) (read : Bool) (part : Nat) (g : Bool) (aclk : Nat) :
    (twbPhase s addr read part g aclk).ph = s.ph :=
  ite_keeps (latchedS_keeps Sys.ph_offDev (fun s => twbAddress_ph s addr read part g aclk) s) (twbAddress_ph ..)

/-! ### The frame of memory -/

/-- What a step from `s` to `x` leaves of the memories, for a command that may write hole memory (`ho`) or the store (`st`). -/
def MemKept (ho st : Bool) (s x : Sys) : Prop :=
  ∃ b ∈ [s, toDispatch s, toTimers s], (ho = false → x.ph = b.ph) ∧ (st = false → x.nv = b.nv)

theorem MemKept.of_mems {ho st : Bool} {s x : Sys} (h : Leaves Sys.mems s x) : MemKept ho st s x := by
  obtain ⟨b, hb, hx⟩ := h
  exact ⟨b, hb, fun _ => Sys.ph_of_mems hx, fun _ => Sys.nv_of_mems hx⟩

theorem MemKept.of_ph {ho : Bool} {s x : Sys} (h : Leaves Sys.ph s x) : MemKept ho true s x := by
  obtain ⟨b, hb, hx⟩ := h
  exact ⟨b, hb, fun _ => hx, nofun⟩

theorem MemKept.of_nv {st : Bool} {s x : Sys} (h : Leaves Sys.nv s x) : MemKept true st s x := by
  obtain ⟨b, hb, hx⟩ := h
  exact ⟨b, hb, nofun, fun _ => hx⟩

theorem MemKept.of_both (s x : Sys) : MemKept true true s x := ⟨s, by simp, nofun, nofun⟩

/-- Every command answers a next state that keeps the memories it does not write; the cases go by the shape of the row. -/
theorem exec_memKept (c : Instr) (s : State) :
    ∃ x : Sys, exec c s = .next { s with sys := x } ∧ MemKept (writesHoles c) (writesStore c) s.sys x := by
  cases c with
  | forceClear | vsvcLoss | powerOnReset | resetNAssert | supplyFault | clockLoss | aclkFallback | vinAonFault |
  boundaryScan =>
    exact ⟨_, rfl, .of_mems (.start (Sys.on_mems _ _))⟩
  | syncCapture | trainingFrameReturn | measureComplete | breakBeacon | strayToken | tickOverrun | stageHold | mrShort |
  mrLong | hqCqDb | hqCplDb | hqEvqDb | hqTelDb | descriptorFetch | phClaim | phRelease | hostDmaErr | endpointDown |
  endpointUp | relayRelease | twbPageWrite | twbPointerWrite | twbWordWrite | twbStop | twbAbort | twbHoldTimeout |
  twbAlertResponse | twaPollResult | twaProtocolError | twaSclTimeout | twaAlert | portAttach | sourceDetach | sinkDetach |
  accessoryDetach | pdRequest | pdSourceCaps | pdAccept | pdPsRdy | prSwap | drSwap | pdHardReset | pdNotSupported |
  usbCommand | usbResponseRead | getState | getNonce | deauth | keyLock | usbStall | usbStandardRequest | watchdogExpiry |
  mgmtHalt | registerWrite =>
    exact ⟨_, rfl, .of_mems (.start (latched_keeps Sys.mems_offDev _ _))⟩
  | splitStart | stageEvent | measurementBlock | relayVerifyResult =>
    exact ⟨_, rfl, .of_mems (.start (takes_keeps Sys.mems_offDev _ _ _))⟩
  | notReporting | slowLoss | holdupTaken | emergAssert | emergClear | fuseRetry | feedRevert | stepBegin | thermDieClear |
  authChange | startUpEnd =>
    exact ⟨_, rfl, .of_mems (judged_leaves Sys.mems_offDev _ _ _)⟩
  | syncMiss | lockTimeout | trainRetry | rxSofLoss | splitTrainTimeout | loopFollowErr | prepTimeout | dwellEnd |
  capacityEnd | phaseSenseFail | readyTimeout | hvokReturn | feederRunResend | senseClearReturn | busWindow | busCapacity |
  busCapacityEnd | handbackStart | stringCloseTimeout | stringOffTimeout | trampExpiry | fuseTrip | rcntReset | fuseTsense |
  feedXfer | feedStuck | stepComplete | stepTimeout | minoffEnd | seqRetry | rstoutRelease | supervisionEntry | capRelease |
  avgWindow | snapshotEntryWrite | thermDie | thermLevel | thermRate | thermStage | pacedOperationStart | planPeriodEnd |
  plannerWrite | planExpired | idChip | idResume | pairWindowExpiry | verdictTimeout | divergePulseEnd | leaseExpiry |
  phReclaim | msixMessage | leaseBelowOneSecond | recordClose | refreshStart | updConfirm | updFallback | relayWriteDone |
  relaySkip | twaPoll | dischargeEnd | dischargeTimeout | errorRecoveryEnd | psRdyTimeout | ppsTimeout | ppsKeepalive |
  sessionExpiry | drpToggle | sleepWaitsDone | wakeComplete =>
    exact ⟨_, rfl, .of_mems (timed_leaves Sys.mems_offDev _ _ _)⟩
  | rgCmdReset | rgCmdClrcnt | reident | feclr | clrpeak | fdCmdRemove | fdCmdReadmit | bsCmdOpen | bsCmdClose | fuCmdOn |
  fuCmdOff | fuCmdReset | fuCmdXfer | sqCmdOn | sqCmdOff | sqCmdClrflt | sqCmdStepon | sqCmdStepoff | sqCmdClrcnt |
  mpCmdApprove | mpCmdReject | mpCmdRunnow | mpCmdRebase | auVerdict | auTokcmdGo | evCmdRegister | nvCmdRefrnow |
  upCmdConfirm | upCmdRlystop | spCmdHrst | spCmdErrrec | spCmdDeauth | pmCmdReset | pmCmdSleep =>
    exact ⟨_, rfl, .of_mems (wordCmd_leaves Sys.mems_offDev _ _ _ _ _)⟩
  | nop | railVset | railOff | fuseOn | fuseOff | fuseReset | fgOn | fgOff | busVset | feederReadmit | capSet | seqClrflt |
  loopMode | loopManout | chanReident | ringReset | evNote | updAbort | auMode | devReset =>
    exact ⟨_, rfl, .of_mems (hostCmd_leaves Sys.mems_offDev _ _ _ (fun _ _ _ => .okDev Sys.mems_offDev) _)⟩
  | railOn | fgXfer | feederRemove | seqOn | seqOff | seqStepon | seqStepoff | loopSetpt | planApprove | planReject =>
    exact ⟨_, rfl, .of_mems (hostCmd_leaves Sys.mems_offDev _ _ _ (fun _ _ _ => .tryDev Sys.mems_offDev) _)⟩
  | phCopy =>
    exact ⟨_, rfl, .of_mems (hostCmd_leaves Sys.mems_offDev _ _ _ (hcPhCopy_keeps Sys.mems_offDev) _)⟩
  | cfgCommit =>
    exact ⟨_, rfl, .of_mems (hostCmd_leaves Sys.mems_offDev _ _ _ (hcCfgCommit_keeps Sys.mems_offDev) _)⟩
  | throtSet =>
    exact ⟨_, rfl, .of_mems (hostCmd_leaves Sys.mems_offDev _ _ _ (hcThrotSet_keeps Sys.mems_offDev) _)⟩
  | updBegin =>
    exact ⟨_, rfl, .of_mems (hostCmd_leaves Sys.mems_offDev _ _ _ (hcUpdBegin_keeps Sys.mems_offDev) _)⟩
  | updActivate =>
    exact ⟨_, rfl, .of_mems (hostCmd_leaves Sys.mems_offDev _ _ _ (hcUpdActivate_keeps Sys.mems_offDev) _)⟩
  | devSleep =>
    exact ⟨_, rfl, .of_mems (hostCmd_leaves Sys.mems_offDev _ _ _ (hcDevSleep_keeps Sys.mems_offDev) _)⟩
  | evClear =>
    exact ⟨_, rfl, .of_mems (hostCmd_leaves Sys.mems_offDev _ _ _ hcEvClear_keeps _)⟩
  | updStages =>
    exact ⟨_, rfl, .of_mems (hostCmd_leaves Sys.mems_offDev _ _ _ hcUpdStages_keeps _)⟩
  | upstreamFrame =>
    exact ⟨_, rfl, .of_mems (.start (latchedS_keeps Sys.mems_offDev (fun s => upstream_mems s _ _) _))⟩
  | identityMatch | configPieceAck =>
    exact ⟨_, rfl, .of_mems (.start (takesS_keeps Sys.mems_offDev _ (fun s => chanAnswer_mems s _ _) _))⟩
  | mrForceoff =>
    exact ⟨_, rfl, .of_mems (.start (mrForced_mems _))⟩
  | tmPkRead | tmChstatRead | rcRead | llRead =>
    exact ⟨_, rfl, .of_mems (.start (latchedS_keeps Sys.mems_offDev (fun s => regRead_mems s _ _) _))⟩
  | registerReadBusError =>
    exact ⟨_, rfl, .of_mems (.start (latchedS_keeps Sys.mems_offDev (fun s => accRead_mems s _ _ _) _))⟩
  | authTokenCheck =>
    exact ⟨_, rfl, .of_mems (.start (latchedS_keeps Sys.mems_offDev tokCheck_mems _))⟩
  | commitChecksDone =>
    exact ⟨_, rfl, .of_mems (.start (latchedS_keeps Sys.mems_offDev (fun s => ite_keeps rfl (commitChecks_mems s)) _))⟩
  | updVerified =>
    exact ⟨_, rfl, .of_mems (.start (latchedS_keeps Sys.mems_offDev (fun s => ite_keeps rfl (updVerified_mems s)) _))⟩
  | relayResume =>
    exact ⟨_, rfl, .of_mems (.start (latchedS_keeps Sys.mems_offDev (fun s => ite_keeps rfl (relayResume_mems s _)) _))⟩
  | twbWordRead =>
    exact ⟨_, rfl, .of_mems (.start (latchedS_keeps Sys.mems_offDev twbWordRead_mems _))⟩
  | auth =>
    exact ⟨_, rfl, .of_mems (.start (latchedS_keeps Sys.mems_offDev (fun s => usbAuth_mems s _) _))⟩
  | promotion =>
    exact ⟨_, rfl, .of_mems (.start (promotion_mems _ _))⟩
  -- commands that write the store
  | cfgLoad =>
    exact ⟨_, rfl, .of_ph (hostCmd_leaves Sys.ph_offDev _ _ _ hcCfgLoad_keeps _)⟩
  | updPiece =>
    exact ⟨_, rfl, .of_ph (handed_leaves Sys.ph_offDev _ (hostDirect_keeps Sys.ph_offDev _ _ _ (fun _ => hcUpdPiece_keeps _)) _)⟩
  | recordWrite =>
    exact ⟨_, rfl, .of_ph (timedS_leaves Sys.ph_offDev _ (fun s => recordWrite_ph s _) _)⟩
  | refreshBlock =>
    exact ⟨_, rfl, .of_ph (timedS_leaves Sys.ph_offDev _ (fun s => refreshBlock_ph s _) _)⟩
  | sleepPowerDown =>
    exact ⟨_, rfl, .of_ph (timedS_leaves Sys.ph_offDev _ (fun s => sleepPowerDown_ph s _ _) _)⟩
  | keyWrite =>
    exact ⟨_, rfl, .of_ph (.start (latchedS_keeps Sys.ph_offDev (fun s => keyWrite_ph s _ _) _))⟩
  | clearOverwriteDone =>
    exact ⟨_, rfl, .of_ph (.start (latchedS_keeps Sys.ph_offDev overwriteDone_ph _))⟩
  | startUp =>
    exact ⟨_, rfl, .of_ph (.start (startUp_ph _ _ _ _))⟩
  | serviceBoot =>
    exact ⟨_, rfl, .of_ph (.start (serviceBoot_ph _ _ _))⟩
  | wakeEvent =>
    exact ⟨_, rfl, .of_ph (.start (wakeEvent_ph _ _ _ _))⟩
  | mainSuppliesGood =>
    exact ⟨_, rfl, .of_ph (.start (mainSuppliesGood_ph _ _))⟩
  | twbAddress =>
    exact ⟨_, rfl, .of_ph (.start (twbPhase_ph _ _ _ _ _ _))⟩
  -- commands that write hole memory
  | queryReg =>
    exact ⟨_, rfl, .of_nv (hostCmd_leaves Sys.nv_offDev _ _ _ hcQueryReg_keeps _)⟩
  | queryChan =>
    exact ⟨_, rfl, .of_nv (hostCmd_leaves Sys.nv_offDev _ _ _ hcQueryChan_keeps _)⟩
  | evRead =>
    exact ⟨_, rfl, .of_nv (hostCmd_leaves Sys.nv_offDev _ _ _ hcEvRead_keeps _)⟩
  | phBar2Write =>
    exact ⟨_, rfl, .of_nv (.start (latchedS_keeps Sys.nv_offDev (fun s => phWrite_nv s _ _ _) _))⟩
  | phCopyDone =>
    exact ⟨_, rfl, .of_nv (.start (latchedS_keeps Sys.nv_offDev (fun s => phCopyDone_nv s _ _ _) _))⟩
  -- the two that may write both
  | tickEdge | frameBoundary =>
    exact ⟨_, rfl, .of_both _ _⟩

/-- Settles O57: the memories after a step are those that its row leaves, and the row's starting points are the statement's. -/
theorem memoriesAreKept : Obligations.MemoriesAreKept := by
  unfold Obligations.MemoriesAreKept
  intro c s t ht
  obtain ⟨x, hx, hk⟩ := exec_memKept c s
  have htx : t = { s with sys := x } := Host.Outcome.next.inj (ht.symm.trans hx)
  subst htx
  obtain ⟨b, hb, hph, hnv⟩ := hk
  exact ⟨b, hb, fun h a => congrArg (Mem.rd · a) (hph h), fun h a => congrArg (Mem.rd · a) (hnv h)⟩

end Sys2Proof.Machine
end

section
/-! PROOFS about the queue of the dispatcher: where a command waits (R28, R46). -/

namespace Sys2Proof.Machine
open R

/-- The dispatcher cannot hand over in this tick: 32 have been handed over, or another command waits (R28). -/
def Dev.dispBusy (d : Dev) : Prop := 32 ≤ d.tb.handed ∨ dispNext d ≠ none

/-- A command that finds the dispatcher busy joins its queue. -/
theorem handed_busy (x : Dev → DispItem) (f : Sys → Sys) (s : State) (hl : s.sys.dev.live = true)
    (ho : s.sys.dev.tb.frameOpen = false) (hw : s.atCommands.dev.dispBusy) :
    handed x f s.sys = s.atCommands.on (dispatchAdd (x s.atCommands.dev)) := by
  have hno : ((toDispatch s.sys).dev.live && (dispNext (toDispatch s.sys).dev).isNone
      && decide ((toDispatch s.sys).dev.tb.handed < 32)) = false := by
    unfold State.atCommands at hw
    cases hw with
    | inl hfull => simp [Nat.not_lt.mpr hfull]
    | inr hwaits => simp [hwaits]
  unfold handed
  simp only [hl, ho, hno, Bool.not_true, Bool.false_eq_true, if_false]
  rfl

/-- A command that arrives after the edge of the next tick is open joins the queue for that tick (R46). -/
theorem handed_edge (x : Dev → DispItem) (f : Sys → Sys) (s : Sys) (hl : s.dev.live = true) (ho : s.dev.tb.frameOpen = true) :
    handed x f s = s.on (dispatchAdd (x s.dev)) := by
  unfold handed
  simp only [hl, ho, Bool.not_true, Bool.false_eq_true, if_false, if_true]
  rfl

/-- A command takes one place in the queue, and the others keep theirs. -/
theorem dispIns_splits (q : List DispItem) (x : DispItem) : ∃ l r : List DispItem, dispIns q x = l ++ x :: r ∧ q = l ++ r :=
  ⟨_, _, List.append_assoc .., List.takeWhile_append_dropWhile.symm⟩

/-- Joining the queue writes no register field. -/
theorem KeepsBut.dispatchAdd (l : List (Reg × Nat)) (x : DispItem) (d : Dev) : KeepsBut l d (dispatchAdd x d) :=
  (KeepsBut.refl l d).of_regs rfl

/-- A command word that its word admits is handed to the dispatcher. -/
theorem wordCmd_admitted {a : Accessor} (ha : a ≠ .sp) (ofs v : Nat) (f : Dev → Dev) {s : Sys}
    (hk : writeKind s.dev (accIx a) ofs v = 0) : wordCmd a ofs v f s = handed (wordItem a ofs v) (fun s => s.on f) s :=
  wordCmd_handed a ofs v f s (Nat.not_le.mpr (accIx_lt ha)) hk

/-- A row that hands its command to a busy dispatcher answers a state where the command waits. -/
theorem waits_of_busy {c : Instr} {s : State} (x : Dev → DispItem) (f : Sys → Sys)
    (he : exec c s = sysRow (handed x f) s) (hl : s.sys.dev.live = true)
    (ho : s.sys.dev.tb.frameOpen = false) (hw : s.atCommands.dev.dispBusy) :
    ∃ t : State, exec c s = .next t ∧ t.pending = s.pending ∧ t.sys = s.atCommands.on (dispatchAdd (x s.atCommands.dev)) ∧
      KeepsBut [] s.atCommands.dev t.sys.dev ∧
      (∃ l r : List DispItem, t.sys.dev.host.dq = l ++ x s.atCommands.dev :: r ∧ s.atCommands.dev.host.dq = l ++ r) := by
  rw [sysRow, handed_busy x f s hl ho hw] at he
  exact ⟨_, he, rfl, rfl, KeepsBut.dispatchAdd [] _ _, dispIns_splits ..⟩

/-- A row that hands its command over after the edge answers a state where the command waits for the next tick. -/
theorem waits_of_edge {c : Instr} {s : State} (x : Dev → DispItem) (f : Sys → Sys)
    (he : exec c s = sysRow (handed x f) s) (hl : s.sys.dev.live = true)
    (ho : s.sys.dev.tb.frameOpen = true) :
    ∃ t : State, exec c s = .next t ∧ t.pending = s.pending ∧ t.sys = s.sys.on (dispatchAdd (x s.sys.dev)) ∧
      KeepsBut [] s.sys.dev t.sys.dev := by
  rw [sysRow, handed_edge x f s.sys hl ho] at he
  exact ⟨_, he, rfl, rfl, KeepsBut.dispatchAdd [] _ _⟩

/-- A row's answer depends on the machine it leaves alone. -/
theorem sysRow_congr {f g : Sys → Sys} {s : State} (h : f s.sys = g s.sys) : sysRow f s = sysRow g s := by
  unfold sysRow; rw [h]

/-- SQ_CMD.ON hands its command over where its word admits the write. -/
theorem exec_sqCmdOn_handed {a : Accessor} {s : State} (ha : a ≠ .sp) (hk : writeKind s.sys.dev (accIx a) 0x9810 1 = 0) :
    exec (.sqCmdOn a) s =
      sysRow (handed (wordItem a 0x9810 1) (fun s => s.on (fun d => (seqRequest d true (seqSrc (accIx a))).2))) s :=
  sysRow_congr (wordCmd_admitted ha 0x9810 1 _ hk)

/-- Settles O60: both rows hand over, and `handed` keeps a command back where the dispatcher is busy or the edge is open. -/
theorem commandsWaitTheirTurn : Obligations.CommandsWaitTheirTurn := by
  unfold Obligations.CommandsWaitTheirTurn
  refine ⟨fun s a hl ho hw ha hk => ?_, fun s a hl ho ha hk => ?_, fun s h n hl ho hw => ?_, fun s h n hl ho => ?_⟩
  · exact waits_of_busy _ _ (exec_sqCmdOn_handed ha hk) hl ho hw
  · exact waits_of_edge _ _ (exec_sqCmdOn_handed ha hk) hl ho
  · exact waits_of_busy (hostItem 0x0101 h [(16, [n.toNat])] .fine) _ rfl hl ho hw
  · exact waits_of_edge (hostItem 0x0101 h [(16, [n.toNat])] .fine) _ rfl hl ho

end Sys2Proof.Machine
end

section
/-! PROOFS about the commands of a fuse (R25, R208 to R212). -/

namespace Sys2Proof.Machine
open R

/-! ### What the start of a fuse leaves -/

/-- What a fuse shows of its start: its state, whether it is wanted on, the claim that waits, and the shelf's state. -/
def fuView (d : Dev) (f : Nat) : Nat × Bool × Option Bool × ShelfSt := (fuState d f, (d.fuz f).want, (d.fuz f).pend, d.bs)

@[simp] theorem Dev.wr_fuz (d : Dev) (r : Reg) (ix v f : Nat) : (d.wr r ix v).fuz f = d.fuz f := rfl

/-- A write of another field leaves what a fuse shows. -/
theorem wr_fuView (d : Dev) {r : Reg} (h : FU_STATUS_STATE.id ≠ r.id) (ix v f : Nat) : fuView (d.wr r ix v) f = fuView d f := by
  simp [fuView, fuState, Dev.rd_wr_ne _ _ _ _ h]

@[simp] theorem issue_fuView (d : Dev) (c opc arg f : Nat) : fuView (issue d c opc arg) f = fuView d f := by
  unfold issue; dsimp only; split <;> rfl

@[simp] theorem feclrOwn_fuView (d : Dev) (s f : Nat) : fuView (feclrOwn d s) f = fuView d f := by
  unfold feclrOwn; split <;> rfl

@[simp] theorem fuRun_fuView (d : Dev) (f c : Nat) : fuView (fuRun d f c) f = fuView d f := by
  unfold fuRun issueRun issueRegWr
  rw [issue_fuView]
  have hv := (issue_fuView (issue d c 0x71 (0x0060 % 65536 + d.rd FU_LIM_IINST f % 2 ^ 32 * 65536)) c 0x71
    (0x0061 % 65536 + d.rd FU_INR_DVDT f % 2 ^ 32 * 65536) f).trans (issue_fuView d c 0x71 _ f)
  simpa [fuView, fuState] using hv

@[simp] theorem fuPreset_fuView (d : Dev) (f c : Nat) : fuView (fuPreset d f c) f = fuView d f := by
  unfold fuPreset
  extract_lets x s e inTime
  have he : e.rd FU_STATUS_STATE f = d.rd FU_STATUS_STATE f ∧ e.bs = d.bs := by
    simp only [e]; split <;> exact ⟨rfl, rfl⟩
  split
  · simpa [fuView, fuState, x] using he
  · rfl

/-- The entry of the ramp. -/
theorem fuEnterRamp_fuView (d : Dev) (f c : Nat) :
    fuView (fuEnterRamp d f c) f = (fuRamp, (d.fuz f).want, (d.fuz f).pend, d.bs) := by
  unfold fuEnterRamp
  extract_lets x d1 d2 d3
  have h2 : fuView d2 f = (fuRamp, (d.fuz f).want, (d.fuz f).pend, d.bs) := by
    simp [fuView, fuState, d2, d1, x, Dev.rd_wr]
    decide
  have h3 : fuView d3 f = fuView d2 f := by
    simp only [d3]
    split
    · exact (wr_fuView _ (by decide) _ _ _).trans (feclrOwn_fuView d2 _ f)
    · rfl
  clear_value d3 d2
  rw [fuPreset_fuView, ← h2, ← h3]
  split
  · exact fuRun_fuView d3 f c
  · rfl

/-- An idle or off fuse whose stage reports and does not conduct enters the ramp. -/
theorem fuStart_ramps (d : Dev) {f c : Nat} (hc : chanOfFuse d f = some c) (hsmp : (d.chn c).smp.has = true)
    (hst : fuState d f = fuOff) (hoff : chFlag d c flRolef = false) : fuStart d f = fuEnterRamp d f c := by
  simp [fuStart, hc, hsmp, hst, hoff, fuOff, fuIdle]

/-- An off fuse of a class that is not shed is wanted on and enters the ramp. -/
theorem fuEnable_fuView (d : Dev) {f c : Nat} (hc : chanOfFuse d f = some c) (hsmp : (d.chn c).smp.has = true)
    (hst : fuState d f = fuOff) (hoff : chFlag d c flRolef = false) (hcls : classShed d f = false) :
    fuView (fuEnable d f) f = (fuRamp, true, (d.fuz f).pend, d.bs) := by
  have hstart : fuEnable d f = fuStart (d.setFuse f { d.fuz f with want := true }) f := by
    simp [fuEnable, hst, hcls, fuOff, fuShed]
  have hramp : fuStart (d.setFuse f { d.fuz f with want := true }) f = _ := fuStart_ramps _ hc hsmp hst hoff
  rw [hstart, hramp, fuEnterRamp_fuView]
  simp

/-! ### The claim of a host (R25) -/

/-- A claim that loses to nothing acts, with no claim left waiting. -/
theorem hostClaim_wins (d : Dev) {f : Nat} {on : Bool} (hlock : on = true → fuState d f ≠ fuLockout)
    (hcls : on = true → classShed d f = false) (hseq : seqClaim d 2 f ≠ some (!on)) :
    hostClaim d 2 f on = targetAct (setPend d 2 f none) 2 f on := by
  unfold hostClaim
  cases on <;> simp_all [fuUnlock, kindShed]

/-- A claim for a fuse that loses waits. -/
theorem hostClaim_loses (d : Dev) {f : Nat} (hlock : fuState d f ≠ fuLockout)
    (hlost : classShed d f = true ∨ seqClaim d 2 f = some false) : hostClaim d 2 f true = setPend d 2 f (some true) := by
  unfold hostClaim
  cases hlost <;> simp_all [fuUnlock, kindShed]

/-- ON of a valid fuse outside a group is a claim for the fuse. -/
theorem fuCmdOn_claims (d : Dev) {f : Nat} (hv : fuValid d f = true) (hg : fuInfg d f = false) (hp : fuPortsw d f = false) :
    fuCmdOn d f = hostClaim d 2 f true := by
  simp [fuCmdOn, hv, hp, fuseTarget, hg]

/-- OFF of a valid fuse outside a group that no step names is a claim for the fuse. -/
theorem fuCmdOff_claims (d : Dev) {f : Nat} (hv : fuValid d f = true) (hg : fuInfg d f = false) (hp : fuPortsw d f = false)
    (hs : stepOf d 2 f = none) : fuCmdOff d f = hostClaim d 2 f false := by
  simp [fuCmdOff, hv, hp, fuseTarget, hg, hostOff, hs]

/-! ### The three commands (R212) -/

/-- ON of an off fuse that may start. -/
theorem fuCmdOn_fuView (d : Dev) {f c : Nat} (hv : fuValid d f = true) (hg : fuInfg d f = false) (hp : fuPortsw d f = false)
    (hst : fuState d f = fuOff) (hcls : classShed d f = false) (hseq : seqClaim d 2 f ≠ some false)
    (hc : chanOfFuse d f = some c) (hsmp : (d.chn c).smp.has = true) (hoff : chFlag d c flRolef = false) :
    fuView (fuCmdOn d f) f = (fuRamp, true, none, d.bs) := by
  have hlock : fuState d f ≠ fuLockout := by rw [hst]; decide
  rw [fuCmdOn_claims d hv hg hp, hostClaim_wins (on := true) d (fun _ => hlock) (fun _ => hcls) hseq]
  exact (fuEnable_fuView (setPend d 2 f none) hc hsmp hst hoff hcls).trans (by simp [setPend])

/-- A disable takes a fuse that is on, ramping or tripped OFF. -/
theorem fuDisable_eq (d : Dev) {f : Nat} (hst : fuState d f = fuRamp ∨ fuState d f = fuOn ∨ fuState d f = fuTripped) :
    fuDisable d f = (d.setFuse f { d.fuz f with want := false }).wr FU_STATUS_STATE f fuOff := if_pos hst

/-- OFF of a fuse that is on, ramping or tripped. -/
theorem fuCmdOff_eq (d : Dev) {f : Nat} (hv : fuValid d f = true) (hg : fuInfg d f = false) (hp : fuPortsw d f = false)
    (hst : fuState d f = fuRamp ∨ fuState d f = fuOn ∨ fuState d f = fuTripped) (hs : stepOf d 2 f = none) :
    ∃ x : FuseSt, x.want = false ∧
      fuCmdOff d f = ((setPend d 2 f none).setFuse f x).wr FU_STATUS_STATE f fuOff := by
  have hseq : seqClaim d 2 f ≠ some true := by simp [seqClaim, hs]
  rw [fuCmdOff_claims d hv hg hp hs, hostClaim_wins (on := false) d nofun nofun hseq]
  exact ⟨_, rfl, fuDisable_eq (setPend d 2 f none) hst⟩

/-- A locked-out fuse is unlocked, and starts only where it is wanted on. -/
theorem fuReset_lockout (d : Dev) {f : Nat} (hst : fuState d f = fuLockout) (hw : (d.fuz f).want = false) :
    ∃ x : FuseSt, fuReset d f = (((d.wr FU_STATUS_IMPL f 0).setFuse f x).wr FU_STATUS_RCNT f 0).wr FU_STATUS_STATE f fuOff := by
  unfold fuReset fuUnlock
  extract_lets y e e'
  have he : fuState e f = fuLockout :=
    (Dev.rd_wr_ne _ _ _ _ (show FU_STATUS_STATE.id ≠ FU_STATUS_IMPL.id by decide)).trans hst
  have hwe : (e.fuz f).want = false := by simp [e, y, hw]
  have he' : e' = (e.wr FU_STATUS_RCNT f 0).wr FU_STATUS_STATE f fuOff := if_pos he
  have hwe' : (e'.fuz f).want = false := by rw [he']; simp [hwe]
  rw [if_pos he, if_neg (by simp [hwe']), he']
  exact ⟨_, rfl⟩

/-- OFF of such a fuse shows OFF, and no other field changes. -/
theorem fuCmdOff_off (d : Dev) {f : Nat} (hv : fuValid d f = true) (hg : fuInfg d f = false) (hp : fuPortsw d f = false)
    (hst : fuState d f = fuRamp ∨ fuState d f = fuOn ∨ fuState d f = fuTripped) (hs : stepOf d 2 f = none) :
    (fuCmdOff d f).rd FU_STATUS_STATE f = fuOff ∧ ((fuCmdOff d f).fuz f).want = false ∧
      KeepsBut [(FU_STATUS_STATE, f)] d (fuCmdOff d f) ∧ (fuCmdOff d f).bs = d.bs := by
  obtain ⟨x, hx, heq⟩ := fuCmdOff_eq d hv hg hp hst hs
  rw [heq]
  refine ⟨Dev.rd_wr .., by simp [hx], KeepsBut.wr ?_ _ _ _ (by simp), rfl⟩
  exact ((KeepsBut.refl _ d).setFuse _ _).setFuse _ _

/-- RESET of such a fuse shows OFF with its retry count cleared and no implausible sensor, and no other field changes. -/
theorem fuReset_off (d : Dev) {f : Nat} (hst : fuState d f = fuLockout) (hw : (d.fuz f).want = false) :
    (fuReset d f).rd FU_STATUS_STATE f = fuOff ∧ (fuReset d f).rd FU_STATUS_RCNT f = 0 ∧
      (fuReset d f).fl FU_STATUS_IMPL f = false ∧ KeepsBut [(FU_STATUS_STATE, f), (FU_STATUS_RCNT, f), (FU_STATUS_IMPL, f)]
      d (fuReset d f) ∧ (fuReset d f).bs = d.bs := by
  obtain ⟨x, heq⟩ := fuReset_lockout d hst hw
  rw [heq]
  refine ⟨Dev.rd_wr .., ?_, ?_, ?_, rfl⟩
  · exact (Dev.rd_wr_ne _ _ _ _ (by decide)).trans (Dev.rd_wr ..)
  · simp [Dev.fl, Dev.rd_wr_ne _ _ _ _ (show FU_STATUS_IMPL.id ≠ FU_STATUS_STATE.id by decide),
      Dev.rd_wr_ne _ _ _ _ (show FU_STATUS_IMPL.id ≠ FU_STATUS_RCNT.id by decide), Dev.rd_wr]
  · refine KeepsBut.wr (KeepsBut.wr (KeepsBut.setFuse ?_ _ _) _ _ _ (by simp)) _ _ _ (by simp)
    exact (KeepsBut.refl _ d).wr _ _ _ (by simp)

/-- The word of a fuse's commands. -/
theorem completes_fuseWord {c : Instr} {s : State} {Q : Sys → Prop} (a : Accessor) (ofs v : Nat) (g : Dev → Dev)
    (he : exec c s = sysRow (wordCmd a ofs v g) s) (ht : s.turn) (ha : a ≠ .sp)
    (hk : writeKind s.sys.dev (accIx a) ofs v = 0) (hbs : (g (handOver s.atCommands.dev)).bs = s.atCommands.dev.bs)
    (hQ : Q { s.atCommands with dev := g (handOver s.atCommands.dev) }) :
    ∃ t : State, exec c s = .next t ∧ t.pending = s.pending ∧ Q t.sys := by
  obtain ⟨-, ⟨-, -, hshed⟩, -⟩ := id ht
  exact completes_wordCmd a ofs v g he ht ha hk ((congrArg ShelfSt.shedReq hbs).trans hshed) hQ

/-- Settles O14: the claim of a host, then the start, the disable and the reset of the fuse it names. -/
theorem fuseCommandsAct : Obligations.FuseCommandsAct := by
  unfold Obligations.FuseCommandsAct
  refine ⟨fun s a f c ht ha hk hv hg hp hst hcls hseq hc hsmp hoff => ?_,
    fun s a f ht ha hk hv hg hp hst hlost => ?_, fun s a f ht ha hk hv hg hp hst hs => ?_, fun s a f ht ha hk hst hw => ?_⟩
  case refine_1 =>
    have hview := fuCmdOn_fuView (handOver s.atCommands.dev) hv hg hp hst hcls hseq hc hsmp hoff
    simp only [fuView, fuState, Prod.mk.injEq] at hview
    obtain ⟨hstate, hwant, hpend, hbs⟩ := hview
    exact completes_fuseWord (Q := fun x => x.dev.rd FU_STATUS_STATE f.val = fuRamp ∧ (x.dev.fuz f.val).want = true ∧
      (x.dev.fuz f.val).pend = none) a _ _ _ rfl ht ha hk hbs ⟨hstate, hwant, hpend⟩
  case refine_2 =>
    have hlock : fuState (handOver s.atCommands.dev) f.val ≠ fuLockout := fun h => absurd (hst.symm.trans h) (by decide)
    have heq : fuCmdOn (handOver s.atCommands.dev) f.val = setPend (handOver s.atCommands.dev) 2 f.val (some true) :=
      (fuCmdOn_claims (handOver s.atCommands.dev) hv hg hp).trans (hostClaim_loses _ hlock hlost)
    refine completes_fuseWord (Q := fun x => (x.dev.fuz f.val).pend = some true ∧ KeepsBut [] s.atCommands.dev x.dev)
      a _ _ _ rfl ht ha hk (by rw [heq]; rfl) ?_
    rw [heq]
    exact ⟨by simp [setPend], ((KeepsBut.refl [] _).handOver).setFuse _ _⟩
  case refine_3 =>
    obtain ⟨hoff, hwant, hkeep, hbs⟩ := fuCmdOff_off (handOver s.atCommands.dev) hv hg hp hst hs
    exact completes_fuseWord (Q := fun y => y.dev.rd FU_STATUS_STATE f.val = fuOff ∧ (y.dev.fuz f.val).want = false ∧
      KeepsBut [(FU_STATUS_STATE, f.val)] s.atCommands.dev y.dev) a _ _ _ rfl ht ha hk hbs
      ⟨hoff, hwant, ((KeepsBut.refl _ _).handOver).trans hkeep⟩
  case refine_4 =>
    obtain ⟨hoff, hcnt, himpl, hkeep, hbs⟩ := fuReset_off (handOver s.atCommands.dev) hst hw
    exact completes_fuseWord (Q := fun y => y.dev.rd FU_STATUS_STATE f.val = fuOff ∧ y.dev.rd FU_STATUS_RCNT f.val = 0 ∧
      y.dev.fl FU_STATUS_IMPL f.val = false ∧ KeepsBut [(FU_STATUS_STATE, f.val), (FU_STATUS_RCNT, f.val),
      (FU_STATUS_IMPL, f.val)] s.atCommands.dev y.dev) a _ _ _ rfl ht ha hk hbs
      ⟨hoff, hcnt, himpl, ((KeepsBut.refl _ _).handOver).trans hkeep⟩

end Sys2Proof.Machine
end

section
/-! PROOFS about bit fields of a register value: what a write of a field shows. -/

namespace Sys2Proof.Machine

/-- A bit field of a value cut to a wider power of 2. -/
theorem bitsOf_mod {v lo w n : Nat} (h : lo + w ≤ n) : bitsOf (v % 2 ^ n) lo w = bitsOf v lo w := by
  unfold bitsOf
  rw [← Nat.mod_mul_right_div_self, ← Nat.mod_mul_right_div_self, ← pow_add, Nat.mod_mod_of_dvd _ (pow_dvd_pow 2 h)]

/-- A written bit field by what stands above it, in it, and below it. -/
theorem setBits_eq (v lo w x : Nat) : setBits v lo w x = (v / 2 ^ lo / 2 ^ w * 2 ^ w + x % 2 ^ w) * 2 ^ lo + v % 2 ^ lo := by
  have hlo := Nat.div_add_mod' v (2 ^ lo)
  have hw := congrArg (· * 2 ^ lo) (Nat.div_add_mod' (v / 2 ^ lo) (2 ^ w))
  unfold setBits bitsOf
  simp only [add_mul] at hw ⊢
  omega

/-- A written bit field shows what was written. -/
theorem bitsOf_setBits (v lo w x : Nat) : bitsOf (setBits v lo w x) lo w = x % 2 ^ w := by
  have hpos : 0 < 2 ^ lo := Nat.two_pow_pos lo
  unfold bitsOf
  rw [setBits_eq, Nat.add_comm, Nat.add_mul_div_right _ _ hpos, Nat.div_eq_of_lt (Nat.mod_lt _ hpos), Nat.zero_add,
    Nat.add_comm, Nat.add_mul_mod_self_right, Nat.mod_mod]

end Sys2Proof.Machine
end

section
/-! PROOFS about host commands: the descriptor of a command as its sender builds it, and the execution of a command that passes the
checks of R292. -/

namespace Sys2Proof.Machine
open R

/-! ### Descriptors (R290) -/

/-- A descriptor names its opcode. -/
theorem descOp_descOf {op : Nat} (hop : op < 65536) (h : Sender) (args : List (Nat × List Nat)) :
    descOp (descOf op h args) = op := by
  have hbytes : descOp (descOf op h args) = op / 256 ^ 0 % 256 % 256 + 256 * (op / 256 ^ 1 % 256 % 256 + 256 * 0) := rfl
  omega

/-- Its flags are those of the sender. -/
theorem descOf_flags (op : Nat) (h : Sender) (args : List (Nat × List Nat)) :
    (descOf op h args).getD 2 0 = h.irq.toNat + 2 * h.lcl.toNat := rfl

/-- A descriptor that is not LOCAL passes check 2 of R292 where every byte that its command does not use is 0. -/
theorem descOk_descOf (op : Nat) {h : Sender} (hl : h.lcl = false) (args : List (Nat × List Nat)) {used : List (Nat × Nat)}
    (hz : ∀ i < 48, used.any (fun u => decide (u.1 ≤ 16 + i) && decide (16 + i < u.1 + u.2)) = true
      ∨ (descOf op h args).getD (16 + i) 0 = 0) : descOk (descOf op h args) used = true := by
  have hlocal : descLocal (descOf op h args) = false := by
    unfold descLocal
    rw [descOf_flags, hl]
    cases h.irq <;> decide
  have hflags : (descOf op h args).getD 2 0 < 4 := by
    rw [descOf_flags, hl]
    cases h.irq <;> decide
  have hres : (descOf op h args).getD 3 0 = 0 := rfl
  have hzero : leAt (descOf op h args) 12 4 = 0 := rfl
  have hall : (List.range 48).all (fun i => used.any (fun u => decide (u.1 ≤ 16 + i) && decide (16 + i < u.1 + u.2))
      || (descOf op h args).getD (16 + i) 0 == 0) = true := by
    rw [List.all_eq_true]
    intro i hi
    cases hz i (List.mem_range.mp hi) with
    | inl hu => rw [hu]; rfl
    | inr h0 => rw [h0, Bool.or_comm]; rfl
  unfold descOk
  rw [hlocal, hres, hzero, hall, decide_eq_true hflags]
  rfl

/-- A byte of a run of zeros. -/
theorem getD_zeros {j k : Nat} (l : List Nat) (h : j < k) : (List.replicate k 0 ++ l).getD j 0 = 0 := by
  rw [List.getD_append _ _ _ _ (by simpa using h), List.getD_eq_getElem?_getD, List.getElem?_replicate, if_pos h]
  rfl

/-- The arguments of a command that names one unit: its number, and no other byte. -/
theorem descOf_unit_drop (op : Nat) (h : Sender) (n : Nat) :
    (descOf op h [(16, [n])]).drop 16 = n :: (List.replicate 47 0 ++ h.extra.map (·.toNat)) := rfl

theorem descOk_unit (op : Nat) {h : Sender} (hl : h.lcl = false) (n : Nat) :
    descOk (descOf op h [(16, [n])]) [(16, 1)] = true := by
  refine descOk_descOf op hl _ (fun i hi => ?_)
  cases i with
  | zero => exact .inl rfl
  | succ j =>
    right
    have hdrop : (descOf op h [(16, [n])]).getD (16 + (j + 1)) 0 = ((descOf op h [(16, [n])]).drop 16).getD (j + 1) 0 := by
      simp [List.getD_eq_getElem?_getD, List.getElem?_drop]
    rw [hdrop, descOf_unit_drop]
    exact getD_zeros _ (by omega)

theorem a1_unit (op : Nat) (h : Sender) (n : Nat) : a1 (descOf op h [(16, [n])]) 16 = n := rfl

/-- The arguments of RAIL_VSET: the rail, three reserved bytes, four bytes of the value, and no other byte. -/
theorem descOf_vset_drop (h : Sender) (n v : Nat) : ∃ b0 b1 b2 b3 : Nat, (descOf 0x0100 h [(16, [n]), (20, le 4 v)]).drop 16 =
    n :: 0 :: 0 :: 0 :: b0 :: b1 :: b2 :: b3 :: (List.replicate 40 0 ++ h.extra.map (·.toNat)) := ⟨_, _, _, _, rfl⟩

theorem a1_vset (h : Sender) (n v : Nat) : a1 (descOf 0x0100 h [(16, [n]), (20, le 4 v)]) 16 = n := rfl

theorem a4_vset (h : Sender) (n : Nat) (v : Word) :
    a4 (descOf 0x0100 h [(16, [n]), (20, le 4 v.toNat)]) 20 = v.toNat := by
  have hv := v.isLt
  have hbytes : a4 (descOf 0x0100 h [(16, [n]), (20, le 4 v.toNat)]) 20 = v.toNat / 256 ^ 0 % 256 % 256 + 256 *
    (v.toNat / 256 ^ 1 % 256 % 256 + 256 * (v.toNat / 256 ^ 2 % 256 % 256 + 256 * (v.toNat / 256 ^ 3 % 256 % 256 + 256 * 0))) := rfl
  omega

theorem descOk_vset {h : Sender} (hl : h.lcl = false) (n v : Nat) :
    descOk (descOf 0x0100 h [(16, [n]), (20, le 4 v)]) [(16, 1), (20, 4)] = true := by
  obtain ⟨b0, b1, b2, b3, harg⟩ := descOf_vset_drop h n v
  refine descOk_descOf 0x0100 hl _ (fun i hi => ?_)
  have hdrop : (descOf 0x0100 h [(16, [n]), (20, le 4 v)]).getD (16 + i) 0 =
      ((descOf 0x0100 h [(16, [n]), (20, le 4 v)]).drop 16).getD i 0 := by
    simp [List.getD_eq_getElem?_getD, List.getElem?_drop]
  rw [hdrop, harg]
  clear hdrop harg
  match i with
  | 0 | 4 | 5 | 6 | 7 => exact .inl rfl
  | 1 | 2 | 3 => exact .inr rfl
  | j + 8 => exact .inr (getD_zeros _ (show j < 40 by omega))

/-! ### Execution (R292) -/

/-- A command to a unit passes the checks: outside a management halt where it is gated, with its arguments in order and its target
configured, on a device that runs its units, from a path other than the service port. -/
structure UnitCmd (s : Sys) (b : List Nat) (cs : List HCtx) (h : HCmd) : Prop where
  gate : gatedOps.contains (descOp b) = true → s.dev.fl GL_STATUS_MHALT = false
  desc : descOk b h.used = true
  arg : h.argOk = true
  target : h.target = true
  sill : s.dev.sill = false
  hole : h.hole = none
  path : srcOf cs ≠ 3
  mgmt : h.mgmt = false

/-- It executes, and completes with what its execution answers. -/
theorem hostRun_unit {s : Sys} {b : List Nat} {cs : List HCtx} {h : HCmd} (hu : UnitCmd s b cs h) {st r : Nat} {x : Sys}
    (hx : h.act s = .fin st r x) : hostRun s b cs h = x.on (fun d => completeAll d cs st r) := by
  obtain ⟨hgate, hdesc, harg, htgt, hsill, hhole, hpath, hmgmt⟩ := hu
  have hg : (gatedOps.contains (descOp b) && s.dev.fl GL_STATUS_MHALT) = false := by
    cases hc : gatedOps.contains (descOp b) with
    | false => rfl
    | true => rw [hgate hc]; rfl
  unfold hostRun
  simp only [hg, hdesc, harg, htgt, hsill, hhole, hpath, hmgmt, Bool.not_true, Bool.or_self, Bool.false_eq_true, if_false,
    Bool.and_false, Bool.false_and, decide_false, hx, holeDone]

/-- The copy that a sender brings completes, and its completion is the last that waits. -/
theorem completeAll_answered (h : Sender) {d d' e : Dev} (hgen : (d'.hep (accIx h.path)).gen = (d.hep (accIx h.path)).gen)
    (st r : Nat) : Answered h st r d (completeAll e [ctxOf d' h] st r) := by
  intro hp
  have hctx : ctxOf d' h = ctxOf d h := by unfold ctxOf; rw [hgen]
  show (complete e (ctxOf d' h) st r 0).host.cpls.getLast? = _
  have hsrc : (ctxOf d h).src = accIx h.path := rfl
  rw [hctx]
  unfold complete
  rw [if_neg (by omega), if_neg (by omega)]
  exact List.getLast?_concat ..

/-- A completion changes the queue of completions and what the service port answers. -/
theorem completeAll_one (e : Dev) (c : HCtx) (st r : Nat) (hp : c.src ≠ 3) :
    ∃ q, completeAll e [c] st r = { e with host := { e.host with cpls := q } } := by
  show ∃ q, complete e c st r 0 = _
  unfold complete
  rw [if_neg hp]
  split
  · exact ⟨e.host.cpls, rfl⟩
  · exact ⟨_, rfl⟩

end Sys2Proof.Machine
end

section
/-! PROOFS about the rails and the steps that name them: what enabling, disabling and stopping a rail writes (R139 to R156, R229). -/

namespace Sys2Proof.Machine
open R

/-! ### Footprints -/

/-- `e` differs from `d` in register fields with a number in `ids` alone, and the shelf's state stands. -/
def WritesOnly (ids : List Nat) (d e : Dev) : Prop := (∀ (r : Reg) (ix : Nat), r.id ∉ ids → e.rd r ix = d.rd r ix) ∧ e.bs = d.bs

section
variable {ids : List Nat} {d e f : Dev}

theorem WritesOnly.refl (ids : List Nat) (d : Dev) : WritesOnly ids d d := ⟨fun _ _ _ => rfl, rfl⟩

theorem WritesOnly.trans (h : WritesOnly ids d e) (h' : WritesOnly ids e f) : WritesOnly ids d f :=
  ⟨fun r ix m => (h'.1 r ix m).trans (h.1 r ix m), h'.2.trans h.2⟩

theorem WritesOnly.wr (h : WritesOnly ids d e) {r : Reg} (m : r.id ∈ ids) (ix v : Nat) : WritesOnly ids d (e.wr r ix v) :=
  ⟨fun r' ix' m' => (Dev.rd_wr_ne e ix ix' v (show r'.id ≠ r.id from fun hid => m' (hid ▸ m))).trans (h.1 r' ix' m'), h.2⟩

/-- A change outside the register file and the shelf's state. -/
theorem WritesOnly.of_regs (h : WritesOnly ids d e) (hr : f.regs = e.regs) (hb : f.bs = e.bs) : WritesOnly ids d f :=
  ⟨fun r ix m => (Dev.rd_congr _ _ hr r ix).trans (h.1 r ix m), hb.trans h.2⟩

theorem WritesOnly.setCh (h : WritesOnly ids d e) (c : Nat) (x : ChanSt) : WritesOnly ids d (e.setCh c x) := h.of_regs rfl rfl
theorem WritesOnly.setPhs (h : WritesOnly ids d e) (n k : Nat) (x : PhSt) : WritesOnly ids d (e.setPhs n k x) := h.of_regs rfl rfl
theorem WritesOnly.setRail (h : WritesOnly ids d e) (n : Nat) (x : RailSt) : WritesOnly ids d (e.setRail n x) := h.of_regs rfl rfl

theorem WritesOnly.forL {α : Type} (h : WritesOnly ids d e) (q : List α) (g : α → Dev → Dev)
    (hg : ∀ a x, WritesOnly ids x (g a x)) : WritesOnly ids d (forL q g e) := by
  unfold Sys2Proof.Machine.forL
  induction q generalizing e with
  | nil => exact h
  | cons a q ih => exact ih (h.trans (hg a e))

theorem WritesOnly.mono {ids' : List Nat} (h : WritesOnly ids d e) (hsub : ids ⊆ ids') : WritesOnly ids' d e :=
  ⟨fun r ix m => h.1 r ix (fun hm => m (hsub hm)), h.2⟩

end

/-! ### Rails (R139 to R156) -/

/-- The register fields that enabling and disabling a rail write. -/
def railIds : List Nat :=
  [VR_STATUS_STATE.id, VR_STATUS_THR.id, VR_STATUS_DWELL.id, VR_STATUS_IDPAUSE.id, VR_STATUS_DERATED.id, VR_FCNT_SENSE.id,
   VR_STATUS_FLT.id, VR_USEMASK.id, VR_STATUS_NUSE.id, VR_ACTMASK.id, VR_STATUS_NACT.id, VR_THOP_MAXSTEP.id,
   CD_ENT_COND_DEGR.id, CD_ENT_HEALTH.id, LS_SETPT.id]

theorem issue_writes (ids : List Nat) (d : Dev) (c opc arg : Nat) : WritesOnly ids d (issue d c opc arg) := by
  unfold issue; dsimp only
  split
  · exact .refl ids d
  · exact (WritesOnly.refl ids d).setCh _ _

theorem healthEval_writes (d : Dev) (c : Nat) : WritesOnly railIds d (healthEval d c) := by
  unfold healthEval; dsimp only
  split
  · exact .refl railIds d
  · exact ((WritesOnly.refl railIds d).wr (by decide) c _).setCh _ _

theorem setCond_degr_writes (d : Dev) (c : Nat) (b : Bool) : WritesOnly railIds d (setCond d CD_ENT_COND_DEGR c b) := by
  unfold setCond
  split
  · exact .refl railIds d
  · exact ((WritesOnly.refl railIds d).wr (by decide) c _).trans (healthEval_writes _ c)

theorem joinTrims_writes (ids : List Nat) (d : Dev) (n old new : Nat) : WritesOnly ids d (joinTrims d n old new) := by
  refine (WritesOnly.refl ids d).forL _ _ (fun h x => ?_)
  split
  · exact .refl ids x
  · exact (WritesOnly.refl ids x).setPhs _ _ _

theorem setMask_writes (d : Dev) (n mask : Nat) : WritesOnly railIds d (setMask d n mask) := by
  unfold setMask; dsimp only
  split
  · exact .refl railIds d
  · exact (((((((joinTrims_writes railIds d n _ mask).wr (by decide) _ _).wr (by decide) _ _).wr (by decide) _ _).wr
      (by decide) _ _).wr (by decide) _ _)).setRail _ _

/-- What a stop of a rail does to its stages' queues. -/
theorem dropQueued_writes (ids : List Nat) (d : Dev) (n : Nat) : WritesOnly ids d
    (forL (railChans d n) (fun c d => d.setCh c { d.chn c with q := (d.chn c).q.filter quarSends }) d) :=
  (WritesOnly.refl ids d).forL _ _ (fun _ x => (WritesOnly.refl ids x).setCh _ _)

/-- The registers of a stopped rail before its queues are dropped. -/
def railStopRegs (d : Dev) (n : Nat) : Dev :=
  ((((setMask d n 0).wr VR_STATUS_STATE n vrOff).wr VR_STATUS_THR n 0).wr VR_STATUS_DWELL n 0).wr VR_STATUS_IDPAUSE n 0

theorem railStop_regs (d : Dev) (n : Nat) (ids : List Nat) : WritesOnly ids (railStopRegs d n) (railStop d n) :=
  (dropQueued_writes ids (railStopRegs d n) n).setRail _ _

theorem railStop_writes (d : Dev) (n : Nat) : WritesOnly railIds d (railStop d n) := by
  have hregs : WritesOnly railIds d (railStopRegs d n) :=
    ((((setMask_writes d n 0).wr (by decide) _ _).wr (by decide) _ _).wr (by decide) _ _).wr (by decide) _ _
  exact hregs.trans (railStop_regs d n railIds)

/-- A stopped rail is OFF. -/
theorem railStop_state (d : Dev) (n : Nat) : railState (railStop d n) n = vrOff := by
  refine ((railStop_regs d n []).1 VR_STATUS_STATE n (by decide)).trans ?_
  unfold railStopRegs
  rw [Dev.rd_wr_ne _ _ _ _ (by decide), Dev.rd_wr_ne _ _ _ _ (by decide), Dev.rd_wr_ne _ _ _ _ (by decide), Dev.rd_wr]
  rfl

theorem railDisable_writes (d : Dev) (n : Nat) : WritesOnly railIds d (railDisable d n) := by
  unfold railDisable; dsimp only
  split
  · exact railStop_writes d n
  · split
    · split
      · split
        · exact railStop_writes d n
        · exact ((WritesOnly.refl railIds d).wr (by decide) _ _).wr (by decide) _ _
      · exact railStop_writes d n
    · exact .refl railIds d

theorem railClear_writes (d : Dev) (n : Nat) : WritesOnly railIds d (railClear d n) := by
  have hstages : ∀ (c : Nat) (x : Dev) (y : PhSt),
      WritesOnly railIds x (setCond (x.setPhs n (hopOf x n c) y) CD_ENT_COND_DEGR c false) := fun c x y =>
    ((WritesOnly.refl railIds x).setPhs _ _ _).trans (setCond_degr_writes _ c false)
  exact ((((WritesOnly.refl railIds d).forL _ _ (fun c x => hstages c x _)).wr (by decide) _ _).wr (by decide) _ _).wr
    (by decide) _ _

/-- The commands that an enabled rail sends to its stages. -/
def railIssue (d : Dev) (n : Nat) : Dev :=
  let lead := railLead d n
  let d := issueRegWr d lead 0x0040 (d.rd VR_THOP_THOP n)
  let d := issueRegWr d lead 0x0041 (d.rd VR_LIM_VBLANK n)
  let d := issueRegWr d lead 0x0042 (d.rd VR_CFG_DIV n)
  forL (railChans d n) (fun c d =>
    let d := issueRegWr d c 0x0043 (d.rd VR_SNS_DIMIN n)
    if health d c = 5 then issueRun d c else d) d

theorem railIssue_writes (ids : List Nat) (d : Dev) (n : Nat) : WritesOnly ids d (railIssue d n) := by
  unfold railIssue
  refine WritesOnly.forL (((issue_writes ids ..).trans (issue_writes ids ..)).trans (issue_writes ids ..)) _ _ (fun c x => ?_)
  dsimp only
  split
  · exact (issue_writes ids ..).trans (issue_writes ids ..)
  · exact issue_writes ids ..

/-- A configured rail that is OFF is cleared, its stages are told, and it enters PREP. -/
theorem railEnable_eq {d : Dev} {n : Nat} (hoff : railState d n = vrOff) (hc : railConf d n = true) :
    ∃ x : RailSt, railEnable d n =
      showUsable (((railIssue (railClear d n) n).wr VR_STATUS_STATE n vrPrep).setRail n x) n := by
  unfold railEnable
  rw [if_neg (by simp [hoff, hc])]
  exact ⟨_, rfl⟩

theorem railEnable_writes (d : Dev) (n : Nat) : WritesOnly railIds d (railEnable d n) := by
  by_cases h : railState d n ≠ vrOff ∨ !railConf d n
  · unfold railEnable
    rw [if_pos h]
    exact .refl railIds d
  · have h' : railState d n = vrOff ∧ railConf d n = true := by simpa using h
    obtain ⟨x, hx⟩ := railEnable_eq h'.1 h'.2
    rw [hx]
    exact (((((railClear_writes d n).trans (railIssue_writes railIds _ n)).wr (by decide) n _).setRail n x).wr
      (by decide) _ _).wr (by decide) _ _

/-- An enabled rail is in PREP. -/
theorem railEnable_state {d : Dev} {n : Nat} (hoff : railState d n = vrOff) (hc : railConf d n = true) :
    railState (railEnable d n) n = vrPrep := by
  obtain ⟨x, hx⟩ := railEnable_eq hoff hc
  rw [hx]
  unfold railState showUsable
  dsimp only
  rw [Dev.rd_wr_ne _ _ _ _ (by decide), Dev.rd_wr_ne _ _ _ _ (by decide), Dev.setRail_rd, Dev.rd_wr]
  rfl

/-! ### The steps of the sequence that name a rail (R229, R236) -/

/-- A step shows the state it was given. -/
theorem stepState_setStep (d : Dev) {x st : Nat} (hst : st < 16) : stepState (setStep d x st) x = st := by
  have hw : 4 * (x % 8) + 4 ≤ SQ_STEPST.w := by
    show _ ≤ 32
    omega
  unfold stepState setStep
  rw [Dev.rd_wr, bitsOf_mod hw, bitsOf_setBits]
  exact Nat.mod_eq_of_lt hst

/-- Fields that turning a rail on or off for its step writes. -/
def stepRailIds : List Nat := [SQ_RAIL_STARTS.id, SQ_SAT_0.id, SQ_SAT_1.id, SQ_SAT_2.id] ++ railIds

theorem railIds_sub : railIds ⊆ stepRailIds := List.subset_append_right ..

theorem railCnt_writes (d : Dev) (n : Nat) : WritesOnly stepRailIds d (railCnt d SQ_RAIL_STARTS n 0) := by
  have hinc : WritesOnly stepRailIds d (d.inc SQ_RAIL_STARTS n) :=
    (WritesOnly.refl _ d).wr (by decide) n _
  unfold railCnt; dsimp only
  split
  · exact hinc.wr (by decide) 0 _
  · exact hinc

theorem setPend_rail_writes (ids : List Nat) (d : Dev) (n : Nat) (p : Option Bool) : WritesOnly ids d (setPend d 1 n p) :=
  (WritesOnly.refl ids d).setRail _ _

theorem targetOn_rail_writes {d : Dev} {x : Nat} (hk : stepKind d x = 1) : WritesOnly stepRailIds d (targetOn d x) := by
  unfold targetOn
  simp only [hk]
  split
  · exact (railCnt_writes d _).trans (setPend_rail_writes _ _ _ _)
  · exact (railCnt_writes d _).trans ((railEnable_writes _ _).mono railIds_sub)

theorem targetOff_rail_writes {d : Dev} {x : Nat} (hk : stepKind d x = 1) : WritesOnly stepRailIds d (targetOff d x) := by
  unfold targetOff
  simp only [hk]
  exact (setPend_rail_writes _ d _ none).trans ((railDisable_writes _ _).mono railIds_sub)

/-- The step that `stepOf` names is one of the sequence and of its kind. -/
theorem stepOf_some {d : Dev} {kind num x : Nat} (h : stepOf d kind num = some x) : x < nStep d ∧ stepKind d x = kind := by
  have hx := List.find?_some h
  have hm := List.mem_of_find?_eq_some h
  exact ⟨List.mem_range.mp hm, by simpa using (Bool.and_eq_true_iff.mp hx).1⟩

/-- SEQ_STEPON of a step in HOSTOFF whose rail is not shed (R236). -/
theorem seqStepOn_rail {d : Dev} {n x : Nat} (hx : stepOf d 1 n = some x) (hon : sqState d = sqOn)
    (hst : stepState d x = stHostoff) (hsh : stepShed d x = false) :
    ∃ e, seqStepOn d x = (false, e) ∧ stepState e x = stUpwait ∧ e.bs = d.bs := by
  obtain ⟨hlt, hkind⟩ := stepOf_some hx
  have heq : seqStepOn d x = (false, targetOn (setStep (d.setStp x { beg := d.cur }) x stUpwait) x) := by
    unfold seqStepOn
    dsimp only
    rw [if_neg (by simp [hlt, hon, hst]), if_neg (by simp [hsh])]
  have hk : stepKind (setStep (d.setStp x { beg := d.cur }) x stUpwait) x = 1 :=
    (Dev.rd_wr_ne _ _ _ _ (show SQ_STEP_KIND.id ≠ SQ_STEPST.id by decide)).trans hkind
  obtain ⟨hrd, hbs⟩ := targetOn_rail_writes hk
  refine ⟨_, heq, ?_, hbs⟩
  unfold stepState
  rw [hrd SQ_STEPST _ (by decide)]
  exact stepState_setStep _ (by decide)

/-- SEQ_STEPOFF of a step (R236). -/
theorem seqStepOff_rail {d : Dev} {n x : Nat} (hx : stepOf d 1 n = some x) (hon : sqState d = sqOn) :
    stepState (seqStepOff d x).2 x = stHostoff ∧ (seqStepOff d x).2.rd SQ_STATUS_STATE = sqOn ∧
      (seqStepOff d x).2.bs = d.bs := by
  obtain ⟨hlt, hkind⟩ := stepOf_some hx
  obtain ⟨hrd, hbs⟩ := targetOff_rail_writes hkind
  have heq : seqStepOff d x = (false, setStep ((targetOff d x).setStp x {}) x stHostoff) := by
    unfold seqStepOff
    rw [if_neg (by simp [hlt, hon])]
  rw [heq]
  refine ⟨stepState_setStep _ (by decide), ?_, hbs⟩
  exact (Dev.rd_wr_ne _ _ _ _ (by decide)).trans ((hrd SQ_STATUS_STATE 0 (by decide)).trans hon)

end Sys2Proof.Machine
end

section
/-! PROOFS about the host commands of rails and fuses (R25, R156, R212, R236, R291). -/

namespace Sys2Proof.Machine
open R

/-! ### A command to a unit, from its row to its completion -/

/-- The checks of R292 on a command that names a unit, in the state that its turn finds. -/
theorem unitCmd_of_sender {s : State} {h : Sender} {op : Nat} {args : List (Nat × List Nat)} {x : HCmd} (hop : op < 65536)
    (hp : h.path ≠ .sp) (hsill : s.atCommands.dev.sill = false)
    (hgate : gatedOps.contains op = true → s.atCommands.dev.fl GL_STATUS_MHALT = false)
    (hdesc : descOk (descOf op h args) x.used = true) (harg : x.argOk = true) (htgt : x.target = true) (hhole : x.hole = none)
    (hmgmt : x.mgmt = false) :
    UnitCmd (s.atCommands.on handOver) (descOf op h args) [ctxOf (s.atCommands.on handOver).dev h] x := by
  refine ⟨fun hg => hgate ?_, hdesc, harg, htgt, hsill, hhole, ?_, hmgmt⟩
  · rwa [descOp_descOf hop] at hg
  · exact Nat.ne_of_lt (accIx_lt hp)

/-- A command to a unit executes where its turn has come, and its completion is the last that waits. -/
theorem completes_unitCmd {c : Instr} {s : State} {h : Sender} {op st : Nat} {args : List (Nat × List Nat)}
    {mk : Sys → List Nat → List HCtx → HCmd} {P : Dev → Prop} {e : Dev} (he : exec c s = sysRow (hostCmd op h args mk) s)
    (ht : s.turn) (hp : h.path ≠ .sp)
    {x : HCmd} (hx : mk (s.atCommands.on handOver) (descOf op h args) [ctxOf (s.atCommands.on handOver).dev h] = x)
    (hu : UnitCmd (s.atCommands.on handOver) (descOf op h args) [ctxOf (s.atCommands.on handOver).dev h] x)
    (hact : x.act (s.atCommands.on handOver) = .fin st 0 { s.atCommands with dev := e })
    (hbs : e.bs = s.atCommands.dev.bs) (hP : ∀ q, P { e with host := { e.host with cpls := q } }) :
    ∃ t : State, exec c s = .next t ∧ t.pending = s.pending ∧ P t.sys.dev ∧ Answered h st 0 s.atCommands.dev t.sys.dev := by
  have hrun : hostDirect (s.atCommands.on handOver) op h args mk =
      { s.atCommands with dev := completeAll e [ctxOf (s.atCommands.on handOver).dev h] st 0 } := by
    subst hx
    exact hostRun_unit hu hact
  obtain ⟨q, hq⟩ := completeAll_one e (ctxOf (s.atCommands.on handOver).dev h) st 0 (Nat.ne_of_lt (accIx_lt hp))
  obtain ⟨-, ⟨-, -, hshed⟩, -⟩ := id ht
  refine completes_hostCmd (Q := fun x => P x.dev ∧ Answered h st 0 s.atCommands.dev x.dev) op h args mk he ht ?_ ?_
  · rw [hrun, hq]
    exact (congrArg ShelfSt.shedReq hbs).trans hshed
  · rw [hrun]
    refine ⟨?_, completeAll_answered h rfl st 0⟩
    show P (completeAll e [ctxOf (s.atCommands.on handOver).dev h] st 0)
    rw [hq]
    exact hP q

/-- The same for a command whose only argument names its unit. -/
theorem completes_unitArg {c : Instr} {s : State} {h : Sender} {op st : Nat} {n : Byte} {mk : Sys → List Nat → List HCtx → HCmd}
    {P : Dev → Prop} {e : Dev} (he : exec c s = sysRow (hostCmd op h [(16, [n.toNat])] mk) s)
    (ht : s.turn) (hp : h.path ≠ .sp) (hl : h.lcl = false) (hsill : s.atCommands.dev.sill = false) (hop : op < 65536)
    (hgate : gatedOps.contains op = true → s.atCommands.dev.fl GL_STATUS_MHALT = false)
    {x : HCmd} (hx : mk (s.atCommands.on handOver) (descOf op h [(16, [n.toNat])]) [ctxOf (s.atCommands.on handOver).dev h] = x)
    (hused : x.used = [(16, 1)]) (harg : x.argOk = true) (htgt : x.target = true) (hhole : x.hole = none) (hmgmt : x.mgmt = false)
    (hact : x.act (s.atCommands.on handOver) = .fin st 0 { s.atCommands with dev := e })
    (hbs : e.bs = s.atCommands.dev.bs) (hP : ∀ q, P { e with host := { e.host with cpls := q } }) :
    ∃ t : State, exec c s = .next t ∧ t.pending = s.pending ∧ P t.sys.dev ∧ Answered h st 0 s.atCommands.dev t.sys.dev := by
  refine completes_unitCmd he ht hp hx (unitCmd_of_sender hop hp hsill hgate ?_ harg htgt hhole hmgmt) hact hbs hP
  rw [hused]
  exact descOk_unit op hl n.toNat

/-! ### Rails (R156, R236) -/

theorem railOk_lt {d : Dev} {n : Nat} (h : railOk d n = true) : decide (n < 16) = true := (Bool.and_eq_true_iff.mp h).1
theorem railOk_conf {d : Dev} {n : Nat} (h : railOk d n = true) : railConf d n = true := (Bool.and_eq_true_iff.mp h).2
theorem fuseOk_lt {d : Dev} {f : Nat} (h : fuseOk d f = true) : decide (f < 64) = true := (Bool.and_eq_true_iff.mp h).1
theorem fuseOk_valid {d : Dev} {f : Nat} (h : fuseOk d f = true) : fuValid d f = true := (Bool.and_eq_true_iff.mp h).2

/-- RAIL_ON: what the claim or the step answers is the completion's status. -/
theorem completes_railOn {s : State} {h : Sender} {n : Byte} {P : Dev → Prop} {no : Bool} {e : Dev} (ht : s.turn) (hp : h.path ≠ .sp)
    (hl : h.lcl = false) (hsill : s.atCommands.dev.sill = false) (hok : railOk s.atCommands.dev n.toNat = true)
    (hact : hostRailOn (handOver s.atCommands.dev) n.toNat = (no, e)) (hbs : e.bs = s.atCommands.dev.bs)
    (hP : ∀ q, P { e with host := { e.host with cpls := q } }) :
    ∃ t : State, exec (.railOn h n) s = .next t ∧ t.pending = s.pending ∧ P t.sys.dev ∧
      Answered h (if no then stRefused else stSuccess) 0 s.atCommands.dev t.sys.dev := by
  have hmk : hcRailOn (s.atCommands.on handOver) (descOf 0x0101 h [(16, [n.toNat])]) [ctxOf (s.atCommands.on handOver).dev h] =
      { used := [(16, 1)], argOk := decide (n.toNat < 16), target := railOk s.atCommands.dev n.toNat,
        act := tryDev (fun d => hostRailOn d n.toNat) } := by
    unfold hcRailOn
    rw [a1_unit]
    rfl
  refine completes_unitArg rfl ht hp hl hsill (by decide) (fun hg => absurd hg (by decide)) hmk rfl (railOk_lt hok) hok rfl rfl
    ?_ hbs hP
  show tryDev (fun d => hostRailOn d n.toNat) (s.atCommands.on handOver) = _
  unfold tryDev
  show (match hostRailOn (handOver s.atCommands.dev) n.toNat with
    | (no, d) => HRes.fin (if no then stRefused else stSuccess) 0 { s.atCommands.on handOver with dev := d }) = _
  rw [hact]
  rfl

/-- A command that names a unit, changes the device and always succeeds. -/
theorem completes_okDev {c : Instr} {s : State} {h : Sender} {op : Nat} {n : Byte} {mk : Sys → List Nat → List HCtx → HCmd}
    {P : Dev → Prop} {f : Dev → Dev} {e : Dev} {ok tgt : Bool} {level : Nat}
    (he : exec c s = sysRow (hostCmd op h [(16, [n.toNat])] mk) s) (ht : s.turn) (hp : h.path ≠ .sp) (hl : h.lcl = false)
    (hsill : s.atCommands.dev.sill = false) (hop : op < 65536)
    (hgate : gatedOps.contains op = true → s.atCommands.dev.fl GL_STATUS_MHALT = false)
    (hmk : mk (s.atCommands.on handOver) (descOf op h [(16, [n.toNat])]) [ctxOf (s.atCommands.on handOver).dev h] =
      { used := [(16, 1)], argOk := ok, target := tgt, level := level, act := okDev f }) (hok : ok = true) (htgt : tgt = true)
    (hfe : f (handOver s.atCommands.dev) = e) (hbs : e.bs = s.atCommands.dev.bs)
    (hP : ∀ q, P { e with host := { e.host with cpls := q } }) :
    ∃ t : State, exec c s = .next t ∧ t.pending = s.pending ∧ P t.sys.dev ∧
      Answered h stSuccess 0 s.atCommands.dev t.sys.dev := by
  subst hfe
  exact completes_unitArg he ht hp hl hsill hop hgate hmk rfl hok htgt rfl rfl rfl hbs hP

/-- RAIL_OFF. -/
theorem completes_railOff {s : State} {h : Sender} {n : Byte} {P : Dev → Prop} {e : Dev} (ht : s.turn) (hp : h.path ≠ .sp)
    (hl : h.lcl = false) (hhalt : s.atCommands.dev.fl GL_STATUS_MHALT = false) (hsill : s.atCommands.dev.sill = false)
    (hok : railOk s.atCommands.dev n.toNat = true) (hfe : hostOff (handOver s.atCommands.dev) 1 n.toNat = e)
    (hbs : e.bs = s.atCommands.dev.bs) (hP : ∀ q, P { e with host := { e.host with cpls := q } }) :
    ∃ t : State, exec (.railOff h n) s = .next t ∧ t.pending = s.pending ∧ P t.sys.dev ∧
      Answered h stSuccess 0 s.atCommands.dev t.sys.dev :=
  completes_okDev (mk := hcRailOff) rfl ht hp hl hsill (by decide) (fun _ => hhalt) rfl (railOk_lt hok) hok hfe hbs hP

/-- FUSE_ON. -/
theorem completes_fuseOn {s : State} {h : Sender} {f : Byte} {P : Dev → Prop} {e : Dev} (ht : s.turn) (hp : h.path ≠ .sp)
    (hl : h.lcl = false) (hsill : s.atCommands.dev.sill = false) (hok : fuseOk s.atCommands.dev f.toNat = true)
    (hfe : fuCmdOn (handOver s.atCommands.dev) f.toNat = e) (hbs : e.bs = s.atCommands.dev.bs)
    (hP : ∀ q, P { e with host := { e.host with cpls := q } }) :
    ∃ t : State, exec (.fuseOn h f) s = .next t ∧ t.pending = s.pending ∧ P t.sys.dev ∧
      Answered h stSuccess 0 s.atCommands.dev t.sys.dev :=
  completes_okDev (mk := hcFuseOn) rfl ht hp hl hsill (by decide) (fun hg => absurd hg (by decide)) rfl (fuseOk_lt hok) hok
    hfe hbs hP

/-- FUSE_OFF. -/
theorem completes_fuseOff {s : State} {h : Sender} {f : Byte} {P : Dev → Prop} {e : Dev} (ht : s.turn) (hp : h.path ≠ .sp)
    (hl : h.lcl = false) (hhalt : s.atCommands.dev.fl GL_STATUS_MHALT = false) (hsill : s.atCommands.dev.sill = false)
    (hok : fuseOk s.atCommands.dev f.toNat = true) (hfe : fuCmdOff (handOver s.atCommands.dev) f.toNat = e)
    (hbs : e.bs = s.atCommands.dev.bs) (hP : ∀ q, P { e with host := { e.host with cpls := q } }) :
    ∃ t : State, exec (.fuseOff h f) s = .next t ∧ t.pending = s.pending ∧ P t.sys.dev ∧
      Answered h stSuccess 0 s.atCommands.dev t.sys.dev :=
  completes_okDev (mk := hcFuseOff) rfl ht hp hl hsill (by decide) (fun _ => hhalt) rfl (fuseOk_lt hok) hok hfe hbs hP

/-- FUSE_RESET. -/
theorem completes_fuseReset {s : State} {h : Sender} {f : Byte} {P : Dev → Prop} {e : Dev} (ht : s.turn) (hp : h.path ≠ .sp)
    (hl : h.lcl = false) (hsill : s.atCommands.dev.sill = false) (hok : fuseOk s.atCommands.dev f.toNat = true)
    (hfe : fuReset (handOver s.atCommands.dev) f.toNat = e) (hbs : e.bs = s.atCommands.dev.bs)
    (hP : ∀ q, P { e with host := { e.host with cpls := q } }) :
    ∃ t : State, exec (.fuseReset h f) s = .next t ∧ t.pending = s.pending ∧ P t.sys.dev ∧
      Answered h stSuccess 0 s.atCommands.dev t.sys.dev :=
  completes_okDev (mk := hcFuseReset) rfl ht hp hl hsill (by decide) (fun hg => absurd hg (by decide)) rfl (fuseOk_lt hok) hok
    hfe hbs hP

/-- RAIL_VSET. -/
theorem completes_railVset {s : State} {h : Sender} {n : Byte} {v : Word} {P : Dev → Prop} {e : Dev} (ht : s.turn)
    (hp : h.path ≠ .sp) (hl : h.lcl = false) (hsill : s.atCommands.dev.sill = false)
    (hok : railOk s.atCommands.dev n.toNat = true) (hfe : (handOver s.atCommands.dev).wr VR_VSET n.toNat v.toNat = e)
    (hbs : e.bs = s.atCommands.dev.bs) (hP : ∀ q, P { e with host := { e.host with cpls := q } }) :
    ∃ t : State, exec (.railVset h n v) s = .next t ∧ t.pending = s.pending ∧ P t.sys.dev ∧
      Answered h stSuccess 0 s.atCommands.dev t.sys.dev := by
  have hmk : hcRailVset (s.atCommands.on handOver) (descOf 0x0100 h [(16, [n.toNat]), (20, le 4 v.toNat)])
      [ctxOf (s.atCommands.on handOver).dev h] =
      { used := [(16, 1), (20, 4)], argOk := decide (n.toNat < 16), target := railOk s.atCommands.dev n.toNat,
        act := okDev (fun d => d.wr VR_VSET n.toNat v.toNat) } := by
    unfold hcRailVset
    rw [a1_vset, a4_vset]
    rfl
  subst hfe
  exact completes_unitCmd rfl ht hp hmk (unitCmd_of_sender (by decide) hp hsill (fun hg => absurd hg (by decide))
    (descOk_vset hl n.toNat v.toNat) (railOk_lt hok) hok rfl rfl) rfl hbs hP

/-! ### The claim of a rail (R25) -/

/-- A claim for a rail that no step names, which is neither shed nor ramping down, enables it. -/
theorem hostRailOn_claims {d : Dev} {n : Nat} (hs : stepOf d 1 n = none) (hsh : kindShed d 1 n = false)
    (hst : railState d n ≠ vrRampdn) : hostRailOn d n = (false, railEnable (setPend d 1 n none) n) := by
  have hlost : ((true && kindShed d 1 n) || seqClaim d 1 n == some (!true) || (true && 1 == 1 && railState d n == vrRampdn))
      = false := by
    simp [seqClaim, hs, hsh, hst]
  unfold hostRailOn hostClaim
  simp only [hs, hlost, if_true, Bool.false_eq_true, if_false, targetAct]

/-- One that is shed or ramping down waits. -/
theorem hostRailOn_waits {d : Dev} {n : Nat} (hs : stepOf d 1 n = none)
    (hlost : kindShed d 1 n = true ∨ railState d n = vrRampdn) : hostRailOn d n = (false, setPend d 1 n (some true)) := by
  have hlost' : ((true && kindShed d 1 n) || seqClaim d 1 n == some (!true) || (true && 1 == 1 && railState d n == vrRampdn))
      = true := by
    cases hlost with
    | inl hsh => simp [hsh]
    | inr hst => simp [hst]
  unfold hostRailOn hostClaim
  simp only [hs, hlost', if_true]

/-- OFF of a rail in PREP that no step names stops it. -/
theorem hostOff_prep {d : Dev} {n : Nat} (hs : stepOf d 1 n = none) (hst : railState d n = vrPrep) :
    hostOff d 1 n = railStop (setPend d 1 n none) n := by
  have hlost : ((false && kindShed d 1 n) || seqClaim d 1 n == some (!false) || (false && 1 == 1 && railState d n == vrRampdn))
      = false := by
    simp [seqClaim, hs]
  have hst' : railState (setPend d 1 n none) n = vrPrep := hst
  unfold hostOff hostClaim
  simp only [hs, hlost, Bool.false_eq_true, if_false, targetAct]
  unfold railDisable
  simp only [hst', if_true]

/-- A completion that joins its queue writes no register field. -/
theorem KeepsBut.withCpls {l : List (Reg × Nat)} {a b : Dev} (h : KeepsBut l a b) (q : List CplItem) :
    KeepsBut l a { b with host := { b.host with cpls := q } } := h

/-- Settles O26: each command passes the checks of R292, and its execution is the claim, the step or the register command. -/
theorem railAndFuseCommandsAct : Obligations.RailAndFuseCommandsAct := by
  unfold Obligations.RailAndFuseCommandsAct
  refine ⟨fun s h n v ht hp hl hsill hok => ?vset, fun s h n ht hp hl hsill hok hs hsh hst => ?on,
    fun s h n ht hp hl hsill hok hs hlost => ?pend, fun s h n x ht hp hl hsill hok hx hon hst hsh _ => ?stepon,
    fun s h n x ht hp hl hsill hok hx hon => ?refused, fun s h n x ht hp hl hhalt hsill hok hx hon _ => ?stepoff,
    fun s h n ht hp hl hhalt hsill hok hs hst => ?off, fun s h f c ht hp hl hsill hok hg hps hst hcls hseq hc hsmp hoff => ?fuseOn,
    fun s h f ht hp hl hsill hok hg hps hst hcls => ?fusePend, fun s h f ht hp hl hhalt hsill hok hg hps hst hs => ?fuseOff,
    fun s h f ht hp hl hsill hok hst hw => ?fuseReset⟩
  case vset =>
    have hv : v.toNat % 2 ^ VR_VSET.w = v.toNat := Nat.mod_eq_of_lt v.isLt
    obtain ⟨t, he, hpend, ⟨hrd, hkeep⟩, hans⟩ := completes_railVset (v := v)
      (P := fun x => x.rd VR_VSET n.toNat = v.toNat ∧ KeepsBut [(VR_VSET, n.toNat)] s.atCommands.dev x) ht hp hl hsill hok rfl rfl
      (fun q => ⟨(Dev.rd_wr ..).trans hv, (((KeepsBut.refl _ _).handOver).wr _ _ _ (by simp)).withCpls q⟩)
    exact ⟨t, he, hpend, hrd, hkeep, hans⟩
  case on =>
    have heq := hostRailOn_claims (d := handOver s.atCommands.dev) hs hsh (fun hr => absurd (hst.symm.trans hr) (by decide))
    have hprep := railEnable_state (d := setPend (handOver s.atCommands.dev) 1 n.toNat none) hst (railOk_conf hok)
    have hbs := (railEnable_writes (setPend (handOver s.atCommands.dev) 1 n.toNat none) n.toNat).2
    generalize railEnable (setPend (handOver s.atCommands.dev) 1 n.toNat none) n.toNat = e at heq hprep hbs
    exact completes_railOn (P := fun x => x.rd VR_STATUS_STATE n.toNat = vrPrep) ht hp hl hsill hok heq hbs (fun _ => hprep)
  case pend =>
    obtain ⟨t, he, hpend, ⟨hp', hkeep⟩, hans⟩ := completes_railOn
      (P := fun x => (x.rail n.toNat).pend = some true ∧ KeepsBut [] s.atCommands.dev x) ht hp hl hsill hok
      (hostRailOn_waits (d := handOver s.atCommands.dev) hs hlost) rfl
      (fun q => ⟨congrArg RailSt.pend (Dev.rail_setRail ..), (((KeepsBut.refl [] _).handOver).setRail _ _).withCpls q⟩)
    exact ⟨t, he, hpend, hp', hkeep, hans⟩
  case stepon =>
    obtain ⟨e, heq, hup, hbs⟩ := seqStepOn_rail (d := handOver s.atCommands.dev) hx hon hst hsh
    have hrail : hostRailOn (handOver s.atCommands.dev) n.toNat = (false, e) := by
      have hx' : stepOf (handOver s.atCommands.dev) 1 n.toNat = some x := hx
      unfold hostRailOn
      simp only [hx', heq]
    exact completes_railOn (P := fun y => stepState y x = stUpwait) ht hp hl hsill hok hrail hbs (fun _ => hup)
  case refused =>
    have hrail : hostRailOn (handOver s.atCommands.dev) n.toNat = (true, (handOver s.atCommands.dev).ev SQ_EVT_REFUSED) := by
      have hx' : stepOf (handOver s.atCommands.dev) 1 n.toNat = some x := hx
      have hon' : sqState (handOver s.atCommands.dev) ≠ sqOn := hon
      unfold hostRailOn seqStepOn
      simp only [hx', hon', ne_eq, not_false_eq_true, true_or, or_true, if_true]
    obtain ⟨t, he, hpend, ⟨hfl, hkeep⟩, hans⟩ := completes_railOn
      (P := fun y => y.fl SQ_EVT_REFUSED = true ∧ KeepsBut [(SQ_EVT_REFUSED, 0)] s.atCommands.dev y) ht hp hl hsill hok hrail
      (by simp) (fun q => ⟨Dev.fl_ev _ _ _ rfl, (((KeepsBut.refl _ _).handOver).ev _ _ (by simp)).withCpls q⟩)
    exact ⟨t, he, hpend, hfl, hkeep, hans⟩
  case stepoff =>
    obtain ⟨hoff, hsq, hbs⟩ := seqStepOff_rail (d := handOver s.atCommands.dev) hx hon
    have heq : hostOff (handOver s.atCommands.dev) 1 n.toNat = (seqStepOff (handOver s.atCommands.dev) x).2 := by
      have hx' : stepOf (handOver s.atCommands.dev) 1 n.toNat = some x := hx
      have hon' : sqState (handOver s.atCommands.dev) = sqOn := hon
      unfold hostOff
      simp only [hx', hon', if_true]
    generalize (seqStepOff (handOver s.atCommands.dev) x).2 = e at hoff hsq hbs heq
    obtain ⟨t, he, hpend, ⟨h1, h2⟩, hans⟩ := completes_railOff
      (P := fun y => stepState y x = stHostoff ∧ y.rd SQ_STATUS_STATE = sqOn) ht hp hl hhalt hsill hok heq hbs
      (fun _ => ⟨hoff, hsq⟩)
    exact ⟨t, he, hpend, h1, h2, hans⟩
  case off =>
    have heq := hostOff_prep (d := handOver s.atCommands.dev) hs hst
    have hoff := railStop_state (setPend (handOver s.atCommands.dev) 1 n.toNat none) n.toNat
    have hbs := (railStop_writes (setPend (handOver s.atCommands.dev) 1 n.toNat none) n.toNat).2
    generalize railStop (setPend (handOver s.atCommands.dev) 1 n.toNat none) n.toNat = e at heq hoff hbs
    exact completes_railOff (P := fun y => y.rd VR_STATUS_STATE n.toNat = vrOff) ht hp hl hhalt hsill hok heq hbs (fun _ => hoff)
  case fuseOn =>
    have hview := fuCmdOn_fuView (handOver s.atCommands.dev) (fuseOk_valid hok) hg hps hst hcls hseq hc hsmp hoff
    simp only [fuView, fuState, Prod.mk.injEq] at hview
    generalize heq : fuCmdOn (handOver s.atCommands.dev) f.toNat = e at hview
    obtain ⟨hstate, hwant, hpend, hbs⟩ := hview
    obtain ⟨t, he, hpn, ⟨h1, h2, h3⟩, hans⟩ := completes_fuseOn
      (P := fun y => y.rd FU_STATUS_STATE f.toNat = fuRamp ∧ (y.fuz f.toNat).want = true ∧ (y.fuz f.toNat).pend = none)
      ht hp hl hsill hok heq hbs (fun _ => ⟨hstate, hwant, hpend⟩)
    exact ⟨t, he, hpn, h1, h2, h3, hans⟩
  case fusePend =>
    have hlock : fuState (handOver s.atCommands.dev) f.toNat ≠ fuLockout := fun h => absurd (hst.symm.trans h) (by decide)
    have heq : fuCmdOn (handOver s.atCommands.dev) f.toNat = setPend (handOver s.atCommands.dev) 2 f.toNat (some true) :=
      (fuCmdOn_claims (handOver s.atCommands.dev) (fuseOk_valid hok) hg hps).trans (hostClaim_loses _ hlock (.inl hcls))
    obtain ⟨t, he, hpn, ⟨h1, h2⟩, hans⟩ := completes_fuseOn
      (P := fun y => (y.fuz f.toNat).pend = some true ∧ KeepsBut [] s.atCommands.dev y) ht hp hl hsill hok heq rfl
      (fun q => ⟨congrArg FuseSt.pend (Dev.fuz_setFuse ..), (((KeepsBut.refl [] _).handOver).setFuse _ _).withCpls q⟩)
    exact ⟨t, he, hpn, h1, h2, hans⟩
  case fuseOff =>
    have hspec := fuCmdOff_off (handOver s.atCommands.dev) (fuseOk_valid hok) hg hps hst hs
    generalize heq : fuCmdOff (handOver s.atCommands.dev) f.toNat = e at hspec
    obtain ⟨hoff, hwant, hkeep, hbs⟩ := hspec
    obtain ⟨t, he, hpn, ⟨h1, h2, h3⟩, hans⟩ := completes_fuseOff
      (P := fun y => y.rd FU_STATUS_STATE f.toNat = fuOff ∧ (y.fuz f.toNat).want = false ∧
        KeepsBut [(FU_STATUS_STATE, f.toNat)] s.atCommands.dev y) ht hp hl hhalt hsill hok heq hbs
      (fun q => ⟨hoff, hwant, (((KeepsBut.refl _ _).handOver).trans hkeep).withCpls q⟩)
    exact ⟨t, he, hpn, h1, h2, h3, hans⟩
  case fuseReset =>
    have hspec := fuReset_off (handOver s.atCommands.dev) hst hw
    generalize heq : fuReset (handOver s.atCommands.dev) f.toNat = e at hspec
    obtain ⟨hoff, hcnt, himpl, hkeep, hbs⟩ := hspec
    obtain ⟨t, he, hpn, ⟨h1, h2, h3, h4⟩, hans⟩ := completes_fuseReset
      (P := fun y => y.rd FU_STATUS_STATE f.toNat = fuOff ∧ y.rd FU_STATUS_RCNT f.toNat = 0 ∧
        y.fl FU_STATUS_IMPL f.toNat = false ∧ KeepsBut [(FU_STATUS_STATE, f.toNat), (FU_STATUS_RCNT, f.toNat),
        (FU_STATUS_IMPL, f.toNat)] s.atCommands.dev y) ht hp hl hsill hok heq hbs
      (fun q => ⟨hoff, hcnt, himpl, (((KeepsBut.refl _ _).handOver).trans hkeep).withCpls q⟩)
    exact ⟨t, he, hpn, h1, h2, h3, h4, hans⟩

end Sys2Proof.Machine
end

section
/-! PROOFS about single bits of a register value: what setting one shows. -/

namespace Sys2Proof.Machine

/-- A bit is a bit field one wide. -/
theorem bitOf_eq_bitsOf (v i : Nat) : bitOf v i = decide (bitsOf v i 1 = 1) := rfl

/-- A bit of a value cut above it. -/
theorem bitOf_mod {v i n : Nat} (h : i < n) : bitOf (v % 2 ^ n) i = bitOf v i := by
  rw [bitOf_eq_bitsOf, bitOf_eq_bitsOf, bitsOf_mod h]

/-- A bit that is set or cleared shows it. -/
theorem bitOf_setBit (v i : Nat) (b : Bool) : bitOf (setBit v i b) i = b := by
  have hpos : 0 < 2 ^ i := Nat.two_pow_pos i
  unfold setBit
  split
  next h => exact h
  next h =>
    cases b with
    | true =>
      have h0 : v / 2 ^ i % 2 ≠ 1 := by simpa [bitOf] using h
      simp only [if_true, bitOf, Nat.add_div_right v hpos, decide_eq_true_eq]
      omega
    | false =>
      have h1 : v / 2 ^ i % 2 = 1 := by simpa [bitOf] using h
      have hsub : (v - 2 ^ i) / 2 ^ i = v / 2 ^ i - 1 := by simpa using Nat.sub_mul_div v (2 ^ i) 1
      simp only [Bool.false_eq_true, if_false, bitOf, hsub, decide_eq_false_iff_not]
      omega

end Sys2Proof.Machine
end

section
/-! PROOFS about device resets and the management halt (R21, R34, R314, R408 to R411). -/

namespace Sys2Proof.Machine
open R

/-! ### The state a reset leaves (R408, R409) -/

/-- A table restricted to some keys. -/
theorem Tbl.get_filter {α : Type} (d : α) (t : Tbl α) (p : Nat → Bool) (k : Nat) :
    Tbl.get d (t.filter (fun e => p e.1)) k = if p k then Tbl.get d t k else d := by
  induction t with
  | nil => simp [Tbl.get]
  | cons e t ih =>
    obtain ⟨k', v⟩ := e
    by_cases hk : k' = k
    · subst hk
      cases hp : p k' <;> simp [Tbl.get, hp, ih]
    · cases hp : p k' <;> simp [Tbl.get, hp, ih, hk]

/-- The numbers of the fields that a reset keeps. -/
def keptIds (por : Bool) : List Nat := (storeKept ++ (if por then [PM_SUP_GOOD, GL_STATUS_TESTEN] else aonKept)).map (·.id)

/-- A field that the reset keeps. -/
theorem resetBase_kept (d : Dev) {por : Bool} {r : Reg} (h : r.id ∈ keptIds por) (ix : Nat) :
    (resetBase d por).rd r ix = d.rd r ix := by
  have hget : Tbl.get [] (resetBase d por).regs r.id = Tbl.get [] d.regs r.id :=
    (Tbl.get_filter [] d.regs (fun k => (keptIds por).contains k) r.id).trans (if_pos (by simpa using h))
  unfold Dev.rd
  rw [hget]

/-- A field that it does not keep returns to its reset value. -/
theorem resetBase_cleared (d : Dev) {por : Bool} {r : Reg} (h : r.id ∉ keptIds por) (ix : Nat) :
    (resetBase d por).rd r ix = r.rstAt ix % 2 ^ r.w := by
  have hget : Tbl.get [] (resetBase d por).regs r.id = [] :=
    (Tbl.get_filter [] d.regs (fun k => (keptIds por).contains k) r.id).trans (if_neg (by simpa using h))
  unfold Dev.rd
  rw [hget]
  rfl

/-- The unit states that a reset sets, which the marks of its cause leave. -/
def resetView (d : Dev) : PwrSt × TimeBase × HostSt × List Staged × ShelfSt := (d.pw, d.tb, d.host, d.staged, d.bs)

/-- The register fields that the marks of a cause write. -/
def causeIds : List Nat :=
  [PM_CNT_RESETS.id, PM_CAUSE_RESETN.id, PM_CAUSE_WDOG.id, PM_CAUSE_HOST.id, PM_CAUSE_SUPPLY.id, PM_CAUSE_CLOCK.id,
   PM_CAUSE_POR.id, TW_ALERT_FAULT.id, TW_STATUS_TWB_ALERT.id, SQ_STATUS_FAULT.id, GL_STATUS_FAULT.id]

theorem causeReg_mem (k : Nat) : (causeReg k).id ∈ causeIds := by
  unfold causeReg; split <;> decide

theorem causeReg_w (k : Nat) : (causeReg k).w = 1 := by
  unfold causeReg; split <;> rfl

theorem WritesOnly.ev {ids : List Nat} {d e : Dev} (h : WritesOnly ids d e) {r : Reg} (m : r.id ∈ ids) (ix : Nat) :
    WritesOnly ids d (e.ev r ix) := by
  unfold Dev.ev
  split
  · exact h
  · exact (h.wr m ix 1).of_regs rfl rfl

theorem WritesOnly.alert {ids : List Nat} {d e : Dev} (h : WritesOnly ids d e) {r : Reg} (m : r.id ∈ ids)
    (m' : TW_STATUS_TWB_ALERT.id ∈ ids) : WritesOnly ids d (e.alert r) := by
  unfold Dev.alert
  dsimp only
  split
  · exact h
  · split
    · exact (h.wr m 0 1).wr m' 0 1
    · exact h.wr m 0 1

/-- A source of FAULT_N writes the alert and the two status bits. -/
theorem faultSrc_writes {ids : List Nat} (hids : [TW_ALERT_FAULT.id, TW_STATUS_TWB_ALERT.id, SQ_STATUS_FAULT.id,
    GL_STATUS_FAULT.id] ⊆ ids) (d : Dev) (b : Nat) (on : Bool) : WritesOnly ids d (faultSrc d b on) := by
  have hm : ∀ x ∈ [TW_ALERT_FAULT.id, TW_STATUS_TWB_ALERT.id, SQ_STATUS_FAULT.id, GL_STATUS_FAULT.id], x ∈ ids := hids
  unfold faultSrc
  extract_lets f rises sq e a e'
  have he : WritesOnly ids d e := (WritesOnly.refl ids d).of_regs rfl rfl
  have he' : WritesOnly ids d e' := by
    simp only [e']
    split
    · exact (he.alert (hm _ (by simp)) (hm _ (by simp))).of_regs rfl rfl
    · exact he
  exact (he'.wr (hm _ (by simp)) _ _).wr (hm _ (by simp)) _ _

@[simp] theorem faultSrc_pw (d : Dev) (b : Nat) (on : Bool) : (faultSrc d b on).pw = d.pw := by
  unfold faultSrc; dsimp only; split <;> simp
@[simp] theorem faultSrc_tb (d : Dev) (b : Nat) (on : Bool) : (faultSrc d b on).tb = d.tb := by
  unfold faultSrc; dsimp only; split <;> simp
@[simp] theorem faultSrc_host (d : Dev) (b : Nat) (on : Bool) : (faultSrc d b on).host = d.host := by
  unfold faultSrc; dsimp only; split <;> simp
@[simp] theorem faultSrc_staged (d : Dev) (b : Nat) (on : Bool) : (faultSrc d b on).staged = d.staged := by
  unfold faultSrc; dsimp only; split <;> simp
@[simp] theorem faultSrc_bs (d : Dev) (b : Nat) (on : Bool) : (faultSrc d b on).bs = d.bs := by
  unfold faultSrc; dsimp only; split <;> simp
@[simp] theorem faultSrc_au (d : Dev) (b : Nat) (on : Bool) : (faultSrc d b on).au = d.au := by
  unfold faultSrc; dsimp only; split <;> simp
@[simp] theorem faultSrc_commit (d : Dev) (b : Nat) (on : Bool) : (faultSrc d b on).commit = d.commit := by
  unfold faultSrc; dsimp only; split <;> simp

@[simp] theorem faultSrc_fault (d : Dev) (b : Nat) (on : Bool) :
    (faultSrc d b on).seq.fault = setBit d.seq.fault b on := by
  unfold faultSrc; dsimp only; split <;> simp

theorem setBit_true_ne_zero (v b : Nat) : setBit v b true ≠ 0 := fun h => by
  have hb := bitOf_setBit v b true
  rw [h] at hb
  simp [bitOf] at hb

/-- An asserted source shows in GL_STATUS.FAULT. -/
theorem faultSrc_shown (d : Dev) (b : Nat) : (faultSrc d b true).fl GL_STATUS_FAULT = true := by
  have hne : (setBit d.seq.fault b true != 0) = true := bne_iff_ne.mpr (setBit_true_ne_zero d.seq.fault b)
  unfold faultSrc
  simp [Dev.fl, Dev.wrB, Dev.rd_wr, hne, GL_STATUS_FAULT]

/-- A reset's cause: the reset is counted, its cause set, and FAULT_N asserted by three of them. -/
def resetCause (d : Dev) (k : Nat) : Dev :=
  let x := (resetBase d false).inc PM_CNT_RESETS
  let x := x.ev (causeReg k)
  if k = 5 then faultSrc x 1 true else if k = 2 then faultSrc x 2 true else if k = 4 then faultSrc x 3 true else x

theorem devReset_eq (d : Dev) {k : Nat} (hk : k ≠ 0) :
    devReset d k = (resetCause d k).wrB GL_STATUS_FAULT 0 ((resetCause d k).seq.fault != 0) := by
  unfold devReset resetCause
  simp only [hk, decide_false, if_false]

theorem resetCause_writes (d : Dev) (k : Nat) : WritesOnly causeIds (resetBase d false) (resetCause d k) := by
  have hmark : WritesOnly causeIds (resetBase d false) (((resetBase d false).inc PM_CNT_RESETS).ev (causeReg k)) :=
    WritesOnly.ev ((WritesOnly.refl causeIds _).wr (r := PM_CNT_RESETS) (by decide) 0 _) (causeReg_mem k) 0
  unfold resetCause
  dsimp only
  split
  · exact hmark.trans (faultSrc_writes (by decide) ..)
  · split
    · exact hmark.trans (faultSrc_writes (by decide) ..)
    · split
      · exact hmark.trans (faultSrc_writes (by decide) ..)
      · exact hmark

theorem resetCause_view (d : Dev) (k : Nat) : resetView (resetCause d k) = resetView (resetBase d false) := by
  unfold resetCause
  dsimp only
  (repeat' split) <;> simp [resetView]

/-- The marks that FAULT_N adds to those of the cause leave the cause and the count. -/
theorem resetCause_mark (d : Dev) (k : Nat) {r : Reg}
    (hr : r.id ∉ [TW_ALERT_FAULT.id, TW_STATUS_TWB_ALERT.id, SQ_STATUS_FAULT.id, GL_STATUS_FAULT.id]) (ix : Nat) :
    (resetCause d k).rd r ix = (((resetBase d false).inc PM_CNT_RESETS).ev (causeReg k)).rd r ix := by
  unfold resetCause
  dsimp only
  split
  · exact (faultSrc_writes (List.Subset.refl _) ..).1 r ix hr
  · split
    · exact (faultSrc_writes (List.Subset.refl _) ..).1 r ix hr
    · split
      · exact (faultSrc_writes (List.Subset.refl _) ..).1 r ix hr
      · rfl

/-- A count kept within its field. -/
theorem incSat_mod (w v : Nat) : incSat w v % 2 ^ w = incSat w v := by
  have hpos : 0 < 2 ^ w := Nat.two_pow_pos w
  refine Nat.mod_eq_of_lt ?_
  unfold incSat
  omega

/-- What every reset leaves: the device held, the time base stopped, the sequence OFF, nothing waiting, and what the store keeps. -/
structure HeldByReset (d e : Dev) : Prop where
  held : e.pw.held = true
  run : e.tb.run = false
  mhalt : e.fl GL_STATUS_MHALT = false
  seq : e.rd SQ_STATUS_STATE = sqOff
  dq : e.host.dq = []
  staged : e.staged = []
  rnum : e.rd EV_RNUM = d.rd EV_RNUM
  floor : e.rd UP_SVN_FLOOR = d.rd UP_SVN_FLOOR
  shed : e.bs.shedReq = 0

/-- What a reset other than a power-on reset counts and keeps of the always-on domain. -/
structure CountedReset (d e : Dev) : Prop where
  count : e.rd PM_CNT_RESETS = incSat PM_CNT_RESETS.w (d.rd PM_CNT_RESETS)
  force : e.fl SQ_STATUS_FORCE = d.fl SQ_STATUS_FORCE
  wakeen : e.rd PM_WAKEEN = d.rd PM_WAKEEN

/-- A reset that writes nothing but marks holds the device. -/
theorem heldByReset_of_base {d e : Dev} {por : Bool} (hw : WritesOnly causeIds (resetBase d por) e)
    (hv : resetView e = resetView (resetBase d por)) : HeldByReset d e := by
  simp only [resetView, Prod.mk.injEq] at hv
  obtain ⟨hpw, htb, hhost, hst, hbs⟩ := hv
  have hkept : ∀ r : Reg, r.id ∈ storeKept.map (·.id) → r.id ∉ causeIds → e.rd r = d.rd r := fun r hr hc =>
    (hw.1 r 0 hc).trans (resetBase_kept d (by simp only [keptIds, List.map_append, List.mem_append]; exact .inl hr) 0)
  have hmhalt : e.rd GL_STATUS_MHALT = 0 :=
    (hw.1 _ 0 (by decide)).trans (resetBase_cleared d (by cases por <;> decide) 0)
  exact {
    held := by rw [hpw]; rfl
    run := by rw [htb]; rfl
    mhalt := by rw [Dev.fl, hmhalt]; rfl
    seq := (hw.1 _ 0 (by decide)).trans (resetBase_cleared d (by cases por <;> decide) 0)
    dq := by rw [hhost]; rfl
    staged := by rw [hst]; rfl
    rnum := hkept EV_RNUM (by decide) (by decide)
    floor := hkept UP_SVN_FLOOR (by decide) (by decide)
    shed := by rw [hbs]; rfl }

theorem devReset_writes (d : Dev) {k : Nat} (hk : k ≠ 0) : WritesOnly causeIds (resetBase d false) (devReset d k) := by
  rw [devReset_eq d hk]
  exact (resetCause_writes d k).wr (by decide) _ _

theorem devReset_held (d : Dev) {k : Nat} (hk : k ≠ 0) : HeldByReset d (devReset d k) := by
  refine heldByReset_of_base (devReset_writes d hk) ?_
  rw [devReset_eq d hk, ← resetCause_view d k]
  simp [resetView]

/-- A power-on reset marks nothing but the clearance of FAULT_N. -/
theorem devReset_por (d : Dev) : devReset d 0 = (resetBase d true).wrB GL_STATUS_FAULT 0 false := rfl

theorem devReset_por_held (d : Dev) : HeldByReset d (devReset d 0) :=
  heldByReset_of_base (por := true) ((WritesOnly.refl causeIds _).wr (r := GL_STATUS_FAULT) (by decide) 0 _) rfl

theorem devReset_counted (d : Dev) {k : Nat} (hk : k ≠ 0) : CountedReset d (devReset d k) := by
  have hkept : ∀ r : Reg, r.id ∈ keptIds false → r.id ∉ causeIds → (devReset d k).rd r = d.rd r := fun r hr hc =>
    ((devReset_writes d hk).1 r 0 hc).trans (resetBase_kept d hr 0)
  have hne : ∀ k, PM_CNT_RESETS.id ≠ (causeReg k).id := fun k => by unfold causeReg; split <;> decide
  exact {
    count := by
      rw [devReset_eq d hk, Dev.wrB, Dev.rd_wr_ne _ _ _ _ (by decide), resetCause_mark d k (by decide),
        Dev.rd_ev_ne _ _ _ (hne k), Dev.inc, Dev.rd_wr, resetBase_kept d (by decide), incSat_mod]
    force := by rw [Dev.fl, hkept SQ_STATUS_FORCE (by decide) (by decide)]; rfl
    wakeen := hkept PM_WAKEEN (by decide) (by decide) }

/-- The cause shows. -/
theorem devReset_cause (d : Dev) {k : Nat} (hk : k ≠ 0) : (devReset d k).fl (causeReg k) = true := by
  have hmark := Dev.fl_ev ((resetBase d false).inc PM_CNT_RESETS) (causeReg k) 0 (causeReg_w k)
  have hnot : (causeReg k).id ∉ [TW_ALERT_FAULT.id, TW_STATUS_TWB_ALERT.id, SQ_STATUS_FAULT.id, GL_STATUS_FAULT.id] := by
    unfold causeReg; split <;> decide
  have hne : (causeReg k).id ≠ GL_STATUS_FAULT.id := by unfold causeReg; split <;> decide
  rw [devReset_eq d hk, Dev.fl, Dev.wrB, Dev.rd_wr_ne _ _ _ _ hne, resetCause_mark d k hnot]
  exact hmark

/-- A watchdog, supply-fault or clock-loss reset asserts FAULT_N. -/
theorem devReset_fault (d : Dev) {k : Nat} (hk : k = 2 ∨ k = 4 ∨ k = 5) : (devReset d k).fl GL_STATUS_FAULT = true := by
  have hne : ((resetCause d k).seq.fault != 0) = true := by
    rw [bne_iff_ne]
    unfold resetCause
    rcases hk with rfl | rfl | rfl
    · exact fun h => setBit_true_ne_zero _ _ ((faultSrc_fault ..).symm.trans h)
    · exact fun h => setBit_true_ne_zero _ _ ((faultSrc_fault ..).symm.trans h)
    · exact fun h => setBit_true_ne_zero _ _ ((faultSrc_fault ..).symm.trans h)
  rw [devReset_eq d (by omega), hne, Dev.fl, Dev.wrB, Dev.rd_wr]
  decide

end Sys2Proof.Machine
end

section
/-! PROOFS about the management halt and the statement on resets (R21, R34, R314, R408 to R411). -/

namespace Sys2Proof.Machine
open R

/-! ### The management halt (R21, R314) -/

/-- The unit states that dead letters and completions leave. -/
def haltView (d : Dev) : PwrSt × SeqSt × ShelfSt × AuSt := (d.pw, d.seq, d.bs, d.au)

/-- The register fields that closing the gated copies writes. -/
def haltIds : List Nat :=
  [AU_DLCNT.id, AU_STATUS_DIVERGE.id, GL_STATUS_DIVERGE.id, AU_STATUS_NHELD.id, AU_NPEND.id, AU_DIV_SEQ.id, AU_DIV_DIGA.id,
   AU_DIV_DIGB.id] ++ recIds

/-- What closing the gated copies leaves: every field but its own, and the unit states. -/
def HaltKeeps (d e : Dev) : Prop := WritesOnly haltIds d e ∧ haltView e = haltView d

theorem HaltKeeps.refl (d : Dev) : HaltKeeps d d := ⟨.refl _ d, rfl⟩
theorem HaltKeeps.trans {d e f : Dev} (h : HaltKeeps d e) (h' : HaltKeeps e f) : HaltKeeps d f :=
  ⟨h.1.trans h'.1, h'.2.trans h.2⟩

theorem HaltKeeps.wr {d e : Dev} (h : HaltKeeps d e) {r : Reg} (m : r.id ∈ haltIds) (ix v : Nat) : HaltKeeps d (e.wr r ix v) :=
  ⟨h.1.wr m ix v, h.2⟩

theorem HaltKeeps.forL {α : Type} {d e : Dev} (h : HaltKeeps d e) (q : List α) (g : α → Dev → Dev)
    (hg : ∀ a x, HaltKeeps x (g a x)) : HaltKeeps d (forL q g e) := by
  unfold Sys2Proof.Machine.forL
  induction q generalizing e with
  | nil => exact h
  | cons a q ih => exact ih (h.trans (hg a e))

theorem HaltKeeps.recd (d : Dev) (code cls src : Nat) (pay : List Nat) : HaltKeeps d (d.recd code cls src pay) :=
  ⟨⟨fun r ix h => Dev.rd_recd _ _ _ _ _ _ _ (fun hr => h (List.mem_append_right _ hr)), by simp⟩, by simp [haltView]⟩

theorem complete_haltKeeps (d : Dev) (c : HCtx) (st r reason : Nat) : HaltKeeps d (complete d c st r reason) := by
  unfold complete
  dsimp only
  split
  · exact ⟨(WritesOnly.refl _ d).of_regs rfl rfl, rfl⟩
  · split
    · exact .refl d
    · exact ⟨(WritesOnly.refl _ d).of_regs rfl rfl, rfl⟩

theorem completeAll_haltKeeps (d : Dev) (cs : List HCtx) (st r : Nat) : HaltKeeps d (completeAll d cs st r) :=
  (HaltKeeps.refl d).forL _ _ (fun c x => complete_haltKeeps x c st r 0)

theorem deadLetter_haltKeeps (d : Dev) (c : CopyRec) (reason : Nat) : HaltKeeps d (deadLetter d c reason) := by
  have hc := complete_haltKeeps d c.ctx stDead 0 reason
  unfold deadLetter
  dsimp only
  split
  · exact hc
  · exact (hc.wr (r := AU_DLCNT) (by decide) 0 _).trans (.recd ..)

theorem divergePin_haltKeeps (d : Dev) : HaltKeeps d (divergePin d) := by
  have h4 : ∀ on : Bool, HaltKeeps d ((((d.wrB AU_STATUS_DIVERGE 0 on).wrB GL_STATUS_DIVERGE 0 on).wr AU_STATUS_NHELD 0
      d.au.held.length).wr AU_NPEND 0 d.au.table.length) := fun on =>
    ((((HaltKeeps.refl d).wr (by decide) 0 _).wr (by decide) 0 _).wr (by decide) 0 _).wr (by decide) 0 _
  unfold divergePin
  dsimp only
  split
  · exact (((h4 _).wr (by decide) 0 _).wr (by decide) 0 _).wr (by decide) 0 _
  · exact h4 _

/-- The gated copies that wait end as dead letters: none is left in the table, and no divergence is held. -/
theorem closeGated_spec (d : Dev) (reason : Nat) : WritesOnly haltIds d (closeGated d reason) ∧
    haltView (closeGated d reason) = (d.pw, d.seq, d.bs, { d.au with table := d.au.table.filter (fun p => !p.gated), held := [] }) := by
  unfold closeGated
  extract_lets ps hs a e e'
  have he : HaltKeeps e (divergePin (forL hs (fun h d => deadLetter (deadLetter d h.a reason) h.b reason) e')) := by
    refine (((HaltKeeps.refl e).forL ps _ (fun p x => deadLetter_haltKeeps x p.copy reason)).forL hs _ (fun h x => ?_)).trans
      (divergePin_haltKeeps _)
    exact (deadLetter_haltKeeps x h.a reason).trans (deadLetter_haltKeeps _ h.b reason)
  have hde : WritesOnly haltIds d e := (WritesOnly.refl haltIds d).of_regs rfl rfl
  exact ⟨hde.trans he.1, he.2⟩

/-- A halt of the management plane that is not halted yet: what it shows, and what it leaves. -/
theorem mgmtHalt_spec (d : Dev) (hm : d.fl GL_STATUS_MHALT = false) :
    (mgmtHalt d).fl GL_STATUS_MHALT = true ∧ (mgmtHalt d).fl GL_STATUS_FAULT = true ∧ (mgmtHalt d).pw = d.pw ∧
      (mgmtHalt d).bs = d.bs ∧ bitOf (mgmtHalt d).seq.fault 0 = true ∧ (mgmtHalt d).au.held = [] ∧
      (mgmtHalt d).au.table.any (fun p => p.gated) = false ∧ (mgmtHalt d).rd SQ_STATUS_STATE = d.rd SQ_STATUS_STATE := by
  have hend : HaltKeeps (closeGated (pwRec (faultSrc (d.wr GL_STATUS_MHALT 0 1) 0 true) 0x1003 []) 9) (mgmtHalt d) := by
    unfold mgmtHalt
    rw [if_neg (by simp [hm])]
    extract_lets x y z u w
    have hw : HaltKeeps z w := ⟨(WritesOnly.refl _ z).of_regs rfl rfl, rfl⟩
    change HaltKeeps z _
    clear_value z
    split
    · split
      · exact hw
      · refine HaltKeeps.trans (e := { w with commit := none }) ⟨hw.1.of_regs rfl rfl, hw.2⟩ (completeAll_haltKeeps ..)
    · exact hw
  generalize mgmtHalt d = e at hend
  generalize hx : faultSrc (d.wr GL_STATUS_MHALT 0 1) 0 true = x at hend
  obtain ⟨hcw, hcv⟩ := closeGated_spec (pwRec x 0x1003 []) 9
  have hw := (HaltKeeps.recd x 0x1003 0 15 []).1.trans (hcw.trans hend.1)
  have hv := hend.2.trans hcv
  simp only [haltView, pwRec, Dev.recd_pw, Dev.recd_seq, Dev.recd_bs, Dev.recd_au, Prod.mk.injEq] at hv
  obtain ⟨hpw, hseq, hbs, hau⟩ := hv
  have hmh : x.rd GL_STATUS_MHALT = 1 := by
    rw [← hx, (faultSrc_writes (List.Subset.refl _) _ _ _).1 GL_STATUS_MHALT 0 (by decide), Dev.rd_wr]
    rfl
  have hsq : x.rd SQ_STATUS_STATE = d.rd SQ_STATUS_STATE := by
    rw [← hx, (faultSrc_writes (List.Subset.refl _) _ _ _).1 SQ_STATUS_STATE 0 (by decide),
      Dev.rd_wr_ne _ _ _ _ (by decide)]
  have hflt : x.fl GL_STATUS_FAULT = true := by rw [← hx]; exact faultSrc_shown ..
  refine ⟨?_, ?_, ?_, ?_, ?_, ?_, ?_, ?_⟩
  · rw [Dev.fl, hw.1 _ _ (by decide), hmh]; rfl
  · rw [Dev.fl, hw.1 _ _ (by decide)]; exact hflt
  · rw [hpw, ← hx]; simp
  · rw [hbs, ← hx]; simp
  · rw [hseq, ← hx, faultSrc_fault]; exact bitOf_setBit ..
  · rw [hau]
  · rw [hau]; simp
  · rw [hw.1 _ _ (by decide), hsq]

/-! ### The statement -/

/-- A supply that is shown writes its own field alone. -/
theorem supShow_writes {ids : List Nat} (h : PM_SUP_GOOD.id ∈ ids) (d : Dev) (k : Nat) (good : Bool) :
    WritesOnly ids d (supShow d k good) := (WritesOnly.refl ids d).wr h 0 _

theorem supFault_writes {ids : List Nat} (h : PM_SUPFLT.id ∈ ids) (d : Dev) (k : Nat) : WritesOnly ids d (supFault d k) :=
  (WritesOnly.refl ids d).wr h 0 _

/-- The supply that is shown shows. -/
theorem supShow_bit (d : Dev) {k : Nat} (hk : k < 8) (good : Bool) : bitOf ((supShow d k good).rd PM_SUP_GOOD) k = good := by
  unfold supShow
  rw [Dev.rd_wr, bitOf_mod (show k < PM_SUP_GOOD.w from hk), bitOf_setBit]

/-- The fault that is latched shows. -/
theorem supFault_bit (d : Dev) {k : Nat} (hk : k < 8) : bitOf ((supFault d k).rd PM_SUPFLT) k = true := by
  unfold supFault
  rw [Dev.rd_wr, bitOf_mod (show k < PM_SUPFLT.w from hk), bitOf_setBit]

/-- The latch of a supply fault leaves what a reset leaves. -/
theorem HeldByReset.supFault {d e : Dev} (h : HeldByReset d e) (k : Nat) : HeldByReset d (supFault e k) := by
  have hf : WritesOnly [PM_SUPFLT.id] e (Sys2Proof.Machine.supFault e k) := supFault_writes (by decide) e k
  obtain ⟨h1, h2, h3, h4, h5, h6, h7, h8, h9⟩ := h
  exact ⟨h1, h2, by rw [Dev.fl, hf.1 _ _ (by decide)]; exact h3, (hf.1 _ _ (by decide)).trans h4, h5, h6,
    (hf.1 _ _ (by decide)).trans h7, (hf.1 _ _ (by decide)).trans h8, h9⟩

/-- A command of the always-on domain answers the device that its function gives. -/
theorem exec_devRow {c : Instr} {s : State} {f : Dev → Dev} (he : exec c s = devRow f s) :
    ∃ t : State, exec c s = .next t ∧ t.pending = s.pending ∧ t.sys.dev = f s.sys.dev := ⟨_, he, rfl, rfl⟩

/-- A latch of the tick answers the device that its function gives, where no shed follows. -/
theorem exec_latched {c : Instr} {s : State} {f : Dev → Dev} (he : exec c s = sysRow (latched f) s) (hl : s.sys.dev.live = true)
    (hsh : (f s.sys.dev).bs.shedReq = 0) :
    ∃ t : State, exec c s = .next t ∧ t.pending = s.pending ∧ t.sys.dev = f s.sys.dev :=
  completes_latched (Q := fun x => x.dev = f s.sys.dev) f he hl hsh rfl

/-- A live device is not held. -/
theorem Dev.live_held {d : Dev} (h : d.live = true) : d.pw.held = false := by
  simpa using (Bool.and_eq_true_iff.mp h).1

theorem Dev.live_asleep {d : Dev} (h : d.live = true) : d.pw.asleep = false := by
  simpa using (Bool.and_eq_true_iff.mp h).2

/-- Settles O46: `devReset` leaves the state of a reset with the marks of its cause, and `mgmtHalt` closes what is gated. -/
theorem resetsLeaveTheirState : Obligations.ResetsLeaveTheirState := by
  unfold Obligations.ResetsLeaveTheirState
  refine ⟨fun s => ?por, fun s => ?resetn, fun s k hl hsb => ?supply, fun s k hno => ?asleep, fun s ha => ?clock,
    fun s ht hk => ?cmd, fun s hq hm he hact => ?wdog, fun s hq hm he hact hst => ?wdogHalt, fun s hq hm => ?halt⟩
  case por =>
    obtain ⟨h1, h2, h3, h4, h5, h6, h7, h8, -⟩ := devReset_por_held s.sys.dev
    have hrd : ∀ (r : Reg) (ix : Nat), r.id ≠ GL_STATUS_FAULT.id → r.id ∉ keptIds true →
        (devReset s.sys.dev 0).rd r ix = r.rstAt ix % 2 ^ r.w := fun r ix hne hr =>
      (Dev.rd_wr_ne _ _ _ _ hne).trans (resetBase_cleared s.sys.dev hr ix)
    refine ⟨_, rfl, rfl, h1, h2, h3, h4, h5, h6, h7, h8, hrd PM_CNT_RESETS 0 (by decide) (by decide), ?_, ?_, ?_⟩
    · exact congrArg (· != 0) (hrd PM_CAUSE_POR 0 (by decide) (by decide))
    · exact congrArg (· != 0) (hrd SQ_STATUS_FORCE 0 (by decide) (by decide))
    · exact congrArg (· != 0) (Dev.rd_wr (resetBase s.sys.dev true) GL_STATUS_FAULT 0 0)
  case resetn =>
    obtain ⟨h1, h2, h3, h4, h5, h6, h7, h8, -⟩ := devReset_held s.sys.dev (k := 1) (by decide)
    obtain ⟨hcnt, hforce, hwake⟩ := devReset_counted s.sys.dev (k := 1) (by decide)
    exact ⟨_, rfl, rfl, h1, h2, h3, h4, h5, h6, h7, h8, hcnt, hforce, hwake, devReset_cause s.sys.dev (k := 1) (by decide)⟩
  case supply =>
    obtain ⟨t, he, hp, hd⟩ := exec_devRow (s := s) (c := .supplyFault k) (f := fun d => supplyFault d k.val) rfl
    have hw := supShow_writes (ids := [PM_SUP_GOOD.id]) (by decide) s.sys.dev k.val false
    have hsb' : (supShow s.sys.dev k.val false).fl SP_STATUS_SVCBOOT = false := by
      rw [Dev.fl, hw.1 _ _ (by decide)]; exact hsb
    have heq : supplyFault s.sys.dev k.val = supFault (devReset (supShow s.sys.dev k.val false) 4) k.val := by
      have ha : (supShow s.sys.dev k.val false).pw.asleep = false := Dev.live_asleep hl
      have hh : (supShow s.sys.dev k.val false).pw.held = false := Dev.live_held hl
      simp only [supplyFault, ha, hh, hsb', Bool.or_self, Bool.false_eq_true, if_false]
    have hbit := supShow_bit s.sys.dev (k := k.val) (by omega) false
    generalize supShow s.sys.dev k.val false = x at hw heq hbit
    have hheld := (devReset_held x (k := 4) (by decide)).supFault k.val
    obtain ⟨hcnt, hforce, hwake⟩ := devReset_counted x (k := 4) (by decide)
    have hcause := devReset_cause x (k := 4) (by decide)
    have hfault := devReset_fault x (k := 4) (by decide)
    have hgood : (devReset x 4).rd PM_SUP_GOOD = x.rd PM_SUP_GOOD :=
      ((devReset_writes x (k := 4) (by decide)).1 _ 0 (by decide)).trans (resetBase_kept x (by decide) 0)
    have hfw := supFault_writes (ids := [PM_SUPFLT.id]) (by decide) (devReset x 4) k.val
    have hflt := supFault_bit (devReset x 4) (k := k.val) (by omega)
    rw [← heq] at hheld hfw hflt
    obtain ⟨h1, h2, h3, h4, h5, h6, h7, h8, -⟩ := hheld
    refine ⟨t, he, hp, ?_⟩
    rw [hd]
    refine ⟨h1, h2, h3, h4, h5, h6, h7.trans (hw.1 _ _ (by decide)), h8.trans (hw.1 _ _ (by decide)), ?_, ?_, ?_, ?_, ?_, hflt, ?_⟩
    · rw [hfw.1 _ _ (by decide), hcnt, hw.1 _ _ (by decide)]
    · rw [Dev.fl, hfw.1 _ _ (by decide), ← Dev.fl, hforce, Dev.fl, hw.1 _ _ (by decide)]; rfl
    · rw [hfw.1 _ _ (by decide), hwake, hw.1 _ _ (by decide)]
    · rw [Dev.fl, hfw.1 _ _ (by decide)]; exact hcause
    · rw [Dev.fl, hfw.1 _ _ (by decide)]; exact hfault
    · rw [hfw.1 _ _ (by decide), hgood, hbit]
  case asleep =>
    obtain ⟨t, he, hp, hd⟩ := exec_devRow (s := s) (c := .supplyFault k) (f := fun d => supplyFault d k.val) rfl
    have hw := supShow_writes (ids := [PM_SUP_GOOD.id]) (by decide) s.sys.dev k.val false
    have heq : supplyFault s.sys.dev k.val = supShow s.sys.dev k.val false := by
      refine if_pos ?_
      cases hno with
      | inl ha => exact Bool.or_eq_true_iff.mpr (.inl ha)
      | inr hsb => exact Bool.or_eq_true_iff.mpr (.inr (by rw [Dev.fl, hw.1 _ _ (by decide)]; exact hsb))
    refine ⟨t, he, hp, ?_⟩
    rw [hd, heq]
    exact ⟨rfl, supShow_bit _ (by omega) false, (KeepsBut.refl _ _).wr _ _ _ (by simp)⟩
  case clock =>
    obtain ⟨t, he, hp, hd⟩ := exec_devRow (s := s) (c := .clockLoss) (f := clockLoss) rfl
    have heq : clockLoss s.sys.dev = { devReset s.sys.dev 5 with pw := { (devReset s.sys.dev 5).pw with clockLost := true } } :=
      if_neg (by simp [ha])
    obtain ⟨h1, h2, h3, h4, h5, h6, h7, h8, -⟩ := devReset_held s.sys.dev (k := 5) (by decide)
    obtain ⟨hcnt, hforce, hwake⟩ := devReset_counted s.sys.dev (k := 5) (by decide)
    have hcause := devReset_cause s.sys.dev (k := 5) (by decide)
    have hfault := devReset_fault s.sys.dev (k := 5) (by decide)
    refine ⟨t, he, hp, ?_⟩
    rw [hd, heq]
    generalize devReset s.sys.dev 5 = x at *
    exact ⟨h1, h2, h3, h4, h5, h6, h7, h8, hcnt, hforce, hwake, hcause, hfault, rfl⟩
  case cmd =>
    obtain ⟨hl, ⟨-, hq⟩, -⟩ := id ht
    exact completes_wordCmd (Q := fun x => x.dev.pw.rstReq = true ∧ x.dev.pw.held = false ∧ KeepsBut [] s.atCommands.dev x.dev)
      .twb 0x430 1 pmCmdReset rfl ht (by decide) hk hq.2 ⟨rfl, Dev.live_held hq.1, (KeepsBut.refl [] _).of_regs rfl⟩
  case wdog =>
    have heq : watchdog s.sys.dev = devReset s.sys.dev 2 := by
      have hcond : (s.sys.dev.fl PM_CTRL_WDOG_ACT || s.sys.dev.rd PM_STATUS_STATE == 3 || s.sys.dev.rd PM_STATUS_STATE == 4)
          = true := by
        rcases hact with h | h | h <;> simp [h]
      simp only [watchdog, hm, Dev.live_asleep hq.1, Dev.live_held hq.1, he, ne_eq, not_true_eq_false, decide_false, Bool.or_self,
        Bool.false_eq_true, if_false, hcond, if_true]
    have hheld := devReset_held s.sys.dev (k := 2) (by decide)
    obtain ⟨hcnt, hforce, hwake⟩ := devReset_counted s.sys.dev (k := 2) (by decide)
    have hcause := devReset_cause s.sys.dev (k := 2) (by decide)
    have hfault := devReset_fault s.sys.dev (k := 2) (by decide)
    rw [← heq] at hheld hcnt hforce hwake hcause hfault
    obtain ⟨t, het, hp, hd⟩ := exec_latched (s := s) (c := .watchdogExpiry) (f := watchdog) rfl hq.1 hheld.shed
    obtain ⟨h1, h2, h3, h4, h5, h6, h7, h8, -⟩ := hheld
    refine ⟨t, het, hp, ?_⟩
    rw [hd]
    exact ⟨h1, h2, h3, h4, h5, h6, h7, h8, hcnt, hforce, hwake, hcause, hfault⟩
  case wdogHalt =>
    have heq : watchdog s.sys.dev = mgmtHalt s.sys.dev := by
      simp [watchdog, hm, Dev.live_asleep hq.1, Dev.live_held hq.1, he, hact, hst]
    obtain ⟨hhalt, hflt, hpw, hbs, -, hheld, -⟩ := mgmtHalt_spec s.sys.dev hm
    rw [← heq] at hhalt hflt hpw hbs hheld
    obtain ⟨t, het, hp, hd⟩ := exec_latched (s := s) (c := .watchdogExpiry) (f := watchdog) rfl hq.1 (by rw [hbs]; exact hq.2)
    refine ⟨t, het, hp, ?_⟩
    rw [hd]
    exact ⟨hhalt, hflt, by rw [hpw]; exact Dev.live_held hq.1, hheld⟩
  case halt =>
    obtain ⟨hhalt, hflt, -, hbs, hbit, hheld, htab, hsq⟩ := mgmtHalt_spec s.sys.dev hm
    obtain ⟨t, het, hp, hd⟩ := exec_latched (s := s) (c := .mgmtHalt) (f := mgmtHalt) rfl hq.1 (by rw [hbs]; exact hq.2)
    refine ⟨t, het, hp, ?_⟩
    rw [hd]
    exact ⟨hhalt, hbit, hflt, hheld, htab, hsq⟩

end Sys2Proof.Machine
end

section
/-! PROOFS about the power state: what a boundary and the functions that a wake continues leave of it (R413, R414). -/

namespace Sys2Proof.Machine
open R

theorem forIx_pw (n : Nat) (f : Nat → Dev → Dev) (d : Dev) (hf : ∀ i x, (f i x).pw = x.pw) : (forIx n f d).pw = d.pw :=
  foldl_keeps Dev.pw (fun x i => f i x) (fun x i => hf i x) (List.range n) d

theorem forL_pw {β : Type} (l : List β) (f : β → Dev → Dev) (d : Dev) (hf : ∀ b x, (f b x).pw = x.pw) : (forL l f d).pw = d.pw :=
  foldl_keeps Dev.pw (fun x b => f b x) (fun x b => hf b x) l d

/-- The power state beside a new state of the shelf. -/
theorem Dev.withBs_pw (d : Dev) (x : ShelfSt) : ({ d with bs := x } : Dev).pw = d.pw := rfl

/-! ### Rings and slots -/

@[simp] theorem healthEval_pw (d : Dev) (c : Nat) : (healthEval d c).pw = d.pw := by
  unfold healthEval; dsimp only; split <;> rfl

@[simp] theorem dirRingDown_pw (d : Dev) (r : Nat) : (dirRingDown d r).pw = d.pw :=
  forIx_pw _ _ _ fun p x => by simp

@[simp] theorem ringGo_pw (d : Dev) (r st : Nat) : (ringGo d r st).pw = d.pw := rfl

@[simp] theorem trainStart_pw (d : Dev) (r : Nat) : (trainStart d r).pw = d.pw := by
  unfold trainStart; split <;> rfl

@[simp] theorem ringDown_pw (d : Dev) (r : Nat) : (ringDown d r).pw = d.pw := by simp [ringDown]

@[simp] theorem ringReset_pw (d : Dev) (r : Nat) : (ringReset d r).pw = d.pw := by
  unfold ringReset; dsimp only; (repeat' split) <;> simp

@[simp] theorem slotForce_pw (d : Dev) (s : Nat) (f : Option Bool) : (slotForce d s f).pw = d.pw := by
  unfold slotForce; dsimp only; split <;> rfl

@[simp] theorem startInMan_pw (d : Dev) (s : Nat) (man : Bool) : (startInMan d s man).pw = d.pw := by
  unfold startInMan; (repeat' split) <;> rfl

@[simp] theorem slotHold_pw (d : Dev) (s b : Nat) (on : Bool) : (slotHold d s b on).pw = d.pw := by simp [slotHold]

/-! ### Targets of the sequence that are disabled -/

@[simp] theorem joinTrims_pw (d : Dev) (n old new : Nat) : (joinTrims d n old new).pw = d.pw :=
  forL_pw _ _ _ fun h x => by split <;> simp only [Dev.setPhs_pw]

@[simp] theorem setMask_pw (d : Dev) (n mask : Nat) : (setMask d n mask).pw = d.pw := by
  unfold setMask; dsimp only; split <;> simp

@[simp] theorem railStop_pw (d : Dev) (n : Nat) : (railStop d n).pw = d.pw := by
  unfold railStop
  extract_lets a b c e
  have he : e.pw = c.pw := forL_pw _ _ _ fun _ _ => rfl
  rw [Dev.setRail_pw, he]
  simp [c, b, a]

@[simp] theorem railDisable_pw (d : Dev) (n : Nat) : (railDisable d n).pw = d.pw := by
  unfold railDisable; dsimp only; (repeat' split) <;> simp

@[simp] theorem fuDisable_pw (d : Dev) (f : Nat) : (fuDisable d f).pw = d.pw := by
  unfold fuDisable; dsimp only; split <;> rfl

@[simp] theorem groupDisable_pw (d : Dev) (n : Nat) : (groupDisable d n).pw = d.pw := by
  have hm : ∀ x : Dev, (forL (groupMembers d n) (fun f d =>
      let d := d.wr FU_STATUS_SEL f 0
      let st := fuState d f
      if st = fuRamp ∨ st = fuOn ∨ st = fuTripped then d.wr FU_STATUS_STATE f fuOff else d) x).pw = x.pw := fun x =>
    forL_pw _ _ _ fun f x => by dsimp only; split <;> rfl
  unfold groupDisable
  dsimp only
  split <;> simpa using hm d

@[simp] theorem busNofeed_pw (d : Dev) : (busNofeed d).pw = d.pw := by
  unfold busNofeed; dsimp only; (repeat' split) <;> simp

@[simp] theorem busDisable_pw (d : Dev) : (busDisable d).pw = d.pw := by
  unfold busDisable
  extract_lets _ _ x y z w
  have hz : z.pw = y.pw := forIx_pw _ _ _ fun i x => by dsimp only; split <;> simp
  have hw : w.pw = z.pw := by simp only [w]; split <;> simp
  rw [busNofeed_pw, hw, hz]
  exact Dev.wr_pw ..

@[simp] theorem legHold_pw (d : Dev) (k b : Nat) (on : Bool) : (legHold d k b on).pw = d.pw := by
  unfold legHold; split <;> simp

@[simp] theorem shelfCounts_pw (d : Dev) : (shelfCounts d).pw = d.pw := rfl

@[simp] theorem shelfUnhold_pw (d : Dev) : (shelfUnhold d).pw = d.pw := by
  unfold shelfUnhold
  extract_lets x
  have hx : x.pw = d.pw := forIx_pw _ _ _ fun i x => by split <;> simp
  split <;> simpa using hx

@[simp] theorem shelfDisable_pw (d : Dev) : (shelfDisable d).pw = d.pw := by
  unfold shelfDisable
  split
  · rfl
  · extract_lets a b c e f
    have ha : a.pw = d.pw := forIx_pw _ _ _ fun k x => by simp
    have hb : b.pw = a.pw := forIx_pw _ _ _ fun j x => by dsimp only; split <;> rfl
    have hc : c.pw = b.pw := shelfUnhold_pw b
    have hf : f.pw = c.pw := by simp only [f, e, Dev.wr_pw]
    clear_value f
    rw [shelfCounts_pw, Dev.withBs_pw, hf, hc, hb, ha]

@[simp] theorem setPend_pw (d : Dev) (kind num : Nat) (p : Option Bool) : (setPend d kind num p).pw = d.pw := by
  unfold setPend; split <;> rfl

@[simp] theorem targetOff_pw (d : Dev) (s : Nat) : (targetOff d s).pw = d.pw := by
  unfold targetOff; dsimp only; split <;> simp

/-! ### The values of a boundary (R65, R321) -/

theorem keepOld_pw (old d : Dev) (l : List (Reg × Nat)) : (keepOld old d l).pw = d.pw := forL_pw _ _ _ fun _ _ => rfl

theorem ruleLimits_pw (old d : Dev) (s : Nat) : (ruleLimits old d s).pw = d.pw := by
  unfold ruleLimits; split <;> simp only [keepOld_pw]

theorem ruleCurve_pw (old d : Dev) (f : Nat) : (ruleCurve old d f).pw = d.pw := by
  unfold ruleCurve; split <;> simp only [Dev.ev_pw, keepOld_pw]

theorem ruleWindow_pw (old d : Dev) : (ruleWindow old d).pw = d.pw := by
  unfold ruleWindow; dsimp only; split <;> simp only [keepOld_pw]

theorem ruleGuard_pw (old d : Dev) : (ruleGuard old d).pw = d.pw := by
  unfold ruleGuard
  extract_lets w
  cases guardOk d (d.rd LE_CTRL_GUARD) with
  | false => rw [if_neg Bool.false_ne_true, Dev.wr_pw, Dev.wr_pw, Dev.ev_pw, keepOld_pw]
  | true => rw [if_pos rfl]

theorem localRules_pw (old d : Dev) (l : List Staged) : (localRules old d l).pw = d.pw := by
  unfold localRules
  extract_lets has a b c e
  have ha : a.pw = d.pw := by simp only [a]; split <;> simp only [ruleWindow_pw]
  have hb : b.pw = a.pw := by simp only [b]; split <;> simp only [ruleVset, Dev.wr_pw]
  have hc : c.pw = b.pw := by simp only [c]; split <;> simp only [ruleGuard_pw]
  have he : e.pw = c.pw := forIx_pw _ _ _ fun s x => by split <;> simp only [ruleLimits_pw]
  have hf := forIx_pw 64 (fun f d => if l.any (fun x => (curveFields f).any (fun y => y.1.id == x.reg.id && y.2 == x.ix))
    then ruleCurve old d f else d) e fun f x => by split <;> simp only [ruleCurve_pw]
  clear_value e c b a
  rw [hf, he, hc, hb, ha]

theorem hqStart_pw (d : Dev) (e k : Nat) : (hqStart d e k).pw = d.pw := by
  unfold hqStart readsDrop; dsimp only; (repeat' split) <;> rfl

theorem routeApply_pw (old d : Dev) (e : Nat) : (routeApply old d e).pw = d.pw :=
  forIx_pw _ _ _ fun j x => by dsimp only; split <;> rfl

theorem enablesApply_pw (old d : Dev) : (enablesApply old d).pw = d.pw := by
  unfold enablesApply
  extract_lets a b _ c
  have ha : a.pw = d.pw := forIx_pw _ _ _ fun e x => forIx_pw _ _ _ fun k x => by split <;> simp [hqStart_pw]
  have hb : b.pw = a.pw := forIx_pw _ _ _ fun r x => by split <;> simp
  have hc : c.pw = b.pw := by simp only [c]; split <;> rfl
  clear_value c b a
  exact (forIx_pw _ _ _ fun e x => routeApply_pw old x e).trans (hc.trans (hb.trans ha))

theorem batchReject_pw (d : Dev) (batch ofs : Nat) : (batchReject d batch ofs).pw = d.pw := by
  simp [batchReject, rejectShow]

theorem batchAccept_pw (acc : Dev × List Staged) (batch : Nat) (l : List Staged) : (batchAccept acc batch l).1.pw = acc.1.pw := by
  unfold batchAccept
  split
  · rfl
  · dsimp only
    split
    · exact batchReject_pw ..
    · exact forL_pw _ _ _ fun _ _ => rfl

@[simp] theorem boundaryApply_pw (d : Dev) (frame : Bool) : (boundaryApply d frame).pw = d.pw := by
  unfold boundaryApply
  extract_lets go e acc
  have hacc : acc.1.pw = e.pw := foldl_keeps (fun a : Dev × List Staged => a.1.pw) _ (fun a b => batchAccept_pw a b _) batchOrder (e, [])
  split
  · exact hacc
  · rw [enablesApply_pw, localRules_pw, hacc]

end Sys2Proof.Machine
end

section
/-! PROOFS about supplies, the always-on clock and boundary scan (R35, R396, R411, R417, R454), and about a wake (R414). -/

namespace Sys2Proof.Machine
open R

/-! ### A wake (R414) -/

/-- The marks of a wake in the power state: asleep, waking, and waiting for the main supplies. -/
def wakeMarks (d : Dev) : Bool × Bool × Bool := (d.pw.asleep, d.pw.waking, d.pw.waitMain)

theorem wakeMarks_of_pw {d e : Dev} (h : d.pw = e.pw) : wakeMarks d = wakeMarks e := by rw [wakeMarks, h]; rfl

theorem tbStart_pw (d : Dev) (ck : Option Nat) (aclk : Nat) : (tbStart d ck aclk).2.pw = d.pw := by
  have hclr : ∀ (l : List Reg) (x : Dev), (x.clrRegs l).pw = x.pw := fun l x => forL_pw _ _ _ fun _ _ => rfl
  unfold tbStart
  dsimp only
  (repeat' split) <;> simp only [Dev.wr_pw, Dev.wrB_pw, hclr]

theorem setAuthority_pw (d : Dev) (a : Nat) (invalid : Bool) : (setAuthority d a invalid).pw = d.pw := by
  unfold setAuthority; split <;> simp

theorem setCapAvg_pw (d : Dev) (k : Nat) (x : Int) : (setCapAvg d k x).pw = d.pw := by
  unfold setCapAvg; (repeat' split) <;> rfl

theorem wakeFunctions_pw (d : Dev) : (wakeFunctions d).pw = d.pw := by
  unfold wakeFunctions
  extract_lets now _ _ _ _ _ _ _ _ _ _ start missed fuses hub caps shown page
  have hstart : start.pw = d.pw := by simp only [start]
  have hmissed : missed.pw = start.pw := forIx_pw _ _ _ fun c x => by dsimp only; split <;> simp only [Dev.setCh_pw]
  have hfuses : fuses.pw = missed.pw := forIx_pw _ _ _ fun f x => by split <;> simp only [Dev.setFuse_pw]
  have hcaps : caps.pw = hub.pw := forIx_pw _ _ _ fun n x => by simp only [setCapAvg_pw]
  rw [setAuthority_pw]
  simp only [page, shown, Dev.wr_pw]
  rw [hcaps, setCapAvg_pw, hfuses, hmissed, hstart]

theorem wakeHolds_marks (d : Dev) : wakeMarks (wakeHolds d) = wakeMarks d := by
  unfold wakeHolds
  extract_lets reg bus feeders power
  have hbus : bus.pw = d.pw := by simp only [bus]; split <;> simp only [slotHold_pw]
  have hfeeders : feeders.pw = d.pw := by
    simp only [feeders]
    split
    · exact (forL_pw _ _ _ fun i x => by split <;> simp only [slotHold_pw]).trans hbus
    · rfl
  simp only [wakeMarks, power, hfeeders]

theorem mrForceoff_marks (d : Dev) : wakeMarks (mrForceoff d) = wakeMarks d := by
  unfold mrForceoff
  extract_lets _ power forced off noted _ planned
  have hforced : wakeMarks forced = wakeMarks d := by simp only [forced, wakeMarks, power]
  have hoff : off.pw = forced.pw := forIx_pw _ _ _ fun s x => by simp only [setStep, Dev.wr_pw, Dev.setStp_pw, targetOff_pw]
  have hnoted : noted.pw = off.pw := Dev.recd_pw ..
  have hplanned : planned.pw = noted.pw := by simp only [planned]
  clear_value planned noted off
  refine (wakeMarks_of_pw ?_).trans hforced
  simp only [rstAssert, sqGo, Dev.wr_pw, hplanned, hnoted, hoff]

theorem forceTick_marks (d : Dev) : wakeMarks (forceTick d) = wakeMarks d := by
  unfold forceTick
  split
  · rfl
  · split
    · exact mrForceoff_marks d
    · rfl

theorem syncOutTick_pw (d : Dev) : (syncOutTick d).pw = d.pw := by
  unfold syncOutTick; split <;> rfl

/-- A device that wakes is no longer asleep and waits for nothing. -/
theorem wakeDev_marks (d : Dev) (aclk : Nat) : wakeMarks (wakeDev d aclk) = (false, true, false) := by
  unfold wakeDev
  extract_lets _ woken started power stamped applied held rings
  have hwoken : wakeMarks woken = (false, true, false) := by simp only [woken, wakeMarks]
  have hstarted : started.pw = woken.pw := tbStart_pw ..
  have hstamped : wakeMarks stamped = wakeMarks started := by simp only [stamped, wakeMarks, power]
  have happlied : applied.pw = stamped.pw := boundaryApply_pw ..
  have hheld : wakeMarks held = wakeMarks applied := (wakeHolds_marks _).trans (wakeMarks_of_pw (wakeFunctions_pw _))
  have hrings : rings.pw = held.pw := forIx_pw _ _ _ fun r x => by
    dsimp only; split <;> simp only [trainStart_pw, ringGo_pw, Dev.setRg_pw]
  calc wakeMarks (syncOutTick (forceTick rings))
    _ = wakeMarks rings := (wakeMarks_of_pw (syncOutTick_pw _)).trans (forceTick_marks _)
    _ = wakeMarks applied := (wakeMarks_of_pw hrings).trans hheld
    _ = wakeMarks started := (wakeMarks_of_pw happlied).trans hstamped
    _ = (false, true, false) := (wakeMarks_of_pw hstarted).trans hwoken

/-- The checkpoint that is written leaves the marks of a wake. -/
theorem wakeTick0_marks (s : Sys) (aclk : Nat) : wakeMarks (wakeTick0 s aclk).dev = (false, true, false) := by
  have h := wakeDev_marks s.dev aclk
  unfold wakeTick0 ckWrite
  simp only [Sys.on]
  generalize wakeDev s.dev aclk = x at h ⊢
  exact h

/-! ### The statement -/

/-- The supply VSVC beside a mark of VIN_AON. -/
theorem bitOf_setBit_six (v : Nat) (b : Bool) : bitOf (setBit v 6 b) 7 = bitOf v 7 := by
  unfold setBit
  split
  · rfl
  next h => cases b <;> simp [bitOf] at h ⊢ <;> omega

/-- The supply VIN_AON beside a mark of VSVC. -/
theorem bitOf_setBit_seven (v : Nat) (b : Bool) : bitOf (setBit v 7 b) 6 = bitOf v 6 := by
  unfold setBit
  split
  · rfl
  next h => cases b <;> simp [bitOf] at h ⊢ <;> omega

/-- A mark of VIN_AON leaves what VSVC shows. -/
theorem supShow_six_bit (d : Dev) (good : Bool) :
    bitOf ((supShow d 6 good).rd PM_SUP_GOOD) 7 = bitOf (d.rd PM_SUP_GOOD) 7 := by
  unfold supShow
  rw [Dev.rd_wr, bitOf_mod (show 7 < PM_SUP_GOOD.w by decide), bitOf_setBit_six]

/-- A mark of VSVC leaves what VIN_AON shows. -/
theorem supShow_seven_bit (d : Dev) (good : Bool) :
    bitOf ((supShow d 7 good).rd PM_SUP_GOOD) 6 = bitOf (d.rd PM_SUP_GOOD) 6 := by
  unfold supShow
  rw [Dev.rd_wr, bitOf_mod (show 6 < PM_SUP_GOOD.w by decide), bitOf_setBit_seven]

/-- A supply that is lost while the device stays up: shown and latched, and nothing else written. -/
theorem supFault_supShow (d : Dev) {k : Nat} (hk : k < 8) :
    bitOf ((supFault (supShow d k false) k).rd PM_SUP_GOOD) k = false ∧
      bitOf ((supFault (supShow d k false) k).rd PM_SUPFLT) k = true ∧ (supFault (supShow d k false) k).pw = d.pw ∧
      KeepsBut [(PM_SUP_GOOD, 0), (PM_SUPFLT, 0)] d (supFault (supShow d k false) k) := by
  refine ⟨?_, supFault_bit _ hk, rfl, ((KeepsBut.refl _ d).wr PM_SUP_GOOD 0 _ (by simp)).wr PM_SUPFLT 0 _ (by simp)⟩
  rw [(supFault_writes (ids := [PM_SUPFLT.id]) (by decide) (supShow d k false) k).1 _ _ (by decide), supShow_bit d hk]

/-- A power-on reset by the loss of both supplies of the always-on domain. -/
theorem supFault_por (d : Dev) {k : Nat} (hk : k < 8) :
    (supFault (devReset d 0) k).pw.held = true ∧ (supFault (devReset d 0) k).pw.por = true ∧
      (supFault (devReset d 0) k).rd PM_CNT_RESETS = 0 ∧ bitOf ((supFault (devReset d 0) k).rd PM_SUPFLT) k = true := by
  refine ⟨((devReset_por_held d).supFault k).held, rfl, ?_, supFault_bit _ hk⟩
  rw [(supFault_writes (ids := [PM_SUPFLT.id]) (by decide) (devReset d 0) k).1 _ _ (by decide), devReset_por]
  exact (Dev.rd_wr_ne _ _ _ _ (by decide)).trans (resetBase_cleared d (by decide) 0)

/-- Settles O47: the supplies that are shown and latched, the power-on reset of both, a wake that waited, and TESTEN. -/
theorem suppliesClocksAndScan : Obligations.SuppliesClocksAndScan := by
  unfold Obligations.SuppliesClocksAndScan
  refine ⟨fun s => ?fallback, fun s hb => ?vin, fun s hb => ?vinPor, fun s hb hsb => ?vsvc, fun s hb => ?vsvcPor,
    fun s k hno => ?mains, fun s k ha hw => ?wake, fun s => ?scan, fun s => ?scanEnds⟩
  case fallback =>
    refine ⟨_, rfl, rfl, ?_, ?_⟩
    · exact (Dev.rd_recd _ _ _ _ _ _ _ (by decide)).trans (Dev.rd_wr s.sys.dev PM_STATUS_ACLK_INT 0 1)
    · exact ((KeepsBut.refl _ s.sys.dev).wr PM_STATUS_ACLK_INT 0 1 (by simp)).recd _ _ _ _ (fun _ h => List.mem_append_right _ h)
  case vin =>
    have heq : vinAonFault s.sys.dev = supFault (supShow s.sys.dev 6 false) 6 := if_pos ((supShow_six_bit ..).trans hb)
    obtain ⟨t, he, hp, hd⟩ := exec_devRow (s := s) (c := .vinAonFault) (f := vinAonFault) rfl
    refine ⟨t, he, hp, ?_⟩
    rw [hd, heq]
    exact supFault_supShow s.sys.dev (by decide)
  case vinPor =>
    have heq : vinAonFault s.sys.dev = supFault (devReset (supShow s.sys.dev 6 false) 0) 6 :=
      if_neg (by rw [Dev.bit, supShow_six_bit, hb]; exact Bool.false_ne_true)
    obtain ⟨t, he, hp, hd⟩ := exec_devRow (s := s) (c := .vinAonFault) (f := vinAonFault) rfl
    refine ⟨t, he, hp, ?_⟩
    rw [hd, heq]
    exact supFault_por _ (by decide)
  case vsvc =>
    have hbit : (supShow s.sys.dev 7 false).bit PM_SUP_GOOD 0 6 = true := (supShow_seven_bit ..).trans hb
    have hnot : (supShow s.sys.dev 7 false).fl SP_STATUS_SVCBOOT = false := by
      rw [Dev.fl, (supShow_writes (ids := [PM_SUP_GOOD.id]) (by decide) s.sys.dev 7 false).1 _ _ (by decide)]
      exact hsb
    have heq : vsvcLoss s.sys.dev = supFault (supShow s.sys.dev 7 false) 7 := by
      simp only [vsvcLoss, hbit, hnot, Bool.not_true, Bool.false_eq_true, if_false]
    obtain ⟨t, he, hp, hd⟩ := exec_devRow (s := s) (c := .vsvcLoss) (f := vsvcLoss) rfl
    refine ⟨t, he, hp, ?_⟩
    rw [hd, heq]
    exact supFault_supShow s.sys.dev (by decide)
  case vsvcPor =>
    have hbit : (supShow s.sys.dev 7 false).bit PM_SUP_GOOD 0 6 = false := (supShow_seven_bit ..).trans hb
    have heq : vsvcLoss s.sys.dev = supFault (devReset (supShow s.sys.dev 7 false) 0) 7 := by
      simp only [vsvcLoss, hbit, Bool.not_false, if_true]
    obtain ⟨t, he, hp, hd⟩ := exec_devRow (s := s) (c := .vsvcLoss) (f := vsvcLoss) rfl
    obtain ⟨hheld, hpor, -, hflt⟩ := supFault_por (supShow s.sys.dev 7 false) (k := 7) (by decide)
    refine ⟨t, he, hp, ?_⟩
    rw [hd, heq]
    exact ⟨hheld, hpor, hflt⟩
  case mains =>
    have hgo : (s.sys.dev.pw.asleep && s.sys.dev.pw.waitMain) = false := by
      rcases hno with h | h <;> simp [h]
    refine ⟨_, rfl, rfl, ?_⟩
    have heq : (mainSuppliesGood s.sys k.toNat).dev = s.sys.dev.wr PM_SUP_GOOD 0 (setBits (s.sys.dev.rd PM_SUP_GOOD) 0 6 63) :=
      congrArg Sys.dev (if_neg (by simpa using hgo))
    change bitsOf ((mainSuppliesGood s.sys k.toNat).dev.rd PM_SUP_GOOD) 0 6 = 63 ∧
      (mainSuppliesGood s.sys k.toNat).dev.pw = s.sys.dev.pw ∧
      KeepsBut [(PM_SUP_GOOD, 0)] s.sys.dev (mainSuppliesGood s.sys k.toNat).dev
    rw [heq]
    refine ⟨?_, rfl, (KeepsBut.refl _ s.sys.dev).wr _ _ _ (by simp)⟩
    rw [Dev.rd_wr, bitsOf_mod (show 0 + 6 ≤ PM_SUP_GOOD.w by decide), bitsOf_setBits]
    rfl
  case wake =>
    have hgo : (s.sys.dev.pw.asleep && s.sys.dev.pw.waitMain) = true := by simp [ha, hw]
    have heq : mainSuppliesGood s.sys k.toNat = wakeTick0 (s.sys.on (fun d => d.wr PM_SUP_GOOD 0
        (setBits (d.rd PM_SUP_GOOD) 0 6 63))) k.toNat := if_pos hgo
    have hm := wakeTick0_marks (s.sys.on (fun d => d.wr PM_SUP_GOOD 0 (setBits (d.rd PM_SUP_GOOD) 0 6 63))) k.toNat
    rw [← heq] at hm
    simp only [wakeMarks, Prod.mk.injEq] at hm
    exact ⟨_, rfl, rfl, hm⟩
  case scan =>
    obtain ⟨t, he, hp, hd⟩ := exec_devRow (s := s) (c := .boundaryScan true) (f := fun d => boundaryScan d true) rfl
    refine ⟨t, he, hp, ?_⟩
    rw [hd]
    refine ⟨?_, congrArg (· != 0) (Dev.rd_wr _ GL_STATUS_TESTEN 0 1)⟩
    simp only [boundaryScan, if_true, Dev.wr_pw]
    split
    next h => exact h
    · exact (devReset_held s.sys.dev (k := 1) (by decide)).held
  case scanEnds =>
    obtain ⟨t, he, hp, hd⟩ := exec_devRow (s := s) (c := .boundaryScan false) (f := fun d => boundaryScan d false) rfl
    refine ⟨t, he, hp, ?_⟩
    rw [hd]
    exact ⟨rfl, congrArg (· != 0) (Dev.rd_wr s.sys.dev GL_STATUS_TESTEN 0 0), (KeepsBut.refl _ s.sys.dev).wr _ _ _ (by simp)⟩

end Sys2Proof.Machine
end

section
/-! PROOFS about the postmark and the tick edges: the offset of a capture, the nanoseconds of a tick, and the steps that open an
edge (R41 to R45, R53, R57). -/

namespace Sys2Proof.Machine
open R

/-! ### The offset of a capture (R57) -/

/-- A capture is its offset after a whole number of periods, and the offset lies in −period/2 < e ≤ +period/2. -/
theorem syncOffset_spec (c : Nat) {period : Nat} (h : 0 < period) :
    (∃ t : Int, syncOffset c period = c - t * period) ∧ -(period : Int) < 2 * syncOffset c period ∧
      2 * syncOffset c period ≤ period := by
  have hlt : c % period < period := Nat.mod_lt c h
  have hc : (c : Int) = (c / period : Nat) * period + (c % period : Nat) := by exact_mod_cast (Nat.div_add_mod' c period).symm
  unfold syncOffset
  by_cases hr : 2 * (c % period) ≤ period
  · simp only [hr, if_true]
    exact ⟨⟨(c / period : Nat), by omega⟩, by omega, by omega⟩
  · simp only [hr, if_false]
    exact ⟨⟨(c / period : Nat) + 1, by rw [Int.add_mul]; omega⟩, by omega, by omega⟩

/-- A number within half a period of 0 is no further from 0 than any number a whole count of periods from it. -/
theorem natAbs_le_natAbs_add_mul {e p : Int} (hlo : -p < 2 * e) (hhi : 2 * e ≤ p) (k : Int) :
    e.natAbs ≤ (e + k * p).natAbs := by
  have hp : 0 ≤ p := by omega
  rcases lt_trichotomy k 0 with hk | rfl | hk
  · have : p ≤ -k * p := le_mul_of_one_le_left hp (by omega)
    rw [Int.neg_mul] at this
    omega
  · simp
  · have : p ≤ k * p := le_mul_of_one_le_left hp (by omega)
    omega

/-- Settles O59: the offset is a remainder within half a period, and no other multiple of the period is nearer. -/
theorem captureOffsetsAreNearest : Obligations.CaptureOffsetsAreNearest := by
  unfold Obligations.CaptureOffsetsAreNearest
  intro c period h
  obtain ⟨⟨t, ht⟩, hlo, hhi⟩ := syncOffset_spec c h
  refine ⟨t, ht, fun u => ?_, hlo, hhi⟩
  have hu : (c : Int) - u * period = syncOffset c period + (t - u) * period := by rw [ht]; ring
  rw [hu, ← ht]
  exact natAbs_le_natAbs_add_mul hlo hhi _

/-! ### The postmark's nanoseconds (R53) -/

/-- A pair that holds the counts and the rate words of 1000 nanoseconds, with nothing lost, is what a tick advances to. -/
theorem pmAdvance_eq_of_sum {rate : Int} {pm frac : Nat} {x : Nat × Nat} (hx : x.2 < 2 ^ 32)
    (hsum : ((x.1 : Int) - pm - 1000) * 2 ^ 32 + x.2 = frac + 1000 * rate) : pmAdvance pm frac rate = x := by
  unfold pmAdvance
  exact Prod.ext (by dsimp only; omega) (by dsimp only; omega)

/-- After `n` nanoseconds the postmark and the fraction hold `n` counts and `n` rate words more, with nothing lost. -/
theorem nsStep_iterate {rate : Int} (hlo : -2 ^ 32 ≤ rate) (hhi : rate ≤ 2 ^ 32) (pm : Nat) {frac : Nat}
    (hf : frac < 2 ^ 32) (n : Nat) :
    ((nsStep rate)^[n] (pm, frac)).2 < 2 ^ 32 ∧
      ((((nsStep rate)^[n] (pm, frac)).1 : Int) - pm - n) * 2 ^ 32 + ((nsStep rate)^[n] (pm, frac)).2 = frac + n * rate := by
  induction n with
  | zero => simpa using hf
  | succ n ih =>
    rw [Function.iterate_succ_apply']
    generalize (nsStep rate)^[n] (pm, frac) = x at ih ⊢
    obtain ⟨hx, hsum⟩ := ih
    have hn : ((n + 1 : Nat) : Int) * rate = n * rate + rate := by push_cast; ring
    rw [hn]
    unfold nsStep
    dsimp only
    split_ifs <;> exact ⟨by dsimp only; omega, by dsimp only; omega⟩

/-- A tick's advance is 1000 nanoseconds, of which the rate word adds or suppresses at most one. -/
theorem pmAdvance_eq_iterate {rate : Int} (hlo : -858993 ≤ rate) (hhi : rate ≤ 858993) (pm : Nat) {frac : Nat}
    (hf : frac < 2 ^ 32) :
    pmAdvance pm frac rate = (nsStep rate)^[1000] (pm, frac) ∧ (pmAdvance pm frac rate).2 < 2 ^ 32 ∧
      pm + 999 ≤ (pmAdvance pm frac rate).1 ∧ (pmAdvance pm frac rate).1 ≤ pm + 1001 := by
  have h := nsStep_iterate (rate := rate) (by omega) (by omega) pm hf 1000
  generalize (nsStep rate)^[1000] (pm, frac) = x at h ⊢
  obtain ⟨hx, hsum⟩ := h
  rw [pmAdvance_eq_of_sum hx (by exact_mod_cast hsum)]
  exact ⟨rfl, hx, by omega, by omega⟩

/-! ### A tick edge (R41, R42, R50, R53) -/

/-- The device with its tick counter and its time base advanced, before a waiting rate word comes into force. -/
def ticked (d : Dev) : Dev :=
  ({ d with tb := { d.tb with
      now := d.tb.now + 1, pm := (pmAdvance d.tb.pm d.tb.frac (d.rdS TB_RATE)).1 + d.tb.stepNext,
      frac := (pmAdvance d.tb.pm d.tb.frac (d.rdS TB_RATE)).2, hist := (d.tb.pm :: d.tb.hist).take 16,
      rateNext := none, stepNext := 0, stage := 0, handed := 0 } } : Dev).wr TB_TICK 0 (d.rd TB_TICK + 1)

/-- An edge advances the counters, and a rate word that waited comes into force. -/
theorem tbEdge_cases (d : Dev) : tbEdge d = ticked d ∨ ∃ x, tbEdge d = (ticked d).wrS TB_RATE 0 x := by
  unfold tbEdge
  dsimp only
  split
  · exact .inr ⟨_, rfl⟩
  · exact .inl rfl

theorem tbEdge_tb (d : Dev) : (tbEdge d).tb = (ticked d).tb := by
  rcases tbEdge_cases d with h | ⟨x, h⟩
  · rw [h]
  · rw [h, Dev.wrS, Dev.wr_tb]

/-- What the frame counters do at an edge leaves the time base. -/
theorem openEdge_tb (frame : Bool) (d : Dev) : (openEdge frame d).tb = (ticked d).tb := by
  rw [← tbEdge_tb]; cases frame <;> rfl

theorem tbEdge_tick (d : Dev) : (tbEdge d).rd TB_TICK = (d.rd TB_TICK + 1) % 2 ^ 32 := by
  have h0 : (ticked d).rd TB_TICK = (d.rd TB_TICK + 1) % 2 ^ 32 := Dev.rd_wr _ TB_TICK 0 _
  rcases tbEdge_cases d with h | ⟨x, h⟩
  · rw [h, h0]
  · rw [h, Dev.wrS, Dev.rd_wr_ne _ _ _ _ (by decide), h0]

theorem tbEdge_keeps (d : Dev) : KeepsBut [(TB_TICK, 0), (TB_RATE, 0)] d (tbEdge d) := by
  have h0 : KeepsBut [(TB_TICK, 0), (TB_RATE, 0)] d (ticked d) :=
    ((KeepsBut.refl _ d).of_regs rfl).wr TB_TICK 0 _ (by simp)
  rcases tbEdge_cases d with h | ⟨x, h⟩
  · rw [h]; exact h0
  · rw [h]; exact h0.wrS TB_RATE 0 x (by simp)

/-- Every edge advances the tick counter, and the postmark by R53 and a forward step, and begins its tick. -/
theorem openEdge_counts (frame : Bool) (d : Dev) : (openEdge frame d).rd TB_TICK = (d.rd TB_TICK + 1) % 2 ^ 32 ∧
    (openEdge frame d).tb.now = d.tb.now + 1 ∧ (openEdge frame d).tb.stage = 0 ∧
    (openEdge frame d).tb.pm = (pmAdvance d.tb.pm d.tb.frac (d.rdS TB_RATE)).1 + d.tb.stepNext := by
  have htick : (openEdge frame d).rd TB_TICK = (tbEdge d).rd TB_TICK := by
    cases frame
    · exact Dev.rd_wr_ne _ _ _ _ (by decide)
    · exact (Dev.rd_wr_ne _ _ _ _ (by decide)).trans (Dev.rd_wr_ne _ _ _ _ (by decide))
  rw [openEdge_tb, htick, tbEdge_tick]
  exact ⟨rfl, rfl, rfl, rfl⟩

theorem openEdge_frac (frame : Bool) (d : Dev) :
    (openEdge frame d).tb.frac = (pmAdvance d.tb.pm d.tb.frac (d.rdS TB_RATE)).2 := by
  rw [openEdge_tb]; rfl

/-- An edge that is no frame boundary advances the frame position. -/
theorem openEdge_tick (d : Dev) : (openEdge false d).rd TB_FRAME_POS = (d.rd TB_FRAME_POS + 1) % 2 ^ 10 ∧
    KeepsBut [(TB_TICK, 0), (TB_FRAME_POS, 0), (TB_RATE, 0)] d (openEdge false d) := by
  have hk := tbEdge_keeps d
  refine ⟨?_, (hk.mono (by simp)).wr TB_FRAME_POS 0 _ (by simp)⟩
  rw [← hk TB_FRAME_POS 0 (by decide)]
  exact Dev.rd_wr _ TB_FRAME_POS 0 _

/-- A frame boundary returns the frame position to 0 and advances the frame number. -/
theorem openEdge_frame (d : Dev) : (openEdge true d).rd TB_FRAME_POS = 0 ∧
    (openEdge true d).rd TB_FRAME_NUM = (d.rd TB_FRAME_NUM + 1) % 2 ^ 32 ∧
    KeepsBut [(TB_TICK, 0), (TB_FRAME_POS, 0), (TB_FRAME_NUM, 0), (TB_RATE, 0)] d (openEdge true d) := by
  have hk := tbEdge_keeps d
  refine ⟨?_, ?_, ((hk.mono (by simp)).wr TB_FRAME_POS 0 _ (by simp)).wr TB_FRAME_NUM 0 _ (by simp)⟩
  · exact (Dev.rd_wr_ne _ _ _ _ (by decide)).trans (Dev.rd_wr _ TB_FRAME_POS 0 0)
  · rw [← hk TB_FRAME_NUM 0 (by decide)]
    exact Dev.rd_wr _ TB_FRAME_NUM 0 _

/-! ### The steps that open an edge (R42, R45) -/

section
variable {s : State} (p : Pins) (hl : s.sys.dev.live = true) (hr : s.sys.dev.tb.run = true)
include hl hr

/-- TICK_EDGE at an edge that is no frame boundary. -/
theorem tickEdge_of_tick (ho : s.sys.dev.tb.frameOpen = false) (h : s.ended.dev.rd TB_FRAME_POS ≠ 999) :
    tickEdge p s.sys = if (s.ended.on tickBoundary).dev.live then phaseA p (s.ended.on tickBoundary)
      else s.ended.on tickBoundary := by
  unfold State.ended at h ⊢
  simp only [tickEdge, hl, hr, ho, h, Bool.not_true, Bool.or_self, Bool.false_eq_true, if_false]

/-- TICK_EDGE at a frame boundary that no FRAME_BOUNDARY opened. -/
theorem tickEdge_of_frame (ho : s.sys.dev.tb.frameOpen = false) (h : s.ended.dev.rd TB_FRAME_POS = 999) :
    tickEdge p s.sys = if (frameEdge s.ended).dev.live then phaseA p (frameEdge s.ended) else frameEdge s.ended := by
  unfold State.ended at h ⊢
  simp only [tickEdge, hl, hr, ho, h, Bool.not_true, Bool.or_self, Bool.false_eq_true, if_false, if_true]

/-- TICK_EDGE after the FRAME_BOUNDARY that opened its edge. -/
theorem tickEdge_of_open (ho : s.sys.dev.tb.frameOpen = true) : tickEdge p s.sys = phaseA p s.sys := by
  simp only [tickEdge, hl, hr, ho, Bool.not_true, Bool.or_self, Bool.false_eq_true, if_false, if_true]

/-- FRAME_BOUNDARY at its edge. -/
theorem frameBoundary_of_frame (ho : s.sys.dev.tb.frameOpen = false) (h : s.sys.dev.rd TB_FRAME_POS = 999) :
    frameBoundary s.sys = (frameEdge s.ended).on openFrame := by
  simp only [frameBoundary, Dev.open_, hl, hr, ho, h, Bool.not_false, Bool.and_self, beq_self_eq_true, if_true]
  rfl

end

/-- Settles O1: each edge is `openEdge`, and what follows it is what the row does with the edge. -/
theorem tickEdgesAdvanceTheCounters : Obligations.TickEdgesAdvanceTheCounters := by
  unfold Obligations.TickEdgesAdvanceTheCounters
  refine ⟨fun s p hl hr ho hpos => ?tick, fun s p hl hr ho hpos => ?frame, fun s hl hr ho hpos => ?boundary,
    fun s p hl hr ho => ⟨_, rfl, rfl, tickEdge_of_open p hl hr ho⟩⟩
  case tick =>
    obtain ⟨htick, hnow, hstage, hpm⟩ := openEdge_counts false s.ended.dev
    obtain ⟨hp, hk⟩ := openEdge_tick s.ended.dev
    exact ⟨_, rfl, rfl, openEdge false s.ended.dev, tickEdge_of_tick p hl hr ho hpos, htick, hnow, hstage, hpm, hp, hk⟩
  case frame =>
    obtain ⟨htick, hnow, hstage, hpm⟩ := openEdge_counts true s.ended.dev
    obtain ⟨hp, hn, hk⟩ := openEdge_frame s.ended.dev
    exact ⟨_, rfl, rfl, openEdge true s.ended.dev, tickEdge_of_frame p hl hr ho hpos, htick, hnow, hstage, hpm, hp, hn, hk⟩
  case boundary =>
    obtain ⟨htick, hnow, hstage, hpm⟩ := openEdge_counts true s.ended.dev
    obtain ⟨hp, hn, hk⟩ := openEdge_frame s.ended.dev
    exact ⟨_, rfl, rfl, openEdge true s.ended.dev, frameBoundary_of_frame hl hr ho hpos, htick, hnow, hstage, hpm, hp, hn, hk⟩

end Sys2Proof.Machine
end

section
/-! PROOFS about SYNC_CAPTURE and SYNC_MISS: what misses, updates and captures leave of the time base (R46, R53, R57 to R59). -/

namespace Sys2Proof.Machine
open R

/-! ### Readings of fields that an operation keeps -/

section
variable {l : List (Reg × Nat)} {d e : Dev} (h : KeepsBut l d e) {r : Reg} (hr : ∀ f ∈ l, r.id ≠ f.1.id ∨ 0 ≠ f.2)
include h hr

theorem KeepsBut.rdS_eq : e.rdS r = d.rdS r := congrArg (toS r.w) (h r 0 hr)
theorem KeepsBut.rd1_eq : e.rd1 r = d.rd1 r := congrArg act1 (h r 0 hr)
theorem KeepsBut.fl_eq : e.fl r = d.fl r := congrArg (· != 0) (h r 0 hr)

end

/-- The period stands where its field stands. -/
theorem KeepsBut.syncPeriod_eq {l : List (Reg × Nat)} {d e : Dev} (h : KeepsBut l d e)
    (hp : ∀ f ∈ l, TB_SYNC_PERIOD.id ≠ f.1.id ∨ 0 ≠ f.2) : syncPeriod e = syncPeriod d :=
  congrArg (clampN 1000000 1000000000) (h TB_SYNC_PERIOD 0 hp)

/-- The internal state of the time base changes. -/
def Dev.setTb (d : Dev) (x : TimeBase) : Dev := { d with tb := x }

@[simp] theorem Dev.setTb_tb (d : Dev) (x : TimeBase) : (d.setTb x).tb = x := rfl
@[simp] theorem Dev.setTb_bs (d : Dev) (x : TimeBase) : (d.setTb x).bs = d.bs := rfl
@[simp] theorem Dev.setTb_rd (d : Dev) (x : TimeBase) (r : Reg) (ix : Nat) : (d.setTb x).rd r ix = d.rd r ix := rfl
theorem KeepsBut.setTb {l : List (Reg × Nat)} {a b : Dev} (h : KeepsBut l a b) (x : TimeBase) : KeepsBut l a (b.setTb x) := h

theorem recFields_mem_append (l : List (Reg × Nat)) : ∀ x ∈ recFields, x ∈ l ++ recFields :=
  fun _ => List.mem_append_right l

/-! ### Misses (R59) -/

/-- One miss more is the last that LOCKED bears. -/
def Dev.missLimit (d : Dev) : Prop := d.rd TB_STATUS_LOCK = 2 ∧ d.rd1 TB_SYNC_GAIN_MISS_LIM ≤ d.tb.missRun + 1

/-- A miss is counted. -/
def Dev.addMiss (d : Dev) : Dev := d.setTb { d.tb with missRun := d.tb.missRun + 1 }

/-- The lock state is HOLDOVER, with its event. -/
def Dev.inHoldover (d : Dev) : Dev := (d.wr TB_STATUS_LOCK 0 3).ev TB_EVT_HOLDOVER

theorem syncMissCount_below {d : Dev} (h : ¬ d.missLimit) : syncMissCount d = d.addMiss := if_neg h

/-- HOLDOVER runs with the frequency accumulator as the rate. -/
theorem syncMissCount_limit {d : Dev} (h : d.missLimit) : syncMissCount d =
    (d.addMiss.inHoldover.setTb { d.addMiss.inHoldover.tb with rateNext := some (d.addMiss.inHoldover.rdS TB_FREQ) }).recd
      0x0103 0 0 [] := if_pos h

theorem Dev.inHoldover_keeps (d : Dev) : KeepsBut [(TB_STATUS_LOCK, 0), (TB_EVT_HOLDOVER, 0)] d d.inHoldover :=
  ((KeepsBut.refl _ d).wr TB_STATUS_LOCK 0 3 (by simp)).ev TB_EVT_HOLDOVER 0 (by simp)

@[simp] theorem Dev.inHoldover_tb (d : Dev) : d.inHoldover.tb = d.tb := by simp [Dev.inHoldover]
@[simp] theorem Dev.inHoldover_bs (d : Dev) : d.inHoldover.bs = d.bs := by simp [Dev.inHoldover]

/-- The lock state reads HOLDOVER, and its event is set. -/
theorem Dev.inHoldover_shown (d : Dev) : d.inHoldover.rd TB_STATUS_LOCK = 3 ∧ d.inHoldover.fl TB_EVT_HOLDOVER = true :=
  ⟨(Dev.rd_ev_ne _ _ _ (by decide)).trans (Dev.rd_wr d TB_STATUS_LOCK 0 3), Dev.fl_ev _ TB_EVT_HOLDOVER 0 rfl⟩

/-- Counting a miss writes the lock state, the event of HOLDOVER and a record alone. -/
theorem syncMissCount_keeps (d : Dev) :
    KeepsBut ([(TB_STATUS_LOCK, 0), (TB_EVT_HOLDOVER, 0)] ++ recFields) d (syncMissCount d) := by
  by_cases h : d.missLimit
  · rw [syncMissCount_limit h]
    exact (((d.addMiss.inHoldover_keeps).mono (fun _ => List.mem_append_left _)).setTb _).recd _ _ _ _ (recFields_mem_append _)
  · rw [syncMissCount_below h]
    exact KeepsBut.refl _ d

@[simp] theorem syncMissCount_bs (d : Dev) : (syncMissCount d).bs = d.bs := by
  by_cases h : d.missLimit
  · rw [syncMissCount_limit h]; simp [Dev.addMiss]
  · rw [syncMissCount_below h]; rfl

/-- The misses in a row before the limit. -/
theorem syncMissCount_below_spec {d : Dev} (h : ¬ d.missLimit) :
    (syncMissCount d).tb = { d.tb with missRun := d.tb.missRun + 1 } ∧
      (syncMissCount d).rd TB_STATUS_LOCK = d.rd TB_STATUS_LOCK := by
  rw [syncMissCount_below h]; exact ⟨rfl, rfl⟩

/-- The limit of misses enters HOLDOVER with the frequency accumulator as the rate. -/
theorem syncMissCount_limit_spec {d : Dev} (h : d.missLimit) :
    (syncMissCount d).tb = { d.tb with missRun := d.tb.missRun + 1, rateNext := some (d.rdS TB_FREQ) } ∧
      (syncMissCount d).rd TB_STATUS_LOCK = 3 ∧ (syncMissCount d).fl TB_EVT_HOLDOVER = true := by
  rw [syncMissCount_limit h]
  have hf : d.addMiss.inHoldover.rdS TB_FREQ = d.rdS TB_FREQ := d.addMiss.inHoldover_keeps.rdS_eq (by decide)
  refine ⟨?_, ?_, ?_⟩
  · rw [Dev.recd_tb, Dev.setTb_tb, hf, Dev.inHoldover_tb]; rfl
  · rw [Dev.rd_recd _ _ _ _ _ _ _ (by decide), Dev.setTb_rd]
    exact d.addMiss.inHoldover_shown.1
  · rw [Dev.fl, Dev.rd_recd _ _ _ _ _ _ _ (by decide), Dev.setTb_rd]
    exact d.addMiss.inHoldover_shown.2

/-- Each miss is counted, and nothing else of the time base changes but the rate. -/
theorem syncMissCount_tb (d : Dev) : (syncMissCount d).tb =
    { d.tb with missRun := d.tb.missRun + 1, rateNext := (syncMissCount d).tb.rateNext } := by
  by_cases h : d.missLimit
  · rw [(syncMissCount_limit_spec h).1]
  · rw [(syncMissCount_below_spec h).1]

/-! ### Updates (R58) -/

/-- A saturated rate lies within its limit. -/
theorem satRate_bounds (x : Int) : -rateMax ≤ satRate x ∧ satRate x ≤ rateMax := by
  unfold satRate clampI rateMax; omega

/-- A saturated rate reads back from the frequency accumulator. -/
theorem rdS_wrS_freq (d : Dev) (x : Int) : (d.wrS TB_FREQ 0 (satRate x)).rdS TB_FREQ = satRate x := by
  have h := satRate_bounds x
  unfold rateMax at h
  rw [Dev.rdS_wrS _ _ _ _ (by decide)]
  exact satS_id _ _ (by norm_num [TB_FREQ]; omega) (by norm_num [TB_FREQ]; omega)

/-- The frequency accumulator after a capture of offset `e` (R58). -/
def capFreq (d : Dev) (e : Int) : Int :=
  satRate (d.rdS TB_FREQ - rdiv (rdiv (e * (2 ^ 32 : Nat)) (syncPeriod d : Int)) (2 ^ d.rd TB_SYNC_GAIN_KI : Nat))

/-- A device whose rate word of the next edge is `r`, with a forward step of `st`. -/
def Dev.setRate (d : Dev) (st : Nat) (r : Int) : Dev := d.setTb { d.tb with stepNext := st, rateNext := some r }

/-- An update writes the frequency accumulator and a rate within its limit, and may record a step. -/
theorem syncUpdate_cases (d : Dev) (e : Int) (ok : Bool) : ∃ (st : Nat) (r : Int), -rateMax ≤ r ∧ r ≤ rateMax ∧
    (syncUpdate d e ok = (d.wrS TB_FREQ 0 (capFreq d e)).setRate st r ∨
      syncUpdate d e ok = (((d.wrS TB_FREQ 0 (capFreq d e)).setRate st r).ev TB_EVT_STEP).recd 0x0102 0 0 []) := by
  unfold syncUpdate
  dsimp only
  split
  · obtain ⟨hlo, hhi⟩ := satRate_bounds (d.rdS TB_FREQ -
      rdiv (rdiv (e * (2 ^ 32 : Nat)) (syncPeriod d : Int)) (2 ^ d.rd TB_SYNC_GAIN_KI : Nat))
    exact ⟨_, _, hlo, hhi, .inr rfl⟩
  · exact ⟨_, _, (satRate_bounds _).1, (satRate_bounds _).2, .inl rfl⟩

/-- What an update leaves of the device. -/
theorem syncUpdate_spec (d : Dev) (e : Int) (ok : Bool) :
    KeepsBut ([(TB_FREQ, 0), (TB_EVT_STEP, 0)] ++ recFields) d (syncUpdate d e ok) ∧
      (syncUpdate d e ok).rdS TB_FREQ = capFreq d e ∧ (syncUpdate d e ok).bs = d.bs ∧
      ∃ (st : Nat) (r : Int), -rateMax ≤ r ∧ r ≤ rateMax ∧
        (syncUpdate d e ok).tb = { d.tb with stepNext := st, rateNext := some r } := by
  obtain ⟨st, r, hlo, hhi, heq⟩ := syncUpdate_cases d e ok
  have hk : KeepsBut ([(TB_FREQ, 0), (TB_EVT_STEP, 0)] ++ recFields) d ((d.wrS TB_FREQ 0 (capFreq d e)).setRate st r) :=
    ((KeepsBut.refl _ d).wrS TB_FREQ 0 _ (by simp)).setTb _
  have hfreq : ((d.wrS TB_FREQ 0 (capFreq d e)).setRate st r).rdS TB_FREQ = capFreq d e := rdS_wrS_freq d _
  rcases heq with heq | heq
  · rw [heq]
    exact ⟨hk, hfreq, rfl, st, r, hlo, hhi, rfl⟩
  · rw [heq]
    have hev : KeepsBut ([(TB_EVT_STEP, 0)] ++ recFields) ((d.wrS TB_FREQ 0 (capFreq d e)).setRate st r)
        ((((d.wrS TB_FREQ 0 (capFreq d e)).setRate st r).ev TB_EVT_STEP).recd 0x0102 0 0 []) :=
      ((KeepsBut.refl _ _).ev TB_EVT_STEP 0 (by simp)).recd _ _ _ _ (recFields_mem_append _)
    refine ⟨hk.trans (hev.mono (fun _ => List.mem_cons_of_mem _)), (hev.rdS_eq (by decide)).trans hfreq, ?_, st, r, hlo, hhi,
      ?_⟩
    · rw [Dev.recd_bs, Dev.ev_bs]; rfl
    · rw [Dev.recd_tb, Dev.ev_tb]; rfl

/-! ### The lock state after an accepted capture (R59) -/

/-- The lock state changes with its field, a record and the run of captures alone. -/
theorem capState_spec (d : Dev) (st run : Nat) : KeepsBut ([(TB_STATUS_LOCK, 0)] ++ recFields) d (capState d st run) ∧
    (capState d st run).bs = d.bs ∧ ∃ k, (capState d st run).tb = { d.tb with lockRun := k } := by
  have hk : ∀ v, KeepsBut ([(TB_STATUS_LOCK, 0)] ++ recFields) d (d.wr TB_STATUS_LOCK 0 v) := fun v =>
    (KeepsBut.refl _ d).wr TB_STATUS_LOCK 0 v (by simp)
  unfold capState
  split
  · split
    · exact ⟨(hk 2).recd _ _ _ _ (recFields_mem_append _), Dev.recd_bs .., _, Dev.recd_tb ..⟩
    · exact ⟨KeepsBut.refl _ d, rfl, _, rfl⟩
  · split
    · exact ⟨(hk 1).setTb _, rfl, _, rfl⟩
    · exact ⟨KeepsBut.refl _ d, rfl, _, rfl⟩

/-- LOCKED stays LOCKED. -/
theorem capState_locked (d : Dev) (run : Nat) : capState d 2 run = d := rfl

/-- HOLDOVER returns to ACQUIRE. -/
theorem capState_holdover (d : Dev) (run : Nat) : (capState d 3 run).rd TB_STATUS_LOCK = 1 := Dev.rd_wr d TB_STATUS_LOCK 0 1

/-- The LOCK_N-th capture in a row locks. -/
theorem capState_locks (d : Dev) {run : Nat} (h : d.rd1 TB_SYNC_GAIN_LOCK_N ≤ run) :
    (capState d 1 run).rd TB_STATUS_LOCK = 2 := by
  have heq : capState d 1 run = (d.wr TB_STATUS_LOCK 0 2).recd 0x0101 0 0 [] := if_pos h
  rw [heq, Dev.rd_recd _ _ _ _ _ _ _ (by decide)]
  exact Dev.rd_wr d TB_STATUS_LOCK 0 2

/-! ### Accepted captures (R58, R59) -/

/-- The captures in a row within LOCKTHR, with one at `pm`. -/
def capRun (d : Dev) (pm : Nat) : Nat :=
  if (syncOffset pm (syncPeriod d)).natAbs ≤ d.rd TB_SYNC_LOCKTHR then d.tb.lockRun + 1 else 0

/-- The time base notes an accepted capture. -/
def capNoted (d : Dev) (pm : Nat) : Dev := d.setTb
  { d.tb with lastCap := some pm, missRun := 0, expect := some (capExpect d pm), lockRun := capRun d pm }

/-- The device after the update of an accepted capture, before its lock state. -/
def capUpdated (d : Dev) (pm : Nat) : Dev :=
  syncUpdate (capNoted d pm) (syncOffset pm (syncPeriod d)) (d.rd TB_STATUS_LOCK == 1)

theorem capAccept_eq (d : Dev) (pm : Nat) :
    capAccept d pm = capState (capUpdated d pm) (d.rd TB_STATUS_LOCK) (capRun d pm) := rfl

/-- What an accepted capture leaves of the device. -/
theorem capAccept_spec (d : Dev) (pm : Nat) :
    KeepsBut ([(TB_FREQ, 0), (TB_STATUS_LOCK, 0), (TB_EVT_STEP, 0)] ++ recFields) d (capAccept d pm) ∧
      (capAccept d pm).rdS TB_FREQ = capFreq d (syncOffset pm (syncPeriod d)) ∧ (capAccept d pm).bs = d.bs ∧
      (capAccept d pm).tb.lastCap = some pm ∧ (capAccept d pm).tb.missRun = 0 ∧
      ∃ r, -rateMax ≤ r ∧ r ≤ rateMax ∧ (capAccept d pm).tb.rateNext = some r := by
  obtain ⟨hku, hfreq, hbu, st, r, hlo, hhi, htu⟩ :=
    syncUpdate_spec (capNoted d pm) (syncOffset pm (syncPeriod d)) (d.rd TB_STATUS_LOCK == 1)
  obtain ⟨hks, hbs, k, hts⟩ := capState_spec (capUpdated d pm) (d.rd TB_STATUS_LOCK) (capRun d pm)
  rw [capAccept_eq]
  refine ⟨?_, (hks.rdS_eq (by decide)).trans hfreq, hbs.trans hbu, ?_, ?_, r, hlo, hhi, ?_⟩
  · have h0 : KeepsBut ([(TB_FREQ, 0), (TB_STATUS_LOCK, 0), (TB_EVT_STEP, 0)] ++ recFields) d (capNoted d pm) :=
      (KeepsBut.refl _ d).setTb _
    exact (h0.trans (hku.mono (by simp +contextual))).trans (hks.mono (by simp +contextual))
  · exact (congrArg TimeBase.lastCap hts).trans (congrArg TimeBase.lastCap htu)
  · exact (congrArg TimeBase.missRun hts).trans (congrArg TimeBase.missRun htu)
  · exact (congrArg TimeBase.rateNext hts).trans (congrArg TimeBase.rateNext htu)

/-- The lock state after an accepted capture. -/
theorem capAccept_lock (d : Dev) (pm : Nat) :
    (d.rd TB_STATUS_LOCK = 2 → (capAccept d pm).rd TB_STATUS_LOCK = 2) ∧
      (d.rd TB_STATUS_LOCK = 3 → (capAccept d pm).rd TB_STATUS_LOCK = 1) ∧
      (d.rd TB_STATUS_LOCK = 1 → (syncOffset pm (syncPeriod d)).natAbs ≤ d.rd TB_SYNC_LOCKTHR →
        d.rd1 TB_SYNC_GAIN_LOCK_N ≤ d.tb.lockRun + 1 → (capAccept d pm).rd TB_STATUS_LOCK = 2) := by
  have hku : KeepsBut ([(TB_FREQ, 0), (TB_EVT_STEP, 0)] ++ recFields) (capNoted d pm) (capUpdated d pm) :=
    (syncUpdate_spec ..).1
  rw [capAccept_eq]
  refine ⟨fun h => ?_, fun h => ?_, fun h hthr hn => ?_⟩
  · rw [h, capState_locked]
    exact (hku TB_STATUS_LOCK 0 (by decide)).trans h
  · rw [h]; exact capState_holdover _ _
  · rw [h, capRun, if_pos hthr]
    exact capState_locks _ ((hku.rd1_eq (r := TB_SYNC_GAIN_LOCK_N) (by decide)).trans_le hn)

/-! ### Captures (R46, R57, R59) -/

/-- TB_SYNC_CAP and TB_SYNC_ERR show a capture. -/
def capShown (d : Dev) (pm : Nat) : Dev := (d.wr TB_SYNC_CAP_LO 0 pm).wrS TB_SYNC_ERR 0 (syncOffset pm (syncPeriod d))

theorem capShown_keeps (d : Dev) (pm : Nat) : KeepsBut [(TB_SYNC_CAP_LO, 0), (TB_SYNC_ERR, 0)] d (capShown d pm) :=
  ((KeepsBut.refl _ d).wr TB_SYNC_CAP_LO 0 pm (by simp)).wrS TB_SYNC_ERR 0 _ (by simp)

theorem capShown_tb (d : Dev) (pm : Nat) : (capShown d pm).tb = d.tb := rfl
theorem capShown_bs (d : Dev) (pm : Nat) : (capShown d pm).bs = d.bs := rfl

theorem capShown_cap (d : Dev) (pm : Word64) : (capShown d pm.toNat).rd TB_SYNC_CAP_LO = pm.toNat :=
  (Dev.rd_wr_ne _ _ _ _ (by decide)).trans ((Dev.rd_wr d TB_SYNC_CAP_LO 0 _).trans (Nat.mod_eq_of_lt pm.isLt))

theorem capShown_err (d : Dev) (pm : Nat) : (capShown d pm).rdS TB_SYNC_ERR = satS 32 (syncOffset pm (syncPeriod d)) :=
  Dev.rdS_wrS _ TB_SYNC_ERR 0 _ (by decide)

theorem capShown_period (d : Dev) (pm : Nat) : syncPeriod (capShown d pm) = syncPeriod d :=
  (capShown_keeps d pm).syncPeriod_eq (by decide)

/-- A capture before the edge in hand belongs to the tick (R46). -/
theorem syncIn_now {d : Dev} {pm : Nat} (ht : pm < d.tb.pm) : syncIn d pm = syncCapture d pm := if_neg (Nat.not_le.mpr ht)

/-- A capture at or after the edge in hand waits for the next tick (R46). -/
theorem syncIn_late {d : Dev} {pm : Nat} (ht : d.tb.pm ≤ pm) :
    syncIn d pm = d.setTb { d.tb with capLate := d.tb.capLate ++ [pm] } := if_pos ht

/-- A capture lies outside the window of LOCKED (R59). -/
def Dev.capOut (d : Dev) (pm : Nat) : Prop :=
  d.rd TB_STATUS_LOCK = 2 ∧ d.rd TB_SYNC_WIN < (syncOffset pm (syncPeriod d)).natAbs

theorem capEarly_capShown (d : Dev) (pm : Nat) : capEarly (capShown d pm) pm = capEarly d pm := by
  unfold capEarly; rw [capShown_period, capShown_tb]

section
variable {d : Dev} {pm : Nat} (hm : d.rd TB_CTRL_SYNC_MODE ≠ 0)
include hm

theorem syncCapture_shown : syncCapture d pm = if capEarly (capShown d pm) pm then (capShown d pm).ev TB_EVT_OUTLIER
    else if (capShown d pm).rd TB_STATUS_LOCK = 2 ∧ (capShown d pm).rd TB_SYNC_WIN < (syncOffset pm (syncPeriod d)).natAbs
      then capOutside (capShown d pm) pm
    else capAccept (capShown d pm) pm := if_neg hm

/-- A capture that comes early is an outlier. -/
theorem syncCapture_early (he : capEarly d pm = true) : syncCapture d pm = (capShown d pm).ev TB_EVT_OUTLIER := by
  rw [syncCapture_shown hm, if_pos ((capEarly_capShown d pm).trans he)]

variable (he : capEarly d pm = false)
include he

/-- A capture outside the window is discarded. -/
theorem syncCapture_outside (ho : d.capOut pm) : syncCapture d pm = capOutside (capShown d pm) pm := by
  have hk := capShown_keeps d pm
  rw [syncCapture_shown hm, capEarly_capShown, he, hk TB_STATUS_LOCK 0 (by decide), hk TB_SYNC_WIN 0 (by decide)]
  exact if_pos ho

/-- Any other capture is accepted. -/
theorem syncCapture_accepted (ho : ¬ d.capOut pm) : syncCapture d pm = capAccept (capShown d pm) pm := by
  have hk := capShown_keeps d pm
  rw [syncCapture_shown hm, capEarly_capShown, he, hk TB_STATUS_LOCK 0 (by decide), hk TB_SYNC_WIN 0 (by decide)]
  exact if_neg ho

end

/-- A capture outside the window is noted: the event of an outlier, and the expected target moves on (log entry 74). -/
def capMissed (d : Dev) (pm : Nat) : Dev := (d.setTb { d.tb with expect := some (capExpect d pm) }).ev TB_EVT_OUTLIER

theorem capOutside_eq (d : Dev) (pm : Nat) : capOutside d pm = syncMissCount (capMissed d pm) := rfl

theorem capMissed_keeps (d : Dev) (pm : Nat) : KeepsBut [(TB_EVT_OUTLIER, 0)] d (capMissed d pm) :=
  ((KeepsBut.refl _ d).setTb _).ev TB_EVT_OUTLIER 0 (by simp)

theorem capMissed_tb (d : Dev) (pm : Nat) : (capMissed d pm).tb = { d.tb with expect := some (capExpect d pm) } := Dev.ev_tb ..

/-- A capture outside the window is an outlier and a miss. -/
theorem capOutside_spec (d : Dev) (pm : Nat) :
    KeepsBut ([(TB_EVT_OUTLIER, 0), (TB_STATUS_LOCK, 0), (TB_EVT_HOLDOVER, 0)] ++ recFields) d (capOutside d pm) ∧
      (capOutside d pm).fl TB_EVT_OUTLIER = true ∧ (capOutside d pm).tb.missRun = d.tb.missRun + 1 ∧
      (capOutside d pm).bs = d.bs := by
  have hk := syncMissCount_keeps (capMissed d pm)
  rw [capOutside_eq]
  refine ⟨((capMissed_keeps d pm).mono (by simp +contextual)).trans (hk.mono (by simp +contextual)),
    (hk.fl_eq (by decide)).trans (Dev.fl_ev _ TB_EVT_OUTLIER 0 rfl), ?_, ?_⟩
  · rw [syncMissCount_tb, capMissed_tb]
  · rw [syncMissCount_bs, capMissed, Dev.ev_bs, Dev.setTb_bs]

/-- A capture leaves the shelf's state, so that no shed follows it. -/
theorem syncIn_bs (d : Dev) (pm : Nat) : (syncIn d pm).bs = d.bs := by
  by_cases ht : d.tb.pm ≤ pm
  · rw [syncIn_late ht, Dev.setTb_bs]
  rw [syncIn_now (Nat.not_le.mp ht)]
  by_cases hm : d.rd TB_CTRL_SYNC_MODE = 0
  · rw [syncCapture, if_pos hm]
  cases he : capEarly d pm
  case true => rw [syncCapture_early hm he, Dev.ev_bs, capShown_bs]
  by_cases ho : d.capOut pm
  · rw [syncCapture_outside hm he ho, (capOutside_spec _ _).2.2.2, capShown_bs]
  · rw [syncCapture_accepted hm he ho, (capAccept_spec _ _).2.2.1, capShown_bs]

/-- SYNC_CAPTURE in a quiet device is `syncIn`. -/
theorem exec_syncCapture {s : State} (pm : Word64) (hq : s.sys.dev.quiet) : ∃ t : State, exec (.syncCapture pm) s = .next t ∧
    t.pending = s.pending ∧ t.sys.dev = syncIn s.sys.dev pm.toNat :=
  exec_latched (f := fun d => syncIn d pm.toNat) rfl hq.1 ((congrArg ShelfSt.shedReq (syncIn_bs ..)).trans hq.2)

/-- The device of a missed pulse, before the miss is counted. -/
def syncMissed (d : Dev) (x : Nat) : Dev := (d.setTb { d.tb with expect := some (x + syncPeriod d) }).ev TB_EVT_MISS

theorem syncMiss_eq {d : Dev} {x : Nat} (h : d.tb.expect = some x) : syncMiss d = syncMissCount (syncMissed d x) := by
  unfold syncMiss; rw [h]; rfl

theorem syncMissed_keeps (d : Dev) (x : Nat) : KeepsBut [(TB_EVT_MISS, 0)] d (syncMissed d x) :=
  ((KeepsBut.refl _ d).setTb _).ev TB_EVT_MISS 0 (by simp)

theorem syncMissed_tb (d : Dev) (x : Nat) : (syncMissed d x).tb = { d.tb with expect := some (x + syncPeriod d) } := Dev.ev_tb ..

theorem syncMissed_missLimit (d : Dev) (x : Nat) : (syncMissed d x).missLimit ↔ d.missLimit := by
  have hk := syncMissed_keeps d x
  unfold Dev.missLimit
  rw [hk TB_STATUS_LOCK 0 (by decide), hk.rd1_eq (by decide), syncMissed_tb]

/-- SYNC_MISS where the expected pulse is missed. -/
theorem exec_syncMiss {s : State} {x : Nat} (hx : s.expiring) (he : s.atTimers.dev.tb.expect = some x)
    (hpm : x + s.atTimers.dev.rd TB_SYNC_WIN < s.atTimers.dev.tb.pm) (hm : s.atTimers.dev.rd TB_CTRL_SYNC_MODE ≠ 0) :
    ∃ t : State, exec .syncMiss s = .next t ∧ t.pending = s.pending ∧
      t.sys.dev = syncMissCount (syncMissed s.atTimers.dev x) := by
  have hdue : syncMissDue s.atTimers.dev = true := by
    unfold syncMissDue; rw [he]; simp [hpm, hm]
  have hbs : (syncMiss s.atTimers.dev).bs = s.atTimers.dev.bs := by
    rw [syncMiss_eq he, syncMissCount_bs, syncMissed, Dev.ev_bs, Dev.setTb_bs]
  exact completes_timed (Q := fun y => y.dev = syncMissCount (syncMissed s.atTimers.dev x)) _ _ rfl hx hdue
    ((congrArg ShelfSt.shedReq hbs).trans hx.2.2) (syncMiss_eq he)

/-- Settles O2: a capture is early, outside the window, accepted or late, and a miss is within the limit or reaches it. -/
theorem syncPulsesDisciplineTheTimeBase : Obligations.SyncPulsesDisciplineTheTimeBase := by
  unfold Obligations.SyncPulsesDisciplineTheTimeBase
  refine ⟨fun s pm hq ht hm he => ?early, fun s pm hq ht hm he hl hw => ?outside, fun s pm hq ht hm he hw => ?accepted,
    fun s pm hq ht => ?late, fun s x hx he hpm hm => ?miss⟩
  case early =>
    obtain ⟨t, hex, hp, hd⟩ := exec_syncCapture pm hq
    rw [syncIn_now ht, syncCapture_early hm he] at hd
    have hk := capShown_keeps s.sys.dev pm.toNat
    refine ⟨t, hex, hp, ?_⟩
    rw [hd]
    exact ⟨Dev.fl_ev _ TB_EVT_OUTLIER 0 rfl, (Dev.rd_ev_ne _ _ _ (by decide)).trans (capShown_cap _ pm),
      congrArg TimeBase.lastCap (Dev.ev_tb ..), (hk.mono (by simp +contextual)).ev TB_EVT_OUTLIER 0 (by simp)⟩
  case outside =>
    obtain ⟨t, hex, hp, hd⟩ := exec_syncCapture pm hq
    rw [syncIn_now ht, syncCapture_outside hm he ⟨hl, hw⟩] at hd
    have hk := capShown_keeps s.sys.dev pm.toNat
    obtain ⟨hko, hfl, hmiss, -⟩ := capOutside_spec (capShown s.sys.dev pm.toNat) pm.toNat
    refine ⟨t, hex, hp, ?_⟩
    rw [hd]
    exact ⟨hfl, (hko TB_SYNC_CAP_LO 0 (by decide)).trans (capShown_cap _ pm), hmiss,
      (hk.mono (by simp +contextual)).trans (hko.mono (by simp +contextual))⟩
  case accepted =>
    obtain ⟨t, hex, hp, hd⟩ := exec_syncCapture pm hq
    have hin : ¬ s.sys.dev.capOut pm.toNat := fun ho => absurd (hw ho.1) (Nat.not_le.mpr ho.2)
    rw [syncIn_now ht, syncCapture_accepted hm he hin] at hd
    have hk := capShown_keeps s.sys.dev pm.toNat
    obtain ⟨hka, hfreq, -, hlast, hmiss, -⟩ := capAccept_spec (capShown s.sys.dev pm.toNat) pm.toNat
    obtain ⟨h2, h3, h1⟩ := capAccept_lock (capShown s.sys.dev pm.toNat) pm.toNat
    rw [capFreq, capShown_period, hk.rdS_eq (by decide), hk TB_SYNC_GAIN_KI 0 (by decide)] at hfreq
    rw [capShown_period, hk TB_SYNC_LOCKTHR 0 (by decide), hk.rd1_eq (by decide), capShown_tb] at h1
    rw [hk TB_STATUS_LOCK 0 (by decide)] at h1 h2 h3
    refine ⟨t, hex, hp, ?_⟩
    rw [hd]
    exact ⟨(hka TB_SYNC_CAP_LO 0 (by decide)).trans (capShown_cap _ pm), (hka.rdS_eq (by decide)).trans (capShown_err _ _),
      hfreq, hlast, hmiss, h2, h3, h1, (hk.mono (by simp +contextual)).trans (hka.mono (by simp +contextual))⟩
  case late =>
    obtain ⟨t, hex, hp, hd⟩ := exec_syncCapture pm hq
    rw [syncIn_late ht] at hd
    exact ⟨t, hex, hp, by rw [hd]; exact ⟨rfl, KeepsBut.refl _ _⟩⟩
  case miss =>
    obtain ⟨t, hex, hp, hd⟩ := exec_syncMiss hx he hpm hm
    generalize s.atTimers.dev = d at *
    have hk := syncMissed_keeps d x
    have hkc := syncMissCount_keeps (syncMissed d x)
    refine ⟨t, hex, hp, ?_⟩
    rw [hd]
    refine ⟨(hkc.fl_eq (by decide)).trans (Dev.fl_ev _ TB_EVT_MISS 0 rfl), ?_, ?_, fun hlim => ?_, fun hbelow => ?_,
      (hk.mono (by simp +contextual)).trans (hkc.mono (by simp +contextual))⟩
    · rw [syncMissCount_tb, syncMissed_tb]
    · rw [syncMissCount_tb, syncMissed_tb]
    · obtain ⟨htb, hlock, hev⟩ := syncMissCount_limit_spec ((syncMissed_missLimit d x).mpr hlim)
      exact ⟨hlock, hev, by rw [htb, hk.rdS_eq (by decide)]⟩
    · obtain ⟨htb, hlock⟩ := syncMissCount_below_spec (mt (syncMissed_missLimit d x).mp hbelow)
      exact ⟨hlock.trans (hk TB_STATUS_LOCK 0 (by decide)), by rw [htb, syncMissed_tb]⟩

/-! ### The rates stay within their limit (R53, R58) -/

/-- The frequency accumulator and a rate word that waits are within the limit of the rate word. -/
def Dev.ratesBounded (d : Dev) : Prop :=
  -rateMax ≤ d.rdS TB_FREQ ∧ d.rdS TB_FREQ ≤ rateMax ∧ ∀ r ∈ d.tb.rateNext, -rateMax ≤ r ∧ r ≤ rateMax

theorem Dev.ratesBounded.congr {d e : Dev} (h : d.ratesBounded) (hf : e.rdS TB_FREQ = d.rdS TB_FREQ)
    (hr : e.tb.rateNext = d.tb.rateNext) : e.ratesBounded := by
  unfold Dev.ratesBounded; rw [hf, hr]; exact h

theorem syncMissCount_ratesBounded {d : Dev} (h : d.ratesBounded) : (syncMissCount d).ratesBounded := by
  have hf : (syncMissCount d).rdS TB_FREQ = d.rdS TB_FREQ := (syncMissCount_keeps d).rdS_eq (by decide)
  by_cases hl : d.missLimit
  · obtain ⟨hlo, hhi, -⟩ := h
    refine ⟨hlo.trans_eq hf.symm, hf.trans_le hhi, ?_⟩
    rw [(syncMissCount_limit_spec hl).1]
    rintro r ⟨⟩
    exact ⟨hlo, hhi⟩
  · exact h.congr hf (by rw [(syncMissCount_below_spec hl).1])

/-- An accepted capture sets saturated rates, whatever they were. -/
theorem capAccept_ratesBounded (d : Dev) (pm : Nat) : (capAccept d pm).ratesBounded := by
  obtain ⟨-, hfreq, -, -, -, r, hlo, hhi, hnext⟩ := capAccept_spec d pm
  unfold Dev.ratesBounded
  rw [hfreq, hnext]
  refine ⟨(satRate_bounds _).1, (satRate_bounds _).2, ?_⟩
  rintro r ⟨⟩
  exact ⟨hlo, hhi⟩

theorem syncIn_ratesBounded {d : Dev} (pm : Nat) (hm : d.rd TB_CTRL_SYNC_MODE ≠ 0) (h : d.ratesBounded) :
    (syncIn d pm).ratesBounded := by
  by_cases ht : d.tb.pm ≤ pm
  · rw [syncIn_late ht]; exact h.congr rfl rfl
  rw [syncIn_now (Nat.not_le.mp ht)]
  have hs : (capShown d pm).ratesBounded := h.congr ((capShown_keeps d pm).rdS_eq (by decide)) rfl
  cases he : capEarly d pm
  case true =>
    rw [syncCapture_early hm he]
    exact hs.congr (((KeepsBut.refl [(TB_EVT_OUTLIER, 0)] _).ev TB_EVT_OUTLIER 0 (by simp)).rdS_eq (by decide))
      (congrArg TimeBase.rateNext (Dev.ev_tb ..))
  by_cases ho : d.capOut pm
  · rw [syncCapture_outside hm he ho, capOutside_eq]
    exact syncMissCount_ratesBounded (hs.congr ((capMissed_keeps _ pm).rdS_eq (by decide)) (by rw [capMissed_tb]))
  · rw [syncCapture_accepted hm he ho]
    exact capAccept_ratesBounded _ pm

/-- Settles O58: a tick is 1000 nanosecond steps, TICK_EDGE takes them, and every rate that a capture sets is saturated. -/
theorem postmarkAdvancesByTheRate : Obligations.PostmarkAdvancesByTheRate := by
  unfold Obligations.PostmarkAdvancesByTheRate
  refine ⟨fun pm frac rate hf hlo hhi => pmAdvance_eq_iterate hlo hhi pm hf, fun s p hl hr ho hpos hf hlo hhi => ?edge,
    fun s pm hq hm hlo hhi hnext => ?capture⟩
  case edge =>
    obtain ⟨-, -, -, hpm⟩ := openEdge_counts false s.ended.dev
    have hadv := (pmAdvance_eq_iterate hlo hhi s.ended.dev.tb.pm hf).1
    refine ⟨_, rfl, rfl, openEdge false s.ended.dev, tickEdge_of_tick p hl hr ho hpos, ?_, ?_⟩
    · rw [hpm, hadv]
    · rw [openEdge_frac, hadv]
  case capture =>
    obtain ⟨t, hex, hp, hd⟩ := exec_syncCapture pm hq
    refine ⟨t, hex, hp, ?_⟩
    rw [hd]
    exact syncIn_ratesBounded pm.toNat hm ⟨hlo, hhi, hnext⟩

end Sys2Proof.Machine
end

section
/-! PROOFS about the values that the register tables give to the state of a reset (R61). -/

namespace Sys2Proof.Machine
open R

/-- Every field of the table has one reset value in all its elements, within its width. -/
theorem resetValues_uniform : ∀ f ∈ resetValues, f.1.rstx = [] ∧ f.1.rst = f.2.2 ∧ f.2.2 < 2 ^ f.1.w := by decide +kernel

/-- At reset a field element reads the reset value of its register table. -/
theorem rd_reset (r : Reg) (ix : Nat) : State.reset.sys.dev.rd r ix = r.rstAt ix % 2 ^ r.w := rfl

/-- A field without elements of their own has one reset value. -/
theorem Reg.rstAt_uniform {r : Reg} (h : r.rstx = []) (ix : Nat) : r.rstAt ix = r.rst := by rw [Reg.rstAt, h]; rfl

/-- Settles O56: the reset values of the register tables, field by field; the holes' areas and the state machines one by one. -/
theorem resetLeavesTheTableValues : Obligations.ResetLeavesTheTableValues := by
  unfold Obligations.ResetLeavesTheTableValues
  refine ⟨fun f hf ix _ => ?uniform, ?holes, by decide, by decide, by decide, by decide, by decide, by decide, ?fuses⟩
  case uniform =>
    obtain ⟨hx, hv, hw⟩ := resetValues_uniform f hf
    rw [rd_reset, Reg.rstAt_uniform hx, hv, Nat.mod_eq_of_lt hw]
  case holes => decide +kernel
  case fuses => exact fun ix _ => by rw [rd_reset, Reg.rstAt_uniform rfl]; rfl

end Sys2Proof.Machine
end

section
/-! PROOFS about a ring's commands and the host commands of the sequence: the two statements that fail (R84, R93, R235). -/

namespace Sys2Proof.Machine
open R

/-- A sill (the device in recovery) inside a command turn, whose ring 0 stands in FAILED with EN = 1. -/
def sillFailedRing : State :=
  { sys := { dev := { (({ tb := { run := true, stage := 1 } } : Dev).wr RG_STATUS_STATE 0 rgFailed).wr RG_CTRL_EN 0 1 with
      pw := { recovery := true } } } }

/-- A RESET of that ring leaves it DOWN: training begins on no ring of a sill (R32, R38). -/
theorem rgCmdReset_sillFailedRing (t : State) (ht : exec (.rgCmdReset .pa 0) sillFailedRing = .next t) :
    t.sys.dev.rd RG_STATUS_STATE 0 = rgDown := by
  obtain rfl := Host.Outcome.next.inj ht
  decide +kernel

/-- Refutes O3: a FAILED ring with EN = 1 that a RESET returns to DOWN does not train at once when the device is a sill,
which runs no ring. -/
theorem not_ringResetAndCounters : ¬ Obligations.RingResetAndCounters := by
  unfold Obligations.RingResetAndCounters
  rintro ⟨-, hfailed, -, -⟩
  obtain ⟨t, ht, -, hlock, -⟩ := hfailed sillFailedRing .pa 0 (by decide +kernel) (by decide) (by decide +kernel)
    (by decide +kernel)
  have hen : sillFailedRing.atCommands.dev.fl RG_CTRL_EN 0 = true := by decide +kernel
  have hdown := rgCmdReset_sillFailedRing t ht
  simp only [Fin.val_zero, hen, if_true] at hlock
  exact absurd (hdown.symm.trans hlock) (by decide)

/-- A machine inside a command turn whose sequence is ON and has no step: SEQ.NSTEP is 0. -/
def onWithoutSteps : State :=
  { sys := { dev := ({ tb := { run := true, stage := 1 } } : Dev).wr SQ_STATUS_STATE 0 sqOn } }

/-- A sender in slot PA. -/
def paSender : Sender := { path := .pa, seq := 0, tag := 0, irq := false, lcl := false, cidx := 0, extra := [] }

/-- With no step to power down, the OFF request of SEQ_OFF is over at once: the sequence stands in MINOFF. -/
theorem seqOff_onWithoutSteps (t : State) (ht : exec (.seqOff paSender) onWithoutSteps = .next t) :
    (seqActReq t.sys.dev).rd SQ_STATUS_STATE = sqMinoff := by
  obtain rfl := Host.Outcome.next.inj ht
  decide +kernel

/-- Refutes O28: after SEQ_OFF a sequence that is ON powers down through DOWN only when it has a step to power down; with
NSTEP = 0 it enters MINOFF in the tick that takes the request. -/
theorem not_sequenceAndLoopCommandsAct : ¬ Obligations.SequenceAndLoopCommandsAct := by
  unfold Obligations.SequenceAndLoopCommandsAct
  rintro ⟨-, -, hoff, -⟩
  obtain ⟨t, ht, -, -, hdown, -⟩ := hoff onWithoutSteps paSender (by decide +kernel) (by decide) rfl (by decide +kernel)
    (by decide +kernel) (by decide +kernel)
  exact absurd ((seqOff_onWithoutSteps t ht).symm.trans hdown) (by decide)

end Sys2Proof.Machine
end

section
/-! PROOFS about a ring in training: what its operations write, and how it goes from state to state (R84, R85). -/

namespace Sys2Proof.Machine
open R

/-! ### The device that a step answers -/

/-- An expiry answers the device that its function gives, where it is due and no shed follows. -/
theorem exec_timed {c : Instr} {s : State} {due : Dev → Bool} {f : Dev → Dev} (he : exec c s = sysRow (timed due f) s) (hx : s.expiring)
    (hd : due s.atTimers.dev = true) (hsh : (f s.atTimers.dev).bs.shedReq = 0) :
    ∃ t : State, exec c s = .next t ∧ t.pending = s.pending ∧ t.sys.dev = f s.atTimers.dev :=
  completes_timed (Q := fun x => x.dev = f s.atTimers.dev) due f he hx hd hsh rfl

/-- A step that takes what waits for it answers the device that its function gives, where no shed follows. -/
theorem exec_takes {c : Instr} {s : State} {has : Dev → Bool} {f : Dev → Dev} (he : exec c s = sysRow (takes has f) s)
    (hl : s.sys.dev.live = true) (hd : has s.sys.dev = true) (hsh : (f s.sys.dev).bs.shedReq = 0) :
    ∃ t : State, exec c s = .next t ∧ t.pending = s.pending ∧ t.sys.dev = f s.sys.dev :=
  completes_takes (Q := fun x => x.dev = f s.sys.dev) has f he hl hd hsh rfl

/-! ### What the operations of training write -/

theorem WritesOnly.forIx {ids : List Nat} {d e : Dev} (h : WritesOnly ids d e) (n : Nat) (g : Nat → Dev → Dev)
    (hg : ∀ i x, WritesOnly ids x (g i x)) : WritesOnly ids d (forIx n g e) := h.forL (List.range n) g hg

theorem WritesOnly.setRg {ids : List Nat} {d e : Dev} (h : WritesOnly ids d e) (r : Nat) (x : RingSt) :
    WritesOnly ids d (e.setRg r x) := h.of_regs rfl rfl

/-- The number of the field RG_STATUS.STATE. -/
def stateIds : List Nat := [RG_STATUS_STATE.id]

theorem ringGo_writes (d : Dev) (r st : Nat) : WritesOnly stateIds d (ringGo d r st) :=
  ((WritesOnly.refl stateIds d).wr (by decide) r st).setRg r _

/-- The state that a ring enters is the one it shows. -/
theorem ringGo_state (d : Dev) (r : Nat) {st : Nat} (h : st < 8) : (ringGo d r st).rd RG_STATUS_STATE r = st :=
  (Dev.rd_wr d RG_STATUS_STATE r st).trans (Nat.mod_eq_of_lt h)

theorem ringGo_keepsBut {l : List (Reg × Nat)} {d e : Dev} (h : KeepsBut l d e) (r st : Nat) (m : (RG_STATUS_STATE, r) ∈ l) :
    KeepsBut l d (ringGo e r st) := (h.wr RG_STATUS_STATE r st m).setRg r _

/-- A ring that fails shows FAILED and the event, and writes a record beside them (R84). -/
theorem trainFail_keepsBut {l : List (Reg × Nat)} {d e : Dev} (h : KeepsBut l d e) {r : Nat} (hst : (RG_STATUS_STATE, r) ∈ l)
    (hev : (RG_EVT_TRAIN_FAIL, r) ∈ l) (hrec : ∀ x ∈ recFields, x ∈ l) : KeepsBut l d (trainFail e r) :=
  (((ringGo_keepsBut h r rgFailed hst).ev RG_EVT_TRAIN_FAIL r hev).setRg r _).recd 0x0201 6 r [] hrec

theorem trainFail_state (d : Dev) (r : Nat) : (trainFail d r).rd RG_STATUS_STATE r = rgFailed := by
  unfold trainFail
  rw [Dev.rd_recd _ _ _ _ _ _ _ (by decide), Dev.setRg_rd, Dev.rd_ev_ne _ _ _ (by decide)]
  exact ringGo_state d r (by decide)

theorem trainFail_event (d : Dev) (r : Nat) : (trainFail d r).fl RG_EVT_TRAIN_FAIL r = true := by
  unfold trainFail
  rw [Dev.fl, Dev.rd_recd _ _ _ _ _ _ _ (by decide)]
  exact Dev.fl_ev (ringGo d r rgFailed) RG_EVT_TRAIN_FAIL r rfl

@[simp] theorem trainFail_bs (d : Dev) (r : Nat) : (trainFail d r).bs = d.bs := by
  unfold trainFail
  simp [(ringGo_writes d r rgFailed).2]

/-- The event that goes before a failure stands after it. -/
theorem trainFail_fl_ev (d : Dev) (r : Nat) {e : Reg} (hw : e.w = 1) (he : e.id ∉ [RG_STATUS_STATE.id, RG_EVT_TRAIN_FAIL.id] ++ recIds) :
    (trainFail (d.ev e r) r).fl e r = true := by
  simp only [List.mem_append, List.mem_cons, List.not_mem_nil, or_false, not_or] at he
  obtain ⟨⟨hst, hev⟩, hrec⟩ := he
  unfold trainFail
  rw [Dev.fl, Dev.rd_recd _ _ _ _ _ _ _ hrec, Dev.setRg_rd, Dev.rd_ev_ne _ _ _ hev,
    (ringGo_writes _ _ _).1 _ _ (by simpa [stateIds] using hst)]
  exact Dev.fl_ev d e r hw

/-- An enumeration that begins writes no register field. -/
theorem identStart_writes (d : Dev) (r : Nat) : WritesOnly [] d (identStart d r) :=
  ((WritesOnly.refl [] d).forIx _ _ (fun _ x => (WritesOnly.refl [] x).setCh _ _)).setRg _ _

theorem ringIdent_writes (d : Dev) (r : Nat) : WritesOnly stateIds d (ringIdent d r) :=
  (ringGo_writes d r rgIdent).trans ((identStart_writes _ r).mono (List.nil_subset _))

theorem ringIdent_state (d : Dev) (r : Nat) : (ringIdent d r).rd RG_STATUS_STATE r = rgIdent :=
  ((identStart_writes _ r).1 _ _ (by decide)).trans (ringGo_state d r (by decide))

theorem ringProbe_writes (d : Dev) (r : Nat) : WritesOnly stateIds d (ringProbe d r) := (ringGo_writes d r rgMeasure).setRg r _

theorem ringProbe_state (d : Dev) (r : Nat) : (ringProbe d r).rd RG_STATUS_STATE r = rgMeasure := ringGo_state d r (by decide)

theorem ringProbe_keepsBut {l : List (Reg × Nat)} {d e : Dev} (h : KeepsBut l d e) (r : Nat) (m : (RG_STATUS_STATE, r) ∈ l) :
    KeepsBut l d (ringProbe e r) := (ringGo_keepsBut h r rgMeasure m).setRg r _

/-! ### A ring that goes down (R84, R105) -/

theorem healthEval_writesHealth (d : Dev) (c : Nat) : WritesOnly [CD_ENT_HEALTH.id] d (healthEval d c) := by
  unfold healthEval; dsimp only
  split
  · exact .refl _ d
  · exact ((WritesOnly.refl _ d).wr (by decide) c _).setCh _ _

/-- The fields of the directory that a ring-down clears. -/
def downIds : List Nat := [CD_ENT_COND_NOREP.id, CD_ENT_COND_SAFE.id, CD_ENT_COND_UPD.id, CD_ENT_HEALTH.id]

theorem dirRingDown_writes (d : Dev) (r : Nat) : WritesOnly downIds d (dirRingDown d r) :=
  (WritesOnly.refl downIds d).forIx _ _ fun _ x =>
    (((((WritesOnly.refl downIds x).setCh _ _).wr (by decide) _ 0).wr (by decide) _ 0).wr (by decide) _ 0).trans
      ((healthEval_writesHealth _ _).mono (by decide))

theorem trainStart_writes (d : Dev) (r : Nat) : WritesOnly stateIds d (trainStart d r) := by
  unfold trainStart; dsimp only
  split
  · exact (ringGo_writes d r rgLock).setRg r _
  · exact .refl _ d

/-- A ring in DOWN with EN = 1 trains, unless the device is a sill. -/
theorem trainStart_state {d : Dev} {r : Nat} (hst : ringState d r = rgDown) (hen : d.fl RG_CTRL_EN r = true) :
    (trainStart d r).rd RG_STATUS_STATE r = if d.sill then rgDown else rgLock := by
  unfold trainStart; dsimp only
  by_cases hs : d.sill = true
  · simp only [hs, Bool.not_true, Bool.false_eq_true, and_false, if_false, if_true]
    exact hst
  · simp only [hst, hen, hs, Bool.not_false, and_self, if_true, Bool.false_eq_true, if_false]
    exact ringGo_state d r (by decide)

/-- The ring in DOWN, before its channels lose what a ring-down clears. -/
def downRegs (d : Dev) (r : Nat) : Dev :=
  let x := d.rg r
  let d := d.setRg r { oldCount := x.oldCount, wake := x.wake, safeAll := x.safeAll, hops := x.hops }
  (((ringGo d r rgDown).wr RG_STATUS_BREAK_VALID r 0).wr RG_STATUS_BREAK_CTRL r 0).wr RG_STATUS_BREAK_POS r 0

theorem ringDown_eq (d : Dev) (r : Nat) : ringDown d r = trainStart (dirRingDown (downRegs d r) r) r := rfl

/-- The fields that `downRegs` writes. -/
def downRegIds : List Nat := [RG_STATUS_STATE.id, RG_STATUS_BREAK_VALID.id, RG_STATUS_BREAK_CTRL.id, RG_STATUS_BREAK_POS.id]

theorem downRegs_writes (d : Dev) (r : Nat) : WritesOnly downRegIds d (downRegs d r) :=
  (((((WritesOnly.refl downRegIds d).setRg r _).trans ((ringGo_writes _ r rgDown).mono (by decide))).wr (by decide) r 0).wr
    (by decide) r 0).wr (by decide) r 0

theorem downRegs_state (d : Dev) (r : Nat) : (downRegs d r).rd RG_STATUS_STATE r = rgDown := by
  unfold downRegs
  rw [Dev.rd_wr_ne _ _ _ _ (by decide), Dev.rd_wr_ne _ _ _ _ (by decide), Dev.rd_wr_ne _ _ _ _ (by decide)]
  exact ringGo_state _ r (by decide)

theorem downRegs_break (d : Dev) (r : Nat) : (downRegs d r).rd RG_STATUS_BREAK_VALID r = 0 ∧ (downRegs d r).rd RG_STATUS_BREAK_POS r = 0 := by
  unfold downRegs
  refine ⟨?_, Dev.rd_wr ..⟩
  rw [Dev.rd_wr_ne _ _ _ _ (by decide), Dev.rd_wr_ne _ _ _ _ (by decide)]
  exact Dev.rd_wr ..

/-- What follows `downRegs` in a ring-down writes the state and the channels' conditions. -/
theorem ringDown_afterRegs (d : Dev) (r : Nat) : WritesOnly (RG_STATUS_STATE.id :: downIds) (downRegs d r) (ringDown d r) := by
  rw [ringDown_eq]
  exact ((dirRingDown_writes _ r).mono (List.subset_cons_self _ _)).trans ((trainStart_writes _ r).mono (by decide))

@[simp] theorem ringDown_bs (d : Dev) (r : Nat) : (ringDown d r).bs = d.bs := (ringDown_afterRegs d r).2.trans (downRegs_writes d r).2

/-- A ring that goes down shows no break. -/
theorem ringDown_break (d : Dev) (r : Nat) : (ringDown d r).rd RG_STATUS_BREAK_VALID r = 0 ∧ (ringDown d r).rd RG_STATUS_BREAK_POS r = 0 :=
  ⟨((ringDown_afterRegs d r).1 _ _ (by decide)).trans (downRegs_break d r).1,
   ((ringDown_afterRegs d r).1 _ _ (by decide)).trans (downRegs_break d r).2⟩

/-- A ring with EN = 1 that goes down trains again, unless the device is a sill. -/
theorem ringDown_state {d : Dev} {r : Nat} (hen : d.fl RG_CTRL_EN r = true) :
    (ringDown d r).rd RG_STATUS_STATE r = if d.sill then rgDown else rgLock := by
  have hdir := dirRingDown_writes (downRegs d r) r
  have hregs := downRegs_writes d r
  have hst : ringState (dirRingDown (downRegs d r) r) r = rgDown := (hdir.1 _ _ (by decide)).trans (downRegs_state d r)
  have hen' : (dirRingDown (downRegs d r) r).fl RG_CTRL_EN r = true := by
    rw [Dev.fl, hdir.1 _ _ (by decide), hregs.1 _ _ (by decide)]; exact hen
  have hsill : (dirRingDown (downRegs d r) r).sill = d.sill := by
    have hpw : (dirRingDown (downRegs d r) r).pw = d.pw := dirRingDown_pw _ r
    rw [Dev.sill, Dev.sill, hpw, Dev.fl, hdir.1 _ _ (by decide), hregs.1 _ _ (by decide), Dev.fl]
  rw [ringDown_eq, trainStart_state hst hen', hsill]

/-! ### The delays of a measurement (R85) -/

/-- The delay of every position of a ring is written, from `f` and `g`. -/
def writeDelays (n r : Nat) (f g : Nat → Nat) (d : Dev) : Dev :=
  forIx n (fun p d => (d.wr RG_HOPDLY_FWD (r * 32 + p) (f p)).wr RG_HOPDLY_REV (r * 32 + p) (g p)) d

/-- The fields that `writeDelays` writes. -/
def delayIds : List Nat := [RG_HOPDLY_FWD.id, RG_HOPDLY_REV.id]

theorem writeDelays_writes (n r : Nat) (f g : Nat → Nat) (d : Dev) : WritesOnly delayIds d (writeDelays n r f g d) :=
  (WritesOnly.refl delayIds d).forIx _ _ fun _ x => ((WritesOnly.refl delayIds x).wr (by decide) _ _).wr (by decide) _ _

theorem writeDelays_succ (n r : Nat) (f g : Nat → Nat) (d : Dev) : writeDelays (n + 1) r f g d =
    ((writeDelays n r f g d).wr RG_HOPDLY_FWD (r * 32 + n) (f n)).wr RG_HOPDLY_REV (r * 32 + n) (g n) := by
  unfold writeDelays forIx
  rw [List.range_succ, List.foldl_append]
  rfl

/-- Each position shows the delays that were written for it. -/
theorem rd_writeDelays {n p : Nat} (hp : p < n) (r : Nat) (f g : Nat → Nat) (d : Dev) :
    (writeDelays n r f g d).rd RG_HOPDLY_FWD (r * 32 + p) = f p % 2 ^ 16 ∧
    (writeDelays n r f g d).rd RG_HOPDLY_REV (r * 32 + p) = g p % 2 ^ 16 := by
  induction n with
  | zero => exact absurd hp (Nat.not_lt_zero p)
  | succ n ih =>
    rw [writeDelays_succ]
    by_cases hlast : p = n
    · subst hlast
      exact ⟨(Dev.rd_wr_ne _ _ _ _ (by decide)).trans (Dev.rd_wr ..), Dev.rd_wr ..⟩
    · have hix : r * 32 + p ≠ r * 32 + n := by omega
      obtain ⟨hf, hg⟩ := ih (by omega)
      exact ⟨(Dev.rd_wr_ne _ _ _ _ (by decide)).trans ((Dev.rd_wr_ix _ _ _ hix).trans hf),
        (Dev.rd_wr_ix _ _ _ hix).trans ((Dev.rd_wr_ne _ _ _ _ (by decide)).trans hg)⟩

/-- A delay code fits its field. -/
theorem dlyCode_lt (x : Int) : dlyCode x < 2 ^ 16 := by
  unfold dlyCode satU clampI
  simp only [Nat.reducePow, Nat.cast_ofNat]
  omega

/-- The delay of a position toward RX: the way from TX to it, and the differences of the stages on the way. -/
def fwdDelay (l : List (List Nat × List Nat × Nat × Nat)) (n p : Nat) : Nat :=
  if p < n then dlyCode (oneWay (l.getD p ([], [], 0, 0)).1 (l.getD p ([], [], 0, 0)).2.2.1 + diffSum l (List.range p)) else 0

/-- The delay of a position from the far end, likewise. -/
def revDelay (l : List (List Nat × List Nat × Nat × Nat)) (n p : Nat) : Nat :=
  if p < n then dlyCode (oneWay (l.getD p ([], [], 0, 0)).2.1 (l.getD p ([], [], 0, 0)).2.2.1
    + diffSum l ((List.range n).drop (p + 1))) else 0

theorem fwdDelay_lt (l : List (List Nat × List Nat × Nat × Nat)) (n p : Nat) : fwdDelay l n p < 2 ^ 16 := by
  unfold fwdDelay
  split
  · exact dlyCode_lt _
  · decide

theorem revDelay_lt (l : List (List Nat × List Nat × Nat × Nat)) (n p : Nat) : revDelay l n p < 2 ^ 16 := by
  unfold revDelay
  split
  · exact dlyCode_lt _
  · decide

/-- The device once a ring in MEASURE has its delays: only the state IDENT is to follow. -/
def measured (d : Dev) (r : Nat) (l : List (List Nat × List Nat × Nat × Nat)) (dloop : Nat) : Dev :=
  let n := d.rd RG_STATUS_NSTAGES r
  let e := writeDelays 32 r (fwdDelay l n) (revDelay l n) d
  let hops := (List.range n).map (fun p => oneWay (l.getD p ([], [], 0, 0)).1 (l.getD p ([], [], 0, 0)).2.2.1)
  let e := e.setRg r { e.rg r with hops := hops, probes := false }
  (e.wr RG_LAT_L r (latencyOf dloop)).wr RG_LAT_D_LOOP r (rdiv dloop 256).toNat

/-- MEASURE ends with its delays in IDENT. -/
theorem measureDone_ident {d : Dev} {r : Nat} (hst : ringState d r = rgMeasure) (l : List (List Nat × List Nat × Nat × Nat))
    {dloop : Nat} (hlat : latencyOf dloop ≤ 6) : measureDone d r l dloop = ringIdent (measured d r l dloop) r := by
  have hno : ¬ 6 < latencyOf dloop := by omega
  have hsp : rgMeasure ≠ rgSplit := by decide
  simp only [measureDone, hst, true_or, if_true, hno, and_false, if_false, hsp, decide_false, Bool.false_and, Bool.not_false,
    Bool.true_or, Bool.and_true, decide_eq_true_eq, Bool.false_eq_true]
  rfl

/-- MEASURE with a report latency above 6 ticks fails with LATENCY (R84). -/
theorem measureDone_late {d : Dev} {r : Nat} (hst : ringState d r = rgMeasure) (l : List (List Nat × List Nat × Nat × Nat))
    {dloop : Nat} (hlat : 6 < latencyOf dloop) : measureDone d r l dloop = trainFail (d.ev RG_EVT_LATENCY r) r := by
  simp [measureDone, hst, hlat]

/-- A measured ring shows its latency and the delays of every position. -/
theorem rd_measured (d : Dev) (r : Nat) (l : List (List Nat × List Nat × Nat × Nat)) {dloop p : Nat} (hlat : latencyOf dloop ≤ 6)
    (hp : p < 32) : (measured d r l dloop).rd RG_LAT_L r = latencyOf dloop ∧
      (measured d r l dloop).rd RG_HOPDLY_FWD (r * 32 + p) = fwdDelay l (d.rd RG_STATUS_NSTAGES r) p ∧
      (measured d r l dloop).rd RG_HOPDLY_REV (r * 32 + p) = revDelay l (d.rd RG_STATUS_NSTAGES r) p := by
  obtain ⟨hf, hg⟩ := rd_writeDelays hp r (fwdDelay l (d.rd RG_STATUS_NSTAGES r)) (revDelay l (d.rd RG_STATUS_NSTAGES r)) d
  unfold measured
  refine ⟨?_, ?_, ?_⟩
  · rw [Dev.rd_wr_ne _ _ _ _ (by decide), Dev.rd_wr]
    exact Nat.mod_eq_of_lt (show latencyOf dloop < 8 by omega)
  · rw [Dev.rd_wr_ne _ _ _ _ (by decide), Dev.rd_wr_ne _ _ _ _ (by decide), Dev.setRg_rd, hf]
    exact Nat.mod_eq_of_lt (fwdDelay_lt ..)
  · rw [Dev.rd_wr_ne _ _ _ _ (by decide), Dev.rd_wr_ne _ _ _ _ (by decide), Dev.setRg_rd, hg]
    exact Nat.mod_eq_of_lt (revDelay_lt ..)

@[simp] theorem measured_bs (d : Dev) (r : Nat) (l : List (List Nat × List Nat × Nat × Nat)) (dloop : Nat) :
    (measured d r l dloop).bs = d.bs := by
  unfold measured
  simp [(writeDelays_writes ..).2]

/-! ### Training frames that return (R84) -/

theorem trainingReturn_lock {d : Dev} {r : Nat} (hst : ringState d r = rgLock) (n m : Nat) :
    trainingReturn d r n m = ringGo d r rgCount := by
  simp [trainingReturn, hst]

theorem trainingReturn_count {d : Dev} {r n : Nat} (hst : ringState d r = rgCount) (hn : n ≤ 32) (hw : (d.rg r).wake = false)
    (m : Nat) : trainingReturn d r n m = ringProbe (d.wr RG_STATUS_NSTAGES r n) r := by
  have hl : rgCount ≠ rgLock := by decide
  simp [trainingReturn, hst, hl, hw, show ¬ 32 < n by omega]

theorem trainingReturn_over {d : Dev} {r n : Nat} (hst : ringState d r = rgCount) (hn : 32 < n) (m : Nat) :
    trainingReturn d r n m = trainFail (d.ev RG_EVT_OVERCOUNT r) r := by
  have hl : rgCount ≠ rgLock := by decide
  simp [trainingReturn, hst, hl, hn]

/-! ### The statement -/

/-- Settles O4, by the state that a ring in training is in. -/
theorem ringTrainingAdvances : Obligations.RingTrainingAdvances := by
  unfold Obligations.RingTrainingAdvances
  refine ⟨fun s r n m hq hst => ?lock, fun s r n m hq hst hn hw => ?count, fun s r n m hq hst hn => ?many,
    fun s r hx hd => ?lockTimeout, fun s r fwd rev own dl p hq hst hlat => ?measure,
    fun s r fwd rev own dl hq hst hlat => ?late, fun s r hx hd => ?retry, fun s r hx hd => ?split⟩
  case lock =>
    obtain ⟨t, he, hp, ht⟩ := exec_latched (s := s) (c := .trainingFrameReturn r n m) rfl hq.1
      (by rw [trainingReturn_lock hst]; exact hq.2)
    rw [trainingReturn_lock hst] at ht
    refine ⟨t, he, hp, ?_⟩
    rw [ht]
    exact ⟨ringGo_state _ _ (by decide), ringGo_keepsBut (KeepsBut.refl _ _) _ _ (by simp)⟩
  case count =>
    have hprobe := trainingReturn_count hst hn hw m.toNat
    obtain ⟨t, he, hp, ht⟩ := exec_latched (s := s) (c := .trainingFrameReturn r n m) rfl hq.1
      (by rw [hprobe, (ringProbe_writes _ _).2]; exact hq.2)
    rw [hprobe] at ht
    refine ⟨t, he, hp, ?_⟩
    rw [ht]
    refine ⟨ringProbe_state _ _, ?_, ringProbe_keepsBut ((KeepsBut.refl _ _).wr _ _ _ (by simp)) _ (by simp)⟩
    rw [(ringProbe_writes _ _).1 _ _ (by decide), Dev.rd_wr]
    exact Nat.mod_eq_of_lt (show n.toNat < 2 ^ 6 by omega)
  case many =>
    have hfail := trainingReturn_over hst hn m.toNat
    obtain ⟨t, he, hp, ht⟩ := exec_latched (s := s) (c := .trainingFrameReturn r n m) rfl hq.1
      (by rw [hfail, trainFail_bs, Dev.ev_bs]; exact hq.2)
    rw [hfail] at ht
    refine ⟨t, he, hp, ?_⟩
    rw [ht]
    exact ⟨trainFail_state _ _, trainFail_fl_ev _ _ rfl (by decide), trainFail_event _ _,
      trainFail_keepsBut ((KeepsBut.refl _ _).ev _ _ (by simp)) (by simp) (by simp) (recFields_mem_append _)⟩
  case lockTimeout =>
    obtain ⟨t, he, hp, ht⟩ := exec_timed (s := s) (c := .lockTimeout r) rfl hx hd hx.2.2
    refine ⟨t, he, hp, ?_⟩
    rw [ht]
    exact ⟨ringGo_state _ _ (by decide), congrArg RingSt.splitTrain (Dev.rg_setRg ..),
      (ringGo_keepsBut (KeepsBut.refl _ _) _ _ (by simp)).setRg _ _⟩
  case measure =>
    have hident := measureDone_ident hst (probesOf fwd rev own) hlat
    obtain ⟨t, he, hp, ht⟩ := exec_latched (s := s) (c := .measureComplete r fwd rev own dl) rfl hq.1
      (by rw [hident, (ringIdent_writes _ _).2, measured_bs]; exact hq.2)
    obtain ⟨hl, hf, hg⟩ := rd_measured s.sys.dev r.val (probesOf fwd rev own) hlat p.isLt
    rw [hident] at ht
    refine ⟨t, he, hp, ?_⟩
    rw [ht, (ringIdent_writes _ _).1 RG_LAT_L _ (by decide), (ringIdent_writes _ _).1 RG_HOPDLY_FWD _ (by decide),
      (ringIdent_writes _ _).1 RG_HOPDLY_REV _ (by decide), hl, hf, hg]
    exact ⟨ringIdent_state _ _, rfl, fun h => if_pos h, fun h => if_pos h,
      fun h => ⟨if_neg (Nat.not_lt.mpr h), if_neg (Nat.not_lt.mpr h)⟩⟩
  case late =>
    have hfail := measureDone_late hst (probesOf fwd rev own) hlat
    obtain ⟨t, he, hp, ht⟩ := exec_latched (s := s) (c := .measureComplete r fwd rev own dl) rfl hq.1
      (by rw [hfail, trainFail_bs, Dev.ev_bs]; exact hq.2)
    rw [hfail] at ht
    refine ⟨t, he, hp, ?_⟩
    rw [ht]
    exact ⟨trainFail_state _ _, trainFail_fl_ev _ _ rfl (by decide),
      trainFail_keepsBut ((KeepsBut.refl _ _).ev _ _ (by simp)) (by simp) (by simp) (recFields_mem_append _)⟩
  case retry =>
    have hen : s.atTimers.dev.fl RG_CTRL_EN r.val = true := by
      simp only [trainRetryDue, Bool.and_eq_true] at hd
      exact hd.1.2
    obtain ⟨t, he, hp, ht⟩ := exec_timed (s := s) (c := .trainRetry r) rfl hx hd (by rw [ringDown_bs]; exact hx.2.2)
    refine ⟨t, he, hp, ?_⟩
    rw [ht]
    exact ⟨ringDown_state hen, ringDown_break _ _⟩
  case split =>
    obtain ⟨t, he, hp, ht⟩ := exec_timed (s := s) (c := .splitTrainTimeout r) rfl hx hd (by rw [trainFail_bs]; exact hx.2.2)
    refine ⟨t, he, hp, ?_⟩
    rw [ht]
    exact ⟨trainFail_state _ _, trainFail_event _ _,
      trainFail_keepsBut (KeepsBut.refl _ _) (by simp) (by simp) (recFields_mem_append _)⟩

end Sys2Proof.Machine
end

section
/-! PROOFS about the work that the owners of the channels do on a tick's reports and on a split: what it leaves of the rings
(R91, R157, R166, R178, R185, R192). -/

namespace Sys2Proof.Machine
open R

/-! ### What a walk over the units leaves of the rings

`ringView` is the internal state of the rings, the fields of `ringIds`, and the shed that waits. Feeders, shelf and rails change
none of it. -/

/-- The fields of the rings and of their channels that the owners of the channels do not write. -/
def ringIds : List Nat :=
  [RG_STATUS_STATE.id, RG_CRCERR.id, RG_HDRERR.id, RG_EVT_LATE.id, CD_ENT_COND_NOREP.id]

/-- The register fields with a number in `ids`. -/
def Dev.fieldsOf (d : Dev) (ids : List Nat) (r : Reg) (ix : Nat) : Nat := if r.id ∈ ids then d.rd r ix else 0

/-- The rings as the owners of the channels find them. -/
def Dev.ringView (d : Dev) : (Reg → Nat → Nat) × Tbl RingSt × Nat := (d.fieldsOf ringIds, d.ring, d.bs.shedReq)

/-- Equal views of a field read the same. -/
theorem Dev.fieldsOf_rd {d e : Dev} {ids : List Nat} (h : e.fieldsOf ids = d.fieldsOf ids) {r : Reg} (m : r.id ∈ ids) (ix : Nat) :
    e.rd r ix = d.rd r ix := by
  have := congrFun (congrFun h r) ix
  simpa [Dev.fieldsOf, m] using this

theorem Dev.fieldsOf_eq {d e : Dev} {ids : List Nat} (h : ∀ (r : Reg) (ix : Nat), r.id ∈ ids → e.rd r ix = d.rd r ix) :
    e.fieldsOf ids = d.fieldsOf ids := by
  funext r ix
  unfold Dev.fieldsOf
  split
  case isTrue m => exact h r ix m
  case isFalse => rfl

section
variable {d e : Dev}

theorem Dev.ringView_rd (h : e.ringView = d.ringView) {r : Reg} (m : r.id ∈ ringIds) (ix : Nat) : e.rd r ix = d.rd r ix :=
  Dev.fieldsOf_rd (congrArg Prod.fst h) m ix

theorem Dev.ringView_ring (h : e.ringView = d.ringView) : e.ring = d.ring := congrArg (fun v => v.2.1) h

theorem Dev.ringView_shed (h : e.ringView = d.ringView) : e.bs.shedReq = d.bs.shedReq := congrArg (fun v => v.2.2) h

end

/-! ### The state's operations -/

@[simp] theorem Dev.wr_ringView (d : Dev) {r : Reg} (m : r.id ∉ ringIds) (ix v : Nat) : (d.wr r ix v).ringView = d.ringView := by
  have hf : (d.wr r ix v).fieldsOf ringIds = d.fieldsOf ringIds :=
    Dev.fieldsOf_eq fun r' ix' m' => Dev.rd_wr_ne d ix ix' v fun h => m (h ▸ m')
  simp only [Dev.ringView, hf, Dev.wr_ring, Dev.wr_bs]

@[simp] theorem Dev.wrS_ringView (d : Dev) {r : Reg} (m : r.id ∉ ringIds) (ix : Nat) (x : Int) : (d.wrS r ix x).ringView = d.ringView :=
  d.wr_ringView m ix _

@[simp] theorem Dev.wrB_ringView (d : Dev) {r : Reg} (m : r.id ∉ ringIds) (ix : Nat) (b : Bool) : (d.wrB r ix b).ringView = d.ringView :=
  d.wr_ringView m ix _

@[simp] theorem Dev.inc_ringView (d : Dev) {r : Reg} (m : r.id ∉ ringIds) (ix : Nat) : (d.inc r ix).ringView = d.ringView :=
  d.wr_ringView m ix _

@[simp] theorem Dev.ev_ringView (d : Dev) {r : Reg} (m : r.id ∉ ringIds) (ix : Nat) : (d.ev r ix).ringView = d.ringView := by
  unfold Dev.ev
  split
  · rfl
  · exact d.wr_ringView m ix 1

@[simp] theorem Dev.recAt_ringView (d : Dev) (pm code cls src : Nat) (pay : List Nat) :
    (d.recAt pm code cls src pay).ringView = d.ringView := by
  have hf : (d.recAt pm code cls src pay).fieldsOf ringIds = d.fieldsOf ringIds :=
    Dev.fieldsOf_eq fun r ix m => Dev.rd_recAt d pm code cls src pay r ix
      fun m' => (by decide : ∀ i ∈ ringIds, i ∉ recIds) _ m m'
  simp only [Dev.ringView, hf, Dev.recAt_ring, Dev.recAt_bs]

@[simp] theorem Dev.recd_ringView (d : Dev) (code cls src : Nat) (pay : List Nat) : (d.recd code cls src pay).ringView = d.ringView :=
  d.recAt_ringView ..

@[simp] theorem Dev.setCh_ringView (d : Dev) (c : Nat) (x : ChanSt) : (d.setCh c x).ringView = d.ringView := rfl
@[simp] theorem Dev.setSlot_ringView (d : Dev) (s : Nat) (x : SlotSt) : (d.setSlot s x).ringView = d.ringView := rfl
@[simp] theorem Dev.setFm_ringView (d : Dev) (i : Nat) (x : FeederSt) : (d.setFm i x).ringView = d.ringView := rfl
@[simp] theorem Dev.setRail_ringView (d : Dev) (n : Nat) (x : RailSt) : (d.setRail n x).ringView = d.ringView := rfl
@[simp] theorem Dev.setPhs_ringView (d : Dev) (n h : Nat) (x : PhSt) : (d.setPhs n h x).ringView = d.ringView := rfl
@[simp] theorem Dev.tfault_ringView (d : Dev) (k n c : Nat) : (d.tfault k n c).ringView = d.ringView := rfl
@[simp] theorem Dev.withLe_ringView (d : Dev) (x : LoopSt) : ({ d with le := x } : Dev).ringView = d.ringView := rfl
@[simp] theorem Dev.withBus_ringView (d : Dev) (x : BusSt) : ({ d with bus := x } : Dev).ringView = d.ringView := rfl
@[simp] theorem Dev.withReval_ringView (d : Dev) (x : List Nat) : ({ d with reval := x } : Dev).ringView = d.ringView := rfl

/-- A new state of the shelf that keeps the shed that waits. -/
theorem Dev.withBs_ringView (d : Dev) {x : ShelfSt} (h : x.shedReq = d.bs.shedReq) : ({ d with bs := x } : Dev).ringView = d.ringView := by
  simp only [Dev.ringView, h]
  rfl

theorem forIx_ringView (n : Nat) (f : Nat → Dev → Dev) (d : Dev) (hf : ∀ i x, (f i x).ringView = x.ringView) :
    (forIx n f d).ringView = d.ringView :=
  foldl_keeps Dev.ringView (fun x i => f i x) (fun x i => hf i x) (List.range n) d

theorem forL_ringView {β : Type} (l : List β) (f : β → Dev → Dev) (d : Dev) (hf : ∀ b x, (f b x).ringView = x.ringView) :
    (forL l f d).ringView = d.ringView :=
  foldl_keeps Dev.ringView (fun x b => f b x) (fun x b => hf b x) l d

/-! ### Channels -/

@[simp] theorem healthEval_ringView (d : Dev) (c : Nat) : (healthEval d c).ringView = d.ringView := by
  unfold healthEval; dsimp only
  split
  · rfl
  · rw [Dev.setCh_ringView, Dev.wr_ringView _ (by decide)]

@[simp] theorem setCond_ringView (d : Dev) {r : Reg} (m : r.id ∉ ringIds) (c : Nat) (b : Bool) : (setCond d r c b).ringView = d.ringView := by
  unfold setCond
  split
  · rfl
  · rw [healthEval_ringView, Dev.wrB_ringView _ m]

@[simp] theorem issue_ringView (d : Dev) (c opc arg : Nat) : (issue d c opc arg).ringView = d.ringView := by
  unfold issue; dsimp only; split <;> rfl

@[simp] theorem issueRun_ringView (d : Dev) (c : Nat) : (issueRun d c).ringView = d.ringView := issue_ringView ..

@[simp] theorem quarMark_ringView (d : Dev) (c reason : Nat) : (quarMark d c reason).ringView = d.ringView := by
  unfold quarMark; dsimp only
  split
  · split
    · rfl
    · rw [Dev.setCh_ringView, Dev.wr_ringView _ (by decide)]
  · rw [Dev.inc_ringView _ (by decide), Dev.wr_ringView _ (by decide), Dev.setCh_ringView]

@[simp] theorem quarantine_ringView (d : Dev) (c reason : Nat) : (quarantine d c reason).ringView = d.ringView := by
  simp [quarantine]

theorem revalAll_ringView (d : Dev) : (revalAll d).ringView = d.ringView :=
  (forL_ringView _ _ _ fun c x => healthEval_ringView x c).trans (d.withReval_ringView [])

/-! ### Loop slots -/

@[simp] theorem slotForce_ringView (d : Dev) (s : Nat) (f : Option Bool) : (slotForce d s f).ringView = d.ringView := by
  unfold slotForce; dsimp only
  split
  · rw [Dev.wrB_ringView _ (by decide), Dev.setSlot_ringView]
  · rfl

@[simp] theorem startInMan_ringView (d : Dev) (s : Nat) (man : Bool) : (startInMan d s man).ringView = d.ringView := by
  unfold startInMan
  split
  · split
    · rw [Dev.wrS_ringView _ (by decide), Dev.setSlot_ringView]
    · rfl
  · rfl

@[simp] theorem slotHold_ringView (d : Dev) (s b : Nat) (on : Bool) : (slotHold d s b on).ringView = d.ringView := by
  simp [slotHold]

@[simp] theorem feclrOwn_ringView (d : Dev) (s : Nat) : (feclrOwn d s).ringView = d.ringView := by
  unfold feclrOwn; split <;> rfl

@[simp] theorem setShare_ringView (d : Dev) (s c7 : Nat) : (setShare d s c7).ringView = d.ringView := by
  unfold setShare
  rw [Dev.wrS_ringView _ (by decide), Dev.wr_ringView _ (by decide)]

/-! ### Rails -/

@[simp] theorem joinTrims_ringView (d : Dev) (n old new : Nat) : (joinTrims d n old new).ringView = d.ringView :=
  forL_ringView _ _ _ fun h x => by split <;> rfl

@[simp] theorem setMask_ringView (d : Dev) (n mask : Nat) : (setMask d n mask).ringView = d.ringView := by
  unfold setMask; dsimp only
  split
  · rfl
  · simp (disch := decide)

@[simp] theorem countAdds_ringView (d : Dev) (n k : Nat) : (countAdds d n k).ringView = d.ringView := d.wr_ringView (by decide) ..

@[simp] theorem railStop_ringView (d : Dev) (n : Nat) : (railStop d n).ringView = d.ringView := by
  unfold railStop
  extract_lets a b c e
  have he : e.ringView = c.ringView := forL_ringView _ _ _ fun _ _ => rfl
  rw [Dev.setRail_ringView, he]
  simp (disch := decide) [c, b, a]

@[simp] theorem railFault_ringView (d : Dev) (n : Nat) : (railFault d n).ringView = d.ringView := by
  unfold railFault; dsimp only
  split
  · rfl
  · simp (disch := decide)

@[simp] theorem rotFix_ringView (d : Dev) (n : Nat) : (rotFix d n).ringView = d.ringView := by
  unfold rotFix
  extract_lets grow e
  have he : e.ringView = d.ringView := by simp (disch := decide) [e]
  split
  · rfl
  · split <;> simp [he]

@[simp] theorem capacityCheck_ringView (d : Dev) (n : Nat) : (capacityCheck d n).ringView = d.ringView := by
  unfold capacityCheck
  extract_lets spare a b x c
  split
  · rfl
  · simp (disch := decide) [c, b, a]

@[simp] theorem showUsable_ringView (d : Dev) (n : Nat) : (showUsable d n).ringView = d.ringView := by
  unfold showUsable
  simp (disch := decide)

@[simp] theorem usableCheck_ringView (d : Dev) (n : Nat) : (usableCheck d n).ringView = d.ringView := by
  unfold usableCheck
  extract_lets a st lead x act keep gone b c more e
  have ha : a.ringView = d.ringView := showUsable_ringView d n
  have hc : c.ringView = d.ringView := by
    simp only [c]
    split <;> simp [b, ha]
  have he : e.ringView = d.ringView := by
    simp only [e]
    (repeat' split) <;> simp [ha, hc]
  (repeat' split) <;> simp [ha, he]

/-- The trims of a rail that starts. -/
theorem zeroTrims_ringView (d : Dev) (n : Nat) (l : List Nat) : (forL l (fun c d =>
    let h := hopOf d n c
    d.setPhs n h { d.phs n h with trim := 0 }) d).ringView = d.ringView := forL_ringView _ _ _ fun _ _ => rfl

@[simp] theorem rampStart_ringView (d : Dev) (n : Nat) : (rampStart d n).ringView = d.ringView := by
  unfold rampStart
  extract_lets vout a b x c e f g
  have ha : a.ringView = d.ringView := by
    simp only [a]
    split <;> simp (disch := decide)
  have hb : b.ringView = a.ringView := by
    simp only [b]
    split <;> simp
  have he : e.ringView = c.ringView := zeroTrims_ringView c n _
  have hg : g.ringView = f.ringView := zeroTrims_ringView f n _
  rw [usableCheck_ringView, Dev.wr_ringView _ (by decide), hg, setMask_ringView, he, Dev.withLe_ringView, hb, ha]

@[simp] theorem prepCheck_ringView (d : Dev) (n : Nat) : (prepCheck d n).ringView = d.ringView := by
  unfold prepCheck; dsimp only
  (repeat' split) <;> simp

theorem railJudge_ringView (d : Dev) (n : Nat) : (railJudge d n).ringView = d.ringView := by
  unfold railJudge; split <;> simp

/-- A split of a ring faults its rails and leaves the rings as they are. -/
theorem railSplit_ringView (d : Dev) (r : Nat) : (railSplit d r).ringView = d.ringView := by
  refine forIx_ringView _ _ _ fun n x => ?_
  dsimp only
  (repeat' split) <;> simp

/-! ### Reports of a rail's channels -/

@[simp] theorem railSample_ringView (d : Dev) (n c : Nat) : (railSample d n c).ringView = d.ringView := by
  unfold railSample; dsimp only; split <;> rfl

@[simp] theorem phaseOpen_ringView (d : Dev) (n c : Nat) : (phaseOpen d n c).ringView = d.ringView := by
  unfold phaseOpen; dsimp only
  split
  · rfl
  · split <;> simp (disch := decide)

@[simp] theorem railRunAgain_ringView (d : Dev) (n c : Nat) : (railRunAgain d n c).ringView = d.ringView := by
  unfold railRunAgain; dsimp only
  split <;> simp

@[simp] theorem railReport_ringView (d : Dev) (n c : Nat) : (railReport d n c).ringView = d.ringView := by
  unfold railReport
  extract_lets x h p e
  have he : e.ringView = d.ringView := by
    simp only [e]
    (repeat' split) <;> simp
  rw [railRunAgain_ringView, he]

/-- The owners of a ring's channels take a frame's reports and leave the rings as they are. -/
theorem chansReport_ringView (d : Dev) (r : Nat) : (chansReport d r).ringView = d.ringView :=
  forIx_ringView _ _ _ fun p x => by split <;> simp

/-! ### Feeders and the bus -/

@[simp] theorem busNofeed_ringView (d : Dev) : (busNofeed d).ringView = d.ringView := by
  unfold busNofeed; dsimp only
  (repeat' split) <;> simp (disch := decide)

@[simp] theorem feederRun_ringView (d : Dev) (i : Nat) : (feederRun d i).ringView = d.ringView := by
  unfold feederRun; dsimp only
  (repeat' split) <;> simp

@[simp] theorem feederRemove_ringView (d : Dev) (i reason causes pm : Nat) : (feederRemove d i reason causes pm).ringView = d.ringView := by
  unfold feederRemove
  split
  · rfl
  · extract_lets was old a b x c y e f
    have hb : b.ringView = d.ringView := by simp (disch := decide) [b, a]
    have hc : c.ringView = d.ringView := by
      simp only [c]
      split <;> simp (disch := decide) [hb]
    have hf : f.ringView = d.ringView := by
      simp only [f]
      split <;> simp [e, hc]
    rw [busNofeed_ringView, feederRun_ringView, Dev.ev_ringView _ (by decide), hf]

@[simp] theorem feederReturn_ringView (d : Dev) (i : Nat) : (feederReturn d i).ringView = d.ringView := by
  unfold feederReturn
  split
  · rfl
  · extract_lets a b x c
    have ha : a.ringView = d.ringView := by
      simp only [a]
      split <;> simp
    simp (disch := decide) [c, b, ha]

@[simp] theorem busStart_ringView (d : Dev) : (busStart d).ringView = d.ringView := by
  unfold busStart
  extract_lets x a b
  have hb : b.ringView = d.ringView := (a.wr_ringView (by decide) 0 fdStart).trans rfl
  split
  · rfl
  · split <;> simp [hb]

@[simp] theorem feederRampStart_ringView (d : Dev) (i c : Nat) : (feederRampStart d i c).ringView = d.ringView := by
  unfold feederRampStart
  extract_lets a x b e
  have hb : b.ringView = d.ringView := by simp (disch := decide) [b, a]
  have he : e.ringView = d.ringView := by
    simp only [e]
    (repeat' split) <;> simp (disch := decide) [hb]
  simp [he]

theorem feederCheck_ringView (d : Dev) (i : Nat) : (feederCheck d i).ringView = d.ringView := by
  unfold feederCheck
  split
  · rfl
  · extract_lets st x f causes a st' reason b r e
    have ha : a.ringView = d.ringView := by
      simp only [a]
      split <;> simp
    have hb : b.ringView = d.ringView := by simp (disch := decide) [b, ha]
    have he : e.ringView = d.ringView := by
      simp only [e]
      (repeat' split) <;> simp [ha, hb]
    rw [feederRun_ringView, he]

theorem feederChecks_ringView (d : Dev) : (feederChecks d).ringView = d.ringView := forIx_ringView _ _ _ fun i x => feederCheck_ringView x i

/-! ### Strings and legs -/

@[simp] theorem shelfCounts_ringView (d : Dev) : (shelfCounts d).ringView = d.ringView := by
  unfold shelfCounts
  simp (disch := decide)

@[simp] theorem legHold_ringView (d : Dev) (k b : Nat) (on : Bool) : (legHold d k b on).ringView = d.ringView := by
  unfold legHold; split <;> simp

@[simp] theorem legWeights_ringView (d : Dev) : (legWeights d).ringView = d.ringView :=
  forIx_ringView _ _ _ fun k x => by split <;> simp

@[simp] theorem strLockout_ringView (d : Dev) (j pm : Nat) : (strLockout d j pm).ringView = d.ringView := by
  unfold strLockout
  split <;> simp (disch := decide)

@[simp] theorem strClose_ringView (d : Dev) (j : Nat) : (strClose d j).ringView = d.ringView := d.wr_ringView (by decide) j 2

theorem connectRun_ringView (d : Dev) : (connectRun d).ringView = d.ringView := by
  unfold connectRun
  extract_lets a
  have ha : a.ringView = d.ringView := by
    refine forIx_ringView _ _ _ fun j x => ?_
    dsimp only
    split
    · have hx : ({ x with bs := { x.bs with next := j + 1 } } : Dev).ringView = x.ringView := rfl
      (repeat' split) <;> simp [hx]
    · rfl
  split
  · rw [Dev.wr_ringView _ (by decide), ha]
  · exact ha

@[simp] theorem strCheck_ringView (d : Dev) (j : Nat) : (strCheck d j).ringView = d.ringView := by
  unfold strCheck
  split
  · rfl
  · extract_lets x f a st
    have ha : a.ringView = d.ringView := by
      simp only [a]
      split <;> simp (disch := decide)
    split
    · rw [strLockout_ringView, ha]
    · split
      · exact (Dev.withBs_ringView a rfl).trans ha
      · exact ha

@[simp] theorem legOut_ringView (d : Dev) (k pm : Nat) : (legOut d k pm).ringView = d.ringView := by
  unfold legOut
  split
  · rfl
  · extract_lets a x b c
    have hb : b.ringView = d.ringView := (Dev.withBs_ringView a rfl).trans (d.wr_ringView (by decide) k 3)
    simp (disch := decide) [c, hb]

@[simp] theorem legCharge_ringView (d : Dev) (k : Nat) : (legCharge d k).ringView = d.ringView := by
  unfold legCharge
  extract_lets a x b c
  have hb : b.ringView = d.ringView := (Dev.withBs_ringView a rfl).trans (d.wr_ringView (by decide) k 1)
  have hc : c.ringView = d.ringView := by
    simp only [c]
    split <;> simp [hb]
  simp [hc]

@[simp] theorem legCheck_ringView (d : Dev) (k : Nat) : (legCheck d k).ringView = d.ringView := by
  unfold legCheck
  split
  · rfl
  · dsimp only
    have hav : ({ d with bs := { d.bs with avail := setBit d.bs.avail k true } } : Dev).ringView = d.ringView := rfl
    (repeat' split) <;> simp [hav]

theorem shelfChecks_ringView (d : Dev) : (shelfChecks d).ringView = d.ringView := by
  have hstr : ∀ x : Dev, (forIx 8 (fun j d => strCheck d j) x).ringView = x.ringView := fun x =>
    forIx_ringView _ _ _ fun j y => strCheck_ringView y j
  have hleg : ∀ x : Dev, (forIx 8 (fun k d => legCheck d k) x).ringView = x.ringView := fun x =>
    forIx_ringView _ _ _ fun k y => legCheck_ringView y k
  unfold shelfChecks; dsimp only
  split
  · exact hstr d
  · rw [shelfCounts_ringView, connectRun_ringView, hleg, hstr]

/-- The judgement of a tick's reports leaves the rings as they are. -/
theorem judgeAll_ringView (d : Dev) : (judgeAll d).ringView = d.ringView :=
  (forIx_ringView _ _ _ fun n x => railJudge_ringView x n).trans
    ((shelfChecks_ringView _).trans ((feederChecks_ringView _).trans (revalAll_ringView d)))

end Sys2Proof.Machine
end

section
/-! PROOFS about frames and breaks of a ring (R67, R68, R74, R77, R89, R90), and what the relay round leaves (R359). -/

namespace Sys2Proof.Machine
open R

/-! ### What the slots and the bulk area of a frame leave

`frameView` is what latching the slots and the bulk area of a frame does not touch: a ring's state, its counts of bad frames,
and what the frame itself has shown. -/

/-- The fields of a ring that the slots and the bulk area of a frame do not write. -/
def frameIds : List Nat := [RG_STATUS_STATE.id, RG_CRCERR.id, RG_HDRERR.id, RG_EVT_LATE.id]

/-- What a frame has shown of its ring: ticks without SOF, the lanes seen, split operation. -/
def RingSt.marks (x : RingSt) : Nat × Nat × Bool := (x.noSof, x.seen, x.splitOn)

/-- The rings as the slots and the bulk area of a frame find them. -/
def Dev.frameView (d : Dev) : (Reg → Nat → Nat) × (Nat → Nat × Nat × Bool) × Nat :=
  (d.fieldsOf frameIds, fun r => (d.rg r).marks, d.bs.shedReq)

section
variable {d e : Dev}

theorem Dev.frameView_rd (h : e.frameView = d.frameView) {r : Reg} (m : r.id ∈ frameIds) (ix : Nat) : e.rd r ix = d.rd r ix :=
  Dev.fieldsOf_rd (congrArg Prod.fst h) m ix

theorem Dev.frameView_marks (h : e.frameView = d.frameView) (r : Nat) : (e.rg r).marks = (d.rg r).marks :=
  congrFun (congrArg (fun v => v.2.1) h) r

theorem Dev.frameView_shed (h : e.frameView = d.frameView) : e.bs.shedReq = d.bs.shedReq := congrArg (fun v => v.2.2) h

theorem Dev.frameView_eq (hrd : ∀ (r : Reg) (ix : Nat), r.id ∈ frameIds → e.rd r ix = d.rd r ix)
    (hm : ∀ r, (e.rg r).marks = (d.rg r).marks) (hs : e.bs.shedReq = d.bs.shedReq) : e.frameView = d.frameView := by
  simp only [Dev.frameView, Dev.fieldsOf_eq hrd, hm, hs]

/-- What leaves the rings leaves what a frame has shown of them. -/
theorem Dev.frameView_of_ringView (h : e.ringView = d.ringView) : e.frameView = d.frameView :=
  Dev.frameView_eq (fun _ ix m => Dev.ringView_rd h ((by decide : frameIds ⊆ ringIds) m) ix)
    (fun r => by rw [Dev.rg, Dev.ringView_ring h, Dev.rg]) (Dev.ringView_shed h)

end

@[simp] theorem Dev.wr_frameView (d : Dev) {r : Reg} (m : r.id ∉ frameIds) (ix v : Nat) : (d.wr r ix v).frameView = d.frameView :=
  Dev.frameView_eq (fun _ ix' m' => Dev.rd_wr_ne d ix ix' v fun h => m (h ▸ m')) (fun _ => rfl) rfl

@[simp] theorem Dev.inc_frameView (d : Dev) {r : Reg} (m : r.id ∉ frameIds) (ix : Nat) : (d.inc r ix).frameView = d.frameView :=
  d.wr_frameView m ix _

@[simp] theorem Dev.ev_frameView (d : Dev) {r : Reg} (m : r.id ∉ frameIds) (ix : Nat) : (d.ev r ix).frameView = d.frameView := by
  unfold Dev.ev
  split
  · rfl
  · exact d.wr_frameView m ix 1

@[simp] theorem Dev.setCh_frameView (d : Dev) (c : Nat) (x : ChanSt) : (d.setCh c x).frameView = d.frameView := rfl

/-- A ring that shows the same of its frames. -/
theorem Dev.setRg_frameView (d : Dev) {r : Nat} {x : RingSt} (h : x.marks = (d.rg r).marks) : (d.setRg r x).frameView = d.frameView := by
  refine Dev.frameView_eq (fun _ _ _ => rfl) (fun r' => ?_) rfl
  by_cases hr : r' = r
  · subst hr
    rw [Dev.rg_setRg, h]
  · rw [Dev.rg_setRg_ne _ _ hr]

theorem forIx_frameView (n : Nat) (f : Nat → Dev → Dev) (d : Dev) (hf : ∀ i x, (f i x).frameView = x.frameView) :
    (forIx n f d).frameView = d.frameView :=
  foldl_keeps Dev.frameView (fun x i => f i x) (fun x i => hf i x) (List.range n) d

theorem forL_frameView {β : Type} (l : List β) (f : β → Dev → Dev) (d : Dev) (hf : ∀ b x, (f b x).frameView = x.frameView) :
    (forL l f d).frameView = d.frameView :=
  foldl_keeps Dev.frameView (fun x b => f b x) (fun x b => hf b x) l d

@[simp] theorem healthEval_frameView (d : Dev) (c : Nat) : (healthEval d c).frameView = d.frameView :=
  Dev.frameView_of_ringView (healthEval_ringView d c)

@[simp] theorem issue_frameView (d : Dev) (c opc arg : Nat) : (issue d c opc arg).frameView = d.frameView :=
  Dev.frameView_of_ringView (issue_ringView d c opc arg)

/-! ### The slots (R68, R72, R74) -/

@[simp] theorem latchReport_frameView (d : Dev) (c lat : Nat) (rep : Report) : (latchReport d c lat rep).frameView = d.frameView := by
  unfold latchReport
  extract_lets x s smp tel a b e f
  have hb : b.frameView = d.frameView := by
    simp only [b]
    split <;> simp (disch := decide) [a]
  have hf : f.frameView = d.frameView := by
    simp only [f]
    (repeat' split) <;> simp (disch := decide) [e, hb]
  split
  · exact hb
  · rw [healthEval_frameView, hf]

@[simp] theorem slotMissed_frameView (d : Dev) (r c : Nat) (same : Bool) : (slotMissed d r c same).frameView = d.frameView := by
  unfold slotMissed; split <;> rfl

@[simp] theorem latchRep_frameView (d : Dev) (r lat p : Nat) (rep : Report) : (latchRep d r lat p rep).frameView = d.frameView := by
  unfold latchRep; dsimp only
  split
  · exact (Dev.setRg_frameView _ (by rfl)).trans (latchReport_frameView ..)
  · exact latchReport_frameView ..

theorem latchSlots_frameView (d : Dev) (r lat : Nat) (inC : Nat → Bool) (secs : List (List Nat)) :
    (latchSlots d r lat inC secs).frameView = d.frameView :=
  forIx_frameView _ _ _ fun p x => by
    dsimp only
    (repeat' split) <;> simp

/-! ### The bulk area (R76, R77) -/

@[simp] theorem exchAgain_frameView (d : Dev) (r : Nat) (e : Exch) : (exchAgain d r e).frameView = d.frameView := by
  unfold exchAgain; dsimp only
  split
  · exact Dev.setRg_frameView _ (by rfl)
  · simp
  · exact Dev.setRg_frameView _ (by rfl)
  · exact Dev.setRg_frameView _ (by rfl)

/-- An exchange without an answer is placed again or fails: what frames have shown stands. -/
@[simp] theorem exchRetryOr_frameView (d : Dev) (r : Nat) (e : Exch) (bulk : Bool) : (exchRetryOr d r e bulk).frameView = d.frameView := by
  unfold exchRetryOr
  extract_lets c a
  have ha : a.frameView = d.frameView := by
    simp only [a]
    split <;> simp (disch := decide)
  split
  · rw [exchAgain_frameView]
    split <;> simp (disch := decide)
  · split
    · exact ha
    · exact ha
    · exact ha
    · exact (Dev.setRg_frameView _ (by rfl)).trans ha

@[simp] theorem grantFile_frameView (d : Dev) (r typ src xfer : Nat) (data : List Nat) :
    (grantFile d r typ src xfer data).frameView = d.frameView := by
  unfold grantFile; dsimp only
  split
  · exact Dev.setRg_frameView _ (by rfl)
  split
  · rfl
  split
  · split
    · exact (Dev.setCh_frameView ..).trans (Dev.setRg_frameView _ (by rfl))
    · rfl
  split
  · exact Dev.setRg_frameView _ (by rfl)
  split
  · exact Dev.setRg_frameView _ (by rfl)
  · rfl

@[simp] theorem exchAnswer_frameView (d : Dev) (r : Nat) (e : Exch) (bad : Bool) (typ xfer : Nat) (data : List Nat) :
    (exchAnswer d r e bad typ xfer data).frameView = d.frameView := by
  have hagain : ((grantFile d r typ e.pos xfer data).setRg r
      { (grantFile d r typ e.pos xfer data).rg r with asks := e :: ((grantFile d r typ e.pos xfer data).rg r).asks }).frameView
        = d.frameView := (Dev.setRg_frameView _ (by rfl)).trans (grantFile_frameView ..)
  have hrans : (d.setRg r { d.rg r with rans := (d.rg r).rans ++ [(e.pos, e.kind, 1)] }).frameView = d.frameView :=
    Dev.setRg_frameView _ rfl
  unfold exchAnswer; dsimp only
  (repeat' split) <;> simp [hagain, hrans]

theorem latchBulk_frameView (d : Dev) (r lat : Nat) (inC : Nat → Bool) (secs : List (List Nat)) :
    (latchBulk d r lat inC secs).frameView = d.frameView := by
  unfold latchBulk
  split
  · rfl
  · exact (exchAnswer_frameView ..).trans (Dev.setRg_frameView _ (by rfl))

/-! ### A latched frame (R67, R68, R80) -/

/-- The counts of a latched frame: what it has shown of its lane, its bad sections, its header. -/
def latchCounts (d : Dev) (r : Nat) (f : UpFrame) : Dev :=
  let x := d.rg r
  let lat := ringLat d r
  let d := d.setRg r { x with seen := setBit x.seen (if f.rx then 0 else 1) true, noSof := 0 }
  let d := d.wr RG_CRCERR r (addSat 32 (d.rd RG_CRCERR r) (badSecs (f.secs.map natBytes)))
  if sectOk 12 (natBytes f.hdr) then
    (if bitOf (leAt (natBytes f.hdr) 10 2) 0 then
      ((d.inc RG_LATECNT r).ev RG_EVT_LATE r).recAt (d.pmAgo lat) 0x0202 6 r []
    else d)
  else d.inc RG_HDRERR r

theorem ringLatch_frameView (d : Dev) (r : Nat) (f : UpFrame) : (ringLatch d r f).frameView = (latchCounts d r f).frameView :=
  (latchBulk_frameView ..).trans (latchSlots_frameView ..)

theorem latchCounts_crcerr (d : Dev) (r : Nat) (f : UpFrame) :
    (latchCounts d r f).rd RG_CRCERR r = addSat 32 (d.rd RG_CRCERR r) (badSecs (f.secs.map natBytes)) % 2 ^ 32 := by
  unfold latchCounts
  extract_lets x lat a b
  have hb : b.rd RG_CRCERR r = addSat 32 (d.rd RG_CRCERR r) (badSecs (f.secs.map natBytes)) % 2 ^ 32 := Dev.rd_wr ..
  split
  · split
    · rw [Dev.rd_recAt _ _ _ _ _ _ _ _ (by decide), Dev.rd_ev_ne _ _ _ (by decide), Dev.inc, Dev.rd_wr_ne _ _ _ _ (by decide), hb]
    · exact hb
  · rw [Dev.inc, Dev.rd_wr_ne _ _ _ _ (by decide), hb]

theorem latchCounts_hdrerr (d : Dev) (r : Nat) (f : UpFrame) : (latchCounts d r f).rd RG_HDRERR r =
    if sectOk 12 (natBytes f.hdr) then d.rd RG_HDRERR r else incSat 32 (d.rd RG_HDRERR r) % 2 ^ 32 := by
  unfold latchCounts
  extract_lets x lat a b
  have hb : b.rd RG_HDRERR r = d.rd RG_HDRERR r := Dev.rd_wr_ne _ _ _ _ (by decide)
  split
  · split
    · rw [Dev.rd_recAt _ _ _ _ _ _ _ _ (by decide), Dev.rd_ev_ne _ _ _ (by decide), Dev.inc, Dev.rd_wr_ne _ _ _ _ (by decide), hb]
    · exact hb
  · rw [Dev.inc, Dev.rd_wr, hb]
    rfl

/-- A good header with LATE set raises the event (R80). -/
theorem latchCounts_late (d : Dev) (r : Nat) (f : UpFrame) (hok : sectOk 12 (natBytes f.hdr) = true)
    (hlate : bitOf (leAt (natBytes f.hdr) 10 2) 0 = true) : (latchCounts d r f).fl RG_EVT_LATE r = true := by
  unfold latchCounts
  simp only [hok, hlate, if_true]
  rw [Dev.fl, Dev.rd_recAt _ _ _ _ _ _ _ _ (by decide)]
  exact Dev.fl_ev _ RG_EVT_LATE r rfl

@[simp] theorem latchCounts_shed (d : Dev) (r : Nat) (f : UpFrame) : (latchCounts d r f).bs = d.bs := by
  unfold latchCounts; dsimp only
  (repeat' split) <;> simp [Dev.inc]

/-- A latched frame has been seen on its lane, and no tick without SOF counts. -/
theorem latchCounts_marks (d : Dev) (r : Nat) (f : UpFrame) :
    ((latchCounts d r f).rg r).marks = (0, setBit (d.rg r).seen (if f.rx then 0 else 1) true, (d.rg r).splitOn) := by
  have hring : (latchCounts d r f).ring =
      (d.setRg r { d.rg r with seen := setBit (d.rg r).seen (if f.rx then 0 else 1) true, noSof := 0 }).ring := by
    unfold latchCounts; dsimp only
    (repeat' split) <;> simp [Dev.inc]
  have hrg := congrArg (fun t => Tbl.get ({} : RingSt) t r) hring
  exact (congrArg RingSt.marks hrg).trans (congrArg RingSt.marks (Dev.rg_setRg ..))

/-! ### The relay round (R359)

`answerView` is what the relay round's service of a ring leaves: beside the frames, the answers and the match of every channel. -/

/-- A channel's answers, and whether it has matched. -/
def ChanSt.marks (x : ChanSt) : Bool × Bool × Nat × Nat := (x.quar, x.matched, x.idAns, x.cfgAns)

/-- What the relay round leaves of rings and channels. -/
def Dev.answerView (d : Dev) : ((Reg → Nat → Nat) × (Nat → Nat × Nat × Bool) × Nat) × (Reg → Nat → Nat) × (Nat → Bool × Bool × Nat × Nat) :=
  (d.frameView, d.fieldsOf [CD_ENT_QREASON.id], fun c => (d.chn c).marks)

section
variable {d e : Dev}

theorem Dev.answerView_frame (h : e.answerView = d.answerView) : e.frameView = d.frameView := congrArg Prod.fst h

theorem Dev.answerView_reason (h : e.answerView = d.answerView) (c : Nat) : e.rd CD_ENT_QREASON c = d.rd CD_ENT_QREASON c :=
  Dev.fieldsOf_rd (congrArg (fun v => v.2.1) h) (by decide) c

theorem Dev.answerView_marks (h : e.answerView = d.answerView) (c : Nat) : (e.chn c).marks = (d.chn c).marks :=
  congrFun (congrArg (fun v => v.2.2) h) c

end

/-- The fields that the relay round does not write. -/
def answerIds : List Nat := CD_ENT_QREASON.id :: frameIds

@[simp] theorem Dev.wr_answerView (d : Dev) {r : Reg} (m : r.id ∉ answerIds) (ix v : Nat) : (d.wr r ix v).answerView = d.answerView := by
  simp only [answerIds, List.mem_cons, not_or] at m
  have hq : (d.wr r ix v).fieldsOf [CD_ENT_QREASON.id] = d.fieldsOf [CD_ENT_QREASON.id] :=
    Dev.fieldsOf_eq fun r' ix' m' => Dev.rd_wr_ne d ix ix' v fun h => m.1 (h ▸ List.mem_singleton.mp m')
  simp only [Dev.answerView, d.wr_frameView m.2, hq]
  rfl

@[simp] theorem Dev.inc_answerView (d : Dev) {r : Reg} (m : r.id ∉ answerIds) (ix : Nat) : (d.inc r ix).answerView = d.answerView :=
  d.wr_answerView m ix _

@[simp] theorem Dev.ev_answerView (d : Dev) {r : Reg} (m : r.id ∉ answerIds) (ix : Nat) : (d.ev r ix).answerView = d.answerView := by
  unfold Dev.ev
  split
  · rfl
  · exact d.wr_answerView m ix 1

@[simp] theorem Dev.recd_answerView (d : Dev) (code cls src : Nat) (pay : List Nat) : (d.recd code cls src pay).answerView = d.answerView := by
  have hq : (d.recd code cls src pay).fieldsOf [CD_ENT_QREASON.id] = d.fieldsOf [CD_ENT_QREASON.id] :=
    Dev.fieldsOf_eq fun r ix m => Dev.rd_recd d code cls src pay r ix (List.mem_singleton.mp m ▸ by decide)
  simp only [Dev.answerView, Dev.frameView_of_ringView (d.recd_ringView code cls src pay), hq, Dev.chn, Dev.recd_ch]

/-- A channel that keeps its answers and its match. -/
theorem Dev.setCh_answerView (d : Dev) {c : Nat} {x : ChanSt} (h : x.marks = (d.chn c).marks) : (d.setCh c x).answerView = d.answerView := by
  have hm : (fun c' => ((d.setCh c x).chn c').marks) = fun c' => (d.chn c').marks := by
    funext c'
    by_cases hc : c' = c
    · subst hc
      rw [Dev.chn_setCh, h]
    · rw [Dev.chn_setCh_ne _ _ hc]
  simp only [Dev.answerView, hm]
  rfl

/-- A ring that shows the same of its frames. -/
theorem Dev.setRg_answerView (d : Dev) {r : Nat} {x : RingSt} (h : x.marks = (d.rg r).marks) : (d.setRg r x).answerView = d.answerView := by
  simp only [Dev.answerView, d.setRg_frameView h]
  rfl

@[simp] theorem Dev.setRly_answerView (d : Dev) (r : Nat) (x : RelaySt) : (d.setRly r x).answerView = d.answerView := rfl

@[simp] theorem issueRun_answerView (d : Dev) (c : Nat) : (issueRun d c).answerView = d.answerView := by
  unfold issueRun issue; dsimp only
  split
  · rfl
  · exact Dev.setCh_answerView _ (by rfl)

@[simp] theorem healthEval_answerView (d : Dev) (c : Nat) : (healthEval d c).answerView = d.answerView := by
  unfold healthEval; dsimp only
  split
  · rfl
  · exact (Dev.setCh_answerView _ (by rfl)).trans (d.wr_answerView (by decide) _ _)

@[simp] theorem setCond_answerView (d : Dev) {r : Reg} (m : r.id ∉ answerIds) (c : Nat) (b : Bool) : (setCond d r c b).answerView = d.answerView := by
  unfold setCond
  split
  · rfl
  · exact (healthEval_answerView ..).trans (d.wr_answerView m _ _)

@[simp] theorem relayRec_answerView (d : Dev) (c : Nat) : (relayRec d c).answerView = d.answerView := by
  unfold relayRec
  simp (disch := decide)

@[simp] theorem relayFail_answerView (d : Dev) (r c : Nat) : (relayFail d r c).answerView = d.answerView := by
  unfold relayFail
  simp (disch := decide)

/-- A stage that is identified again leaves its round as written or as failed (R359 step 6). -/
def reidDone (r : Nat) (s : Sys) (c : Nat) : Sys :=
  let typ := s.dev.rd UP_RLY_TYPE r
  let good := (s.dev.chn c).matched && stageVersion s.dev c == imageVersion s typ
  s.on (fun d =>
    let d := setCond d CD_ENT_COND_UPD c false
    let d := issueRun d c
    let d := d.inc (if good then UP_RLY_NDONE else UP_RLY_NFAIL) r
    let x := d.rly r
    let d := d.setRly r { x with reids := x.reids.filter (fun y => y != c), sources := if good then x.sources ++ [c] else x.sources }
    relayRec d c)

theorem reidDone_answerView (r : Nat) (s : Sys) (c : Nat) : (reidDone r s c).dev.answerView = s.dev.answerView := by
  unfold reidDone Sys.on
  extract_lets typ good
  have hid : (if good then UP_RLY_NDONE else UP_RLY_NFAIL).id ∉ answerIds := by
    split <;> decide
  simp (disch := decide) [Dev.inc_answerView _ hid]

/-- The relay round's service of a ring leaves frames, answers and matches. -/
theorem relayService_answerView (s : Sys) (r : Nat) : (relayService s r).dev.answerView = s.dev.answerView := by
  have hdrop : ∀ (x : Dev) (c : Nat), (relayFail (x.setRg r { x.rg r with
      work := (x.rg r).work.filter (fun e => decide (e.kind < 3)) }) r c).answerView = x.answerView := fun x c =>
    (relayFail_answerView ..).trans (Dev.setRg_answerView x (by rfl))
  unfold relayService
  extract_lets rans a b done
  have ha : a.dev.answerView = s.dev.answerView := by
    refine (Dev.setRg_answerView _ (by rfl)).trans ?_
    split <;> rfl
  clear_value a
  have hb : b.dev.answerView = s.dev.answerView := by
    simp only [b]
    split
    · split
      · rw [Sys.on_dev]
        exact (hdrop a.dev _).trans ha
      · exact ha
    · exact ha
  exact (foldl_keeps (fun s : Sys => s.dev.answerView) (reidDone r) (reidDone_answerView r) done b).trans hb

/-! ### Breaks (R89, R90) -/

/-- A break is written beside the ring's state: its position, or the mark of the link into RX, the event and a record (R89). -/
theorem ringBreak_at (d : Dev) (r p t : Nat) : (ringBreak d r (some p) t).rd RG_STATUS_BREAK_POS r = p % 2 ^ 5 ∧
    (ringBreak d r (some p) t).fl RG_STATUS_BREAK_VALID r = true ∧ (ringBreak d r (some p) t).fl RG_EVT_BREAK r = true := by
  unfold ringBreak
  refine ⟨?_, ?_, ?_⟩
  · rw [Dev.setRg_rd, Dev.rd_recd _ _ _ _ _ _ _ (by decide), Dev.rd_ev_ne _ _ _ (by decide), Dev.rd_wr_ne _ _ _ _ (by decide), Dev.rd_wr]
    rfl
  · rw [Dev.setRg_fl, Dev.fl, Dev.rd_recd _ _ _ _ _ _ _ (by decide), Dev.rd_ev_ne _ _ _ (by decide), Dev.rd_wr]
    rfl
  · rw [Dev.setRg_fl, Dev.fl, Dev.rd_recd _ _ _ _ _ _ _ (by decide)]
    exact Dev.fl_ev _ RG_EVT_BREAK r rfl

theorem ringBreak_link (d : Dev) (r t : Nat) : (ringBreak d r none t).fl RG_STATUS_BREAK_CTRL r = true ∧
    (ringBreak d r none t).fl RG_EVT_BREAK r = true := by
  unfold ringBreak
  refine ⟨?_, ?_⟩
  · rw [Dev.setRg_fl, Dev.fl, Dev.rd_recd _ _ _ _ _ _ _ (by decide), Dev.rd_ev_ne _ _ _ (by decide), Dev.rd_wr]
    rfl
  · rw [Dev.setRg_fl, Dev.fl, Dev.rd_recd _ _ _ _ _ _ _ (by decide)]
    exact Dev.fl_ev _ RG_EVT_BREAK r rfl

theorem ringBreak_splitT (d : Dev) (r : Nat) (pos : Option Nat) (t : Nat) : ((ringBreak d r pos t).rg r).splitT = some t := by
  unfold ringBreak
  rw [Dev.rg_setRg]

@[simp] theorem ringBreak_bs (d : Dev) (r : Nat) (pos : Option Nat) (t : Nat) : (ringBreak d r pos t).bs = d.bs := by
  unfold ringBreak
  cases pos <;> simp

theorem ringBreak_at_keepsBut {l : List (Reg × Nat)} (d : Dev) {r : Nat} (hp : (RG_STATUS_BREAK_POS, r) ∈ l)
    (hv : (RG_STATUS_BREAK_VALID, r) ∈ l) (he : (RG_EVT_BREAK, r) ∈ l) (hrec : ∀ x ∈ recFields, x ∈ l) (p t : Nat) :
    KeepsBut l d (ringBreak d r (some p) t) :=
  (((((KeepsBut.refl l d).wr _ _ _ hp).wr _ _ _ hv).ev _ _ he).recd _ _ _ _ hrec).setRg _ _

theorem ringBreak_link_keepsBut {l : List (Reg × Nat)} (d : Dev) {r : Nat} (hc : (RG_STATUS_BREAK_CTRL, r) ∈ l)
    (he : (RG_EVT_BREAK, r) ∈ l) (hrec : ∀ x ∈ recFields, x ∈ l) (t : Nat) : KeepsBut l d (ringBreak d r none t) :=
  ((((KeepsBut.refl l d).wr _ _ _ hc).ev _ _ he).recd _ _ _ _ hrec).setRg _ _

/-- A ring in RUN is not in training: a break does not fail it. -/
theorem breakFails_run {d : Dev} {r : Nat} (h : ringState d r = rgRun) : breakFails d r = false := by
  simp only [breakFails, h]
  decide

/-- A beacon on a ring in training fails it (R84). -/
theorem breakBeacon_fails {d : Dev} {r : Nat} (h : breakFails d r = true) (pos fnum : Nat) : breakBeacon d r pos fnum = trainFail d r := by
  have hrun : ringState d r ≠ rgRun := fun hr => by simp [breakFails_run hr] at h
  simp [breakBeacon, hrun, h]

/-- Split operation begins: the ring is in SPLIT with its chains (R90). -/
theorem splitStart_view (d : Dev) (r : Nat) : (splitStart d r).rd RG_STATUS_STATE r = rgSplit ∧ ((splitStart d r).rg r).splitOn = true ∧
    (splitStart d r).bs.shedReq = d.bs.shedReq := by
  unfold splitStart
  extract_lets a fl x b
  have hview : (forL fl (fun e d => exchRetryOr d r e true) b).frameView = b.frameView :=
    forL_frameView fl _ b fun e x => exchRetryOr_frameView x r e true
  have hmarks := Dev.frameView_marks hview r
  have hon : (b.rg r).splitOn = true := congrArg RingSt.splitOn (Dev.rg_setRg ..)
  exact ⟨(Dev.frameView_rd hview (by decide) r).trans (ringGo_state d r (by decide)),
    (congrArg (fun m => m.2.2) hmarks).trans hon, (Dev.frameView_shed hview).trans rfl⟩

/-- The rails of the ring meet the split (R91); the ring stays as `splitStart` leaves it. -/
theorem splitBegins_view (d : Dev) (r : Nat) : (railSplit (splitStart d r) r).rd RG_STATUS_STATE r = rgSplit ∧
    ((railSplit (splitStart d r) r).rg r).splitOn = true ∧ (railSplit (splitStart d r) r).bs.shedReq = d.bs.shedReq := by
  have hview := railSplit_ringView (splitStart d r) r
  obtain ⟨hst, hon, hshed⟩ := splitStart_view d r
  refine ⟨(Dev.ringView_rd hview (by decide) r).trans hst, ?_, (Dev.ringView_shed hview).trans hshed⟩
  rw [Dev.rg, Dev.ringView_ring hview]
  exact hon

/-- A frame that a ring can latch shows in its counts, whatever its reports and answers make the units do (R46, R68). -/
theorem frameIn_view {s : Sys} {r : Nat} {f : UpFrame} (h : ringLatches s.dev r f.rx = true) :
    (frameIn s r f).dev.frameView = (latchCounts s.dev r f).frameView := by
  have hin : frameIn s r f = relayService (s.on (fun d => chansReport (ringLatch d r f) r)) r := by
    simp only [frameIn, h, if_true]
  rw [hin, Dev.answerView_frame (relayService_answerView _ r), Sys.on_dev]
  exact (Dev.frameView_of_ringView (chansReport_ringView _ r)).trans (ringLatch_frameView s.dev r f)

/-- Outside split operation, frames are latched at RX alone. -/
theorem ringLatches_rx {d : Dev} {r : Nat} {rx : Bool} (h : ringLatches d r rx = true) (hrun : ringState d r = rgRun) : rx = true := by
  have hne : rgRun ≠ rgSplit := by decide
  simp only [ringLatches, hrun, hne, if_false, Bool.and_eq_true] at h
  exact h.2.2

/-! ### The statement -/

/-- Settles O5, by what each of the four steps does to its ring. -/
theorem ringBreaksAndFrames : Obligations.RingBreaksAndFrames := by
  unfold Obligations.RingBreaksAndFrames
  refine ⟨fun s r pos f hq hst hsp => ?beacon, fun s r pos f hq hf => ?beaconFails, fun s r hx hd hf => ?lossFails,
    fun s r hx hd hst => ?loss, fun s r hq hd => ?split, fun s r f hq hl hst hstage => ?frame, fun s r f hq hstage => ?later⟩
  case beacon =>
    have hbreak : ∃ t, breakBeacon s.sys.dev r.val pos.val f.toNat = ringBreak s.sys.dev r.val (some pos.val) t :=
      ⟨_, if_pos ⟨hst, hsp⟩⟩
    obtain ⟨tick, hbreak⟩ := hbreak
    obtain ⟨t, he, hp, ht⟩ := exec_latched (s := s) (c := .breakBeacon r pos f) rfl hq.1
      (by rw [hbreak, ringBreak_bs]; exact hq.2)
    obtain ⟨hpos, hvalid, hev⟩ := ringBreak_at s.sys.dev r.val pos.val tick
    rw [hbreak] at ht
    refine ⟨t, he, hp, ?_⟩
    rw [ht]
    refine ⟨hpos.trans (Nat.mod_eq_of_lt pos.isLt), hvalid, hev, ?_,
      ringBreak_at_keepsBut _ (by simp) (by simp) (by simp) (recFields_mem_append _) _ _⟩
    rw [ringBreak_splitT]
    rfl
  case beaconFails =>
    have hfail := breakBeacon_fails hf pos.val f.toNat
    obtain ⟨t, he, hp, ht⟩ := exec_latched (s := s) (c := .breakBeacon r pos f) rfl hq.1
      (by rw [hfail, trainFail_bs]; exact hq.2)
    rw [hfail] at ht
    refine ⟨t, he, hp, ?_⟩
    rw [ht]
    exact ⟨trainFail_state _ _, trainFail_event _ _⟩
  case lossFails =>
    have hfail : rxLoss s.atTimers.dev r.val = trainFail s.atTimers.dev r.val := if_pos hf
    obtain ⟨t, he, hp, ht⟩ := exec_timed (s := s) (c := .rxSofLoss r) rfl hx hd (by rw [hfail, trainFail_bs]; exact hx.2.2)
    rw [hfail] at ht
    refine ⟨t, he, hp, ?_⟩
    rw [ht]
    exact ⟨trainFail_state _ _, trainFail_event _ _⟩
  case loss =>
    have hbreak : rxLoss s.atTimers.dev r.val = ringBreak s.atTimers.dev r.val none (s.atTimers.dev.cur + 4) :=
      if_neg (by simp [breakFails_run hst])
    obtain ⟨t, he, hp, ht⟩ := exec_timed (s := s) (c := .rxSofLoss r) rfl hx hd (by rw [hbreak, ringBreak_bs]; exact hx.2.2)
    obtain ⟨hctrl, hev⟩ := ringBreak_link s.atTimers.dev r.val (s.atTimers.dev.cur + 4)
    rw [hbreak] at ht
    refine ⟨t, he, hp, ?_⟩
    rw [ht]
    exact ⟨hctrl, hev, ringBreak_splitT _ _ _ _, ringBreak_link_keepsBut _ (by simp) (by simp) (recFields_mem_append _) _⟩
  case split =>
    obtain ⟨hst, hon, hshed⟩ := splitBegins_view s.sys.dev r.val
    obtain ⟨t, he, hp, ht⟩ := exec_takes (s := s) (c := .splitStart r) rfl hq.1 hd (hshed.trans hq.2)
    refine ⟨t, he, hp, ?_⟩
    rw [ht]
    exact ⟨hst, hon⟩
  case frame =>
    have hup : upstream s.sys r.val f = frameIn s.sys r.val f := if_pos hstage
    have hview := frameIn_view (f := f) hl
    have hmarks := (Dev.frameView_marks hview r.val).trans (latchCounts_marks ..)
    have hshed : (frameIn s.sys r.val f).dev.bs.shedReq = s.sys.dev.bs.shedReq := by
      rw [Dev.frameView_shed hview, latchCounts_shed]
    obtain ⟨t, he, hp, ht⟩ := completes_latchedS (s := s) (Q := fun x => x = frameIn s.sys r.val f) (fun s => upstream s r.val f)
      (c := .upstreamFrame r f) rfl hq.1 (by rw [hup, hshed]; exact hq.2) hup
    rw [ringLatches_rx hl hst, if_pos rfl] at hmarks
    refine ⟨t, he, hp, ?_⟩
    rw [ht, Dev.frameView_rd hview (by decide), Dev.frameView_rd hview (by decide), latchCounts_crcerr, latchCounts_hdrerr]
    refine ⟨rfl, rfl, fun hok hlate => ?_, congrArg Prod.fst hmarks, ?_⟩
    · rw [Dev.fl, Dev.frameView_rd hview (by decide)]
      exact latchCounts_late _ _ _ hok hlate
    · have hseen : ((frameIn s.sys r.val f).dev.rg r.val).seen = setBit (s.sys.dev.rg r.val).seen 0 true :=
        congrArg (fun m => m.2.1) hmarks
      rw [hseen, bitOf_setBit]
  case later =>
    have hup : upstream s.sys r.val f = s.sys.on (fun d => d.setRg r.val { d.rg r.val with late := (d.rg r.val).late ++ [f] }) :=
      if_neg hstage
    obtain ⟨t, he, hp, ht⟩ := completes_latchedS (s := s) (Q := fun x => x = s.sys.on (fun d =>
        d.setRg r.val { d.rg r.val with late := (d.rg r.val).late ++ [f] })) (fun s => upstream s r.val f)
      (c := .upstreamFrame r f) rfl hq.1 (by rw [hup]; exact hq.2) hup
    refine ⟨t, he, hp, ?_⟩
    rw [ht]
    exact ⟨congrArg RingSt.late (Dev.rg_setRg ..), (KeepsBut.refl [] s.sys.dev).setRg _ _⟩

end Sys2Proof.Machine
end

section
/-! PROOFS about the answers of a channel's stage: its identity, its configuration piece, its events (R74, R98, R103, R105, R108,
R336). -/

namespace Sys2Proof.Machine
open R

/-! ### The device that a step answers -/

/-- A step of phase B answers the device that its function gives, where it is due and no shed follows. -/
theorem exec_judged {c : Instr} {s : State} {due : Dev → Bool} {f : Dev → Dev} (he : exec c s = sysRow (judged due f) s) (hj : s.judging)
    (hd : due s.atCommands.dev = true) (hsh : (f s.atCommands.dev).bs.shedReq = 0) :
    ∃ t : State, exec c s = .next t ∧ t.pending = s.pending ∧ t.sys.dev = f s.atCommands.dev :=
  completes_judged (Q := fun x => x.dev = f s.atCommands.dev) due f he hj hd hsh rfl

/-- An answer that a channel's step takes leaves, beside the device `e` of its function, what the relay round leaves. -/
theorem exec_chanAnswer {i : Instr} {s : State} {c : Nat} {has : Dev → Bool} {f : Dev → Dev}
    (he : exec i s = sysRow (takesS has (fun s => chanAnswer s c (f s.dev))) s) (hq : s.sys.dev.quiet) (hd : has s.sys.dev = true)
    (hsh : (f s.sys.dev).bs.shedReq = s.sys.dev.bs.shedReq) :
    ∃ t : State, exec i s = .next t ∧ t.pending = s.pending ∧ t.sys.dev.answerView = (f s.sys.dev).answerView := by
  have hview : (chanAnswer s.sys c (f s.sys.dev)).dev.answerView = (f s.sys.dev).answerView := relayService_answerView _ _
  refine completes_latchedS (Q := fun x => x.dev.answerView = (f s.sys.dev).answerView) _ he hq.1 ?_ ?_
  · simp only [hd, if_true]
    exact (Dev.frameView_shed (Dev.answerView_frame hview)).trans (hsh.trans hq.2)
  · simp only [hd, if_true]
    exact hview

/-! ### A channel that does not report (R74, R105) -/

/-- A condition reads as it was set last. -/
theorem setCond_fl (d : Dev) {r : Reg} (hw : r.w = 1) (hr : r.id ≠ CD_ENT_HEALTH.id) (c : Nat) (b : Bool) :
    (setCond d r c b).fl r c = b := by
  unfold setCond
  split
  case isTrue h => exact h
  case isFalse =>
    rw [Dev.fl, (healthEval_writesHealth _ c).1 _ _ (by simpa using hr)]
    exact Dev.fl_wrB d r c b hw

@[simp] theorem setCond_bs (d : Dev) (r : Reg) (c : Nat) (b : Bool) : (setCond d r c b).bs = d.bs := by
  unfold setCond
  split
  · rfl
  · exact (healthEval_writesHealth _ c).2

theorem notReporting_norep (d : Dev) (c : Nat) : (notReporting d c).fl CD_ENT_COND_NOREP c = true := by
  unfold notReporting
  rw [Dev.fl, Dev.ringView_rd (judgeAll_ringView _) (by decide)]
  exact setCond_fl d rfl (by decide) c true

theorem notReporting_shed (d : Dev) (c : Nat) : (notReporting d c).bs.shedReq = d.bs.shedReq := by
  unfold notReporting
  rw [Dev.ringView_shed (judgeAll_ringView _), setCond_bs]

/-! ### What quarantine and a match leave (R103, R105, R108) -/

/-- A position that is settled keeps its match and its quarantine. -/
theorem settled_answerView (d : Dev) (c : Nat) : (identSettle (identified d c) c).answerView = d.answerView := by
  have hid : (identified d c).answerView = d.answerView :=
    (setCond_answerView _ (by decide) c _).trans (Dev.setCh_answerView d (by rfl))
  unfold identSettle; dsimp only
  split
  · exact hid
  · exact (Dev.setRg_answerView _ (by rfl)).trans hid

/-- A channel that was not in quarantine goes into it, with its reason. -/
theorem quarantine_fresh {d : Dev} {c : Nat} (h : (d.chn c).quar = false) {reason : Nat} (hr : reason < 16) :
    (quarantine d c reason).rd CD_ENT_QREASON c = reason ∧
    ((quarantine d c reason).chn c).marks = (true, false, (d.chn c).idAns, (d.chn c).cfgAns) := by
  have hview : (quarantine d c reason).answerView = (quarMark d c reason).answerView := healthEval_answerView _ c
  rw [Dev.answerView_reason hview, Dev.answerView_marks hview]
  simp only [quarMark, h, Bool.false_eq_true, if_false]
  constructor
  · rw [Dev.inc, Dev.rd_wr_ne _ _ _ _ (by decide), Dev.rd_wr]
    exact Nat.mod_eq_of_lt hr
  · exact congrArg ChanSt.marks (Dev.chn_setCh ..)

/-- A channel that was not in quarantine matches. -/
theorem matchChan_fresh {d : Dev} {c : Nat} (h : (d.chn c).quar = false) : (matchChan d c).rd CD_ENT_QREASON c = 0 ∧
    ((matchChan d c).chn c).marks = (false, true, (d.chn c).idAns, (d.chn c).cfgAns) ∧
    (matchChan d c).bs.shedReq = d.bs.shedReq := by
  unfold matchChan
  simp only [h, Bool.false_eq_true, false_and, if_false]
  generalize hx : ({ d.chn c with quar := false, matched := true, release := false, reiding := false } : ChanSt) = x
  have hview := healthEval_answerView ((d.setCh c x).wr CD_ENT_QREASON c 0) c
  refine ⟨(Dev.answerView_reason hview c).trans (Dev.rd_wr ..), (Dev.answerView_marks hview c).trans ?_,
    (Dev.frameView_shed (Dev.answerView_frame hview)).trans rfl⟩
  rw [Dev.chn, Dev.wr_ch, ← Dev.chn, Dev.chn_setCh, ← hx]
  rfl

/-! ### The answer to an identity request (R103) -/

/-- The device once a position's answer without a block is taken. -/
def noIdentity (d : Dev) (c : Nat) : Dev :=
  let d := d.setCh c { d.chn c with idAns := 0, idNew := [], idEnum := [] }
  d.setRg (c / 32) { d.rg (c / 32) with idAsk := (d.rg (c / 32)).idAsk.filter (fun p => p != c % 32) }

/-- An expected position that gives no block fails the identity check (R103). -/
theorem identityMatch_fails {d : Dev} {c : Nat} (ha : (d.chn c).idAns = 2) (hrole : roleOf d c ≠ 0) (hsame : (d.chn c).same = false)
    (hwake : (d.rg (c / 32)).wake = false) :
    identityMatch d c = identSettle (identified (quarantine (noIdentity d c) c qIdentFail) c) c := by
  have hcheck : identCheck (noIdentity d c) c false [] = some qIdentFail := by
    have hrole' : roleOf (noIdentity d c) c ≠ 0 := hrole
    simp [identCheck, hrole']
  have hw : ((noIdentity d c).rg (c / 32)).wake = false := by
    unfold noIdentity
    rw [Dev.rg_setRg]
    exact hwake
  unfold identityMatch
  extract_lets r x b e1 e2 z e3 e y
  rw [if_neg (by simp [x, ha])]
  have hb : b = [] := by simp [b, x, ha]
  have he : e3 = noIdentity d c := by simp [e3, z, e2, e1, hb, x, ha, r, noIdentity]
  clear_value e3 b
  subst he hb
  rw [if_neg (by simp [r, hw]), show x.same = false from hsame, hcheck]

theorem noIdentity_marks (d : Dev) (c : Nat) :
    ((noIdentity d c).chn c).marks = ((d.chn c).quar, (d.chn c).matched, 0, (d.chn c).cfgAns) :=
  congrArg ChanSt.marks (Dev.chn_setCh ..)

/-! ### The answer to a configuration piece (R98) -/

/-- The device once the answer to a configuration piece is taken. -/
def pieceTaken (d : Dev) (c : Nat) : Dev := d.setCh c { d.chn c with cfgAns := 0 }

theorem pieceTaken_marks (d : Dev) (c : Nat) : ((pieceTaken d c).chn c).marks = ((d.chn c).quar, (d.chn c).matched, (d.chn c).idAns, 0) :=
  congrArg ChanSt.marks (Dev.chn_setCh ..)

theorem configAck_ok {d : Dev} {c : Nat} (h : (d.chn c).cfgAns = 1) :
    configAck d c = identSettle (identified (matchChan (pieceTaken d c) c) c) c := by
  simp [configAck, pieceTaken, h]

theorem configAck_nak {d : Dev} {c : Nat} (h : (d.chn c).cfgAns = 2) :
    configAck d c = identSettle (identified (quarantine (pieceTaken d c) c qConfigNak) c) c := by
  simp [configAck, pieceTaken, h]

/-! ### Stage events (R336) -/

/-- The oldest event of a ring leaves its list for the recorder. -/
theorem stageEvent_takes {d : Dev} {r p : Nat} {b : List Nat} {es : List (Nat × List Nat)} (h : (d.rg r).evts = (p, b) :: es) :
    ((stageEvent d r).rg r).evts = es ∧ (stageEvent d r).bs = d.bs ∧ KeepsBut recFields d (stageEvent d r) := by
  unfold stageEvent
  rw [h]
  dsimp only
  refine ⟨?_, joinEnt_bs _ _, (((KeepsBut.refl recFields d).setRg r _).freeNext).joinEnt _ fun _ m => m⟩
  rw [Dev.rg, joinEnt_ring]
  exact congrArg RingSt.evts (Dev.rg_setRg d r _)

/-! ### The statement -/

/-- Settles O6, by what each answer does to its channel; what follows it in the tick leaves that. -/
theorem channelDirectoryAnswers : Obligations.ChannelDirectoryAnswers := by
  unfold Obligations.ChannelDirectoryAnswers
  refine ⟨fun s c hj hd => ?norep, fun s c hq ha hrole hsame hquar hwake => ?identity, fun s c hq ha hquar => ?ack,
    fun s c hq ha hquar => ?nak, fun s a c ht hsp hk => ?reident, fun s r p b es hq hev => ?event⟩
  case norep =>
    obtain ⟨t, he, hp, ht⟩ := exec_judged (s := s) (c := .notReporting c) rfl hj hd
      (by rw [notReporting_shed]; exact hj.2.2)
    refine ⟨t, he, hp, ?_⟩
    rw [ht]
    exact notReporting_norep _ _
  case identity =>
    have hmarks := noIdentity_marks s.sys.dev c.val
    have hfree : ((noIdentity s.sys.dev c.val).chn c.val).quar = false := (congrArg Prod.fst hmarks).trans hquar
    obtain ⟨hreason, hstands⟩ := quarantine_fresh hfree (reason := qIdentFail) (by decide)
    have hview : (identityMatch s.sys.dev c.val).answerView = (quarantine (noIdentity s.sys.dev c.val) c.val qIdentFail).answerView := by
      rw [identityMatch_fails ha hrole hsame hwake]
      exact settled_answerView _ _
    have hshed : (identityMatch s.sys.dev c.val).bs.shedReq = s.sys.dev.bs.shedReq :=
      (Dev.frameView_shed (Dev.answerView_frame hview)).trans ((Dev.ringView_shed (quarantine_ringView _ _ _)).trans rfl)
    have hdue : ((s.sys.dev.chn c.val).idAns != 0) = true := by simp [ha]
    obtain ⟨t, he, hp, ht⟩ := exec_chanAnswer (s := s) (i := .identityMatch c)
      (f := fun d => identityMatch d c.val) rfl hq hdue hshed
    have ht' := ht.trans hview
    have hend := (Dev.answerView_marks ht' c.val).trans hstands
    refine ⟨t, he, hp, (Dev.answerView_reason ht' c.val).trans hreason, congrArg Prod.fst hend, ?_⟩
    exact (congrArg (fun m => m.2.2.1) hend).trans (congrArg (fun m => m.2.2.1) hmarks)
  case ack =>
    have hmarks := pieceTaken_marks s.sys.dev c.val
    have hfree : ((pieceTaken s.sys.dev c.val).chn c.val).quar = false := (congrArg Prod.fst hmarks).trans hquar
    obtain ⟨hreason, hstands, hkept⟩ := matchChan_fresh hfree
    have hview : (configAck s.sys.dev c.val).answerView = (matchChan (pieceTaken s.sys.dev c.val) c.val).answerView := by
      rw [configAck_ok ha]
      exact settled_answerView _ _
    have hdue : ((s.sys.dev.chn c.val).cfgAns != 0) = true := by simp [ha]
    obtain ⟨t, he, hp, ht⟩ := exec_chanAnswer (s := s) (i := .configPieceAck c)
      (f := fun d => configAck d c.val) rfl hq hdue
      ((Dev.frameView_shed (Dev.answerView_frame hview)).trans hkept)
    have ht' := ht.trans hview
    have hend := (Dev.answerView_marks ht' c.val).trans hstands
    refine ⟨t, he, hp, congrArg (fun m => m.2.1) hend, (Dev.answerView_reason ht' c.val).trans hreason, ?_⟩
    exact (congrArg (fun m => m.2.2.2) hend).trans (congrArg (fun m => m.2.2.2) hmarks)
  case nak =>
    have hmarks := pieceTaken_marks s.sys.dev c.val
    have hfree : ((pieceTaken s.sys.dev c.val).chn c.val).quar = false := (congrArg Prod.fst hmarks).trans hquar
    obtain ⟨hreason, hstands⟩ := quarantine_fresh hfree (reason := qConfigNak) (by decide)
    have hview : (configAck s.sys.dev c.val).answerView = (quarantine (pieceTaken s.sys.dev c.val) c.val qConfigNak).answerView := by
      rw [configAck_nak ha]
      exact settled_answerView _ _
    have hshed : (configAck s.sys.dev c.val).bs.shedReq = s.sys.dev.bs.shedReq :=
      (Dev.frameView_shed (Dev.answerView_frame hview)).trans ((Dev.ringView_shed (quarantine_ringView _ _ _)).trans rfl)
    have hdue : ((s.sys.dev.chn c.val).cfgAns != 0) = true := by simp [ha]
    obtain ⟨t, he, hp, ht⟩ := exec_chanAnswer (s := s) (i := .configPieceAck c)
      (f := fun d => configAck d c.val) rfl hq hdue hshed
    have ht' := ht.trans hview
    have hend := (Dev.answerView_marks ht' c.val).trans hstands
    exact ⟨t, he, hp, congrArg Prod.fst hend, (Dev.answerView_reason ht' c.val).trans hreason⟩
  case reident =>
    obtain ⟨hl, ⟨-, hq⟩, -⟩ := id ht
    exact completes_wordCmd (Q := fun x => (x.dev.chn c.val).reid = true ∧ KeepsBut [] s.atCommands.dev x.dev)
      a (0x280C + 0x10 * c.val) 0x4000 (fun d => reidentRequest d c.val) rfl ht hsp hk hq.2
      ⟨congrArg ChanSt.reid (Dev.chn_setCh ..), (KeepsBut.refl [] _).handOver.setCh _ _⟩
  case event =>
    obtain ⟨hevts, hbs, hkeep⟩ := stageEvent_takes hev
    obtain ⟨t, he, hp, ht⟩ := exec_takes (s := s) (c := .stageEvent r) rfl hq.1 (by simp [hev]) (by rw [hbs]; exact hq.2)
    refine ⟨t, he, hp, ?_⟩
    rw [ht]
    exact ⟨hevts, hkeep⟩

end Sys2Proof.Machine
end

section
/-! PROOFS about the loop engine's fault action: the statement on following errors and commands, which fails for FE_ACT 1 (R133). -/

namespace Sys2Proof.Machine
open R

/-- A device whose work has come to phase C, with slot 0 enabled and supervised under FE_ACT 1: its following-error count stands
at FE_TIME, and it drives 1.0 within its limits 0 to 1.0 (R132, R133). -/
def drivingDev : Dev :=
  (((((({ tb := { run := true, stage := 2 } } : Dev).wr LS_EN 0 1).wr LS_FE_EN 0 1).wr LS_FE_ACT 0 1).wrS LS_OUT_MAX 0 0x10000).wrS
    LE_OUT 0 0x10000).setSlot 0 { fe := 1 }

/-- The machine with that device. -/
def drivingSlot : State := { sys := { dev := drivingDev } }

/-- The fault action with FE_ACT 1 takes the output to its safe value 0 (R133). -/
theorem loopFollowErr_drivingSlot (t : State) (ht : exec (.loopFollowErr 0) drivingSlot = .next t) : t.sys.dev.rd LE_OUT 0 = 0 := by
  obtain rfl := Host.Outcome.next.inj ht
  decide +kernel

/-- Refutes O7: the frame of its first clause holds every field but LS_FAULT, LE_FEFLAG, LE_EVT.FE and the recorder's, and FE_ACT 1
also writes the output of the slot: LE_OUT goes from 1.0 to 0. -/
theorem not_loopEngineFaultsAndCommands : ¬ Obligations.LoopEngineFaultsAndCommands := by
  unfold Obligations.LoopEngineFaultsAndCommands
  rintro ⟨hfollow, -⟩
  obtain ⟨t, ht, -, -, -, hkeeps⟩ := hfollow drivingSlot 0 (by decide +kernel) (by decide +kernel) (by decide +kernel)
  have hdriven : drivingSlot.atTimers.dev.rd LE_OUT 0 = 0x10000 := by decide +kernel
  have hkept := hkeeps LE_OUT 0 (by decide)
  have hsafe := loopFollowErr_drivingSlot t ht
  exact absurd (hsafe.symm.trans (hkept.trans hdriven)) (by decide)

end Sys2Proof.Machine
end

section
/-! PROOFS about the timers of a rail and its supervision: the fault path out of PREP, the ends of the dwell and of the capacity
throttle, a failed current sense, and the entry of the supervision (R156, R157, R160, R164, R165, R241, R242). -/

namespace Sys2Proof.Machine
open R

/-- A flag reads as its field does. -/
theorem Dev.fl_congr {d e : Dev} {r : Reg} {ix : Nat} (h : e.rd r ix = d.rd r ix) : e.fl r ix = d.fl r ix := congrArg (· != 0) h

/-- A field that is not in the list at any index reads as before. -/
theorem KeepsBut.rd_eq {l : List (Reg × Nat)} {d e : Dev} (h : KeepsBut l d e) {r : Reg} (hr : r.id ∉ l.map fun x => x.1.id)
    (ix : Nat) : e.rd r ix = d.rd r ix :=
  h r ix fun _ hf => Or.inl fun he => hr (he ▸ List.mem_map_of_mem (f := fun x => x.1.id) hf)

/-! ### The fault path of a rail (R156, R157) -/

theorem forL_tfq {β : Type} (l : List β) (f : β → Dev → Dev) (d : Dev) (hf : ∀ b x, (f b x).tfq = x.tfq) :
    (forL l f d).tfq = d.tfq :=
  foldl_keeps Dev.tfq (fun x b => f b x) (fun x b => hf b x) l d

@[simp] theorem joinTrims_tfq (d : Dev) (n old new : Nat) : (joinTrims d n old new).tfq = d.tfq :=
  forL_tfq _ _ _ fun h x => by split <;> rfl

@[simp] theorem setMask_tfq (d : Dev) (n mask : Nat) : (setMask d n mask).tfq = d.tfq := by
  unfold setMask; dsimp only
  split
  · rfl
  · simp

/-- A stop of a rail raises no target fault. -/
@[simp] theorem railStop_tfq (d : Dev) (n : Nat) : (railStop d n).tfq = d.tfq := by
  unfold railStop
  extract_lets a b c e
  have hqueues : e.tfq = c.tfq := forL_tfq _ _ _ fun _ _ => rfl
  rw [Dev.setRail_tfq, hqueues]
  simp [c, b, a]

/-- A rail that is not OFF stops, shows the fault, and hands it to the sequencer. -/
theorem railFault_running {d : Dev} {n : Nat} (h : railState d n ≠ vrOff) :
    (railFault d n).rd VR_STATUS_STATE n = vrOff ∧ (railFault d n).fl VR_STATUS_FLT n = true ∧
    (railFault d n).fl VR_EVT_FAULT n = true ∧ (railFault d n).tfq = d.tfq ++ [(1, n, 2)] := by
  have heq : railFault d n = ((((railStop d n).wr VR_STATUS_FLT n 1).ev VR_EVT_FAULT n).recd 0x0500 2 n []).tfault 1 n 2 := by
    unfold railFault
    rw [if_neg h]
  rw [heq]
  refine ⟨?state, ?flag, ?event, ?queue⟩
  case state =>
    refine Eq.trans ?_ (railStop_state d n)
    simp (disch := decide) [railState, Dev.rd_recd, Dev.rd_ev_ne, Dev.rd_wr_ne]
  case flag =>
    rw [Dev.tfault_fl, Dev.fl, Dev.rd_recd _ _ _ _ _ _ _ (by decide), Dev.rd_ev_ne _ _ _ (by decide), Dev.rd_wr]
    rfl
  case event =>
    rw [Dev.tfault_fl]
    exact (Dev.fl_congr (Dev.rd_recd _ _ _ _ _ _ _ (by decide))).trans (Dev.fl_ev _ _ n rfl)
  case queue => simp [Dev.tfault]

theorem prepDue_state {d : Dev} {n : Nat} (h : prepDue d n = true) : railState d n = vrPrep := by
  simp only [prepDue, Bool.and_eq_true, beq_iff_eq] at h
  exact h.1

/-- At the end of PREP without a report of the lead, the rail takes the fault path. -/
theorem prepTimeout_leadOut {d : Dev} {n c : Nat} {cs : List Nat} (hcs : railChans d n = c :: cs) (hout : inService d c = false) :
    ∃ x : RailSt, prepTimeout d n = railFault (showUsable (d.setRail n x) n) n := by
  unfold prepTimeout
  dsimp only
  rw [if_pos (Or.inl (by simp [hcs, hout]))]
  exact ⟨_, rfl⟩

/-- The usable set does not show in the rail's state. -/
theorem showUsable_state (d : Dev) (n : Nat) : railState (showUsable d n) n = railState d n := by
  unfold railState showUsable
  dsimp only
  rw [Dev.rd_wr_ne _ _ _ _ (by decide), Dev.rd_wr_ne _ _ _ _ (by decide)]

@[simp] theorem showUsable_tfq (d : Dev) (n : Nat) : (showUsable d n).tfq = d.tfq := by
  unfold showUsable
  simp

/-! ### The end of the dwell (R160, R162) -/

theorem dwellEnd_flags (d : Dev) (n : Nat) :
    (dwellEnd d n).fl VR_STATUS_DWELL n = false ∧ (dwellEnd d n).fl VR_STATUS_IDPAUSE n = false := by
  unfold dwellEnd
  constructor
  · rw [Dev.fl_wr_ne _ _ _ _ (by decide)]
    exact Dev.fl_wrB d VR_STATUS_DWELL n false rfl
  · exact Dev.fl_wrB (d.wr VR_STATUS_DWELL n 0) VR_STATUS_IDPAUSE n false rfl

theorem dwellEnd_keeps (d : Dev) (n : Nat) : KeepsBut [(VR_STATUS_DWELL, n), (VR_STATUS_IDPAUSE, n)] d (dwellEnd d n) :=
  ((KeepsBut.refl _ d).wr VR_STATUS_DWELL n 0 (by simp)).wr VR_STATUS_IDPAUSE n 0 (by simp)

/-! ### The end of the capacity throttle (R164), and the throttle outputs (R247 to R249) -/

theorem capacityEnd_thr (d : Dev) (n : Nat) : (capacityEnd d n).fl VR_STATUS_THR n = false :=
  Dev.fl_wrB d VR_STATUS_THR n false rfl

theorem capacityEnd_capLow (d : Dev) (n : Nat) : ((capacityEnd d n).rail n).capLow = 0 := by
  unfold capacityEnd
  rw [Dev.rail_setRail]

theorem capacityEnd_keepsBut {l : List (Reg × Nat)} {a b : Dev} (h : KeepsBut l a b) (n : Nat) (m : (VR_STATUS_THR, n) ∈ l) :
    KeepsBut l a (capacityEnd b n) := (h.wr VR_STATUS_THR n 0 m).setRail n _

/-- The throttle outputs follow their sources in the governor's status alone. -/
theorem throtUpdate_keepsBut {l : List (Reg × Nat)} {a b : Dev} (h : KeepsBut l a b)
    (m : ∀ x ∈ [(CP_STATUS_THR, 0), (CP_ASSERT_BUS, 0), (CP_ASSERT_RAILCAP, 0), (CP_ASSERT_FORCE, 0)], x ∈ l) :
    KeepsBut l a (throtUpdate b) :=
  (((KeepsBut.wr (h.of_regs rfl) CP_STATUS_THR 0 _ (m _ (by simp))).wrB CP_ASSERT_BUS 0 _ (m _ (by simp))).wrB
    CP_ASSERT_RAILCAP 0 _ (m _ (by simp))).wrB CP_ASSERT_FORCE 0 _ (m _ (by simp))

@[simp] theorem throtUpdate_rail (d : Dev) (n : Nat) : (throtUpdate d).rail n = d.rail n := rfl

/-- They leave the throttle of a rail. -/
theorem throtUpdate_thr (d : Dev) (n : Nat) : (throtUpdate d).fl VR_STATUS_THR n = d.fl VR_STATUS_THR n := by
  have hkeep := throtUpdate_keepsBut (KeepsBut.refl _ d) (fun _ m => m)
  exact Dev.fl_congr (hkeep.rd_eq (by decide) n)

/-! ### A failed current sense (R165) -/

@[simp] theorem Dev.phs_setPhs (d : Dev) (n h : Nat) (x : PhSt) : (d.setPhs n h x).phs n h = x := Tbl.get_set_same ..

@[simp] theorem healthEval_ph (d : Dev) (c : Nat) : (healthEval d c).ph = d.ph := by
  unfold healthEval; dsimp only; split <;> rfl

@[simp] theorem setCond_ph (d : Dev) (r : Reg) (c : Nat) (b : Bool) : (setCond d r c b).ph = d.ph := by
  unfold setCond
  split
  · rfl
  · exact healthEval_ph _ c

theorem KeepsBut.setCond {l : List (Reg × Nat)} {a b : Dev} (h : KeepsBut l a b) (r : Reg) (c : Nat) (v : Bool)
    (m : (r, c) ∈ l) (m' : (CD_ENT_HEALTH, c) ∈ l) : KeepsBut l a (setCond b r c v) := by
  unfold Sys2Proof.Machine.setCond healthEval
  dsimp only
  split
  · exact h
  · split
    · exact h.wrB r c v m
    · exact ((h.wrB r c v m).wr CD_ENT_HEALTH c _ m').setCh _ _

/-- The phase with its sense marked failed and its trim frozen. -/
def senseMarked (d : Dev) (n h : Nat) : Dev :=
  let d := d.setPhs n h { d.phs n h with failed := true }
  d.setPhs n h { d.phs n h with trim := meanTrim d n }

/-- The failed sense is shown, counted and recorded. -/
def senseCounted (d : Dev) (n h : Nat) : Dev :=
  let c := railLead d n + h
  let d := setCond (senseMarked d n h) CD_ENT_COND_DEGR c true
  ((d.ev VR_EVT_SENSE n).inc VR_FCNT_SENSE n).recAt (d.chn c).smp.pm 0x0502 1 c []

/-- RAIL_DERATE at the second failed sense. -/
def railDerate (d : Dev) (n c : Nat) : Dev :=
  if 2 ≤ d.rd VR_FCNT_SENSE n ∧ !d.fl VR_STATUS_DERATED n then
    ((d.wr VR_STATUS_DERATED n 1).ev VR_EVT_DERATE n).recAt (d.chn c).smp.pm 0x0504 2 n []
  else d

/-- A failed sense is marked and counted; then the rail may be derated. -/
theorem senseFail_eq (d : Dev) (n h : Nat) : senseFail d n h = railDerate (senseCounted d n h) n (railLead d n + h) := by
  unfold senseFail railDerate senseCounted senseMarked
  rfl

/-- The derating leaves every phase and the shelf. -/
theorem railDerate_parts (d : Dev) (n c : Nat) : (railDerate d n c).ph = d.ph ∧ (railDerate d n c).bs = d.bs := by
  unfold railDerate
  split <;> simp

theorem railDerate_keepsBut {l : List (Reg × Nat)} {a b : Dev} (h : KeepsBut l a b) (n c : Nat) (m : (VR_STATUS_DERATED, n) ∈ l)
    (m' : (VR_EVT_DERATE, n) ∈ l) (mrec : ∀ x ∈ recFields, x ∈ l) : KeepsBut l a (railDerate b n c) := by
  unfold railDerate
  split
  · exact ((h.wr VR_STATUS_DERATED n 1 m).ev VR_EVT_DERATE n m').recAt _ _ _ _ _ mrec
  · exact h

/-- The fields that the derating of a rail writes. -/
def derateIds : List Nat := [VR_STATUS_DERATED.id, VR_EVT_DERATE.id] ++ recIds

/-- The derating leaves every other field. -/
theorem railDerate_rd (d : Dev) (n c : Nat) {r : Reg} (hr : r.id ∉ derateIds) (ix : Nat) :
    (railDerate d n c).rd r ix = d.rd r ix := by
  simp only [derateIds, List.mem_append, List.mem_cons, List.not_mem_nil, or_false, not_or] at hr
  obtain ⟨⟨hstatus, hevent⟩, hrec⟩ := hr
  unfold railDerate
  split
  · rw [Dev.rd_recAt _ _ _ _ _ _ _ _ hrec, Dev.rd_ev_ne _ _ _ hevent, Dev.rd_wr_ne _ _ _ _ hstatus]
  · rfl

theorem senseMarked_failed (d : Dev) (n h : Nat) : ((senseMarked d n h).phs n h).failed = true := by simp [senseMarked]

theorem senseCounted_parts (d : Dev) (n h : Nat) :
    (senseCounted d n h).ph = (senseMarked d n h).ph ∧ (senseCounted d n h).bs = d.bs := by
  have hmarked : (senseMarked d n h).bs = d.bs := rfl
  simp [senseCounted, hmarked]

theorem senseCounted_count (d : Dev) (n h : Nat) :
    (senseCounted d n h).rd VR_FCNT_SENSE n = incSat VR_FCNT_SENSE.w (d.rd VR_FCNT_SENSE n) % 2 ^ VR_FCNT_SENSE.w := by
  have hcond := KeepsBut.setCond (KeepsBut.refl [(CD_ENT_COND_DEGR, railLead d n + h), (CD_ENT_HEALTH, railLead d n + h)]
    (senseMarked d n h)) CD_ENT_COND_DEGR (railLead d n + h) true (by simp) (by simp)
  unfold senseCounted
  dsimp only
  rw [Dev.rd_recAt _ _ _ _ _ _ _ _ (by decide), Dev.inc, Dev.rd_wr, Dev.rd_ev_ne _ _ _ (by decide),
    hcond.rd_eq (by simp only [List.map]; decide)]
  rfl

theorem senseCounted_event (d : Dev) (n h : Nat) : (senseCounted d n h).fl VR_EVT_SENSE n = true := by
  unfold senseCounted
  refine (Dev.fl_congr (Dev.rd_recAt _ _ _ _ _ _ _ _ (by decide))).trans ?_
  exact (Dev.fl_wr_ne _ _ _ _ (by decide)).trans (Dev.fl_ev _ _ n rfl)

theorem senseCounted_degr (d : Dev) (n h : Nat) : (senseCounted d n h).fl CD_ENT_COND_DEGR (railLead d n + h) = true := by
  unfold senseCounted
  refine (Dev.fl_congr (Dev.rd_recAt _ _ _ _ _ _ _ _ (by decide))).trans ?_
  refine (Dev.fl_wr_ne _ _ _ _ (by decide)).trans ?_
  exact (Dev.fl_congr (Dev.rd_ev_ne _ _ _ (by decide))).trans (setCond_fl _ rfl (by decide) _ true)

/-- What a failed sense shows: the mark of its phase, the rail's event and count, and the channel's condition. -/
theorem senseFail_shows (d : Dev) (n h : Nat) : ((senseFail d n h).phs n h).failed = true ∧
    (senseFail d n h).fl VR_EVT_SENSE n = true ∧
    (senseFail d n h).rd VR_FCNT_SENSE n = incSat VR_FCNT_SENSE.w (d.rd VR_FCNT_SENSE n) % 2 ^ VR_FCNT_SENSE.w ∧
    (senseFail d n h).fl CD_ENT_COND_DEGR (railLead d n + h) = true := by
  rw [senseFail_eq]
  refine ⟨?phase, ?event, ?count, ?condition⟩
  case phase =>
    rw [Dev.phs, (railDerate_parts _ _ _).1, (senseCounted_parts d n h).1]
    exact senseMarked_failed d n h
  case event => rw [Dev.fl_congr (railDerate_rd _ _ _ (by decide) _), senseCounted_event]
  case count => rw [railDerate_rd _ _ _ (by decide), senseCounted_count]
  case condition => rw [Dev.fl_congr (railDerate_rd _ _ _ (by decide) _), senseCounted_degr]

theorem senseFail_bs (d : Dev) (n h : Nat) : (senseFail d n h).bs = d.bs := by
  rw [senseFail_eq, (railDerate_parts _ _ _).2, (senseCounted_parts d n h).2]

/-- The fields of a failed sense: the phase's condition and health, the rail's event, count and derating, and the recorder's. -/
def senseFields (d : Dev) (n h : Nat) : List (Reg × Nat) :=
  [(CD_ENT_COND_DEGR, railLead d n + h), (CD_ENT_HEALTH, railLead d n + h), (VR_EVT_SENSE, n), (VR_FCNT_SENSE, n),
    (VR_STATUS_DERATED, n), (VR_EVT_DERATE, n)] ++ recFields

theorem senseFail_keeps (d : Dev) (n h : Nat) : KeepsBut (senseFields d n h) d (senseFail d n h) := by
  have hrec : ∀ x ∈ recFields, x ∈ senseFields d n h := fun x m => List.mem_append_right _ m
  have hmarked : KeepsBut (senseFields d n h) d (senseMarked d n h) := ((KeepsBut.refl _ d).setPhs _ _ _).setPhs _ _ _
  have hcounted : KeepsBut (senseFields d n h) d (senseCounted d n h) :=
    (((hmarked.setCond CD_ENT_COND_DEGR _ true (by simp [senseFields]) (by simp [senseFields])).ev VR_EVT_SENSE n
      (by simp [senseFields])).inc VR_FCNT_SENSE n (by simp [senseFields])).recAt _ _ _ _ _ hrec
  exact railDerate_keepsBut hcounted n _ (by simp [senseFields]) (by simp [senseFields]) hrec

/-! ### The entry of the supervision (R241, R242) -/

/-- The count of a rail's supervision entries, over its limit or under it. -/
def supReg (ov : Bool) : Reg := if ov then SQ_RAIL_OV else SQ_RAIL_UV

/-- The ACT bit of the limit: an entry is a target fault of its rail besides. -/
def supActReg (ov : Bool) : Reg := if ov then SQ_RAIL_SOV_F else SQ_RAIL_SUV_F

/-- An entry is marked as made. -/
def supMarked (d : Dev) (n : Nat) (ov : Bool) : Dev :=
  let k := n * 2 + ov.toNat
  let x := ((Tbl.get (0, false) d.seq.sup k).1, true)
  { d with seq := { d.seq with sup := Tbl.set (0, false) d.seq.sup k x } }

/-- It is marked, counted, shown and recorded. -/
def supEntered (d : Dev) (n : Nat) (ov : Bool) : Dev :=
  ((railCnt (supMarked d n ov) (supReg ov) n (if ov then 2 else 1)).ev SQ_EVT_SUPV).recd (if ov then 0x0909 else 0x0908) 2 n []

/-- Where its ACT says so, an entry is a target fault besides. -/
theorem supEntry_eq (d : Dev) (n : Nat) (ov : Bool) : supEntry d n ov =
    if (supEntered d n ov).fl (supActReg ov) n then (supEntered d n ov).tfault 1 n 4 else supEntered d n ov := by
  cases ov <;> rfl

/-- A count of one of the first two kinds changes, and a bit of SQ_SAT where it saturates. -/
theorem railCnt_keepsBut {l : List (Reg × Nat)} {a b : Dev} (h : KeepsBut l a b) (r : Reg) (n : Nat) {k : Nat} (hk : k < 4)
    (m : (r, n) ∈ l) (m0 : (SQ_SAT_0, 0) ∈ l) (m1 : (SQ_SAT_1, 0) ∈ l) : KeepsBut l a (railCnt b r n k) := by
  have hinc := h.inc r n m
  unfold railCnt
  dsimp only
  split
  · split
    · exact hinc.wrBit SQ_SAT_0 0 _ true m0
    · exact hinc.wrBit SQ_SAT_1 0 _ true m1
    next hne0 hne1 => exact (show k / 2 = 0 ∨ k / 2 = 1 by omega).elim (absurd · hne0) (absurd · hne1)
  · exact hinc

theorem railCnt_count (d : Dev) {r : Reg} (hr : r.id ∉ [SQ_SAT_0.id, SQ_SAT_1.id, SQ_SAT_2.id]) (n k : Nat) :
    (railCnt d r n k).rd r n = incSat r.w (d.rd r n) := by
  simp only [List.mem_cons, List.not_mem_nil, or_false, not_or] at hr
  obtain ⟨h0, h1, h2⟩ := hr
  have hinc : (d.inc r n).rd r n = incSat r.w (d.rd r n) := (Dev.rd_wr ..).trans (incSat_mod _ _)
  refine Eq.trans ?_ hinc
  unfold railCnt
  dsimp only
  split
  · split
    · exact Dev.rd_wr_ne _ _ _ _ h0
    · exact Dev.rd_wr_ne _ _ _ _ h1
    · exact Dev.rd_wr_ne _ _ _ _ h2
  · rfl

/-- A count leaves the sequencer, the shelf and the target faults. -/
theorem railCnt_parts (d : Dev) (r : Reg) (n k : Nat) :
    (railCnt d r n k).seq = d.seq ∧ (railCnt d r n k).bs = d.bs ∧ (railCnt d r n k).tfq = d.tfq := by
  unfold railCnt
  dsimp only
  split <;> exact ⟨rfl, rfl, rfl⟩

/-- The fields of an entry: its event, the rail's counts with their saturation, and the recorder's. -/
def supFields (n : Nat) : List (Reg × Nat) :=
  [(SQ_EVT_SUPV, 0), (SQ_RAIL_OV, n), (SQ_RAIL_UV, n), (SQ_SAT_0, 0), (SQ_SAT_1, 0)] ++ recFields

theorem supEntered_keeps (d : Dev) (n : Nat) (ov : Bool) : KeepsBut (supFields n) d (supEntered d n ov) := by
  have hreg : (supReg ov, n) ∈ supFields n := by cases ov <;> simp [supReg, supFields]
  have hmarked : KeepsBut (supFields n) d (supMarked d n ov) := KeepsBut.refl _ d
  exact ((railCnt_keepsBut hmarked _ n (by split <;> decide) hreg (by simp [supFields])
    (by simp [supFields])).ev SQ_EVT_SUPV 0 (by simp [supFields])).recd _ _ _ _ fun x m => List.mem_append_right _ m

theorem supEntered_event (d : Dev) (n : Nat) (ov : Bool) : (supEntered d n ov).fl SQ_EVT_SUPV = true :=
  (Dev.fl_congr (Dev.rd_recd _ _ _ _ _ _ _ (by decide))).trans (Dev.fl_ev _ _ 0 rfl)

theorem supEntered_count (d : Dev) (n : Nat) (ov : Bool) :
    (supEntered d n ov).rd (supReg ov) n = incSat 16 (d.rd (supReg ov) n) := by
  have hrec : (supReg ov).id ∉ recIds := by cases ov <;> decide
  have hev : (supReg ov).id ≠ SQ_EVT_SUPV.id := by cases ov <;> decide
  have hsat : (supReg ov).id ∉ [SQ_SAT_0.id, SQ_SAT_1.id, SQ_SAT_2.id] := by cases ov <;> decide
  have hw : (supReg ov).w = 16 := by cases ov <;> rfl
  unfold supEntered
  rw [Dev.rd_recd _ _ _ _ _ _ _ hrec, Dev.rd_ev_ne _ _ _ hev, railCnt_count _ hsat, hw]
  rfl

theorem supEntered_parts (d : Dev) (n : Nat) (ov : Bool) : (supEntered d n ov).bs = d.bs ∧ (supEntered d n ov).tfq = d.tfq ∧
    Tbl.get (0, false) (supEntered d n ov).seq.sup (n * 2 + ov.toNat) =
      ((Tbl.get (0, false) d.seq.sup (n * 2 + ov.toNat)).1, true) := by
  simp [supEntered, railCnt_parts, supMarked]

/-- A target fault of the entry leaves the registers, the shelf and the supervision. -/
theorem supEntry_parts (d : Dev) (n : Nat) (ov : Bool) : (supEntry d n ov).regs = (supEntered d n ov).regs ∧
    (supEntry d n ov).bs = (supEntered d n ov).bs ∧ (supEntry d n ov).seq = (supEntered d n ov).seq := by
  rw [supEntry_eq]
  split <;> exact ⟨rfl, rfl, rfl⟩

/-- An entry is not repeated until the value returns. -/
theorem supEntry_once (d : Dev) (n : Nat) (ov : Bool) : supDue (supEntry d n ov) n ov = false := by
  obtain ⟨-, -, hsup⟩ := supEntered_parts d n ov
  obtain ⟨-, -, hseq⟩ := supEntry_parts d n ov
  simp [supDue, hseq, hsup]

/-- An entry shows its event and its count. -/
theorem supEntry_shows (d : Dev) (n : Nat) (ov : Bool) : (supEntry d n ov).fl SQ_EVT_SUPV = true ∧
    (supEntry d n ov).rd (supReg ov) n = incSat 16 (d.rd (supReg ov) n) := by
  obtain ⟨hregs, -, -⟩ := supEntry_parts d n ov
  have hrd := fun r ix => Dev.rd_congr (supEntry d n ov) (supEntered d n ov) hregs r ix
  exact ⟨(Dev.fl_congr (hrd SQ_EVT_SUPV 0)).trans (supEntered_event d n ov), (hrd _ n).trans (supEntered_count d n ov)⟩

theorem supEntry_keeps (d : Dev) (n : Nat) (ov : Bool) : KeepsBut (supFields n) d (supEntry d n ov) :=
  (supEntered_keeps d n ov).of_regs (supEntry_parts d n ov).1

theorem supEntry_bs (d : Dev) (n : Nat) (ov : Bool) : (supEntry d n ov).bs = d.bs := by
  rw [(supEntry_parts d n ov).2.1, (supEntered_parts d n ov).1]

/-- An entry is a target fault of its rail where the ACT of its limit says so. -/
theorem supEntry_tfq (d : Dev) (n : Nat) (ov : Bool) : (supEntry d n ov).tfq =
    d.tfq ++ (if d.fl (supActReg ov) n then [(1, n, 4)] else []) := by
  obtain ⟨-, htfq, -⟩ := supEntered_parts d n ov
  have hact : (supEntered d n ov).fl (supActReg ov) n = d.fl (supActReg ov) n := by
    refine Dev.fl_congr ((supEntered_keeps d n ov).rd_eq ?_ n)
    simp only [supFields, recFields, List.cons_append, List.nil_append, List.map]
    cases ov <;> decide
  rw [supEntry_eq, hact]
  cases d.fl (supActReg ov) n <;> simp [Dev.tfault, htfq]

/-! ### The statement -/

/-- Settles O8, by what each expiry leaves of the device that meets its timer. -/
theorem railTimersAndSupervisionAct : Obligations.RailTimersAndSupervisionAct := by
  unfold Obligations.RailTimersAndSupervisionAct
  refine ⟨fun s n c cs hx hd hcs hout => ?prep, fun s n hx hdwell hover => ?dwell, fun s n hx hd => ?capacity,
    fun s n h hx hd => ?sense, fun s n ov hx hd => ?supervision⟩
  case prep =>
    obtain ⟨x, hfault⟩ := prepTimeout_leadOut hcs hout
    have hshed : (prepTimeout s.atTimers.dev n.val).bs.shedReq = 0 := by
      rw [hfault, Dev.ringView_shed (railFault_ringView _ _), Dev.ringView_shed (showUsable_ringView _ _)]
      exact hx.2.2
    have hrun : railState (showUsable (s.atTimers.dev.setRail n.val x) n.val) n.val ≠ vrOff := by
      have hprep : railState s.atTimers.dev n.val = vrPrep := prepDue_state hd
      rw [showUsable_state]
      exact ne_of_eq_of_ne hprep (by decide)
    obtain ⟨hstate, hflag, hevent, hqueue⟩ := railFault_running hrun
    obtain ⟨t, he, hp, ht⟩ := exec_timed (s := s) (c := .prepTimeout n) rfl hx hd hshed
    rw [hfault] at ht
    exact ⟨t, he, hp, by rw [ht, hstate], by rw [ht, hflag], by rw [ht, hevent], by rw [ht, hqueue, showUsable_tfq, Dev.setRail_tfq]⟩
  case dwell =>
    have hshed : (dwellEnd s.atTimers.dev n.val).bs.shedReq = 0 := hx.2.2
    obtain ⟨hended, hresumed⟩ := dwellEnd_flags s.atTimers.dev n.val
    obtain ⟨t, he, hp, ht⟩ := exec_timed (s := s) (c := .dwellEnd n) rfl hx (by simp [hdwell, hover]) hshed
    refine ⟨t, he, hp, ?_⟩
    rw [ht]
    exact ⟨hended, hresumed, dwellEnd_keeps _ _⟩
  case capacity =>
    have hshed : (throtUpdate (capacityEnd s.atTimers.dev n.val)).bs.shedReq = 0 := hx.2.2
    obtain ⟨t, he, hp, ht⟩ := exec_timed (s := s) (c := .capacityEnd n) rfl hx hd hshed
    refine ⟨t, he, hp, ?_⟩
    rw [ht]
    refine ⟨(throtUpdate_thr _ _).trans (capacityEnd_thr _ _), ?_, ?_⟩
    · rw [throtUpdate_rail, capacityEnd_capLow]
    · exact throtUpdate_keepsBut (capacityEnd_keepsBut (KeepsBut.refl _ _) n.val (by simp)) (by simp)
  case sense =>
    have hshed : (senseFail s.atTimers.dev n.val h.val).bs.shedReq = 0 := by
      rw [senseFail_bs]
      exact hx.2.2
    obtain ⟨hphase, hevent, hcount, hcondition⟩ := senseFail_shows s.atTimers.dev n.val h.val
    obtain ⟨t, he, hp, ht⟩ := exec_timed (s := s) (c := .phaseSenseFail n h) rfl hx hd hshed
    refine ⟨t, he, hp, ?_⟩
    rw [ht]
    exact ⟨hphase, hevent, hcount, hcondition, senseFail_keeps _ _ _⟩
  case supervision =>
    have hshed : (supEntry s.atTimers.dev n.val ov).bs.shedReq = 0 := by
      rw [supEntry_bs]
      exact hx.2.2
    obtain ⟨hevent, hcount⟩ := supEntry_shows s.atTimers.dev n.val ov
    obtain ⟨t, he, hp, ht⟩ := exec_timed (s := s) (c := .supervisionEntry n ov) rfl hx hd hshed
    refine ⟨t, he, hp, ?_⟩
    rw [ht]
    exact ⟨hevent, hcount, supEntry_once _ _ _, supEntry_keeps _ _ _, supEntry_tfq _ _ _⟩

end Sys2Proof.Machine
end

section
/-! PROOFS about the feeders: what holding a loop, removing a feeder and returning one write, and the statement on feeders that
leave and return (R174 to R179). -/

namespace Sys2Proof.Machine
open R

/-! ### Footprints -/

section
variable {ids : List Nat} {d e : Dev}

theorem WritesOnly.setFm (h : WritesOnly ids d e) (i : Nat) (x : FeederSt) : WritesOnly ids d (e.setFm i x) := h.of_regs rfl rfl

theorem WritesOnly.setSlot (h : WritesOnly ids d e) (s : Nat) (x : SlotSt) : WritesOnly ids d (e.setSlot s x) := h.of_regs rfl rfl

/-- A record writes the recorder's fields alone. -/
theorem WritesOnly.recAt (h : WritesOnly ids d e) (hsub : recIds ⊆ ids) (pm code cls src : Nat) (pay : List Nat) :
    WritesOnly ids d (e.recAt pm code cls src pay) :=
  ⟨fun r ix m => (Dev.rd_recAt e pm code cls src pay r ix fun hr => m (hsub hr)).trans (h.1 r ix m),
    (Dev.recAt_bs ..).trans h.2⟩

end

/-! ### Loop slots (R131, R174) -/

/-- The fields that a function's hold on a loop slot writes. -/
def holdIds : List Nat := [LE_SCARF_FORCED.id, LE_SCARF_MAN_OUT.id]

theorem slotForce_writes (d : Dev) (s : Nat) (f : Option Bool) : WritesOnly holdIds d (slotForce d s f) := by
  unfold slotForce; dsimp only
  split
  · exact ((WritesOnly.refl holdIds d).setSlot _ _).wr (by decide) _ _
  · exact (WritesOnly.refl holdIds d).setSlot _ _

theorem startInMan_writes (d : Dev) (s : Nat) (man : Bool) : WritesOnly holdIds d (startInMan d s man) := by
  unfold startInMan
  split
  · split
    · exact ((WritesOnly.refl holdIds d).setSlot _ _).wr (by decide) _ _
    · exact .refl holdIds d
  · exact .refl holdIds d

theorem slotHold_writes (d : Dev) (s b : Nat) (on : Bool) : WritesOnly holdIds d (slotHold d s b on) := by
  unfold slotHold
  extract_lets h y x man
  have hx : WritesOnly holdIds d x := (WritesOnly.refl holdIds d).of_regs rfl rfl
  exact (hx.trans (slotForce_writes x s _)).trans (startInMan_writes _ s man)

@[simp] theorem slotHold_tfq (d : Dev) (s b : Nat) (on : Bool) : (slotHold d s b on).tfq = d.tfq := by
  have hforce : ∀ (x : Dev) (f : Option Bool), (slotForce x s f).tfq = x.tfq := fun x f => by
    unfold slotForce; dsimp only
    split <;> rfl
  have hstart : ∀ (x : Dev) (man : Bool), (startInMan x s man).tfq = x.tfq := fun x man => by
    unfold startInMan
    split
    · split <;> rfl
    · rfl
  unfold slotHold
  rw [hstart, hforce]

/-- Clearing a slot's fault action by its owner waits for the boundary: no field changes. -/
theorem feclrOwn_parts (d : Dev) (s : Nat) : (feclrOwn d s).regs = d.regs ∧ (feclrOwn d s).bs = d.bs := by
  unfold feclrOwn
  split <;> exact ⟨rfl, rfl⟩

/-! ### RUN (R178) -/

theorem issueRun_parts (d : Dev) (c : Nat) :
    (issueRun d c).regs = d.regs ∧ (issueRun d c).bs = d.bs ∧ (issueRun d c).tfq = d.tfq := by
  unfold issueRun issue; dsimp only
  split <;> exact ⟨rfl, rfl, rfl⟩

/-- RUN for a feeder joins its channel's list: no field changes. -/
theorem feederRun_parts (d : Dev) (i : Nat) :
    (feederRun d i).regs = d.regs ∧ (feederRun d i).bs = d.bs ∧ (feederRun d i).tfq = d.tfq := by
  unfold feederRun
  split
  · exact ⟨rfl, rfl, rfl⟩
  · dsimp only
    split
    · split
      · exact ⟨rfl, rfl, rfl⟩
      · exact issueRun_parts _ _
    · split <;> exact ⟨rfl, rfl, rfl⟩

/-- RUN joins the list of a channel that is not in quarantine. -/
theorem issueRun_queue {d : Dev} {c : Nat} (h : (d.chn c).quar = false) :
    ((issueRun d c).chn c).q = (d.chn c).q ++ [{ opc := 1 }] := by
  have hissue : issueRun d c = d.setCh c { d.chn c with q := (d.chn c).q ++ [{ opc := 1, arg := 0 }] } := by
    simp [issueRun, issue, h]
  rw [hissue, Dev.chn_setCh]

/-- RUN for a feeder is sent again to its channel. -/
theorem feederRunResend_eq {d : Dev} {i c : Nat} (hc : fmChan d i = some c) :
    feederRunResend d i = issueRun (d.setFm i { d.fm i with runAt := some d.cur }) c := by
  simp [feederRunResend, hc]

/-! ### The sharing feeders (R174, R175) -/

/-- The fields that follow the number of sharing feeders. -/
def nofeedIds : List Nat := [FD_STATUS_NSHARE.id, FD_STATUS_NOFEED.id, FD_EVT_NOFEED.id] ++ recIds

theorem busNofeed_writes (d : Dev) : WritesOnly nofeedIds d (busNofeed d) := by
  have hshare : WritesOnly nofeedIds d (d.wr FD_STATUS_NSHARE 0 (sharers d).length) :=
    (WritesOnly.refl nofeedIds d).wr (by decide) _ _
  unfold busNofeed; dsimp only
  split
  · exact hshare.wr (by decide) _ _
  · split
    · exact hshare
    · exact ((hshare.wr (by decide) _ _).ev (by decide) _).recAt (by decide) _ _ _ _ _

@[simp] theorem busNofeed_tfq (d : Dev) : (busNofeed d).tfq = d.tfq := by
  unfold busNofeed; dsimp only
  (repeat' split) <;> simp

/-! ### A removal (R176, R178) -/

/-- A removed feeder's registers. -/
def feederCut (d : Dev) (i reason : Nat) : Dev :=
  (((((d.wr FD_FM_STATE i fmRemoved).wr FD_FM_REASON i reason).wr FD_FM_RMP i 0).wr FD_FM_OPENLOOP i 0).wr FD_FM_HOT i 0).inc
    FD_FM_NREM i

/-- The loop of a removed feeder is held in MAN, with no share. -/
def feederUnshare (d : Dev) (i : Nat) : Dev :=
  match fmSlot d i with
  | some s => setShare (slotHold d s 0 true) s 0
  | none => d

/-- A feeder with a channel that was not removed yet is removed. -/
theorem feederRemove_eq {d : Dev} {i : Nat} (hc : (fmChan d i).isSome = true) (hs : fmState d i ≠ fmRemoved) (reason causes pm : Nat) :
    ∃ x y : FeederSt, feederRemove d i reason causes pm =
      busNofeed (feederRun ((feederUnshare (((feederCut d i reason).setFm i x).setFm i y) i).ev FD_EVT_REMOVE) i) := by
  unfold feederRemove
  split
  case h_1 hn => simp [hn] at hc
  case h_2 =>
    extract_lets was old a b x e y f g
    have hwas : was = false := by simpa [was] using hs
    have ha : a = (d.wr FD_FM_STATE i fmRemoved).wr FD_FM_REASON i reason := by simp [a, hwas]
    have he : ∃ z, e = (feederCut d i reason).setFm i z := by
      simp only [e, b, hwas, ha, Bool.false_eq_true, if_false]
      exact ⟨_, rfl⟩
    have hf : ∃ w, f = e.setFm i w := ⟨_, rfl⟩
    obtain ⟨z, hz⟩ := he
    obtain ⟨w, hw⟩ := hf
    exact ⟨z, w, by rw [← hz, ← hw]; rfl⟩

/-- The fields that a removal writes beside the feeder's own. -/
def removalIds : List Nat := [FD_EVT_REMOVE.id, LS_C.id, LS_SH_7.id] ++ holdIds ++ nofeedIds

theorem feederUnshare_writes (d : Dev) (i : Nat) : WritesOnly removalIds d (feederUnshare d i) := by
  unfold feederUnshare setShare
  split
  · exact (((slotHold_writes d _ 0 true).mono (by decide)).wr (by decide) _ _).wr (by decide) _ _
  · exact .refl removalIds d

section
variable {d : Dev} {i : Nat}

theorem feederRemove_afterCut (hc : (fmChan d i).isSome = true) (hs : fmState d i ≠ fmRemoved) (reason causes pm : Nat) :
    WritesOnly removalIds (feederCut d i reason) (feederRemove d i reason causes pm) := by
  obtain ⟨x, y, heq⟩ := feederRemove_eq hc hs reason causes pm
  have hloop : WritesOnly removalIds (feederCut d i reason) (feederUnshare (((feederCut d i reason).setFm i x).setFm i y) i) :=
    (((WritesOnly.refl removalIds _).setFm i x).setFm i y).trans (feederUnshare_writes _ i)
  obtain ⟨hregs, hbs, -⟩ := feederRun_parts ((feederUnshare (((feederCut d i reason).setFm i x).setFm i y) i).ev FD_EVT_REMOVE) i
  rw [heq]
  exact ((hloop.ev (by decide) 0).of_regs hregs hbs).trans ((busNofeed_writes _).mono (by decide))

/-- A removal sets its event. -/
theorem feederRemove_event (hc : (fmChan d i).isSome = true) (hs : fmState d i ≠ fmRemoved) (reason causes pm : Nat) :
    (feederRemove d i reason causes pm).fl FD_EVT_REMOVE = true := by
  obtain ⟨x, y, heq⟩ := feederRemove_eq hc hs reason causes pm
  rw [heq, Dev.fl_congr ((busNofeed_writes _).1 _ _ (by decide)), Dev.fl_congr (Dev.rd_congr _ _ (feederRun_parts _ i).1 _ _)]
  exact Dev.fl_ev _ _ 0 rfl

theorem feederRemove_bs (hc : (fmChan d i).isSome = true) (hs : fmState d i ≠ fmRemoved) (reason causes pm : Nat) :
    (feederRemove d i reason causes pm).bs = d.bs := (feederRemove_afterCut hc hs reason causes pm).2

/-- What a removal shows: the feeder's state, the reason, the event, and one more removal counted. -/
theorem feederRemove_shows (hc : (fmChan d i).isSome = true) (hs : fmState d i ≠ fmRemoved) {reason : Nat} (hr : reason < 16)
    (causes pm : Nat) : (feederRemove d i reason causes pm).rd FD_FM_STATE i = fmRemoved ∧
    (feederRemove d i reason causes pm).rd FD_FM_REASON i = reason ∧
    (feederRemove d i reason causes pm).fl FD_EVT_REMOVE = true ∧
    (feederRemove d i reason causes pm).rd FD_FM_NREM i = incSat FD_FM_NREM.w (d.rd FD_FM_NREM i) := by
  obtain ⟨hrd, -⟩ := feederRemove_afterCut hc hs reason causes pm
  refine ⟨?state, ?reason, feederRemove_event hc hs reason causes pm, ?count⟩
  case state =>
    rw [hrd _ _ (by decide)]
    simp (disch := decide) only [feederCut, Dev.inc, Dev.rd_wr_ne, Dev.rd_wr]
    rfl
  case reason =>
    rw [hrd _ _ (by decide)]
    simp (disch := decide) only [feederCut, Dev.inc, Dev.rd_wr_ne, Dev.rd_wr]
    exact Nat.mod_eq_of_lt hr
  case count =>
    rw [hrd _ _ (by decide)]
    simp (disch := decide) only [feederCut, Dev.inc, Dev.rd_wr_ne, Dev.rd_wr, incSat_mod]

end

/-! ### A return (R176, R178) -/

/-- The registers of a feeder that waits again. -/
def feederBack (d : Dev) (i : Nat) : Dev := ((d.wr FD_FM_STATE i fmWait).wr FD_FM_REASON i 0).inc FD_FM_NRET i

/-- A feeder with a channel returns: its loop's fault action is cleared, it waits, and the return is recorded. -/
theorem feederReturn_eq {d : Dev} {i : Nat} (hc : (fmChan d i).isSome = true) :
    ∃ (y : Dev) (x : FeederSt) (c : Nat), y.regs = d.regs ∧ y.bs = d.bs ∧
      feederReturn d i = feederRun ((((feederBack y i).setFm i x).ev FD_EVT_READMIT).recd 0x0601 1 c []) i := by
  unfold feederReturn
  split
  case h_1 hn => simp [hn] at hc
  case h_2 c _ =>
    extract_lets y b x e
    have hparts : y.regs = d.regs ∧ y.bs = d.bs := by
      simp only [y]
      split
      · exact feclrOwn_parts d _
      · exact ⟨rfl, rfl⟩
    exact ⟨y, _, c, hparts.1, hparts.2, rfl⟩

/-- The fields of a return: the feeder's state, reason and count, its event, and the recorder's. -/
def returnFields (i : Nat) : List (Reg × Nat) :=
  [(FD_FM_STATE, i), (FD_FM_REASON, i), (FD_FM_NRET, i), (FD_EVT_READMIT, 0)] ++ recFields

section
variable {d : Dev} {i : Nat}

theorem feederReturn_bs (hc : (fmChan d i).isSome = true) : (feederReturn d i).bs = d.bs := by
  obtain ⟨y, x, c, -, hbs, heq⟩ := feederReturn_eq hc
  rw [heq, (feederRun_parts _ i).2.1, Dev.recd_bs, Dev.ev_bs, Dev.setFm_bs]
  exact hbs

theorem feederReturn_keeps (hc : (fmChan d i).isSome = true) : KeepsBut (returnFields i) d (feederReturn d i) := by
  obtain ⟨y, x, c, hregs, -, heq⟩ := feederReturn_eq hc
  have hback : KeepsBut (returnFields i) d (feederBack y i) :=
    ((((KeepsBut.refl _ d).of_regs hregs).wr _ _ _ (by simp [returnFields])).wr _ _ _ (by simp [returnFields])).inc _ _
      (by simp [returnFields])
  rw [heq]
  exact (((hback.setFm i x).ev _ 0 (by simp [returnFields])).recd _ _ _ _ (fun z m => List.mem_append_right _ m)).of_regs
    (feederRun_parts _ i).1

/-- What a return shows: the feeder waits with no reason, the event, and one more return counted. -/
theorem feederReturn_shows (hc : (fmChan d i).isSome = true) : (feederReturn d i).rd FD_FM_STATE i = fmWait ∧
    (feederReturn d i).rd FD_FM_REASON i = 0 ∧ (feederReturn d i).fl FD_EVT_READMIT = true ∧
    (feederReturn d i).rd FD_FM_NRET i = incSat FD_FM_NRET.w (d.rd FD_FM_NRET i) := by
  obtain ⟨y, x, c, hregs, -, heq⟩ := feederReturn_eq hc
  have hrun : ∀ (r : Reg) (ix : Nat), r.id ∉ recIds → (feederReturn d i).rd r ix =
      (((feederBack y i).setFm i x).ev FD_EVT_READMIT).rd r ix := fun r ix hr => by
    rw [heq, Dev.rd_congr _ _ (feederRun_parts _ i).1, Dev.rd_recd _ _ _ _ _ _ _ hr]
  have hcount : y.rd FD_FM_NRET i = d.rd FD_FM_NRET i := Dev.rd_congr _ _ hregs _ _
  refine ⟨?state, ?reason, (Dev.fl_congr (hrun _ _ (by decide))).trans (Dev.fl_ev _ _ 0 rfl), ?count⟩
  case state =>
    simp (disch := decide) only [hrun, Dev.rd_ev_ne, Dev.setFm_rd, feederBack, Dev.inc, Dev.rd_wr_ne, Dev.rd_wr]
    rfl
  case reason =>
    simp (disch := decide) only [hrun, Dev.rd_ev_ne, Dev.setFm_rd, feederBack, Dev.inc, Dev.rd_wr_ne, Dev.rd_wr]
    rfl
  case count =>
    simp (disch := decide) only [hrun, Dev.rd_ev_ne, Dev.setFm_rd, feederBack, Dev.inc, Dev.rd_wr_ne, Dev.rd_wr, incSat_mod, hcount]

end

/-! ### A sense fault that has cleared (R179) -/

/-- DEGR and the open loop end; a sharing feeder's loop is released after that. -/
theorem senseClear_afterFlags {d : Dev} {i c : Nat} (hc : fmChan d i = some c) :
    WritesOnly holdIds ((setCond d CD_ENT_COND_DEGR c false).wr FD_FM_OPENLOOP i 0) (senseClear d i) := by
  unfold senseClear
  simp only [hc]
  split
  · split
    · exact slotHold_writes _ _ 0 false
    · exact .refl holdIds _
  · exact .refl holdIds _

/-- What the clearing shows. -/
theorem senseClear_shows {d : Dev} {i c : Nat} (hc : fmChan d i = some c) :
    (senseClear d i).fl CD_ENT_COND_DEGR c = false ∧ (senseClear d i).fl FD_FM_OPENLOOP i = false ∧ (senseClear d i).bs = d.bs := by
  obtain ⟨hrd, hbs⟩ := senseClear_afterFlags hc
  refine ⟨?_, ?_, hbs.trans (setCond_bs d _ c false)⟩
  · rw [Dev.fl_congr (hrd _ _ (by decide)), Dev.fl_wr_ne _ _ _ _ (by decide)]
    exact setCond_fl d rfl (by decide) c false
  · rw [Dev.fl_congr (hrd _ _ (by decide))]
    exact Dev.fl_wrB _ FD_FM_OPENLOOP i false rfl

/-! ### Removal and readmission by a host (R176, R177) -/

theorem feederHostRemove_idle {d : Dev} {i : Nat} (h : fmState d i = fmIdle) :
    feederHostRemove d i = (true, d.ev FD_EVT_REFUSED) := by
  simp [feederHostRemove, h]

theorem feederHostRemove_wait {d : Dev} {i : Nat} (hc : (fmChan d i).isSome = true) (h : fmState d i = fmWait) :
    feederHostRemove d i = (false, feederRemove d i 1 2 d.curPm) := by
  obtain ⟨c, hc⟩ := Option.isSome_iff_exists.mp hc
  simp [feederHostRemove, hc, h, fmWait, fmIdle, fmRamp, fmShare]

theorem fmWait_not_removed {d : Dev} {i : Nat} (h : fmState d i = fmWait) : fmState d i ≠ fmRemoved := by
  rw [h]; decide

theorem readyDue_wait {d : Dev} {i : Nat} (h : readyDue d i = true) : fmState d i = fmWait := by
  simp only [readyDue, Bool.and_eq_true, beq_iff_eq] at h
  exact h.1

/-- A feeder's command word answers the device that its function gives, where the shelf stands. -/
theorem exec_busWord {c : Instr} {s : State} {a : Accessor} {ofs v : Nat} {f : Dev → Dev} {e : Dev}
    (he : exec c s = sysRow (wordCmd a ofs v f) s) (ht : s.turn) (ha : a ≠ .sp) (hk : writeKind s.sys.dev (accIx a) ofs v = 0)
    (hf : f (handOver s.atCommands.dev) = e) (hbs : e.bs = s.atCommands.dev.bs) :
    ∃ t : State, exec c s = .next t ∧ t.pending = s.pending ∧ t.sys.dev = e := by
  subst hf
  exact completes_fuseWord (Q := fun x => x.dev = f (handOver s.atCommands.dev)) a ofs v f he ht ha hk hbs rfl

/-! ### The statement -/

/-- Settles O9, by what a removal, a return, RUN and the end of a sense fault leave of the device that meets them. -/
theorem feedersLeaveAndReturn : Obligations.FeedersLeaveAndReturn := by
  unfold Obligations.FeedersLeaveAndReturn
  refine ⟨fun s i hx hd hc => ?ready, fun s i hx hd hc => ?hvok, fun s i c hx hd hc hq => ?resend, fun s i c hx hd hc => ?sense,
    fun s a i ht ha hk hst => ?idle, fun s a i ht ha hk hst hc => ?remove, fun s a i ht ha hk hst hc => ?readmit⟩
  case ready =>
    have hs := fmWait_not_removed (readyDue_wait hd)
    have hbs := feederRemove_bs hc hs 7 128 s.atTimers.dev.curPm
    obtain ⟨hstate, hreason, hevent, hcount⟩ := feederRemove_shows hc hs (show 7 < 16 by decide) 128 s.atTimers.dev.curPm
    obtain ⟨t, he, hp, ht⟩ := exec_timed (s := s) (c := .readyTimeout i) rfl hx hd ((congrArg ShelfSt.shedReq hbs).trans hx.2.2)
    exact ⟨t, he, hp, by rw [ht, hstate], by rw [ht, hreason], by rw [ht, hevent], by rw [ht, hcount, incSat_mod]⟩
  case hvok =>
    obtain ⟨hstate, hreason, hevent, hcount⟩ := feederReturn_shows hc
    obtain ⟨t, he, hp, ht⟩ := exec_timed (s := s) (c := .hvokReturn i) rfl hx hd
      ((congrArg ShelfSt.shedReq (feederReturn_bs hc)).trans hx.2.2)
    exact ⟨t, he, hp, by rw [ht, hstate], by rw [ht, hreason], by rw [ht, hevent], by rw [ht, hcount, incSat_mod],
      by rw [ht]; exact feederReturn_keeps hc⟩
  case resend =>
    have heq := feederRunResend_eq hc
    obtain ⟨hregs, hbs, -⟩ := issueRun_parts (s.atTimers.dev.setFm i.val { s.atTimers.dev.fm i.val with runAt := some s.atTimers.dev.cur }) c
    rw [← heq] at hregs hbs
    obtain ⟨t, he, hp, ht⟩ := exec_timed (s := s) (c := .feederRunResend i) rfl hx hd ((congrArg ShelfSt.shedReq hbs).trans hx.2.2)
    refine ⟨t, he, hp, ?_, by rw [ht]; exact (KeepsBut.refl [] _).of_regs hregs⟩
    rw [ht, heq]
    exact issueRun_queue hq
  case sense =>
    obtain ⟨hdegr, hopen, hbs⟩ := senseClear_shows hc
    obtain ⟨t, he, hp, ht⟩ := exec_timed (s := s) (c := .senseClearReturn i) rfl hx hd ((congrArg ShelfSt.shedReq hbs).trans hx.2.2)
    exact ⟨t, he, hp, by rw [ht, hdegr], by rw [ht, hopen]⟩
  case idle =>
    obtain ⟨t, he, hp, ht⟩ := exec_busWord (c := .fdCmdRemove a i) rfl ht ha hk
      (congrArg Prod.snd (feederHostRemove_idle (d := handOver s.atCommands.dev) hst)) (Dev.ev_bs ..)
    exact ⟨t, he, hp, by rw [ht]; exact Dev.fl_ev _ _ 0 rfl, by rw [ht]; exact ((KeepsBut.refl _ _).handOver).ev _ _ (by simp)⟩
  case remove =>
    have hs : fmState (handOver s.atCommands.dev) i.val ≠ fmRemoved := fmWait_not_removed hst
    have heq := feederHostRemove_wait (d := handOver s.atCommands.dev) hc hst
    obtain ⟨hstate, hreason, hevent, -⟩ :=
      feederRemove_shows (d := handOver s.atCommands.dev) hc hs (show 1 < 16 by decide) 2 s.atCommands.dev.curPm
    obtain ⟨t, he, hp, ht⟩ := exec_busWord (c := .fdCmdRemove a i) rfl ht ha hk (congrArg Prod.snd heq)
      (feederRemove_bs (d := handOver s.atCommands.dev) hc hs 1 2 _)
    exact ⟨t, he, hp, by rw [ht]; exact hstate, by rw [ht]; exact hreason, by rw [ht]; exact hevent⟩
  case readmit =>
    obtain ⟨hstate, hreason, hevent, -⟩ := feederReturn_shows (d := handOver s.atCommands.dev) hc
    obtain ⟨t, he, hp, ht⟩ := exec_busWord (c := .fdCmdReadmit a i) rfl ht ha hk (if_pos hst)
      (feederReturn_bs (d := handOver s.atCommands.dev) hc)
    exact ⟨t, he, hp, by rw [ht]; exact hstate, by rw [ht]; exact hreason, by rw [ht]; exact hevent⟩

end Sys2Proof.Machine
end

section
/-! PROOFS about the bus: its window, with the removal of every sharing feeder at the overvoltage fault, and its capacity request
(R176, R182, R184). -/

namespace Sys2Proof.Machine
open R

/-! ### What a removal leaves -/

/-- The registers of a feeder that a removal writes. -/
def cutRegs : List Reg := [FD_FM_STATE, FD_FM_REASON, FD_FM_RMP, FD_FM_OPENLOOP, FD_FM_HOT, FD_FM_NREM]

/-- The fields of feeder `i` among them. -/
def cutFields (i : Nat) : List (Reg × Nat) := cutRegs.map fun r => (r, i)

theorem mem_cutFields {r : Reg} (hr : r ∈ cutRegs) (i : Nat) : (r, i) ∈ cutFields i := List.mem_map_of_mem hr

theorem feederCut_keeps (d : Dev) (i reason : Nat) : KeepsBut (cutFields i) d (feederCut d i reason) := by
  have m : ∀ r ∈ cutRegs, (r, i) ∈ cutFields i := fun r hr => mem_cutFields hr i
  exact ((((((KeepsBut.refl _ d).wr _ _ _ (m _ (by simp [cutRegs]))).wr _ _ _ (m _ (by simp [cutRegs]))).wr _ _ _
    (m _ (by simp [cutRegs]))).wr _ _ _ (m _ (by simp [cutRegs]))).wr _ _ _ (m _ (by simp [cutRegs]))).inc _ _
    (m _ (by simp [cutRegs]))

/-- No field of another index is one of them. -/
theorem cutFields_ix {i j : Nat} (h : j ≠ i) (r : Reg) : ∀ f ∈ cutFields i, r.id ≠ f.1.id ∨ j ≠ f.2 := by
  simp [cutFields, h]

/-- Nor is a field of another register. -/
theorem cutFields_reg (i : Nat) {r : Reg} (hr : r.id ∉ cutRegs.map Reg.id) (ix : Nat) :
    ∀ f ∈ cutFields i, r.id ≠ f.1.id ∨ ix ≠ f.2 := by
  intro f hf
  obtain ⟨r', hr', rfl⟩ := List.mem_map.mp hf
  exact .inl fun he => hr (he ▸ List.mem_map_of_mem hr')

/-- The channels of the feeders are those of the directory. -/
theorem fmChan_congr {d e : Dev} (hrole : ∀ c, e.rd CD_ENT_ROLE c = d.rd CD_ENT_ROLE c)
    (hunit : ∀ c, e.rd CD_ENT_UNIT c = d.rd CD_ENT_UNIT c) (i : Nat) : fmChan e i = fmChan d i := by
  simp [fmChan, chanOfUnit, chanFind, roleOf, hrole, hunit]

section
variable {d : Dev} {i : Nat}

/-- A removal leaves every field but the feeder's own, its event and what follows the number of sharing feeders. -/
theorem feederRemove_elsewhere (hs : fmState d i ≠ fmRemoved) (reason causes pm : Nat) {r : Reg} {ix : Nat} (hr : r.id ∉ removalIds)
    (hcut : ∀ f ∈ cutFields i, r.id ≠ f.1.id ∨ ix ≠ f.2) : (feederRemove d i reason causes pm).rd r ix = d.rd r ix := by
  cases hc : fmChan d i with
  | none => simp [feederRemove, hc]
  | some c =>
    have hchan : (fmChan d i).isSome = true := by simp [hc]
    exact ((feederRemove_afterCut hchan hs reason causes pm).1 r ix hr).trans (feederCut_keeps d i reason r ix hcut)

theorem feederRemove_chan (hs : fmState d i ≠ fmRemoved) (reason causes pm j : Nat) :
    fmChan (feederRemove d i reason causes pm) j = fmChan d j :=
  fmChan_congr (fun c => feederRemove_elsewhere hs _ _ _ (by decide) (cutFields_reg i (by decide) c))
    (fun c => feederRemove_elsewhere hs _ _ _ (by decide) (cutFields_reg i (by decide) c)) j

@[simp] theorem setShare_tfq (d : Dev) (s c7 : Nat) : (setShare d s c7).tfq = d.tfq := rfl

/-- A removal raises no target fault. -/
@[simp] theorem feederRemove_tfq (d : Dev) (i reason causes pm : Nat) : (feederRemove d i reason causes pm).tfq = d.tfq := by
  unfold feederRemove
  split
  · rfl
  · extract_lets was old a b x e y f g
    have he : e.tfq = d.tfq := by
      simp only [e]
      split <;> simp [b, a]
    have hg : g.tfq = d.tfq := by
      simp only [g]
      split <;> simp [f, he]
    rw [busNofeed_tfq, (feederRun_parts _ i).2.2, Dev.ev_tfq, hg]

end

/-! ### The removal of several feeders -/

/-- Several feeders are removed for one reason, each with the postmark of the evidence as its removal finds it. -/
def feedersRemove (l : List Nat) (reason causes : Nat) (pm : Dev → Nat) (d : Dev) : Dev :=
  forL l (fun i d => feederRemove d i reason causes (pm d)) d

theorem feedersRemove_cons (j : Nat) (l : List Nat) (reason causes : Nat) (pm : Dev → Nat) (d : Dev) :
    feedersRemove (j :: l) reason causes pm d = feedersRemove l reason causes pm (feederRemove d j reason causes (pm d)) := rfl

@[simp] theorem feedersRemove_tfq (l : List Nat) (reason causes : Nat) (pm : Dev → Nat) (d : Dev) :
    (feedersRemove l reason causes pm d).tfq = d.tfq := forL_tfq l _ d fun i x => feederRemove_tfq x i reason causes (pm x)

theorem feedersRemove_shed (l : List Nat) (reason causes : Nat) (pm : Dev → Nat) (d : Dev) :
    (feedersRemove l reason causes pm d).bs.shedReq = d.bs.shedReq :=
  Dev.ringView_shed (forL_ringView l _ d fun i x => feederRemove_ringView x i reason causes (pm x))

/-- The removal of another feeder leaves a feeder's state. -/
theorem standing_of_cons {d : Dev} {j : Nat} {l : List Nat} (hn : (j :: l).Nodup) (hs : ∀ i ∈ j :: l, fmState d i ≠ fmRemoved)
    (reason causes pm : Nat) : ∀ i ∈ l, fmState (feederRemove d j reason causes pm) i ≠ fmRemoved := by
  intro i hi
  have hij : i ≠ j := fun he => (List.nodup_cons.mp hn).1 (he ▸ hi)
  have hstate : fmState (feederRemove d j reason causes pm) i = fmState d i :=
    feederRemove_elsewhere (hs j (by simp)) _ _ _ (by decide) (cutFields_ix hij _)
  rw [hstate]
  exact hs i (by simp [hi])

theorem feedersRemove_elsewhere {l : List Nat} (reason causes : Nat) (pm : Dev → Nat) {r : Reg} {ix : Nat} (hr : r.id ∉ removalIds)
    (hcut : ∀ i ∈ l, ∀ f ∈ cutFields i, r.id ≠ f.1.id ∨ ix ≠ f.2) {d : Dev} (hn : l.Nodup) (hs : ∀ i ∈ l, fmState d i ≠ fmRemoved) :
    (feedersRemove l reason causes pm d).rd r ix = d.rd r ix := by
  induction l generalizing d with
  | nil => rfl
  | cons j l ih =>
    rw [feedersRemove_cons, ih (fun i hi => hcut i (by simp [hi])) (List.nodup_cons.mp hn).2 (standing_of_cons hn hs _ _ _)]
    exact feederRemove_elsewhere (hs j (by simp)) _ _ _ hr (hcut j (by simp))

/-- Each of them that has a channel is removed, with the reason. -/
theorem feedersRemove_shows {l : List Nat} {reason : Nat} (hr : reason < 16) (causes : Nat) (pm : Dev → Nat) {d : Dev} (hn : l.Nodup)
    (hs : ∀ i ∈ l, fmState d i ≠ fmRemoved) : ∀ i ∈ l, (fmChan d i).isSome = true →
    (feedersRemove l reason causes pm d).rd FD_FM_STATE i = fmRemoved ∧ (feedersRemove l reason causes pm d).rd FD_FM_REASON i = reason := by
  induction l generalizing d with
  | nil => simp
  | cons j l ih =>
    intro i hi hc
    obtain ⟨hj, hn'⟩ := List.nodup_cons.mp hn
    have hs' := standing_of_cons hn hs reason causes (pm d)
    rw [feedersRemove_cons]
    rcases List.mem_cons.mp hi with rfl | hi
    · have hcut : ∀ k ∈ l, ∀ (r : Reg), ∀ f ∈ cutFields k, r.id ≠ f.1.id ∨ i ≠ f.2 := fun k hk =>
        cutFields_ix fun he => hj (he ▸ hk)
      obtain ⟨hstate, hreason, -, -⟩ := feederRemove_shows hc (hs i (by simp)) hr causes (pm d)
      rw [feedersRemove_elsewhere _ _ _ (by decide) (fun k hk => hcut k hk _) hn' hs',
        feedersRemove_elsewhere _ _ _ (by decide) (fun k hk => hcut k hk _) hn' hs']
      exact ⟨hstate, hreason⟩
    · exact ih hn' hs' i hi (by rw [feederRemove_chan (hs j (by simp)), hc])

/-- A sharing feeder is not removed. -/
theorem sharers_standing {d : Dev} {i : Nat} (h : i ∈ sharers d) : fmState d i ≠ fmRemoved := by
  have hshare : sharing d i = true := (List.mem_filter.mp h).2
  intro hrem
  rw [sharing, hrem] at hshare
  exact absurd hshare (by decide)

theorem sharers_nodup (d : Dev) : (sharers d).Nodup := List.nodup_range.filter _

/-- The sharing feeders are those that their states show. -/
theorem sharers_congr {d e : Dev} (h : ∀ i, e.rd FD_FM_STATE i = d.rd FD_FM_STATE i) : sharers e = sharers d := by
  have hshare : sharing e = sharing d := funext fun i => by simp [sharing, fmState, h]
  simp [sharers, hshare]

/-! ### The window (R182) -/

/-- The count of a threshold has acted, and the record of the window is made. -/
def windowActed (d : Dev) (w : Nat) : Dev :=
  let x := ((Tbl.get (0, false) d.bus.win w).1, true)
  let d := { d with bus := { d.bus with win := Tbl.set (0, false) d.bus.win w x } }
  d.recAt (busPm d) 0x0602 0 4 []

/-- A threshold sets its event; the fault thresholds latch a fault of the bus, and the overvoltage fault removes every sharing
feeder. -/
theorem busWindow_eq (d : Dev) :
    busWindow d 0 = (windowActed d 0).ev FD_EVT_UVW ∧ busWindow d 1 = (windowActed d 1).ev FD_EVT_OVW ∧
    busWindow d 2 = busFault ((windowActed d 2).ev FD_EVT_UVF) ∧
    busWindow d 3 = busFault (feedersRemove (sharers (windowActed d 3)) 6 64 busPm ((windowActed d 3).ev FD_EVT_OVF)) := by
  unfold busWindow windowActed feedersRemove
  exact ⟨rfl, rfl, rfl, rfl⟩

theorem windowActed_keeps (l : List (Reg × Nat)) (d : Dev) (w : Nat) : KeepsBut (l ++ recFields) d (windowActed d w) := by
  unfold windowActed
  refine KeepsBut.recAt ?_ _ _ _ _ _ fun _ m => List.mem_append_right _ m
  exact (KeepsBut.refl _ d).of_regs rfl

theorem windowActed_parts (d : Dev) (w : Nat) : (windowActed d w).bs = d.bs ∧ (windowActed d w).tfq = d.tfq ∧
    (windowActed d w).bus.win = Tbl.set (0, false) d.bus.win w ((Tbl.get (0, false) d.bus.win w).1, true) := by
  simp [windowActed]

/-- A threshold that has acted is not due again. -/
theorem winDue_acted (d : Dev) (w : Nat) (r : Reg) (ix : Nat) : winDue ((windowActed d w).ev r ix) w = false := by
  obtain ⟨-, -, hwin⟩ := windowActed_parts d w
  simp [winDue, hwin]

/-- A warning threshold sets its own event and writes no more than the two events and the record. -/
theorem busWindow_warning (d : Dev) {w : Nat} (hw : w < 2) : (w = 0 → (busWindow d w).fl FD_EVT_UVW = true) ∧
    (w = 1 → (busWindow d w).fl FD_EVT_OVW = true) ∧
    KeepsBut ([(FD_EVT_UVW, 0), (FD_EVT_OVW, 0)] ++ recFields) d (busWindow d w) ∧ winDue (busWindow d w) w = false ∧
    (busWindow d w).bs = d.bs := by
  obtain ⟨hunder, hover, -, -⟩ := busWindow_eq d
  obtain ⟨hbs, -, -⟩ := windowActed_parts d w
  have hkeep := windowActed_keeps [(FD_EVT_UVW, 0), (FD_EVT_OVW, 0)] d w
  rcases (show w = 0 ∨ w = 1 by omega) with rfl | rfl
  · rw [hunder]
    exact ⟨fun _ => Dev.fl_ev _ _ 0 rfl, nofun, hkeep.ev _ 0 (by simp), winDue_acted .., (Dev.ev_bs ..).trans hbs⟩
  · rw [hover]
    exact ⟨nofun, fun _ => Dev.fl_ev _ _ 0 rfl, hkeep.ev _ 0 (by simp), winDue_acted .., (Dev.ev_bs ..).trans hbs⟩

/-- The undervoltage fault sets its event and is handed to the sequencer. -/
theorem busWindow_underFault (d : Dev) : (busWindow d 2).fl FD_EVT_UVF = true ∧ (busWindow d 2).tfq = d.tfq ++ [(4, 0, 2)] ∧
    KeepsBut ([(FD_EVT_UVF, 0)] ++ recFields) d (busWindow d 2) ∧ (busWindow d 2).bs = d.bs := by
  obtain ⟨-, -, heq, -⟩ := busWindow_eq d
  obtain ⟨hbs, htfq, -⟩ := windowActed_parts d 2
  rw [heq]
  exact ⟨Dev.fl_ev _ _ 0 rfl, by simp [busFault, Dev.tfault, htfq], ((windowActed_keeps _ d 2).ev _ 0 (by simp)).tfault _ _ _,
    (Dev.ev_bs ..).trans hbs⟩

/-- The device in which the overvoltage fault removes its feeders reads as before outside the event and the record. -/
theorem overFault_rd (d : Dev) {r : Reg} (hr : r.id ∉ FD_EVT_OVF.id :: recIds) (ix : Nat) :
    ((windowActed d 3).ev FD_EVT_OVF).rd r ix = d.rd r ix := by
  simp only [List.mem_cons, not_or] at hr
  exact (Dev.rd_ev_ne _ _ _ hr.1).trans ((windowActed_keeps [] d 3).rd_eq hr.2 ix)

/-- The overvoltage fault sets its event, is handed to the sequencer, and removes every sharing feeder with reason 6. -/
theorem busWindow_overFault (d : Dev) : (busWindow d 3).fl FD_EVT_OVF = true ∧ (busWindow d 3).tfq = d.tfq ++ [(4, 0, 2)] ∧
    (∀ i ∈ sharers d, (fmChan d i).isSome = true →
      (busWindow d 3).rd FD_FM_STATE i = fmRemoved ∧ (busWindow d 3).rd FD_FM_REASON i = 6) ∧
    (busWindow d 3).bs.shedReq = d.bs.shedReq := by
  obtain ⟨-, -, -, heq⟩ := busWindow_eq d
  obtain ⟨hbs, htfq, -⟩ := windowActed_parts d 3
  have hshare : sharers (windowActed d 3) = sharers d := sharers_congr fun i => (windowActed_keeps [] d 3).rd_eq (by decide) i
  have hstand : ∀ i ∈ sharers d, fmState ((windowActed d 3).ev FD_EVT_OVF) i ≠ fmRemoved := fun i hi =>
    ne_of_eq_of_ne (overFault_rd d (by decide) i) (sharers_standing hi)
  rw [hshare] at heq
  rw [heq]
  refine ⟨?event, by simp [busFault, Dev.tfault, htfq], fun i hi hc => ?removed, ?shed⟩
  case event =>
    exact (Dev.fl_congr (feedersRemove_elsewhere 6 64 busPm (by decide) (fun i _ => cutFields_reg i (by decide) 0)
      (sharers_nodup d) hstand)).trans (Dev.fl_ev _ _ 0 rfl)
  case removed =>
    refine feedersRemove_shows (by decide) 64 busPm (sharers_nodup d) hstand i hi ?_
    rw [fmChan_congr (overFault_rd d (by decide)) (overFault_rd d (by decide))]
    exact hc
  case shed => exact (feedersRemove_shed _ 6 64 busPm _).trans (congrArg ShelfSt.shedReq ((Dev.ev_bs ..).trans hbs))

/-! ### The capacity request (R184) -/

theorem throtUpdate_bus (d : Dev) : (throtUpdate d).fl CP_ASSERT_BUS = d.fl FD_STATUS_CAP := by
  unfold throtUpdate
  simp only [Dev.wrB]
  rw [Dev.fl_wr_ne _ _ _ _ (by decide), Dev.fl_wr_ne _ _ _ _ (by decide)]
  exact (Dev.fl_wrB _ CP_ASSERT_BUS 0 _ rfl).trans (Dev.fl_wr_ne _ _ _ _ (by decide))

/-- The throttle outputs leave every field outside the governor's status. -/
theorem throtUpdate_fl (d : Dev) {r : Reg}
    (hr : r.id ∉ [CP_STATUS_THR.id, CP_ASSERT_BUS.id, CP_ASSERT_RAILCAP.id, CP_ASSERT_FORCE.id]) (ix : Nat) :
    (throtUpdate d).fl r ix = d.fl r ix :=
  Dev.fl_congr ((throtUpdate_keepsBut (KeepsBut.refl _ d) (fun _ m => m)).rd_eq hr ix)

theorem busCapacity_shows (d : Dev) : (busCapacity d).fl FD_STATUS_CAP = true ∧ (busCapacity d).fl FD_EVT_CAPACITY = true := by
  unfold busCapacity
  refine ⟨(Dev.fl_congr (Dev.rd_recd _ _ _ _ _ _ _ (by decide))).trans ?_,
    (Dev.fl_congr (Dev.rd_recd _ _ _ _ _ _ _ (by decide))).trans (Dev.fl_ev _ _ 0 rfl)⟩
  exact (Dev.fl_congr (Dev.rd_ev_ne _ _ _ (by decide))).trans (Dev.fl_wrB d FD_STATUS_CAP 0 true rfl)

theorem busCapacity_keepsBut {l : List (Reg × Nat)} {a b : Dev} (h : KeepsBut l a b) (m : (FD_STATUS_CAP, 0) ∈ l)
    (m' : (FD_EVT_CAPACITY, 0) ∈ l) (mrec : ∀ x ∈ recFields, x ∈ l) : KeepsBut l a (busCapacity b) :=
  ((h.wr _ 0 1 m).ev _ 0 m').recd _ _ _ _ mrec

theorem busCapEnd_cap (d : Dev) : (busCapEnd d).fl FD_STATUS_CAP = false := Dev.fl_wrB d FD_STATUS_CAP 0 false rfl

theorem busCapEnd_keepsBut {l : List (Reg × Nat)} {a b : Dev} (h : KeepsBut l a b) (m : (FD_STATUS_CAP, 0) ∈ l) :
    KeepsBut l a (busCapEnd b) := h.wr _ 0 0 m

/-! ### The statement -/

/-- Settles O10, by what each threshold and each end of a capacity count leaves of the device that meets it. -/
theorem busWindowAndCapacity : Obligations.BusWindowAndCapacity := by
  unfold Obligations.BusWindowAndCapacity
  refine ⟨fun s w hx hd hw => ?warning, fun s w hx hd hw => ?under, fun s w hx hd hw => ?fault, fun s hx hd => ?capacity,
    fun s hx hd => ?capacityEnd⟩
  case warning =>
    obtain ⟨hunder, hover, hkeep, hdone, hbs⟩ := busWindow_warning s.atTimers.dev hw
    obtain ⟨t, he, hp, ht⟩ := exec_timed (s := s) (c := .busWindow w) rfl hx hd ((congrArg ShelfSt.shedReq hbs).trans hx.2.2)
    refine ⟨t, he, hp, ?_⟩
    rw [ht]
    exact ⟨hunder, hover, hkeep, hdone⟩
  case under =>
    obtain ⟨hevent, hfault, hkeep, hbs⟩ := busWindow_underFault s.atTimers.dev
    obtain ⟨t, he, hp, ht⟩ := exec_timed (s := s) (c := .busWindow w) rfl hx hd
      (by rw [hw]; exact (congrArg ShelfSt.shedReq hbs).trans hx.2.2)
    refine ⟨t, he, hp, ?_⟩
    rw [ht, hw]
    exact ⟨hevent, hfault, hkeep⟩
  case fault =>
    obtain ⟨hevent, hfault, hremoved, hshed⟩ := busWindow_overFault s.atTimers.dev
    obtain ⟨t, he, hp, ht⟩ := exec_timed (s := s) (c := .busWindow w) rfl hx hd (by rw [hw]; exact hshed.trans hx.2.2)
    refine ⟨t, he, hp, ?_⟩
    rw [ht, hw]
    exact ⟨hevent, hfault, hremoved⟩
  case capacity =>
    obtain ⟨hcap, hevent⟩ := busCapacity_shows s.atTimers.dev
    have hbs : (throtUpdate (busCapacity s.atTimers.dev)).bs = s.atTimers.dev.bs := by simp [throtUpdate, busCapacity]
    obtain ⟨t, he, hp, ht⟩ := exec_timed (s := s) (c := .busCapacity) rfl hx hd ((congrArg ShelfSt.shedReq hbs).trans hx.2.2)
    refine ⟨t, he, hp, ?_, ?_, ?_, ?_⟩ <;> rw [ht]
    · rw [throtUpdate_fl _ (by decide), hcap]
    · rw [throtUpdate_fl _ (by decide), hevent]
    · rw [throtUpdate_bus, hcap]
    · exact throtUpdate_keepsBut (busCapacity_keepsBut (KeepsBut.refl _ _) (by simp) (by simp)
        fun _ m => List.mem_append_right _ m) (by simp)
  case capacityEnd =>
    have hcap := busCapEnd_cap s.atTimers.dev
    obtain ⟨t, he, hp, ht⟩ := exec_timed (s := s) (c := .busCapacityEnd) rfl hx hd hx.2.2
    refine ⟨t, he, hp, ?_, ?_, ?_⟩ <;> rw [ht]
    · rw [throtUpdate_fl _ (by decide), hcap]
    · rw [throtUpdate_bus, hcap]
    · exact throtUpdate_keepsBut (busCapEnd_keepsBut (KeepsBut.refl _ _) (by simp)) (by simp)

end Sys2Proof.Machine
end

section
/-! PROOFS about commands whose arguments are a few bytes, and about commands that a unit's own rule may refuse (R290 to R292). -/

namespace Sys2Proof.Machine
open R

/-! ### Descriptors (R290) -/

/-- The arguments of a command from byte 16 on, and zeros behind them. -/
theorem descOf_bytes_drop (op : Nat) (h : Sender) {l : List Nat} (hl : l.length ≤ 48) :
    (descOf op h [(16, l)]).drop 16 = l ++ (List.replicate (48 - l.length) 0 ++ h.extra.map (·.toNat)) := by
  have hbody : fit 48 (l ++ List.replicate (48 - l.length) 0) = l ++ List.replicate (48 - l.length) 0 := by
    have hlen : (l ++ List.replicate (48 - l.length) 0).length = 48 := by simp; omega
    simp [fit, hlen, List.take_of_length_le hlen.le]
  have harg : (descOf op h [(16, l)]).drop 16 =
      fit 48 ([] ++ l ++ (List.replicate 48 0).drop (0 + l.length)) ++ h.extra.map (·.toNat) := rfl
  rw [harg, List.nil_append, Nat.zero_add, List.drop_replicate, hbody, List.append_assoc]

/-- Check 2 of R292 where every argument byte is in use. -/
theorem descOk_bytes (op : Nat) {h : Sender} (hlcl : h.lcl = false) {l : List Nat} (hl : l.length ≤ 48) :
    descOk (descOf op h [(16, l)]) [(16, l.length)] = true := by
  refine descOk_descOf op hlcl _ fun i hi => ?_
  by_cases hlt : i < l.length
  · exact .inl (by simp [hlt])
  · right
    have hdrop : (descOf op h [(16, l)]).getD (16 + i) 0 = ((descOf op h [(16, l)]).drop 16).getD i 0 := by
      simp [List.getD_eq_getElem?_getD, List.getElem?_drop]
    rw [hdrop, descOf_bytes_drop op h hl, List.getD_append_right _ _ _ _ (by omega)]
    exact getD_zeros _ (by omega)

/-- The 16-bit argument of a command that has no other. -/
theorem a2_half (op : Nat) (h : Sender) (v : BitVec 16) : a2 (descOf op h [(16, le 2 v.toNat)]) 16 = v.toNat := by
  have hv := v.isLt
  have hbytes : a2 (descOf op h [(16, le 2 v.toNat)]) 16 = v.toNat / 256 ^ 0 % 256 % 256 + 256 * (v.toNat / 256 ^ 1 % 256 % 256 + 256 * 0) := rfl
  omega

/-- The 16-bit argument behind two bytes. -/
theorem a2_behind (op : Nat) (h : Sender) (k n : Nat) (v : BitVec 16) :
    a2 (descOf op h [(16, [k, n] ++ le 2 v.toNat)]) 18 = v.toNat := by
  have hv := v.isLt
  have hbytes : a2 (descOf op h [(16, [k, n] ++ le 2 v.toNat)]) 18 =
    v.toNat / 256 ^ 0 % 256 % 256 + 256 * (v.toNat / 256 ^ 1 % 256 % 256 + 256 * 0) := rfl
  omega

/-! ### Execution (R292) -/

/-- A command with argument bytes, whose checks stand, executes where its turn has come. -/
theorem completes_bytes {c : Instr} {s : State} {h : Sender} {op st : Nat} {l : List Nat} {mk : Sys → List Nat → List HCtx → HCmd}
    {P : Dev → Prop} {e : Dev} (he : exec c s = sysRow (hostCmd op h [(16, l)] mk) s) (ht : s.turn) (hp : h.path ≠ .sp)
    (hlcl : h.lcl = false) (hsill : s.atCommands.dev.sill = false) (hop : op < 65536)
    (hgate : gatedOps.contains op = true → s.atCommands.dev.fl GL_STATUS_MHALT = false) (hl : l.length ≤ 48) {x : HCmd}
    (hx : mk (s.atCommands.on handOver) (descOf op h [(16, l)]) [ctxOf (s.atCommands.on handOver).dev h] = x)
    (hused : x.used = [(16, l.length)]) (harg : x.argOk = true) (htgt : x.target = true) (hhole : x.hole = none)
    (hmgmt : x.mgmt = false) (hact : x.act (s.atCommands.on handOver) = .fin st 0 { s.atCommands with dev := e })
    (hbs : e.bs = s.atCommands.dev.bs) (hP : ∀ q, P { e with host := { e.host with cpls := q } }) :
    ∃ t : State, exec c s = .next t ∧ t.pending = s.pending ∧ P t.sys.dev ∧ Answered h st 0 s.atCommands.dev t.sys.dev := by
  refine completes_unitCmd he ht hp hx (unitCmd_of_sender hop hp hsill hgate ?_ harg htgt hhole hmgmt) hact hbs hP
  rw [hused]
  exact descOk_bytes op hlcl hl

/-- A command that names a unit and that the unit's rule may refuse: what the rule answers is the completion's status. -/
theorem completes_tryDev {c : Instr} {s : State} {h : Sender} {op : Nat} {n : Byte} {mk : Sys → List Nat → List HCtx → HCmd}
    {P : Dev → Prop} {f : Dev → Bool × Dev} {no : Bool} {e : Dev} {ok tgt : Bool}
    (he : exec c s = sysRow (hostCmd op h [(16, [n.toNat])] mk) s) (ht : s.turn) (hp : h.path ≠ .sp) (hl : h.lcl = false)
    (hsill : s.atCommands.dev.sill = false) (hop : op < 65536)
    (hgate : gatedOps.contains op = true → s.atCommands.dev.fl GL_STATUS_MHALT = false)
    (hmk : mk (s.atCommands.on handOver) (descOf op h [(16, [n.toNat])]) [ctxOf (s.atCommands.on handOver).dev h] =
      { used := [(16, 1)], argOk := ok, target := tgt, act := tryDev f }) (hok : ok = true) (htgt : tgt = true)
    (hf : f (handOver s.atCommands.dev) = (no, e)) (hbs : e.bs = s.atCommands.dev.bs)
    (hP : ∀ q, P { e with host := { e.host with cpls := q } }) :
    ∃ t : State, exec c s = .next t ∧ t.pending = s.pending ∧ P t.sys.dev ∧
      Answered h (if no then stRefused else stSuccess) 0 s.atCommands.dev t.sys.dev := by
  have hact : tryDev f (s.atCommands.on handOver) =
      .fin (if no then stRefused else stSuccess) 0 { s.atCommands with dev := e } := by
    have hdev : f (s.atCommands.on handOver).dev = (no, e) := hf
    simp only [tryDev, hdev]
    rfl
  exact completes_unitArg he ht hp hl hsill hop hgate hmk rfl hok htgt rfl rfl hact hbs hP

end Sys2Proof.Machine
end

section
/-! PROOFS about feed groups: enabling, disabling, and a change of the feed that a host asks for (R25, R220, R221). -/

namespace Sys2Proof.Machine
open R

/-! ### Enabling (R212, R220) -/

/-- The fields that ending a lockout writes. -/
def unlockIds : List Nat := [FU_STATUS_RCNT.id, FU_STATUS_STATE.id]

theorem fuUnlock_writes (d : Dev) (f : Nat) : WritesOnly unlockIds d (fuUnlock d f) := by
  unfold fuUnlock
  split
  · exact ((WritesOnly.refl _ d).wr (by decide) _ _).wr (by decide) _ _
  · exact .refl _ d

theorem groupUnlock_writes (d : Dev) (n : Nat) : WritesOnly unlockIds d (groupUnlock d n) :=
  (WritesOnly.refl _ d).forL _ _ fun f x => fuUnlock_writes x f

/-- The release of a group's members leaves the groups. -/
theorem groupUnlock_fg (d : Dev) (n m : Nat) : (groupUnlock d n).fg m = d.fg m := by
  have hgrp : (groupUnlock d n).grp = d.grp := foldl_keeps Dev.grp (fun x f => fuUnlock x f)
    (fun x f => by unfold fuUnlock; split <;> rfl) _ d
  simp only [Dev.fg, hgrp]

theorem chanOfFuse_congr {d e : Dev} (hrole : ∀ c, e.rd CD_ENT_ROLE c = d.rd CD_ENT_ROLE c)
    (hunit : ∀ c, e.rd CD_ENT_UNIT c = d.rd CD_ENT_UNIT c) (f : Nat) : chanOfFuse e f = chanOfFuse d f := by
  simp [chanOfFuse, chanFind, roleOf, hrole, hunit]

/-- The fields that make a fuse a member of a group. -/
def memberIds : List Nat := [FU_CFG_VALID.id, CD_ENT_ROLE.id, CD_ENT_UNIT.id, CD_ENT_OWNK.id, CD_ENT_OWNN.id]

theorem groupMembers_congr {d e : Dev} (h : ∀ (r : Reg) (ix : Nat), r.id ∈ memberIds → e.rd r ix = d.rd r ix) (n : Nat) :
    groupMembers e n = groupMembers d n := by
  have hchan : chanOfFuse e = chanOfFuse d :=
    funext (chanOfFuse_congr (fun c => h _ c (by decide)) (fun c => h _ c (by decide)))
  have hmem : ∀ f, (fuValid e f && fuInfg e f && fuFg e f == n) = (fuValid d f && fuInfg d f && fuFg d f == n) := fun f => by
    have hinfg : fuInfg e f = fuInfg d f := by simp (disch := decide) only [fuInfg, hchan, h]
    have hfg : fuFg e f = fuFg d f := by
      unfold fuFg
      rw [hchan]
      split
      · exact h _ _ (by decide)
      · rfl
    rw [hinfg, hfg, fuValid, Dev.fl_congr (h _ f (by decide)), ← fuValid]
  simp only [groupMembers, hmem]

theorem classShed_congr {d e : Dev} {f : Nat} (hcls : ∀ ix, e.rd BS_LCLS_F ix = d.rd BS_LCLS_F ix)
    (hshed : e.rd BS_STATUS_SHED = d.rd BS_STATUS_SHED) : classShed e f = classShed d f := by
  have hclass : fuseClass e f = fuseClass d f := by rw [fuseClass, hcls, ← fuseClass]
  unfold classShed
  rw [hclass, Dev.bit, hshed, ← Dev.bit]

/-- Neither the shed of a group nor the sequencer's claim on it turns on what the release writes. -/
theorem groupUnlock_claims (d : Dev) (n : Nat) :
    groupShed (groupUnlock d n) n = groupShed d n ∧ seqClaim (groupUnlock d n) 3 n = seqClaim d 3 n := by
  have hrd := (groupUnlock_writes d n).1
  constructor
  · have hids : ∀ id ∈ memberIds, id ∉ unlockIds := by decide
    have hmem : groupMembers (groupUnlock d n) n = groupMembers d n := groupMembers_congr (fun r ix m => hrd r ix (hids r.id m)) n
    have hcls : classShed (groupUnlock d n) = classShed d :=
      funext fun f => classShed_congr (fun ix => hrd _ ix (by decide)) (hrd _ 0 (by decide))
    rw [groupShed, groupUnlock_fg, hmem, hcls, ← groupShed]
  · simp (disch := decide) [seqClaim, stepOf, nStep, stepKind, stepTgt, stepState, hrd]

/-- A claim for a group that is neither shed nor held off by the sequencer enables it, with no claim left waiting. -/
theorem hostClaim_group_on {d : Dev} {n : Nat} (hsh : groupShed d n = false) (hseq : seqClaim d 3 n ≠ some false) :
    ∃ x y : GroupSt, y.en = true ∧ y.pend = none ∧ hostClaim d 3 n true = ((groupUnlock d n).setFg n x).setFg n y := by
  obtain ⟨hshed, hclaim⟩ := groupUnlock_claims d n
  have hlost : ((true && kindShed (groupUnlock d n) 3 n) || seqClaim (groupUnlock d n) 3 n == some (!true)
      || (true && 3 == 1 && railState (groupUnlock d n) n == vrRampdn)) = false := by
    simp [kindShed, hshed, hclaim, hsh, hseq]
  have hshed' : groupShed (setPend (groupUnlock d n) 3 n none) n = false := by
    rw [← hsh, ← hshed]
    simp only [groupShed, setPend, Dev.fg_setFg]
    rfl
  refine ⟨{ (groupUnlock d n).fg n with pend := none }, { (groupUnlock d n).fg n with pend := none, en := true }, rfl, rfl, ?_⟩
  unfold hostClaim
  simp only [if_true, hlost, Bool.false_eq_true, if_false, targetAct, groupEnable, hshed']
  simp [setPend]

/-! ### Disabling (R220) -/

/-- A member of a group is not selected and neither on, ramping nor tripped. -/
def memberClosed (d : Dev) (f : Nat) : Bool :=
  !d.fl FU_STATUS_SEL f && fuState d f != fuOn && fuState d f != fuRamp && fuState d f != fuTripped

/-- A member is opened. -/
def memberOpen (f : Nat) (d : Dev) : Dev :=
  let d := d.wr FU_STATUS_SEL f 0
  let st := fuState d f
  if st = fuRamp ∨ st = fuOn ∨ st = fuTripped then d.wr FU_STATUS_STATE f fuOff else d

theorem memberClosed_congr {d e : Dev} {f : Nat} (hsel : e.rd FU_STATUS_SEL f = d.rd FU_STATUS_SEL f)
    (hst : e.rd FU_STATUS_STATE f = d.rd FU_STATUS_STATE f) : memberClosed e f = memberClosed d f := by
  simp [memberClosed, fuState, Dev.fl, hsel, hst]

theorem memberOpen_keeps (d : Dev) (f : Nat) : KeepsBut [(FU_STATUS_SEL, f), (FU_STATUS_STATE, f)] d (memberOpen f d) := by
  have hsel : KeepsBut [(FU_STATUS_SEL, f), (FU_STATUS_STATE, f)] d (d.wr FU_STATUS_SEL f 0) :=
    (KeepsBut.refl _ d).wr _ _ _ (by simp)
  unfold memberOpen; dsimp only
  split
  · exact hsel.wr _ _ _ (by simp)
  · exact hsel

theorem memberOpen_bs (d : Dev) (f : Nat) : (memberOpen f d).bs = d.bs := by
  unfold memberOpen; dsimp only; split <;> rfl

/-- An opened member is closed to the feed. -/
theorem memberOpen_closes (d : Dev) (f : Nat) : memberClosed (memberOpen f d) f = true := by
  have hsel : (d.wr FU_STATUS_SEL f 0).fl FU_STATUS_SEL f = false := Dev.fl_wrB d FU_STATUS_SEL f false rfl
  unfold memberOpen; dsimp only
  split
  case isTrue =>
    have hst : fuState ((d.wr FU_STATUS_SEL f 0).wr FU_STATUS_STATE f fuOff) f = fuOff := Dev.rd_wr ..
    rw [memberClosed, Dev.fl_wr_ne _ _ _ _ (by decide), hsel, hst]
    decide
  case isFalse hst =>
    simp only [not_or] at hst
    obtain ⟨hramp, hon, htrip⟩ := hst
    simp [memberClosed, hsel, hramp, hon, htrip]

/-- Opening another member leaves it. -/
theorem memberOpen_other (d : Dev) {f g : Nat} (h : memberClosed d g = true) : memberClosed (memberOpen f d) g = true := by
  by_cases hfg : g = f
  · rw [hfg]; exact memberOpen_closes d f
  · rw [← h]
    exact memberClosed_congr (memberOpen_keeps d f _ _ (by simp [hfg])) (memberOpen_keeps d f _ _ (by simp [hfg]))

theorem membersOpen_closed (l : List Nat) (d : Dev) : ∀ g, g ∈ l ∨ memberClosed d g = true → memberClosed (forL l memberOpen d) g = true := by
  induction l generalizing d with
  | nil => simp [forL]
  | cons f l ih =>
    intro g hg
    refine ih (memberOpen f d) g ?_
    rcases hg with hmem | hclosed
    · rcases List.mem_cons.mp hmem with rfl | hmem
      · exact .inr (memberOpen_closes d g)
      · exact .inl hmem
    · exact .inr (memberOpen_other d hclosed)

/-- A group that is disabled opens its members; no change of its feed is in progress. -/
theorem groupDisable_eq (d : Dev) (n : Nat) : ∃ (e : Dev) (x : GroupSt), x.en = false ∧ groupDisable d n = e.setFg n x ∧
    WritesOnly [FU_STATUS_GMAN.id, FU_STATUS_XFER.id] (forL (groupMembers d n) memberOpen d) e := by
  unfold groupDisable
  extract_lets a b
  refine ⟨b, _, rfl, rfl, ?_⟩
  have ha : a = forL (groupMembers d n) memberOpen d := rfl
  rw [← ha]
  simp only [b]
  split
  · exact ((WritesOnly.refl _ a).wr (by decide) _ _).wr (by decide) _ _
  · exact .refl _ a

theorem groupDisable_shows (d : Dev) (n : Nat) : ((groupDisable d n).fg n).en = false ∧
    (∀ f ∈ groupMembers d n, memberClosed (groupDisable d n) f = true) ∧ (groupDisable d n).bs = d.bs := by
  obtain ⟨e, x, hen, heq, hrd, hbs⟩ := groupDisable_eq d n
  have hopen : (forL (groupMembers d n) memberOpen d).bs = d.bs := foldl_keeps Dev.bs (fun x f => memberOpen f x) memberOpen_bs _ d
  rw [heq]
  refine ⟨by rw [Dev.fg_setFg, hen], fun f hf => ?_, hbs.trans hopen⟩
  exact (memberClosed_congr (hrd _ f (by decide)) (hrd _ f (by decide))).trans (membersOpen_closed _ d f (.inl hf))

/-- OFF of a group that no step names disables it. -/
theorem hostOff_group {d : Dev} {n : Nat} (hs : stepOf d 3 n = none) : hostOff d 3 n = groupDisable (setPend d 3 n none) n := by
  have hlost : ((false && kindShed d 3 n) || seqClaim d 3 n == some (!false) || (false && 3 == 1 && railState d n == vrRampdn))
      = false := by
    simp [seqClaim, hs]
  unfold hostOff hostClaim
  simp only [hs, hlost, Bool.false_eq_true, if_false, targetAct]

/-! ### A change of the feed (R221, R222) -/

theorem groupXfer_refused {d : Dev} {n : Nat} (h : (d.fg n).en = false ∨ (d.fg n).shed = true) : groupXfer d n = (true, d) := by
  simp [groupXfer, h]

theorem groupXfer_asks {d : Dev} {n : Nat} (hen : (d.fg n).en = true) (hsh : (d.fg n).shed = false) :
    groupXfer d n = (false, d.setFg n { d.fg n with req := true }) := by
  simp [groupXfer, hen, hsh]

/-- A change of the feed is asked of a group: it is enabled with no change in progress, its primary is selected and on with its
supply, and the secondary is available. -/
structure XferAsked (d : Dev) (n p q : Nat) : Prop where
  en : (d.fg n).en = true
  stuck : (d.fg n).stuck = false
  chg : (d.fg n).chg = none
  req : (d.fg n).req = true
  prim : groupPrim d n = some p
  sec : groupSec d n = some q
  sel : groupSel d n = some p
  on : fuState d p = fuOn
  supply : (d.fuz p).supply < 4
  avail : fuAvail d q = true

/-- The selection then changes to the secondary. -/
theorem groupSelect_asked {d : Dev} {n p q : Nat} (h : XferAsked d n p q) : groupSelect d n = groupChange d n p q true := by
  obtain ⟨hen, hstuck, hchg, hreq, hprim, hsec, hsel, hon, hsupply, havail⟩ := h
  have hwaits : changeWaits (d.fg n) = false := by simp [changeWaits, hchg]
  have hsup : ¬ 4 ≤ (d.fuz p).supply := by omega
  unfold groupSelect
  simp [hen, hstuck, hprim, hsec, hsel, hon, havail, hreq, hwaits, hsup, fuOn, fuTripped, fuLockout]

/-- The two members of a group differ by their priority. -/
theorem groupPrim_ne_groupSec {d : Dev} {n p q : Nat} (hp : groupPrim d n = some p) (hq : groupSec d n = some q) : q ≠ p := by
  have hprim := List.find?_some hp
  have hsec := List.find?_some hq
  rintro rfl
  simp [hsec] at hprim

/-- A change of the feed that the host asked for shows in the two selections and in the primary's flags. -/
theorem groupChange_shows {d : Dev} {n p q : Nat} (hprim : groupPrim d n = some p) (hc : (chanOfFuse d p).isSome = true) (hne : q ≠ p) :
    (groupChange d n p q true).fl FU_STATUS_SEL p = false ∧ (groupChange d n p q true).fl FU_STATUS_SEL q = true ∧
    (groupChange d n p q true).fl FU_STATUS_XFER p = true ∧ (groupChange d n p q true).fl FU_STATUS_GMAN p = true := by
  obtain ⟨c, hc⟩ := Option.isSome_iff_exists.mp hc
  have heq : ∃ x : GroupSt, groupChange d n p q true =
      (((((memberOff d p).wr FU_STATUS_SEL p 0).wr FU_STATUS_SEL q 1).wrB FU_STATUS_GMAN p true).wr FU_STATUS_XFER p 1).setFg n x := by
    unfold groupChange
    split
    case h_1 p' c' hp' _ =>
      obtain rfl : p = p' := by simpa [hprim] using hp'
      extract_lets st x tripped ch a b
      exact ⟨_, rfl⟩
    case h_2 hno => exact absurd hc (hno _ _ hprim)
  obtain ⟨x, heq⟩ := heq
  rw [heq]
  refine ⟨?out, ?inc, ?xfer, ?man⟩
  case out =>
    simp (disch := decide) only [Dev.setFg_fl, Dev.wrB, Dev.fl_wr_ne]
    rw [Dev.fl_congr (Dev.rd_wr_ix _ _ _ hne.symm)]
    exact Dev.fl_wrB _ FU_STATUS_SEL p false rfl
  case inc =>
    simp (disch := decide) only [Dev.setFg_fl, Dev.wrB, Dev.fl_wr_ne]
    exact Dev.fl_wrB _ FU_STATUS_SEL q true rfl
  case xfer =>
    rw [Dev.setFg_fl]
    exact Dev.fl_wrB _ FU_STATUS_XFER p true rfl
  case man =>
    rw [Dev.setFg_fl, Dev.fl_wr_ne _ _ _ _ (by decide)]
    exact Dev.fl_wrB _ FU_STATUS_GMAN p true rfl

end Sys2Proof.Machine
end

section
/-! PROOFS about the host commands of feed groups, the bus, caps and throttles (R173, R176, R177, R220, R221, R247, R291). -/

namespace Sys2Proof.Machine
open R

/-! ### Values that are staged, and throttle requests (R17, R247) -/

/-- A staged value is among those that wait, cut to its field's width. -/
theorem stage_mem (d : Dev) (batch : Nat) (r : Reg) (ix v : Nat) :
    { batch := batch, reg := r, ix := ix, val := v % 2 ^ r.w } ∈ (stage d batch r ix v).staged := by
  unfold stage
  extract_lets rest a b
  have hb : b.staged = rest ++ [{ batch := batch, reg := r, ix := ix, val := v % 2 ^ r.w }] := by
    simp only [b]
    split <;> rfl
  have hmem : { batch := batch, reg := r, ix := ix, val := v % 2 ^ r.w } ∈ b.staged := by simp [hb]
  split
  · split <;> exact hmem
  · exact hmem

/-- Staging a value changes no value in force. -/
theorem stage_keeps (l : List (Reg × Nat)) (d : Dev) (batch : Nat) (r : Reg) (ix v : Nat) : KeepsBut l d (stage d batch r ix v) :=
  (KeepsBut.refl l d).of_regs (stage_regs ..)

/-- A value that a test accepts is found by it once it is staged. -/
theorem stage_any (d : Dev) (batch : Nat) (r : Reg) (ix v : Nat) {p : Staged → Bool}
    (hp : p { batch := batch, reg := r, ix := ix, val := v % 2 ^ r.w } = true) : (stage d batch r ix v).staged.any p = true :=
  List.any_eq_true.mpr ⟨_, stage_mem d batch r ix v, hp⟩

/-- A sender's request for an output is kept. -/
theorem throtReq_bit (d : Dev) (src out : Nat) (on : Bool) : bitOf (throtReq d src out on).gov.req (4 * src + out) = on :=
  bitOf_setBit ..

theorem throtReq_keeps (d : Dev) (src out : Nat) (on : Bool) :
    KeepsBut [(CP_STATUS_THR, 0), (CP_ASSERT_BUS, 0), (CP_ASSERT_RAILCAP, 0), (CP_ASSERT_FORCE, 0)] d (throtReq d src out on) :=
  throtUpdate_keepsBut ((KeepsBut.refl _ d).of_regs rfl) (fun _ m => m)

/-! ### Targets -/

theorem groupOk_lt {d : Dev} {n : Nat} (h : groupOk d n = true) : decide (n < 16) = true := (Bool.and_eq_true_iff.mp h).1
theorem feederOk_lt {d : Dev} {i : Nat} (h : feederOk d i = true) : decide (i < 8) = true := (Bool.and_eq_true_iff.mp h).1
theorem feederOk_chan {d : Dev} {i : Nat} (h : feederOk d i = true) : (fmChan d i).isSome = true := (Bool.and_eq_true_iff.mp h).2

/-! ### The commands, from their rows to their completions -/

section
variable {s : State} {h : Sender} {P : Dev → Prop} {e : Dev}

/-- FG_ON. -/
theorem completes_fgOn {n : Byte} (ht : s.turn) (hp : h.path ≠ .sp) (hl : h.lcl = false) (hsill : s.atCommands.dev.sill = false)
    (hok : groupOk s.atCommands.dev n.toNat = true) (hfe : hostClaim (handOver s.atCommands.dev) 3 n.toNat true = e)
    (hbs : e.bs = s.atCommands.dev.bs) (hP : ∀ q, P { e with host := { e.host with cpls := q } }) :
    ∃ t : State, exec (.fgOn h n) s = .next t ∧ t.pending = s.pending ∧ P t.sys.dev ∧
      Answered h stSuccess 0 s.atCommands.dev t.sys.dev :=
  completes_okDev (mk := hcFgOn) rfl ht hp hl hsill (by decide) (fun hg => absurd hg (by decide)) rfl (groupOk_lt hok) hok hfe hbs hP

/-- FG_OFF. -/
theorem completes_fgOff {n : Byte} (ht : s.turn) (hp : h.path ≠ .sp) (hl : h.lcl = false)
    (hhalt : s.atCommands.dev.fl GL_STATUS_MHALT = false) (hsill : s.atCommands.dev.sill = false)
    (hok : groupOk s.atCommands.dev n.toNat = true) (hfe : hostOff (handOver s.atCommands.dev) 3 n.toNat = e)
    (hbs : e.bs = s.atCommands.dev.bs) (hP : ∀ q, P { e with host := { e.host with cpls := q } }) :
    ∃ t : State, exec (.fgOff h n) s = .next t ∧ t.pending = s.pending ∧ P t.sys.dev ∧
      Answered h stSuccess 0 s.atCommands.dev t.sys.dev :=
  completes_okDev (mk := hcFgOff) rfl ht hp hl hsill (by decide) (fun _ => hhalt) rfl (groupOk_lt hok) hok hfe hbs hP

/-- FG_XFER. -/
theorem completes_fgXfer {n : Byte} {no : Bool} (ht : s.turn) (hp : h.path ≠ .sp) (hl : h.lcl = false)
    (hhalt : s.atCommands.dev.fl GL_STATUS_MHALT = false) (hsill : s.atCommands.dev.sill = false)
    (hok : groupOk s.atCommands.dev n.toNat = true) (hfe : groupXfer (handOver s.atCommands.dev) n.toNat = (no, e))
    (hbs : e.bs = s.atCommands.dev.bs) (hP : ∀ q, P { e with host := { e.host with cpls := q } }) :
    ∃ t : State, exec (.fgXfer h n) s = .next t ∧ t.pending = s.pending ∧ P t.sys.dev ∧
      Answered h (if no then stRefused else stSuccess) 0 s.atCommands.dev t.sys.dev :=
  completes_tryDev (mk := hcFgXfer) rfl ht hp hl hsill (by decide) (fun _ => hhalt) rfl (groupOk_lt hok) hok hfe hbs hP

/-- FEEDER_REMOVE. -/
theorem completes_feederRemove {i : Byte} {no : Bool} (ht : s.turn) (hp : h.path ≠ .sp) (hl : h.lcl = false)
    (hsill : s.atCommands.dev.sill = false) (hok : feederOk s.atCommands.dev i.toNat = true)
    (hfe : feederHostRemove (handOver s.atCommands.dev) i.toNat = (no, e)) (hbs : e.bs = s.atCommands.dev.bs)
    (hP : ∀ q, P { e with host := { e.host with cpls := q } }) :
    ∃ t : State, exec (.feederRemove h i) s = .next t ∧ t.pending = s.pending ∧ P t.sys.dev ∧
      Answered h (if no then stRefused else stSuccess) 0 s.atCommands.dev t.sys.dev :=
  completes_tryDev (mk := hcFeederRemove) rfl ht hp hl hsill (by decide) (fun hg => absurd hg (by decide)) rfl (feederOk_lt hok)
    hok hfe hbs hP

/-- FEEDER_READMIT. -/
theorem completes_feederReadmit {i : Byte} (ht : s.turn) (hp : h.path ≠ .sp) (hl : h.lcl = false)
    (hsill : s.atCommands.dev.sill = false) (hok : feederOk s.atCommands.dev i.toNat = true)
    (hfe : feederReadmit (handOver s.atCommands.dev) i.toNat = e) (hbs : e.bs = s.atCommands.dev.bs)
    (hP : ∀ q, P { e with host := { e.host with cpls := q } }) :
    ∃ t : State, exec (.feederReadmit h i) s = .next t ∧ t.pending = s.pending ∧ P t.sys.dev ∧
      Answered h stSuccess 0 s.atCommands.dev t.sys.dev :=
  completes_okDev (mk := hcFeederReadmit) rfl ht hp hl hsill (by decide) (fun hg => absurd hg (by decide)) rfl (feederOk_lt hok) hok
    hfe hbs hP

/-- A command that stages one value in the sender's batch (R296, R427). -/
theorem completes_staging {c : Instr} {op : Nat} {l : List Nat} {mk : Sys → List Nat → List HCtx → HCmd} {used : List (Nat × Nat)}
    {ok tgt : Bool} {r : Reg} {ix : Nat} {v : Dev → Nat} {p : Staged → Bool}
    (he : exec c s = sysRow (hostCmd op h [(16, l)] mk) s) (ht : s.turn) (hp : h.path ≠ .sp) (hl : h.lcl = false)
    (hsill : s.atCommands.dev.sill = false) (hop : op < 65536) (hgate : gatedOps.contains op = false) (hlen : l.length ≤ 48)
    (hmk : mk (s.atCommands.on handOver) (descOf op h [(16, l)]) [ctxOf (s.atCommands.on handOver).dev h] =
      { used := used, argOk := ok, target := tgt, act := okDev (fun d => stage d (accIx h.path + 1) r ix (v d)) })
    (hused : used = [(16, l.length)]) (hok : ok = true) (htgt : tgt = true)
    (hfind : p { batch := accIx h.path + 1, reg := r, ix := ix, val := v (handOver s.atCommands.dev) % 2 ^ r.w } = true) :
    ∃ t : State, exec c s = .next t ∧ t.pending = s.pending ∧ t.sys.dev.staged.any p = true ∧ KeepsBut [] s.atCommands.dev t.sys.dev ∧
      Answered h stSuccess 0 s.atCommands.dev t.sys.dev := by
  have hkeep := stage_keeps [] (handOver s.atCommands.dev) (accIx h.path + 1) r ix (v (handOver s.atCommands.dev))
  have hany := stage_any (handOver s.atCommands.dev) (accIx h.path + 1) r ix (v (handOver s.atCommands.dev)) hfind
  have hbs := stage_bs (handOver s.atCommands.dev) (accIx h.path + 1) r ix (v (handOver s.atCommands.dev))
  obtain ⟨t, he, hpend, ⟨hstaged, hkept⟩, hans⟩ := completes_bytes
    (P := fun x => x.staged.any p = true ∧ KeepsBut [] s.atCommands.dev x) he ht hp hl hsill hop
    (fun hg => absurd hg (by rw [hgate]; decide)) hlen hmk hused hok htgt rfl rfl rfl hbs (fun q => ⟨hany, hkeep.withCpls q⟩)
  exact ⟨t, he, hpend, hstaged, hkept, hans⟩

/-- THROT_SET for an output pin in mode 0. -/
theorem completes_throtSet {k on : Byte} (ht : s.turn) (hp : h.path ≠ .sp) (hl : h.lcl = false)
    (hsill : s.atCommands.dev.sill = false) (hk : k.toNat < 4) (hon : on.toNat < 2) {st : Nat}
    (hact : (hcThrotSet (s.atCommands.on handOver) (descOf 0x0131 h [(16, [k.toNat, on.toNat])])
      [ctxOf (s.atCommands.on handOver).dev h]).act (s.atCommands.on handOver) = .fin st 0 { s.atCommands with dev := e })
    (hbs : e.bs = s.atCommands.dev.bs) (hP : ∀ q, P { e with host := { e.host with cpls := q } }) :
    ∃ t : State, exec (.throtSet h k on) s = .next t ∧ t.pending = s.pending ∧ P t.sys.dev ∧
      Answered h st 0 s.atCommands.dev t.sys.dev := by
  have harg : (decide (k.toNat < 4) && decide (on.toNat < 2)) = true := by simp [hk, hon]
  exact completes_bytes rfl ht hp hl hsill (by decide) (fun hg => absurd hg (by decide)) (show 2 ≤ 48 by decide) rfl rfl harg rfl rfl
    rfl hact hbs hP

end

/-! ### The arguments of CAP_SET (R291) -/

section
variable {s : Sys} {h : Sender} {cs : List HCtx} {k n : Byte} (w : BitVec 16)

theorem hcCapSet_hub (hk : k.toNat = 0) : hcCapSet s (descOf 0x0130 h [(16, [k.toNat, n.toNat] ++ le 2 w.toNat)]) cs =
    { used := [(16, 4)], argOk := n.toNat == 0, target := true, act := okDev (fun d => stage d (srcOf cs + 1) CP_HUB_CAPW 0 w.toNat) } := by
  have hkind : a1 (descOf 0x0130 h [(16, [k.toNat, n.toNat] ++ le 2 w.toNat)]) 16 = 0 := hk
  unfold hcCapSet
  rw [a2_behind, hkind]
  rfl

theorem hcCapSet_holdup (hk : k.toNat = 3) : hcCapSet s (descOf 0x0130 h [(16, [k.toNat, n.toNat] ++ le 2 w.toNat)]) cs =
    { used := [(16, 4)], argOk := n.toNat == 0, target := true,
      act := okDev (fun d => stage d (srcOf cs + 1) CP_HUCAP_HUCAP 0 w.toNat) } := by
  have hkind : a1 (descOf 0x0130 h [(16, [k.toNat, n.toNat] ++ le 2 w.toNat)]) 16 = 3 := hk
  unfold hcCapSet
  rw [a2_behind, hkind]
  rfl

theorem hcCapSet_rail (hk : k.toNat = 1) : hcCapSet s (descOf 0x0130 h [(16, [k.toNat, n.toNat] ++ le 2 w.toNat)]) cs =
    { used := [(16, 4)], argOk := decide (n.toNat < 16), target := railOk s.dev n.toNat, act := okDev (fun d =>
      stage d (srcOf cs + 1) CP_RAIL n.toNat (setBits (pendingVal d CP_RAIL n.toNat) 0 16 w.toNat)) } := by
  have hkind : a1 (descOf 0x0130 h [(16, [k.toNat, n.toNat] ++ le 2 w.toNat)]) 16 = 1 := hk
  unfold hcCapSet
  rw [a2_behind, hkind]
  rfl

end

/-- The low half of a rail's cap word that a cap was set in. -/
theorem capWord_low (v : Nat) (w : BitVec 16) : setBits v 0 16 w.toNat % 2 ^ CP_RAIL.w % 65536 = w.toNat := by
  have hwid : CP_RAIL.w = 32 := rfl
  have hlow := bitsOf_setBits v 0 16 w.toNat
  have hw := w.isLt
  simp only [bitsOf, pow_zero, Nat.div_one] at hlow
  rw [hwid]
  omega

/-! ### What each command does -/

section
variable {s : State} {h : Sender}

/-- FG_ON of a group that is neither shed nor held off by the sequencer. -/
theorem fgOn_acts {n : Byte} (ht : s.turn) (hp : h.path ≠ .sp) (hl : h.lcl = false) (hsill : s.atCommands.dev.sill = false)
    (hok : groupOk s.atCommands.dev n.toNat = true) (hsh : groupShed s.atCommands.dev n.toNat = false)
    (hseq : seqClaim s.atCommands.dev 3 n.toNat ≠ some false) : ∃ t : State, exec (.fgOn h n) s = .next t ∧
    t.pending = s.pending ∧ ((t.sys.dev.fg n.toNat).en = true ∧ (t.sys.dev.fg n.toNat).pend = none) ∧
    Answered h stSuccess 0 s.atCommands.dev t.sys.dev := by
  obtain ⟨x, y, hen, hpend, heq⟩ := hostClaim_group_on (d := handOver s.atCommands.dev) hsh hseq
  have hgroup := Dev.fg_setFg ((groupUnlock (handOver s.atCommands.dev) n.toNat).setFg n.toNat x) n.toNat y
  exact completes_fgOn (P := fun z => (z.fg n.toNat).en = true ∧ (z.fg n.toNat).pend = none) ht hp hl hsill hok heq
    (groupUnlock_writes (handOver s.atCommands.dev) n.toNat).2
    (fun _ => ⟨(congrArg GroupSt.en hgroup).trans hen, (congrArg GroupSt.pend hgroup).trans hpend⟩)

/-- FG_OFF of a group that no step names. -/
theorem fgOff_acts {n : Byte} (ht : s.turn) (hp : h.path ≠ .sp) (hl : h.lcl = false)
    (hhalt : s.atCommands.dev.fl GL_STATUS_MHALT = false) (hsill : s.atCommands.dev.sill = false)
    (hok : groupOk s.atCommands.dev n.toNat = true) (hs : stepOf s.atCommands.dev 3 n.toNat = none) :
    ∃ t : State, exec (.fgOff h n) s = .next t ∧ t.pending = s.pending ∧ ((t.sys.dev.fg n.toNat).en = false ∧
    ∀ f ∈ groupMembers s.atCommands.dev n.toNat, memberClosed t.sys.dev f = true) ∧
    Answered h stSuccess 0 s.atCommands.dev t.sys.dev := by
  have heq := hostOff_group (d := handOver s.atCommands.dev) hs
  have hmem : groupMembers (setPend (handOver s.atCommands.dev) 3 n.toNat none) n.toNat = groupMembers s.atCommands.dev n.toNat :=
    groupMembers_congr (fun _ _ _ => rfl) _
  obtain ⟨hen, hall, hbs⟩ := groupDisable_shows (setPend (handOver s.atCommands.dev) 3 n.toNat none) n.toNat
  rw [hmem] at hall
  generalize groupDisable (setPend (handOver s.atCommands.dev) 3 n.toNat none) n.toNat = e at heq hen hall hbs
  exact completes_fgOff (P := fun z => (z.fg n.toNat).en = false ∧
    ∀ f ∈ groupMembers s.atCommands.dev n.toNat, memberClosed z f = true) ht hp hl hhalt hsill hok heq hbs
    (fun _ => ⟨hen, fun f hf => (memberClosed_congr rfl rfl).trans (hall f hf)⟩)

/-- What the selection makes of a change that was asked for. -/
def XferShown (d : Dev) (n p q : Nat) : Prop :=
  (groupSelect d n).fl FU_STATUS_SEL p = false ∧ (groupSelect d n).fl FU_STATUS_SEL q = true ∧
    (groupSelect d n).fl FU_STATUS_XFER p = true ∧ (groupSelect d n).fl FU_STATUS_GMAN p = true

theorem XferAsked.shown {d : Dev} {n p q : Nat} (hx : XferAsked d n p q) (hc : (chanOfFuse d p).isSome = true) : XferShown d n p q := by
  unfold XferShown
  rw [groupSelect_asked hx]
  exact groupChange_shows hx.prim hc (groupPrim_ne_groupSec hx.prim hx.sec)

/-- FG_XFER of a group whose primary is on with its supply and whose secondary is available. -/
theorem fgXfer_acts {n : Byte} {p q : Nat} (ht : s.turn) (hp : h.path ≠ .sp) (hl : h.lcl = false)
    (hhalt : s.atCommands.dev.fl GL_STATUS_MHALT = false) (hsill : s.atCommands.dev.sill = false)
    (hok : groupOk s.atCommands.dev n.toNat = true) (hsh : (s.atCommands.dev.fg n.toNat).shed = false)
    (hx : XferAsked (s.atCommands.dev.setFg n.toNat { s.atCommands.dev.fg n.toNat with req := true }) n.toNat p q)
    (hc : (chanOfFuse s.atCommands.dev p).isSome = true) :
    ∃ t : State, exec (.fgXfer h n) s = .next t ∧ t.pending = s.pending ∧
    ((t.sys.dev.fg n.toNat).req = true ∧ XferShown t.sys.dev n.toNat p q) ∧ Answered h stSuccess 0 s.atCommands.dev t.sys.dev := by
  have hen : (s.atCommands.dev.fg n.toNat).en = true := by simpa using hx.en
  have heq := groupXfer_asks (d := handOver s.atCommands.dev) hen hsh
  refine completes_fgXfer (P := fun z => (z.fg n.toNat).req = true ∧ XferShown z n.toNat p q) ht hp hl hhalt hsill hok heq rfl
    fun cpls => ⟨hx.req, XferAsked.shown ?_ hc⟩
  obtain ⟨hen, hstuck, hchg, hreq, hprim, hsec, hsel, hon, hsupply, havail⟩ := hx
  exact ⟨hen, hstuck, hchg, hreq, hprim, hsec, hsel, hon, hsupply, havail⟩

/-- BUS_VSET stages the bus target in the sender's batch. -/
theorem busVset_acts {v : BitVec 16} (ht : s.turn) (hp : h.path ≠ .sp) (hl : h.lcl = false) (hsill : s.atCommands.dev.sill = false) :
    ∃ t : State, exec (.busVset h v) s = .next t ∧ t.pending = s.pending ∧ t.sys.dev.staged.any (fun y =>
    y.reg.id == FD_VSET_VSET.id && y.val == v.toNat && y.batch == accIx h.path + 1) = true ∧ KeepsBut [] s.atCommands.dev t.sys.dev ∧
    Answered h stSuccess 0 s.atCommands.dev t.sys.dev := by
  have hmk : hcBusVset (s.atCommands.on handOver) (descOf 0x0120 h [(16, le 2 v.toNat)]) [ctxOf (s.atCommands.on handOver).dev h] =
      { used := [(16, 2)], act := okDev (fun d => stage d (accIx h.path + 1) FD_VSET_VSET 0 v.toNat) } := by
    unfold hcBusVset
    rw [a2_half]
    rfl
  have hv : v.toNat % 2 ^ FD_VSET_VSET.w = v.toNat := Nat.mod_eq_of_lt v.isLt
  exact completes_staging rfl ht hp hl hsill (by decide) (by decide) (show 2 ≤ 48 by decide) hmk rfl rfl rfl (by simp [hv])

/-- FEEDER_REMOVE of an idle feeder. -/
theorem feederRemove_idle_acts {i : Byte} (ht : s.turn) (hp : h.path ≠ .sp) (hl : h.lcl = false)
    (hsill : s.atCommands.dev.sill = false) (hok : feederOk s.atCommands.dev i.toNat = true)
    (hst : fmState s.atCommands.dev i.toNat = fmIdle) : ∃ t : State, exec (.feederRemove h i) s = .next t ∧ t.pending = s.pending ∧
    (t.sys.dev.fl FD_EVT_REFUSED = true ∧ KeepsBut [(FD_EVT_REFUSED, 0)] s.atCommands.dev t.sys.dev) ∧
    Answered h stRefused 0 s.atCommands.dev t.sys.dev :=
  completes_feederRemove (P := fun z => z.fl FD_EVT_REFUSED = true ∧ KeepsBut [(FD_EVT_REFUSED, 0)] s.atCommands.dev z) ht hp hl hsill
    hok (feederHostRemove_idle (d := handOver s.atCommands.dev) hst) (Dev.ev_bs ..)
    (fun q => ⟨Dev.fl_ev _ _ 0 rfl, (((KeepsBut.refl _ _).handOver).ev _ 0 (by simp)).withCpls q⟩)

/-- FEEDER_REMOVE of a feeder in WAIT. -/
theorem feederRemove_wait_acts {i : Byte} (ht : s.turn) (hp : h.path ≠ .sp) (hl : h.lcl = false)
    (hsill : s.atCommands.dev.sill = false) (hok : feederOk s.atCommands.dev i.toNat = true)
    (hst : fmState s.atCommands.dev i.toNat = fmWait) : ∃ t : State, exec (.feederRemove h i) s = .next t ∧ t.pending = s.pending ∧
    (t.sys.dev.rd FD_FM_STATE i.toNat = fmRemoved ∧ t.sys.dev.rd FD_FM_REASON i.toNat = 1 ∧
      t.sys.dev.fl FD_EVT_REMOVE = true ∧
      t.sys.dev.rd FD_FM_NREM i.toNat = incSat FD_FM_NREM.w (s.atCommands.dev.rd FD_FM_NREM i.toNat)) ∧
    Answered h stSuccess 0 s.atCommands.dev t.sys.dev := by
  have hc : (fmChan (handOver s.atCommands.dev) i.toNat).isSome = true := feederOk_chan hok
  have hs : fmState (handOver s.atCommands.dev) i.toNat ≠ fmRemoved := fmWait_not_removed hst
  have hshow := feederRemove_shows hc hs (show 1 < 16 by decide) 2 (handOver s.atCommands.dev).curPm
  have hbs := feederRemove_bs hc hs 1 2 (handOver s.atCommands.dev).curPm
  have heq := feederHostRemove_wait hc hst
  generalize feederRemove (handOver s.atCommands.dev) i.toNat 1 2 (handOver s.atCommands.dev).curPm = e at hshow hbs heq
  exact completes_feederRemove (P := fun z => z.rd FD_FM_STATE i.toNat = fmRemoved ∧ z.rd FD_FM_REASON i.toNat = 1 ∧
    z.fl FD_EVT_REMOVE = true ∧ z.rd FD_FM_NREM i.toNat = incSat FD_FM_NREM.w (s.atCommands.dev.rd FD_FM_NREM i.toNat))
    ht hp hl hsill hok heq hbs (fun _ => hshow)

/-- FEEDER_READMIT of a removed feeder. -/
theorem feederReadmit_acts {i : Byte} (ht : s.turn) (hp : h.path ≠ .sp) (hl : h.lcl = false)
    (hsill : s.atCommands.dev.sill = false) (hok : feederOk s.atCommands.dev i.toNat = true)
    (hst : fmState s.atCommands.dev i.toNat = fmRemoved) : ∃ t : State, exec (.feederReadmit h i) s = .next t ∧
    t.pending = s.pending ∧ (t.sys.dev.rd FD_FM_STATE i.toNat = fmWait ∧ t.sys.dev.rd FD_FM_REASON i.toNat = 0 ∧
      t.sys.dev.fl FD_EVT_READMIT = true) ∧ Answered h stSuccess 0 s.atCommands.dev t.sys.dev := by
  have hc : (fmChan (handOver s.atCommands.dev) i.toNat).isSome = true := feederOk_chan hok
  have heq : feederReadmit (handOver s.atCommands.dev) i.toNat = feederReturn (handOver s.atCommands.dev) i.toNat := if_pos hst
  obtain ⟨hstate, hreason, hevent, -⟩ := feederReturn_shows hc
  have hbs := feederReturn_bs hc
  generalize feederReturn (handOver s.atCommands.dev) i.toNat = e at hstate hreason hevent hbs heq
  exact completes_feederReadmit (P := fun z => z.rd FD_FM_STATE i.toNat = fmWait ∧ z.rd FD_FM_REASON i.toNat = 0 ∧
    z.fl FD_EVT_READMIT = true) ht hp hl hsill hok heq hbs (fun _ => ⟨hstate, hreason, hevent⟩)

/-- CAP_SET of the hub's cap, or of its cap in hold-up. -/
theorem capSet_hub_acts {k n : Byte} {w : BitVec 16} (ht : s.turn) (hp : h.path ≠ .sp) (hl : h.lcl = false)
    (hsill : s.atCommands.dev.sill = false) (hk : k.toNat = 0 ∨ k.toNat = 3) (hn : n = 0) :
    ∃ t : State, exec (.capSet h k n w) s = .next t ∧ t.pending = s.pending ∧ t.sys.dev.staged.any (fun y =>
    y.reg.id == (if k.toNat = 0 then CP_HUB_CAPW.id else CP_HUCAP_HUCAP.id) && y.val == w.toNat) = true ∧
    KeepsBut [] s.atCommands.dev t.sys.dev ∧ Answered h stSuccess 0 s.atCommands.dev t.sys.dev := by
  have hnum : (n.toNat == 0) = true := by simp [hn]
  have hcap : w.toNat % 2 ^ CP_HUB_CAPW.w = w.toNat := Nat.mod_eq_of_lt w.isLt
  have hhold : w.toNat % 2 ^ CP_HUCAP_HUCAP.w = w.toNat := Nat.mod_eq_of_lt w.isLt
  rcases hk with hk | hk
  · exact completes_staging rfl ht hp hl hsill (by decide) (by decide) (show 4 ≤ 48 by decide) (hcCapSet_hub w hk) rfl hnum rfl
      (by simp [hk, hcap])
  · exact completes_staging rfl ht hp hl hsill (by decide) (by decide) (show 4 ≤ 48 by decide) (hcCapSet_holdup w hk) rfl hnum rfl
      (by simp [hk, hhold])

/-- CAP_SET of a rail's cap. -/
theorem capSet_rail_acts {k n : Byte} {w : BitVec 16} (ht : s.turn) (hp : h.path ≠ .sp) (hl : h.lcl = false)
    (hsill : s.atCommands.dev.sill = false) (hk : k.toNat = 1) (hok : railOk s.atCommands.dev n.toNat = true) :
    ∃ t : State, exec (.capSet h k n w) s = .next t ∧ t.pending = s.pending ∧ t.sys.dev.staged.any (fun y =>
    y.reg.id == CP_RAIL.id && y.ix == n.toNat && y.val % 65536 == w.toNat) = true ∧ KeepsBut [] s.atCommands.dev t.sys.dev ∧
    Answered h stSuccess 0 s.atCommands.dev t.sys.dev := by
  have hword := capWord_low (pendingVal (handOver s.atCommands.dev) CP_RAIL n.toNat) w
  exact completes_staging (v := fun d => setBits (pendingVal d CP_RAIL n.toNat) 0 16 w.toNat) rfl ht hp hl hsill (by decide) (by decide)
    (show 4 ≤ 48 by decide) (hcCapSet_rail w hk) rfl (railOk_lt hok) hok (by simpa using hword)

/-- THROT_SET for an output pin in mode 0 keeps the sender's request. -/
theorem throtSet_keeps_request {k on : Byte} (ht : s.turn) (hp : h.path ≠ .sp) (hl : h.lcl = false)
    (hsill : s.atCommands.dev.sill = false) (hk : k.toNat < 4) (hon : on.toNat < 2) (hmode : pinMode s.atCommands.dev k.toNat = 0) :
    ∃ t : State, exec (.throtSet h k on) s = .next t ∧ t.pending = s.pending ∧
    (bitOf t.sys.dev.gov.req (4 * accIx h.path + k.toNat) = (on == 1) ∧ KeepsBut [(CP_STATUS_THR, 0), (CP_ASSERT_BUS, 0),
      (CP_ASSERT_RAILCAP, 0), (CP_ASSERT_FORCE, 0)] s.atCommands.dev t.sys.dev) ∧
    Answered h stSuccess 0 s.atCommands.dev t.sys.dev := by
  have hbool : (on.toNat == 1) = (on == 1) := by
    rw [Bool.eq_iff_iff, beq_iff_eq, beq_iff_eq, BitVec.toNat_eq]
    rfl
  have hbit := throtReq_bit (handOver s.atCommands.dev) (accIx h.path) k.toNat (on.toNat == 1)
  have hkeep := throtReq_keeps (handOver s.atCommands.dev) (accIx h.path) k.toNat (on.toNat == 1)
  exact completes_throtSet (P := fun z => bitOf z.gov.req (4 * accIx h.path + k.toNat) = (on == 1) ∧ KeepsBut [(CP_STATUS_THR, 0),
    (CP_ASSERT_BUS, 0), (CP_ASSERT_RAILCAP, 0), (CP_ASSERT_FORCE, 0)] s.atCommands.dev z) ht hp hl hsill hk hon
    (if_neg (not_not_intro hmode)) rfl (fun q => ⟨hbit.trans hbool, hkeep.withCpls q⟩)

/-- THROT_SET for another pin is a conflict. -/
theorem throtSet_conflicts {k on : Byte} (ht : s.turn) (hp : h.path ≠ .sp) (hl : h.lcl = false)
    (hsill : s.atCommands.dev.sill = false) (hk : k.toNat < 4) (hon : on.toNat < 2) (hmode : pinMode s.atCommands.dev k.toNat ≠ 0) :
    ∃ t : State, exec (.throtSet h k on) s = .next t ∧ t.pending = s.pending ∧
    (t.sys.dev.gov.req = s.atCommands.dev.gov.req ∧ KeepsBut [] s.atCommands.dev t.sys.dev) ∧
    Answered h stConflict 0 s.atCommands.dev t.sys.dev :=
  completes_throtSet (P := fun z => z.gov.req = s.atCommands.dev.gov.req ∧ KeepsBut [] s.atCommands.dev z) ht hp hl hsill hk hon
    (if_pos hmode) rfl (fun q => ⟨rfl, ((KeepsBut.refl [] _).handOver).withCpls q⟩)

end

/-! ### The statement -/

/-- Settles O27: each command passes the checks of R292, and its execution is the group's claim or change, the feeder's removal or
return, the staging of its value, or the throttle request. -/
theorem groupBusAndCapCommandsAct : Obligations.GroupBusAndCapCommandsAct := by
  unfold Obligations.GroupBusAndCapCommandsAct
  refine ⟨fun s h n ht hp hl hsill hok hsh hseq => ?fgOn, fun s h n ht hp hl hhalt hsill hok hs => ?fgOff,
    fun s h n ht hp hl hhalt hsill hok hoff => ?xferRefused,
    fun s h n p q ht hp hl hhalt hsill hok hprim hsec hsel hon hsup havail hen hsh hstuck hchg hchan => ?xfer,
    fun s h v ht hp hl hsill => busVset_acts ht hp hl hsill, fun s h i ht hp hl hsill hok hst => ?removeIdle,
    fun s h i ht hp hl hsill hok hst => ?remove, fun s h i ht hp hl hsill hok hst => ?readmit,
    fun s h k n w ht hp hl hsill hk hn => capSet_hub_acts ht hp hl hsill hk hn,
    fun s h k n w ht hp hl hsill hk hok => capSet_rail_acts ht hp hl hsill hk hok,
    fun s h k on ht hp hl hsill hk hon hmode => ?throt, fun s h k on ht hp hl hsill hk hon hmode => ?throtConflict⟩
  case fgOn =>
    obtain ⟨t, he, hpend, ⟨hen, hnone⟩, hans⟩ := fgOn_acts ht hp hl hsill hok hsh hseq
    exact ⟨t, he, hpend, hen, hnone, hans⟩
  case fgOff =>
    obtain ⟨t, he, hpend, ⟨hen, hclosed⟩, hans⟩ := fgOff_acts ht hp hl hhalt hsill hok hs
    exact ⟨t, he, hpend, hen, List.all_eq_true.mpr hclosed, hans⟩
  case xferRefused =>
    exact completes_fgXfer ht hp hl hhalt hsill hok (groupXfer_refused (d := handOver s.atCommands.dev) hoff) rfl
      (fun q => ((KeepsBut.refl [] _).handOver).withCpls q)
  case xfer =>
    have hx : XferAsked (s.atCommands.dev.setFg n.toNat { s.atCommands.dev.fg n.toNat with req := true }) n.toNat p q :=
      ⟨by simpa using hen, by simpa using hstuck, by simpa using hchg, by simp, hprim, hsec, hsel, hon, hsup, havail⟩
    obtain ⟨t, he, hpend, ⟨hreq, hout, hinc, hxfer, hman⟩, hans⟩ := fgXfer_acts ht hp hl hhalt hsill hok hsh hx hchan
    exact ⟨t, he, hpend, hreq, hout, hinc, hxfer, hman, hans⟩
  case removeIdle =>
    obtain ⟨t, he, hpend, ⟨hevent, hkeep⟩, hans⟩ := feederRemove_idle_acts ht hp hl hsill hok hst
    exact ⟨t, he, hpend, hevent, hkeep, hans⟩
  case remove =>
    obtain ⟨t, he, hpend, ⟨hstate, hreason, hevent, hcount⟩, hans⟩ := feederRemove_wait_acts ht hp hl hsill hok hst
    exact ⟨t, he, hpend, hstate, hreason, hcount, hevent, hans⟩
  case readmit =>
    obtain ⟨t, he, hpend, ⟨hstate, hreason, hevent⟩, hans⟩ := feederReadmit_acts ht hp hl hsill hok hst
    exact ⟨t, he, hpend, hstate, hreason, hevent, hans⟩
  case throt =>
    obtain ⟨t, he, hpend, ⟨hbit, hkeep⟩, hans⟩ := throtSet_keeps_request ht hp hl hsill hk hon hmode
    exact ⟨t, he, hpend, hbit, hkeep, hans⟩
  case throtConflict =>
    obtain ⟨t, he, hpend, ⟨hreq, hkeep⟩, hans⟩ := throtSet_conflicts ht hp hl hsill hk hon hmode
    exact ⟨t, he, hpend, hreq, hkeep, hans⟩

end Sys2Proof.Machine
end

section
/-! PROOFS about the battery shelf: the declaration of a loss, the marks of hold-up and emergency, the start of hand-back, strings
that close, lock out and open, and the statement on them (R187, R191 to R199, R204, R205). -/

namespace Sys2Proof.Machine
open R

/-! ### The shelf's lists (R187, R192, R194) -/

/-- The closed strings are those that their states show. -/
theorem closed_congr {d e : Dev} (h : ∀ j, e.rd BS_STR_STATE j = d.rd BS_STR_STATE j) : closed e = closed d := by
  simp [closed, strState, h]

/-- The available legs follow the directory, the latest reports, the legs' states and their marks. -/
theorem legs_congr {d e : Dev} (h : ∀ r ∈ [CD_ENT_ROLE, CD_ENT_UNIT, CD_ENT_HEALTH, BS_LEG_STATE], ∀ ix, e.rd r ix = d.rd r ix)
    (hch : e.ch = d.ch) (hav : e.bs.avail = d.bs.avail) : legs e = legs d := by
  simp only [List.forall_mem_cons, List.not_mem_nil, false_imp_iff, implies_true, and_true] at h
  obtain ⟨hrole, hunit, hhealth, hleg⟩ := h
  have havail : legAvail e = legAvail d := funext fun k => by
    have hchan : legChan e k = legChan d k := by simp [legChan, chanOfUnit, chanFind, roleOf, hrole, hunit]
    unfold legAvail
    rw [hchan]
    split
    · simp [inService, health, chFlag, Dev.chn, legState, hhealth, hleg, hch, hav]
    · rfl
  rw [legs, havail, legs]

/-! ### A declaration of loss (R192, R196) -/

/-- A loss is declared: TAKEN clears, a plan in hand may shed nothing, and the declaration is recorded. -/
def lossNoted (d : Dev) (pm : Nat) : Dev :=
  let d := { d.wr BS_STATUS_TAKEN 0 0 with
    bs := { d.bs with declAt := some d.cur, takenAt := none, plan := d.bs.plan.map Plan.unshed } }
  (d.ev BS_EVT_LOSS).recAt pm 0x0700 0 5 []

/-- The fields of a loss that nothing can take over. -/
def lossFields : List (Reg × Nat) := [(BS_STATUS_TAKEN, 0), (BS_EVT_LOSS, 0), (BS_EVT_UNAVAIL, 0)] ++ recFields

theorem lossNoted_keeps (d : Dev) (pm : Nat) : KeepsBut lossFields d (lossNoted d pm) := by
  have hclear : KeepsBut lossFields d (d.wr BS_STATUS_TAKEN 0 0) := (KeepsBut.refl _ d).wr _ _ _ (by simp [lossFields])
  refine KeepsBut.recAt ?_ _ _ _ _ _ fun _ m => List.mem_append_right _ m
  refine KeepsBut.ev ?_ BS_EVT_LOSS 0 (by simp [lossFields])
  exact hclear.of_regs rfl

theorem lossNoted_bs (d : Dev) (pm : Nat) : (lossNoted d pm).bs =
    { d.bs with declAt := some d.cur, takenAt := none, plan := d.bs.plan.map Plan.unshed } :=
  (Dev.recAt_bs ..).trans (Dev.ev_bs ..)

/-- Without a closed string or an available leg, the loss is recorded as unavailable and nothing takes over. -/
theorem declareLoss_unavailable {d : Dev} (h : ((closed d).isEmpty || (legs d).isEmpty) = true) (pm : Nat) :
    declareLoss d pm = ((lossNoted d pm).ev BS_EVT_UNAVAIL).recd 0x0703 0 5 [] := by
  have hkeep := lossNoted_keeps d pm
  have hclosed : closed (lossNoted d pm) = closed d := closed_congr (hkeep.rd_eq (by decide))
  have hlegs : legs (lossNoted d pm) = legs d := by
    refine legs_congr (fun r hr => hkeep.rd_eq ?_) (by simp [lossNoted]) (by rw [lossNoted_bs])
    revert r
    decide
  have hor : (closed (lossNoted d pm)).isEmpty = true ∨ (legs (lossNoted d pm)).isEmpty = true := by
    rw [hclosed, hlegs]
    exact Bool.or_eq_true_iff.mp h
  exact if_pos hor

theorem lossNoted_shows (d : Dev) (pm : Nat) : (lossNoted d pm).fl BS_EVT_LOSS = true ∧
    (lossNoted d pm).fl BS_STATUS_TAKEN = false := by
  constructor <;> rw [lossNoted, Dev.fl_congr (Dev.rd_recAt _ _ _ _ _ _ _ _ (by decide))]
  · exact Dev.fl_ev _ _ 0 rfl
  · rw [Dev.fl_congr (Dev.rd_ev_ne _ _ _ (by decide))]
    exact Dev.fl_wrB d BS_STATUS_TAKEN 0 false rfl

/-- What a declaration that nothing can take over shows, and what it leaves. -/
theorem declareLoss_unavailable_shows {d : Dev} (h : ((closed d).isEmpty || (legs d).isEmpty) = true) (pm : Nat) :
    (declareLoss d pm).fl BS_EVT_LOSS = true ∧ (declareLoss d pm).fl BS_EVT_UNAVAIL = true ∧
    (declareLoss d pm).fl BS_STATUS_TAKEN = false ∧ (declareLoss d pm).bs = (lossNoted d pm).bs ∧
    KeepsBut lossFields d (declareLoss d pm) := by
  obtain ⟨hloss, htaken⟩ := lossNoted_shows d pm
  rw [declareLoss_unavailable h pm]
  refine ⟨?loss, ?unavail, ?taken, (Dev.recd_bs ..).trans (Dev.ev_bs ..), ?keeps⟩
  case loss => rwa [Dev.fl_congr (Dev.rd_recd _ _ _ _ _ _ _ (by decide)), Dev.fl_congr (Dev.rd_ev_ne _ _ _ (by decide))]
  case unavail =>
    rw [Dev.fl_congr (Dev.rd_recd _ _ _ _ _ _ _ (by decide))]
    exact Dev.fl_ev _ _ 0 rfl
  case taken => rwa [Dev.fl_congr (Dev.rd_recd _ _ _ _ _ _ _ (by decide)), Dev.fl_congr (Dev.rd_ev_ne _ _ _ (by decide))]
  case keeps =>
    exact ((lossNoted_keeps d pm).ev _ 0 (by simp [lossFields])).recd _ _ _ _ fun _ m => List.mem_append_right _ m

/-- A slow loss that nothing can take over is such a declaration, with its count at 0. -/
theorem slowLoss_unavailable {d : Dev} (h : ((closed d).isEmpty || (legs d).isEmpty) = true) :
    (slowLoss d).fl BS_EVT_LOSS = true ∧ (slowLoss d).fl BS_EVT_UNAVAIL = true ∧ (slowLoss d).fl BS_STATUS_TAKEN = false ∧
    (slowLoss d).bs.slow = 0 ∧ (slowLoss d).bs.shedReq = d.bs.shedReq ∧ KeepsBut lossFields d (slowLoss d) := by
  obtain ⟨hloss, hunavail, htaken, hbs, hkeep⟩ :=
    declareLoss_unavailable_shows (d := { d with bs := { d.bs with slow := 0 } }) h d.bs.slowPm
  have hshelf := hbs.trans (lossNoted_bs ..)
  have hslow := congrArg ShelfSt.slow hshelf
  have hshed := congrArg ShelfSt.shedReq hshelf
  exact ⟨hloss, hunavail, htaken, hslow, hshed, hkeep⟩

/-! ### The marks of hold-up and emergency (R197, R199) -/

/-- Nothing is shed for an emergency outside one, nor before hold-up. -/
theorem emergShed_idle {d : Dev} (h : d.fl BS_STATUS_EMERG = false ∨ shelfState d < bsReady) : emergShed d = d := by
  refine if_neg fun hc => ?_
  obtain ⟨hemerg, hstate, -⟩ := hc
  rcases h with h | h
  · simp [h] at hemerg
  · rcases hstate with hs | hs <;> simp [hs, bsReady, bsHoldup, bsHandback] at h

/-- TAKEN is set and recorded. -/
def takenNoted (d : Dev) : Dev :=
  let d := (d.wr BS_STATUS_TAKEN 0 1).ev BS_EVT_TAKEN
  { d with bs := { d.bs with takenSince := d.cur, takenAt := none } }.recd 0x0701 0 5 []

/-- The fields of the mark. -/
def takenFields : List (Reg × Nat) := [(BS_STATUS_TAKEN, 0), (BS_EVT_TAKEN, 0), (CP_STATUS_HUHUB, 0)] ++ recFields

theorem takenNoted_keeps (d : Dev) : KeepsBut takenFields d (takenNoted d) := by
  have hmark : KeepsBut takenFields d ((d.wr BS_STATUS_TAKEN 0 1).ev BS_EVT_TAKEN) :=
    ((KeepsBut.refl _ d).wr _ _ _ (by simp [takenFields])).ev _ 0 (by simp [takenFields])
  refine KeepsBut.recd ?_ _ _ _ _ fun _ m => List.mem_append_right _ m
  exact hmark.of_regs rfl

theorem takenNoted_shows (d : Dev) : (takenNoted d).fl BS_STATUS_TAKEN = true ∧ (takenNoted d).fl BS_EVT_TAKEN = true ∧
    (takenNoted d).bs.takenAt = none ∧ (takenNoted d).bs.shedReq = d.bs.shedReq := by
  have hrd : ∀ r : Reg, r.id ∉ recIds → (takenNoted d).fl r = ((d.wr BS_STATUS_TAKEN 0 1).ev BS_EVT_TAKEN).fl r := fun r hr =>
    Dev.fl_congr (Dev.rd_recd _ _ _ _ _ _ _ hr)
  refine ⟨?_, ?_, by simp [takenNoted], by simp [takenNoted]⟩
  · rw [hrd _ (by decide), Dev.fl_congr (Dev.rd_ev_ne _ _ _ (by decide))]
    exact Dev.fl_wrB d BS_STATUS_TAKEN 0 true rfl
  · rw [hrd _ (by decide)]
    exact Dev.fl_ev _ _ 0 rfl

/-- Outside an emergency, the mark is all that HOLDUP_TAKEN brings, and with it the caps of hold-up apply (R199, R251). -/
theorem holdupTaken_caps {d : Dev} (h : d.fl BS_STATUS_EMERG = false) :
    holdupCap (holdupTaken d) = (takenNoted d).wr CP_STATUS_HUHUB 0 1 := by
  have hemerg : (takenNoted d).fl BS_STATUS_EMERG = false :=
    (Dev.fl_congr ((takenNoted_keeps d).rd_eq (by decide) 0)).trans h
  have hmark : holdupTaken d = takenNoted d := emergShed_idle (.inl hemerg)
  rw [hmark]
  exact if_pos (takenNoted_shows d).1

/-- EMERG is set and recorded. -/
def emergNoted (d : Dev) : Dev := ((d.wr BS_STATUS_EMERG 0 1).ev BS_EVT_EMERG).recd 0x0704 0 5 []

theorem emergNoted_keeps (d : Dev) : KeepsBut ([(BS_STATUS_EMERG, 0), (BS_EVT_EMERG, 0)] ++ recFields) d (emergNoted d) :=
  (((KeepsBut.refl _ d).wr _ _ _ (by simp)).ev _ 0 (by simp)).recd _ _ _ _ fun _ m => List.mem_append_right _ m

theorem emergNoted_shows (d : Dev) : (emergNoted d).fl BS_STATUS_EMERG = true ∧ (emergNoted d).fl BS_EVT_EMERG = true ∧
    (emergNoted d).bs = d.bs := by
  refine ⟨?_, ?_, by simp [emergNoted]⟩ <;> rw [emergNoted, Dev.fl_congr (Dev.rd_recd _ _ _ _ _ _ _ (by decide))]
  · rw [Dev.fl_congr (Dev.rd_ev_ne _ _ _ (by decide))]
    exact Dev.fl_wrB d BS_STATUS_EMERG 0 true rfl
  · exact Dev.fl_ev _ _ 0 rfl

/-- Before READY, an emergency declares no loss and sheds nothing. -/
theorem emergAssert_early {d : Dev} (h : shelfState d < bsReady) : emergAssert d = emergNoted d := by
  have hstate : shelfState (emergNoted d) < bsReady := lt_of_eq_of_lt ((emergNoted_keeps d).rd_eq (by decide) 0) h
  have hno : ¬ (shelfState (emergNoted d) = bsReady ∨ shelfState (emergNoted d) = bsHandback) := by
    simp only [bsReady, bsHandback] at hstate ⊢
    omega
  have hdeclare : emergAssert d = emergShed (emergNoted d) := congrArg emergShed (if_neg hno)
  exact hdeclare.trans (emergShed_idle (.inr hstate))

/-! ### The start of hand-back (R204, R205) -/

theorem legHold_writes (d : Dev) (k b : Nat) (on : Bool) : WritesOnly holdIds d (legHold d k b on) := by
  unfold legHold
  split
  · exact slotHold_writes ..
  · exact .refl holdIds d

/-- Hand-back enters its state; beside that it holds loops and starts its counts. -/
theorem handbackStart_eq (d : Dev) : ∃ x : Dev, WritesOnly holdIds (d.wr BS_STATUS_STATE 0 bsHandback) x ∧
    handbackStart d = { x with bs := { x.bs with hbStep := 1, hbCnt := 0, slow := 0 } } := by
  unfold handbackStart
  extract_lets a b x
  have hb : WritesOnly holdIds a b := by
    simp only [b]
    split
    · exact slotHold_writes ..
    · exact .refl holdIds a
  refine ⟨x, hb.forIx 8 _ fun k y => ?_, rfl⟩
  split
  · exact (legHold_writes y k 2 false).trans (legHold_writes _ k 1 true)
  · exact .refl holdIds y

theorem handbackStart_shows (d : Dev) : (handbackStart d).rd BS_STATUS_STATE = bsHandback ∧ (handbackStart d).bs.hbStep = 1 ∧
    (handbackStart d).bs.hbCnt = 0 ∧ (handbackStart d).bs.shedReq = d.bs.shedReq := by
  obtain ⟨x, ⟨hrd, hbs⟩, heq⟩ := handbackStart_eq d
  rw [heq]
  have hshed : x.bs.shedReq = d.bs.shedReq := congrArg ShelfSt.shedReq hbs
  refine ⟨?_, rfl, rfl, hshed⟩
  exact (hrd BS_STATUS_STATE 0 (by decide)).trans (Dev.rd_wr ..)

/-! ### Strings that close and lock out (R191 to R194) -/

/-- String `j` is in LOCKOUT, and a string's opening is shown. -/
def StrLocked (d : Dev) (j : Nat) : Prop := d.rd BS_STR_STATE j = 4 ∧ d.fl BS_EVT_STROPEN = true

theorem StrLocked.congr {d e : Dev} {j : Nat} (h : StrLocked d j) (hstate : e.rd BS_STR_STATE j = d.rd BS_STR_STATE j)
    (hevent : e.fl BS_EVT_STROPEN = d.fl BS_EVT_STROPEN) : StrLocked e j := ⟨hstate.trans h.1, hevent.trans h.2⟩

/-- A string with a channel that goes to LOCKOUT is there, with its event. -/
theorem strLockout_locks {d : Dev} {j : Nat} (hc : (strChan d j).isSome = true) (pm : Nat) : StrLocked (strLockout d j pm) j := by
  obtain ⟨c, hc⟩ := Option.isSome_iff_exists.mp hc
  simp only [strLockout, hc]
  constructor
  · rw [Dev.rd_recAt _ _ _ _ _ _ _ _ (by decide), Dev.rd_ev_ne _ _ _ (by decide), Dev.rd_wr]
    rfl
  · rw [Dev.fl_congr (Dev.rd_recAt _ _ _ _ _ _ _ _ (by decide))]
    exact Dev.fl_ev _ _ 0 rfl

section
variable {d : Dev} {i j : Nat}

/-- The lockout of another string leaves a string in LOCKOUT. -/
theorem StrLocked.strLockout (h : StrLocked d j) (hij : j ≠ i) (pm : Nat) : StrLocked (strLockout d i pm) j := by
  unfold Sys2Proof.Machine.strLockout
  split
  · constructor
    · rw [Dev.rd_recAt _ _ _ _ _ _ _ _ (by decide), Dev.rd_ev_ne _ _ _ (by decide), Dev.rd_wr_ix _ _ _ hij]
      exact h.1
    · rw [Dev.fl_congr (Dev.rd_recAt _ _ _ _ _ _ _ _ (by decide))]
      exact Dev.fl_ev _ _ 0 rfl
  · exact h

/-- So does the closing of another string. -/
theorem StrLocked.strClose (h : StrLocked d j) (hij : j ≠ i) : StrLocked (strClose d i) j :=
  h.congr (Dev.rd_wr_ix d BS_STR_STATE 2 hij) (Dev.fl_wr_ne d i 0 2 (by decide))

/-- CONNECT passes over a string in LOCKOUT: it takes OPEN strings alone (R193). -/
theorem StrLocked.connectRun (h : StrLocked d j) : StrLocked (connectRun d) j := by
  unfold Sys2Proof.Machine.connectRun
  extract_lets a
  have ha : StrLocked a j := by
    refine List.foldlRecOn (motive := fun x => StrLocked x j) _ _ h fun x hx i _ => ?_
    dsimp only
    split
    · have hnext : StrLocked { x with bs := { x.bs with next := i + 1 } } j := hx
      split
      · exact hnext
      · split
        · exact hnext
        · next hopen =>
          have hij : j ≠ i := by
            rintro rfl
            exact absurd (hx.1.symm.trans (not_not.mp hopen)) (by decide)
          split
          · exact hnext.strLockout hij _
          · split
            · exact hnext.strClose hij
            · exact hnext
    · exact hx
  split
  · exact ha.congr (Dev.rd_wr_ne a 0 j _ (by decide)) (Dev.fl_wr_ne a 0 0 _ (by decide))
  · exact ha

end

/-- NSTR and NLEG follow, and no other field. -/
theorem shelfCounts_rd (d : Dev) {r : Reg} (h : r.id ∉ [BS_STATUS_NSTR.id, BS_STATUS_NLEG.id]) (ix : Nat) :
    (shelfCounts d).rd r ix = d.rd r ix := by
  simp only [List.mem_cons, List.not_mem_nil, or_false, not_or] at h
  exact (Dev.rd_wr_ne _ _ _ _ h.2).trans (Dev.rd_wr_ne _ _ _ _ h.1)

theorem shelfCounts_bs (d : Dev) : (shelfCounts d).bs = d.bs := rfl

/-- A string that does not close in time locks out, and CONNECT goes on (R193). -/
theorem strCloseTimeout_locks {d : Dev} {j : Nat} (hc : (strChan d j).isSome = true) : StrLocked (strCloseTimeout d j) j :=
  (strLockout_locks hc d.curPm).connectRun.congr (shelfCounts_rd _ (by decide) j) (Dev.fl_congr (shelfCounts_rd _ (by decide) 0))

theorem strCloseTimeout_shed (d : Dev) (j : Nat) : (strCloseTimeout d j).bs.shedReq = d.bs.shedReq :=
  Dev.ringView_shed ((shelfCounts_ringView _).trans ((connectRun_ringView _).trans (strLockout_ringView d j _)))

/-- The time of a string switched off has ended. -/
theorem strOffDue_timeout (d : Dev) (j : Nat) : strOffDue (strOffTimeout d j) j = false := by
  simp [strOffDue, strOffTimeout]

/-! ### Strings that open on command (R194) -/

/-- Outside CONNECT no string is taken. -/
theorem connectRun_idle {d : Dev} (h : shelfState d ≠ bsConnect) : connectRun d = d := by
  unfold connectRun
  extract_lets a
  have ha : a = d := by
    refine List.foldlRecOn (motive := fun x => x = d) _ _ rfl fun x hx i _ => ?_
    subst hx
    exact if_neg fun hc => h hc.1
  rw [ha]
  exact if_neg fun hc => h hc.1

/-- A closed string opens, with its event. -/
theorem strCmdOpen_closed {d : Dev} {j : Nat} (hst : strState d j = 3) (hs : shelfState d ≠ bsConnect) :
    strCmdOpen d j = shelfCounts ((d.wr BS_STR_STATE j 1).ev BS_EVT_STROPEN) := by
  have hstate : shelfState ((d.wr BS_STR_STATE j 1).ev BS_EVT_STROPEN) = shelfState d :=
    (Dev.rd_ev_ne _ _ _ (by decide)).trans (Dev.rd_wr_ne _ _ _ _ (by decide))
  have hidle := connectRun_idle (d := (d.wr BS_STR_STATE j 1).ev BS_EVT_STROPEN) (by rwa [hstate])
  rw [strCmdOpen, if_pos (.inr hst), hidle]

/-- A lockout ends on command. -/
theorem strCmdClose_lockout {d : Dev} {j : Nat} (hst : strState d j = 4) : strCmdClose d j = d.wr BS_STR_STATE j 1 := if_pos hst

/-! ### The statement -/

/-- Settles O11: the shelf's steps note a loss, a takeover, an emergency and hand-back as their lemmas say, a string that closes too
late locks out before CONNECT goes on, and the two command words open a closed string and end a lockout. -/
theorem holdupAndStringsAct : Obligations.HoldupAndStringsAct := by
  unfold Obligations.HoldupAndStringsAct
  refine ⟨fun s hj hd hnone => ?loss, fun s hj hd hem => ?taken, fun s hj hd hst => ?emerg, fun s hj hd => ?clear,
    fun s hx hd => ?handback, fun s j hx hd hc => ?late, fun s j hx hd => ?off, fun s a j ht ha hk hst hs => ?opens,
    fun s a j ht ha hk hst => ?closes⟩
  case loss =>
    obtain ⟨hloss, hunavail, htaken, hslow, hshed, hkeep⟩ := slowLoss_unavailable hnone
    obtain ⟨t, he, hp, ht⟩ := exec_judged (s := s) (c := .slowLoss) rfl hj hd (hshed.trans hj.2.2)
    refine ⟨t, he, hp, ?_⟩
    rw [ht]
    exact ⟨hloss, hunavail, htaken, hslow, hkeep⟩
  case taken =>
    have heq := holdupTaken_caps hem
    obtain ⟨htaken, hevent, hat, hshed⟩ := takenNoted_shows s.atCommands.dev
    obtain ⟨t, he, hp, ht⟩ := exec_judged (s := s) (c := .holdupTaken) rfl hj hd (by rw [heq]; exact hshed.trans hj.2.2)
    refine ⟨t, he, hp, ?_⟩
    rw [ht, heq]
    exact ⟨(Dev.fl_wr_ne _ _ _ _ (by decide)).trans htaken, (Dev.fl_wr_ne _ _ _ _ (by decide)).trans hevent, hat, Dev.rd_wr ..,
      (takenNoted_keeps _).wr _ _ _ (by simp [takenFields])⟩
  case emerg =>
    have heq := emergAssert_early hst
    obtain ⟨hemerg, hevent, hbs⟩ := emergNoted_shows s.atCommands.dev
    obtain ⟨t, he, hp, ht⟩ := exec_judged (s := s) (c := .emergAssert) rfl hj hd
      (by rw [heq]; exact (congrArg ShelfSt.shedReq hbs).trans hj.2.2)
    refine ⟨t, he, hp, ?_⟩
    rw [ht, heq]
    exact ⟨hemerg, hevent, emergNoted_keeps _⟩
  case clear =>
    obtain ⟨t, he, hp, ht⟩ := exec_judged (s := s) (c := .emergClear) rfl hj hd hj.2.2
    refine ⟨t, he, hp, ?_⟩
    rw [ht]
    exact ⟨Dev.fl_wrB _ BS_STATUS_EMERG 0 false rfl, (KeepsBut.refl _ _).wr _ _ _ (by simp)⟩
  case handback =>
    obtain ⟨hstate, hstep, hcount, hshed⟩ := handbackStart_shows s.atTimers.dev
    obtain ⟨t, he, hp, ht⟩ := exec_timed (s := s) (c := .handbackStart) rfl hx hd (hshed.trans hx.2.2)
    refine ⟨t, he, hp, ?_⟩
    rw [ht]
    exact ⟨hstate, hstep, hcount⟩
  case late =>
    obtain ⟨t, he, hp, ht⟩ := exec_timed (s := s) (c := .stringCloseTimeout j) rfl hx hd ((strCloseTimeout_shed _ _).trans hx.2.2)
    refine ⟨t, he, hp, ?_⟩
    rw [ht]
    exact strCloseTimeout_locks hc
  case off =>
    obtain ⟨t, he, hp, ht⟩ := exec_timed (s := s) (c := .stringOffTimeout j) rfl hx hd hx.2.2
    refine ⟨t, he, hp, ?_⟩
    rw [ht]
    exact ⟨(KeepsBut.refl [] _).of_regs rfl, strOffDue_timeout _ _⟩
  case opens =>
    obtain ⟨t, he, hp, ht⟩ := exec_busWord (c := .bsCmdOpen a j) rfl ht ha hk
      (strCmdOpen_closed (d := handOver s.atCommands.dev) hst hs) ((shelfCounts_bs _).trans (Dev.ev_bs ..))
    refine ⟨t, he, hp, ?_⟩
    rw [ht, shelfCounts_rd _ (by decide), Dev.fl_congr (shelfCounts_rd _ (by decide) 0), Dev.rd_ev_ne _ _ _ (by decide)]
    exact ⟨Dev.rd_wr .., Dev.fl_ev _ _ 0 rfl⟩
  case closes =>
    obtain ⟨t, he, hp, ht⟩ := exec_busWord (c := .bsCmdClose a j) rfl ht ha hk
      (strCmdClose_lockout (d := handOver s.atCommands.dev) hst) (Dev.wr_bs ..)
    refine ⟨t, he, hp, ?_⟩
    rw [ht]
    exact ⟨Dev.rd_wr .., (KeepsBut.refl _ _).handOver.wr _ _ _ (by simp)⟩

end Sys2Proof.Machine
end

section
/-! PROOFS about the trips, the retries and the temperature sensor of a fuse (R208, R212, R215, R217, R219). -/

namespace Sys2Proof.Machine
open R

/-! ### What a trip does (R217, R219) -/

/-- The lowest cause of a set is the reason of its trip (R217). -/
def tripReason (set : Nat) : Nat := ((List.range 8).find? (bitOf set)).getD 0

/-- A trip ends in LOCKOUT: its reason is SENSE, the fuse is a port switch, or no automatic retry is left (R219). -/
def tripLocks (d : Dev) (f set : Nat) : Bool :=
  tripReason set == 3 || fuPortsw d f || decide (d.rd FU_RTY_NRTY f ≤ d.rd FU_STATUS_RCNT f)

/-- The registers of a trip: the state, the reason and the count. -/
def tripRegs (d : Dev) (f set : Nat) : Dev :=
  ((d.wr FU_STATUS_STATE f (if tripLocks d f set then fuLockout else fuTripped)).wr FU_STATUS_REASON f (tripReason set)).inc
    FU_STATUS_NTRIP f

/-- A trip is noted: the fuse's internal state becomes `x`, and the event is recorded. -/
def tripNoted (d : Dev) (f : Nat) (x : FuseSt) (pm : Nat) (pay : List Nat) : Dev :=
  ((d.setFuse f x).ev FU_EVT_TRIP f).recAt pm 0x0800 3 f pay

/-- LOCKOUT is recorded, and the step of the fuse, or of its group once every member is locked out, is faulted. -/
def lockoutNoted (d : Dev) (f : Nat) : Dev :=
  let d := (d.ev FU_EVT_LOCKOUT f).recd 0x0802 3 f []
  if fuInfg d f then
    if (groupMembers d (fuFg d f)).all (fun g => fuState d g == fuLockout) then d.tfault 3 (fuFg d f) 2 else d
  else d.tfault 2 f 2

/-- A trip of a fuse that has its channel is noted, and then its lockout where it locks. -/
theorem fuTrip_eq {d : Dev} {f : Nat} (hc : (chanOfFuse d f).isSome = true) (set : Nat) :
    ∃ x pm pay, fuTrip d f set = if tripLocks d f set then lockoutNoted (tripNoted (tripRegs d f set) f x pm pay) f
      else tripNoted (tripRegs d f set) f x pm pay := by
  unfold fuTrip
  split
  next hnone => simp [hnone] at hc
  next c _ =>
    extract_lets x reason rcnt lock st i pay smp pm regs boff edge marked noted
    have hregs : regs = tripRegs d f set := rfl
    have hlock : lock = tripLocks d f set := rfl
    obtain ⟨y, hnoted⟩ : ∃ y, noted = tripNoted regs f y pm pay := ⟨_, rfl⟩
    refine ⟨y, pm, pay, ?_⟩
    rw [← hregs, ← hlock, ← hnoted]
    clear_value noted lock
    rfl

/-- The fields of a trip. -/
def tripFields (f : Nat) : List (Reg × Nat) :=
  [(FU_STATUS_STATE, f), (FU_STATUS_REASON, f), (FU_STATUS_NTRIP, f), (FU_EVT_TRIP, f), (FU_EVT_LOCKOUT, f)] ++ recFields

/-- What a trip for `set` from `d` shows of fuse `f` in `e`. -/
structure TripShown (d : Dev) (f set : Nat) (e : Dev) : Prop where
  reason : e.rd FU_STATUS_REASON f = tripReason set
  event : e.fl FU_EVT_TRIP f = true
  count : e.rd FU_STATUS_NTRIP f = incSat FU_STATUS_NTRIP.w (d.rd FU_STATUS_NTRIP f) % 2 ^ FU_STATUS_NTRIP.w
  state : e.rd FU_STATUS_STATE f = if tripLocks d f set then fuLockout else fuTripped
  keeps : KeepsBut (tripFields f) d e
  shelf : e.bs = d.bs

theorem tripReason_lt (set : Nat) : tripReason set < 8 := by
  unfold tripReason
  cases h : (List.range 8).find? (bitOf set) with
  | none => decide
  | some k => exact List.mem_range.mp (List.mem_of_find?_eq_some h)

theorem tripRegs_keeps (d : Dev) (f set : Nat) : KeepsBut (tripFields f) d (tripRegs d f set) :=
  (((KeepsBut.refl (tripFields f) d).wr FU_STATUS_STATE f _ (by simp [tripFields])).wr FU_STATUS_REASON f _
    (by simp [tripFields])).inc FU_STATUS_NTRIP f (by simp [tripFields])

theorem tripNoted_shows (d : Dev) (f set : Nat) (x : FuseSt) (pm : Nat) (pay : List Nat) :
    TripShown d f set (tripNoted (tripRegs d f set) f x pm pay) := by
  have hrd : ∀ r : Reg, r.id ∉ FU_EVT_TRIP.id :: recIds →
      (tripNoted (tripRegs d f set) f x pm pay).rd r f = (tripRegs d f set).rd r f := fun r hr => by
    rw [List.mem_cons, not_or] at hr
    exact (Dev.rd_recAt _ _ _ _ _ _ _ _ hr.2).trans (Dev.rd_ev_ne _ _ _ hr.1)
  constructor
  case reason =>
    rw [hrd _ (by decide), tripRegs, Dev.inc, Dev.rd_wr_ne _ _ _ _ (by decide), Dev.rd_wr]
    exact Nat.mod_eq_of_lt (tripReason_lt set)
  case event => exact (Dev.fl_congr (Dev.rd_recAt _ _ _ _ _ _ _ _ (by decide))).trans (Dev.fl_ev _ _ f rfl)
  case count =>
    rw [hrd _ (by decide), tripRegs, Dev.inc, Dev.rd_wr, Dev.rd_wr_ne _ _ _ _ (by decide), Dev.rd_wr_ne _ _ _ _ (by decide)]
  case state =>
    rw [hrd _ (by decide), tripRegs, Dev.inc, Dev.rd_wr_ne _ _ _ _ (by decide), Dev.rd_wr_ne _ _ _ _ (by decide), Dev.rd_wr]
    split <;> rfl
  case keeps =>
    exact (((tripRegs_keeps d f set).setFuse f x).ev FU_EVT_TRIP f (by simp [tripFields])).recAt _ _ _ _ _ fun _ m =>
      List.mem_append_right _ m
  case shelf => exact (Dev.recAt_bs ..).trans (Dev.ev_bs ..)

/-- The note of a lockout writes its event, and leaves the shelf. -/
theorem lockoutNoted_keeps (d : Dev) (f : Nat) :
    KeepsBut ([(FU_EVT_LOCKOUT, f)] ++ recFields) d (lockoutNoted d f) ∧ (lockoutNoted d f).bs = d.bs := by
  have hkeep : KeepsBut ([(FU_EVT_LOCKOUT, f)] ++ recFields) d ((d.ev FU_EVT_LOCKOUT f).recd 0x0802 3 f []) :=
    ((KeepsBut.refl _ d).ev _ f (by simp)).recd _ _ _ _ fun _ m => List.mem_append_right _ m
  have hbs : ((d.ev FU_EVT_LOCKOUT f).recd 0x0802 3 f []).bs = d.bs := by simp
  unfold lockoutNoted; dsimp only
  split
  · split
    · exact ⟨hkeep.tfault _ _ _, hbs⟩
    · exact ⟨hkeep, hbs⟩
  · exact ⟨hkeep.tfault _ _ _, hbs⟩

/-- A lockout after a trip leaves what the trip shows. -/
theorem TripShown.lockoutNoted {d e : Dev} {f set : Nat} (h : TripShown d f set e) : TripShown d f set (lockoutNoted e f) := by
  obtain ⟨hkeep, hbs⟩ := lockoutNoted_keeps e f
  have hsub : ∀ x ∈ [(FU_EVT_LOCKOUT, f)] ++ recFields, x ∈ tripFields f := fun x hx => by
    rcases List.mem_append.mp hx with hevent | hrec
    · simp [tripFields, List.mem_singleton.mp hevent]
    · exact List.mem_append_right _ hrec
  have hrd : ∀ r : Reg, r.id ∉ FU_EVT_LOCKOUT.id :: recIds → (Machine.lockoutNoted e f).rd r f = e.rd r f := fun r hr =>
    hkeep.rd_eq hr f
  exact ⟨(hrd _ (by decide)).trans h.reason, (Dev.fl_congr (hrd _ (by decide))).trans h.event, (hrd _ (by decide)).trans h.count,
    (hrd _ (by decide)).trans h.state, h.keeps.trans (hkeep.mono hsub), hbs.trans h.shelf⟩

theorem fuTrip_shows {d : Dev} {f : Nat} (hc : (chanOfFuse d f).isSome = true) (set : Nat) : TripShown d f set (fuTrip d f set) := by
  obtain ⟨x, pm, pay, heq⟩ := fuTrip_eq hc set
  have hnoted := tripNoted_shows d f set x pm pay
  rw [heq]
  split
  · exact hnoted.lockoutNoted
  · exact hnoted

/-! ### Trips and the service port (R224) -/

/-- The port switch is found in the fuses' records and the directory. -/
theorem portSw_congr {d e : Dev} (h : ∀ r ∈ [FU_CFG_VALID, CD_ENT_ROLE, CD_ENT_UNIT], ∀ ix, e.rd r ix = d.rd r ix) :
    portSw e = portSw d := by
  simp only [List.forall_mem_cons, List.not_mem_nil, false_imp_iff, implies_true, and_true] at h
  obtain ⟨hvalid, hrole, hunit⟩ := h
  have hchan : chanOfFuse e = chanOfFuse d := funext (chanOfFuse_congr hrole hunit)
  simp only [portSw, fuValid, fuPortsw, roleOf, Dev.fl, hvalid, hrole, hchan]

/-- Where no fuse is the port switch, a trip has no more to tell the service port. -/
theorem TripShown.spTrip {d e : Dev} {f set : Nat} (h : TripShown d f set e) (hp : portSw d = none) : spTrip d e = e := by
  have hport : portSw e = none := by
    rw [← hp]
    refine portSw_congr fun r hr => h.keeps.rd_eq ?_
    show r.id ∉ (tripFields 0).map fun x => x.1.id
    revert r
    decide
  simp [Machine.spTrip, hport]

/-- A due trip is of a fuse that has its channel. -/
theorem chanOfFuse_of_tripDue {d : Dev} {f : Nat} (h : tripDue d f = true) : (chanOfFuse d f).isSome = true := by
  cases hc : chanOfFuse d f with
  | none => simp [tripDue, tripSet, hc] at h
  | some c => rfl

/-- The time of the ramp is not kept for a port switch. -/
theorem fuPortsw_of_trampDue {d : Dev} {f : Nat} (h : trampDue d f = true) : fuPortsw d f = false := by
  simp only [trampDue, Bool.and_eq_true, Bool.not_eq_true'] at h
  obtain ⟨⟨⟨⟨-, hport⟩, -⟩, -⟩, -⟩ := h
  exact hport

/-- Without another cause, the end of the ramp's time is a trip with reason RAMP. -/
theorem tramp_alone {d : Dev} {f : Nat} (h : tripSet d f = 0) : tramp d f = fuTrip d f (2 ^ 5) := by
  rw [tramp, h]
  rfl

/-! ### The entry of the ramp (R208, R212) -/

section
variable {ids : List Nat} {d e : Dev}

theorem WritesOnly.setFuse (h : WritesOnly ids d e) (f : Nat) (x : FuseSt) : WritesOnly ids d (e.setFuse f x) := h.of_regs rfl rfl

/-- A one-shot command joins its channel's list: no field changes. -/
theorem WritesOnly.issue (h : WritesOnly ids d e) (c opc arg : Nat) : WritesOnly ids d (issue e c opc arg) :=
  h.trans (issue_writes ids e c opc arg)

end

theorem fuRun_writes (ids : List Nat) (d : Dev) (f c : Nat) : WritesOnly ids d (fuRun d f c) :=
  ((((WritesOnly.refl ids d).issue c _ _).issue c _ _).setFuse f _).issue c _ _

theorem fuPreset_writes (ids : List Nat) (d : Dev) (f c : Nat) : WritesOnly ids d (fuPreset d f c) := by
  unfold fuPreset
  extract_lets x s e inTime
  have he : WritesOnly ids d e := by
    simp only [e]
    split
    · exact (WritesOnly.refl ids d).setSlot _ _
    · exact .refl ids d
  split
  · exact he.setFuse f _
  · exact .refl ids d

/-- The fields that the entry of the ramp writes. -/
def rampIds : List Nat := [FU_STATUS_STATE.id, LS_SETPT.id]

theorem fuEnterRamp_writes (d : Dev) (f c : Nat) : WritesOnly rampIds d (fuEnterRamp d f c) := by
  unfold fuEnterRamp
  extract_lets x d1 d2 d3
  have h2 : WritesOnly rampIds d d2 := ((WritesOnly.refl rampIds d).setFuse f _).wr (by decide) _ _
  have h3 : WritesOnly rampIds d d3 := by
    simp only [d3]
    split
    next s _ =>
      obtain ⟨hregs, hbs⟩ := feclrOwn_parts d2 s
      exact (h2.of_regs hregs hbs).wr (by decide) _ _
    · exact h2
  refine WritesOnly.trans ?_ (fuPreset_writes rampIds _ f c)
  split
  · exact h3.trans (fuRun_writes rampIds d3 f c)
  · exact h3

/-- A retry counts, and the fuse ramps again. -/
theorem fuRetry_shows {d : Dev} {f : Nat} (hc : (chanOfFuse d f).isSome = true) : (fuRetry d f).rd FU_STATUS_STATE f = fuRamp ∧
    (fuRetry d f).rd FU_STATUS_RCNT f = incSat FU_STATUS_RCNT.w (d.rd FU_STATUS_RCNT f) % 2 ^ FU_STATUS_RCNT.w ∧
    (fuRetry d f).bs = d.bs := by
  obtain ⟨c, hc⟩ := Option.isSome_iff_exists.mp hc
  have hview := fuEnterRamp_fuView ((d.inc FU_STATUS_RCNT f).recd 0x0801 3 f []) f c
  simp only [fuView, fuState, Prod.mk.injEq] at hview
  obtain ⟨hstate, -⟩ := hview
  obtain ⟨hrd, hbs⟩ := fuEnterRamp_writes ((d.inc FU_STATUS_RCNT f).recd 0x0801 3 f []) f c
  simp only [fuRetry, hc]
  refine ⟨hstate, ?_, hbs.trans (Dev.recd_bs ..)⟩
  rw [hrd _ f (by decide), Dev.rd_recd _ _ _ _ _ _ _ (by decide)]
  exact Dev.rd_wr ..

/-! ### The temperature sensor (R215) -/

/-- The fields of an implausible sensor. -/
def tsenseFields (f : Nat) : List (Reg × Nat) := [(FU_STATUS_IMPL, f), (FU_STATUS_TMOD, f), (FU_EVT_IMPL, f)] ++ recFields

/-- An implausible sensor is marked and recorded, and the temperature is the model's. -/
theorem tsense_shows (d : Dev) (f : Nat) : (tsense d f).fl FU_STATUS_IMPL f = true ∧ (tsense d f).fl FU_STATUS_TMOD f = true ∧
    (tsense d f).fl FU_EVT_IMPL f = true ∧ KeepsBut (tsenseFields f) d (tsense d f) ∧ (tsense d f).bs = d.bs := by
  have hrec : ∀ r : Reg, r.id ∉ recIds →
      (tsense d f).fl r f = (((d.wr FU_STATUS_IMPL f 1).wr FU_STATUS_TMOD f 1).ev FU_EVT_IMPL f).fl r f := fun r hr =>
    Dev.fl_congr (Dev.rd_recAt _ _ _ _ _ _ _ _ hr)
  refine ⟨?impl, ?tmod, ?event, ?keeps, by simp [tsense]⟩
  case impl =>
    rw [hrec _ (by decide), Dev.fl_congr (Dev.rd_ev_ne _ _ _ (by decide)), Dev.fl_wr_ne _ _ _ _ (by decide)]
    exact Dev.fl_wrB d FU_STATUS_IMPL f true rfl
  case tmod =>
    rw [hrec _ (by decide), Dev.fl_congr (Dev.rd_ev_ne _ _ _ (by decide))]
    exact Dev.fl_wrB _ FU_STATUS_TMOD f true rfl
  case event => rw [hrec _ (by decide), Dev.fl_ev _ _ f rfl]
  case keeps =>
    exact ((((KeepsBut.refl (tsenseFields f) d).wr FU_STATUS_IMPL f 1 (by simp [tsenseFields])).wr FU_STATUS_TMOD f 1
      (by simp [tsenseFields])).ev FU_EVT_IMPL f (by simp [tsenseFields])).recAt _ _ _ _ _ fun _ m => List.mem_append_right _ m

/-! ### The statement -/

/-- Settles O12: a trip shows what its set of causes says and tells the service port nothing where no fuse is the port switch; a retry
is an entry of the ramp that counts; the window and the sensor write their own fields. -/
theorem fusesTripAndRecover : Obligations.FusesTripAndRecover := by
  unfold Obligations.FusesTripAndRecover
  refine ⟨fun s f hx hd hport hpsw => ?trip, fun s f hx hd hset hc hport => ?tramp, fun s f hj hd hc => ?retry,
    fun s f hx hd => ?rcnt, fun s f hx hd => ?sensor⟩
  case trip =>
    have htrip := fuTrip_shows (chanOfFuse_of_tripDue hd) (tripSet s.atTimers.dev f.val)
    have heq := htrip.spTrip hport
    have hstate := htrip.state
    simp only [tripLocks, hpsw, Bool.or_false, Bool.or_eq_true, beq_iff_eq, decide_eq_true_eq] at hstate
    obtain ⟨t, he, hp, ht⟩ := exec_timed (s := s) (c := .fuseTrip f) rfl hx hd (by rw [heq, htrip.shelf]; exact hx.2.2)
    refine ⟨t, he, hp, ?_⟩
    rw [ht, heq]
    exact ⟨htrip.reason, htrip.event, htrip.count, hstate, htrip.keeps⟩
  case tramp =>
    have htrip := fuTrip_shows hc (2 ^ 5)
    have hshown : TripShown s.atTimers.dev f.val (2 ^ 5) (tramp s.atTimers.dev f.val) := by rwa [tramp_alone hset]
    have hreason : tripReason (2 ^ 5) = 5 := by decide
    have hstate := hshown.state
    simp only [tripLocks, hreason, fuPortsw_of_trampDue hd, Nat.reduceBEq, Bool.false_or, decide_eq_true_eq] at hstate
    have heq := hshown.spTrip hport
    obtain ⟨t, he, hp, ht⟩ := exec_timed (s := s) (c := .trampExpiry f) rfl hx hd (by rw [heq, hshown.shelf]; exact hx.2.2)
    refine ⟨t, he, hp, ?_⟩
    rw [ht, heq]
    exact ⟨hshown.reason.trans hreason, hshown.event, hstate, hshown.keeps⟩
  case retry =>
    obtain ⟨hstate, hcount, hbs⟩ := fuRetry_shows hc
    obtain ⟨t, he, hp, ht⟩ := exec_judged (s := s) (c := .fuseRetry f) rfl hj hd (by rw [hbs]; exact hj.2.2)
    refine ⟨t, he, hp, ?_⟩
    rw [ht]
    exact ⟨hstate, hcount⟩
  case rcnt =>
    obtain ⟨t, he, hp, ht⟩ := exec_timed (s := s) (c := .rcntReset f) rfl hx hd hx.2.2
    refine ⟨t, he, hp, ?_⟩
    rw [ht]
    exact ⟨Dev.rd_wr .., (KeepsBut.refl _ _).wr _ _ _ (by simp)⟩
  case sensor =>
    obtain ⟨himpl, htmod, hevent, hkeep, hbs⟩ := tsense_shows s.atTimers.dev f.val
    obtain ⟨t, he, hp, ht⟩ := exec_timed (s := s) (c := .fuseTsense f) rfl hx hd (by rw [hbs]; exact hx.2.2)
    refine ⟨t, he, hp, ?_⟩
    rw [ht]
    exact ⟨himpl, htmod, hevent, hkeep⟩

end Sys2Proof.Machine
end

section
/-! PROOFS about the changes of a feed group between its sources: the revert, the end of a change, an outgoing member that does not
open, and a change on command (R221, R222). -/

namespace Sys2Proof.Machine
open R

/-! ### A change is decided (R221, R222) -/

/-- The registers of a change from member `out` to member `inc`, with the group's primary `p`. -/
def changeRegs (d : Dev) (p out inc : Nat) (host : Bool) : Dev :=
  ((((memberOff d out).wr FU_STATUS_SEL out 0).wr FU_STATUS_SEL inc 1).wrB FU_STATUS_GMAN p host).wr FU_STATUS_XFER p 1

/-- A change of a group that has its primary, from a member that has its channel, is then in progress. -/
theorem groupChange_eq {d : Dev} {n p out : Nat} (hprim : groupPrim d n = some p) (hc : (chanOfFuse d out).isSome = true)
    (inc : Nat) (host : Bool) :
    ∃ x : GroupSt, x.chg.isSome = true ∧ groupChange d n out inc host = (changeRegs d p out inc host).setFg n x := by
  obtain ⟨c, hc⟩ := Option.isSome_iff_exists.mp hc
  unfold groupChange
  split
  case h_1 p' c' hp' _ =>
    obtain rfl : p = p' := by simpa [hprim] using hp'
    extract_lets st x tripped ch a b
    exact ⟨_, rfl, rfl⟩
  case h_2 hno => exact absurd hc (hno _ _ hprim)

theorem memberOff_bs (d : Dev) (f : Nat) : (memberOff d f).bs = d.bs := by
  unfold memberOff; dsimp only; split <;> rfl

/-- A change deselects the outgoing member and selects the incoming one, and the primary shows it. -/
theorem changeRegs_shows (d : Dev) (p : Nat) {out inc : Nat} (hne : out ≠ inc) (host : Bool) :
    (changeRegs d p out inc host).fl FU_STATUS_SEL out = false ∧ (changeRegs d p out inc host).fl FU_STATUS_SEL inc = true ∧
    (changeRegs d p out inc host).fl FU_STATUS_XFER p = true ∧ (changeRegs d p out inc host).bs = d.bs := by
  refine ⟨?out, ?inc, Dev.fl_wrB _ FU_STATUS_XFER p true rfl, (Dev.wr_bs ..).trans (memberOff_bs d out)⟩
  case out =>
    simp (disch := decide) only [changeRegs, Dev.wrB, Dev.fl_wr_ne]
    exact (Dev.fl_congr (Dev.rd_wr_ix _ _ _ hne)).trans (Dev.fl_wrB _ FU_STATUS_SEL out false rfl)
  case inc =>
    simp (disch := decide) only [changeRegs, Dev.wrB, Dev.fl_wr_ne]
    exact Dev.fl_wrB _ FU_STATUS_SEL inc true rfl

/-- A revert changes from the secondary to the primary. -/
theorem feedRevert_shows {d : Dev} {n p q : Nat} (hprim : groupPrim d n = some p) (hsec : groupSec d n = some q)
    (hc : (chanOfFuse d q).isSome = true) : (feedRevert d n).fl FU_STATUS_SEL q = false ∧ (feedRevert d n).fl FU_STATUS_SEL p = true ∧
    (feedRevert d n).fl FU_STATUS_XFER p = true ∧ ((feedRevert d n).fg n).chg.isSome = true ∧ (feedRevert d n).bs = d.bs := by
  have hrevert : feedRevert d n = groupChange d n q p false := by simp [feedRevert, hprim, hsec]
  obtain ⟨x, hchg, hchange⟩ := groupChange_eq hprim hc p false
  obtain ⟨hout, hinc, hxfer, hbs⟩ := changeRegs_shows d p (groupPrim_ne_groupSec hprim hsec) false
  rw [hrevert, hchange, Dev.setFg_fl, Dev.setFg_fl, Dev.setFg_fl, Dev.fg_setFg, Dev.setFg_bs]
  exact ⟨hout, hinc, hxfer, hchg, hbs⟩

/-! ### A change ends (R222) -/

/-- The fields of a completed change. -/
def xferFields (p : Nat) : List (Reg × Nat) := [(FU_STATUS_XFER, p), (FU_EVT_XFER, p)] ++ recFields

theorem change_of_xferDue {d : Dev} {n : Nat} (h : xferDue d n = true) : ∃ ch, (d.fg n).chg = some ch := by
  cases hchg : (d.fg n).chg with
  | none => simp [xferDue, hchg] at h
  | some ch => exact ⟨ch, rfl⟩

theorem change_of_stuckDue {d : Dev} {n : Nat} (h : stuckDue d n = true) : ∃ ch, (d.fg n).chg = some ch := by
  cases hchg : (d.fg n).chg with
  | none => simp [stuckDue, hchg] at h
  | some ch => exact ⟨ch, rfl⟩

/-- A completed change is recorded, and no change is in progress. -/
theorem feedXfer_shows {d : Dev} {n p : Nat} (hdue : xferDue d n = true) (hprim : groupPrim d n = some p) :
    (feedXfer d n).fl FU_STATUS_XFER p = false ∧ (feedXfer d n).fl FU_EVT_XFER p = true ∧
    ((feedXfer d n).fg n).chg.isSome = false ∧ KeepsBut (xferFields p) d (feedXfer d n) ∧ (feedXfer d n).bs = d.bs := by
  obtain ⟨ch, hchg⟩ := change_of_xferDue hdue
  simp only [feedXfer, hchg, hprim]
  refine ⟨?xfer, ?event, ?none, ?keeps, by simp⟩
  case xfer =>
    rw [Dev.fl_congr (Dev.rd_recd _ _ _ _ _ _ _ (by decide)), Dev.fl_congr (Dev.rd_ev_ne _ _ _ (by decide))]
    exact Dev.fl_wrB _ FU_STATUS_XFER p false rfl
  case event => exact (Dev.fl_congr (Dev.rd_recd _ _ _ _ _ _ _ (by decide))).trans (Dev.fl_ev _ _ p rfl)
  case none => simp [Dev.fg, Dev.setFg]
  case keeps =>
    exact ((((KeepsBut.refl (xferFields p) d).setFg n _).wr FU_STATUS_XFER p 0 (by simp [xferFields])).ev FU_EVT_XFER p
      (by simp [xferFields])).recd _ _ _ _ fun _ m => List.mem_append_right _ m

/-- An outgoing member that does not open leaves the group stuck, without a change, and faults its step. -/
theorem feedStuck_shows {d : Dev} {n p : Nat} (hdue : stuckDue d n = true) (hprim : groupPrim d n = some p) :
    ((feedStuck d n).fg n).stuck = true ∧ (feedStuck d n).fl FU_EVT_STUCK p = true ∧ (feedStuck d n).fl FU_STATUS_XFER p = false ∧
    (feedStuck d n).tfq = d.tfq ++ [(3, n, 2)] ∧ (feedStuck d n).bs = d.bs := by
  obtain ⟨ch, hchg⟩ := change_of_stuckDue hdue
  simp only [feedStuck, hchg, hprim]
  refine ⟨?stuck, ?event, ?xfer, by simp [Dev.tfault], by simp⟩
  case stuck => simp [Dev.fg, Dev.setFg]
  case event =>
    rw [Dev.tfault_fl]
    exact (Dev.fl_congr (Dev.rd_recd _ _ _ _ _ _ _ (by decide))).trans (Dev.fl_ev _ _ p rfl)
  case xfer =>
    rw [Dev.tfault_fl, Dev.fl_congr (Dev.rd_recd _ _ _ _ _ _ _ (by decide)), Dev.fl_congr (Dev.rd_ev_ne _ _ _ (by decide))]
    exact Dev.fl_wrB _ FU_STATUS_XFER p false rfl

/-! ### A change on command (R221) -/

/-- XFER of the primary of an enabled group that is not shed asks the selection for a change. -/
theorem fuCmdXfer_asks {d : Dev} {f : Nat} (hv : fuValid d f = true) (hg : fuInfg d f = true) (hprio : d.fl FU_CFG_PRIO f = false)
    (hen : (d.fg (fuFg d f)).en = true) (hsh : (d.fg (fuFg d f)).shed = false) :
    fuCmdXfer d f = d.setFg (fuFg d f) { d.fg (fuFg d f) with req := true } := by
  simp [fuCmdXfer, hv, hg, hprio, groupXfer_asks hen hsh]

/-! ### The statement -/

/-- Settles O13: a revert and a change on command decide a change between the two members; the end of a change and an outgoing member
that does not open end it. -/
theorem feedGroupChanges : Obligations.FeedGroupChanges := by
  unfold Obligations.FeedGroupChanges
  refine ⟨fun s n p q hj hd hprim hsec hc => ?revert, fun s n p hx hd hprim => ?xfer, fun s n p hx hd hprim => ?stuck,
    fun s a f n q ht ha hk hv hg hprio hn hprim hsec hsel hon hsup havail hen hsh hstuck hchg hc => ?command⟩
  case revert =>
    obtain ⟨hout, hinc, hxfer, hchg, hbs⟩ := feedRevert_shows hprim hsec hc
    obtain ⟨t, he, hp, ht⟩ := exec_judged (s := s) (c := .feedRevert n) rfl hj hd (by rw [hbs]; exact hj.2.2)
    refine ⟨t, he, hp, ?_⟩
    rw [ht]
    exact ⟨hout, hinc, hxfer, hchg⟩
  case xfer =>
    obtain ⟨hxfer, hevent, hnone, hkeep, hbs⟩ := feedXfer_shows hd hprim
    obtain ⟨t, he, hp, ht⟩ := exec_timed (s := s) (c := .feedXfer n) rfl hx hd (by rw [hbs]; exact hx.2.2)
    refine ⟨t, he, hp, ?_⟩
    rw [ht]
    exact ⟨hxfer, hevent, hnone, hkeep⟩
  case stuck =>
    obtain ⟨hst, hevent, hxfer, hqueue, hbs⟩ := feedStuck_shows hd hprim
    obtain ⟨t, he, hp, ht⟩ := exec_timed (s := s) (c := .feedStuck n) rfl hx hd (by rw [hbs]; exact hx.2.2)
    refine ⟨t, he, hp, ?_⟩
    rw [ht]
    exact ⟨hst, hevent, hxfer, hqueue⟩
  case command =>
    subst hn
    obtain ⟨t, he, hp, ht⟩ := exec_busWord (c := .fuCmdXfer a f) rfl ht ha hk
      (fuCmdXfer_asks (d := handOver s.atCommands.dev) hv hg hprio hen hsh) rfl
    have hasked : XferAsked t.sys.dev (fuFg (handOver s.atCommands.dev) f.val) f.val q := by
      rw [ht]
      refine ⟨?_, ?_, ?_, ?_, hprim, hsec, hsel, hon, hsup, havail⟩ <;> rw [Dev.fg_setFg]
      exacts [hen, hstuck, Option.isNone_iff_eq_none.mp hchg]
    refine ⟨t, he, hp, hasked.req, ?_, hasked.shown ?_⟩ <;> rw [ht]
    · exact (KeepsBut.refl [] _).handOver.setFg _ _
    · exact hc

end Sys2Proof.Machine
end

section
/-! PROOFS about the on and off requests of the sequencer: the statement that fails (R231, R235). -/

namespace Sys2Proof.Machine
open R

/-- With no step to power down, SQ_CMD.OFF takes a sequence that is ON past DOWN, to MINOFF. -/
theorem sqCmdOff_onWithoutSteps (t : State) (ht : exec (.sqCmdOff .pa) onWithoutSteps = .next t) :
    (seqActReq t.sys.dev).rd SQ_STATUS_STATE = sqMinoff := by
  obtain rfl := Host.Outcome.next.inj ht
  decide +kernel

/-- Refutes O15: the power-down of a sequence with NSTEP = 0 is over in the tick that takes the off request, so the sequence
does not stand in DOWN but in MINOFF. -/
theorem not_sequenceRequestsAreTaken : ¬ Obligations.SequenceRequestsAreTaken := by
  unfold Obligations.SequenceRequestsAreTaken
  rintro ⟨-, -, -, hoff, -⟩
  obtain ⟨t, ht, -, -, -, hdown, -⟩ := hoff onWithoutSteps .pa (by decide +kernel) (by decide) (by decide +kernel)
    (by decide +kernel)
  exact absurd ((sqCmdOff_onWithoutSteps t ht).symm.trans hdown) (by decide)

end Sys2Proof.Machine
end

section
/-! PROOFS about disabling the targets of the steps: what it leaves of the sequence (R227, R230). -/

namespace Sys2Proof.Machine
open R

/-! ### The states of the steps (R230) -/

/-- A written bit field leaves the fields that end below it or start above it. -/
theorem bitsOf_setBits_disjoint (v x : Nat) {lo w lo' w' : Nat} (h : lo' + w' ≤ lo ∨ lo + w ≤ lo') :
    bitsOf (setBits v lo w x) lo' w' = bitsOf v lo' w' := by
  rw [setBits_eq]
  rcases h with hbelow | habove
  · rw [← bitsOf_mod hbelow, Nat.mul_add_mod_self_right, Nat.mod_mod, bitsOf_mod hbelow]
  · obtain ⟨k, rfl⟩ := Nat.exists_eq_add_of_le habove
    have hlow : v % 2 ^ lo / 2 ^ lo = 0 := Nat.div_eq_of_lt (Nat.mod_lt _ (Nat.two_pow_pos lo))
    have hfield : x % 2 ^ w / 2 ^ w = 0 := Nat.div_eq_of_lt (Nat.mod_lt _ (Nat.two_pow_pos w))
    unfold bitsOf
    simp only [pow_add, ← Nat.div_div_eq_div_mul]
    rw [Nat.add_comm, Nat.add_mul_div_right _ _ (Nat.two_pow_pos lo), hlow, Nat.zero_add, Nat.add_comm,
      Nat.add_mul_div_right _ _ (Nat.two_pow_pos w), hfield, Nat.zero_add]

/-- The other steps show what they showed. -/
theorem stepState_setStep_ne (d : Dev) {k s : Nat} (st : Nat) (h : k ≠ s) : stepState (setStep d s st) k = stepState d k := by
  unfold stepState setStep
  by_cases hword : k / 8 = s / 8
  · have hw : 4 * (k % 8) + 4 ≤ SQ_STEPST.w := by
      show _ ≤ 32
      omega
    rw [hword, Dev.rd_wr, bitsOf_mod hw, bitsOf_setBits_disjoint _ _ (by omega)]
  · rw [Dev.rd_wr_ix _ _ _ hword]

/-! ### What is kept -/

/-- The fields of the sequence that a press of the push button acts on. -/
def seqIds : List Nat := [SQ_STATUS_STATE.id, SQ_STATUS_REQ.id, SQ_STATUS_FORCE.id, SQ_EVT_FORCEOFF.id, SQ_STEPST.id]

/-- `e` shows the sequence as `d` does, and the same sheds wait. -/
structure SeqKept (d e : Dev) : Prop where
  rd : ∀ (r : Reg) (ix : Nat), r.id ∈ seqIds → e.rd r ix = d.rd r ix
  shed : e.bs.shedReq = d.bs.shedReq

theorem SeqKept.refl (d : Dev) : SeqKept d d := ⟨fun _ _ _ => rfl, rfl⟩

theorem SeqKept.trans {d e f : Dev} (h : SeqKept d e) (h' : SeqKept e f) : SeqKept d f :=
  ⟨fun r ix m => (h'.rd r ix m).trans (h.rd r ix m), h'.shed.trans h.shed⟩

/-- Writing other fields keeps the sequence. -/
theorem WritesOnly.seqKept {ids : List Nat} {d e : Dev} (h : WritesOnly ids d e) (hids : ∀ i ∈ seqIds, i ∉ ids) : SeqKept d e :=
  ⟨fun r ix m => h.1 r ix (hids r.id m), congrArg ShelfSt.shedReq h.2⟩

theorem SeqKept.forIx {d : Dev} (n : Nat) (f : Nat → Dev → Dev) (hf : ∀ i x, SeqKept x (f i x)) : SeqKept d (forIx n f d) := by
  unfold Sys2Proof.Machine.forIx
  generalize List.range n = q
  induction q generalizing d with
  | nil => exact .refl d
  | cons i q ih => exact (hf i d).trans ih

/-- A new state of the shelf with the same sheds waiting keeps the sequence. -/
theorem SeqKept.withBs {d e : Dev} (h : SeqKept d e) {x : ShelfSt} (hx : x.shedReq = e.bs.shedReq) :
    SeqKept d { e with bs := x } := ⟨h.rd, hx.trans h.shed⟩

/-- A step keeps its state where the sequence is kept. -/
theorem SeqKept.stepState {d e : Dev} (h : SeqKept d e) (k : Nat) : stepState e k = stepState d k := by
  unfold Sys2Proof.Machine.stepState
  rw [h.rd _ _ (by decide)]

/-! ### Fuses, feed groups and the bus (R212, R220, R178) -/

theorem fuDisable_writes (d : Dev) (f : Nat) : WritesOnly [FU_STATUS_STATE.id] d (fuDisable d f) := by
  unfold fuDisable; dsimp only
  split
  · exact ((WritesOnly.refl _ d).setFuse f _).wr (by decide) _ _
  · exact (WritesOnly.refl _ d).setFuse f _

/-- The fields that disabling a feed group writes. -/
def groupOffIds : List Nat := [FU_STATUS_SEL.id, FU_STATUS_STATE.id, FU_STATUS_GMAN.id, FU_STATUS_XFER.id]

theorem memberOpen_writes (d : Dev) (f : Nat) : WritesOnly groupOffIds d (memberOpen f d) := by
  have hsel : WritesOnly groupOffIds d (d.wr FU_STATUS_SEL f 0) := (WritesOnly.refl _ d).wr (by decide) _ _
  unfold memberOpen; dsimp only
  split
  · exact hsel.wr (by decide) _ _
  · exact hsel

theorem groupDisable_writes (d : Dev) (n : Nat) : WritesOnly groupOffIds d (groupDisable d n) := by
  obtain ⟨e, x, -, heq, he⟩ := groupDisable_eq d n
  have hopen : WritesOnly groupOffIds d (forL (groupMembers d n) memberOpen d) :=
    (WritesOnly.refl _ d).forL _ _ fun f x => memberOpen_writes x f
  rw [heq]
  exact (hopen.trans (he.mono (by decide))).of_regs rfl rfl

/-- The fields that disabling the bus writes. -/
def busOffIds : List Nat :=
  [FD_STATUS_STATE.id, FD_FM_STATE.id, FD_FM_REASON.id, FD_FM_RMP.id, FD_FM_OPENLOOP.id] ++ holdIds ++ nofeedIds

theorem busDisable_writes (d : Dev) : WritesOnly busOffIds d (busDisable d) := by
  have hhold : ∀ (x : Dev) (s : Nat), WritesOnly busOffIds x (slotHold x s 0 true) := fun x s =>
    (slotHold_writes x s 0 true).mono (by decide)
  unfold busDisable
  extract_lets bus le stopped off idle held
  have hoff : WritesOnly busOffIds d off := ((WritesOnly.refl _ d).of_regs rfl rfl : WritesOnly _ d stopped).wr (by decide) _ _
  have hidle : WritesOnly busOffIds d idle := hoff.forIx 8 _ fun i x => by
    dsimp only
    have hreset : WritesOnly busOffIds x
        ((((x.wr FD_FM_STATE i fmIdle).wr FD_FM_REASON i 0).wr FD_FM_RMP i 0).wr FD_FM_OPENLOOP i 0) :=
      ((((WritesOnly.refl _ x).wr (by decide) _ _).wr (by decide) _ _).wr (by decide) _ _).wr (by decide) _ _
    split
    · exact (hreset.setFm i _).trans (hhold _ _)
    · exact hreset.setFm i _
  have hheld : WritesOnly busOffIds d held := by
    simp only [held]
    split
    · exact hidle.trans (hhold _ _)
    · exact hidle
  exact hheld.trans ((busNofeed_writes held).mono (by decide))

/-! ### The shelf (R191, R192) -/

theorem shelfUnhold_writes (d : Dev) : WritesOnly holdIds d (shelfUnhold d) := by
  unfold shelfUnhold
  extract_lets x
  have hx : WritesOnly holdIds d x := (WritesOnly.refl _ d).forIx 8 _ fun i y => by
    split
    · exact slotHold_writes ..
    · exact .refl _ y
  split
  · exact hx.trans (slotHold_writes ..)
  · exact hx

theorem shelfCounts_seqKept (d : Dev) : SeqKept d (shelfCounts d) :=
  ⟨fun _ ix m => shelfCounts_rd d ((by decide : ∀ i ∈ seqIds, i ∉ [BS_STATUS_NSTR.id, BS_STATUS_NLEG.id]) _ m) ix,
    congrArg ShelfSt.shedReq (shelfCounts_bs d)⟩

/-- A shelf that the sequencer disables keeps the sheds that wait. -/
theorem shelfDisable_seqKept (d : Dev) : SeqKept d (shelfDisable d) := by
  unfold shelfDisable
  split
  · exact .refl d
  · extract_lets legs strings unheld off cleared
    have hlegs : SeqKept d legs := .forIx 8 _ fun k x => by
      have hidle : WritesOnly (BS_LEG_STATE.id :: holdIds) x (x.wr BS_LEG_STATE k 0) := (WritesOnly.refl _ x).wr (by decide) _ _
      have hheld := ((legHold_writes (x.wr BS_LEG_STATE k 0) k 2 false).trans (legHold_writes _ k 1 true)).mono
        (ids' := BS_LEG_STATE.id :: holdIds) (by decide)
      exact (hidle.trans hheld).seqKept (by decide)
    have hstrings : SeqKept legs strings := .forIx 8 _ fun j x => by
      split
      · exact (((WritesOnly.refl [BS_STR_STATE.id] x).wr (by decide) j 0).seqKept (by decide)).withBs rfl
      · exact .refl x
    have hunheld : SeqKept strings unheld := (shelfUnhold_writes strings).seqKept (by decide)
    have hcleared : WritesOnly [FD_STATUS_BATREG.id, BS_STATUS_STATE.id, BS_STATUS_TAKEN.id, BS_STATUS_SHED.id] unheld cleared :=
      ((((WritesOnly.refl _ unheld).wr (by decide) _ _).wr (by decide) _ _).wr (by decide) _ _).wr (by decide) _ _
    have hend := hlegs.trans (hstrings.trans (hunheld.trans (hcleared.seqKept (by decide))))
    clear_value cleared
    refine SeqKept.trans ?_ (shelfCounts_seqKept _)
    exact hend.withBs rfl

/-! ### A step's target (R227) -/

/-- Disabling a step's target changes no step's state, no request and no shed that waits. -/
theorem targetOff_seqKept (d : Dev) (s : Nat) : SeqKept d (targetOff d s) := by
  unfold targetOff; dsimp only
  split
  case h_1 =>
    exact ((setPend_rail_writes railIds d _ none).trans (railDisable_writes _ _)).seqKept (by decide)
  case h_2 => exact (fuDisable_writes d _).seqKept (by decide)
  case h_3 => exact (groupDisable_writes d _).seqKept (by decide)
  case h_4 => exact (busDisable_writes d).seqKept (by decide)
  case h_5 => exact shelfDisable_seqKept d
  case h_6 => exact .refl d

end Sys2Proof.Machine
end

section
/-! PROOFS about the push button: its short and long presses, the press that forces the sequence off, and the statement on them
(R235, R238, R239). -/

namespace Sys2Proof.Machine
open R

/-! ### Short and long presses (R238) -/

theorem mrPressed_short {d : Dev} {ms : Nat} (hlo : 50 ≤ ms) (hhi : ms ≤ 4000) (hlt : ms < forcet d * 1000)
    (hf : d.fl SQ_STATUS_FORCE = false) : mrPressed d ms = mrShort d := if_pos ⟨hlo, hhi, hlt, by simp [hf]⟩

theorem mrPressed_brief {d : Dev} {ms : Nat} (h : ms < 50) : mrPressed d ms = d := if_neg fun hp => absurd hp.1 (Nat.not_le.mpr h)

theorem mrHeld_long {d : Dev} {ms : Nat} (hlo : 4000 < ms) (hlt : ms < forcet d * 1000) (hf : d.fl SQ_STATUS_FORCE = false) :
    mrHeld d ms = mrLong d := if_pos ⟨hlo, hlt, by simp [hf]⟩

theorem mrShort_keeps (d : Dev) : KeepsBut ([(SQ_EVT_MRSHORT, 0)] ++ recFields) d (mrShort d) :=
  (((KeepsBut.refl _ d).ev _ _ (by simp)).recd _ _ _ _ fun _ m => List.mem_append_right _ m).of_regs rfl

theorem mrLong_keeps (d : Dev) : KeepsBut ([(SQ_EVT_MRLONG, 0)] ++ recFields) d (mrLong d) :=
  ((KeepsBut.refl _ d).ev _ _ (by simp)).recd _ _ _ _ fun _ m => List.mem_append_right _ m

/-- An event that is set and then recorded shows. -/
theorem Dev.fl_ev_recd (d : Dev) {r : Reg} (hw : r.w = 1) (hr : r.id ∉ recIds) (ix code cls src : Nat) (pay : List Nat) :
    ((d.ev r ix).recd code cls src pay).fl r ix = true :=
  (Dev.fl_congr (Dev.rd_recd _ _ _ _ _ _ _ hr)).trans (d.fl_ev r ix hw)

theorem mrShort_event (d : Dev) : (mrShort d).fl SQ_EVT_MRSHORT = true := d.fl_ev_recd rfl (by decide) 0 _ _ _ _

theorem mrLong_event (d : Dev) : (mrLong d).fl SQ_EVT_MRLONG = true := d.fl_ev_recd rfl (by decide) 0 _ _ _ _

theorem mrShort_bs (d : Dev) : (mrShort d).bs = d.bs := (Dev.recd_bs ..).trans (Dev.ev_bs ..)

theorem mrLong_bs (d : Dev) : (mrLong d).bs = d.bs := (Dev.recd_bs ..).trans (Dev.ev_bs ..)

theorem mrShort_press (d : Dev) : (mrShort d).seq.press = true := rfl

/-- MR_SHORT answers what the press makes of the device, where no shed follows. -/
theorem exec_mrShort {s : State} {ms : BitVec 16} {e : Dev} (hq : s.sys.dev.quiet) (he : mrPressed s.sys.dev ms.toNat = e)
    (hbs : e.bs = s.sys.dev.bs) : ∃ t : State, exec (.mrShort ms) s = .next t ∧ t.pending = s.pending ∧ t.sys.dev = e := by
  subst he
  exact exec_latched (f := fun d => mrPressed d ms.toNat) rfl hq.1 ((congrArg ShelfSt.shedReq hbs).trans hq.2)

/-! ### The request of a short press (R235, R238) -/

/-- A request that is not refused, and is not that of AUTO, sets REQ to its value. -/
theorem seqRequest_req {d : Dev} (on : Bool) {src : Nat} (hsrc : src ≠ 0) (hf : d.fl SQ_STATUS_FORCE = false)
    (hl : d.rd SQ_STATUS_STATE ≠ sqLocked) : (seqRequest d on src).2.fl SQ_STATUS_REQ = on := by
  have hok : (on && (d.fl SQ_STATUS_FORCE || sqState d == sqLocked)) = false := by simp [hf, sqState, hl]
  unfold seqRequest
  simp only [hok, hsrc, Bool.false_eq_true, if_false, false_and]
  exact Dev.fl_wrB _ SQ_STATUS_REQ 0 on rfl

/-- A press that waits for phase B sets REQ as SHACT selects: toggled, on or off. -/
theorem pressRequest_req {d : Dev} (hp : d.seq.press = true) (hs : d.rd SQ_CTRL_SHACT ≠ 0) (hf : d.fl SQ_STATUS_FORCE = false)
    (hl : d.rd SQ_STATUS_STATE ≠ sqLocked) : (pressRequest d).fl SQ_STATUS_REQ =
      if d.rd SQ_CTRL_SHACT = 1 then !d.fl SQ_STATUS_REQ else decide (d.rd SQ_CTRL_SHACT = 2) := by
  have hlt : d.rd SQ_CTRL_SHACT < 4 := d.rd_lt SQ_CTRL_SHACT 0
  have hset := fun on => seqRequest_req (d := { d with seq := { d.seq with press := false } }) (src := 5) on (by decide) hf hl
  have hshact : d.rd SQ_CTRL_SHACT = 1 ∨ d.rd SQ_CTRL_SHACT = 2 ∨ d.rd SQ_CTRL_SHACT = 3 := by omega
  unfold pressRequest
  rcases hshact with htoggle | hon | hoff
  · simpa [hp, htoggle] using hset (!d.fl SQ_STATUS_REQ)
  · simpa [hp, hon] using hset true
  · simpa [hp, hoff] using hset false

/-! ### The press that reaches FORCET (R239) -/

/-- FORCE and its event are set. -/
def forceSet (d : Dev) : Dev := { (d.wr SQ_STATUS_FORCE 0 1).ev SQ_EVT_FORCEOFF with pw := { d.pw with forcePend := false } }

/-- A step goes to IDLE at once, its target disabled. -/
def stepForcedOff (s : Nat) (d : Dev) : Dev := setStep ((targetOff d s).setStp s {}) s stIdle

/-- The steps below `n` go to IDLE, from the lowest up. -/
def stepsForcedOff (n : Nat) (d : Dev) : Dev := forIx n stepForcedOff d

theorem stepsForcedOff_succ (n : Nat) (d : Dev) : stepsForcedOff (n + 1) d = stepForcedOff n (stepsForcedOff n d) := by
  simp [stepsForcedOff, forIx, List.range_succ]

theorem stepForcedOff_idle (d : Dev) (s : Nat) : stepState (stepForcedOff s d) s = stIdle := stepState_setStep _ (by decide)

/-- The other steps stand. -/
theorem stepForcedOff_other (d : Dev) {k s : Nat} (h : k ≠ s) : stepState (stepForcedOff s d) k = stepState d k :=
  (stepState_setStep_ne _ _ h).trans ((targetOff_seqKept d s).stepState k)

theorem stepsForcedOff_idle (d : Dev) {n k : Nat} (h : k < n) : stepState (stepsForcedOff n d) k = stIdle := by
  induction n with
  | zero => omega
  | succ n ih =>
    rw [stepsForcedOff_succ]
    by_cases hk : k = n
    · rw [hk, stepForcedOff_idle]
    · rw [stepForcedOff_other _ hk, ih (by omega)]

/-- Beside the steps' states the sequence is kept. -/
theorem stepForcedOff_rd (d : Dev) (s : Nat) {r : Reg} (m : r.id ∈ seqIds) (hr : r.id ≠ SQ_STEPST.id) (ix : Nat) :
    (stepForcedOff s d).rd r ix = d.rd r ix :=
  (Dev.rd_wr_ne _ _ _ _ hr).trans ((targetOff_seqKept d s).rd r ix m)

theorem stepsForcedOff_rd (d : Dev) (n : Nat) {r : Reg} (m : r.id ∈ seqIds) (hr : r.id ≠ SQ_STEPST.id) (ix : Nat) :
    (stepsForcedOff n d).rd r ix = d.rd r ix :=
  foldl_keeps (fun x => x.rd r ix) (fun x s => stepForcedOff s x) (fun x s => stepForcedOff_rd x s m hr ix) (List.range n) d

theorem stepsForcedOff_shed (d : Dev) (n : Nat) : (stepsForcedOff n d).bs.shedReq = d.bs.shedReq :=
  foldl_keeps (fun x => x.bs.shedReq) (fun x s => stepForcedOff s x) (fun x s => (targetOff_seqKept x s).shed) (List.range n) d

/-- The fields that a force-off writes after the steps. -/
def minoffIds : List Nat := [SQ_STATUS_STATE.id, SQ_STATUS_RSTREL.id, GL_STATUS_RSTOUT.id] ++ recIds

/-- After the steps, a force-off enters MINOFF with RSTOUT_N asserted. -/
theorem mrForceoff_afterSteps (d : Dev) : WritesOnly minoffIds (stepsForcedOff (nStep d) (forceSet d)) (mrForceoff d) ∧
    (mrForceoff d).rd SQ_STATUS_STATE = sqMinoff ∧ (mrForceoff d).rd GL_STATUS_RSTOUT = 1 := by
  have hn : nStep (forceSet d) = nStep d := (Dev.rd_ev_ne _ _ _ (by decide)).trans (Dev.rd_wr_ne _ _ _ _ (by decide))
  unfold mrForceoff
  extract_lets _ _ _ off noted _ planned
  have hoff : off = stepsForcedOff (nStep d) (forceSet d) := by rw [← hn]; rfl
  have hnoted : WritesOnly minoffIds off noted := (WritesOnly.refl _ off).recAt (by decide) _ _ _ _ _
  have hplanned : WritesOnly minoffIds off planned := hnoted.of_regs rfl rfl
  rw [← hoff]
  clear_value planned
  refine ⟨?_, ?_, ?_⟩
  · have hgo : WritesOnly minoffIds off (sqGo planned sqMinoff) := (hplanned.wr (by decide) 0 _).of_regs rfl rfl
    exact ((hgo.wr (by decide) 0 _).wr (by decide) 0 _).of_regs rfl rfl
  · exact (Dev.rd_wr_ne _ _ _ _ (by decide)).trans ((Dev.rd_wr_ne _ _ _ _ (by decide)).trans (Dev.rd_wr ..))
  · exact Dev.rd_wr ..

theorem mrForceoff_shed (d : Dev) : (mrForceoff d).bs.shedReq = d.bs.shedReq := by
  obtain ⟨⟨-, hbs⟩, -⟩ := mrForceoff_afterSteps d
  have hset : (forceSet d).bs = d.bs := (Dev.ev_bs ..).trans rfl
  rw [hbs, stepsForcedOff_shed, hset]

/-- A force-off shows FORCE, its event and every step IDLE, and leaves the request. -/
theorem mrForceoff_shows (d : Dev) : (mrForceoff d).fl SQ_STATUS_FORCE = true ∧ (mrForceoff d).fl SQ_EVT_FORCEOFF = true ∧
    (∀ k < nStep d, stepState (mrForceoff d) k = stIdle) ∧ (mrForceoff d).fl SQ_STATUS_REQ = d.fl SQ_STATUS_REQ := by
  obtain ⟨⟨hrd, -⟩, -⟩ := mrForceoff_afterSteps d
  have hkeeps : ∀ {r : Reg}, r.id ∈ seqIds → r.id ≠ SQ_STEPST.id → r.id ∉ minoffIds →
      (mrForceoff d).fl r = (forceSet d).fl r := fun m hr hm =>
    Dev.fl_congr ((hrd _ 0 hm).trans (stepsForcedOff_rd _ _ m hr 0))
  refine ⟨?force, ?event, fun k hk => ?idle, ?req⟩
  case force =>
    rw [hkeeps (by decide) (by decide) (by decide)]
    exact (Dev.fl_congr (Dev.rd_ev_ne _ _ _ (by decide))).trans (Dev.fl_wrB d SQ_STATUS_FORCE 0 true rfl)
  case event =>
    rw [hkeeps (by decide) (by decide) (by decide)]
    exact Dev.fl_ev _ SQ_EVT_FORCEOFF 0 rfl
  case idle =>
    unfold stepState
    rw [hrd _ _ (by decide)]
    exact stepsForcedOff_idle _ hk
  case req =>
    rw [hkeeps (by decide) (by decide) (by decide)]
    exact Dev.fl_congr ((Dev.rd_ev_ne _ _ _ (by decide)).trans (Dev.rd_wr_ne _ _ _ _ (by decide)))

/-- MR_FORCEOFF in a live device where FORCE is clear. -/
theorem exec_mrForceoff {s : State} (hq : s.sys.dev.quiet) (hf : s.sys.dev.fl SQ_STATUS_FORCE = false) :
    ∃ t : State, exec .mrForceoff s = .next t ∧ t.pending = s.pending ∧ t.sys.dev = mrForceoff s.sys.dev := by
  have hrow : mrForced s.sys = latched mrForceoff s.sys := by simp [mrForced, hf, hq.1]
  exact exec_latched (sysRow_congr hrow) hq.1 ((mrForceoff_shed _).trans hq.2)

/-! ### The statement -/

/-- Settles O18: presses by their length, and for the force-off a walk over the steps that keeps those already IDLE. -/
theorem pushButtonPresses : Obligations.PushButtonPresses := by
  unfold Obligations.PushButtonPresses
  refine ⟨fun s ms hq hlo hhi hlt hf _ => ?noRequest, fun s ms hq hlo hhi hlt hf hs hl => ?request, fun s ms hq hms => ?brief,
    fun s ms hq hlo hlt hf => ?long, fun s hq hf _ => ?force, fun s _ _ => ?clear⟩
  case noRequest =>
    obtain ⟨t, he, hp, ht⟩ := exec_mrShort hq (mrPressed_short hlo hhi hlt hf) (mrShort_bs _)
    refine ⟨t, he, hp, ?_⟩
    rw [ht]
    exact ⟨mrShort_event _, mrShort_keeps _⟩
  case request =>
    obtain ⟨t, he, hp, ht⟩ := exec_mrShort hq (mrPressed_short hlo hhi hlt hf) (mrShort_bs _)
    refine ⟨t, he, hp, ?_⟩
    rw [ht]
    have hkeeps := mrShort_keeps s.sys.dev
    have hshact := hkeeps.rd_eq (r := SQ_CTRL_SHACT) (by decide) 0
    refine ⟨mrShort_event _, mrShort_press _, ?_⟩
    rw [pressRequest_req (mrShort_press _) (hshact.trans_ne hs) ((Dev.fl_congr (hkeeps.rd_eq (by decide) 0)).trans hf)
      ((hkeeps.rd_eq (by decide) 0).trans_ne hl), hshact, Dev.fl_congr (hkeeps.rd_eq (by decide) 0)]
  case brief =>
    obtain ⟨t, he, hp, ht⟩ := exec_mrShort hq (mrPressed_brief hms) rfl
    refine ⟨t, he, hp, ?_⟩
    rw [ht]
    exact .refl _ _
  case long =>
    have hheld := mrHeld_long hlo hlt hf
    obtain ⟨t, he, hp, ht⟩ := exec_latched (c := .mrLong ms) (f := fun d => mrHeld d ms.toNat) rfl hq.1
      (by simpa only [hheld, mrLong_bs] using hq.2)
    refine ⟨t, he, hp, ?_⟩
    rw [ht, hheld]
    exact ⟨mrLong_event _, Dev.fl_congr ((mrLong_keeps _).rd_eq (by decide) 0), mrLong_keeps _⟩
  case force =>
    obtain ⟨t, he, hp, ht⟩ := exec_mrForceoff hq hf
    obtain ⟨-, hstate, hrst⟩ := mrForceoff_afterSteps s.sys.dev
    obtain ⟨hforce, hevent, hidle, hreq⟩ := mrForceoff_shows s.sys.dev
    refine ⟨t, he, hp, ?_⟩
    rw [ht]
    exact ⟨hforce, hevent, hstate, hrst, hidle, hreq⟩
  case clear =>
    obtain ⟨t, he, hp, ht⟩ := exec_devRow (c := .forceClear) (s := s) (f := forceClear) rfl
    refine ⟨t, he, hp, ?_⟩
    rw [ht]
    exact ⟨Dev.fl_wrB _ SQ_STATUS_FORCE 0 false rfl, (KeepsBut.refl _ _).wr _ _ _ (by simp)⟩

end Sys2Proof.Machine
end

section
/-! PROOFS about the release of a power cap: the assertion it ends, its count, and what it writes (R246, R247). -/

namespace Sys2Proof.Machine
open R

/-- A bit of a field that takes a value shows it. -/
theorem Dev.bit_wrBit (d : Dev) {r : Reg} (ix : Nat) {k : Nat} (hk : k < r.w) (v : Bool) : (d.wrBit r ix k v).bit r ix k = v := by
  unfold Dev.bit Dev.wrBit
  rw [Dev.rd_wr, bitOf_mod hk, bitOf_setBit]

/-- A cap is asserted where the field of its kind says so. -/
theorem capOn_congr {d e : Dev} (k : Nat) (hhub : e.rd CP_ASSERT_HUB 0 = d.rd CP_ASSERT_HUB 0)
    (hrail : e.rd CP_ASSERT2_RAIL 0 = d.rd CP_ASSERT2_RAIL 0) (hfg : e.rd CP_ASSERT2_FG 0 = d.rd CP_ASSERT2_FG 0) :
    capOn e k = capOn d k := by
  unfold capOn Dev.fl Dev.bit
  rw [hhub, hrail, hfg]

@[simp] theorem recAt_capOn (d : Dev) (pm code cls src : Nat) (pay : List Nat) (k : Nat) :
    capOn (d.recAt pm code cls src pay) k = capOn d k :=
  capOn_congr k (Dev.rd_recAt _ _ _ _ _ _ _ _ (by decide)) (Dev.rd_recAt _ _ _ _ _ _ _ _ (by decide))
    (Dev.rd_recAt _ _ _ _ _ _ _ _ (by decide))

/-- The throttle outputs follow the assertions of the caps and leave them. -/
@[simp] theorem throtUpdate_capOn (d : Dev) (k : Nat) : capOn (throtUpdate d) k = capOn d k := by
  have hkeep := throtUpdate_keepsBut (KeepsBut.refl _ d) fun _ m => m
  exact capOn_congr k (hkeep.rd_eq (by decide) 0) (hkeep.rd_eq (by decide) 0) (hkeep.rd_eq (by decide) 0)

/-- A cap of the hub, of a rail or of a group that asserts or releases shows it. -/
theorem capOn_setCapOn (d : Dev) {k : Nat} (hk : k < 33) (b : Bool) : capOn (setCapOn d k b) k = b := by
  unfold capOn setCapOn
  by_cases hhub : k = 0
  · rw [if_pos hhub, if_pos hhub]
    exact Dev.fl_wrB d CP_ASSERT_HUB 0 b rfl
  · rw [if_neg hhub, if_neg hhub]
    by_cases hrail : k ≤ 16
    · rw [if_pos hrail, if_pos hrail]
      exact Dev.bit_wrBit d 0 (show k - 1 < 16 by omega) b
    · rw [if_neg hrail, if_neg hrail]
      exact Dev.bit_wrBit d 0 (show k - 17 < 16 by omega) b

theorem setCapOn_keepsBut {l : List (Reg × Nat)} {a b : Dev} (h : KeepsBut l a b)
    (m : ∀ x ∈ [(CP_ASSERT_HUB, 0), (CP_ASSERT2_RAIL, 0), (CP_ASSERT2_FG, 0)], x ∈ l) (k : Nat) (v : Bool) :
    KeepsBut l a (setCapOn b k v) := by
  unfold setCapOn
  split
  · exact h.wrB _ _ _ (m _ (by simp))
  · split
    · exact h.wrBit _ _ _ _ (m _ (by simp))
    · exact h.wrBit _ _ _ _ (m _ (by simp))

@[simp] theorem setCapOn_gov (d : Dev) (k : Nat) (v : Bool) : (setCapOn d k v).gov = d.gov := by
  unfold setCapOn
  split
  · rfl
  · split <;> rfl

@[simp] theorem setCapOn_bs (d : Dev) (k : Nat) (v : Bool) : (setCapOn d k v).bs = d.bs := by
  unfold setCapOn
  split
  · rfl
  · split <;> rfl

/-- The throttle outputs leave the counts of the releases. -/
@[simp] theorem throtUpdate_rel (d : Dev) : (throtUpdate d).gov.rel = d.gov.rel := rfl

@[simp] theorem throtUpdate_bs (d : Dev) : (throtUpdate d).bs = d.bs := rfl

/-- The cap that is released is not asserted; the record and the throttle outputs leave that. -/
theorem capRelease_capOn (d : Dev) {k : Nat} (hk : k < 33) : capOn (capRelease d k) k = false := by
  simp [capRelease, capOn_setCapOn _ hk]

/-- Its count starts again. -/
theorem capRelease_rel (d : Dev) (k : Nat) : Tbl.get 0 (capRelease d k).gov.rel k = 0 := by simp [capRelease]

theorem capRelease_bs (d : Dev) (k : Nat) : (capRelease d k).bs = d.bs := by simp [capRelease]

theorem capRelease_keepsBut (d : Dev) (k : Nat) : KeepsBut ([(CP_ASSERT_HUB, 0), (CP_ASSERT2_RAIL, 0), (CP_ASSERT2_FG, 0),
    (CP_STATUS_THR, 0), (CP_ASSERT_BUS, 0), (CP_ASSERT_RAILCAP, 0), (CP_ASSERT_FORCE, 0)] ++ recFields) d (capRelease d k) :=
  throtUpdate_keepsBut
    (.recAt (setCapOn_keepsBut (.of_regs (.refl _ _) rfl) (by simp) k false) _ _ _ _ _ fun _ => List.mem_append_right _)
    (by simp)

end Sys2Proof.Machine
end

section
/-! PROOFS about a completed averaging window and the oldest entry of a snapshot: what each shows, and what it writes (R257,
R264, R270). -/

namespace Sys2Proof.Machine
open R

/-! ### A window completes (R257) -/

@[simp] theorem Dev.tc_setTc (d : Dev) (c : Nat) (x : TelCh) : (d.setTc c x).tc c = x := Tbl.get_set_same ..

theorem avgWindow_done {d : Dev} {c : Nat} {q : Quad} (h : (d.tc c).done = some q) :
    avgWindow d c = d.setTc c { d.tc c with shown := q, done := none } := by
  simp only [avgWindow, h]

/-! ### The pause of a class of operations (R270) -/

/-- An operation that ends `n` ticks from now starts its pause there. -/
theorem paceEnded_end (d : Dev) (cls n : Nat) : Tbl.get none (paceEnded d cls n).th.paceEnd cls = some (d.cur + n) := by
  simp [paceEnded]

theorem paceEnded_keepsBut {l : List (Reg × Nat)} {a d : Dev} (h : KeepsBut l a d) (cls n : Nat) :
    KeepsBut l a (paceEnded d cls n) := h

/-! ### An entry at the ring of one endpoint (R264, R298) -/

/-- What the writing of the entry `b` does at endpoint `e`; `last` says that no other entry of its snapshot is left. -/
def snapTo (b : List Nat) (last : Bool) (e : Nat) (d : Dev) : Dev :=
  if !hqOn d e 3 then d
  else if hqSize d e 3 ≤ hqHeld d e 3 then
    (d.inc (if e = 0 then TM_DROPA else TM_DROPB)).ev (if e = 0 then TM_EVT_DROPA else TM_EVT_DROPB)
  else if last then msiDue (hqPut d e 3 256 b) e 2 else hqPut d e 3 256 b

/-- The end of a snapshot shows in the status. -/
def snapOver (last : Bool) (d : Dev) : Dev := if last then d.wr TM_STATUS_BUSY 0 0 else d

/-- The oldest entry leaves the queue, goes to both endpoints, and its pause starts. -/
theorem snapWrite_cons {d : Dev} {b : List Nat} {rest : List (List Nat)} (he : d.tm.entries = b :: rest)
    (hp : paceReady d 4 = true) : snapWrite d = paceEnded (snapOver rest.isEmpty (snapTo b rest.isEmpty 1
      (snapTo b rest.isEmpty 0 { d with tm := { d.tm with entries := rest } }))) 4 0 := by
  unfold snapWrite
  rw [he]
  dsimp only
  rw [hp]
  rfl

/-- An entry that an enabled ring takes advances its producer index. -/
theorem snapTo_room_pi {d : Dev} {e : Nat} (b : List Nat) (last : Bool) (hon : hqOn d e 3 = true)
    (hroom : hqHeld d e 3 < hqSize d e 3) :
    (snapTo b last e d).rd HQ_TEL_IDX_PI e = (d.rd HQ_TEL_IDX_PI e + 1) % 65536 := by
  have hput : (hqPut d e 3 256 b).rd HQ_TEL_IDX_PI e = (d.rd HQ_TEL_IDX_PI e + 1) % 65536 :=
    (Dev.rd_wr _ HQ_TEL_IDX_PI e _).trans (Nat.mod_mod ..)
  unfold snapTo
  rw [if_neg (by simp [hon]), if_neg (Nat.not_le.mpr hroom)]
  split
  · exact hput
  · exact hput

/-- An endpoint's ring takes the entry, or its drop is counted; no field of the other endpoint is written. -/
theorem snapTo_keepsBut {l : List (Reg × Nat)} {a d : Dev} (h : KeepsBut l a d) (b : List Nat) (last : Bool) {e : Nat}
    (hpi : (HQ_TEL_IDX_PI, e) ∈ l) (hdrop : (if e = 0 then TM_DROPA else TM_DROPB, 0) ∈ l)
    (hevt : (if e = 0 then TM_EVT_DROPA else TM_EVT_DROPB, 0) ∈ l) : KeepsBut l a (snapTo b last e d) := by
  have hput : KeepsBut l a (hqPut d e 3 256 b) := ((h.emit _).wr HQ_TEL_IDX_PI e _ hpi).setEp _ _
  unfold snapTo
  split
  · exact h
  · split
    · exact (h.inc _ 0 hdrop).ev _ 0 hevt
    · split
      · exact hput.setEp _ _
      · exact hput

@[simp] theorem snapTo_tm (b : List Nat) (last : Bool) (e : Nat) (d : Dev) : (snapTo b last e d).tm = d.tm := by
  unfold snapTo
  split
  · rfl
  · split
    · exact Dev.ev_tm ..
    · split <;> rfl

@[simp] theorem snapTo_bs (b : List Nat) (last : Bool) (e : Nat) (d : Dev) : (snapTo b last e d).bs = d.bs := by
  unfold snapTo
  split
  · rfl
  · split
    · exact Dev.ev_bs ..
    · split <;> rfl

theorem snapOver_keepsBut {l : List (Reg × Nat)} {a d : Dev} (h : KeepsBut l a d) (last : Bool) (m : (TM_STATUS_BUSY, 0) ∈ l) :
    KeepsBut l a (snapOver last d) := by
  unfold snapOver
  split
  · exact h.wr _ 0 0 m
  · exact h

@[simp] theorem snapOver_tm (last : Bool) (d : Dev) : (snapOver last d).tm = d.tm := by unfold snapOver; split <;> rfl

@[simp] theorem snapOver_bs (last : Bool) (d : Dev) : (snapOver last d).bs = d.bs := by unfold snapOver; split <;> rfl

/-! ### The entry is written (R264) -/

section
variable {d : Dev} (he : d.tm.entries ≠ []) (hp : paceReady d 4 = true)
include he hp

/-- The oldest entry leaves the queue. -/
theorem snapWrite_entries : (snapWrite d).tm.entries = d.tm.entries.tail := by
  obtain ⟨b, rest, hcons⟩ := List.exists_cons_of_ne_nil he
  rw [snapWrite_cons hcons hp, hcons]
  show (snapOver _ _).tm.entries = rest
  simp

/-- The pause of the class starts in the tick in hand. -/
theorem snapWrite_pace : Tbl.get none (snapWrite d).th.paceEnd 4 = some (snapWrite d).cur := by
  obtain ⟨b, rest, hcons⟩ := List.exists_cons_of_ne_nil he
  rw [snapWrite_cons hcons hp]
  exact paceEnded_end _ 4 0

theorem snapWrite_bs : (snapWrite d).bs = d.bs := by
  obtain ⟨b, rest, hcons⟩ := List.exists_cons_of_ne_nil he
  rw [snapWrite_cons hcons hp]
  show (snapOver _ _).bs = d.bs
  simp

theorem snapWrite_keepsBut : KeepsBut [(HQ_TEL_IDX_PI, 0), (HQ_TEL_IDX_PI, 1), (TM_DROPA, 0), (TM_DROPB, 0), (TM_EVT_DROPA, 0),
    (TM_EVT_DROPB, 0), (TM_STATUS_BUSY, 0)] d (snapWrite d) := by
  obtain ⟨b, rest, hcons⟩ := List.exists_cons_of_ne_nil he
  rw [snapWrite_cons hcons hp]
  have htaken (l) : KeepsBut l d { d with tm := { d.tm with entries := rest } } := .of_regs (.refl l d) rfl
  exact paceEnded_keepsBut (snapOver_keepsBut (snapTo_keepsBut (snapTo_keepsBut (htaken _) b _ (by simp) (by simp) (by simp)) b _
    (by simp) (by simp) (by simp)) _ (by simp)) 4 0

/-- Where the ring of endpoint 0 has room, its producer index advances by one; what endpoint 1 and the status take leaves it. -/
theorem snapWrite_pi (hon : hqOn d 0 3 = true) (hroom : hqHeld d 0 3 < hqSize d 0 3) :
    (snapWrite d).rd HQ_TEL_IDX_PI 0 = (d.rd HQ_TEL_IDX_PI 0 + 1) % 65536 := by
  obtain ⟨b, rest, hcons⟩ := List.exists_cons_of_ne_nil he
  rw [snapWrite_cons hcons hp]
  generalize hd : ({ d with tm := { d.tm with entries := rest } } : Dev) = d'
  have hkept : KeepsBut [(HQ_TEL_IDX_PI, 1), (TM_DROPB, 0), (TM_EVT_DROPB, 0), (TM_STATUS_BUSY, 0)] (snapTo b rest.isEmpty 0 d')
      (paceEnded (snapOver rest.isEmpty (snapTo b rest.isEmpty 1 (snapTo b rest.isEmpty 0 d'))) 4 0) :=
    paceEnded_keepsBut (snapOver_keepsBut (snapTo_keepsBut (.refl _ _) b _ (by simp) (by simp) (by simp)) _ (by simp)) 4 0
  rw [hkept HQ_TEL_IDX_PI 0 (by decide)]
  subst hd
  exact snapTo_room_pi b _ hon hroom

end

end Sys2Proof.Machine
end

section
/-! PROOFS about the reads of the telemetry holds and of the channel status, and the statement on telemetry and caps (R246,
R257, R258, R264, R265). -/

namespace Sys2Proof.Machine
open R

/-! ### A register read (R425) -/

/-- A read of a word that is there, as an input of the tick: it answers its value after what the read does to the device. -/
theorem exec_regRead {c : Instr} {s : State} {acc ofs : Nat} {v : Nat} {d : Dev}
    (he : exec c s = sysRow (latchedS (fun x => regRead x acc ofs)) s) (hq : s.sys.dev.quiet) (h4 : ofs % 4 = 0)
    (ht : wordThere s.sys.dev acc ofs = true) (hr : readWord s.sys acc ofs = (v, { s.sys with dev := d }))
    (hbs : d.bs = s.sys.dev.bs) :
    ∃ t : State, exec c s = .next t ∧ t.pending = s.pending ∧ t.sys.dev = d.emit (.readData acc ofs v) := by
  have hread : regRead s.sys acc ofs = { s.sys with dev := d.emit (.readData acc ofs v) } := by
    rw [regRead_there _ h4 ht, hr]
    rfl
  refine completes_latchedS (Q := fun x => x.dev = d.emit (.readData acc ofs v)) _ he hq.1 ?_ ?_
  · rw [hread]
    exact (congrArg ShelfSt.shedReq hbs).trans hq.2
  · rw [hread]

/-- What a device has answered last. -/
theorem Dev.emit_getLast? (d : Dev) (e : Emission) : (d.emit e).out.getLast? = some e := List.getLast?_concat

/-! ### The words of the holds and of the channel status (R258, R265) -/

theorem readWord_hold (s : Sys) (acc : Nat) {i : Nat} (hi : i < 8) : readWord s acc (0xA040 + 4 * i) =
    ((pkRead s.dev acc i).1, { s with dev := (pkRead s.dev acc i).2 }) := by
  unfold readWord
  rw [if_neg (by omega), if_pos (by omega), show (0xA040 + 4 * i - 0xA040) / 4 = i by omega]

theorem readWord_chstat (s : Sys) (acc : Nat) : readWord s acc 0xA02C =
    ((chstatRead s.dev acc).1, { s with dev := (chstatRead s.dev acc).2 }) := rfl

/-- The hold that is read is empty. -/
theorem pkRead_same (d : Dev) (acc i : Nat) :
    Tbl.get none ((pkRead d acc i).2.tc (telSel d acc)).pk (8 * acc + i) = none := by
  simp [pkRead]

/-- Every other hold of the channel is left. -/
theorem pkRead_ne (d : Dev) (acc i : Nat) {o : Nat} (ho : o ≠ 8 * acc + i) :
    Tbl.get none ((pkRead d acc i).2.tc (telSel d acc)).pk o = Tbl.get none (d.tc (telSel d acc)).pk o := by
  simp [pkRead, Tbl.get_set_ne _ _ _ _ ho]

/-- The accessor's shadow takes the window shown. -/
theorem chstatRead_shadow (d : Dev) (acc : Nat) :
    Tbl.get {} (chstatRead d acc).2.tm.shadow acc = (d.tc (telSel d acc)).shown := Tbl.get_set_same ..

/-! ### The statement -/

/-- Settles O29: three expiries in phase C, each by what its step shows and writes, and two reads that write no field. -/
theorem telemetryAndCapsAnswer : Obligations.TelemetryAndCapsAnswer := by
  unfold Obligations.TelemetryAndCapsAnswer
  refine ⟨fun s k hx hd => ?release, fun s c q hx hd => ?window, fun s hx hent hpace => ?entry,
    fun s a q hq ht => ?hold, fun s a hq ht => ?chstat⟩
  case release =>
    obtain ⟨t, he, hp, ht⟩ := exec_timed (c := .capRelease k) rfl hx hd
      ((congrArg ShelfSt.shedReq (capRelease_bs _ k.val)).trans hx.2.2)
    refine ⟨t, he, hp, ?_⟩
    rw [ht]
    exact ⟨capRelease_capOn _ k.isLt, capRelease_rel _ _, capRelease_keepsBut _ _⟩
  case window =>
    have hwin := avgWindow_done hd
    obtain ⟨t, he, hp, ht⟩ := exec_timed (c := .avgWindow c) rfl hx (by simp [avgDue, hd]) (by simpa [hwin] using hx.2.2)
    refine ⟨t, he, hp, ?_⟩
    rw [ht, hwin, Dev.tc_setTc]
    exact ⟨rfl, rfl, (KeepsBut.refl _ _).setTc _ _⟩
  case entry =>
    obtain ⟨t, he, hp, ht⟩ := exec_timed (c := .snapshotEntryWrite) rfl hx (by simp [hent, hpace])
      ((congrArg ShelfSt.shedReq (snapWrite_bs hent hpace)).trans hx.2.2)
    refine ⟨t, he, hp, ?_⟩
    rw [ht]
    exact ⟨snapWrite_entries hent hpace, snapWrite_pace hent hpace, snapWrite_keepsBut hent hpace, snapWrite_pi hent hpace⟩
  case hold =>
    obtain ⟨t, he, hp, hdev⟩ := exec_regRead (c := .tmPkRead a q) rfl hq (by omega) ht (readWord_hold _ _ q.isLt) rfl
    refine ⟨t, he, hp, ?_⟩
    rw [hdev]
    exact ⟨Dev.emit_getLast? _ _, pkRead_same _ _ _, fun o ho => pkRead_ne _ _ _ ho, ((KeepsBut.refl _ _).setTc _ _).emit _⟩
  case chstat =>
    obtain ⟨t, he, hp, hdev⟩ := exec_regRead (c := .tmChstatRead a) rfl hq (by decide) ht (readWord_chstat _ _) rfl
    refine ⟨t, he, hp, ?_⟩
    rw [hdev]
    exact ⟨Dev.emit_getLast? _ _, chstatRead_shadow _ _, .of_regs (.refl _ _) rfl⟩

end Sys2Proof.Machine
end

section
/-! PROOFS about the canonical form of the memories: every operation that writes the store or hole memory keeps it (R301, R340). -/

namespace Sys2Proof.Machine
open R

/-! ### What keeps the form -/

/-- Both memories of a machine are in canonical form. -/
def Sys.Canon (s : Sys) : Prop := s.nv.wf = true ∧ s.ph.wf = true

/-- A machine with the memories of a canonical one is canonical. -/
theorem Sys.Canon.of_mems {s t : Sys} (hs : s.Canon) (h : t.mems = s.mems) : t.Canon :=
  ⟨(Sys.nv_of_mems h).symm ▸ hs.1, (Sys.ph_of_mems h).symm ▸ hs.2⟩

/-- A change of the device alone keeps the form. -/
theorem Sys.Canon.on {s : Sys} (hs : s.Canon) (f : Dev → Dev) : (s.on f).Canon := hs

/-- A walk keeps a property that each of its steps keeps. -/
theorem foldl_keepsProp {α β : Type} {p : α → Prop} (f : α → β → α) (hf : ∀ a b, p a → p (f a b)) (l : List β) (a : α)
    (h : p a) : p (l.foldl f a) := by
  induction l generalizing a with
  | nil => exact h
  | cons b l ih => exact ih _ (hf a b h)

/-- What both branches satisfy, the choice satisfies. -/
theorem ite_keepsProp {α : Type} {p : α → Prop} {c : Prop} [Decidable c] {x y : α} (hx : p x) (hy : p y) :
    p (if c then x else y) := by
  split
  · exact hx
  · exact hy

/-! ### The recorder and the store (R325 to R343) -/

/-- The store is in canonical form. -/
def Sys.NvCanon (s : Sys) : Prop := s.nv.wf = true

theorem Sys.nvCanon_mk (d : Dev) (nv ph : Mem) : (Sys.mk d nv ph).NvCanon ↔ nv.wf = true := Iff.rfl

/-- A change of the device alone keeps the store's form. -/
theorem Sys.NvCanon.on {s : Sys} (hs : s.NvCanon) (f : Dev → Dev) : (s.on f).NvCanon := hs

theorem Sys.NvCanon.of_mems {s t : Sys} (hs : s.NvCanon) (h : t.mems = s.mems) : t.NvCanon :=
  (congrArg Mem.wf (Sys.nv_of_mems h)).trans hs

theorem storeCase_nvCanon {s : Sys} (hs : s.NvCanon) (k : StoreCase) : (storeCase s k).2.NvCanon := by
  cases k with
  | fine | corrected | writeFail => exact hs
  | uncorrectable => exact Mem.wf_put _ _ _ hs

theorem captureRec_nvCanon {s : Sys} (hs : s.NvCanon) (b : List Nat) : (captureRec s b).NvCanon := by
  unfold captureRec
  split
  · exact hs
  · exact Mem.wf_put _ _ _ hs

theorem regOpen_nvCanon {s : Sys} (hs : s.NvCanon) (i rnum code : Nat) : (regOpen s i rnum code).NvCanon := by
  unfold regOpen forIx
  rw [Sys.nvCanon_mk]
  exact foldl_keepsProp (p := fun m : Mem => m.wf = true) _ (fun m _ hm => Mem.wf_put m _ _ hm) _ _ hs

theorem putRecord_nvCanon {s : Sys} (hs : s.NvCanon) (pm code cls src sev rep : Nat) (sat : Bool) (pay : List Nat) :
    (putRecord s pm code cls src sev rep sat pay).NvCanon := by
  unfold putRecord
  extract_lets d rnum trig slot opens flags b s'
  have hs' : s'.NvCanon := by
    refine ite_keepsProp (regOpen_nvCanon hs _ _ _) (ite_keepsProp ?_ hs)
    split <;> exact hs.on _
  rw [Sys.nvCanon_mk]
  exact Mem.wf_put _ _ _ (captureRec_nvCanon hs' b)

theorem clearWrite_nvCanon {s : Sys} (hs : s.NvCanon) (pay : List Nat) : (clearWrite s pay).NvCanon := by
  unfold clearWrite
  extract_lets x y
  have hy : y.NvCanon := putRecord_nvCanon (hs.on _) ..
  split
  · rw [Sys.nvCanon_mk]
    exact hy
  · exact hy

theorem wrapWrite_nvCanon {s : Sys} (hs : s.NvCanon) : (wrapWrite s).NvCanon := by
  unfold wrapWrite
  exact putRecord_nvCanon (hs.on _) ..

theorem writeEnt_nvCanon {s : Sys} (hs : s.NvCanon) (e : Ent) : (writeEnt s e).NvCanon := by
  unfold writeEnt
  extract_lets
  exact (putRecord_nvCanon ((Sys.nvCanon_mk ..).mpr hs) ..).of_mems (clearTick_mems _)

theorem closeRewrite_nvCanon {s : Sys} (hs : s.NvCanon) (w : Rewrite) : (closeRewrite s w).NvCanon := by
  rw [show closeRewrite = _ by delta closeRewrite; rfl]
  have hputs : ∀ (m : Mem) (ps : List Nat) (b : List Nat), m.wf = true →
      (forL ps (fun p m => Mem.put m (regdAddr p) b) m).wf = true := fun m ps b hm =>
    foldl_keepsProp (p := fun m : Mem => m.wf = true) _ (fun m _ hm => Mem.wf_put m _ _ hm) _ _ hm
  generalize rollSlot s.dev w.rnum = k, regdPositions s w.rnum w.epoch = ps
  cases k with
  | none =>
    cases ps with
    | nil => exact hs
    | cons p ps => exact hputs _ _ _ hs
  | some k => exact hputs _ _ _ (Mem.wf_put _ _ _ hs)

theorem recordWrite_nvCanon {s : Sys} (hs : s.NvCanon) (k : StoreCase) : (recordWrite s k).NvCanon := by
  unfold recordWrite
  split
  · exact hs
  · split
    next bad x hk =>
    have hx : x.NvCanon := (congrArg (fun x : Bool × Sys => x.2.nv.wf) hk).symm.trans (storeCase_nvCanon hs k)
    extract_lets old y z
    have hy : y.NvCanon := by
      simp only [y]
      split
      · exact ite_keepsProp (wrapWrite_nvCanon hx) (clearWrite_nvCanon hx _)
      · exact closeRewrite_nvCanon (hx.on _) _
      · refine ite_keepsProp (wrapWrite_nvCanon hx) ?_
        split
        · exact writeEnt_nvCanon (hx.on _) _
        · exact hx
    have hz : z.NvCanon := ite_keepsProp (p := Sys.NvCanon) ((Sys.nvCanon_mk ..).mpr hx) hy
    rw [Sys.nvCanon_mk]
    exact hz

theorem overwriteDone_nvCanon {s : Sys} (hs : s.NvCanon) : (overwriteDone s).NvCanon := by
  unfold overwriteDone
  split
  · exact hs
  · extract_lets
    rw [Sys.nvCanon_mk]
    exact Mem.wf_drop _ _ hs

theorem refreshBlock_nvCanon {s : Sys} (hs : s.NvCanon) (k : StoreCase) : (refreshBlock s k).NvCanon := by
  unfold refreshBlock
  split
  · exact hs
  · exact (storeCase_nvCanon hs k).on _

theorem keyWrite_nvCanon {s : Sys} (hs : s.NvCanon) (k : Nat) (key : List Nat) : (keyWrite s k key).NvCanon := by
  unfold keyWrite
  dsimp only
  split
  · exact hs
  · split
    · exact hs.on _
    · exact Mem.wf_put _ _ _ hs

/-! ### Starts, sleep and wake (R55, R412 to R417) -/

theorem ckWrite_nvCanon {s : Sys} (hs : s.NvCanon) : (ckWrite s).NvCanon := Mem.wf_put _ _ _ hs

theorem drainQueue_nvCanon {s : Sys} (hs : s.NvCanon) : (drainQueue s).NvCanon := by
  unfold drainQueue forL
  exact foldl_keepsProp (p := Sys.NvCanon) _ (fun _ e h => writeEnt_nvCanon h e) _ _ (hs.on _)

theorem wakeTick0_nvCanon {s : Sys} (hs : s.NvCanon) (aclk : Nat) : (wakeTick0 s aclk).NvCanon := by
  unfold wakeTick0
  exact ckWrite_nvCanon (hs.on _)

theorem wakeEvent_nvCanon {s : Sys} (hs : s.NvCanon) (src : Nat) (g : Bool) (aclk : Nat) : (wakeEvent s src g aclk).NvCanon := by
  unfold wakeEvent
  split
  · exact hs
  · extract_lets x
    have hx : x.NvCanon := hs.on _
    split
    · exact hx
    · split
      · exact hx.on _
      · split
        · exact hx
        · split
          · exact wakeTick0_nvCanon hx _
          · exact hx.on _

theorem mainSuppliesGood_nvCanon {s : Sys} (hs : s.NvCanon) (aclk : Nat) : (mainSuppliesGood s aclk).NvCanon := by
  unfold mainSuppliesGood
  extract_lets x
  have hx : x.NvCanon := hs.on _
  exact ite_keepsProp (wakeTick0_nvCanon hx _) hx

theorem sleepPowerDown_nvCanon {s : Sys} (hs : s.NvCanon) (g : Bool) (aclk : Nat) : (sleepPowerDown s g aclk).NvCanon := by
  unfold sleepPowerDown
  split
  · exact hs
  · extract_lets x y z
    have hx : x.NvCanon := (ckWrite_nvCanon hs).on _
    have hz : z.NvCanon := (drainQueue_nvCanon hx).on _
    exact ite_keepsProp (wakeTick0_nvCanon hz _) hz

theorem twbAddress_nvCanon {s : Sys} (hs : s.NvCanon) (addr : Nat) (read : Bool) (part : Nat) (g : Bool) (aclk : Nat) :
    (twbAddress s addr read part g aclk).NvCanon := by
  unfold twbAddress
  extract_lets own x on y z
  have hx : x.NvCanon := hs.on _
  have hy : y.NvCanon := hs.on _
  have hz : z.NvCanon := ite_keepsProp (wakeEvent_nvCanon hy _ _ _) hy
  split
  · exact ite_keepsProp (p := Sys.NvCanon) ((wakeEvent_nvCanon hx _ _ _).on _) hx
  · exact ite_keepsProp (p := Sys.NvCanon) hs (hz.on _)

theorem twbPhase_nvCanon {s : Sys} (hs : s.NvCanon) (addr : Nat) (read : Bool) (part : Nat) (g : Bool) (aclk : Nat) :
    (twbPhase s addr read part g aclk).NvCanon := by
  have h := twbAddress_nvCanon hs addr read part g aclk
  unfold twbPhase latchedS
  exact ite_keepsProp (ite_keepsProp (p := Sys.NvCanon) (h.on _) hs) h

theorem releaseStart_nvCanon {s : Sys} (hs : s.NvCanon) (aclk : Nat) (f : Dev → Dev) : (releaseStart s aclk f).NvCanon := by
  unfold releaseStart
  exact (ckWrite_nvCanon ((hs.on _).on _)).on _

theorem startUp_nvCanon {s : Sys} (hs : s.NvCanon) (b : Bool) (good aclk : Nat) : (startUp s b good aclk).NvCanon := by
  unfold startUp
  split
  · exact hs
  · extract_lets x y z
    have hx : x.NvCanon := hs.on _
    have hy : y.NvCanon := (releaseStart_nvCanon hx aclk _).of_mems (loaderBoot_mems _ b)
    have hz : z.NvCanon := hy.on _
    exact ite_keepsProp (p := Sys.NvCanon) (hz.on _) (hz.of_mems (startConfig_mems z))

theorem serviceBoot_nvCanon {s : Sys} (hs : s.NvCanon) (b : Bool) (aclk : Nat) : (serviceBoot s b aclk).NvCanon := by
  unfold serviceBoot
  split
  · exact hs
  · extract_lets x y z
    have hx : x.NvCanon := hs.on _
    have hy : y.NvCanon := releaseStart_nvCanon hx aclk _
    have hz : z.NvCanon := ite_keepsProp (p := Sys.NvCanon) (hy.on _) (hy.of_mems (bootGood_mems y))
    exact hz.on _

/-! ### Hole memory (R301) -/

theorem phWrite_phWf {s : Sys} (hs : s.ph.wf = true) (e ofs : Nat) (data : List Nat) : (phWrite s e ofs data).ph.wf = true :=
  ite_keepsProp (p := fun x : Sys => x.ph.wf = true) (Mem.wf_put _ _ _ hs) hs

theorem phCopyDone_phWf {s : Sys} (hs : s.ph.wf = true) (n : Nat) (ok : Bool) (data : List Nat) :
    (phCopyDone s n ok data).ph.wf = true := by
  unfold phCopyDone
  split
  · exact hs
  · exact ite_keepsProp (p := fun x : Sys => x.ph.wf = true) (Mem.wf_put _ _ _ hs) hs

/-! ### Host commands -/

/-- The execution of a host command keeps the canonical form. -/
def HCmd.KeepsCanon (h : HCmd) : Prop := ∀ s : Sys, s.Canon → (h.act s).sys.Canon

theorem HCmd.Keeps.canon {h : HCmd} (hk : h.Keeps Sys.mems) : h.KeepsCanon := fun s hs => hs.of_mems (hk s)

/-- The checks and the completion of a host command change the device alone, and its execution keeps the form (R292). -/
theorem hostRun_canon {s : Sys} (hs : s.Canon) (b : List Nat) (cs : List HCtx) {h : HCmd} (hk : h.KeepsCanon) :
    (hostRun s b cs h).Canon := by
  have hrun : ∀ x : Sys, x.Canon → (match h.act x with
      | .fin st r y => y.on (fun d => completeAll (holeDone d h.hole st) cs st r)
      | .wait y => y).Canon := fun x hx => by
    have hy := hk x hx
    split
    next heq => rw [heq] at hy; exact Sys.Canon.on hy _
    next heq => rw [heq] at hy; exact hy
  have hhole : (match h.hole with
      | some (n, k) => if n < 64 && k ≠ 2 then s.on (fun d => phGo d n 2) else s
      | none => s).Canon := by
    split
    · exact ite_keepsProp (hs.on _) hs
    · exact hs
  unfold hostRun
  extract_lets d e fail halted gated x
  have hx : x.Canon := hhole
  exact ite_keepsProp (hs.on _) (ite_keepsProp (hs.on _) (ite_keepsProp (hs.on _) (ite_keepsProp (hs.on _) (ite_keepsProp (hs.on _)
    (ite_keepsProp (hx.on _) (hrun x hx))))))

/-- What both answers keep, the choice of an answer keeps. -/
theorem HRes.ite_canon {c : Prop} [Decidable c] {x y : HRes} (hx : x.sys.Canon) (hy : y.sys.Canon) :
    (if c then x else y : HRes).sys.Canon := ite_keepsProp (p := fun r : HRes => r.sys.Canon) hx hy

theorem answer_canon {s : Sys} (hs : s.Canon) (e : Nat) (bytes : List Nat) : (answer s e bytes).sys.Canon := by
  unfold answer queryResult
  split
  · exact hs
  · cases resultHole s.dev with
    | none => exact hs
    | some n => exact ⟨hs.1, Mem.wf_put _ _ _ hs.2⟩

theorem hcQueryReg_canon (s : Sys) (b : List Nat) (cs : List HCtx) : (hcQueryReg s b cs).KeepsCanon := fun _ ht =>
  HRes.ite_canon ht (answer_canon (ht.of_mems (readWords_mems _ _ _ _)) _ _)

theorem hcQueryChan_canon (s : Sys) (b : List Nat) (cs : List HCtx) : (hcQueryChan s b cs).KeepsCanon := fun _ ht =>
  answer_canon ht _ _

theorem hcEvRead_canon (s : Sys) (b : List Nat) (cs : List HCtx) : (hcEvRead s b cs).KeepsCanon := fun t ht => by
  have hr := ht.of_mems (readRecs_mems t (readAddrs t.dev (a1 b 17) (a4 b 20) (a1 b 18)))
  exact HRes.ite_canon (answer_canon hr _ _) ⟨hr.1, Mem.wf_put _ _ _ hr.2⟩

theorem hcCfgLoad_canon (s : Sys) (b : List Nat) (cs : List HCtx) : (hcCfgLoad s b cs).KeepsCanon := fun _ ht =>
  HRes.ite_canon ht ⟨Mem.wf_put _ _ _ ht.1, ht.2⟩

theorem storeCase_canon {s : Sys} (hs : s.Canon) (k : StoreCase) : (storeCase s k).2.Canon :=
  ⟨storeCase_nvCanon hs.1 k, (storeCase_ph s k).symm ▸ hs.2⟩

theorem hcUpdPiece_canon (k : StoreCase) (b : List Nat) (cs : List HCtx) : (hcUpdPiece k b cs).KeepsCanon := fun s hs => by
  have hc := storeCase_canon hs k
  refine HRes.ite_canon hs (HRes.ite_canon hs (HRes.ite_canon hs (HRes.ite_canon hc ?_)))
  have hp := Mem.wf_put (storeCase s k).2.nv
  exact HRes.ite_canon ⟨hp _ _ hc.1, hc.2⟩ ⟨hp _ _ hc.1, hc.2⟩

/-- Every opcode of R291 names a command that keeps the form. -/
theorem hcOf_canon {s : Sys} {b : List Nat} {cs : List HCtx} {k : StoreCase} {h : HCmd} (hh : hcOf s b cs k = some h) :
    h.KeepsCanon := by
  have hd := Sys.mems_offDev
  have named : ∀ {x : HCmd}, some x = some h → x.KeepsCanon → h.KeepsCanon := fun e hx => Option.some.inj e ▸ hx
  unfold hcOf at hh
  split at hh
  case h_2 => exact named hh (hcQueryReg_canon s b cs)
  case h_3 => exact named hh (hcQueryChan_canon s b cs)
  case h_4 => exact named hh (hcPhCopy_keeps hd s b cs).canon
  case h_5 => exact named hh (hcCfgLoad_canon s b cs)
  case h_6 => exact named hh (hcCfgCommit_keeps hd s b cs).canon
  case h_20 => exact named hh (hcThrotSet_keeps hd s b cs).canon
  case h_33 => exact named hh (hcEvRead_canon s b cs)
  case h_35 => exact named hh (hcEvClear_keeps s b cs).canon
  case h_36 => exact named hh (hcUpdBegin_keeps hd s b cs).canon
  case h_37 => exact named hh (hcUpdPiece_canon k b cs)
  case h_38 => exact named hh (hcUpdActivate_keeps hd s b cs).canon
  case h_39 => exact named hh (hcUpdStages_keeps s b cs).canon
  case h_43 => exact named hh (hcDevSleep_keeps hd s b cs).canon
  case h_44 => exact absurd hh nofun
  case h_8 | h_15 | h_17 | h_21 | h_22 | h_23 | h_24 | h_26 | h_31 | h_32 =>
    exact named hh (HCmd.Keeps.tryDev hd).canon
  all_goals exact named hh (HCmd.Keeps.okDev hd).canon

/-! ### The dispatcher and the tick (R28, R45) -/

theorem hostExec_canon {s : Sys} (hs : s.Canon) (b : List Nat) (cs : List HCtx) (k : StoreCase) : (hostExec s b cs k).Canon := by
  unfold hostExec
  split
  · exact hostRun_canon hs b cs (hcOf_canon ‹_›)
  · exact hs

theorem dispatchOne_canon {s : Sys} (hs : s.Canon) (i : DispItem) : (dispatchOne i s).Canon := by
  unfold dispatchOne
  dsimp only
  split
  · exact (hs.on _).on _
  · exact hostExec_canon (hs.on _) _ _ _

theorem dispatchN_canon {s : Sys} (hs : s.Canon) (n : Nat) : (dispatchN n s).Canon := by
  induction n generalizing s with
  | zero => exact hs
  | succ n ih =>
    unfold dispatchN
    split
    · exact hs
    · exact ih (dispatchOne_canon (hs.on _) _)

theorem toDispatch_canon {s : Sys} (hs : s.Canon) : (toDispatch s).Canon := by
  unfold toDispatch dispatch
  exact ite_keepsProp (p := Sys.Canon) ((dispatchN_canon (hs.on _) _).on _) hs

theorem relayPiece_mems (s : Sys) (r c : Nat) : (relayPiece s r c).mems = s.mems := by
  unfold relayPiece
  exact ite_keeps rfl (ite_keeps (ite_keeps rfl (Sys.on_mems _ _)) (ite_keeps rfl (Sys.on_mems _ _)))

theorem relayTick_mems (s : Sys) (r : Nat) : (relayTick s r).mems = s.mems := by
  unfold relayTick
  split
  · rfl
  · split
    · exact Sys.on_mems _ _
    · extract_lets y x
      have hy : y.mems = s.mems := Sys.on_mems _ _
      split
      · exact (relayPiece_mems y r _).trans hy
      · exact ite_keeps ((relayNext_mems y r).trans hy) hy

theorem relayRounds_mems (s : Sys) : (relayRounds s).mems = s.mems := by
  unfold relayRounds forIx
  split
  · rfl
  · exact foldl_keeps Sys.mems _ (fun s r => (relayService_mems _ r).trans (relayTick_mems s r)) _ s

theorem toTimers_canon {s : Sys} (hs : s.Canon) : (toTimers s).Canon := by
  have hd := toDispatch_canon hs
  unfold toTimers
  exact ite_keepsProp (p := Sys.Canon) ((hd.of_mems (relayRounds_mems _)).on _) hd

theorem finishTick_canon {s : Sys} (hs : s.Canon) : (finishTick s).Canon := by
  have ht := toTimers_canon hs
  unfold finishTick
  exact ite_keepsProp (p := Sys.Canon) (ht.on _) ht

theorem commitApply_mems (s : Sys) : (commitApply s).mems = s.mems := by
  unfold commitApply
  split
  · rfl
  · split
    · rfl
    · split
      · rfl
      · exact Sys.on_mems _ _

theorem checkpoint_canon {s : Sys} (hs : s.Canon) : (checkpoint s).Canon := by
  unfold checkpoint
  exact ite_keepsProp ⟨ckWrite_nvCanon hs.1, (congrArg Mem.wf (ckWrite_ph s)).trans hs.2⟩ hs

theorem frameEdge_canon {s : Sys} (hs : s.Canon) : (frameEdge s).Canon := by
  unfold frameEdge frameDuties
  exact (checkpoint_canon ((hs.on (openEdge true)).of_mems (commitApply_mems _))).on _

theorem lateFrames_mems (s : Sys) (r : Nat) : (lateFrames s r).mems = s.mems := by
  unfold lateFrames forL
  exact (foldl_keeps Sys.mems _ (fun s f => frameIn_mems s r f) _ _).trans (Sys.on_mems _ _)

theorem phaseA_mems (p : Pins) (s : Sys) : (phaseA p s).mems = s.mems := by
  unfold phaseA
  exact (foldl_keeps Sys.mems _ (fun s r => lateFrames_mems s r) _ _).trans (Sys.on_mems _ _)

theorem tickEdge_canon {s : Sys} (hs : s.Canon) (p : Pins) : (tickEdge p s).Canon := by
  have he := finishTick_canon (hs.on clearOut)
  unfold tickEdge
  extract_lets x y
  have hy : y.Canon := ite_keepsProp hs (ite_keepsProp (frameEdge_canon he) (he.on tickBoundary))
  exact ite_keepsProp hs (ite_keepsProp (p := Sys.Canon) (hy.of_mems (phaseA_mems p y)) hy)

theorem frameBoundary_canon {s : Sys} (hs : s.Canon) : (frameBoundary s).Canon := by
  unfold frameBoundary
  exact ite_keepsProp (p := Sys.Canon) ((frameEdge_canon (finishTick_canon (hs.on clearOut))).on _) hs

/-! ### The rows -/

/-- An operation that keeps the form. -/
def KeepsCanon (f : Sys → Sys) : Prop := ∀ s : Sys, s.Canon → (f s).Canon

/-- An operation that writes the store alone. -/
theorem KeepsCanon.of_nv {f : Sys → Sys} (hnv : ∀ {s : Sys}, s.NvCanon → (f s).NvCanon) (hph : ∀ s, (f s).ph = s.ph) :
    KeepsCanon f := fun s hs => ⟨hnv hs.1, (hph s).symm ▸ hs.2⟩

/-- An operation that writes hole memory alone. -/
theorem KeepsCanon.of_ph {f : Sys → Sys} (hph : ∀ {s : Sys}, s.ph.wf = true → (f s).ph.wf = true) (hnv : ∀ s, (f s).nv = s.nv) :
    KeepsCanon f := fun s hs => ⟨(hnv s).symm ▸ hs.1, hph hs.2⟩

theorem KeepsCanon.latchedS {f : Sys → Sys} (hf : KeepsCanon f) : KeepsCanon (latchedS f) := fun s hs => by
  unfold Sys2Proof.Machine.latchedS
  exact ite_keepsProp ((hf s hs).on _) hs

theorem KeepsCanon.timedS (due : Dev → Bool) {f : Sys → Sys} (hf : KeepsCanon f) : KeepsCanon (timedS due f) := fun s hs => by
  unfold Sys2Proof.Machine.timedS takesS
  exact ite_keepsProp hs (KeepsCanon.latchedS (fun s hs => ite_keepsProp (hf s hs) hs) _ (toTimers_canon hs))

theorem KeepsCanon.handed (x : Dev → DispItem) {f : Sys → Sys} (hf : KeepsCanon f) : KeepsCanon (handed x f) := fun s hs => by
  have hd := toDispatch_canon hs
  have hrun := (hf _ (hd.on handOver)).on shedService
  unfold Sys2Proof.Machine.handed
  exact ite_keepsProp (p := Sys.Canon) hs (ite_keepsProp (p := Sys.Canon) (hs.on _)
    (ite_keepsProp (p := Sys.Canon) hrun (hd.on _)))

theorem KeepsCanon.hostDirect (op : Nat) (h : Sender) (args : List (Nat × List Nat)) {mk : Sys → List Nat → List HCtx → HCmd}
    (hk : ∀ s b cs, (mk s b cs).KeepsCanon) : KeepsCanon (fun s => hostDirect s op h args mk) := fun s hs => by
  unfold Sys2Proof.Machine.hostDirect
  exact hostRun_canon hs _ _ (hk s _ _)

theorem KeepsCanon.hostCmd (op : Nat) (h : Sender) (args : List (Nat × List Nat)) {mk : Sys → List Nat → List HCtx → HCmd}
    (hk : ∀ s b cs, (mk s b cs).KeepsCanon) : KeepsCanon (hostCmd op h args mk) := fun s hs => by
  unfold Sys2Proof.Machine.hostCmd
  exact KeepsCanon.handed _ (KeepsCanon.hostDirect op h args hk) s hs

/-- A command that writes no memory keeps the form, since the work of its tick does. -/
theorem exec_canon_of_kept {c : Instr} {s : State} (hs : s.sys.Canon) (hh : writesHoles c = false) (hst : writesStore c = false) :
    ∃ x : Sys, exec c s = .next { s with sys := x } ∧ x.Canon := by
  obtain ⟨x, hx, b, hb, hph, hnv⟩ := exec_memKept c s
  have hbc : b.Canon := by
    simp only [List.mem_cons, List.not_mem_nil, or_false] at hb
    rcases hb with rfl | rfl | rfl
    · exact hs
    · exact toDispatch_canon hs
    · exact toTimers_canon hs
  exact ⟨x, hx, (hnv hst).symm ▸ hbc.1, (hph hh).symm ▸ hbc.2⟩

/-- Every command answers a next state whose memories are canonical where those it met were. -/
theorem exec_canon (c : Instr) {s : State} (hs : s.sys.Canon) : ∃ x : Sys, exec c s = .next { s with sys := x } ∧ x.Canon := by
  cases c with
  | tickEdge p => exact ⟨_, rfl, tickEdge_canon hs p⟩
  | frameBoundary => exact ⟨_, rfl, frameBoundary_canon hs⟩
  -- commands that write the store
  | cfgLoad => exact ⟨_, rfl, KeepsCanon.hostCmd _ _ _ hcCfgLoad_canon _ hs⟩
  | updPiece _ _ _ k =>
    exact ⟨_, rfl, KeepsCanon.handed _ (KeepsCanon.hostDirect _ _ _ fun _ => hcUpdPiece_canon k) _ hs⟩
  | recordWrite k => exact ⟨_, rfl, (KeepsCanon.of_nv (recordWrite_nvCanon · k) (recordWrite_ph · k)).timedS _ _ hs⟩
  | refreshBlock k => exact ⟨_, rfl, (KeepsCanon.of_nv (refreshBlock_nvCanon · k) (refreshBlock_ph · k)).timedS _ _ hs⟩
  | sleepPowerDown g a =>
    exact ⟨_, rfl, (KeepsCanon.of_nv (sleepPowerDown_nvCanon · g _) (sleepPowerDown_ph · g _)).timedS _ _ hs⟩
  | keyWrite => exact ⟨_, rfl, (KeepsCanon.of_nv (keyWrite_nvCanon · _ _) (keyWrite_ph · _ _)).latchedS _ hs⟩
  | clearOverwriteDone => exact ⟨_, rfl, (KeepsCanon.of_nv overwriteDone_nvCanon overwriteDone_ph).latchedS _ hs⟩
  | startUp => exact ⟨_, rfl, KeepsCanon.of_nv (startUp_nvCanon · _ _ _) (startUp_ph · _ _ _) _ hs⟩
  | serviceBoot => exact ⟨_, rfl, KeepsCanon.of_nv (serviceBoot_nvCanon · _ _) (serviceBoot_ph · _ _) _ hs⟩
  | wakeEvent => exact ⟨_, rfl, KeepsCanon.of_nv (wakeEvent_nvCanon · _ _ _) (wakeEvent_ph · _ _ _) _ hs⟩
  | mainSuppliesGood => exact ⟨_, rfl, KeepsCanon.of_nv (mainSuppliesGood_nvCanon · _) (mainSuppliesGood_ph · _) _ hs⟩
  | twbAddress => exact ⟨_, rfl, KeepsCanon.of_nv (twbPhase_nvCanon · _ _ _ _ _) (twbPhase_ph · _ _ _ _ _) _ hs⟩
  -- commands that write hole memory
  | queryReg => exact ⟨_, rfl, KeepsCanon.hostCmd _ _ _ hcQueryReg_canon _ hs⟩
  | queryChan => exact ⟨_, rfl, KeepsCanon.hostCmd _ _ _ hcQueryChan_canon _ hs⟩
  | evRead => exact ⟨_, rfl, KeepsCanon.hostCmd _ _ _ hcEvRead_canon _ hs⟩
  | phBar2Write => exact ⟨_, rfl, (KeepsCanon.of_ph (phWrite_phWf · _ _ _) (phWrite_nv · _ _ _)).latchedS _ hs⟩
  | phCopyDone => exact ⟨_, rfl, (KeepsCanon.of_ph (phCopyDone_phWf · _ _ _) (phCopyDone_nv · _ _ _)).latchedS _ hs⟩
  | _ => exact exec_canon_of_kept hs rfl rfl

/-- Settles O54: an idle step changes nothing, and every command keeps both memories in canonical form. -/
theorem soundnessIsKept : Obligations.SoundnessIsKept := by
  unfold Obligations.SoundnessIsKept
  intro s t hs ht
  unfold step at ht
  split at ht
  · exact Host.Outcome.next.inj ht ▸ hs
  next c q _ =>
    obtain ⟨x, hx, hc⟩ := exec_canon c (s := { s with pending := q }) hs
    rw [hx] at ht
    exact Host.Outcome.next.inj ht ▸ hc

/-- Settles O55: the reset state stores nothing and no command waits. -/
theorem resetIsSound : Obligations.ResetIsSound := by
  unfold Obligations.ResetIsSound
  exact ⟨⟨Mem.wf_nil, Mem.wf_nil⟩, rfl, rfl, rfl⟩

end Sys2Proof.Machine
end

section
/-! PROOFS about the doorbells of the host rings: the statement that fails (R288). -/

namespace Sys2Proof.Machine
open R

/-- A device whose register file lists a value for the consumer index of PA's completion ring that is wider than the index: the
index reads 0. -/
def wideIndexState : State := { sys := { dev := { regs := [(HQ_CPL_IDX_CI.id, [(0, 2 ^ 16)])] } } }

/-- The entry of that field in the register file, read 32 bits wide. -/
def wideIndexReg : Reg := { HQ_CPL_IDX_CI with w := 32 }

/-- The doorbell that repeats the index writes it into the register file, cut to its width. -/
theorem hqCplDb_wideIndexState (t : State) (ht : exec (.hqCplDb .pa 0) wideIndexState = .next t) :
    t.sys.dev.rd wideIndexReg 0 = 0 := by
  obtain ⟨u, hu, -, hd⟩ := exec_latched (c := .hqCplDb .pa 0) (s := wideIndexState) rfl (by decide) (by decide)
  rw [Host.Outcome.next.inj (ht.symm.trans hu), hd]
  decide

/-- Refutes O19: that a doorbell which repeats the consumer index keeps every field fails where the register file lists a value
wider than the index. The write cuts that value to the 16 bits that the index reads, and `KeepsBut` speaks of every `Reg`, so also
of one that reads the listed value 32 bits wide. -/
theorem not_doorbellsMoveTheRings : ¬ Obligations.DoorbellsMoveTheRings := by
  unfold Obligations.DoorbellsMoveTheRings
  rintro ⟨-, -, -, -, -, -, -, -, -, -, -, -, -, -, -, hrepeat, -⟩
  obtain ⟨t, ht, -, -, hkeep⟩ := hrepeat wideIndexState .pa 0 (by decide) (by decide) (by decide)
  have hkept := hkeep wideIndexReg 0 nofun
  rw [hqCplDb_wideIndexState t ht] at hkept
  exact absurd hkept (by decide)

end Sys2Proof.Machine
end

section
/-! PROOFS about the reads of the paired registers, and the statement on their shadows (R433). -/

namespace Sys2Proof.Machine
open R

/-! ### The fields of a paired word -/

/-- The words of a pair show the LL field and the accessor's LH field alone. -/
theorem wordFields_llPairs (a : Accessor) : ∀ p ∈ llPairs,
    wordFields (accIx a) p.1 = [(p.2.1, 0)] ∧ wordFields (accIx a) (p.1 + 4) = [(p.2.2, accIx a)] := by
  cases a <;> decide +kernel

/-- What the table says of a pair: the LL field has its companion, both stand at bit 0 of ordinary words of the map. -/
theorem llPairs_table : ∀ p ∈ llPairs, p.1 % 4 = 0 ∧ p.1 + 4 < 2 ^ 16 ∧ specialRead p.1 = false ∧ specialRead (p.1 + 4) = false ∧
    p.2.1.acc = .ll ∧ p.2.1.lo = 0 ∧ lhOf p.2.1 = some p.2.2 ∧ p.2.2.acc = .lh ∧ p.2.2.lo = 0 ∧ p.2.2.w = 32 := by
  decide +kernel

/-- A shadow is held by the register file, not formed when it is read. -/
theorem computedField_llPairs (d : Dev) (acc ix : Nat) {p : Nat × Reg × Reg} (hp : p ∈ llPairs) :
    computedField d acc p.2.2 ix = none := by
  fin_cases hp <;> rfl

/-- A shadow is not kept by a reset, and its reset value is 0. -/
theorem llPairs_reset : ∀ p ∈ llPairs, p.2.2.id ∉ causeIds ∧ p.2.2.id ∉ keptIds false ∧ p.2.2.rst = 0 ∧ p.2.2.rstx = [] := by
  decide +kernel

/-! ### The reads -/

/-- The device after an LL read of an accessor: the companion is in its shadow. -/
def llTaken (d : Dev) (acc : Nat) (low high : Reg) : Dev :=
  (if low.id = TB_PM_LO.id then d.freeNext else d).wr high acc (llValue d acc low / 2 ^ 32)

@[simp] theorem llTaken_bs (d : Dev) (acc : Nat) (low high : Reg) : (llTaken d acc low high).bs = d.bs := by
  unfold llTaken; split <;> rfl

theorem llTaken_shadow (d : Dev) (acc : Nat) (low high : Reg) :
    (llTaken d acc low high).rd high acc = llValue d acc low / 2 ^ 32 % 2 ^ high.w := Dev.rd_wr ..

theorem llTaken_keepsBut (d : Dev) (acc : Nat) (low high : Reg) : KeepsBut [(high, acc)] d (llTaken d acc low high) := by
  unfold llTaken
  split
  · exact (KeepsBut.refl _ d).freeNext.wr _ _ _ (by simp)
  · exact (KeepsBut.refl _ d).wr _ _ _ (by simp)

theorem readWord_low (s : Sys) (a : Accessor) {p : Nat × Reg × Reg} (hp : p ∈ llPairs) : readWord s (accIx a) p.1 =
    (llValue s.dev (accIx a) p.2.1 % 2 ^ 32, { s with dev := llTaken s.dev (accIx a) p.2.1 p.2.2 }) := by
  obtain ⟨-, -, hs, -, hll, hlo, hlh, -, -, -⟩ := llPairs_table p hp
  rw [readWord_fields s _ hs, (wordFields_llPairs a p hp).1]
  simp only [readFields, List.foldl_cons, List.foldl_nil, readField, hll, hlo, hlh]
  simp [llTaken, Sys.on]

theorem readWord_high (s : Sys) (a : Accessor) {p : Nat × Reg × Reg} (hp : p ∈ llPairs) :
    readWord s (accIx a) (p.1 + 4) = (s.dev.rd p.2.2 (accIx a), s) := by
  obtain ⟨-, -, -, hs, -, -, -, hlh, hlo, hw⟩ := llPairs_table p hp
  have hlt := s.dev.rd_lt p.2.2 (accIx a)
  rw [hw] at hlt
  rw [readWord_fields s _ hs, (wordFields_llPairs a p hp).2]
  simp only [readFields, List.foldl_cons, List.foldl_nil, readField, hlh, computedField_llPairs s.dev _ _ hp, hlo, Reg.bits, hw]
  simpa using hlt

/-! ### The statement -/

/-- Settles O51: an LL read fills the shadow of its pair and accessor, an LH read answers it, and a reset clears each. -/
theorem pairedReadsLatchTheirHighWord : Obligations.PairedReadsLatchTheirHighWord := by
  unfold Obligations.PairedReadsLatchTheirHighWord
  refine ⟨fun s a p hq hp ht => ?low, fun s a p hq hp ht => ?high, fun s => ?reset⟩
  case low =>
    obtain ⟨h4, hofs, -, -, -, -, -, -, -, hw⟩ := llPairs_table p hp
    have hnat : (BitVec.ofNat 16 p.1).toNat = p.1 := Nat.mod_eq_of_lt (by omega)
    obtain ⟨t, he, hpend, hdev⟩ := exec_regRead (c := .llRead a (BitVec.ofNat 16 p.1)) rfl hq (by rw [hnat]; exact h4)
      (by rw [hnat]; exact ht) (by rw [hnat]; exact readWord_low s.sys a hp) (llTaken_bs ..)
    refine ⟨t, he, hpend, ?_⟩
    rw [hdev, hnat]
    exact ⟨Dev.emit_getLast? _ _, (llTaken_shadow ..).trans (by rw [hw]), (llTaken_keepsBut s.sys.dev _ _ _).emit _⟩
  case high =>
    obtain ⟨h4, hofs, -, -, -, -, -, -, -, -⟩ := llPairs_table p hp
    have hnat : (BitVec.ofNat 16 (p.1 + 4)).toNat = p.1 + 4 := Nat.mod_eq_of_lt hofs
    obtain ⟨t, he, hpend, hdev⟩ := exec_regRead (c := .llRead a (BitVec.ofNat 16 (p.1 + 4))) rfl hq (by rw [hnat]; omega)
      (by rw [hnat]; exact ht) (by rw [hnat]; exact readWord_high s.sys a hp) rfl
    refine ⟨t, he, hpend, ?_⟩
    rw [hdev, hnat]
    exact ⟨Dev.emit_getLast? _ _, (KeepsBut.refl _ _).emit _⟩
  case reset =>
    refine ⟨_, rfl, rfl, fun p hp k => ?_⟩
    obtain ⟨hcause, hkept, hrst, hx⟩ := llPairs_reset p hp
    have hbase := ((devReset_writes s.sys.dev (k := 1) (by decide)).1 p.2.2 k hcause).trans (resetBase_cleared s.sys.dev hkept k)
    rw [Reg.rstAt, hx, hrst] at hbase
    exact hbase.trans (Nat.zero_mod _)

end Sys2Proof.Machine
end

section
/-! PROOFS about how a step completes: the device that a command bit or an input answers. -/

namespace Sys2Proof.Machine
open R

section
variable {c : Instr} {s : State} {f : Dev → Dev}

/-- A command bit whose turn has come answers the device that its function gives, where no shed follows. -/
theorem exec_wordCmd {a : Accessor} {ofs v : Nat} (he : exec c s = sysRow (wordCmd a ofs v f) s) (ht : s.turn) (ha : a ≠ .sp)
    (hk : writeKind s.sys.dev (accIx a) ofs v = 0) (hsh : (f (handOver s.atCommands.dev)).bs.shedReq = 0) :
    ∃ t : State, exec c s = .next t ∧ t.pending = s.pending ∧ t.sys.dev = f (handOver s.atCommands.dev) :=
  completes_wordCmd (Q := fun x => x.dev = f (handOver s.atCommands.dev)) a ofs v f he ht ha hk hsh rfl

/-- An input that reaches a memory answers the machine that its function gives, where no shed follows. -/
theorem exec_latchedS {f : Sys → Sys} (he : exec c s = sysRow (latchedS f) s) (hl : s.sys.dev.live = true)
    (hsh : (f s.sys).dev.bs.shedReq = 0) : ∃ t : State, exec c s = .next t ∧ t.pending = s.pending ∧ t.sys = f s.sys :=
  completes_latchedS (Q := fun x => x = f s.sys) f he hl hsh rfl

end

end Sys2Proof.Machine
end

section
/-! PROOFS about the pairing of copies: what a dead letter, the divergence pin and the dispatcher's queue take and leave, and
the statement on windows and verdicts (R310 to R317). -/

namespace Sys2Proof.Machine
open R

/-! ### The dispatcher's queue (R28) -/

/-- A command that is handed to the dispatcher waits in its queue. -/
theorem dispatchPush_any (d : Dev) (b : List Nat) (cs : List HCtx) {p : DispItem → Bool}
    (hp : ∀ y : DispItem, y.bytes = b → y.ctxs = cs → p y = true) : (dispatchPush d b cs).host.dq.any p = true := by
  refine List.any_eq_true.mpr ⟨_, List.mem_append_left _ (List.mem_append_right _ (List.mem_singleton_self _)), hp _ rfl rfl⟩

@[simp] theorem dispatchPush_au (d : Dev) (b : List Nat) (cs : List HCtx) : (dispatchPush d b cs).au = d.au := rfl

theorem dispatchPush_haltKeeps (d : Dev) (b : List Nat) (cs : List HCtx) : HaltKeeps d (dispatchPush d b cs) :=
  ⟨(WritesOnly.refl _ d).of_regs rfl rfl, rfl⟩

theorem KeepsBut.dispatchPush {l : List (Reg × Nat)} {d e : Dev} (h : KeepsBut l d e) (b : List Nat) (cs : List HCtx) :
    KeepsBut l d (dispatchPush e b cs) := h.of_regs rfl

/-! ### Dead letters (R317) -/

theorem HaltKeeps.au {d e : Dev} (h : HaltKeeps d e) : e.au = d.au := congrArg (fun v => v.2.2.2) h.2

theorem HaltKeeps.fl {d e : Dev} (h : HaltKeeps d e) {r : Reg} (hr : r.id ∉ haltIds) (ix : Nat) : e.fl r ix = d.fl r ix :=
  congrArg (· != 0) (h.1.1 r ix hr)

/-- A completion leaves the dispatcher's queue. -/
theorem complete_dq (d : Dev) (c : HCtx) (st r reason : Nat) : (complete d c st r reason).host.dq = d.host.dq := by
  unfold complete
  dsimp only
  split
  · rfl
  · split <;> rfl

/-- A completion writes no register. -/
theorem complete_regs (d : Dev) (c : HCtx) (st r reason : Nat) : (complete d c st r reason).regs = d.regs := by
  unfold complete
  dsimp only
  split
  · rfl
  · split <;> rfl

@[simp] theorem deadLetter_dq (d : Dev) (c : CopyRec) (reason : Nat) : (deadLetter d c reason).host.dq = d.host.dq := by
  unfold deadLetter
  dsimp only
  split
  · exact complete_dq ..
  · rw [Dev.recd_host, Dev.inc_host]
    exact complete_dq ..

@[simp] theorem deadLetter_au (d : Dev) (c : CopyRec) (reason : Nat) : (deadLetter d c reason).au = d.au :=
  (deadLetter_haltKeeps d c reason).au

theorem deadLetter_keepsBut {l : List (Reg × Nat)} (d : Dev) (c : CopyRec) (reason : Nat) (hm : (AU_DLCNT, 0) ∈ l)
    (hrec : ∀ x ∈ recFields, x ∈ l) : KeepsBut l d (deadLetter d c reason) := by
  have hc : KeepsBut l d (complete d c.ctx stDead 0 reason) := (KeepsBut.refl l d).of_regs (complete_regs ..)
  unfold deadLetter
  dsimp only
  split
  · exact hc
  · exact (hc.inc _ _ hm).recd _ _ _ _ hrec

/-- A dead letter for another reason than an agreeing copy is counted. -/
theorem deadLetter_count (d : Dev) (c : CopyRec) {reason : Nat} (h : reason ≠ 1) :
    (deadLetter d c reason).rd AU_DLCNT = incSat AU_DLCNT.w (d.rd AU_DLCNT) := by
  unfold deadLetter
  dsimp only
  rw [if_neg h, Dev.rd_recd _ _ _ _ _ _ _ (by decide), Dev.inc, Dev.rd_wr, incSat_mod,
    Dev.rd_congr _ _ (complete_regs ..) AU_DLCNT 0]

/-! ### The divergence pin (R316) -/

/-- The fields that show the held divergences and the pairing table. -/
def pinFields : List (Reg × Nat) :=
  [(AU_STATUS_DIVERGE, 0), (GL_STATUS_DIVERGE, 0), (AU_STATUS_NHELD, 0), (AU_NPEND, 0), (AU_DIV_SEQ, 0), (AU_DIV_DIGA, 0),
   (AU_DIV_DIGB, 0)]

@[simp] theorem divergePin_host (d : Dev) : (divergePin d).host = d.host := by
  unfold divergePin; dsimp only; split <;> rfl

@[simp] theorem divergePin_au (d : Dev) : (divergePin d).au = d.au := (divergePin_haltKeeps d).au

@[simp] theorem divergePin_bs (d : Dev) : (divergePin d).bs = d.bs := (divergePin_haltKeeps d).1.2

theorem divergePin_keepsBut (d : Dev) : KeepsBut pinFields d (divergePin d) := by
  have h4 (on : Bool) : KeepsBut pinFields d ((((d.wrB AU_STATUS_DIVERGE 0 on).wrB GL_STATUS_DIVERGE 0 on).wr AU_STATUS_NHELD 0
      d.au.held.length).wr AU_NPEND 0 d.au.table.length) :=
    ((((KeepsBut.refl _ d).wrB _ 0 _ (by simp [pinFields])).wrB _ 0 _ (by simp [pinFields])).wr _ 0 _ (by simp [pinFields])).wr _ 0 _
      (by simp [pinFields])
  unfold divergePin
  dsimp only
  split
  · exact (((h4 _).wr _ 0 _ (by simp [pinFields])).wr _ 0 _ (by simp [pinFields])).wr _ 0 _ (by simp [pinFields])
  · exact h4 _

theorem divergePin_fl (d : Dev) {r : Reg} (h : r.id ∉ haltIds) : (divergePin d).fl r = d.fl r := (divergePin_haltKeeps d).fl h 0

/-- GL_STATUS.DIVERGE shows whether a divergence is held or the pulse runs. -/
theorem divergePin_diverge (d : Dev) :
    (divergePin d).fl GL_STATUS_DIVERGE = (!d.au.held.isEmpty || d.au.pulseEnd.isSome) := by
  have h4 (on : Bool) (n m : Nat) :
      ((((d.wrB AU_STATUS_DIVERGE 0 on).wrB GL_STATUS_DIVERGE 0 on).wr AU_STATUS_NHELD 0 n).wr AU_NPEND 0 m).fl GL_STATUS_DIVERGE
        = on := by
    rw [Dev.fl_wr_ne _ _ _ _ (by decide), Dev.fl_wr_ne _ _ _ _ (by decide)]
    exact Dev.fl_wrB _ _ _ _ rfl
  unfold divergePin
  dsimp only
  split
  · rw [Dev.fl_wr_ne _ _ _ _ (by decide), Dev.fl_wr_ne _ _ _ _ (by decide), Dev.fl_wr_ne _ _ _ _ (by decide)]
    exact h4 _ _ _
  · exact h4 _ _ _

/-! ### Windows (R313) -/

section
variable {d : Dev} {q : Nat} {p : PairEnt} (hf : d.au.table.find? (fun p => p.seq == q) = some p)
include hf

/-- The device after the entry of a SEQ has left the pairing table. -/
def entryClosed (d : Dev) (p : PairEnt) : Dev :=
  { d with au := { d.au with table := d.au.table.filter (fun x => x.seq != p.seq) } }

/-- An ungated entry closes with nothing. -/
theorem windowExpiry_ungated (hg : p.gated = false) : windowExpiry d q = divergePin (entryClosed d p) := by
  simp [windowExpiry, hf, pairExpire, hg, entryClosed]

/-- A gated entry of the authority's host is dispatched. -/
theorem windowExpiry_authority (hg : p.gated = true) (ha : d.rd AU_STATUS_AUTH = p.copy.ctx.src + 1) :
    windowExpiry d q = divergePin (dispatchPush (entryClosed d p) p.copy.bytes [p.copy.ctx]) := by
  have hrd : (entryClosed d p).rd AU_STATUS_AUTH = p.copy.ctx.src + 1 := ha
  simp only [windowExpiry, hf]
  unfold pairExpire
  rw [hg]
  exact congrArg divergePin (if_pos hrd)

/-- A gated entry of another host is a dead letter. -/
theorem windowExpiry_deadLetter (hg : p.gated = true) (ha : d.rd AU_STATUS_AUTH ≠ p.copy.ctx.src + 1) :
    windowExpiry d q = divergePin (deadLetter ((entryClosed d p).ev AU_EVT_NOPAIR) p.copy 3) := by
  have hrd : (entryClosed d p).rd AU_STATUS_AUTH ≠ p.copy.ctx.src + 1 := ha
  simp only [windowExpiry, hf]
  unfold pairExpire
  rw [hg]
  exact congrArg divergePin (if_neg hrd)

end

theorem entryClosed_keepsBut (l : List (Reg × Nat)) (d : Dev) (p : PairEnt) : KeepsBut l d (entryClosed d p) := .of_regs (.refl l d) rfl

@[simp] theorem entryClosed_bs (d : Dev) (p : PairEnt) : (entryClosed d p).bs = d.bs := rfl
@[simp] theorem deadLetter_bs (d : Dev) (c : CopyRec) (reason : Nat) : (deadLetter d c reason).bs = d.bs :=
  (deadLetter_haltKeeps d c reason).1.2
@[simp] theorem dispatchPush_bs (d : Dev) (b : List Nat) (cs : List HCtx) : (dispatchPush d b cs).bs = d.bs := rfl

/-! ### Verdicts (R315) -/

/-- The device after a held divergence has been released by its verdict. -/
def verdictTaken (d : Dev) (h : List HeldDiv) : Dev := (({ d with au := { d.au with held := h } }).ev AU_EVT_VERDICT).recd 0x0C05 0 11 []

/-- The fields that a verdict writes beside the pin. -/
def verdictFields : List (Reg × Nat) := [(AU_EVT_VERDICT, 0), (AU_DLCNT, 0)] ++ recFields

section
variable {d : Dev} {h : HeldDiv} (hf : d.au.held.find? (fun h => h.seq == d.rd AU_VERDICT_SEQ) = some h)
include hf

/-- A verdict on a held SEQ: host A's copy or host B's is dispatched and the other is a dead letter, or both are. -/
theorem verdict_held {act : Nat} (ha : act % 4 ≠ 0) : verdict d act =
    divergePin (match act % 4 with
      | 1 => deadLetter (dispatchPush (verdictTaken d (d.au.held.filter (fun x => x.seq != d.rd AU_VERDICT_SEQ))) h.a.bytes [h.a.ctx]) h.b 7
      | 2 => deadLetter (dispatchPush (verdictTaken d (d.au.held.filter (fun x => x.seq != d.rd AU_VERDICT_SEQ))) h.b.bytes [h.b.ctx]) h.a 7
      | _ => deadLetter (deadLetter (verdictTaken d (d.au.held.filter (fun x => x.seq != d.rd AU_VERDICT_SEQ))) h.a 6) h.b 6) := by
  unfold verdict
  dsimp only
  rw [if_neg ha, hf]
  rfl

end

theorem verdict_refused {d : Dev} (hf : d.au.held.find? (fun h => h.seq == d.rd AU_VERDICT_SEQ) = none) {act : Nat}
    (ha : act % 4 ≠ 0) : verdict d act = d.ev AU_EVT_VREFUSED := by
  unfold verdict
  dsimp only
  rw [if_neg ha, hf]

@[simp] theorem verdictTaken_bs (d : Dev) (h : List HeldDiv) : (verdictTaken d h).bs = d.bs := by simp [verdictTaken]
@[simp] theorem verdictTaken_au (d : Dev) (h : List HeldDiv) : (verdictTaken d h).au = { d.au with held := h } := by
  simp [verdictTaken]
@[simp] theorem verdictTaken_host (d : Dev) (h : List HeldDiv) : (verdictTaken d h).host = d.host := by simp [verdictTaken]

theorem verdictTaken_fl (d : Dev) (h : List HeldDiv) : (verdictTaken d h).fl AU_EVT_VERDICT = true :=
  Dev.fl_ev_recd _ rfl (by decide) ..

theorem verdictTaken_keepsBut (d : Dev) (h : List HeldDiv) : KeepsBut verdictFields d (verdictTaken d h) := by
  have h0 : KeepsBut verdictFields d { d with au := { d.au with held := h } } := .of_regs (.refl _ d) rfl
  exact (h0.ev _ _ (by simp [verdictFields])).recd _ _ _ _ (fun x hx => List.mem_append_right _ hx)

/-- What the verdict for one copy leaves: the copy is dispatched, the other ends. -/
theorem verdictFor_spec (d : Dev) (q : List HeldDiv) (x y : CopyRec) (reason : Nat) :
    let t := divergePin (deadLetter (dispatchPush (verdictTaken d q) x.bytes [x.ctx]) y reason)
    t.bs = d.bs ∧ t.fl AU_EVT_VERDICT = true ∧ (t.host.dq.any fun z => z.bytes == x.bytes && z.ctxs == [x.ctx]) = true ∧
      t.au.held = q ∧ KeepsBut (pinFields ++ verdictFields) d t := by
  refine ⟨by simp, ?_, ?_, by simp, ?_⟩
  · rw [divergePin_fl _ (by decide), (deadLetter_haltKeeps ..).fl (by decide)]
    exact verdictTaken_fl d q
  · rw [divergePin_host, deadLetter_dq]
    exact dispatchPush_any _ _ _ (fun z hb hc => by simp [hb, hc])
  · refine (((verdictTaken_keepsBut d q).dispatchPush _ _).trans (deadLetter_keepsBut _ _ _ ?_ ?_)).mono ?_ |>.trans
      ((divergePin_keepsBut _).mono ?_)
    · simp [verdictFields]
    · exact fun x hx => List.mem_append_right _ hx
    · exact fun x hx => List.mem_append_right _ hx
    · exact fun x hx => List.mem_append_left _ hx

/-- A footprint may name further fields. -/
theorem KeepsBut.widen {p v r : List (Reg × Nat)} {d e : Dev} (h : KeepsBut (p ++ (v ++ r)) d e) (c : List (Reg × Nat)) :
    KeepsBut (p ++ c ++ v ++ r) d e := h.mono fun x hx => by
  simp only [List.mem_append] at hx ⊢
  tauto

/-! ### Verdicts that do not come (R315) -/

/-- The device after the wait for a verdict has ended. -/
def verdictMissed (d : Dev) (q : Nat) : Dev :=
  (({ d with au := { d.au with held := d.au.held.filter (fun x => x.seq != q) } }).ev AU_EVT_VTIMEOUT).alert TW_ALERT_VTIMEOUT

theorem verdictTimeout_due {d : Dev} {q : Nat} (h : verdictDue d q = true) :
    ∃ x : HeldDiv, verdictTimeout d q = divergePin (deadLetter (deadLetter (verdictMissed d q) x.a 6) x.b 6) := by
  obtain ⟨y, hy, hq⟩ := List.any_eq_true.mp h
  obtain ⟨x, hx⟩ : ∃ x, d.au.held.find? (fun h => h.seq == q) = some x :=
    Option.isSome_iff_exists.mp (List.find?_isSome.mpr ⟨y, hy, (Bool.and_eq_true_iff.mp hq).1⟩)
  refine ⟨x, ?_⟩
  unfold verdictTimeout
  rw [hx]
  rfl

/-- An alert shows its cause. -/
theorem Dev.fl_alert (d : Dev) {r : Reg} (hw : r.w = 1) (hne : r.id ≠ TW_STATUS_TWB_ALERT.id) : (d.alert r).fl r = true := by
  unfold Dev.alert
  dsimp only
  split
  · assumption
  · have hset : (d.wr r 0 1).fl r = true := d.fl_wrB r 0 true hw
    split
    · rw [Dev.fl_wr_ne _ _ _ _ hne]; exact hset
    · exact hset

theorem verdictMissed_marks (d : Dev) (q : Nat) : (verdictMissed d q).fl AU_EVT_VTIMEOUT = true ∧
    (verdictMissed d q).fl TW_ALERT_VTIMEOUT = true :=
  ⟨(congrArg (· != 0) (Dev.rd_alert_ne _ 0 (by decide) (by decide))).trans (Dev.fl_ev _ _ _ rfl), Dev.fl_alert _ rfl (by decide)⟩

@[simp] theorem verdictMissed_bs (d : Dev) (q : Nat) : (verdictMissed d q).bs = d.bs := by simp [verdictMissed]
@[simp] theorem verdictMissed_host (d : Dev) (q : Nat) : (verdictMissed d q).host = d.host := by simp [verdictMissed]
@[simp] theorem verdictMissed_au (d : Dev) (q : Nat) :
    (verdictMissed d q).au = { d.au with held := d.au.held.filter (fun x => x.seq != q) } := by simp [verdictMissed]

/-! ### The statement -/

/-- Settles O21: each expiry and each verdict is the release of its entry, the fate of its copies, and the pin. -/
theorem pairingWindowsAndVerdicts : Obligations.PairingWindowsAndVerdicts := by
  unfold Obligations.PairingWindowsAndVerdicts
  refine ⟨fun s q p hx hd hf hg => ?ungated, fun s q p hx hd hf hg ha => ?authority, fun s q p hx hd hf hg ha => ?nopair,
    fun s act ht hk ha hf => ?refused, fun s act h ht hk ha hf => ?named, fun s act h ht hk ha hf => ?both,
    fun s q hx hd => ?timeout, fun s hx hd => ?pulse⟩
  case ungated =>
    have hw := windowExpiry_ungated hf hg
    obtain ⟨t, he, hp, ht⟩ := exec_timed (c := .pairWindowExpiry q) rfl hx hd (by rw [hw]; simpa using hx.2.2)
    refine ⟨t, he, hp, ?_⟩
    rw [ht, hw]
    exact ⟨by rw [divergePin_host]; rfl, by rw [divergePin_au]; rfl, (entryClosed_keepsBut _ _ p).trans (divergePin_keepsBut _)⟩
  case authority =>
    have hw := windowExpiry_authority hf hg ha
    obtain ⟨t, he, hp, ht⟩ := exec_timed (c := .pairWindowExpiry q) rfl hx hd (by rw [hw]; simpa using hx.2.2)
    refine ⟨t, he, hp, ?_⟩
    rw [ht, hw]
    refine ⟨?_, by rw [divergePin_au]; rfl⟩
    rw [divergePin_host]
    exact dispatchPush_any _ _ _ (fun y hb hc => by simp [hb, hc])
  case nopair =>
    have hw := windowExpiry_deadLetter hf hg ha
    obtain ⟨t, he, hp, ht⟩ := exec_timed (c := .pairWindowExpiry q) rfl hx hd (by rw [hw]; simpa using hx.2.2)
    refine ⟨t, he, hp, ?_⟩
    rw [ht, hw]
    refine ⟨by simp [entryClosed], ?_, ?_, by simp [entryClosed], ?_⟩
    · rw [divergePin_fl _ (by decide), (deadLetter_haltKeeps ..).fl (by decide)]
      exact Dev.fl_ev _ _ _ rfl
    · rw [(divergePin_keepsBut _) AU_DLCNT 0 (by decide), deadLetter_count _ _ (by decide), Dev.rd_ev_ne _ _ _ (by decide)]
      rfl
    · refine ((((entryClosed_keepsBut _ _ p).ev _ _ ?_).trans (deadLetter_keepsBut _ _ _ ?_ ?_))).trans
        ((divergePin_keepsBut _).mono fun x hx => ?_)
      · simp
      · simp
      · exact fun x hx => List.mem_append_right _ hx
      · exact List.mem_append_left _ (List.mem_append_left _ (List.mem_append_left _ hx))
  case refused =>
    have hact : act.toNat % 4 ≠ 0 := by bv_omega
    have hw : verdict (handOver s.atCommands.dev) act.toNat = (handOver s.atCommands.dev).ev AU_EVT_VREFUSED :=
      verdict_refused (d := handOver s.atCommands.dev) hf hact
    obtain ⟨t, he, hp, hdev⟩ := exec_wordCmd (c := .auVerdict act) (a := .twb) rfl ht (by decide) hk
      (by rw [hw]; simpa using ht.2.1.2.2)
    refine ⟨t, he, hp, ?_⟩
    rw [hdev, hw]
    exact ⟨Dev.fl_ev _ _ _ rfl, (KeepsBut.refl _ s.atCommands.dev).handOver.ev _ _ (by simp)⟩
  case named =>
    have hact : act.toNat % 4 ≠ 0 := by rcases ha with rfl | rfl <;> decide
    have hw := verdict_held (d := handOver s.atCommands.dev) hf hact
    obtain ⟨x, y, hx, hxa⟩ : ∃ x y : CopyRec, (x = if act = 1 then h.a else h.b) ∧ verdict (handOver s.atCommands.dev) act.toNat =
        divergePin (deadLetter (dispatchPush (verdictTaken (handOver s.atCommands.dev)
          (s.atCommands.dev.au.held.filter fun x => x.seq != s.atCommands.dev.rd AU_VERDICT_SEQ)) x.bytes [x.ctx]) y 7) := by
      rcases ha with rfl | rfl
      · exact ⟨h.a, h.b, rfl, hw⟩
      · exact ⟨h.b, h.a, rfl, hw⟩
    obtain ⟨hbs, hev, hdq, hheld, hkept⟩ := verdictFor_spec (handOver s.atCommands.dev)
      (s.atCommands.dev.au.held.filter fun x => x.seq != s.atCommands.dev.rd AU_VERDICT_SEQ) x y 7
    obtain ⟨t, he, hp, hdev⟩ := exec_wordCmd (c := .auVerdict act) (a := .twb) rfl ht (by decide) hk
      (by rw [hxa]; exact (congrArg ShelfSt.shedReq hbs).trans ht.2.1.2.2)
    refine ⟨t, he, hp, ?_⟩
    rw [hdev, hxa]
    refine ⟨hev, ?_, hheld, ?_⟩
    · rw [← apply_ite CopyRec.bytes, ← apply_ite CopyRec.ctx, ← hx]
      exact hdq
    · exact hkept.widen [(HQ_CPL_IDX_PI, 0), (HQ_CPL_IDX_PI, 1)]
  case both =>
    subst ha
    have hw : verdict (handOver s.atCommands.dev) 3 = divergePin (deadLetter (deadLetter (verdictTaken (handOver s.atCommands.dev)
        (s.atCommands.dev.au.held.filter fun x => x.seq != s.atCommands.dev.rd AU_VERDICT_SEQ)) h.a 6) h.b 6) :=
      verdict_held (d := handOver s.atCommands.dev) hf (by decide)
    obtain ⟨t, he, hp, hdev⟩ := exec_wordCmd (c := .auVerdict 3) (a := .twb) rfl ht (by decide) hk
      (by show (verdict _ 3).bs.shedReq = 0; rw [hw]; simpa using ht.2.1.2.2)
    refine ⟨t, he, hp, ?_⟩
    rw [hdev]
    show (verdict _ 3).fl _ = _ ∧ (verdict _ 3).host.dq = _ ∧ (verdict _ 3).au.held = _
    rw [hw]
    refine ⟨?_, by simp, by simp⟩
    rw [divergePin_fl _ (by decide), (deadLetter_haltKeeps ..).fl (by decide), (deadLetter_haltKeeps ..).fl (by decide)]
    exact verdictTaken_fl ..
  case timeout =>
    obtain ⟨x, hw⟩ := verdictTimeout_due hd
    obtain ⟨hev, hal⟩ := verdictMissed_marks s.atTimers.dev q.toNat
    obtain ⟨t, he, hp, hdev⟩ := exec_timed (c := .verdictTimeout q) rfl hx hd (by rw [hw]; simpa using hx.2.2)
    refine ⟨t, he, hp, ?_⟩
    rw [hdev, hw]
    refine ⟨?_, ?_, by simp, by simp, fun hempty hpulse => ?_⟩
    · rw [divergePin_fl _ (by decide), (deadLetter_haltKeeps ..).fl (by decide), (deadLetter_haltKeeps ..).fl (by decide)]
      exact hev
    · rw [divergePin_fl _ (by decide), (deadLetter_haltKeeps ..).fl (by decide), (deadLetter_haltKeeps ..).fl (by decide)]
      exact hal
    · rw [divergePin_au] at hempty
      rw [divergePin_diverge, hempty]
      simp [hpulse]
  case pulse =>
    obtain ⟨t, he, hp, hdev⟩ := exec_timed (c := .divergePulseEnd) (f := fun d => pulseEnd d) rfl hx hd
      ((congrArg ShelfSt.shedReq (divergePin_bs _)).trans hx.2.2)
    refine ⟨t, he, hp, ?_⟩
    rw [hdev]
    refine ⟨congrArg AuSt.pulseEnd (divergePin_au _), (divergePin_diverge _).trans (Bool.or_false _), ?_⟩
    exact (KeepsBut.of_regs (.refl _ _) rfl : KeepsBut pinFields s.atTimers.dev _).trans (divergePin_keepsBut _)

end Sys2Proof.Machine
end

section
/-! PROOFS about the fetch of descriptors and their pairing, and the statement on descriptors (R292, R296, R308, R310 to
R315). -/

namespace Sys2Proof.Machine
open R

/-! ### Values of a descriptor -/

theorem ofLe_lt (l : List Nat) : ofLe l < 256 ^ l.length := by
  induction l with
  | nil => simp [ofLe]
  | cons b l ih =>
    have hb : b % 256 < 256 := Nat.mod_lt _ (by decide)
    have hpow : 256 ^ (b :: l).length = 256 * 256 ^ l.length := by rw [List.length_cons, Nat.pow_succ, Nat.mul_comm]
    rw [hpow, ofLe]
    omega

theorem leAt_lt (l : List Nat) (o n : Nat) : leAt l o n < 256 ^ n :=
  (ofLe_lt _).trans_le (Nat.pow_le_pow_right (by decide) (by simp))

theorem leAt_four_lt (l : List Nat) (o : Nat) : leAt l o 4 < 2 ^ 32 := (leAt_lt l o 4).trans_eq (by norm_num)

/-! ### A read of one descriptor (R292, R296) -/

/-- The fields that a fetch writes. -/
def fetchIds : List Nat := [HQ_LATE.id, HQ_EVT_LATE.id, HQ_CQ_IDX_CI.id]

/-- What a read of one descriptor leaves: the ring has advanced, and the copy waits in its tick. -/
structure FetchedOne (d : Dev) (e : Nat) (b : List Nat) (f : Dev) : Prop where
  ci : f.rd HQ_CQ_IDX_CI e = (d.rd HQ_CQ_IDX_CI e + 1) % 65536
  arr : f.host.arr = [(copyCtx d e (d.rd HQ_CQ_IDX_CI e % 65536) b, b)]
  dq : f.host.dq = d.host.dq
  au : f.au = d.au
  writes : WritesOnly fetchIds d f

/-- The device after its oldest read has come back, counted where it came late. -/
def readBack (d : Dev) (e : Nat) (r : FetchReq) (rs : List FetchReq) : Dev :=
  let d := d.setEp e { d.hep e with reads := rs }
  if r.tick + 2 < d.cur then (d.inc HQ_LATE e).ev HQ_EVT_LATE e else d

theorem readBack_writes (d : Dev) (e : Nat) (r : FetchReq) (rs : List FetchReq) : WritesOnly fetchIds d (readBack d e r rs) := by
  have h0 : WritesOnly fetchIds d (d.setEp e { d.hep e with reads := rs }) := (WritesOnly.refl _ d).of_regs rfl rfl
  unfold readBack
  dsimp only
  split
  · exact (h0.wr (r := HQ_LATE) (by decide) e _).ev (r := HQ_EVT_LATE) (by decide) e
  · exact h0

theorem readBack_host (d : Dev) (e : Nat) (r : FetchReq) (rs : List FetchReq) :
    (readBack d e r rs).host = (d.setEp e { d.hep e with reads := rs }).host := by
  unfold readBack
  dsimp only
  split
  · rw [Dev.ev_host, Dev.inc_host]
  · rfl

theorem readBack_au (d : Dev) (e : Nat) (r : FetchReq) (rs : List FetchReq) : (readBack d e r rs).au = d.au := by
  unfold readBack
  dsimp only
  split
  · rw [Dev.ev_au, Dev.inc_au]; rfl
  · rfl

theorem readBack_ci (d : Dev) (e : Nat) (r : FetchReq) (rs : List FetchReq) :
    (readBack d e r rs).rd HQ_CQ_IDX_CI e = d.rd HQ_CQ_IDX_CI e := by
  unfold readBack
  dsimp only
  split
  · rw [Dev.rd_ev_ne _ _ _ (by decide), Dev.inc, Dev.rd_wr_ne _ _ _ _ (by decide)]; rfl
  · rfl

/-- The device after the consumer index has advanced over one descriptor. -/
def ringAdvanced (d : Dev) (e : Nat) : Dev :=
  mirrorDirty (d.wr HQ_CQ_IDX_CI e ((d.rd HQ_CQ_IDX_CI e + 1) % 65536)) e

theorem descFetch_cons {d : Dev} {e k : Nat} {x : List Nat} (h : (d.hep e).reads = [{ tick := k, n := 1 }]) :
    descFetch d e [x] = { ringAdvanced (readBack d e ⟨k, 1⟩ []) e with host := { (ringAdvanced (readBack d e ⟨k, 1⟩ []) e).host with
      arr := (ringAdvanced (readBack d e ⟨k, 1⟩ []) e).host.arr ++
        [(copyCtx (ringAdvanced (readBack d e ⟨k, 1⟩ []) e) e ((readBack d e ⟨k, 1⟩ []).rd HQ_CQ_IDX_CI e % 65536) (fit 64 x), fit 64 x)] } } := by
  unfold descFetch
  rw [h]
  rfl

theorem hep_gen_kept (d : Dev) (e k : Nat) : ((ringAdvanced (readBack d e ⟨k, 1⟩ []) e).hep e).gen = (d.hep e).gen := by
  have hback : (readBack d e ⟨k, 1⟩ []).hep e = (d.setEp e { d.hep e with reads := [] }).hep e := by
    show Tbl.get {} (readBack d e ⟨k, 1⟩ []).host.ep e = _
    rw [readBack_host]
    rfl
  unfold ringAdvanced mirrorDirty
  rw [Dev.hep_setEp]
  show ((readBack d e ⟨k, 1⟩ []).hep e).gen = _
  rw [hback, Dev.hep_setEp]

theorem descFetch_one {d : Dev} {e k : Nat} {x : List Nat} (h : (d.hep e).reads = [{ tick := k, n := 1 }])
    (ha : d.host.arr = []) : FetchedOne d e (fit 64 x) (descFetch d e [x]) := by
  have hci := readBack_ci d e ⟨k, 1⟩ []
  have hhost := readBack_host d e ⟨k, 1⟩ []
  rw [descFetch_cons h]
  refine ⟨?ci, ?arr, ?dq, readBack_au d e ⟨k, 1⟩ [], ?writes⟩
  case ci =>
    show ((readBack d e ⟨k, 1⟩ []).wr HQ_CQ_IDX_CI e _).rd HQ_CQ_IDX_CI e = _
    rw [Dev.rd_wr, hci]
    exact Nat.mod_mod _ 65536
  case arr =>
    show (readBack d e ⟨k, 1⟩ []).host.arr ++ _ = _
    rw [hhost, hci]
    show d.host.arr ++ _ = _
    rw [ha]
    simp [copyCtx, hep_gen_kept]
  case dq =>
    show (readBack d e ⟨k, 1⟩ []).host.dq = _
    rw [hhost]
    rfl
  case writes =>
    exact ((readBack_writes d e ⟨k, 1⟩ []).wr (r := HQ_CQ_IDX_CI) (by decide) e _).of_regs rfl rfl

/-- A fetch of one descriptor completes. -/
theorem descriptorFetch_one {s : State} {e : Endpoint} {k : Nat} (x : List Byte) (hq : s.sys.dev.quiet)
    (h : (s.sys.dev.hep (epIx e)).reads = [{ tick := k, n := 1 }]) (ha : s.sys.dev.host.arr = []) :
    ∃ t : State, exec (.descriptorFetch e [x]) s = .next t ∧ t.pending = s.pending ∧
      FetchedOne s.sys.dev (epIx e) (fit 64 (natBytes x)) t.sys.dev := by
  have hone := descFetch_one (x := natBytes x) h ha
  obtain ⟨t, he, hp, hdev⟩ := exec_latched (c := .descriptorFetch e [x]) rfl hq.1 ((congrArg ShelfSt.shedReq hone.writes.2).trans hq.2)
  exact ⟨t, he, hp, hdev ▸ hone⟩

/-! ### One arrived copy is paired (R306, R308, R310 to R314) -/

/-- The device whose arrived copies have been taken up. -/
def arrTaken (d : Dev) : Dev := { d with host := { d.host with arr := [] } }

theorem pairArrived_one {d : Dev} {x : HCtx} {b : List Nat} (h : d.host.arr = [(x, b)]) :
    pairArrived d = divergePin (pairCopy (arrTaken d) x b) := by
  unfold pairArrived
  rw [h]
  by_cases hx : x.src = 0 <;> simp [hx, forL, arrTaken]

/-- A copy with its digest. -/
def copyOf (x : HCtx) (b : List Nat) : CopyRec := { ctx := x, dig := copyDigest b, bytes := b }

section
variable {d : Dev} {x : HCtx} {b : List Nat}

theorem pairCopy_local (hl : x.lcl = true) : pairCopy d x b = dispatchPush d b [x] := by
  unfold pairCopy
  exact if_pos hl

/-- Outside TWIN the copy of the one host heard is dispatched. -/
theorem pairCopy_heard (hm : d.rd AU_CTRL_MODE = x.src) (h2 : x.src ≠ 2)
    (hh : gatedOps.contains (descOp b) = false ∨ d.fl GL_STATUS_MHALT = false) : pairCopy d x b = dispatchPush d b [x] := by
  have hg : ¬((gatedOps.contains (descOp b) = true) ∧ (d.fl GL_STATUS_MHALT = true)) := by
    rcases hh with hh | hh <;> rw [hh] <;> simp
  have hother : ¬(d.rd AU_CTRL_MODE ≠ 2 ∧ d.rd AU_CTRL_MODE ≠ x.src) := fun h => h.2 hm
  by_cases hl : x.lcl = true
  · exact pairCopy_local hl
  · unfold pairCopy
    dsimp only
    rw [if_neg hl, if_neg hother, if_neg hg, if_pos (hm ▸ h2)]

/-- Outside TWIN a copy of the other host is a dead letter. -/
theorem pairCopy_unheard (hl : x.lcl = false) (h2 : d.rd AU_CTRL_MODE ≠ 2) (hm : d.rd AU_CTRL_MODE ≠ x.src) :
    pairCopy d x b = deadLetter d (copyOf x b) 8 := by
  unfold pairCopy
  dsimp only
  rw [if_neg (by rw [hl]; decide), if_pos ⟨h2, hm⟩]
  rfl

/-- A copy may be paired: TWIN, not local, its command not halted, and its SEQ later than its sender's. -/
def Pairable (d : Dev) (x : HCtx) (b : List Nat) : Prop :=
  x.lcl = false ∧ d.rd AU_CTRL_MODE = 2 ∧ (gatedOps.contains (descOp b) = false ∨ d.fl GL_STATUS_MHALT = false) ∧
    (d.fl (seqSet x.src) = false ∨ laterThan x.seq (d.rd (seqReg x.src)) = true)

/-- A second copy closes its entry. -/
theorem pairCopy_second (hp : Pairable d x b) {p : PairEnt} (hf : d.au.table.find? (fun p => p.seq == x.seq) = some p) :
    pairCopy d x b = pairSecond (seqAdmit d x.src x.seq) p (copyOf x b) := by
  obtain ⟨hl, hm, hh, hs⟩ := hp
  have hg : ¬((gatedOps.contains (descOp b) = true) ∧ (d.fl GL_STATUS_MHALT = true)) := by
    rcases hh with hh | hh <;> rw [hh] <;> simp
  have hlate : ¬((d.fl (seqSet x.src) = true) ∧ ((!laterThan x.seq (d.rd (seqReg x.src))) = true)) := by
    rcases hs with hs | hs <;> rw [hs] <;> simp
  unfold pairCopy
  dsimp only
  rw [if_neg (by rw [hl]; decide), if_neg (fun h => h.1 hm), if_neg hg, if_neg (fun h => h hm), if_neg hlate, hf]
  rfl

/-- A first copy enters the table. -/
theorem pairCopy_first (hp : Pairable d x b) (hf : d.au.table.find? (fun p => p.seq == x.seq) = none)
    (ho : d.fl (seqSet (1 - x.src)) = false ∨ laterThan x.seq (d.rd (seqReg (1 - x.src))) = true) :
    pairCopy d x b = pairFirst (seqAdmit d x.src x.seq) (copyOf x b) (gatedOps.contains (descOp b)) := by
  obtain ⟨hl, hm, hh, hs⟩ := hp
  have hg : ¬((gatedOps.contains (descOp b) = true) ∧ (d.fl GL_STATUS_MHALT = true)) := by
    rcases hh with hh | hh <;> rw [hh] <;> simp
  have hlate : ¬((d.fl (seqSet x.src) = true) ∧ ((!laterThan x.seq (d.rd (seqReg x.src))) = true)) := by
    rcases hs with hs | hs <;> rw [hs] <;> simp
  have hother : ¬((d.fl (seqSet (1 - x.src)) = true) ∧ ((!laterThan x.seq (d.rd (seqReg (1 - x.src)))) = true)) := by
    rcases ho with ho | ho <;> rw [ho] <;> simp
  unfold pairCopy
  dsimp only
  rw [if_neg (by rw [hl]; decide), if_neg (fun h => h.1 hm), if_neg hg, if_neg (fun h => h hm), if_neg hlate, hf]
  exact if_neg hother

end

/-! ### The sender's SEQ (R308) -/

theorem seqReg_w (e : Nat) : (seqReg e).w = 32 := by unfold seqReg; split <;> rfl

/-- The admitted SEQ shows. -/
theorem seqAdmit_seq (d : Dev) (e : Nat) {q : Nat} (hq : q < 2 ^ 32) : (seqAdmit d e q).rd (seqReg e) = q := by
  have hset : ((d.wr (seqReg e) 0 q).wr (seqSet e) 0 1).rd (seqReg e) = q := by
    rw [Dev.rd_wr_ne _ _ _ _ (by unfold seqReg seqSet; split <;> decide), Dev.rd_wr, seqReg_w, Nat.mod_eq_of_lt hq]
  unfold seqAdmit
  dsimp only
  split
  · refine (Dev.rd_wr_ne (r := AU_HSEQ) _ _ _ _ ?_).trans hset
    unfold seqReg; split <;> decide
  · exact hset

theorem seqAdmit_table (d : Dev) (e q : Nat) : (seqAdmit d e q).au.table = d.au.table ∧ (seqAdmit d e q).au.held = d.au.held := by
  unfold seqAdmit; dsimp only; split <;> exact ⟨rfl, rfl⟩

theorem seqAdmit_host (d : Dev) (e q : Nat) : (seqAdmit d e q).host = d.host := by
  unfold seqAdmit; dsimp only; split <;> rfl

/-! ### The pairing table (R310 to R312) -/

/-- The fields that pairing may write beside the SEQ registers. -/
def pairIds : List Nat := [AU_EVICT.id, AU_EVT_EVICT.id, AU_EVT_NOPAIR.id] ++ haltIds

theorem pairExpire_writes (d : Dev) (p : PairEnt) : WritesOnly pairIds d (pairExpire d p) := by
  have h0 : WritesOnly pairIds d (entryClosed d p) := (WritesOnly.refl _ d).of_regs rfl rfl
  have hsub : haltIds ⊆ pairIds := List.subset_append_right ..
  unfold pairExpire
  dsimp only
  split
  · exact h0
  · split
    · exact h0.of_regs rfl rfl
    · exact (h0.ev (r := AU_EVT_NOPAIR) (by decide) 0).trans ((deadLetter_haltKeeps _ p.copy 3).1.mono hsub)

/-- The device with room for one more entry: a full table has lost its oldest. -/
def tableRoom (d : Dev) : Dev :=
  if 1024 ≤ d.au.table.length then
    match d.au.table with
    | p :: _ => pairExpire ((d.inc AU_EVICT).ev AU_EVT_EVICT) p
    | [] => d
  else d

theorem tableRoom_writes (d : Dev) : WritesOnly pairIds d (tableRoom d) := by
  unfold tableRoom
  split
  · split
    · next p _ _ =>
      have hinc : WritesOnly pairIds d (d.inc AU_EVICT) := (WritesOnly.refl _ d).wr (by decide) 0 _
      exact (hinc.ev (r := AU_EVT_EVICT) (by decide) 0).trans (pairExpire_writes _ p)
    · exact .refl _ d
  · exact .refl _ d

/-- The device whose table has a new entry. -/
def entryAdded (d : Dev) (c : CopyRec) (gated : Bool) : Dev :=
  { d with au := { d.au with table := d.au.table ++ [{ seq := c.ctx.seq, at_ := d.cur, gated := gated, copy := c }] } }

theorem entryAdded_any (d : Dev) (c : CopyRec) (gated : Bool) {p : PairEnt → Bool}
    (hp : ∀ y : PairEnt, y.seq = c.ctx.seq → y.gated = gated → y.copy = c → p y = true) :
    (entryAdded d c gated).au.table.any p = true :=
  List.any_eq_true.mpr ⟨_, List.mem_append_right _ (List.mem_singleton_self _), hp _ rfl rfl rfl⟩

theorem pairFirst_ungated (d : Dev) (c : CopyRec) :
    pairFirst d c false = dispatchPush (entryAdded (tableRoom d) c false) c.bytes [c.ctx] := rfl

/-- The SEQ of the sender stands while its first copy enters the table. -/
theorem pairFirst_seq (d : Dev) (c : CopyRec) {e q : Nat} (hq : q < 2 ^ 32) :
    (dispatchPush (entryAdded (tableRoom (seqAdmit d e q)) c false) c.bytes [c.ctx]).rd (seqReg e) = q := by
  have hroom : (seqReg e).id ∉ pairIds := by unfold seqReg; split <;> decide
  have hkept := (tableRoom_writes (seqAdmit d e q)).1 (seqReg e) 0 hroom
  exact hkept.trans (seqAdmit_seq d e hq)

theorem pairFirst_gated {d : Dev} (c : CopyRec) (hroom : d.au.table.length < 1024) : pairFirst d c true = entryAdded d c true := by
  have hkeep : tableRoom d = d := if_neg (by omega)
  show entryAdded (tableRoom d) c true = _
  rw [hkeep]

/-- A gated second copy that agrees is dispatched with the first. -/
theorem pairSecond_agree {d : Dev} {p : PairEnt} {c : CopyRec} (hg : p.gated = true) (hd : p.copy.dig = c.dig) :
    pairSecond d p c = dispatchPush (entryClosed d p) p.copy.bytes [p.copy.ctx, c.ctx] := by
  unfold pairSecond
  dsimp only
  rw [if_pos hg, if_pos hd]
  rfl

/-- A gated second copy that disagrees is a divergence. -/
theorem pairSecond_differ {d : Dev} {p : PairEnt} {c : CopyRec} (hg : p.gated = true) (hd : p.copy.dig ≠ c.dig) :
    pairSecond d p c = divergeHold (entryClosed d p) p.copy c := by
  unfold pairSecond
  dsimp only
  rw [if_pos hg, if_neg hd]
  rfl

/-- A divergence that is counted and recorded. -/
def divergeMarked (d : Dev) (p a b : CopyRec) : Dev :=
  (divergeRec ((d.inc AU_DIVCNT).ev AU_EVT_GDIV) p.ctx.seq (descOp p.bytes) a.dig b.dig).alert TW_ALERT_DIVERGE

@[simp] theorem divergeMarked_au (d : Dev) (p a b : CopyRec) : (divergeMarked d p a b).au = d.au := by simp [divergeMarked, divergeRec]
@[simp] theorem divergeMarked_host (d : Dev) (p a b : CopyRec) : (divergeMarked d p a b).host = d.host := by
  simp [divergeMarked, divergeRec]

theorem divergeMarked_event (d : Dev) (p a b : CopyRec) : (divergeMarked d p a b).fl AU_EVT_GDIV = true :=
  (congrArg (· != 0) (Dev.rd_alert_ne _ 0 (by decide) (by decide))).trans (Dev.fl_ev_recd _ rfl (by decide) ..)

/-- With fewer than 8 held, a divergence is held. -/
theorem divergeHold_room {d : Dev} (p c : CopyRec) (hroom : d.au.held.length < 8) :
    (divergeHold d p c).host = d.host ∧ (divergeHold d p c).fl AU_EVT_GDIV = true ∧
      ∃ h : HeldDiv, h.seq = p.ctx.seq ∧ (divergeHold d p c).au.held = d.au.held ++ [h] := by
  have hau : ∀ a b, (divergeRec ((d.inc AU_DIVCNT).ev AU_EVT_GDIV) p.ctx.seq (descOp p.bytes) a b).au = d.au := by
    intro a b; simp [divergeRec]
  unfold divergeHold
  rcases abOf p c with ⟨a, b⟩
  dsimp only
  rw [hau, if_neg (by omega)]
  have hhost := divergeMarked_host d p a b
  have hevent := divergeMarked_event d p a b
  unfold divergeMarked at hhost hevent
  generalize (divergeRec ((d.inc AU_DIVCNT).ev AU_EVT_GDIV) p.ctx.seq (descOp p.bytes) a.dig b.dig).alert TW_ALERT_DIVERGE = f
    at hhost hevent ⊢
  exact ⟨hhost, hevent, _, rfl, rfl⟩

@[simp] theorem entryClosed_host (d : Dev) (p : PairEnt) : (entryClosed d p).host = d.host := rfl
@[simp] theorem entryClosed_held (d : Dev) (p : PairEnt) : (entryClosed d p).au.held = d.au.held := rfl
@[simp] theorem entryClosed_table (d : Dev) (p : PairEnt) :
    (entryClosed d p).au.table = d.au.table.filter (fun x => x.seq != p.seq) := rfl
@[simp] theorem arrTaken_au (d : Dev) : (arrTaken d).au = d.au := rfl
@[simp] theorem arrTaken_dq (d : Dev) : (arrTaken d).host.dq = d.host.dq := rfl

/-! ### The statement -/

theorem seqReg_not_fetched (e : Nat) : (seqReg e).id ∉ fetchIds := by unfold seqReg; split <;> decide
theorem seqSet_not_fetched (e : Nat) : (seqSet e).id ∉ fetchIds := by unfold seqSet; split <;> decide

section
variable {d f : Dev} {e : Nat} {b : List Nat} (hF : FetchedOne d e b f)
include hF

theorem FetchedOne.pairArrived : pairArrived f =
    divergePin (pairCopy (arrTaken f) (copyCtx d e (d.rd HQ_CQ_IDX_CI e % 65536) b) b) := pairArrived_one hF.arr

/-- A field that the fetch does not write reads as before where the copy is paired. -/
theorem FetchedOne.rd {r : Reg} (h : r.id ∉ fetchIds) : (arrTaken f).rd r = d.rd r := hF.writes.1 r 0 h

theorem FetchedOne.fl {r : Reg} (h : r.id ∉ fetchIds) : (arrTaken f).fl r = d.fl r := congrArg (· != 0) (hF.rd h)

theorem FetchedOne.pairable (c : Nat) (hl : descLocal b = false) (hm : d.rd AU_CTRL_MODE = 2)
    (hh : gatedOps.contains (descOp b) = false ∨ d.fl GL_STATUS_MHALT = false)
    (hs : d.fl (seqSet e) = false ∨ laterThan (leAt b 4 4) (d.rd (seqReg e)) = true) :
    Pairable (arrTaken f) (copyCtx d e c b) b := by
  refine ⟨hl, (hF.rd (by decide)).trans hm, ?_, ?_⟩
  · rw [hF.fl (by decide)]
    exact hh
  · show (arrTaken f).fl (seqSet e) = false ∨ laterThan (leAt b 4 4) ((arrTaken f).rd (seqReg e)) = true
    rw [hF.fl (seqSet_not_fetched e), hF.rd (seqReg_not_fetched e)]
    exact hs

/-- The first copy of a SEQ enters the table. -/
theorem FetchedOne.first (hl : descLocal b = false) (hm : d.rd AU_CTRL_MODE = 2)
    (hh : gatedOps.contains (descOp b) = false ∨ d.fl GL_STATUS_MHALT = false)
    (hs : d.fl (seqSet e) = false ∨ laterThan (leAt b 4 4) (d.rd (seqReg e)) = true)
    (ho : d.fl (seqSet (1 - e)) = false ∨ laterThan (leAt b 4 4) (d.rd (seqReg (1 - e))) = true)
    (hf : d.au.table.find? (fun p => p.seq == leAt b 4 4) = none) : ∃ c : CopyRec, c.ctx.seq = leAt b 4 4 ∧ c.bytes = b ∧
    Machine.pairArrived f = divergePin (pairFirst (seqAdmit (arrTaken f) e (leAt b 4 4)) c (gatedOps.contains (descOp b))) := by
  refine ⟨copyOf (copyCtx d e (d.rd HQ_CQ_IDX_CI e % 65536) b) b, rfl, rfl, ?_⟩
  rw [hF.pairArrived, pairCopy_first (hF.pairable _ hl hm hh hs)]
  · rfl
  · exact (congrArg (fun a : AuSt => a.table.find? fun p => p.seq == leAt b 4 4) hF.au).trans hf
  · show (arrTaken f).fl (seqSet (1 - e)) = false ∨ laterThan (leAt b 4 4) ((arrTaken f).rd (seqReg (1 - e))) = true
    rw [hF.fl (seqSet_not_fetched _), hF.rd (seqReg_not_fetched _)]
    exact ho

/-- The second copy of a SEQ closes its entry. -/
theorem FetchedOne.second (hl : descLocal b = false) (hm : d.rd AU_CTRL_MODE = 2)
    (hh : gatedOps.contains (descOp b) = false ∨ d.fl GL_STATUS_MHALT = false)
    (hs : d.fl (seqSet e) = false ∨ laterThan (leAt b 4 4) (d.rd (seqReg e)) = true) {p : PairEnt}
    (hf : d.au.table.find? (fun p => p.seq == leAt b 4 4) = some p) : ∃ c : CopyRec, c.dig = copyDigest b ∧
    Machine.pairArrived f = divergePin (pairSecond (seqAdmit (arrTaken f) e (leAt b 4 4)) p c) := by
  refine ⟨copyOf (copyCtx d e (d.rd HQ_CQ_IDX_CI e % 65536) b) b, rfl, ?_⟩
  rw [hF.pairArrived, pairCopy_second (hF.pairable _ hl hm hh hs)
    ((congrArg (fun a : AuSt => a.table.find? fun p => p.seq == leAt b 4 4) hF.au).trans hf)]
  rfl

end

theorem descFetch_idle {d : Dev} {e : Nat} (h : (d.hep e).reads = []) (ds : List (List Nat)) : descFetch d e ds = d := by
  unfold descFetch
  rw [h]

/-- Settles O20: a fetch of one descriptor leaves its copy, and its pairing follows the branches of `pairCopy`. -/
theorem descriptorsArePaired : Obligations.DescriptorsArePaired := by
  unfold Obligations.DescriptorsArePaired
  refine ⟨fun s e x hq hr => ?idle, fun s e x k hq hr ha hc => ?dispatched, fun s e x k hq hr ha hl h2 hm => ?unheard,
    fun s e x k hq hr ha hl hm hg hs ho hf => ?ungated, fun s e x k hq hr ha hl hm hg hh hs ho hf hlen => ?gated,
    fun s e x k p hq hr ha hl hm hg hh hs hf hp hd => ?agree, fun s e x k p hq hr ha hl hm hg hh hs hf hp hd hlen => ?differ⟩
  case idle =>
    have hidle := descFetch_idle hr ([x].map natBytes)
    obtain ⟨t, he, hp, hdev⟩ := exec_latched (c := .descriptorFetch e [x]) rfl hq.1 (by rw [hidle]; exact hq.2)
    refine ⟨t, he, hp, ?_⟩
    rw [hdev, hidle]
    exact ⟨.refl _ _, rfl⟩
  case dispatched =>
    obtain ⟨t, he, hp, hF⟩ := descriptorFetch_one x hq hr ha
    refine ⟨t, he, hp, hF.ci, hF.arr, ?_⟩
    have hpush : pairArrived t.sys.dev = divergePin (dispatchPush (arrTaken t.sys.dev) (fit 64 (natBytes x))
        [copyCtx s.sys.dev (epIx e) (s.sys.dev.rd HQ_CQ_IDX_CI (epIx e) % 65536) (fit 64 (natBytes x))]) := by
      rw [hF.pairArrived]
      rcases hc with hl | ⟨hm, hh⟩
      · rw [pairCopy_local hl]
      · rw [pairCopy_heard ((hF.rd (by decide)).trans hm) (show epIx e ≠ 2 by cases e <;> decide)]
        rw [hF.fl (by decide)]
        exact hh
    rw [hpush]
    refine ⟨?_, ?_⟩
    · rw [divergePin_host]
      exact dispatchPush_any _ _ _ (fun y hb hcs => by simp [hb, hcs])
    · rw [divergePin_au, dispatchPush_au]
      exact congrArg AuSt.table hF.au
  case unheard =>
    obtain ⟨t, he, hp, hF⟩ := descriptorFetch_one x hq hr ha
    refine ⟨t, he, hp, hF.ci, hF.arr, ?_⟩
    rw [hF.pairArrived, pairCopy_unheard hl (by rw [hF.rd (by decide)]; exact h2) (by rw [hF.rd (by decide)]; exact hm)]
    refine ⟨?_, ?_⟩
    · rw [divergePin_host, deadLetter_dq]
      exact hF.dq
    · rw [divergePin_au, deadLetter_au]
      exact congrArg AuSt.table hF.au
  case ungated =>
    obtain ⟨t, he, hp, hF⟩ := descriptorFetch_one x hq hr ha
    refine ⟨t, he, hp, hF.ci, hF.arr, ?_⟩
    obtain ⟨c, hcs, hcb, hfirst⟩ := hF.first hl hm (.inl hg) hs ho hf
    rw [hfirst, hg, pairFirst_ungated]
    refine ⟨?_, ?_, ?_⟩
    · rw [divergePin_host]
      exact dispatchPush_any _ _ _ (fun y hb hx => by simp [hb, hx, hcb])
    · rw [divergePin_au, dispatchPush_au]
      exact entryAdded_any _ _ _ (fun y h1 h2 h3 => by simp [h1, h2, hcs])
    · have hpin : (seqReg (epIx e)).id ∉ haltIds := by cases e <;> decide
      rw [(divergePin_haltKeeps _).1.1 _ _ hpin]
      exact pairFirst_seq _ c (leAt_four_lt _ 4)
  case gated =>
    obtain ⟨t, he, hp, hF⟩ := descriptorFetch_one x hq hr ha
    refine ⟨t, he, hp, hF.ci, hF.arr, ?_⟩
    obtain ⟨c, hcs, hcb, hfirst⟩ := hF.first hl hm (.inr hh) hs ho hf
    have hsmall : (seqAdmit (arrTaken t.sys.dev) (epIx e) (leAt (fit 64 (natBytes x)) 4 4)).au.table.length < 1024 := by
      rw [(seqAdmit_table ..).1]
      exact (congrArg (fun a : AuSt => a.table.length) hF.au).trans_lt hlen
    rw [hfirst, hg, pairFirst_gated c hsmall]
    refine ⟨?_, ?_⟩
    · rw [divergePin_host]
      show (seqAdmit (arrTaken t.sys.dev) (epIx e) (leAt (fit 64 (natBytes x)) 4 4)).host.dq = s.sys.dev.host.dq
      rw [seqAdmit_host, arrTaken_dq, hF.dq]
    · rw [divergePin_au]
      exact entryAdded_any _ _ _ (fun y h1 h2 h3 => by simp [h1, h2, h3, hcs, hcb])
  case agree =>
    obtain ⟨t, he, hpd, hF⟩ := descriptorFetch_one x hq hr ha
    refine ⟨t, he, hpd, hF.ci, hF.arr, ?_⟩
    obtain ⟨c, hcd, hsecond⟩ := hF.second hl hm (.inr hh) hs hf
    rw [hsecond, pairSecond_agree hp (hd.trans hcd.symm)]
    refine ⟨?_, ?_⟩
    · rw [divergePin_host]
      exact dispatchPush_any _ _ _ (fun y hb hx => by simp [hb, hx])
    · rw [divergePin_au, dispatchPush_au]
      rw [entryClosed_table, (seqAdmit_table ..).1, arrTaken_au, hF.au]
  case differ =>
    obtain ⟨t, he, hpd, hF⟩ := descriptorFetch_one x hq hr ha
    refine ⟨t, he, hpd, hF.ci, hF.arr, ?_⟩
    obtain ⟨c, hcd, hsecond⟩ := hF.second hl hm (.inr hh) hs hf
    have hheld : (entryClosed (seqAdmit (arrTaken t.sys.dev) (epIx e) (leAt (fit 64 (natBytes x)) 4 4)) p).au.held =
        s.sys.dev.au.held := by rw [entryClosed_held, (seqAdmit_table ..).2, arrTaken_au, hF.au]
    obtain ⟨hhost, hev, y, hy, hadd⟩ := divergeHold_room p.copy c (hheld ▸ hlen)
    rw [hheld] at hadd
    rw [hsecond, pairSecond_differ hp (fun h => hd (h.trans hcd))]
    refine ⟨?_, ?_, ?_, ?_, ?_⟩
    · rw [divergePin_host, hhost, entryClosed_host, seqAdmit_host, arrTaken_dq, hF.dq]
    · rw [divergePin_au, hadd, List.length_append, List.length_singleton]
    · rw [divergePin_au, hadd]
      simp [hy]
    · rw [divergePin_fl _ (by decide)]
      exact hev
    · rw [divergePin_diverge, hadd]
      simp

end Sys2Proof.Machine
end

section
/-! PROOFS about the pigeonholes: the states of a hole, writes of the window, and the statement on holes (R300 to R303). -/

namespace Sys2Proof.Machine
open R

/-! ### A hole takes a state (R301) -/

theorem phGo_state (d : Dev) (n : Nat) {st : Nat} (hst : st < 4) : phState (phGo d n st) n = st :=
  (Dev.rd_wr d HQ_PH_STATE n st).trans (Nat.mod_eq_of_lt hst)

theorem phGo_keepsBut (d : Dev) (n st : Nat) : KeepsBut [(HQ_PH_STATE, n)] d (phGo d n st) :=
  .of_regs ((KeepsBut.refl _ d).wr HQ_PH_STATE n st (by simp)) rfl

/-- A hole that is freed is empty. -/
def phFree (d : Dev) (n : Nat) : Dev := (phGo d n 0).wr HQ_PH_LEN n 0

theorem phFree_state (d : Dev) (n : Nat) : phState (phFree d n) n = 0 :=
  (Dev.rd_wr_ne _ _ _ _ (by decide)).trans (phGo_state d n (by decide))

theorem phFree_len (d : Dev) (n : Nat) : (phFree d n).rd HQ_PH_LEN n = 0 := (Dev.rd_wr ..).trans (Nat.zero_mod _)

theorem phFree_keepsBut (d : Dev) (n : Nat) : KeepsBut [(HQ_PH_STATE, n), (HQ_PH_LEN, n)] d (phFree d n) :=
  ((phGo_keepsBut d n 0).mono (by simp)).wr _ _ _ (by simp)

section
variable {d : Dev} {e n : Nat} (hn : n < 64)
include hn

theorem phOp_claim (hfree : phState d n = 0) (h56 : n < 56) : phOp d e n 1 = (phGo d n 1).wr HQ_PH_HOLDER n e := by
  unfold phOp
  dsimp only
  rw [Nat.mod_eq_of_lt hn, if_pos rfl, if_pos ⟨hfree, h56⟩]

theorem phOp_claim_refused (h : 56 ≤ n ∨ phState d n ≠ 0) : phOp d e n 1 = d.ev HQ_EVT_PHVIOL e := by
  have hno : ¬(phState d n = 0 ∧ n < 56) := by omega
  unfold phOp
  dsimp only
  rw [Nat.mod_eq_of_lt hn, if_pos rfl, if_neg hno]

theorem phOp_two : phOp d e n 2 =
    if (phState d n = 1 ∨ phState d n = 3) ∧ phHolder d n = e then phFree d n else d.ev HQ_EVT_PHVIOL e := by
  unfold phOp
  dsimp only
  rw [Nat.mod_eq_of_lt hn]
  rfl

theorem phOp_release (hst : phState d n = 1 ∨ phState d n = 3) (hh : phHolder d n = e) : phOp d e n 2 = phFree d n := by
  rw [phOp_two hn, if_pos ⟨hst, hh⟩]

theorem phOp_release_refused (h : (phState d n ≠ 1 ∧ phState d n ≠ 3) ∨ phHolder d n ≠ e) : phOp d e n 2 = d.ev HQ_EVT_PHVIOL e := by
  have hno : ¬((phState d n = 1 ∨ phState d n = 3) ∧ phHolder d n = e) := by omega
  rw [phOp_two hn, if_neg hno]

end

/-! ### Writes of the window (R302) -/

/-- A write touches no hole but those its endpoint holds. -/
def windowOk (d : Dev) (e ofs len : Nat) : Bool :=
  decide (ofs + len ≤ 0x40000) && (List.range 64).all (fun n =>
    decide (ofs + len ≤ n * 4096) || decide ((n + 1) * 4096 ≤ ofs) || (phState d n == 1 && phHolder d n == e))

theorem phWrite_eq (s : Sys) (e ofs : Nat) (data : List Nat) : phWrite s e ofs data =
    if windowOk s.dev e ofs data.length = true then { s with ph := Mem.put s.ph ofs data }
    else { s with dev := (s.dev.ev HQ_EVT_PHVIOL e).recd 0x0C02 0 (12 + e) [] } := rfl

/-- A write within a hole of its endpoint touches no other. -/
theorem windowOk_inside {d : Dev} {e n ofs len : Nat} (hn : n < 64) (hlo : n * 4096 ≤ ofs) (hhi : ofs + len ≤ (n + 1) * 4096)
    (hst : phState d n = 1) (hh : phHolder d n = e) : windowOk d e ofs len = true := by
  unfold windowOk
  rw [Bool.and_eq_true, decide_eq_true_eq, List.all_eq_true]
  refine ⟨by omega, fun m _ => ?_⟩
  rcases Nat.lt_trichotomy m n with hlt | rfl | hgt
  · have hbelow : (m + 1) * 4096 ≤ ofs := (Nat.mul_le_mul_right 4096 hlt).trans hlo
    rw [decide_eq_true hbelow, Bool.or_true, Bool.true_or]
  · simp [hst, hh]
  · have habove : ofs + len ≤ m * 4096 := hhi.trans (Nat.mul_le_mul_right 4096 hgt)
    rw [decide_eq_true habove, Bool.true_or, Bool.true_or]

/-- A write that begins in a hole of another is not one of those. -/
theorem windowOk_outside {d : Dev} {e ofs len : Nat} (hofs : ofs < 0x40000) (hlen : 0 < len)
    (h : phState d (ofs / 4096) ≠ 1 ∨ phHolder d (ofs / 4096) ≠ e) : ¬ windowOk d e ofs len = true := by
  intro hok
  unfold windowOk at hok
  rw [Bool.and_eq_true, List.all_eq_true] at hok
  have hhole := hok.2 (ofs / 4096) (List.mem_range.mpr (by omega))
  have h1 : ¬ ofs + len ≤ ofs / 4096 * 4096 := by omega
  have h2 : ¬ (ofs / 4096 + 1) * 4096 ≤ ofs := by omega
  rw [decide_eq_false h1, decide_eq_false h2] at hhole
  simp only [Bool.false_or, Bool.and_eq_true, beq_iff_eq] at hhole
  exact h.elim (fun hs => hs hhole.1) (fun hh => hh hhole.2)

/-! ### Reclaims (R303) -/

theorem KeepsBut.msiDue {l : List (Reg × Nat)} {a b : Dev} (h : KeepsBut l a b) (e v : Nat) : KeepsBut l a (msiDue b e v) := h
@[simp] theorem msiDue_rd (d : Dev) (e v : Nat) (r : Reg) (ix : Nat) : (msiDue d e v).rd r ix = d.rd r ix := rfl
@[simp] theorem msiDue_fl (d : Dev) (e v : Nat) (r : Reg) (ix : Nat) : (msiDue d e v).fl r ix = d.fl r ix := rfl
@[simp] theorem msiDue_bs (d : Dev) (e v : Nat) : (msiDue d e v).bs = d.bs := rfl

theorem reclaim_eq (d : Dev) (n : Nat) : reclaim d n =
    msiDue (((phFree d n).ev HQ_EVT_RECLAIM (phHolder d n)).recd 0x0C03 0 (12 + phHolder d n) []) (phHolder d n) 3 := rfl

theorem reclaim_keepsBut (d : Dev) (n : Nat) : KeepsBut ([(HQ_PH_STATE, n), (HQ_PH_LEN, n), (HQ_EVT_RECLAIM, phHolder d n)] ++
    recFields) d (reclaim d n) := by
  rw [reclaim_eq]
  refine ((KeepsBut.ev ((phFree_keepsBut d n).mono ?_) _ _ (by simp)).recd _ _ _ _ ?_).msiDue _ _
  · simp
  · exact fun x hx => List.mem_append_right _ hx

theorem reclaim_rd (d : Dev) (n : Nat) {r : Reg} (ix : Nat) (h : r.id ≠ HQ_EVT_RECLAIM.id) (hrec : r.id ∉ recIds) :
    (reclaim d n).rd r ix = (phFree d n).rd r ix := by
  rw [reclaim_eq, msiDue_rd, Dev.rd_recd _ _ _ _ _ _ _ hrec, Dev.rd_ev_ne _ _ _ h]

theorem reclaim_event (d : Dev) (n : Nat) : (reclaim d n).fl HQ_EVT_RECLAIM (phHolder d n) = true := by
  rw [reclaim_eq, msiDue_fl]
  exact Dev.fl_ev_recd _ rfl (by decide) ..

@[simp] theorem phFree_bs (d : Dev) (n : Nat) : (phFree d n).bs = d.bs := rfl

theorem reclaim_bs (d : Dev) (n : Nat) : (reclaim d n).bs = d.bs := by
  rw [reclaim_eq, msiDue_bs, Dev.recd_bs, Dev.ev_bs, phFree_bs]

/-! ### The end of a copy (R301) -/

/-- The device after a copy of a hole has left the list of those under way. -/
def copyOff (d : Dev) (n : Nat) : Dev := { d with host := { d.host with copies := d.host.copies.filter (fun x => x.hole != n) } }

/-- The device after the access of a copy has ended with a status. -/
def copyEnded (d : Dev) (n : Nat) (o : CopyOp) (st : Nat) : Dev :=
  complete (paceEnded (phFinish (copyOff d n) n o.back) o.ctx.src 0) o.ctx st 0 0

theorem phFinish_kept {d : Dev} {n : Nat} (h : bitOf d.host.phDrop n = false) (st : Nat) :
    phFinish d n st = msiDue (phGo d n st) (phHolder d n) 3 := if_neg (by rw [h]; decide)

theorem complete_copies (d : Dev) (c : HCtx) (st r reason : Nat) : (complete d c st r reason).host.copies = d.host.copies := by
  unfold complete
  dsimp only
  split
  · rfl
  · split <;> rfl

section
variable {d : Dev} {n : Nat} (o : CopyOp) (st : Nat)

theorem copyEnded_bs (hdrop : bitOf d.host.phDrop n = false) : (copyEnded d n o st).bs = d.bs := by
  unfold copyEnded
  rw [(complete_haltKeeps ..).1.2, phFinish_kept (d := copyOff d n) hdrop]
  rfl

/-- The hole of a copy returns to the state it came from. -/
theorem copyEnded_state (hdrop : bitOf d.host.phDrop n = false) (hback : o.back < 4) : phState (copyEnded d n o st) n = o.back := by
  unfold copyEnded phState
  rw [Dev.rd_congr _ _ (complete_regs ..), phFinish_kept (d := copyOff d n) hdrop]
  exact phGo_state (copyOff d n) n hback

theorem copyEnded_copies (hdrop : bitOf d.host.phDrop n = false) :
    (copyEnded d n o st).host.copies = d.host.copies.filter (fun x => x.hole != n) := by
  unfold copyEnded
  rw [complete_copies, phFinish_kept (d := copyOff d n) hdrop]
  rfl

end

/-- The end of a copy: data from host memory fill the hole, and the copy completes. -/
theorem phCopyDone_found {s : Sys} {n : Nat} {o : CopyOp} (hf : s.dev.host.copies.find? (fun o => o.hole == n && o.sent) = some o)
    (ok : Bool) (data : List Nat) : phCopyDone s n ok data =
    { s with dev := copyEnded s.dev n o (if ok then stSuccess else stDma)
             ph := if ok && o.dir == 0 then Mem.put s.ph (n * 4096) (fit o.len data) else s.ph } := by
  unfold phCopyDone
  rw [hf]
  dsimp only
  split <;> rfl

/-! ### The statement -/

/-- Settles O23: each command of a hole by what it does to the hole's state and to the window. -/
theorem pidgeonholesChangeHands : Obligations.PidgeonholesChangeHands := by
  unfold Obligations.PidgeonholesChangeHands
  refine ⟨fun s e n hq hn hs => ?claim, fun s e n hq h => ?claimRefused, fun s e n hq hs hh => ?release, fun s e n hq h => ?releaseRefused,
    fun s e n ofs data hq hlo hhi hs hh _ => ?write, fun s e ofs data hq hne h => ?writeRefused, fun s n hx hd => ?reclaim,
    fun s n data o hq hf hdir hback hdrop => ?copied, fun s n data o hq hf hback hdrop => ?failed⟩
  case claim =>
    have hop := phOp_claim (e := epIx e) n.isLt hs hn
    obtain ⟨t, he, hp, hdev⟩ := exec_latched (c := .phClaim e n) rfl hq.1 (by rw [hop]; exact hq.2)
    refine ⟨t, he, hp, ?_⟩
    rw [hdev, hop]
    refine ⟨(Dev.rd_wr_ne _ _ _ _ (by decide)).trans (phGo_state _ _ (by decide)), ?_, ?_⟩
    · rw [Dev.rd_wr]
      cases e <;> rfl
    · exact ((phGo_keepsBut _ _ _).mono (by simp)).wr _ _ _ (by simp)
  case claimRefused =>
    have hop := phOp_claim_refused (e := epIx e) n.isLt h
    obtain ⟨t, he, hp, hdev⟩ := exec_latched (c := .phClaim e n) rfl hq.1 (by rw [hop]; simpa using hq.2)
    refine ⟨t, he, hp, ?_⟩
    rw [hdev, hop]
    exact ⟨Dev.fl_ev _ _ _ rfl, (KeepsBut.refl _ _).ev _ _ (by simp)⟩
  case release =>
    have hop := phOp_release (e := epIx e) n.isLt hs hh
    obtain ⟨t, he, hp, hdev⟩ := exec_latched (c := .phRelease e n) rfl hq.1 (by rw [hop]; exact hq.2)
    refine ⟨t, he, hp, ?_⟩
    rw [hdev, hop]
    exact ⟨phFree_state _ _, phFree_len _ _, phFree_keepsBut _ _⟩
  case releaseRefused =>
    have hop := phOp_release_refused (e := epIx e) n.isLt h
    obtain ⟨t, he, hp, hdev⟩ := exec_latched (c := .phRelease e n) rfl hq.1 (by rw [hop]; simpa using hq.2)
    refine ⟨t, he, hp, ?_⟩
    rw [hdev, hop]
    exact ⟨Dev.fl_ev _ _ _ rfl, (KeepsBut.refl _ _).ev _ _ (by simp)⟩
  case write =>
    have hop : phWrite s.sys (epIx e) ofs.toNat (natBytes data) = { s.sys with ph := Mem.put s.sys.ph ofs.toNat (natBytes data) } := by
      rw [phWrite_eq]
      exact if_pos (windowOk_inside n.isLt hlo (by simpa [natBytes] using hhi) hs hh)
    obtain ⟨t, he, hp, hsys⟩ := exec_latchedS (c := .phBar2Write e ofs data) rfl hq.1 (by rw [hop]; exact hq.2)
    refine ⟨t, he, hp, ?_⟩
    rw [hsys, hop]
    exact ⟨rfl, rfl, .refl _ _⟩
  case writeRefused =>
    have hop : phWrite s.sys (epIx e) ofs.toNat (natBytes data) =
        { s.sys with dev := (s.sys.dev.ev HQ_EVT_PHVIOL (epIx e)).recd 0x0C02 0 (12 + epIx e) [] } := by
      rw [phWrite_eq]
      exact if_neg (windowOk_outside ofs.isLt (by simpa [natBytes] using List.length_pos_iff.mpr hne) h)
    obtain ⟨t, he, hp, hsys⟩ := exec_latchedS (c := .phBar2Write e ofs data) rfl hq.1 (by rw [hop]; simpa using hq.2)
    refine ⟨t, he, hp, ?_⟩
    rw [hsys, hop]
    exact ⟨rfl, Dev.fl_ev_recd _ rfl (by decide) .., ((KeepsBut.refl _ _).ev _ _ (by simp)).recd _ _ _ _
      (fun x hx => List.mem_append_right _ hx)⟩
  case reclaim =>
    obtain ⟨t, he, hp, hdev⟩ := exec_timed (c := .phReclaim n) (f := fun d => reclaim d n.val) rfl hx hd
      ((congrArg ShelfSt.shedReq (reclaim_bs _ _)).trans hx.2.2)
    refine ⟨t, he, hp, ?_⟩
    rw [hdev]
    exact ⟨(reclaim_rd _ _ _ (by decide) (by decide)).trans (phFree_state _ _),
      (reclaim_rd _ _ _ (by decide) (by decide)).trans (phFree_len _ _), reclaim_event _ _, reclaim_keepsBut _ _⟩
  case copied =>
    have hop := phCopyDone_found hf true (natBytes data)
    obtain ⟨t, he, hp, hsys⟩ := exec_latchedS (c := .phCopyDone n true data) rfl hq.1
      (by rw [hop]; exact (congrArg ShelfSt.shedReq (copyEnded_bs o _ hdrop)).trans hq.2)
    refine ⟨t, he, hp, ?_⟩
    rw [hsys, hop]
    refine ⟨?_, rfl, copyEnded_state o _ hdrop hback, copyEnded_copies o _ hdrop⟩
    simp [hdir]
  case failed =>
    have hop := phCopyDone_found hf false (natBytes data)
    obtain ⟨t, he, hp, hsys⟩ := exec_latchedS (c := .phCopyDone n false data) rfl hq.1
      (by rw [hop]; exact (congrArg ShelfSt.shedReq (copyEnded_bs o _ hdrop)).trans hq.2)
    refine ⟨t, he, hp, ?_⟩
    rw [hsys, hop]
    exact ⟨rfl, rfl, copyEnded_state o _ hdrop hback, copyEnded_copies o _ hdrop⟩

end Sys2Proof.Machine
end

section
/-! PROOFS about what a register read leaves, for the reads that a host command makes (R291, R425, R432, R433). -/

namespace Sys2Proof.Machine
open R

/-! ### A read beside the count of a tick and the two-wire ports -/

/-- The device with more commands counted in its tick, and its two-wire ports changed: nothing that a read looks at. -/
def aside (k : Nat) (w : TwSt → TwSt) (d : Dev) : Dev := { d with tb := { d.tb with handed := d.tb.handed + k }, tw := w d.tw }

section
variable (k : Nat) (w : TwSt → TwSt)

theorem aside_fl (d : Dev) (r : Reg) (ix : Nat) : (aside k w d).fl r ix = d.fl r ix := rfl

theorem readRec_aside (s : Sys) (a : Nat) : readRec (s.on (aside k w)) a = ((readRec s a).1, (readRec s a).2.on (aside k w)) := by
  have hev : ∀ d : Dev, ((aside k w d).inc EV_FRKERR).ev EV_EVT_FRKERR = aside k w ((d.inc EV_FRKERR).ev EV_EVT_FRKERR) := by
    intro d
    show Dev.ev (aside k w (d.inc EV_FRKERR)) EV_EVT_FRKERR = _
    unfold Dev.ev
    rw [aside_fl]
    split <;> rfl
  unfold readRec
  dsimp only
  by_cases hf : frankOk (Mem.bytes s.nv a 64) = true
  · simp [hf]
  · simp only [hf, Sys.on_nv]
    simp [Sys.on, hev]

theorem readRwin_aside (s : Sys) (acc i : Nat) :
    readRwin (s.on (aside k w)) acc i = ((readRwin s acc i).1, (readRwin s acc i).2.on (aside k w)) := by
  have hrec : rwinRec (s.on (aside k w)) acc = rwinRec s acc := rfl
  unfold readRwin
  rw [hrec]
  cases rwinRec s acc with
  | none => rfl
  | some a => simp only [readRec_aside]

theorem readField_aside (s : Sys) (acc : Nat) (view : Bool) (r : Reg) (ix : Nat) :
    readField (s.on (aside k w)) acc view r ix = ((readField s acc view r ix).1, (readField s acc view r ix).2.on (aside k w)) := by
  have hcomp : computedField (s.on (aside k w)).dev acc r ix = computedField s.dev acc r ix := rfl
  unfold readField
  rw [hcomp]
  cases r.acc
  case rc => cases view <;> rfl
  case wo => rfl
  case ll =>
    have hll : llValue (s.on (aside k w)).dev acc r = llValue s.dev acc r := rfl
    dsimp only
    rw [hll]
    cases lhOf r <;> by_cases hpm : r.id = TB_PM_LO.id <;> simp only [hpm, if_true, if_false] <;> rfl
  all_goals (dsimp only; cases computedField s.dev acc r ix <;> rfl)

theorem readFields_aside (acc : Nat) (view : Bool) (l : List (Reg × Nat)) (n : Nat) (s : Sys) :
    readFields acc view l (n, s.on (aside k w)) = ((readFields acc view l (n, s)).1, (readFields acc view l (n, s)).2.on (aside k w)) := by
  induction l generalizing n s with
  | nil => rfl
  | cons f l ih =>
    show readFields acc view l (_, (readField (s.on (aside k w)) acc view f.1 f.2).2) = _
    rw [readField_aside]
    exact ih _ _

/-- The words whose read is more than a read of their fields: the readout window, the holds, and their status. -/
theorem specialRead_cases {ofs : Nat} (h : specialRead ofs = true) : (0xB200 ≤ ofs ∧ ofs < 0xB240) ∨
    (¬(0xB200 ≤ ofs ∧ ofs < 0xB240) ∧ 0xA040 ≤ ofs ∧ ofs < 0xA060) ∨ ofs = 0xA02C := by
  simp only [specialRead, Bool.or_eq_true, Bool.and_eq_true, decide_eq_true_eq, beq_iff_eq] at h
  omega

theorem readWord_window (s : Sys) (acc : Nat) {ofs : Nat} (h : 0xB200 ≤ ofs ∧ ofs < 0xB240) :
    readWord s acc ofs = readRwin s acc ((ofs - 0xB200) / 4) := by
  unfold readWord
  rw [if_pos h]

theorem readWord_pk (s : Sys) (acc : Nat) {ofs : Nat} (hw : ¬(0xB200 ≤ ofs ∧ ofs < 0xB240)) (h : 0xA040 ≤ ofs ∧ ofs < 0xA060) :
    readWord s acc ofs = ((pkRead s.dev acc ((ofs - 0xA040) / 4)).1, { s with dev := (pkRead s.dev acc ((ofs - 0xA040) / 4)).2 }) := by
  unfold readWord
  rw [if_neg hw, if_pos h]

/-- A word reads the same beside it, and leaves the same. -/
theorem readWord_aside (s : Sys) (acc ofs : Nat) :
    readWord (s.on (aside k w)) acc ofs = ((readWord s acc ofs).1, (readWord s acc ofs).2.on (aside k w)) := by
  cases hs : specialRead ofs with
  | false => rw [readWord_fields _ acc hs, readWord_fields _ acc hs, readFields_aside]
  | true =>
    rcases specialRead_cases hs with hw | ⟨hw, hp⟩ | rfl
    · rw [readWord_window _ acc hw, readWord_window _ acc hw, readRwin_aside]
    · rw [readWord_pk _ acc hw hp, readWord_pk _ acc hw hp]
      rfl
    · rw [readWord_chstat, readWord_chstat]
      rfl

theorem readWords_aside (s : Sys) (acc ofs n : Nat) :
    readWords (s.on (aside k w)) acc ofs n = ((readWords s acc ofs n).1, (readWords s acc ofs n).2.on (aside k w)) := by
  unfold readWords
  induction n with
  | zero => rfl
  | succ n ih =>
    rw [List.range_succ, List.foldl_append, List.foldl_append, ih]
    simp only [List.foldl_cons, List.foldl_nil, readWord_aside]

end

theorem readWords_handOver (s : Sys) (acc ofs n : Nat) :
    readWords (s.on handOver) acc ofs n = ((readWords s acc ofs n).1, (readWords s acc ofs n).2.on handOver) :=
  readWords_aside 1 id s acc ofs n

/-! ### What a read leaves -/

/-- A field that no read changes: it is in the map, no read clears it, and it is no shadow of a pair. -/
def StandsRead (r : Reg) : Prop := r ∈ allRegs ∧ r.acc ≠ .rc ∧ r.acc ≠ .lh ∧ r.id ≠ EV_FRKERR.id ∧ r.id ≠ EV_EVT_FRKERR.id

/-- What no read touches beside the register file. -/
def Dev.readView (d : Dev) : ShelfSt × TwSt × List Emission := (d.bs, d.tw, d.out)

/-- `t` is `s` after a read: the field `r` stands, and what no read touches. -/
def ReadLeft (r : Reg) (s t : Sys) : Prop := (∀ ix, t.dev.rd r ix = s.dev.rd r ix) ∧ t.dev.readView = s.dev.readView

theorem ReadLeft.refl (r : Reg) (s : Sys) : ReadLeft r s s := ⟨fun _ => rfl, rfl⟩
theorem ReadLeft.trans {r : Reg} {s t u : Sys} (h : ReadLeft r s t) (h' : ReadLeft r t u) : ReadLeft r s u :=
  ⟨fun ix => (h'.1 ix).trans (h.1 ix), h'.2.trans h.2⟩

theorem llTaken_view (d : Dev) (acc : Nat) (low high : Reg) : (llTaken d acc low high).readView = d.readView := by
  unfold llTaken; split <;> rfl

theorem Dev.ev_view (d : Dev) (r : Reg) (ix : Nat) : (d.ev r ix).readView = d.readView := by
  unfold Dev.ev; split <;> rfl

section
variable {r : Reg} (hr : StandsRead r)
include hr

theorem readField_left (s : Sys) (acc : Nat) (view : Bool) {f : Reg} (hf : f ∈ allRegs) (ix : Nat) :
    ReadLeft r s (readField s acc view f ix).2 := by
  obtain ⟨hmem, hrc, hlh, -, -⟩ := hr
  have hne : ∀ g : Reg, g ∈ allRegs → g.acc ≠ r.acc → r.id ≠ g.id := fun g hg hacc hid =>
    hacc (congrArg Reg.acc (allRegs_id_inj hmem hg hid)).symm
  by_cases hll : f.acc = .ll
  · cases hg : lhOf f with
    | none =>
      have hread : (readField s acc view f ix).2 = s.on (fun d => if f.id = TB_PM_LO.id then d.freeNext else d) := by
        unfold readField
        rw [hll]
        dsimp only
        rw [hg]
      rw [hread]
      by_cases hpm : f.id = TB_PM_LO.id
      · simp only [hpm, if_true]; exact ⟨fun _ => rfl, rfl⟩
      · simp only [hpm, if_false]; exact .refl r s
    | some g =>
      have hread : (readField s acc view f ix).2 = s.on (fun d => llTaken d acc f g) := by
        unfold readField
        rw [hll]
        dsimp only
        rw [hg]
        rfl
      have hgl : g.acc = .lh := by
        have hfound := List.find?_some hg
        simpa using (Bool.and_eq_true_iff.mp hfound).1
      rw [hread]
      refine ⟨fun jx => llTaken_keepsBut s.dev acc f g r jx ?_, llTaken_view ..⟩
      simpa using Or.inl (hne g (List.mem_of_find?_eq_some hg) (by rw [hgl]; exact hlh.symm))
  · rw [readField_snd s acc view f ix hll]
    split
    · next hc =>
      have hfr : f.acc = .rc := by simpa using (Bool.and_eq_true_iff.mp hc).1
      exact ⟨fun jx => Dev.rd_wr_ne _ _ _ _ (hne f hf (by rw [hfr]; exact hrc.symm)), rfl⟩
    · exact .refl r s

theorem readFields_left (acc : Nat) (view : Bool) (l : List (Reg × Nat)) (hl : ∀ f ∈ l, f.1 ∈ allRegs) (n : Nat) (s : Sys) :
    ReadLeft r s (readFields acc view l (n, s)).2 := by
  induction l generalizing n s with
  | nil => exact .refl r s
  | cons f l ih =>
    exact (readField_left hr s acc view (hl f (List.mem_cons_self ..)) f.2).trans (ih (fun g hg => hl g (List.mem_cons_of_mem _ hg)) _ _)

theorem readRwin_left (s : Sys) (acc w : Nat) : ReadLeft r s (readRwin s acc w).2 := by
  obtain ⟨-, -, -, hfrk, hevt⟩ := hr
  unfold readRwin
  cases rwinRec s acc with
  | none => exact .refl r s
  | some a =>
    show ReadLeft r s (readRec s a).2
    unfold readRec
    dsimp only
    split
    · exact .refl r s
    · exact ⟨fun ix => (Dev.rd_ev_ne _ _ _ hevt).trans (Dev.rd_wr_ne _ _ _ _ hfrk), Dev.ev_view ..⟩

theorem readWord_left (s : Sys) (acc ofs : Nat) : ReadLeft r s (readWord s acc ofs).2 := by
  cases hs : specialRead ofs with
  | false =>
    rw [readWord_fields _ acc hs]
    refine readFields_left hr acc _ _ (fun f hf => ?_) 0 s
    obtain ⟨g, hg, hgf⟩ := List.mem_filterMap.mp hf
    split at hgf
    · cases hgf
    · cases hgf
      exact hg
  | true =>
    rcases specialRead_cases hs with hw | ⟨hw, hp⟩ | rfl
    · rw [readWord_window _ acc hw]
      exact readRwin_left hr ..
    · rw [readWord_pk _ acc hw hp]
      exact ⟨fun _ => rfl, rfl⟩
    · rw [readWord_chstat]
      exact ⟨fun _ => rfl, rfl⟩

theorem readWords_left (s : Sys) (acc ofs n : Nat) : ReadLeft r s (readWords s acc ofs n).2 := by
  unfold readWords
  induction n with
  | zero => exact .refl r s
  | succ n ih =>
    rw [List.range_succ, List.foldl_append]
    exact ih.trans (readWord_left hr ..)

end

theorem readWords_length (s : Sys) (acc ofs n : Nat) : (readWords s acc ofs n).1.length = 4 * n := by
  unfold readWords
  induction n with
  | zero => rfl
  | succ n ih =>
    rw [List.range_succ, List.foldl_append]
    simp only [List.foldl_cons, List.foldl_nil, List.length_append, ih]
    simp [le]
    omega

/-! ### The checks of R292 -/

section
variable {s : Sys} {b : List Nat} {cs : List HCtx} {h : HCmd}

/-- An argument that is out of order, or LOCAL where it may not stand, ends a command with BAD_ARG. -/
theorem hostRun_badArg (hg : gatedOps.contains (descOp b) = false ∨ s.dev.fl GL_STATUS_MHALT = false)
    (hbad : descOk b h.used = false ∨ h.argOk = false) : hostRun s b cs h = s.on (fun d => completeAll d cs stBadArg 0) := by
  have hgate : (gatedOps.contains (descOp b) && s.dev.fl GL_STATUS_MHALT) = false := by
    rcases hg with hg | hg <;> rw [hg] <;> simp
  have harg : (!descOk b h.used || !h.argOk) = true := by rcases hbad with hb | hb <;> rw [hb] <;> simp
  unfold hostRun
  simp only [hgate, harg, if_true]
  rfl

/-- A target that is not configured ends it with BAD_TARGET. -/
theorem hostRun_badTarget (hg : gatedOps.contains (descOp b) = false ∨ s.dev.fl GL_STATUS_MHALT = false)
    (hd : descOk b h.used = true) (ha : h.argOk = true) (ht : h.target = false) :
    hostRun s b cs h = s.on (fun d => completeAll d cs stBadTgt 0) := by
  have hgate : (gatedOps.contains (descOp b) && s.dev.fl GL_STATUS_MHALT) = false := by
    rcases hg with hg | hg <;> rw [hg] <;> simp
  unfold hostRun
  simp only [hgate, hd, ha, ht, Bool.not_true, Bool.or_self, Bool.not_false, Bool.true_or, if_true]
  rfl

/-- A gated command under a management halt ends as a dead letter. -/
theorem hostRun_halted (hg : gatedOps.contains (descOp b) = true) (hh : s.dev.fl GL_STATUS_MHALT = true) (c : HCtx) :
    hostRun s b [c] h = s.on (fun d => deadLetter d { ctx := c, dig := 0, bytes := b } 9) := by
  unfold hostRun
  simp only [hg, hh, Bool.and_self, if_true]
  rfl

end

/-- A command that no unit runs passes the checks, from a path other than the service port. -/
structure OpenCmd (s : Sys) (b : List Nat) (cs : List HCtx) (h : HCmd) : Prop where
  gate : gatedOps.contains (descOp b) = false
  desc : descOk b h.used = true
  arg : h.argOk = true
  target : h.target = true
  unit : unitOp (descOp b) = false
  hole : h.hole = none ∨ ∃ n, h.hole = some (n, 2) ∧ holeOk s.dev (srcOf cs) (n, 2) = true
  path : srcOf cs ≠ 3
  mgmt : h.mgmt = false

/-- It does what its execution does. -/
theorem hostRun_open {s : Sys} {b : List Nat} {cs : List HCtx} {h : HCmd} (ho : OpenCmd s b cs h) : hostRun s b cs h =
    match h.act s with
    | .fin st r s => s.on (fun d => completeAll d cs st r)
    | .wait s => s := by
  obtain ⟨hgate, hdesc, harg, htgt, hunit, hhole, hpath, hmgmt⟩ := ho
  unfold hostRun
  rcases hhole with hhole | ⟨n, hhole, hok⟩
  · cases hact : h.act s <;> simp only [hact, hgate, hdesc, harg, htgt, hunit, hhole, hpath, hmgmt, Bool.not_true, Bool.or_self,
      Bool.false_eq_true, if_false, Bool.and_false, Bool.false_and, decide_false, holeDone]
  · cases hact : h.act s <;> simp only [hact, hgate, hdesc, harg, htgt, hunit, hhole, hok, hpath, hmgmt, Bool.not_true, Bool.or_self,
      Bool.false_eq_true, if_false, Bool.and_false, Bool.false_and, decide_false, holeDone, ne_eq, not_true_eq_false]

/-! ### From the row of a host command to its completion -/

/-- The device with another queue of completions. -/
def withCpls (d : Dev) (q : List CplItem) : Dev := { d with host := { d.host with cpls := q } }

theorem withCpls_rd (d : Dev) (q : List CplItem) (r : Reg) (ix : Nat) : (withCpls d q).rd r ix = d.rd r ix := rfl
theorem withCpls_fl (d : Dev) (q : List CplItem) (r : Reg) (ix : Nat) : (withCpls d q).fl r ix = d.fl r ix := rfl
theorem withCpls_phState (d : Dev) (q : List CplItem) (n : Nat) : phState (withCpls d q) n = phState d n := rfl
theorem withCpls_keepsBut {l : List (Reg × Nat)} {a d : Dev} (h : KeepsBut l a d) (q : List CplItem) : KeepsBut l a (withCpls d q) := h

/-- A host command whose turn has come and that completes with a status: what stands before the completion is `x`. -/
theorem completes_run {c : Instr} {s : State} {h : Sender} {op st r : Nat} {args : List (Nat × List Nat)}
    {mk : Sys → List Nat → List HCtx → HCmd} {P : Sys → Prop} {x : Sys} (he : exec c s = sysRow (hostCmd op h args mk) s) (ht : s.turn)
    (hp : h.path ≠ .sp) (hrun : hostDirect (s.atCommands.on handOver) op h args mk =
      x.on (fun d => completeAll d [ctxOf (handOver s.atCommands.dev) h] st r))
    (hbs : x.dev.bs = s.atCommands.dev.bs) (hP : ∀ q, P { x with dev := withCpls x.dev q }) :
    ∃ t : State, exec c s = .next t ∧ t.pending = s.pending ∧ P t.sys ∧ Answered h st r s.atCommands.dev t.sys.dev := by
  obtain ⟨q, hq⟩ := completeAll_one x.dev (ctxOf (handOver s.atCommands.dev) h) st r (Nat.ne_of_lt (accIx_lt hp))
  obtain ⟨-, ⟨-, -, hshed⟩, -⟩ := id ht
  refine completes_hostCmd (Q := fun x => P x ∧ Answered h st r s.atCommands.dev x.dev) op h args mk he ht ?_ ?_
  · rw [hrun, Sys.on_dev, hq]
    exact (congrArg ShelfSt.shedReq hbs).trans hshed
  · rw [hrun]
    refine ⟨?_, completeAll_answered h rfl st r⟩
    show P { x with dev := completeAll x.dev [ctxOf (handOver s.atCommands.dev) h] st r }
    rw [hq]
    exact hP q

theorem hostDirect_of_cmd {s : Sys} {op : Nat} {h : Sender} {args : List (Nat × List Nat)} {mk : Sys → List Nat → List HCtx → HCmd} {x : HCmd}
    (hx : mk s (descOf op h args) [ctxOf s.dev h] = x) : hostDirect s op h args mk = hostRun s (descOf op h args) [ctxOf s.dev h] x := by
  subst hx; rfl

/-- A command that no unit runs, whose execution answers a status. -/
theorem completes_open {c : Instr} {s : State} {h : Sender} {op st r : Nat} {args : List (Nat × List Nat)}
    {mk : Sys → List Nat → List HCtx → HCmd} {P : Sys → Prop} {x : HCmd} {y : Sys} (he : exec c s = sysRow (hostCmd op h args mk) s) (ht : s.turn)
    (hp : h.path ≠ .sp) (hx : mk (s.atCommands.on handOver) (descOf op h args) [ctxOf (s.atCommands.on handOver).dev h] = x)
    (ho : OpenCmd (s.atCommands.on handOver) (descOf op h args) [ctxOf (s.atCommands.on handOver).dev h] x)
    (hact : x.act (s.atCommands.on handOver) = .fin st r y) (hbs : y.dev.bs = s.atCommands.dev.bs)
    (hP : ∀ q, P { y with dev := withCpls y.dev q }) :
    ∃ t : State, exec c s = .next t ∧ t.pending = s.pending ∧ P t.sys ∧ Answered h st r s.atCommands.dev t.sys.dev := by
  have hrun : hostDirect (s.atCommands.on handOver) op h args mk =
      y.on (fun d => completeAll d [ctxOf (handOver s.atCommands.dev) h] st r) := by
    rw [hostDirect_of_cmd hx, hostRun_open ho, hact]
    rfl
  exact completes_run he ht hp hrun hbs hP

/-- A command that no unit runs and that completes later. -/
theorem completes_wait {c : Instr} {s : State} {h : Sender} {op : Nat} {args : List (Nat × List Nat)}
    {mk : Sys → List Nat → List HCtx → HCmd} {x : HCmd} {f : Dev → Dev} (he : exec c s = sysRow (hostCmd op h args mk) s) (ht : s.turn)
    (hx : mk (s.atCommands.on handOver) (descOf op h args) [ctxOf (s.atCommands.on handOver).dev h] = x)
    (ho : OpenCmd (s.atCommands.on handOver) (descOf op h args) [ctxOf (s.atCommands.on handOver).dev h] x)
    (hact : x.act (s.atCommands.on handOver) = .wait ((s.atCommands.on handOver).on f)) (hbs : ∀ d, (f d).bs = d.bs) :
    ∃ t : State, exec c s = .next t ∧ t.pending = s.pending ∧ t.sys = s.atCommands.on (fun d => f (handOver d)) := by
  have hrun : hostDirect (s.atCommands.on handOver) op h args mk = s.atCommands.on (fun d => f (handOver d)) := by
    rw [hostDirect_of_cmd hx, hostRun_open ho, hact]
    exact Sys.on_on ..
  refine completes_hostCmd (Q := fun y => y = s.atCommands.on (fun d => f (handOver d))) op h args mk he ht ?_ hrun
  rw [hrun, Sys.on_dev, hbs, handOver_bs]
  exact ht.2.1.2.2

/-- A command that is refused before its execution changes nothing but its completion. -/
theorem completes_refused {c : Instr} {s : State} {h : Sender} {op st : Nat} {args : List (Nat × List Nat)}
    {mk : Sys → List Nat → List HCtx → HCmd} (he : exec c s = sysRow (hostCmd op h args mk) s) (ht : s.turn) (hp : h.path ≠ .sp)
    (hrun : hostDirect (s.atCommands.on handOver) op h args mk =
      (s.atCommands.on handOver).on (fun d => completeAll d [ctxOf (handOver s.atCommands.dev) h] st 0)) :
    ∃ t : State, exec c s = .next t ∧ t.pending = s.pending ∧ (t.sys.ph = s.atCommands.ph ∧ KeepsBut [] s.atCommands.dev t.sys.dev) ∧
      Answered h st 0 s.atCommands.dev t.sys.dev :=
  completes_run (P := fun y => y.ph = s.atCommands.ph ∧ KeepsBut [] s.atCommands.dev y.dev) he ht hp hrun rfl
    (fun q => ⟨rfl, withCpls_keepsBut (KeepsBut.refl _ s.atCommands.dev).handOver q⟩)

section
variable {c : Instr} {s : State} {h : Sender} {op : Nat} {args : List (Nat × List Nat)} {mk : Sys → List Nat → List HCtx → HCmd} {x : HCmd}
  (he : exec c s = sysRow (hostCmd op h args mk) s) (ht : s.turn) (hp : h.path ≠ .sp) (hop : op < 65536)
  (hg : gatedOps.contains op = false ∨ s.atCommands.dev.fl GL_STATUS_MHALT = false)
  (hx : mk (s.atCommands.on handOver) (descOf op h args) [ctxOf (s.atCommands.on handOver).dev h] = x)
include he ht hp hop hg hx

theorem completes_badArg (hbad : descOk (descOf op h args) x.used = false ∨ x.argOk = false) :
    ∃ t : State, exec c s = .next t ∧ t.pending = s.pending ∧ (t.sys.ph = s.atCommands.ph ∧ KeepsBut [] s.atCommands.dev t.sys.dev) ∧
      Answered h stBadArg 0 s.atCommands.dev t.sys.dev := by
  subst hx
  exact completes_refused he ht hp (hostRun_badArg (by rw [descOp_descOf hop]; exact hg) hbad)

theorem completes_badTarget (hd : descOk (descOf op h args) x.used = true) (ha : x.argOk = true) (hno : x.target = false) :
    ∃ t : State, exec c s = .next t ∧ t.pending = s.pending ∧ (t.sys.ph = s.atCommands.ph ∧ KeepsBut [] s.atCommands.dev t.sys.dev) ∧
      Answered h stBadTgt 0 s.atCommands.dev t.sys.dev := by
  subst hx
  exact completes_refused he ht hp (hostRun_badTarget (by rw [descOp_descOf hop]; exact hg) hd ha hno)

end

/-- LOCAL on a command that no endpoint may mark so fails check 2. -/
theorem descOk_local {op : Nat} (hop : op < 65536) (hno : localOps.contains op = false) {h : Sender} (hl : h.lcl = true)
    (args : List (Nat × List Nat)) (used : List (Nat × Nat)) : descOk (descOf op h args) used = false := by
  have hlocal : descLocal (descOf op h args) = true := by
    unfold descLocal
    rw [descOf_flags, hl]
    cases h.irq <;> decide
  unfold descOk
  rw [hlocal, descOp_descOf hop, hno]
  simp

theorem descOk_none (op : Nat) {h : Sender} (hl : h.lcl = false) : descOk (descOf op h []) [] = true := by
  refine descOk_descOf op hl _ (fun i hi => .inr ?_)
  have hdrop : (descOf op h []).getD (16 + i) 0 = ((descOf op h []).drop 16).getD i 0 := by
    simp [List.getD_eq_getElem?_getD, List.getElem?_drop]
  have hbody : (descOf op h []).drop 16 = List.replicate 48 0 ++ h.extra.map (·.toNat) := rfl
  rw [hdrop, hbody]
  exact getD_zeros _ hi

/-! ### Queries (R291, R301) -/

/-- The arguments of QUERY_REG. -/
theorem queryReg_args (op : Nat) (h : Sender) (ofs : BitVec 16) (cnt : Byte) :
    a2 (descOf op h [(16, le 2 ofs.toNat ++ [cnt.toNat])]) 16 = ofs.toNat ∧
    a1 (descOf op h [(16, le 2 ofs.toNat ++ [cnt.toNat])]) 18 = cnt.toNat := by
  have hv := ofs.isLt
  have hbytes : a2 (descOf op h [(16, le 2 ofs.toNat ++ [cnt.toNat])]) 16 =
    ofs.toNat / 256 ^ 0 % 256 % 256 + 256 * (ofs.toNat / 256 ^ 1 % 256 % 256 + 256 * 0) := rfl
  exact ⟨by omega, rfl⟩

/-- The words a QUERY_REG may read. -/
def queryRegOk (d : Dev) (e o n : Nat) : Bool :=
  decide (o % 4 = 0) && decide (1 ≤ n) && decide (n ≤ 16) && decide (o + 4 * n ≤ 65536)
    && (List.range n).all (fun k => wordThere d e (o + 4 * k))

theorem queryReg_cmd (s : Sys) (h : Sender) (ofs : BitVec 16) (cnt : Byte) :
    hcQueryReg s (descOf 0x0002 h [(16, le 2 ofs.toNat ++ [cnt.toNat])]) [ctxOf s.dev h] =
    { used := [(16, 3)], argOk := queryRegOk s.dev (accIx h.path) ofs.toNat cnt.toNat
      level := if ofs.toNat + 4 * cnt.toNat ≤ 0x400 then 0 else 1
      act := fun s =>
        if accIx h.path ≠ 3 && (resultHole s.dev).isNone then .fin stBusy 0 s
        else
          let (l, s) := readWords s (accIx h.path) ofs.toNat cnt.toNat
          answer s (accIx h.path) l } := by
  obtain ⟨h2, h1⟩ := queryReg_args 0x0002 h ofs cnt
  unfold hcQueryReg
  rw [h2, h1]
  rfl

/-- The device after `k` bytes of a query of endpoint `e` have gone to result hole `n`. -/
def queryDone (d : Dev) (e n k : Nat) : Dev :=
  msiDue (((phGo d n 3).wr HQ_PH_HOLDER n e).wr HQ_PH_LEN n k) e 3

/-- The machine after these bytes. -/
def queryAnswered (s : Sys) (e n : Nat) (bytes : List Nat) : Sys :=
  { s with dev := queryDone s.dev e n bytes.length, ph := Mem.put s.ph (n * 4096) bytes }

/-- The bytes of a query go to the lowest free result hole. -/
theorem answer_hole {s : Sys} {e n : Nat} (he : e ≠ 3) (hn : resultHole s.dev = some n) (bytes : List Nat) :
    answer s e bytes = .fin stSuccess (n + bytes.length * 256) (queryAnswered s e n bytes) := by
  unfold answer queryResult
  rw [if_neg he, hn]
  rfl

theorem queryAnswered_bs (s : Sys) (e n : Nat) (bytes : List Nat) : (queryAnswered s e n bytes).dev.bs = s.dev.bs := rfl
theorem queryAnswered_dev (s : Sys) (e n : Nat) (bytes : List Nat) :
    (queryAnswered s e n bytes).dev = queryDone s.dev e n bytes.length := rfl
theorem queryAnswered_ph (s : Sys) (e n : Nat) (bytes : List Nat) :
    (queryAnswered s e n bytes).ph = Mem.put s.ph (n * 4096) bytes := rfl

theorem queryDone_state (d : Dev) (e n k : Nat) : phState (queryDone d e n k) n = 3 :=
  (Dev.rd_wr_ne _ _ _ _ (by decide)).trans ((Dev.rd_wr_ne _ _ _ _ (by decide)).trans (phGo_state d n (by decide)))

theorem queryDone_holder (d : Dev) (e n k : Nat) : (queryDone d e n k).rd HQ_PH_HOLDER n = e % 2 :=
  (Dev.rd_wr_ne _ _ _ _ (by decide)).trans (Dev.rd_wr ..)

theorem queryDone_len (d : Dev) (e n : Nat) {k : Nat} (hk : k < 8192) : (queryDone d e n k).rd HQ_PH_LEN n = k :=
  (Dev.rd_wr ..).trans (Nat.mod_eq_of_lt hk)

theorem queryDone_keepsBut (d : Dev) (e n k : Nat) :
    KeepsBut [(HQ_PH_STATE, n), (HQ_PH_HOLDER, n), (HQ_PH_LEN, n)] d (queryDone d e n k) :=
  ((((phGo_keepsBut d n 3).mono (by simp)).wr _ _ _ (by simp)).wr _ _ _ (by simp)).msiDue _ _

theorem resultHole_congr {d e : Dev} (h : ∀ ix, e.rd HQ_PH_STATE ix = d.rd HQ_PH_STATE ix) : resultHole e = resultHole d := by
  unfold resultHole phState
  simp only [h]

/-- The states of the holes stand while registers are read. -/
theorem holes_standRead : StandsRead HQ_PH_STATE := by
  refine ⟨?_, by decide, by decide, by decide, by decide⟩
  unfold allRegs
  decide +kernel

theorem chanBytes_length (d : Dev) (c : Nat) : (chanBytes d c).length = 64 := by
  have hfit : ∀ l : List Nat, (fit 64 l).length = 64 := fun l => by simp [fit]; omega
  exact hfit _

theorem queryChan_cmd (s : Sys) (h : Sender) (c : Byte) :
    hcQueryChan s (descOf 0x0003 h [(16, [c.toNat])]) [ctxOf s.dev h] =
    { used := [(16, 1)], target := chanOk s.dev c.toNat, level := 1
      act := fun s => answer s (accIx h.path) (chanBytes s.dev c.toNat) } := by
  unfold hcQueryChan
  rw [a1_unit]
  rfl

/-! ### Copies (R301) -/

/-- The arguments of PH_COPY. -/
theorem descOf_copy_drop (h : Sender) (n dir len addr : Nat) : ∃ l0 l1 a0 a1 a2 a3 a4 a5 a6 a7 : Nat,
    (descOf 0x0004 h [(16, [n, dir] ++ le 2 len), (24, le 8 addr)]).drop 16 =
      n :: dir :: l0 :: l1 :: 0 :: 0 :: 0 :: 0 :: a0 :: a1 :: a2 :: a3 :: a4 :: a5 :: a6 :: a7 ::
        (List.replicate 32 0 ++ h.extra.map (·.toNat)) := ⟨_, _, _, _, _, _, _, _, _, _, rfl⟩

theorem descOk_copy {h : Sender} (hl : h.lcl = false) (n dir len addr : Nat) :
    descOk (descOf 0x0004 h [(16, [n, dir] ++ le 2 len), (24, le 8 addr)]) [(16, 4), (24, 8)] = true := by
  obtain ⟨l0, l1, b0, b1, b2, b3, b4, b5, b6, b7, harg⟩ := descOf_copy_drop h n dir len addr
  refine descOk_descOf 0x0004 hl _ (fun i hi => ?_)
  have hdrop : (descOf 0x0004 h [(16, [n, dir] ++ le 2 len), (24, le 8 addr)]).getD (16 + i) 0 =
      ((descOf 0x0004 h [(16, [n, dir] ++ le 2 len), (24, le 8 addr)]).drop 16).getD i 0 := by
    simp [List.getD_eq_getElem?_getD, List.getElem?_drop]
  rw [hdrop, harg]
  clear hdrop harg
  match i with
  | 0 | 1 | 2 | 3 | 8 | 9 | 10 | 11 | 12 | 13 | 14 | 15 => exact .inl rfl
  | 4 | 5 | 6 | 7 => exact .inr rfl
  | j + 16 => exact .inr (getD_zeros _ (show j < 32 by omega))

theorem copy_args (h : Sender) (n dir : Nat) (len : BitVec 16) (addr : Word64) :
    a1 (descOf 0x0004 h [(16, [n, dir] ++ le 2 len.toNat), (24, le 8 addr.toNat)]) 16 = n ∧
    a1 (descOf 0x0004 h [(16, [n, dir] ++ le 2 len.toNat), (24, le 8 addr.toNat)]) 17 = dir ∧
    a2 (descOf 0x0004 h [(16, [n, dir] ++ le 2 len.toNat), (24, le 8 addr.toNat)]) 18 = len.toNat ∧
    leAt (descOf 0x0004 h [(16, [n, dir] ++ le 2 len.toNat), (24, le 8 addr.toNat)]) 24 8 = addr.toNat := by
  have hlen := len.isLt
  have hadr := addr.isLt
  have h2 : a2 (descOf 0x0004 h [(16, [n, dir] ++ le 2 len.toNat), (24, le 8 addr.toNat)]) 18 =
    len.toNat / 256 ^ 0 % 256 % 256 + 256 * (len.toNat / 256 ^ 1 % 256 % 256 + 256 * 0) := rfl
  have h8 : leAt (descOf 0x0004 h [(16, [n, dir] ++ le 2 len.toNat), (24, le 8 addr.toNat)]) 24 8 =
    addr.toNat / 256 ^ 0 % 256 % 256 + 256 * (addr.toNat / 256 ^ 1 % 256 % 256 + 256 * (addr.toNat / 256 ^ 2 % 256 % 256 +
    256 * (addr.toNat / 256 ^ 3 % 256 % 256 + 256 * (addr.toNat / 256 ^ 4 % 256 % 256 + 256 * (addr.toNat / 256 ^ 5 % 256 % 256 +
    256 * (addr.toNat / 256 ^ 6 % 256 % 256 + 256 * (addr.toNat / 256 ^ 7 % 256 % 256 + 256 * 0))))))) := rfl
  exact ⟨rfl, rfl, by omega, by omega⟩

/-- The device after a copy of an endpoint has been taken: it begins at once where its class needs no pause. -/
def copyTaken (d : Dev) (e : Nat) (o : CopyOp) : Dev :=
  let d' := if o.sent then (phGo d o.hole 2).emit (.phCopy e o.dir o.hole o.addr o.len) else phGo d o.hole 2
  { d' with host := { d'.host with copies := d'.host.copies ++ [o] } }

theorem copyTaken_facts (d : Dev) (e : Nat) (o : CopyOp) : (copyTaken d e o).bs = d.bs ∧ phState (copyTaken d e o) o.hole = 2 ∧
    (copyTaken d e o).host.copies = d.host.copies ++ [o] ∧
    (copyTaken d e o).out = (if o.sent then d.out ++ [.phCopy e o.dir o.hole o.addr o.len] else d.out) ∧
    KeepsBut [(HQ_PH_STATE, o.hole)] d (copyTaken d e o) := by
  have hst := phGo_state d o.hole (show 2 < 4 by decide)
  have hkept := phGo_keepsBut d o.hole 2
  unfold copyTaken
  cases o.sent
  · exact ⟨rfl, hst, rfl, rfl, hkept.of_regs rfl⟩
  · exact ⟨rfl, hst, rfl, rfl, (hkept.emit (.phCopy e o.dir o.hole o.addr o.len)).of_regs rfl⟩

/-- The copy that a PH_COPY asks for. -/
def copyOpOf (d : Dev) (h : Sender) (n dir len addr : Nat) : CopyOp :=
  CopyOp.mk n dir len (phState d n) (ctxOf d h) addr (paceReady d (accIx h.path))

theorem copyOp_handOver (d : Dev) (h : Sender) (n dir len addr : Nat) :
    ({ copyOpOf (handOver d) h n dir len addr with ctx := ctxOf (handOver d) h } : CopyOp) = copyOpOf d h n dir len addr := rfl

theorem copy_cmd (s : Sys) (h : Sender) (n dir : Byte) (len : BitVec 16) (addr : Word64) :
    hcPhCopy s (descOf 0x0004 h [(16, [n.toNat, dir.toNat] ++ le 2 len.toNat), (24, le 8 addr.toNat)]) [ctxOf s.dev h] =
    { used := [(16, 4), (24, 8)]
      argOk := decide (dir.toNat ≤ 1) && decide (1 ≤ len.toNat) && decide (len.toNat ≤ 4096) && decide (addr.toNat % 4 = 0) &&
        decide (accIx h.path < 3)
      hole := some (n.toNat, 2)
      act := fun x => .wait (x.on fun d => copyTaken d (accIx h.path)
        { copyOpOf d h n.toNat dir.toNat len.toNat addr.toNat with ctx := ctxOf s.dev h }) } := by
  obtain ⟨h1, h2, h3, h4⟩ := copy_args h n.toNat dir.toNat len addr
  unfold hcPhCopy
  rw [h1, h2, h3, h4]
  rfl

/-! ### Commands that name a unit (R291) -/

theorem vset_cmd (s : Sys) (h : Sender) (n : Byte) (v : Word) (cs : List HCtx) : ∃ x : HCmd,
    hcRailVset s (descOf 0x0100 h [(16, [n.toNat]), (20, le 4 v.toNat)]) cs = x ∧ x.argOk = decide (n.toNat < 16) := ⟨_, rfl, rfl⟩

theorem railOn_cmd (s : Sys) (h : Sender) (n : Byte) (cs : List HCtx) : ∃ x : HCmd, hcRailOn s (descOf 0x0101 h [(16, [n.toNat])]) cs = x ∧
    x.used = [(16, 1)] ∧ x.argOk = decide (n.toNat < 16) ∧ x.target = railOk s.dev n.toNat := ⟨_, rfl, rfl, rfl, rfl⟩

theorem fuseOn_cmd (s : Sys) (h : Sender) (f : Byte) (cs : List HCtx) : ∃ x : HCmd, hcFuseOn s (descOf 0x0110 h [(16, [f.toNat])]) cs = x ∧
    x.used = [(16, 1)] ∧ x.argOk = decide (f.toNat < 64) ∧ x.target = fuseOk s.dev f.toNat := ⟨_, rfl, rfl, rfl, rfl⟩

theorem ringReset_cmd (s : Sys) (h : Sender) (r : Byte) (cs : List HCtx) :
    ∃ x : HCmd, hcRingReset s (descOf 0x0161 h [(16, [r.toNat])]) cs = x ∧
    x.used = [(16, 1)] ∧ x.argOk = decide (r.toNat < 8) ∧ x.target = ringOk s.dev r.toNat := ⟨_, rfl, rfl, rfl, rfl⟩

theorem railOk_handOver (d : Dev) (n : Nat) : railOk (handOver d) n = railOk d n := rfl
theorem fuseOk_handOver (d : Dev) (f : Nat) : fuseOk (handOver d) f = fuseOk d f := rfl
theorem ringOk_handOver (d : Dev) (r : Nat) : ringOk (handOver d) r = ringOk d r := rfl
theorem holeOk_handOver (d : Dev) (e : Nat) (h : Nat × Nat) : holeOk (handOver d) e h = holeOk d e h := rfl
theorem resultHole_handOver (d : Dev) : resultHole (handOver d) = resultHole d := rfl
theorem chanBytes_handOver (d : Dev) (c : Nat) : chanBytes (handOver d) c = chanBytes d c := rfl
theorem roleOf_handOver (d : Dev) (c : Nat) : roleOf (handOver d) c = roleOf d c := rfl

/-! ### The statement -/

section
variable {s : State} {h : Sender} (ht : s.turn)
include ht

/-- RAIL_OFF under a management halt ends as a dead letter. -/
theorem railOff_halted (n : Byte) (hm : s.atCommands.dev.fl GL_STATUS_MHALT = true) : ∃ t : State, exec (.railOff h n) s = .next t ∧
    t.pending = s.pending ∧ KeepsBut ([(AU_DLCNT, 0)] ++ recFields) s.atCommands.dev t.sys.dev ∧
    t.sys.dev.rd AU_DLCNT = incSat AU_DLCNT.w (s.atCommands.dev.rd AU_DLCNT) := by
  have hrun : hostDirect (s.atCommands.on handOver) 0x0102 h [(16, [n.toNat])] hcRailOff = (s.atCommands.on handOver).on (fun d =>
      deadLetter d { ctx := ctxOf (handOver s.atCommands.dev) h, dig := 0, bytes := descOf 0x0102 h [(16, [n.toNat])] } 9) := by
    rw [hostDirect_of_cmd rfl, hostRun_halted (by rw [descOp_descOf (by decide)]; decide) (by rw [Sys.on_dev, handOver_fl]; exact hm)]
    rfl
  obtain ⟨t, he, hpd, hdev⟩ := completes_hostCmd (c := .railOff h n) (Q := fun x => x.dev = deadLetter (handOver s.atCommands.dev)
    { ctx := ctxOf (handOver s.atCommands.dev) h, dig := 0, bytes := descOf 0x0102 h [(16, [n.toNat])] } 9) 0x0102 h _ hcRailOff rfl ht
    (by rw [hrun, Sys.on_dev, deadLetter_bs, Sys.on_dev, handOver_bs]; exact ht.2.1.2.2)
    (by rw [hrun]; exact (Sys.on_dev _ _).trans (by rw [Sys.on_dev]))
  refine ⟨t, he, hpd, ?_⟩
  rw [hdev]
  refine ⟨(KeepsBut.refl _ _).handOver.trans (deadLetter_keepsBut _ _ _ (by simp) (fun x hx => List.mem_append_right _ hx)), ?_⟩
  rw [deadLetter_count _ _ (by decide), handOver_rd]

variable (hp : h.path ≠ .sp)
include hp

/-- QUERY_REG with a free result hole. -/
theorem queryReg_answers {ofs : BitVec 16} {cnt : Byte} {n : Nat} (hl : h.lcl = false)
    (hok : queryRegOk s.atCommands.dev (accIx h.path) ofs.toNat cnt.toNat = true) (h16 : cnt.toNat ≤ 16)
    (hn : resultHole s.atCommands.dev = some n) : ∃ t : State, exec (.queryReg h ofs cnt) s = .next t ∧ t.pending = s.pending ∧
    t.sys.ph = Mem.put s.atCommands.ph (n * 4096) (readWords s.atCommands (accIx h.path) ofs.toNat cnt.toNat).1 ∧
    phState t.sys.dev n = 3 ∧ t.sys.dev.rd HQ_PH_HOLDER n = accIx h.path % 2 ∧
    t.sys.dev.rd HQ_PH_LEN n = (readWords s.atCommands (accIx h.path) ofs.toNat cnt.toNat).1.length ∧
    Answered h stSuccess (n + (readWords s.atCommands (accIx h.path) ofs.toNat cnt.toNat).1.length * 256) s.atCommands.dev t.sys.dev := by
  have hpath : accIx h.path ≠ 3 := Nat.ne_of_lt (accIx_lt hp)
  have hread := readWords_handOver s.atCommands (accIx h.path) ofs.toNat cnt.toNat
  have hleft := readWords_left holes_standRead s.atCommands (accIx h.path) ofs.toNat cnt.toNat
  have hmems := readWords_mems s.atCommands (accIx h.path) ofs.toNat cnt.toNat
  have hlen := readWords_length s.atCommands (accIx h.path) ofs.toNat cnt.toNat
  generalize readWords s.atCommands (accIx h.path) ofs.toNat cnt.toNat = w at *
  have hhole : resultHole (w.2.on handOver).dev = some n := (resultHole_congr hleft.1).trans hn
  have hact : (if (decide (accIx h.path ≠ 3) && (resultHole (s.atCommands.on handOver).dev).isNone) = true then
        HRes.fin stBusy 0 (s.atCommands.on handOver)
      else
        let (l, x) := readWords (s.atCommands.on handOver) (accIx h.path) ofs.toNat cnt.toNat
        answer x (accIx h.path) l) =
      .fin stSuccess (n + w.1.length * 256) (queryAnswered (w.2.on handOver) (accIx h.path) n w.1) := by
    have hsome : (resultHole (s.atCommands.on handOver).dev).isNone = false := by
      show (resultHole s.atCommands.dev).isNone = false
      rw [hn]; rfl
    rw [hsome, Bool.and_false, if_neg (by decide), hread]
    exact answer_hole hpath hhole w.1
  obtain ⟨t, he, hpd, ⟨hph, hst, hhold, hlenr⟩, ha⟩ := completes_open (c := .queryReg h ofs cnt)
    (P := fun y => y.ph = Mem.put s.atCommands.ph (n * 4096) w.1 ∧ phState y.dev n = 3 ∧ y.dev.rd HQ_PH_HOLDER n = accIx h.path % 2 ∧
      y.dev.rd HQ_PH_LEN n = w.1.length) rfl ht hp (queryReg_cmd _ h ofs cnt)
    ⟨by rw [descOp_descOf (by decide)]; decide, descOk_bytes _ hl (by simp [le]), hok, rfl, by rw [descOp_descOf (by decide)]; decide,
      .inl rfl, hpath, rfl⟩ hact (congrArg (fun v => v.1) hleft.2)
    (fun q => ⟨congrArg (fun m => Mem.put m (n * 4096) w.1) (Sys.ph_of_mems hmems), (withCpls_phState _ q n).trans (queryDone_state _ _ _ _),
      (withCpls_rd _ q _ n).trans (queryDone_holder _ _ _ _), (withCpls_rd _ q _ n).trans (queryDone_len _ _ _ (by omega))⟩)
  exact ⟨t, he, hpd, hph, hst, hhold, hlenr, ha⟩

/-- QUERY_REG with no free result hole. -/
theorem queryReg_busy {ofs : BitVec 16} {cnt : Byte} (hl : h.lcl = false)
    (hok : queryRegOk s.atCommands.dev (accIx h.path) ofs.toNat cnt.toNat = true) (hn : resultHole s.atCommands.dev = none) :
    ∃ t : State, exec (.queryReg h ofs cnt) s = .next t ∧ t.pending = s.pending ∧ t.sys.ph = s.atCommands.ph ∧
    KeepsBut [] s.atCommands.dev t.sys.dev ∧ Answered h stBusy 0 s.atCommands.dev t.sys.dev := by
  have hpath : accIx h.path ≠ 3 := Nat.ne_of_lt (accIx_lt hp)
  have hnone : (resultHole (s.atCommands.on handOver).dev).isNone = true := by
    show (resultHole s.atCommands.dev).isNone = true
    rw [hn]; rfl
  have hact : (if (decide (accIx h.path ≠ 3) && (resultHole (s.atCommands.on handOver).dev).isNone) = true then
        HRes.fin stBusy 0 (s.atCommands.on handOver)
      else
        let (l, x) := readWords (s.atCommands.on handOver) (accIx h.path) ofs.toNat cnt.toNat
        answer x (accIx h.path) l) = .fin stBusy 0 (s.atCommands.on handOver) := by
    rw [hnone, decide_eq_true hpath, Bool.and_self, if_pos rfl]
  obtain ⟨t, he, hpd, ⟨hph, hk⟩, ha⟩ := completes_open (c := .queryReg h ofs cnt)
    (P := fun y => y.ph = s.atCommands.ph ∧ KeepsBut [] s.atCommands.dev y.dev) rfl ht hp (queryReg_cmd _ h ofs cnt)
    ⟨by rw [descOp_descOf (by decide)]; decide, descOk_bytes _ hl (by simp [le]), hok, rfl, by rw [descOp_descOf (by decide)]; decide,
      .inl rfl, hpath, rfl⟩ hact rfl (fun q => ⟨rfl, withCpls_keepsBut (KeepsBut.refl _ s.atCommands.dev).handOver q⟩)
  exact ⟨t, he, hpd, hph, hk, ha⟩

/-- QUERY_REG of words that it may not read. -/
theorem queryReg_badArg {ofs : BitVec 16} {cnt : Byte} (hno : queryRegOk s.atCommands.dev (accIx h.path) ofs.toNat cnt.toNat = false) :
    ∃ t : State, exec (.queryReg h ofs cnt) s = .next t ∧ t.pending = s.pending ∧ t.sys.ph = s.atCommands.ph ∧
    KeepsBut [] s.atCommands.dev t.sys.dev ∧ Answered h stBadArg 0 s.atCommands.dev t.sys.dev := by
  obtain ⟨t, he, hpd, ⟨hph, hk⟩, ha⟩ := completes_badArg (c := .queryReg h ofs cnt) (mk := hcQueryReg) rfl ht hp (by decide)
    (.inl (by decide)) (queryReg_cmd _ h ofs cnt) (.inr hno)
  exact ⟨t, he, hpd, hph, hk, ha⟩

/-- QUERY_CHAN of a channel with a role. -/
theorem queryChan_answers {c : Byte} {n : Nat} (hl : h.lcl = false) (hr : roleOf s.atCommands.dev c.toNat ≠ 0)
    (hn : resultHole s.atCommands.dev = some n) : ∃ t : State, exec (.queryChan h c) s = .next t ∧ t.pending = s.pending ∧
    t.sys.ph = Mem.put s.atCommands.ph (n * 4096) (chanBytes s.atCommands.dev c.toNat) ∧ phState t.sys.dev n = 3 ∧
    t.sys.dev.rd HQ_PH_LEN n = 64 ∧ KeepsBut [(HQ_PH_STATE, n), (HQ_PH_HOLDER, n), (HQ_PH_LEN, n)] s.atCommands.dev t.sys.dev ∧
    Answered h stSuccess (n + 64 * 256) s.atCommands.dev t.sys.dev := by
  have hpath : accIx h.path ≠ 3 := Nat.ne_of_lt (accIx_lt hp)
  have hlen := chanBytes_length s.atCommands.dev c.toNat
  have hact : answer (s.atCommands.on handOver) (accIx h.path) (chanBytes (s.atCommands.on handOver).dev c.toNat) =
      .fin stSuccess (n + 64 * 256) (queryAnswered (s.atCommands.on handOver) (accIx h.path) n (chanBytes s.atCommands.dev c.toNat)) := by
    rw [Sys.on_dev, chanBytes_handOver, answer_hole hpath (by rw [Sys.on_dev, resultHole_handOver]; exact hn), hlen]
  generalize chanBytes s.atCommands.dev c.toNat = b at *
  have hph : (queryAnswered (s.atCommands.on handOver) (accIx h.path) n b).ph = Mem.put s.atCommands.ph (n * 4096) b := by
    rw [queryAnswered_ph, Sys.on_ph]
  have hdev : (queryAnswered (s.atCommands.on handOver) (accIx h.path) n b).dev = queryDone (handOver s.atCommands.dev) (accIx h.path) n 64 := by
    rw [queryAnswered_dev, hlen, Sys.on_dev]
  obtain ⟨t, he, hpd, ⟨hph, hst, hl, hk⟩, ha⟩ := completes_open (c := .queryChan h c)
    (P := fun y => y.ph = Mem.put s.atCommands.ph (n * 4096) b ∧ phState y.dev n = 3 ∧
      y.dev.rd HQ_PH_LEN n = 64 ∧ KeepsBut [(HQ_PH_STATE, n), (HQ_PH_HOLDER, n), (HQ_PH_LEN, n)] s.atCommands.dev y.dev) rfl ht hp
    (queryChan_cmd _ h c) ⟨by rw [descOp_descOf (by decide)]; decide, descOk_unit _ hl _, rfl,
      by rw [Sys.on_dev, chanOk, roleOf_handOver]; exact bne_iff_ne.mpr hr, by rw [descOp_descOf (by decide)]; decide, .inl rfl, hpath, rfl⟩
    hact (queryAnswered_bs ..) (fun q => by
      rw [hdev]
      exact ⟨hph, (withCpls_phState _ q n).trans (queryDone_state _ _ _ _),
        (withCpls_rd _ q _ n).trans (queryDone_len _ _ _ (by decide)),
        withCpls_keepsBut ((KeepsBut.refl _ s.atCommands.dev).handOver.trans (queryDone_keepsBut _ _ n _)) q⟩)
  exact ⟨t, he, hpd, hph, hst, hl, hk, ha⟩

/-- PH_COPY of a hole that its sender holds. -/
theorem phCopy_taken {n dir : Byte} {len : BitVec 16} {addr : Word64} (hl : h.lcl = false) (hdir : dir.toNat ≤ 1) (h1 : 1 ≤ len.toNat)
    (h4096 : len.toNat ≤ 4096) (h4 : addr.toNat % 4 = 0) (hok : holeOk s.atCommands.dev (accIx h.path) (n.toNat, 2) = true) :
    ∃ t : State, exec (.phCopy h n dir len addr) s = .next t ∧ t.pending = s.pending ∧ phState t.sys.dev n.toNat = 2 ∧
    t.sys.dev.host.copies = s.atCommands.dev.host.copies ++ [copyOpOf s.atCommands.dev h n.toNat dir.toNat len.toNat addr.toNat] ∧
    t.sys.dev.out = (if paceReady s.atCommands.dev (accIx h.path) then s.atCommands.dev.out ++
      [Emission.phCopy (accIx h.path) dir.toNat n.toNat addr.toNat len.toNat] else s.atCommands.dev.out) ∧
    t.sys.ph = s.atCommands.ph ∧ KeepsBut [(HQ_PH_STATE, n.toNat)] s.atCommands.dev t.sys.dev := by
  have hpath : accIx h.path < 3 := accIx_lt hp
  have harg : (decide (dir.toNat ≤ 1) && decide (1 ≤ len.toNat) && decide (len.toNat ≤ 4096) && decide (addr.toNat % 4 = 0) &&
      decide (accIx h.path < 3)) = true := by
    simp only [hdir, h1, h4096, h4, hpath, decide_true, Bool.and_self]
  obtain ⟨hbs, hst, hcopies, hout, hk⟩ := copyTaken_facts (handOver s.atCommands.dev) (accIx h.path)
    (copyOpOf s.atCommands.dev h n.toNat dir.toNat len.toNat addr.toNat)
  have hhole : holeOk (s.atCommands.on handOver).dev (srcOf [ctxOf (s.atCommands.on handOver).dev h]) (n.toNat, 2) = true := by
    show holeOk (handOver s.atCommands.dev) (accIx h.path) (n.toNat, 2) = true
    rw [holeOk_handOver]
    exact hok
  obtain ⟨t, he, hpd, hsys⟩ := completes_wait (c := .phCopy h n dir len addr) rfl ht (copy_cmd _ h n dir len addr)
    ⟨by rw [descOp_descOf (by decide)]; decide, descOk_copy hl _ _ _ _, harg, rfl, by rw [descOp_descOf (by decide)]; decide,
      .inr ⟨n.toNat, rfl, hhole⟩, Nat.ne_of_lt hpath, rfl⟩ rfl (fun d => (copyTaken_facts d _ _).1)
  refine ⟨t, he, hpd, ?_⟩
  rw [hsys, Sys.on_dev, Sys.on_dev, copyOp_handOver, Sys.on_ph]
  exact ⟨hst, hcopies, hout, rfl, (KeepsBut.refl _ _).handOver.trans hk⟩

end

/-- Settles O25: each check of R292 that fails answers its status, and the query commands and PH_COPY do what their rows do. -/
theorem hostQueriesAndRefusalsAnswer : Obligations.HostQueriesAndRefusalsAnswer := by
  unfold Obligations.HostQueriesAndRefusalsAnswer
  refine ⟨fun s h n v ht hp hbad => ?vset, fun s h n ht hp hl hn hc => ?railTarget, fun s h f ht hp hl hf hv => ?fuseTarget,
    fun s h f ht hp hl hf => ?fuseArg, fun s h r ht hp hl hr hm he => ?ring, fun s h n ht hp hm => ?halted, fun s h ht hp hl => ?nop,
    fun s h ofs cnt n ht hp hl h4 h1 h16 htop hall hn => ?query, fun s h ofs cnt ht hp hl h4 h1 h16 htop hall hn => ?queryBusy,
    fun s h ofs cnt ht hp hl hbad => ?queryArg, fun s h c n ht hp hl hr hn => ?chan, fun s h c ht hp hl hr => ?chanTarget,
    fun s h n dir len addr ht hp hl hdir h1 h4096 h4 hok => ?copy⟩
  case vset =>
    obtain ⟨x, hx, hargs⟩ := vset_cmd (s.atCommands.on handOver) h n v [ctxOf (s.atCommands.on handOver).dev h]
    obtain ⟨t, he, hpd, ⟨-, hk⟩, ha⟩ := completes_badArg (c := .railVset h n v) rfl ht hp (by decide) (.inl (by decide)) hx
      (hbad.imp (fun hl => descOk_local (by decide) (by decide) hl _ _) (fun hn => by rw [hargs]; exact decide_eq_false (Nat.not_lt.mpr hn)))
    exact ⟨t, he, hpd, hk, ha⟩
  case railTarget =>
    obtain ⟨x, hx, hused, hargs, htgt⟩ := railOn_cmd (s.atCommands.on handOver) h n [ctxOf (s.atCommands.on handOver).dev h]
    obtain ⟨t, he, hpd, ⟨-, hk⟩, ha⟩ := completes_badTarget (c := .railOn h n) rfl ht hp (by decide) (.inl (by decide)) hx
      (by rw [hused]; exact descOk_unit _ hl _) (by rw [hargs]; exact decide_eq_true hn)
      (by rw [htgt, Sys.on_dev, railOk_handOver, railOk, hc, Bool.and_false])
    exact ⟨t, he, hpd, hk, ha⟩
  case fuseTarget =>
    obtain ⟨x, hx, hused, hargs, htgt⟩ := fuseOn_cmd (s.atCommands.on handOver) h f [ctxOf (s.atCommands.on handOver).dev h]
    obtain ⟨t, he, hpd, ⟨-, hk⟩, ha⟩ := completes_badTarget (c := .fuseOn h f) rfl ht hp (by decide) (.inl (by decide)) hx
      (by rw [hused]; exact descOk_unit _ hl _) (by rw [hargs]; exact decide_eq_true hf)
      (by rw [htgt, Sys.on_dev, fuseOk_handOver, fuseOk, hv, Bool.and_false])
    exact ⟨t, he, hpd, hk, ha⟩
  case fuseArg =>
    obtain ⟨x, hx, hused, hargs, htgt⟩ := fuseOn_cmd (s.atCommands.on handOver) h f [ctxOf (s.atCommands.on handOver).dev h]
    obtain ⟨t, he, hpd, ⟨-, hk⟩, ha⟩ := completes_badArg (c := .fuseOn h f) rfl ht hp (by decide) (.inl (by decide)) hx
      (.inr (by rw [hargs]; exact decide_eq_false (Nat.not_lt.mpr hf)))
    exact ⟨t, he, hpd, hk, ha⟩
  case ring =>
    obtain ⟨x, hx, hused, hargs, htgt⟩ := ringReset_cmd (s.atCommands.on handOver) h r [ctxOf (s.atCommands.on handOver).dev h]
    obtain ⟨t, he', hpd, ⟨-, hk⟩, ha⟩ := completes_badTarget (c := .ringReset h r) rfl ht hp (by decide) (.inr hm) hx
      (by rw [hused]; exact descOk_unit _ hl _) (by rw [hargs]; exact decide_eq_true hr)
      (by rw [htgt, Sys.on_dev, ringOk_handOver, ringOk, he, Bool.and_false])
    exact ⟨t, he', hpd, hk, ha⟩
  case halted =>
    exact railOff_halted ht n hm
  case nop =>
    obtain ⟨t, he, hpd, hk, ha⟩ := completes_open (c := .nop h) (P := fun y => KeepsBut [] s.atCommands.dev y.dev) rfl ht hp rfl
      ⟨by rw [descOp_descOf (by decide)]; decide, descOk_none _ hl, rfl, rfl, by rw [descOp_descOf (by decide)]; decide, .inl rfl,
        Nat.ne_of_lt (accIx_lt hp), rfl⟩ rfl rfl (fun q => withCpls_keepsBut (KeepsBut.refl _ s.atCommands.dev).handOver q)
    exact ⟨t, he, hpd, hk, ha⟩
  case query =>
    have hok : queryRegOk s.atCommands.dev (accIx h.path) ofs.toNat cnt.toNat = true := by
      simp only [queryRegOk, hall, h4, h1, h16, htop, decide_true, Bool.and_self]
    exact queryReg_answers ht hp hl hok h16 hn
  case queryBusy =>
    have hok : queryRegOk s.atCommands.dev (accIx h.path) ofs.toNat cnt.toNat = true := by
      simp only [queryRegOk, hall, h4, h1, h16, htop, decide_true, Bool.and_self]
    exact queryReg_busy ht hp hl hok hn
  case queryArg =>
    have hno : queryRegOk s.atCommands.dev (accIx h.path) ofs.toNat cnt.toNat = false := by
      by_contra hne
      rw [Bool.not_eq_false] at hne
      simp only [queryRegOk, Bool.and_eq_true, decide_eq_true_eq] at hne
      obtain ⟨⟨⟨⟨ha, hb⟩, hc⟩, hd⟩, hall⟩ := hne
      rcases hbad with h0 | h0 | h0 | h0 | h0
      · exact h0 ha
      · rw [h0] at hb; exact absurd hb (by decide)
      · omega
      · omega
      · rw [hall] at h0; exact absurd h0 (by decide)
    exact queryReg_badArg ht hp hno
  case chan =>
    exact queryChan_answers ht hp hl hr hn
  case chanTarget =>
    obtain ⟨t, he, hpd, ⟨hph, hk⟩, ha⟩ := completes_badTarget (c := .queryChan h c) rfl ht hp (by decide) (.inl (by decide))
      (queryChan_cmd _ h c) (descOk_unit _ hl _) rfl (by rw [Sys.on_dev, chanOk, roleOf_handOver]; exact bne_eq_false_iff_eq.mpr hr)
    exact ⟨t, he, hpd, hph, hk, ha⟩
  case copy =>
    exact phCopy_taken ht hp hl hdir h1 h4096 h4 hok

end Sys2Proof.Machine
end

section
/-! PROOFS about start-up: the statement that fails (R235, R412). -/

namespace Sys2Proof.Machine
open R

/-- A tick whose commands have been handed over has no work before them. -/
theorem toDispatch_done {s : Sys} (h : s.dev.tb.stage ≠ 0) : toDispatch s = s := by
  have hclosed : ¬(s.dev.open_ && s.dev.tb.stage == 0) = true := by simp [h]
  exact if_neg hclosed

/-! ### A request of source 0 in a tick that has taken another (R235) -/

theorem seqRec_seq (d : Dev) (code s : Nat) (pay : List Nat) : (seqRec d code s pay).seq = d.seq :=
  joinEnt_seq d _

theorem seqRec_tb (d : Dev) (code s : Nat) (pay : List Nat) : (seqRec d code s pay).tb = d.tb :=
  d.recd_tb code 7 s pay

/-- It leaves REQ as it is, refused or not. -/
theorem seqRequest_taken {d : Dev} (on : Bool) (h : d.seq.reqAt = some d.cur) :
    (seqRequest d on 0).2.rd SQ_STATUS_REQ = d.rd SQ_STATUS_REQ := by
  have hrec : ∀ pay, (seqRec d 0x0900 (d.rd SQ_STATUS_STEP) pay).rd SQ_STATUS_REQ = d.rd SQ_STATUS_REQ :=
    fun pay => Dev.rd_recd d _ _ _ pay _ _ (by decide)
  have htaken : ∀ pay, (seqRec d 0x0900 (d.rd SQ_STATUS_STEP) pay).seq.reqAt
      = some (seqRec d 0x0900 (d.rd SQ_STATUS_STEP) pay).cur := by
    intro pay
    rw [seqRec_seq, h, Dev.cur, Dev.cur, seqRec_tb]
  unfold seqRequest
  dsimp only
  split
  · exact (Dev.rd_ev_ne _ _ _ (by decide)).trans (hrec _)
  · rw [if_pos ⟨rfl, htaken _⟩]
    exact hrec _

/-- So does the end of start-up in such a tick. -/
theorem startEnd_taken {d : Dev} (h : d.seq.reqAt = some d.cur) : (startEnd d).rd SQ_STATUS_REQ = d.rd SQ_STATUS_REQ := by
  have hown : ∀ t, ((d.freeNext.wr PM_STATUS_STATE 0 1).wr PM_TIME_START 0 t).rd SQ_STATUS_REQ = d.rd SQ_STATUS_REQ := by
    intro t
    rw [Dev.rd_wr_ne _ _ _ _ (by decide), Dev.rd_wr_ne _ _ _ _ (by decide)]
    rfl
  unfold startEnd
  dsimp only
  split
  · exact Eq.trans (seqRequest_taken true (by exact h)) (hown _)
  · exact hown _

theorem seqRequest_bs (d : Dev) (on : Bool) (src : Nat) : (seqRequest d on src).2.bs = d.bs := by
  have hrec : ∀ pay, (seqRec d 0x0900 (d.rd SQ_STATUS_STEP) pay).bs = d.bs := fun pay => Dev.recd_bs d _ _ _ pay
  unfold seqRequest
  dsimp only
  split
  · exact (Dev.ev_bs _ _ _).trans (hrec _)
  · split
    · exact hrec _
    · exact hrec _

theorem startEnd_bs (d : Dev) : (startEnd d).bs = d.bs := by
  unfold startEnd
  dsimp only
  split
  · exact seqRequest_bs _ true 0
  · rfl

/-! ### Such a tick -/

/-- A device in its start-up whose configuration sets SQ_CTRL.AUTO, in a tick that has taken another request. -/
def startTickDev : Dev :=
  { regs := [(SQ_CTRL_AUTO.id, [(0, 1)])], tb := { stage := 1 }, pw := { held := false, booted := true }, seq := { reqAt := some 0 } }

/-- The machine with that device. -/
def startTickTaken : State := { sys := { dev := startTickDev } }

theorem startTickTaken_atCommands : startTickTaken.atCommands.dev = startTickDev :=
  congrArg Sys.dev (toDispatch_done (s := startTickTaken.sys) (by decide))

theorem startTickTaken_judging : startTickTaken.judging :=
  ⟨rfl, by rw [startTickTaken_atCommands]; decide⟩

/-- Its start-up ends now. -/
theorem startTickTaken_due : startEndDue startTickTaken.atCommands.dev = true := by
  rw [startTickTaken_atCommands]
  decide

theorem startTickTaken_shed : (startEnd startTickTaken.atCommands.dev).bs.shedReq = 0 := by
  rw [startTickTaken_atCommands, startEnd_bs]
  rfl

/-- Refutes O48: the end of start-up does not always leave REQ set where AUTO asks for it. In a tick that has taken another
request the one of AUTO changes nothing (R235), so REQ keeps its 0. -/
theorem not_startsAndServiceBoots : ¬ Obligations.StartsAndServiceBoots := by
  unfold Obligations.StartsAndServiceBoots
  rintro ⟨-, -, hend, -⟩
  obtain ⟨t, ht, -, -, -, -, hreq⟩ := hend startTickTaken startTickTaken_judging startTickTaken_due
  obtain ⟨u, hu, -, hd⟩ := exec_judged (c := .startUpEnd) (f := startEnd) rfl startTickTaken_judging startTickTaken_due
    startTickTaken_shed
  rw [Host.Outcome.next.inj (ht.symm.trans hu), hd, startTickTaken_atCommands] at hreq
  have hset := hreq (by decide) (by decide) (by decide)
  rw [Dev.fl, startEnd_taken rfl] at hset
  exact absurd hset (by decide)

end Sys2Proof.Machine
end

section
/-! PROOFS about the host commands of the recorder: the statement that fails (R337). -/

namespace Sys2Proof.Machine
open R

/-- A device in service whose readout hole 48 is in PREP and held by PA, in a tick whose commands are being handed over. -/
def readoutDev : Dev := { regs := [(HQ_PH_STATE.id, [(48, 1)])], tb := { stage := 1 }, pw := { held := false } }

/-- The machine with that device. -/
def readoutState : State := { sys := { dev := readoutDev } }

theorem readoutState_atCommands : readoutState.atCommands.dev = readoutDev :=
  congrArg Sys.dev (toDispatch_done (s := readoutState.sys) (by decide))

theorem readoutState_turn : readoutState.turn := by
  refine ⟨rfl, ⟨rfl, ?_⟩, ?_, ?_⟩
  all_goals rw [readoutState_atCommands]
  · decide
  · rfl
  · decide

theorem a4_behind (op : Nat) (h : Sender) (i j k : Nat) (v : Word) :
    a4 (descOf op h [(16, [i, j, k]), (20, le 4 v.toNat)]) 20 = v.toNat := by
  have hv := v.isLt
  have hbytes : a4 (descOf op h [(16, [i, j, k]), (20, le 4 v.toNat)]) 20 = v.toNat / 256 ^ 0 % 256 % 256 + 256 *
    (v.toNat / 256 ^ 1 % 256 % 256 + 256 * (v.toNat / 256 ^ 2 % 256 % 256 + 256 * (v.toNat / 256 ^ 3 % 256 % 256 + 256 * 0))) := rfl
  omega

/-- An EV_READ that names a position of the registered region above 16,383 is BAD_ARG. -/
theorem evRead_behindRegion {s : State} {h : Sender} (n cnt : Byte) {st : Word} (ht : s.turn) (hp : h.path ≠ .sp)
    (hm : s.atCommands.dev.fl GL_STATUS_MHALT = false) (hst : 16384 ≤ st.toNat) :
    ∃ t : State, exec (.evRead h n 1 cnt st) s = .next t ∧ KeepsBut [] s.atCommands.dev t.sys.dev := by
  have hbad : ∀ u cs, (hcEvRead u (descOf 0x0180 h [(16, [n.toNat, (1 : Byte).toNat, cnt.toNat]), (20, le 4 st.toNat)]) cs).argOk
      = false := by
    intro u cs
    have hrg : a1 (descOf 0x0180 h [(16, [n.toNat, (1 : Byte).toNat, cnt.toNat]), (20, le 4 st.toNat)]) 17 = 1 := rfl
    have hpos : a4 (descOf 0x0180 h [(16, [n.toNat, (1 : Byte).toNat, cnt.toNat]), (20, le 4 st.toNat)]) 20 = st.toNat :=
      a4_behind 0x0180 h n.toNat 1 cnt.toNat st
    unfold hcEvRead
    dsimp only
    rw [hrg, hpos, decide_eq_false (by omega : ¬ st.toNat < 16384)]
    simp
  obtain ⟨t, he, -, ⟨-, hk⟩, -⟩ := completes_badArg (c := .evRead h n 1 cnt st) (mk := hcEvRead) rfl ht hp (by decide) (.inr hm) rfl
    (.inr (hbad _ _))
  exact ⟨t, he, hk⟩

/-- Refutes O36: EV_READ of the registered region from a position above 16,383 is BAD_ARG (R337), so its hole stays in PREP. -/
theorem not_recorderCommandsAct : ¬ Obligations.RecorderCommandsAct := by
  unfold Obligations.RecorderCommandsAct
  rintro ⟨hread, -⟩
  have hhalt : readoutState.atCommands.dev.fl GL_STATUS_MHALT = false := by rw [readoutState_atCommands]; rfl
  have hhole : holeOk readoutState.atCommands.dev (accIx .pa) ((48 : Byte).toNat, 1) = true := by rw [readoutState_atCommands]; decide
  have hdrop : bitOf readoutState.atCommands.dev.host.phDrop (48 : Byte).toNat = false := by rw [readoutState_atCommands]; decide
  obtain ⟨t, ht, -, -, hdone, -⟩ := hread readoutState paSender 48 1 1 16384 readoutState_turn (by decide) rfl hhalt (by decide)
    (by decide) (by decide) hhole hdrop
  obtain ⟨u, hu, hk⟩ := evRead_behindRegion 48 1 readoutState_turn (h := paSender) (st := 16384) (by decide) hhalt (by decide)
  have hprep : phState u.sys.dev 48 = 1 := by
    rw [phState, hk HQ_PH_STATE 48 nofun, readoutState_atCommands]
    decide
  rw [Host.Outcome.next.inj (ht.symm.trans hu)] at hdone
  exact absurd (hprep.symm.trans hdone) (by decide)

end Sys2Proof.Machine
end

section
/-! PROOFS about the USB service interface (R344, R402 to R405). -/

namespace Sys2Proof.Machine
open R

/-! ### What the requests do while the device is on the bus -/

/-- The sender that a command transfer names. -/
def usbCtx (b : List Nat) : HCtx :=
  { src := 3, seq := leAt b 4 4, tag := leAt b 8 4, irq := bitOf (b.getD 2 0) 0, lcl := descLocal b }

section
variable {d : Dev}

theorem usbCommand_free (hon : usbOn d = true) (hc : d.fl SP_STATUS_USBCFG = true) (hr : d.sp.resp = none) (hq : d.host.dq = [])
    (hv : d.up.verify = none) (hm : d.commit = none) (hcl : d.rcd.clr = none) (bytes : List Nat) :
    usbCommand d bytes = dispatchPush d (fit 64 bytes ++ bytes.drop 64) [usbCtx (fit 64 bytes ++ bytes.drop 64)] := by
  have hgo : (!usbOn d || !d.fl SP_STATUS_USBCFG || (d.sp.resp.isSome || d.host.dq.any (fun i => srcOf i.ctxs == 3)
      || d.up.verify.any (fun v => srcOf v.1 == 3) || d.commit.any (fun c => srcOf c.ctxs == 3)
      || d.rcd.clr.any (fun c => srcOf c.ctxs == 3))) = false := by
    simp [hon, hc, hr, hq, hv, hm, hcl]
  exact if_neg (by rw [hgo]; decide)

theorem usbCommand_busy (h : usbOn d = false ∨ d.fl SP_STATUS_USBCFG = false ∨ d.sp.resp.isSome = true) (bytes : List Nat) :
    usbCommand d bytes = d := by
  have hstop : (!usbOn d || !d.fl SP_STATUS_USBCFG || (d.sp.resp.isSome || d.host.dq.any (fun i => srcOf i.ctxs == 3)
      || d.up.verify.any (fun v => srcOf v.1 == 3) || d.commit.any (fun c => srcOf c.ctxs == 3)
      || d.rcd.clr.any (fun c => srcOf c.ctxs == 3))) = true := by
    rcases h with h | h | h <;> simp [h]
  exact if_pos hstop

theorem usbResponseRead_some {r : List Nat} (h : d.sp.resp = some r) :
    usbResponseRead d = { d.emit (.usb r) with sp := { d.sp with resp := none } } := by
  unfold usbResponseRead
  rw [h]

section
variable (hon : usbOn d = true)
include hon

theorem getState_on : getState d = d.emit (.usb ([d.rd SP_STATUS_LEVEL, d.rd SP_STATUS_SVCBOOT + 2 * d.rd UP_STATUS_BOOT]
    ++ le 2 (d.rd SP_SESS) ++ [d.rd NV_STATUS_KEYLOCK, 0, 0, 0])) := if_neg (by simp [hon])

theorem getNonce_on : getNonce d = { (d.emit (.usb (le 8 (d.freeV % 2 ^ 64)))).freeNext with
    sp := { d.sp with nonce := some (d.freeV % 2 ^ 64) } } := if_neg (by simp [hon])

theorem usbDeauth_on : usbDeauth d = sessionEnd d := if_pos hon

theorem usbStallIn_on : usbStallIn d = d.emit .usbStall := if_pos hon

theorem keyLock_taken (hl : d.fl NV_STATUS_KEYLOCK = false) (hr : d.pw.recovery = true) : keyLock d = d.wr NV_STATUS_KEYLOCK 0 1 := by
  simp [keyLock, hon, hl, hr]

theorem keyLock_refused (h : d.fl NV_STATUS_KEYLOCK = true ∨ d.pw.recovery = false) : keyLock d = d.emit .usbStall := by
  have hno : (d.fl NV_STATUS_KEYLOCK || !d.pw.recovery) = true := by rcases h with h | h <;> simp [h]
  unfold keyLock
  rw [if_neg (by simp [hon]), if_pos hno]

theorem usbStandard_config {v : Nat} (hv : v ≤ 1) : usbStandard d 9 v = (d.wr SP_STATUS_USBCFG 0 v).emit (.usb []) := by
  simp [usbStandard, hon, hv]

theorem usbStandard_noConfig {v : Nat} (hv : 1 < v) : usbStandard d 9 v = d.emit .usbStall := by
  simp [usbStandard, hon, Nat.not_le.mpr hv]

/-- Every other standard request is answered with one transfer. -/
theorem usbStandard_other {req : Nat} (h : req ≠ 9) (v : Nat) :
    ∃ e : Emission, usbStandard d req v = d.emit e ∨ usbStandard d req v = (d.emit e).freeNext := by
  unfold usbStandard
  rw [if_neg (by simp [hon]), if_neg h]
  split
  · exact ⟨_, .inl rfl⟩
  · split
    · exact ⟨_, .inl rfl⟩
    · exact ⟨_, .inr rfl⟩

end

end

/-! ### The session (R405) -/

theorem sessionEnd_bs (d : Dev) : (sessionEnd d).bs = d.bs := rfl

/-- The end of a session leaves no level and no time, and nothing else changes. -/
theorem sessionEnd_facts (d : Dev) : (sessionEnd d).rd SP_STATUS_LEVEL = 0 ∧ (sessionEnd d).rd SP_SESS = 0 ∧
    KeepsBut [(SP_STATUS_LEVEL, 0), (SP_SESS, 0)] d (sessionEnd d) := by
  have hsess : (sessionEnd d).rd SP_SESS = 0 := Dev.rd_wr ..
  have hlevel : (sessionEnd d).rd SP_STATUS_LEVEL = 0 :=
    (Dev.rd_wr_ne (d.wr SP_STATUS_LEVEL 0 0) _ _ _ (by decide)).trans (Dev.rd_wr ..)
  exact ⟨hlevel, hsess, ((KeepsBut.refl _ d).wr _ _ _ (by simp)).wr _ _ _ (by simp)⟩

/-- The device after an AUTH: the nonce is used up, and the token opens a session or the failure shows. -/
def authDone (d : Dev) (ok : Bool) (level time : Nat) : Dev :=
  let d := { d with sp := { d.sp with nonce := none } }
  let d :=
    if ok then
      let d := ((d.wr SP_STATUS_LEVEL 0 level).wr SP_SESS 0 time).ev SP_EVT_AUTH
      { d with sp := { d.sp with sessTick := 0 } }
    else d.ev SP_EVT_AUTHFAIL
  spRec d 0x0F07 []

theorem usbAuth_on {s : Sys} (hon : usbOn s.dev = true) (t : List Nat) :
    usbAuth s t = s.on (fun d => authDone d (sessionOk s t) (t.getD 1 0) (leAt t 2 2)) := if_neg (by simp [hon])

theorem spRec_rd (d : Dev) (code : Nat) (pay : List Nat) {r : Reg} (ix : Nat) (h : r.id ∉ recIds) :
    (spRec d code pay).rd r ix = d.rd r ix := Dev.rd_recd _ _ _ _ _ _ _ h

theorem authDone_refused (d : Dev) (level time : Nat) : (authDone d false level time).bs = d.bs ∧
    (authDone d false level time).sp.nonce = none ∧ (authDone d false level time).fl SP_EVT_AUTHFAIL = true ∧
    (authDone d false level time).rd SP_STATUS_LEVEL = d.rd SP_STATUS_LEVEL ∧ (authDone d false level time).rd SP_SESS = d.rd SP_SESS := by
  have heq : authDone d false level time = spRec (Dev.ev { d with sp := { d.sp with nonce := none } } SP_EVT_AUTHFAIL) 0x0F07 [] := rfl
  rw [heq]
  refine ⟨by simp [spRec], by simp [spRec], Dev.fl_ev_recd _ rfl (by decide) 0 _ _ _ _, ?_, ?_⟩
  · exact (spRec_rd _ _ _ 0 (by decide)).trans (Dev.rd_ev_ne _ _ _ (by decide))
  · exact (spRec_rd _ _ _ 0 (by decide)).trans (Dev.rd_ev_ne _ _ _ (by decide))

/-- The registers of a session that a token opens. -/
def sessionOpen (d : Dev) (level time : Nat) : Dev := (d.wr SP_STATUS_LEVEL 0 level).wr SP_SESS 0 time

theorem sessionOpen_rd (d : Dev) {level time : Nat} (hlevel : level < 4) (htime : time < 65536) :
    (sessionOpen d level time).rd SP_STATUS_LEVEL = level ∧ (sessionOpen d level time).rd SP_SESS = time :=
  ⟨(Dev.rd_wr_ne (d.wr SP_STATUS_LEVEL 0 level) _ _ _ (by decide)).trans ((Dev.rd_wr ..).trans (Nat.mod_eq_of_lt hlevel)),
    (Dev.rd_wr ..).trans (Nat.mod_eq_of_lt htime)⟩

theorem authDone_open (d : Dev) {level time : Nat} (hlevel : level < 4) (htime : time < 65536) :
    (authDone d true level time).bs = d.bs ∧ (authDone d true level time).sp.nonce = none ∧
    (authDone d true level time).fl SP_EVT_AUTH = true ∧ (authDone d true level time).rd SP_STATUS_LEVEL = level ∧
    (authDone d true level time).rd SP_SESS = time := by
  obtain ⟨hl, ht⟩ := sessionOpen_rd { d with sp := { d.sp with nonce := none } } hlevel htime
  unfold authDone
  dsimp only
  rw [if_pos rfl]
  refine ⟨by simp [spRec], by simp [spRec], ?_, ?_, ?_⟩
  · exact (congrArg (· != 0) (spRec_rd _ _ _ 0 (by decide))).trans (Dev.fl_ev _ _ 0 rfl)
  · exact (spRec_rd _ _ _ 0 (by decide)).trans ((Dev.rd_ev_ne _ _ _ (by decide)).trans hl)
  · exact (spRec_rd _ _ _ 0 (by decide)).trans ((Dev.rd_ev_ne _ _ _ (by decide)).trans ht)

/-- A token that passes names a level of R405. -/
theorem sessionOk_level {s : Sys} {t : List Nat} (h : sessionOk s t = true) : t.getD 1 0 < 4 := by
  unfold sessionOk at h
  simp only [Bool.and_eq_true, Bool.or_eq_true, beq_iff_eq] at h
  obtain ⟨⟨⟨⟨⟨-, hlevel⟩, -⟩, -⟩, -⟩, -⟩ := h
  omega

/-! ### Keys (R344, R404) -/

theorem keyWrite_taken {s : Sys} {k : Nat} (hon : usbOn s.dev = true) (hl : s.dev.fl NV_STATUS_KEYLOCK = false)
    (hr : s.dev.pw.recovery = true) (h1 : 1 ≤ k) (h3 : k ≤ 3) (key : List Nat) :
    keyWrite s k key = { s with nv := Mem.put s.nv (keyAddr k) (fit 64 key), dev := s.dev.wrBit NV_STATUS_KEYVALID 0 k true } := by
  simp [keyWrite, hon, hl, hr, h1, h3]

theorem keyWrite_refused {s : Sys} {k : Nat} (hon : usbOn s.dev = true)
    (h : s.dev.fl NV_STATUS_KEYLOCK = true ∨ s.dev.pw.recovery = false ∨ k = 0 ∨ 3 < k) (key : List Nat) :
    keyWrite s k key = s.on (·.emit .usbStall) := by
  have hno : (s.dev.fl NV_STATUS_KEYLOCK || !s.dev.pw.recovery || !(decide (1 ≤ k) && decide (k ≤ 3))) = true := by
    rcases h with h | h | h | h <;> simp [h]
  unfold keyWrite
  dsimp only
  rw [if_neg (by simp [hon]), if_pos hno]

/-! ### The statement -/

/-- A request on the bus that only emits. -/
theorem exec_emits {c : Instr} {s : State} {f : Dev → Dev} {e : Emission} (he : exec c s = sysRow (latched f) s) (hq : s.sys.dev.quiet)
    (hf : f s.sys.dev = s.sys.dev.emit e) : ∃ t : State, exec c s = .next t ∧ t.pending = s.pending ∧
      t.sys.dev.out = s.sys.dev.out ++ [e] ∧ KeepsBut [] s.sys.dev t.sys.dev := by
  obtain ⟨t, ht, hp, hd⟩ := exec_latched he hq.1 (by rw [hf]; exact hq.2)
  refine ⟨t, ht, hp, ?_⟩
  rw [hd, hf]
  exact ⟨rfl, (KeepsBut.refl _ s.sys.dev).emit _⟩

/-- Settles O45: each request from the equation of its function. -/
theorem usbServiceAnswers : Obligations.UsbServiceAnswers := by
  unfold Obligations.UsbServiceAnswers
  refine ⟨?command, ?busy, ?read, ?state, ?nonce, ?authFails, ?authOpens, ?deauth, ?cmdDeauth, ?expiry, ?keyTaken, ?keyRefused,
    ?lockTaken, ?lockRefused, ?stall, ?config, ?noConfig, ?other⟩
  case command =>
    intro s bs hq hon hc hr hdq hv hm hcl
    have heq := usbCommand_free hon hc hr hdq hv hm hcl (natBytes bs)
    obtain ⟨t, he, hp, hd⟩ := exec_latched (c := .usbCommand bs) (f := fun d => usbCommand d (natBytes bs)) rfl hq.1 (by rw [heq]; exact hq.2)
    refine ⟨t, he, hp, ?_⟩
    rw [hd, heq]
    refine ⟨?_, ?_, (KeepsBut.refl _ s.sys.dev).dispatchPush _ _⟩
    · simp [dispatchPush, dispIns, hdq, usbCtx, srcOf]
    · simp [dispatchPush, dispIns, hdq]
  case busy =>
    intro s bs hq hbusy
    have heq := usbCommand_busy hbusy (natBytes bs)
    obtain ⟨t, he, hp, hd⟩ := exec_latched (c := .usbCommand bs) (f := fun d => usbCommand d (natBytes bs)) rfl hq.1 (by rw [heq]; exact hq.2)
    rw [heq] at hd
    exact ⟨t, he, hp, by rw [hd], by rw [hd]; exact KeepsBut.refl _ _⟩
  case read =>
    intro s r hq hr
    have heq := usbResponseRead_some hr
    obtain ⟨t, he, hp, hd⟩ := exec_latched (c := .usbResponseRead) (f := usbResponseRead) rfl hq.1 (by rw [heq]; exact hq.2)
    refine ⟨t, he, hp, ?_⟩
    rw [hd, heq]
    exact ⟨rfl, rfl, KeepsBut.refl _ s.sys.dev⟩
  case state =>
    intro s hq hon
    exact exec_emits (f := getState) rfl hq (getState_on hon)
  case nonce =>
    intro s hq hon
    have heq := getNonce_on hon
    obtain ⟨t, he, hp, hd⟩ := exec_latched (c := .getNonce) (f := getNonce) rfl hq.1 (by rw [heq]; exact hq.2)
    refine ⟨t, he, hp, ?_⟩
    rw [hd, heq]
    exact ⟨rfl, rfl, KeepsBut.refl _ s.sys.dev⟩
  case authFails =>
    intro s x hq hon hok
    have heq := usbAuth_on hon (natBytes x)
    rw [hok] at heq
    obtain ⟨hbs, hnonce, hfail, hlevel, hsess⟩ := authDone_refused s.sys.dev ((natBytes x).getD 1 0) (leAt (natBytes x) 2 2)
    obtain ⟨t, he, hp, hd⟩ := exec_latchedS (c := .auth x) (f := fun s => usbAuth s (natBytes x)) rfl hq.1
      (by rw [heq, Sys.on_dev, hbs]; exact hq.2)
    refine ⟨t, he, hp, ?_⟩
    rw [hd, heq, Sys.on_dev]
    exact ⟨hnonce, hfail, hlevel, hsess, rfl⟩
  case authOpens =>
    intro s x hq hon hok
    have heq := usbAuth_on hon (natBytes x)
    rw [hok] at heq
    obtain ⟨hbs, hnonce, hauth, hlevel, hsess⟩ := authDone_open s.sys.dev (sessionOk_level hok) (leAt_lt (natBytes x) 2 2)
    obtain ⟨t, he, hp, hd⟩ := exec_latchedS (c := .auth x) (f := fun s => usbAuth s (natBytes x)) rfl hq.1
      (by rw [heq, Sys.on_dev, hbs]; exact hq.2)
    refine ⟨t, he, hp, ?_⟩
    rw [hd, heq, Sys.on_dev]
    exact ⟨hnonce, hauth, hlevel, hsess⟩
  case deauth =>
    intro s hq hon
    have heq := usbDeauth_on hon
    obtain ⟨t, he, hp, hd⟩ := exec_latched (c := .deauth) (f := usbDeauth) rfl hq.1 (by rw [heq]; exact hq.2)
    rw [heq] at hd
    exact ⟨t, he, hp, by rw [hd]; exact sessionEnd_facts _⟩
  case cmdDeauth =>
    intro s a ht ha hk
    obtain ⟨t, he, hp, hd⟩ := exec_wordCmd (c := .spCmdDeauth a) (f := sessionEnd) rfl ht ha hk
      (by rw [sessionEnd_bs, handOver_bs]; exact ht.2.1.2.2)
    obtain ⟨hlevel, hsess, hkeep⟩ := sessionEnd_facts (handOver s.atCommands.dev)
    exact ⟨t, he, hp, by rw [hd]; exact ⟨hlevel, hsess, fun r ix h => hkeep r ix h⟩⟩
  case expiry =>
    intro s hx hdue
    obtain ⟨t, he, hp, hd⟩ := exec_timed (c := .sessionExpiry) (f := sessionEnd) rfl hx hdue (by rw [sessionEnd_bs]; exact hx.2.2)
    exact ⟨t, he, hp, by rw [hd]; exact sessionEnd_facts _⟩
  case keyTaken =>
    intro s k key hq hon hl hr h1 h3
    have heq := keyWrite_taken hon hl hr h1 h3 (natBytes key)
    obtain ⟨t, he, hp, hd⟩ := exec_latchedS (c := .keyWrite k key) (f := fun s => keyWrite s k.toNat (natBytes key)) rfl hq.1
      (by rw [heq]; exact hq.2)
    refine ⟨t, he, hp, ?_⟩
    rw [hd, heq]
    exact ⟨rfl, Dev.bit_wrBit _ _ (show k.toNat < 4 by omega) _, (KeepsBut.refl _ s.sys.dev).wrBit _ _ _ _ (by simp)⟩
  case keyRefused =>
    intro s k key hq hon hno
    have heq := keyWrite_refused hon (hno.imp_right (Or.imp_right (Or.imp_left (congrArg BitVec.toNat)))) (natBytes key)
    obtain ⟨t, he, hp, hd⟩ := exec_latchedS (c := .keyWrite k key) (f := fun s => keyWrite s k.toNat (natBytes key)) rfl hq.1
      (by rw [heq]; exact hq.2)
    refine ⟨t, he, hp, ?_⟩
    rw [hd, heq]
    exact ⟨rfl, rfl, KeepsBut.refl _ s.sys.dev⟩
  case lockTaken =>
    intro s hq hon hl hr
    have heq := keyLock_taken hon hl hr
    obtain ⟨t, he, hp, hd⟩ := exec_latched (c := .keyLock) (f := keyLock) rfl hq.1 (by rw [heq]; exact hq.2)
    rw [heq] at hd
    refine ⟨t, he, hp, ?_⟩
    rw [hd]
    exact ⟨Dev.rd_wr .., (KeepsBut.refl _ s.sys.dev).wr _ _ _ (by simp)⟩
  case lockRefused =>
    intro s hq hon hno
    exact exec_emits (f := keyLock) rfl hq (keyLock_refused hon hno)
  case stall =>
    intro s hq hon
    exact exec_emits (f := usbStallIn) rfl hq (usbStallIn_on hon)
  case config =>
    intro s req v hq hon hreq hv
    subst hreq
    have heq := usbStandard_config hon hv
    obtain ⟨t, he, hp, hd⟩ := exec_latched (c := .usbStandardRequest 9 v) (f := fun d => usbStandard d 9 v.toNat) rfl hq.1
      (by rw [heq]; exact hq.2)
    refine ⟨t, he, hp, ?_⟩
    rw [hd, heq]
    exact ⟨(Dev.rd_wr s.sys.dev SP_STATUS_USBCFG 0 v.toNat).trans (Nat.mod_eq_of_lt (show v.toNat < 2 by omega)), rfl,
      ((KeepsBut.refl _ s.sys.dev).wr _ _ _ (by simp)).emit _⟩
  case noConfig =>
    intro s req v hq hon hreq hv
    subst hreq
    exact exec_emits (f := fun d => usbStandard d 9 v.toNat) rfl hq (usbStandard_noConfig hon hv)
  case other =>
    intro s req v hq hon hreq
    have hne : req.toNat ≠ 9 := fun h => hreq (BitVec.eq_of_toNat_eq h)
    obtain ⟨e, heq | heq⟩ := usbStandard_other hon hne v.toNat
    all_goals
      obtain ⟨t, he, hp, hd⟩ := exec_latched (c := .usbStandardRequest req v) (f := fun d => usbStandard d req.toNat v.toNat) rfl hq.1
        (by rw [heq]; exact hq.2)
      refine ⟨t, he, hp, ?_⟩
      rw [hd, heq]
      exact ⟨KeepsBut.refl _ s.sys.dev, List.length_append⟩

end Sys2Proof.Machine
end

section
/-! PROOFS about TWB: address phases, the page and the pointer (R365 to R367, R371). -/

namespace Sys2Proof.Machine
open R

/-! ### A bus error of TWB -/

/-- The fields that a bus error of TWB writes. -/
def twbErrFields : List (Reg × Nat) :=
  [(IN_BUSERR_TWB, 0), (IN_BUSERR_WIDTH, 0), (IN_BUSERR_LOC, 0), (IN_BUSERR_RSVBIT, 0), (IN_BUSERR_WRITE, 0), (IN_BUSERR_READ, 0),
   (IN_BERR_OFS_OFS, 0), (IN_BERR_OFS_ACC, 0), (IN_BERR_OFS_KIND, 0), (IN_BERR_OFS_WR, 0), (IN_BERR_CNT, 0)] ++ recFields

/-- Those of a word that is discarded in part. -/
def twbPartFields : List (Reg × Nat) :=
  [(TW_EVT_TWB_PARTIAL, 0)] ++ [(IN_BUSERR_TWB, 0), (IN_BUSERR_WIDTH, 0), (IN_BUSERR_LOC, 0), (IN_BUSERR_RSVBIT, 0),
   (IN_BUSERR_WRITE, 0), (IN_BUSERR_READ, 0), (IN_BERR_OFS_OFS, 0), (IN_BERR_OFS_ACC, 0), (IN_BERR_OFS_KIND, 0), (IN_BERR_OFS_WR, 0),
   (IN_BERR_CNT, 0)] ++ recFields

theorem twbPartFields_of_err : ∀ x ∈ twbErrFields, x ∈ twbPartFields := fun _ hx => List.mem_cons_of_mem _ hx

theorem busErrKindBit_twb (kind : Nat) : (busErrKindBit kind, 0) ∈ twbErrFields := by
  unfold busErrKindBit twbErrFields
  split
  · simp
  · split <;> simp

theorem busErrDirBit_twb (wr : Bool) : (busErrDirBit wr, 0) ∈ twbErrFields := by cases wr <;> simp [busErrDirBit, twbErrFields]

/-- A bus error of TWB writes no other field. -/
theorem KeepsBut.twbError {l : List (Reg × Nat)} {a b : Dev} (h : KeepsBut l a b) (ofs kind : Nat) (wr : Bool) (data : Nat)
    (m : ∀ x ∈ twbErrFields, x ∈ l) : KeepsBut l a (Sys2Proof.Machine.busError b 2 ofs kind wr data) := by
  have hrec : ∀ x ∈ recFields, x ∈ l := fun x hx => m x (List.mem_append_right _ hx)
  have hbits := ((h.ev (busErrAccBit 2) 0 (m _ (by simp [twbErrFields, busErrAccBit]))).ev _ 0 (m _ (busErrKindBit_twb kind))).ev _ 0
    (m _ (busErrDirBit_twb wr))
  have hlatch : KeepsBut l a (busErrLatch b 2 ofs kind wr) :=
    ((((hbits.wr IN_BERR_OFS_OFS 0 ofs (m _ (by simp [twbErrFields]))).wr IN_BERR_OFS_ACC 0 2
      (m _ (by simp [twbErrFields]))).wr IN_BERR_OFS_KIND 0 kind (m _ (by simp [twbErrFields]))).wrB IN_BERR_OFS_WR 0 wr
      (m _ (by simp [twbErrFields]))).inc IN_BERR_CNT 0 (m _ (by simp [twbErrFields]))
  exact (hlatch.recd _ _ _ _ hrec).of_regs (busError_regs (by decide) ..)

/-- It sets the bit of TWB. -/
theorem busError_twbBit (d : Dev) (ofs kind : Nat) (wr : Bool) (data : Nat) : (busError d 2 ofs kind wr data).fl IN_BUSERR_TWB = true := by
  have hk := busErrKindBit_id kind
  have hd := busErrDirBit_id wr
  have hid : IN_BUSERR_TWB.id = 923 := rfl
  have h := Dev.fl_ev d IN_BUSERR_TWB 0 rfl
  unfold Dev.fl at h ⊢
  rw [busError_rd (by decide) _ _ _ _ _ _ (by decide), busErrLatch_rd_bits _ _ _ _ _ (by decide),
    Dev.rd_ev_ne _ _ _ (by omega), Dev.rd_ev_ne _ _ _ (by omega)]
  exact h

theorem busError_rd_other (d : Dev) (ofs kind : Nat) (wr : Bool) (data : Nat) {r : Reg} (ix : Nat)
    (h : ∀ x ∈ twbErrFields, r.id ≠ x.1.id) : (busError d 2 ofs kind wr data).rd r ix = d.rd r ix :=
  ((KeepsBut.refl twbErrFields d).twbError ofs kind wr data (fun _ hx => hx)) r ix (fun x hx => .inl (h x hx))

@[simp] theorem busError_tw (d : Dev) (ofs kind : Nat) (wr : Bool) (data : Nat) : (busError d 2 ofs kind wr data).tw = d.tw := by
  rw [busError_eq (by decide)]
  simp [busErrLatch]

/-! ### The state of the transaction -/

theorem twbGo_bs (d : Dev) (st : Nat) : (twbGo d st).bs = d.bs := rfl
theorem twbGo_rd (d : Dev) (st : Nat) (r : Reg) (ix : Nat) : (twbGo d st).rd r ix = d.rd r ix := rfl
theorem twbGo_fl (d : Dev) (st : Nat) (r : Reg) (ix : Nat) : (twbGo d st).fl r ix = d.fl r ix := rfl
theorem KeepsBut.twbGo {l : List (Reg × Nat)} {a b : Dev} (h : KeepsBut l a b) (st : Nat) : KeepsBut l a (Sys2Proof.Machine.twbGo b st) := h

theorem twbNak_bs (d : Dev) : (twbNak d).bs = d.bs := by simp [twbNak]

/-- A byte that is not acknowledged is counted, with its event. -/
theorem twbNak_keepsBut (d : Dev) : KeepsBut [(TW_TWB_NAK, 0), (TW_EVT_TWB_NAK, 0)] d (twbNak d) :=
  (((KeepsBut.refl _ d).inc _ _ (by simp)).ev _ _ (by simp)).emit _

theorem twbNak_count (d : Dev) : (twbNak d).rd TW_TWB_NAK = incSat TW_TWB_NAK.w (d.rd TW_TWB_NAK) :=
  (Dev.rd_ev_ne _ _ _ (by decide)).trans ((Dev.rd_wr ..).trans (incSat_mod _ _))

theorem twbNak_ptr (d : Dev) : (twbNak d).rd TW_STATUS_TWB_PTR = d.rd TW_STATUS_TWB_PTR :=
  (twbNak_keepsBut d).rd_eq (by decide) 0

theorem twbAdvance_ptr (d : Dev) : (twbAdvance d).rd TW_STATUS_TWB_PTR = (d.rd TW_STATUS_TWB_PTR + 4) % 256 := Dev.rd_wr ..

theorem twbAdvance_keepsBut (d : Dev) : KeepsBut [(TW_STATUS_TWB_PTR, 0)] d (twbAdvance d) := (KeepsBut.refl _ d).wr _ _ _ (by simp)

/-! ### Address phases (R365, R373) -/

/-- What an address phase selects on a bus that is idle. -/
def twbSelect (d : Dev) (addr : Nat) (read : Bool) : Dev :=
  if addr = d.rd TW_TWB_ADDR then twbGo d (if read then 3 else 1)
  else if addr = d.rd TW_TWB_PADDR then twbGo d (if read then 6 else 4)
  else if addr = 0x0C ∧ read ∧ d.fl TW_STATUS_TWB_ALERT then twbGo d 7
  else twbNakAddr d

theorem twbEnd_idle {d : Dev} (h : d.tw.bus = 0) (part : Nat) : twbEnd d part = twbGo d 0 := by
  simp [twbEnd, twbDiscard, h]

/-- The device is awake, with no transaction on TWB. -/
structure TwbAwake (d : Dev) : Prop where
  asleep : d.pw.asleep = false
  waking : d.pw.waking = false
  held : d.pw.held = false
  entry : d.pw.entry = 0
  bus : d.tw.bus = 0

theorem twbAddress_awake {s : Sys} (h : TwbAwake s.dev) (addr : Nat) (read : Bool) (part : Nat) (m : Bool) (k : Nat) :
    twbAddress s addr read part m k = s.on (fun d => twbSelect (twbGo d 0) addr read) := by
  obtain ⟨hs, hw, hh, he, hb⟩ := h
  have hasleep : ¬(s.dev.pw.asleep || (s.dev.pw.waking && !wakeCompleteDue s.dev)) = true := by simp [hs, hw]
  have hheld : ¬s.dev.pw.held = true := by simp [hh]
  have hentry : ∀ own : Bool, ¬(own && (s.on fun d => twbEnd d part).dev.pw.entry != 0) = true := by
    intro own
    have hzero : (s.on fun d => twbEnd d part).dev.pw.entry = 0 := by
      rw [Sys.on_dev, twbEnd_idle hb]
      exact he
    rw [hzero]
    simp
  unfold twbAddress
  dsimp only
  rw [if_neg hasleep, if_neg hheld, if_neg (hentry _), Sys.on_on]
  exact congrArg (fun x => { s with dev := twbSelect x addr read }) (twbEnd_idle hb part)

theorem twbSelect_bs (d : Dev) (addr : Nat) (read : Bool) : (twbSelect d addr read).bs = d.bs := by
  unfold twbSelect
  (repeat' split) <;> rfl

/-- An address phase that an awake device meets on an idle bus. -/
theorem exec_twbAddress {s : State} (hq : s.sys.dev.quiet) (h : TwbAwake s.sys.dev) (x : BitVec 7) (rd m : Bool) (k : Word) :
    ∃ t : State, exec (.twbAddress x rd 0 m k) s = .next t ∧ t.pending = s.pending ∧
      t.sys.dev = twbSelect (twbGo s.sys.dev 0) x.toNat rd := by
  have hrow : exec (.twbAddress x rd 0 m k) s = sysRow (latchedS (fun s => twbAddress s x.toNat rd 0 m k.toNat)) s := by
    have hlive : twbPhase s.sys x.toNat rd 0 m k.toNat = latchedS (fun s => twbAddress s x.toNat rd 0 m k.toNat) s.sys := if_pos hq.1
    unfold sysRow
    rw [← hlive]
    rfl
  have heq := twbAddress_awake h x.toNat rd 0 m k.toNat
  obtain ⟨t, he, hp, hd⟩ := exec_latchedS hrow hq.1 (by rw [heq, Sys.on_dev, twbSelect_bs]; exact hq.2)
  exact ⟨t, he, hp, by rw [hd, heq]; rfl⟩

/-! ### The page and the pointer (R365, R366) -/

section
variable {d : Dev}

theorem twbPageWrite_first (h : d.tw.bus = 4) (b : Nat) : twbPageWrite d b = twbGo (d.wr TW_STATUS_TWB_PAGE 0 b) 5 := if_pos h

theorem twbPageWrite_again (h : d.tw.bus = 5) (b : Nat) : twbPageWrite d b = twbNak d := by simp [twbPageWrite, h]

theorem twbPointerWrite_word (h : d.tw.bus = 1) {b : Nat} (hb : b % 4 = 0) :
    twbPointerWrite d b = twbGo (d.wr TW_STATUS_TWB_PTR 0 b) 2 := by simp [twbPointerWrite, h, hb]

theorem twbPointerWrite_odd (h : d.tw.bus = 1) {b : Nat} (hb : b % 4 ≠ 0) : twbPointerWrite d b = twbGo (twbNak d) 0 := by
  simp [twbPointerWrite, h, hb]

/-! ### The end of a transaction (R367, R371) -/

theorem twbEnd_whole : twbEnd d 0 = twbGo (if d.tw.bus = 3 ∧ d.tw.sending = true then twbAdvance d else d) 0 := by
  simp [twbEnd, twbDiscard]

end

/-- The device after part of a word has been discarded. -/
def twbPartial (d : Dev) : Dev := (busError d 2 (twbOfs d) 1 true 0).ev TW_EVT_TWB_PARTIAL

theorem twbPartial_keepsBut (d : Dev) : KeepsBut (twbPartFields) d (twbPartial d) :=
  ((KeepsBut.refl _ d).twbError _ _ _ _ twbPartFields_of_err).ev _ _ (by simp [twbPartFields])

theorem twbPartial_facts (d : Dev) : (twbPartial d).bs = d.bs ∧ (twbPartial d).tw = d.tw ∧ (twbPartial d).fl TW_EVT_TWB_PARTIAL = true ∧
    (twbPartial d).fl IN_BUSERR_TWB = true ∧ (twbPartial d).fl IN_BUSERR_WIDTH = true ∧
    (twbPartial d).rd TW_STATUS_TWB_PTR = d.rd TW_STATUS_TWB_PTR := by
  have hev : ∀ {r : Reg}, r.id ≠ TW_EVT_TWB_PARTIAL.id → (twbPartial d).fl r = (busError d 2 (twbOfs d) 1 true 0).fl r := fun h =>
    congrArg (· != 0) (Dev.rd_ev_ne _ _ _ h)
  refine ⟨by simp [twbPartial], by simp [twbPartial], Dev.fl_ev _ _ 0 rfl, ?_, ?_, (twbPartial_keepsBut d).rd_eq (by decide) 0⟩
  · exact (hev (by decide)).trans (busError_twbBit ..)
  · exact (hev (by decide)).trans (busError_kindBit (kind := 1) (by decide) d (twbOfs d) true 0)

theorem twbDiscard_partial {d : Dev} {part : Nat} (h : d.tw.bus = 2 ∧ part ≠ 0) : twbDiscard d part = twbPartial d := if_pos h

theorem twbStop_partial {d : Dev} {part : Nat} (h : d.tw.bus = 2 ∧ part ≠ 0) : twbStop d part = twbGo (twbPartial d) 0 := by
  have hbus : (twbPartial d).tw.bus = 2 := by rw [(twbPartial_facts d).2.1]; exact h.1
  simp [twbStop, twbEnd, twbDiscard_partial h, hbus]

/-- An abort discards part of a word or leaves the registers, and ends the transaction. -/
theorem twbAbort_facts (d : Dev) (part : Nat) : (twbAbort d part).bs = d.bs ∧ (twbAbort d part).tw.bus = 0 ∧
    (twbAbort d part).rd TW_STATUS_TWB_PTR = d.rd TW_STATUS_TWB_PTR ∧
    KeepsBut (twbPartFields) d (twbAbort d part) := by
  have hdone : (twbDiscard d part).bs = d.bs ∧ (twbDiscard d part).rd TW_STATUS_TWB_PTR = d.rd TW_STATUS_TWB_PTR ∧
      KeepsBut (twbPartFields) d (twbDiscard d part) := by
    by_cases h : d.tw.bus = 2 ∧ part ≠ 0
    · obtain ⟨hbs, -, -, -, -, hptr⟩ := twbPartial_facts d
      rw [twbDiscard_partial h]
      exact ⟨hbs, hptr, twbPartial_keepsBut d⟩
    · have hnone : twbDiscard d part = d := if_neg h
      rw [hnone]
      exact ⟨rfl, rfl, KeepsBut.refl _ d⟩
  obtain ⟨hbs, hptr, hk⟩ := hdone
  unfold twbAbort
  exact ⟨(twbGo_bs _ _).trans hbs, rfl, (twbGo_rd _ _ _ _).trans hptr, hk.twbGo 0⟩

/-- A STOP inside a word. -/
theorem exec_twbStop_partial {s : State} {p : Fin 4} (hq : s.sys.dev.quiet) (hb : s.sys.dev.tw.bus = 2) (hpart : p.val ≠ 0) :
    ∃ t : State, exec (.twbStop p) s = .next t ∧ t.pending = s.pending ∧ t.sys.dev.tw.bus = 0 ∧ t.sys.dev.fl TW_EVT_TWB_PARTIAL = true ∧
      t.sys.dev.fl IN_BUSERR_TWB = true ∧ t.sys.dev.fl IN_BUSERR_WIDTH = true ∧
      t.sys.dev.rd TW_STATUS_TWB_PTR = s.sys.dev.rd TW_STATUS_TWB_PTR ∧ KeepsBut twbPartFields s.sys.dev t.sys.dev := by
  have heq := twbStop_partial ⟨hb, hpart⟩
  obtain ⟨hbs, -, hev, htwb, hwidth, hptr⟩ := twbPartial_facts s.sys.dev
  obtain ⟨t, he, hp, hd⟩ := exec_latched (c := .twbStop p) (f := fun d => twbStop d p.val) rfl hq.1
    (by rw [heq, twbGo_bs, hbs]; exact hq.2)
  rw [heq] at hd
  refine ⟨t, he, hp, ?_⟩
  rw [hd]
  exact ⟨rfl, (twbGo_fl _ _ _ _).trans hev, (twbGo_fl _ _ _ _).trans htwb, (twbGo_fl _ _ _ _).trans hwidth, (twbGo_rd _ _ _ _).trans hptr, (twbPartial_keepsBut _).twbGo 0⟩

/-- An abort of a transaction. -/
theorem exec_twbAbort {s : State} (hq : s.sys.dev.quiet) (p : Fin 4) : ∃ t : State, exec (.twbAbort p) s = .next t ∧
    t.pending = s.pending ∧ t.sys.dev.tw.bus = 0 ∧ t.sys.dev.rd TW_STATUS_TWB_PTR = s.sys.dev.rd TW_STATUS_TWB_PTR ∧
    KeepsBut twbPartFields s.sys.dev t.sys.dev := by
  obtain ⟨hbs, hbus, hptr, hk⟩ := twbAbort_facts s.sys.dev p.val
  obtain ⟨t, he, hp, hd⟩ := exec_latched (c := .twbAbort p) (f := fun d => twbAbort d p.val) rfl hq.1 (by rw [hbs]; exact hq.2)
  rw [← hd] at hbus hptr hk
  exact ⟨t, he, hp, hbus, hptr, hk⟩

/-- A second byte to the page address is not acknowledged. -/
theorem exec_twbPageWrite_again {s : State} (hq : s.sys.dev.quiet) (hb : s.sys.dev.tw.bus = 5) (y : Byte) :
    ∃ t : State, exec (.twbPageWrite y) s = .next t ∧ t.pending = s.pending ∧ t.sys.dev.out.getLast? = some .twbNak ∧
      t.sys.dev.rd TW_TWB_NAK = incSat TW_TWB_NAK.w (s.sys.dev.rd TW_TWB_NAK) ∧
      KeepsBut [(TW_TWB_NAK, 0), (TW_EVT_TWB_NAK, 0)] s.sys.dev t.sys.dev := by
  have heq := twbPageWrite_again hb y.toNat
  obtain ⟨t, he, hp, hd⟩ := exec_latched (c := .twbPageWrite y) (f := fun d => twbPageWrite d y.toNat) rfl hq.1
    (by rw [heq, twbNak_bs]; exact hq.2)
  refine ⟨t, he, hp, ?_⟩
  rw [hd, heq]
  exact ⟨Dev.emit_getLast? _ _, twbNak_count _, twbNak_keepsBut _⟩

/-- A pointer byte inside a word is not acknowledged. -/
theorem exec_twbPointerWrite_odd {s : State} {y : Byte} (hq : s.sys.dev.quiet) (hb : s.sys.dev.tw.bus = 1) (hy : y.toNat % 4 ≠ 0) :
    ∃ t : State, exec (.twbPointerWrite y) s = .next t ∧ t.pending = s.pending ∧
      t.sys.dev.rd TW_STATUS_TWB_PTR = s.sys.dev.rd TW_STATUS_TWB_PTR ∧ t.sys.dev.tw.bus = 0 ∧
      t.sys.dev.out.getLast? = some .twbNak ∧ KeepsBut [(TW_TWB_NAK, 0), (TW_EVT_TWB_NAK, 0)] s.sys.dev t.sys.dev := by
  have heq := twbPointerWrite_odd hb hy
  obtain ⟨t, he, hp, hd⟩ := exec_latched (c := .twbPointerWrite y) (f := fun d => twbPointerWrite d y.toNat) rfl hq.1
    (by rw [heq, twbGo_bs, twbNak_bs]; exact hq.2)
  refine ⟨t, he, hp, ?_⟩
  rw [hd, heq]
  have hout : (twbGo (twbNak s.sys.dev) 0).out.getLast? = some .twbNak := Dev.emit_getLast? ..
  exact ⟨(twbGo_rd ..).trans (twbNak_ptr _), rfl, hout, (twbNak_keepsBut _).twbGo 0⟩

/-- A STOP after whole words. -/
theorem exec_twbStop_whole {s : State} (hq : s.sys.dev.quiet) :
    ∃ t : State, exec (.twbStop 0) s = .next t ∧ t.pending = s.pending ∧ t.sys.dev.tw.bus = 0 ∧
      t.sys.dev.rd TW_STATUS_TWB_PTR = (if s.sys.dev.tw.bus = 3 ∧ s.sys.dev.tw.sending = true then
        (s.sys.dev.rd TW_STATUS_TWB_PTR + 4) % 256 else s.sys.dev.rd TW_STATUS_TWB_PTR) ∧
      KeepsBut [(TW_STATUS_TWB_PTR, 0)] s.sys.dev t.sys.dev := by
  by_cases hw : s.sys.dev.tw.bus = 3 ∧ s.sys.dev.tw.sending = true
  · have heq : twbStop s.sys.dev 0 = twbGo (twbAdvance s.sys.dev) 0 := by rw [twbStop, twbEnd_whole, if_pos hw]
    obtain ⟨t, he, hp, hd⟩ := exec_latched (c := .twbStop 0) (f := fun d => twbStop d 0) rfl hq.1 (by rw [heq]; exact hq.2)
    refine ⟨t, he, hp, ?_⟩
    rw [hd, heq, if_pos hw]
    exact ⟨rfl, twbAdvance_ptr _, twbAdvance_keepsBut _⟩
  · have heq : twbStop s.sys.dev 0 = twbGo s.sys.dev 0 := by rw [twbStop, twbEnd_whole, if_neg hw]
    obtain ⟨t, he, hp, hd⟩ := exec_latched (c := .twbStop 0) (f := fun d => twbStop d 0) rfl hq.1 (by rw [heq]; exact hq.2)
    refine ⟨t, he, hp, ?_⟩
    rw [hd, heq, if_neg hw]
    exact ⟨rfl, rfl, KeepsBut.refl _ s.sys.dev⟩

/-! ### The statement -/

/-- Settles O39: each clause from the equation of its function. -/
theorem twbAddressesAndPointers : Obligations.TwbAddressesAndPointers := by
  unfold Obligations.TwbAddressesAndPointers
  refine ⟨?register, ?page, ?noTarget, ?pageByte, ?pageAgain, ?pointer, ?pointerOdd, ?stop, ?stopPartial, ?abort⟩
  case register =>
    intro s x rd m k hq hs hw hh he hb hx
    obtain ⟨t, hex, hp, hd⟩ := exec_twbAddress hq ⟨hs, hw, hh, he, hb⟩ x rd m k
    have hsel : twbSelect (twbGo s.sys.dev 0) x.toNat rd = twbGo (twbGo s.sys.dev 0) (if rd then 3 else 1) := if_pos hx
    rw [hsel] at hd
    exact ⟨t, hex, hp, by rw [hd]; rfl, by rw [hd]; exact KeepsBut.refl _ s.sys.dev⟩
  case page =>
    intro s x rd m k hq hs hw hh he hb hx hne
    obtain ⟨t, hex, hp, hd⟩ := exec_twbAddress hq ⟨hs, hw, hh, he, hb⟩ x rd m k
    have hsel : twbSelect (twbGo s.sys.dev 0) x.toNat rd = twbGo (twbGo s.sys.dev 0) (if rd then 6 else 4) :=
      (if_neg hne).trans (if_pos hx)
    rw [hsel] at hd
    exact ⟨t, hex, hp, by rw [hd]; rfl, by rw [hd]; exact KeepsBut.refl _ s.sys.dev⟩
  case noTarget =>
    intro s x rd m k hq hs hw hh he hb hpage hreg hara
    obtain ⟨t, hex, hp, hd⟩ := exec_twbAddress hq ⟨hs, hw, hh, he, hb⟩ x rd m k
    have hno : ¬(x.toNat = 0x0C ∧ rd = true ∧ (twbGo s.sys.dev 0).fl TW_STATUS_TWB_ALERT = true) := by
      rintro ⟨h12, hrd, hal⟩
      rcases hara with h | h | h
      · exact h h12
      · exact absurd (h.symm.trans hrd) (by decide)
      · exact absurd (h.symm.trans hal) (by decide)
    have hsel : twbSelect (twbGo s.sys.dev 0) x.toNat rd = twbNakAddr (twbGo s.sys.dev 0) :=
      (if_neg hreg).trans ((if_neg hpage).trans (if_neg hno))
    rw [hsel] at hd
    exact ⟨t, hex, hp, by rw [hd]; rfl, by rw [hd]; exact Dev.emit_getLast? _ _, by rw [hd]; exact KeepsBut.refl _ s.sys.dev⟩
  case pageByte =>
    intro s y hq hb
    have heq := twbPageWrite_first hb y.toNat
    obtain ⟨t, he, hp, hd⟩ := exec_latched (c := .twbPageWrite y) (f := fun d => twbPageWrite d y.toNat) rfl hq.1 (by rw [heq]; exact hq.2)
    refine ⟨t, he, hp, ?_⟩
    rw [hd, heq]
    exact ⟨(Dev.rd_wr s.sys.dev TW_STATUS_TWB_PAGE 0 y.toNat).trans (Nat.mod_eq_of_lt y.isLt), rfl,
      (KeepsBut.refl _ s.sys.dev).wr _ _ _ (by simp)⟩
  case pageAgain => exact fun s y hq hb => exec_twbPageWrite_again hq hb y
  case pointer =>
    intro s y hq hb hy
    have heq := twbPointerWrite_word hb hy
    obtain ⟨t, he, hp, hd⟩ := exec_latched (c := .twbPointerWrite y) (f := fun d => twbPointerWrite d y.toNat) rfl hq.1
      (by rw [heq]; exact hq.2)
    refine ⟨t, he, hp, ?_⟩
    rw [hd, heq]
    exact ⟨(Dev.rd_wr s.sys.dev TW_STATUS_TWB_PTR 0 y.toNat).trans (Nat.mod_eq_of_lt y.isLt), rfl,
      (KeepsBut.refl _ s.sys.dev).wr _ _ _ (by simp)⟩
  case pointerOdd => exact fun s y hq hb hy => exec_twbPointerWrite_odd hq hb hy
  case stop => exact fun s hq => exec_twbStop_whole hq
  case stopPartial => exact fun s p hq hb hpart => exec_twbStop_partial hq hb hpart
  case abort => exact fun s p hq => exec_twbAbort hq p

end Sys2Proof.Machine
end

section
/-! PROOFS about TWB: words, hold timeouts and alert responses (R365, R367 to R369, R373). -/

namespace Sys2Proof.Machine
open R

/-! ### What is sent -/

theorem twbSend_eq (d : Dev) (l : List Nat) : twbSend d l = { d with out := d.out ++ l.map Emission.twb } := by
  unfold twbSend forL
  induction l generalizing d with
  | nil => simp
  | cons b l ih => rw [List.foldl_cons, ih]; simp [Dev.emit]

theorem twbSend_out (d : Dev) (l : List Nat) : (twbSend d l).out = d.out ++ l.map Emission.twb := by rw [twbSend_eq]
theorem twbSend_bs (d : Dev) (l : List Nat) : (twbSend d l).bs = d.bs := by rw [twbSend_eq]
theorem twbSend_tw (d : Dev) (l : List Nat) : (twbSend d l).tw = d.tw := by rw [twbSend_eq]
theorem twbSend_rd (d : Dev) (l : List Nat) (r : Reg) (ix : Nat) : (twbSend d l).rd r ix = d.rd r ix := by
  rw [twbSend_eq]
  rfl
theorem twbSend_fl (d : Dev) (l : List Nat) (r : Reg) (ix : Nat) : (twbSend d l).fl r ix = d.fl r ix :=
  congrArg (· != 0) (twbSend_rd d l r ix)
theorem KeepsBut.twbSend {l : List (Reg × Nat)} {a b : Dev} (h : KeepsBut l a b) (q : List Nat) :
    KeepsBut l a (Sys2Proof.Machine.twbSend b q) := h.of_regs (by rw [twbSend_eq])

/-- The four bytes of a word that does not exist are the last ones sent. -/
theorem twbSend_last (d : Dev) : (twbSend d [0, 0, 0, 0]).out.drop ((twbSend d [0, 0, 0, 0]).out.length - 4)
    = [Emission.twb 0, Emission.twb 0, Emission.twb 0, Emission.twb 0] := by
  rw [twbSend_out]
  simp

/-- The device with a word of a read under way. -/
def twbSending (d : Dev) : Dev := { d with tw := { d.tw with sending := true } }

theorem twbSending_eq (d : Dev) : twbSending d = aside 0 (fun w => { w with sending := true }) d := rfl
theorem twbSending_bs (d : Dev) : (twbSending d).bs = d.bs := rfl
theorem twbSending_rd (d : Dev) (r : Reg) (ix : Nat) : (twbSending d).rd r ix = d.rd r ix := rfl
theorem twbSending_fl (d : Dev) (r : Reg) (ix : Nat) : (twbSending d).fl r ix = d.fl r ix := rfl
theorem twbSending_bus (d : Dev) : (twbSending d).tw.bus = d.tw.bus := rfl
theorem twbSending_out (d : Dev) : (twbSending d).out = d.out := rfl
theorem twbSending_ofs (d : Dev) : twbOfs (twbSending d) = twbOfs d := rfl
theorem twbSending_there (d : Dev) (acc ofs : Nat) : wordThere (twbSending d) acc ofs = wordThere d acc ofs := rfl
theorem KeepsBut.twbSending {l : List (Reg × Nat)} {a b : Dev} (h : KeepsBut l a b) :
    KeepsBut l a (Sys2Proof.Machine.twbSending b) := h

/-! ### A word that is written (R367, R369) -/

/-- A word that is refused: its bus error, and a byte that is not acknowledged. -/
def twbRefused (d : Dev) (ofs kind data : Nat) : Dev := twbGo (twbNak (busError d 2 ofs kind true data)) 0

/-- The fields that it writes. -/
def twbRefusedFields : List (Reg × Nat) :=
  [(TW_TWB_NAK, 0), (TW_EVT_TWB_NAK, 0)] ++ [(IN_BUSERR_TWB, 0), (IN_BUSERR_WIDTH, 0), (IN_BUSERR_LOC, 0), (IN_BUSERR_RSVBIT, 0),
   (IN_BUSERR_WRITE, 0), (IN_BUSERR_READ, 0), (IN_BERR_OFS_OFS, 0), (IN_BERR_OFS_ACC, 0), (IN_BERR_OFS_KIND, 0), (IN_BERR_OFS_WR, 0),
   (IN_BERR_CNT, 0)] ++ recFields

theorem twbRefused_keepsBut (d : Dev) (ofs kind data : Nat) : KeepsBut twbRefusedFields d (twbRefused d ofs kind data) := by
  have herr : KeepsBut twbRefusedFields d (busError d 2 ofs kind true data) :=
    (KeepsBut.refl _ d).twbError _ _ _ _ (fun _ hx => List.mem_cons_of_mem _ (List.mem_cons_of_mem _ hx))
  have hnak : KeepsBut twbRefusedFields d (twbNak (busError d 2 ofs kind true data)) :=
    herr.trans ((twbNak_keepsBut _).mono (by simp [twbRefusedFields]))
  exact hnak.twbGo 0

theorem twbRefused_ptr (d : Dev) (ofs kind data : Nat) : (twbRefused d ofs kind data).rd TW_STATUS_TWB_PTR = d.rd TW_STATUS_TWB_PTR :=
  (twbRefused_keepsBut d ofs kind data).rd_eq (by decide) 0

theorem twbRefused_bs (d : Dev) (ofs kind data : Nat) : (twbRefused d ofs kind data).bs = d.bs :=
  (twbGo_bs _ _).trans ((twbNak_bs _).trans (busError_bs ..))

theorem twbRefused_last (d : Dev) (ofs kind data : Nat) : (twbRefused d ofs kind data).out.getLast? = some .twbNak := by
  unfold twbRefused twbNak
  generalize busError d 2 ofs kind true data = e
  exact Dev.emit_getLast? _ _

theorem twbRefused_rd (d : Dev) (ofs kind data : Nat) {r : Reg} (h : r.id ≠ TW_TWB_NAK.id ∧ r.id ≠ TW_EVT_TWB_NAK.id) :
    (twbRefused d ofs kind data).rd r = (busError d 2 ofs kind true data).rd r :=
  (twbGo_rd _ _ _ _).trans (twbNak_keepsBut _ r 0 (by simp [h]))

theorem twbRefused_bit (d : Dev) (ofs kind data : Nat) : (twbRefused d ofs kind data).fl IN_BUSERR_TWB = true :=
  (congrArg (· != 0) (twbRefused_rd d ofs kind data (by decide))).trans (busError_twbBit ..)

theorem writeKind_lt (d : Dev) (acc ofs v : Nat) : writeKind d acc ofs v < 4 := by
  unfold writeKind
  dsimp only
  split
  · decide
  · split
    · decide
    · split <;> split <;> decide

section
variable {d : Dev}

theorem twbWordWrite_taken (hb : d.tw.bus = 2) {w : Nat} (hk : writeKind d 2 (twbOfs d) w = 0) :
    twbWordWrite d w = twbAdvance (regWrite 2 (twbOfs d) w d) := by simp [twbWordWrite, hb, hk]

theorem regWrite_taken {acc ofs v : Nat} (ha : acc < 3) (hk : writeKind d acc ofs v = 0) : regWrite acc ofs v d = writeWord acc ofs v d := by
  unfold regWrite
  rw [if_neg (by omega)]
  exact if_pos hk

theorem regWrite_refused {acc ofs v : Nat} (ha : acc < 3) (hk : writeKind d acc ofs v ≠ 0) :
    regWrite acc ofs v d = busError d acc ofs (writeKind d acc ofs v) true v := by
  unfold regWrite
  rw [if_neg (by omega)]
  exact if_neg hk

theorem twbWordWrite_refused (hb : d.tw.bus = 2) {w : Nat} (hk : writeKind d 2 (twbOfs d) w ≠ 0) :
    twbWordWrite d w = twbRefused d (twbOfs d) (writeKind d 2 (twbOfs d) w) w := by
  unfold twbWordWrite
  rw [if_neg (by simp [hb]), if_neg hk, regWrite_refused (by decide) hk]
  rfl

/-! ### A word that is read (R367, R369) -/

theorem twbWordRead_reg {s : Sys} (hb : s.dev.tw.bus = 3) (hs : s.dev.tw.sending = false) :
    twbWordRead s = if wordThere s.dev 2 (twbOfs s.dev) then
        (readWord (s.on twbSending) 2 (twbOfs s.dev)).2.on (fun d => twbSend d (le 4 (readWord (s.on twbSending) 2 (twbOfs s.dev)).1))
      else (s.on twbSending).on (fun d => twbSend (busError d 2 (twbOfs s.dev) 2 false 0) [0, 0, 0, 0]) := by
  have hnext : (s.on fun d => { twbNext d with tw := { d.tw with sending := true } }) = s.on twbSending := by
    have hsame : twbNext s.dev = s.dev := if_neg (by simp [hs])
    simp only [Sys.on, hsame]
    rfl
  unfold twbWordRead
  rw [if_neg (by simp [hb]), if_neg (by simp [hb])]
  dsimp only
  rw [hnext, Sys.on_dev, twbSending_ofs, twbSending_there]

/-! ### A hold that times out (R368) -/

theorem twbHoldTimeout_write (hb : d.tw.bus = 2) (w : Nat) :
    twbHoldTimeout d true w = twbRefused d.freeNext (twbOfs d) (1 + d.freeV % 3) w := by
  unfold twbHoldTimeout
  dsimp only
  rw [if_pos rfl, if_neg (by simp [hb])]
  rfl

/-- The device after a read that timed out. -/
def twbReadLost (d : Dev) (kind : Nat) : Dev := twbSending (twbSend (busError d.freeNext 2 (twbOfs d) kind false 0) [0, 0, 0, 0])

theorem twbHoldTimeout_read (hb : d.tw.bus = 3) (w : Nat) : twbHoldTimeout d false w = twbReadLost (twbNext d) (1 + d.freeV % 3) := by
  unfold twbHoldTimeout
  dsimp only
  rw [if_neg (by decide), if_neg (by simp [hb])]
  rfl

/-! ### The alert response (R373) -/

theorem twbAlertResponse_own (hb : d.tw.bus = 7) {other : Nat} (h : 2 * d.rd TW_TWB_ADDR ≤ other) :
    twbAlertResponse d other = twbSend (twbGo (d.wr TW_STATUS_TWB_ALERT 0 0) 0) [2 * d.rd TW_TWB_ADDR] := by
  simp [twbAlertResponse, hb, Nat.not_lt.mpr h]

theorem twbAlertResponse_other (hb : d.tw.bus = 7) {other : Nat} (h : other < 2 * d.rd TW_TWB_ADDR) :
    twbAlertResponse d other = twbGo d 0 := by
  simp [twbAlertResponse, hb, h]

end

/-! ### The steps -/

/-- The fields that a read's bus error writes, with the pointer that moves past the word before it. -/
def twbReadLostFields : List (Reg × Nat) :=
  [(TW_STATUS_TWB_PTR, 0)] ++ [(IN_BUSERR_TWB, 0), (IN_BUSERR_WIDTH, 0), (IN_BUSERR_LOC, 0), (IN_BUSERR_RSVBIT, 0),
   (IN_BUSERR_WRITE, 0), (IN_BUSERR_READ, 0), (IN_BERR_OFS_OFS, 0), (IN_BERR_OFS_ACC, 0), (IN_BERR_OFS_KIND, 0), (IN_BERR_OFS_WR, 0),
   (IN_BERR_CNT, 0)] ++ recFields

theorem twbReadLost_facts (d : Dev) (kind : Nat) : (twbReadLost d kind).bs = d.bs ∧ (twbReadLost d kind).tw.bus = d.tw.bus ∧
    (twbReadLost d kind).tw.sending = true ∧ (twbReadLost d kind).fl IN_BUSERR_TWB = true ∧
    (twbReadLost d kind).out.drop ((twbReadLost d kind).out.length - 4)
      = [Emission.twb 0, Emission.twb 0, Emission.twb 0, Emission.twb 0] ∧
    KeepsBut twbReadLostFields d (twbReadLost d kind) := by
  have hbs : (busError d.freeNext 2 (twbOfs d) kind false 0).bs = d.bs := busError_bs ..
  have htw : (busError d.freeNext 2 (twbOfs d) kind false 0).tw = d.tw := busError_tw ..
  have hbit := busError_twbBit d.freeNext (twbOfs d) kind false 0
  have hk : KeepsBut twbReadLostFields d (busError d.freeNext 2 (twbOfs d) kind false 0) :=
    (KeepsBut.refl _ d).freeNext.twbError _ _ _ _ (fun _ hx => List.mem_cons_of_mem _ hx)
  unfold twbReadLost
  generalize busError d.freeNext 2 (twbOfs d) kind false 0 = e at hbs htw hbit hk
  rw [twbSending_bs, twbSend_bs, twbSending_fl, twbSend_fl, twbSending_out, twbSending_bus, twbSend_tw, htw]
  exact ⟨hbs, rfl, rfl, hbit, twbSend_last e, (hk.twbSend _).twbSending⟩

theorem twbNext_facts (d : Dev) : (twbNext d).bs = d.bs ∧ (twbNext d).tw = d.tw ∧ (twbNext d).freeCtr = d.freeCtr ∧
    KeepsBut twbReadLostFields d (twbNext d) := by
  unfold twbNext
  split
  · exact ⟨rfl, rfl, rfl, (twbAdvance_keepsBut d).mono (by simp [twbReadLostFields])⟩
  · exact ⟨rfl, rfl, rfl, KeepsBut.refl _ d⟩

section
variable {s : State} (hq : s.sys.dev.quiet)
include hq

theorem exec_twbWordWrite_refused (hb : s.sys.dev.tw.bus = 2) {w : Word} (hk : writeKind s.sys.dev 2 (twbOfs s.sys.dev) w.toNat ≠ 0) :
    ∃ t : State, exec (.twbWordWrite w) s = .next t ∧ t.pending = s.pending ∧ t.sys.dev =
      twbRefused s.sys.dev (twbOfs s.sys.dev) (writeKind s.sys.dev 2 (twbOfs s.sys.dev) w.toNat) w.toNat := by
  have heq := twbWordWrite_refused hb hk
  obtain ⟨t, he, hp, hd⟩ := exec_latched (c := .twbWordWrite w) (f := fun d => twbWordWrite d w.toNat) rfl hq.1
    (by rw [heq, twbRefused_bs]; exact hq.2)
  exact ⟨t, he, hp, hd.trans heq⟩

theorem exec_twbHoldTimeout_write (hb : s.sys.dev.tw.bus = 2) (w : Word) : ∃ t : State, exec (.twbHoldTimeout true w) s = .next t ∧
    t.pending = s.pending ∧ t.sys.dev = twbRefused s.sys.dev.freeNext (twbOfs s.sys.dev) (1 + s.sys.dev.freeV % 3) w.toNat := by
  have heq := twbHoldTimeout_write hb w.toNat
  obtain ⟨t, he, hp, hd⟩ := exec_latched (c := .twbHoldTimeout true w) (f := fun d => twbHoldTimeout d true w.toNat) rfl hq.1
    (by rw [heq, twbRefused_bs]; exact hq.2)
  exact ⟨t, he, hp, hd.trans heq⟩

/-- A word that exists: its value is that of a register read, and it is sent. -/
theorem exec_twbWordRead_there (hb : s.sys.dev.tw.bus = 3) (hs : s.sys.dev.tw.sending = false)
    (hw : wordThere s.sys.dev 2 (twbOfs s.sys.dev) = true) : ∃ t : State, exec .twbWordRead s = .next t ∧ t.pending = s.pending ∧
      t.sys.dev.tw.sending = true ∧
      t.sys.dev.out = s.sys.dev.out ++ (le 4 (readWord s.sys 2 (twbOfs s.sys.dev)).1).map Emission.twb := by
  have heq := twbWordRead_reg hb hs
  rw [if_pos hw, show s.sys.on twbSending = s.sys.on (aside 0 (fun w => { w with sending := true })) from rfl, readWord_aside] at heq
  have hleft := (readWord_left holes_standRead s.sys 2 (twbOfs s.sys.dev)).2
  generalize hread : readWord s.sys 2 (twbOfs s.sys.dev) = r at heq hleft
  have hbs : r.2.dev.bs = s.sys.dev.bs := congrArg (fun v => v.1) hleft
  have hout : r.2.dev.out = s.sys.dev.out := congrArg (fun v => v.2.2) hleft
  rw [Sys.on_on] at heq
  obtain ⟨t, he, hp, hd⟩ := exec_latchedS (c := .twbWordRead) (f := twbWordRead) rfl hq.1
    (by rw [heq, Sys.on_dev, twbSend_bs]; exact (congrArg ShelfSt.shedReq hbs).trans hq.2)
  rw [heq] at hd
  refine ⟨t, he, hp, ?_⟩
  rw [hd, Sys.on_dev, twbSend_tw, twbSend_out]
  exact ⟨rfl, congrArg (· ++ _) hout⟩

/-- One that does not exist: a bus error, and zeros. -/
theorem exec_twbWordRead_lost (hb : s.sys.dev.tw.bus = 3) (hs : s.sys.dev.tw.sending = false)
    (hw : wordThere s.sys.dev 2 (twbOfs s.sys.dev) = false) : ∃ t : State, exec .twbWordRead s = .next t ∧ t.pending = s.pending ∧
      t.sys.dev = twbSend (busError (twbSending s.sys.dev) 2 (twbOfs s.sys.dev) 2 false 0) [0, 0, 0, 0] := by
  have heq := twbWordRead_reg hb hs
  rw [if_neg (by simp [hw])] at heq
  obtain ⟨t, he, hp, hd⟩ := exec_latchedS (c := .twbWordRead) (f := twbWordRead) rfl hq.1
    (by rw [heq, Sys.on_dev, twbSend_bs, busError_bs, Sys.on_dev, twbSending_bs]; exact hq.2)
  exact ⟨t, he, hp, by rw [hd, heq, Sys.on_dev, Sys.on_dev]⟩

end

/-- Settles O40: each clause from the equation of its function. -/
theorem twbWordsAndAlerts : Obligations.TwbWordsAndAlerts := by
  unfold Obligations.TwbWordsAndAlerts
  refine ⟨?taken, ?refused, ?there, ?lost, ?writeTimeout, ?readTimeout, ?alertOwn, ?alertOther⟩
  case taken =>
    intro s w hq hb hk hs _ hshed
    have heq := twbWordWrite_taken hb hk
    obtain ⟨t, he, hp, hd⟩ := exec_latched (c := .twbWordWrite w) (f := fun d => twbWordWrite d w.toNat) rfl hq.1
      (by rw [heq]; exact hshed)
    rw [regWrite_taken (by decide) hk] at heq
    exact ⟨t, he, hp, hd.trans heq⟩
  case refused =>
    intro s w hq hb hk
    obtain ⟨t, he, hp, hd⟩ := exec_twbWordWrite_refused hq hb hk
    refine ⟨t, he, hp, ?_⟩
    rw [hd]
    exact ⟨rfl, twbRefused_last .., twbRefused_ptr .., (twbRefused_rd _ _ _ _ (by decide)).trans ((busError_kind (by decide) ..).trans
      (Nat.mod_eq_of_lt (writeKind_lt ..))), twbRefused_bit .., twbRefused_keepsBut _ _ _ _⟩
  case there =>
    intro s hq hb hs hw
    obtain ⟨t, he, hp, hsend, hout⟩ := exec_twbWordRead_there hq hb hs hw
    exact ⟨t, he, hp, hsend, by rw [hout, List.drop_left]⟩
  case lost =>
    intro s hq hb hs hw
    obtain ⟨t, he, hp, hd⟩ := exec_twbWordRead_lost hq hb hs hw
    refine ⟨t, he, hp, ?_⟩
    rw [hd, twbSend_tw, twbSend_fl, twbSend_fl, busError_tw]
    exact ⟨rfl, busError_twbBit .., busError_kindBit (kind := 2) (by decide) .., twbSend_last _,
      ((KeepsBut.refl twbErrFields s.sys.dev).twbSending.twbError _ _ _ _ (fun _ hx => hx)).twbSend _⟩
  case writeTimeout =>
    intro s w hq hb
    obtain ⟨t, he, hp, hd⟩ := exec_twbHoldTimeout_write hq hb w
    refine ⟨t, he, hp, ?_⟩
    rw [hd]
    exact ⟨rfl, twbRefused_last .., twbRefused_bit .., twbRefused_ptr .., (KeepsBut.refl _ _).freeNext.trans (twbRefused_keepsBut _ _ _ _)⟩
  case readTimeout =>
    intro s w hq hb
    have heq := twbHoldTimeout_read hb w.toNat
    obtain ⟨hbs, htw, -, hk⟩ := twbNext_facts s.sys.dev
    obtain ⟨hlbs, hlbus, hlsend, hltwb, hlout, hlk⟩ := twbReadLost_facts (twbNext s.sys.dev) (1 + s.sys.dev.freeV % 3)
    obtain ⟨t, he, hp, hd⟩ := exec_latched (c := .twbHoldTimeout false w) (f := fun d => twbHoldTimeout d false w.toNat) rfl hq.1
      (by rw [heq, hlbs, hbs]; exact hq.2)
    refine ⟨t, he, hp, ?_⟩
    rw [hd, heq]
    exact ⟨hlbus.trans (by rw [htw]; exact hb), hlsend, hltwb, hlout, hk.trans hlk⟩
  case alertOwn =>
    intro s y hq hb hy
    have heq := twbAlertResponse_own hb hy
    obtain ⟨t, he, hp, hd⟩ := exec_latched (c := .twbAlertResponse y) (f := fun d => twbAlertResponse d y.toNat) rfl hq.1
      (by rw [heq, twbSend_bs]; exact hq.2)
    refine ⟨t, he, hp, ?_⟩
    rw [hd, heq, twbSend_tw, twbSend_fl, twbSend_out]
    exact ⟨rfl, congrArg (· != 0) (Dev.rd_wr s.sys.dev TW_STATUS_TWB_ALERT 0 0), by simp,
      (((KeepsBut.refl _ s.sys.dev).wr _ _ _ (by simp)).twbGo 0).twbSend _⟩
  case alertOther =>
    intro s y hq hb hy
    have heq := twbAlertResponse_other hb hy
    obtain ⟨t, he, hp, hd⟩ := exec_latched (c := .twbAlertResponse y) (f := fun d => twbAlertResponse d y.toNat) rfl hq.1
      (by rw [heq]; exact hq.2)
    refine ⟨t, he, hp, ?_⟩
    rw [hd, heq]
    exact ⟨rfl, (KeepsBut.refl _ s.sys.dev).twbGo 0⟩

end Sys2Proof.Machine
end

section
/-! PROOFS about TWA: polls, their results and alerts (R375 to R379). -/

namespace Sys2Proof.Machine
open R

/-! ### A string that a poll locks out (R194, R378) -/

/-- The numbers of the fields that a lockout by a poll writes. -/
def pollLockIds : List Nat := [BS_STR_STATE.id, BS_EVT_STROPEN.id, BS_STATUS_NSTR.id, BS_STATUS_NLEG.id] ++ recIds

theorem strLockout_writes (d : Dev) (j pm : Nat) : WritesOnly pollLockIds d (strLockout d j pm) ∧ (strLockout d j pm).tw = d.tw := by
  unfold strLockout
  split
  · exact ⟨(((WritesOnly.refl _ d).wr (by simp) _ _).ev (by simp) _).recAt
      (List.subset_append_right _ _) _ _ _ _ _, by simp⟩
  · exact ⟨.refl _ d, rfl⟩

theorem twaLockout_writes (d : Dev) (i : Nat) : WritesOnly pollLockIds d (twaLockout d i) ∧ (twaLockout d i).tw = d.tw := by
  obtain ⟨hw, htw⟩ := strLockout_writes d (d.rd TW_POLL_STR i) d.curPm
  unfold twaLockout
  dsimp only
  split
  · exact ⟨(hw.wr (by simp [pollLockIds]) _ _).wr (by simp [pollLockIds]) _ _, htw⟩
  · exact ⟨.refl _ d, rfl⟩

/-! ### The end of a transfer (R376, R378) -/

/-- The device after a transfer has failed, before the failures in a row are judged. -/
def twaFailed (d : Dev) (i : Nat) : Dev :=
  let d := (twaOver d).ev TW_EVT_TWA_FAIL
  ({ d with tw := { d.tw with check := true } } : Dev).inc TW_POLL_CFAIL i

theorem twaFailed_facts (d : Dev) (i : Nat) : (twaFailed d i).bs = d.bs ∧ (twaFailed d i).tw.xfer = none ∧
    (twaFailed d i).fl TW_STATUS_TWA_BUSY = false ∧
    (twaFailed d i).rd TW_POLL_CFAIL i = incSat TW_POLL_CFAIL.w (d.rd TW_POLL_CFAIL i) ∧ (twaFailed d i).fl TW_EVT_TWA_FAIL = true ∧
    (twaFailed d i).rd TW_PRES_LO i = d.rd TW_PRES_LO i := by
  have hread : ∀ {r : Reg} (ix : Nat), r.id ≠ TW_POLL_CFAIL.id → (twaFailed d i).rd r ix = ((twaOver d).ev TW_EVT_TWA_FAIL).rd r ix :=
    fun ix h => Dev.rd_wr_ne _ _ _ _ h
  have hover : ∀ {r : Reg} (ix : Nat), r.id ≠ TW_STATUS_TWA_BUSY.id → (twaOver d).rd r ix = d.rd r ix := fun ix h => Dev.rd_wr_ne _ _ _ _ h
  refine ⟨by simp [twaFailed, twaOver], by simp [twaFailed, twaOver], ?_, ?_, ?_, ?_⟩
  · have hbusy : (twaOver d).rd TW_STATUS_TWA_BUSY = 0 := Dev.rd_wr d TW_STATUS_TWA_BUSY 0 0
    rw [Dev.fl, hread 0 (by decide), Dev.rd_ev_ne _ _ _ (by decide), hbusy]
    rfl
  · have hcount : ({ (twaOver d).ev TW_EVT_TWA_FAIL with tw := { ((twaOver d).ev TW_EVT_TWA_FAIL).tw with check := true } } : Dev).rd
        TW_POLL_CFAIL i = d.rd TW_POLL_CFAIL i := (Dev.rd_ev_ne _ _ _ (by decide)).trans (hover i (by decide))
    unfold twaFailed Dev.inc
    dsimp only
    rw [Dev.rd_wr, hcount]
    exact incSat_mod _ _
  · exact (congrArg (· != 0) (hread 0 (by decide))).trans (Dev.fl_ev _ _ 0 rfl)
  · exact (hread i (by decide)).trans ((Dev.rd_ev_ne _ _ _ (by decide)).trans (hover i (by decide)))

/-- The numbers of the fields that the judgement of the failures in a row writes. -/
def pollFailIds : List Nat := [TW_POLL_FAILED.id, TW_EVT_PFAIL.id] ++ pollLockIds

theorem twaFail_after (d : Dev) (i : Nat) : WritesOnly pollFailIds (twaFailed d i) (twaFail d i) ∧ (twaFail d i).tw = (twaFailed d i).tw := by
  have heq : twaFail d i = if (twaFailed d i).rd1 TW_TWA_CFG_NFAIL ≤ (twaFailed d i).rd TW_POLL_CFAIL i && !(twaFailed d i).fl TW_POLL_FAILED i
      then twaLockout (twaRec (((twaFailed d i).wr TW_POLL_FAILED i 1).ev TW_EVT_PFAIL)) i else twaFailed d i := rfl
  rw [heq]
  generalize twaFailed d i = e
  split
  · obtain ⟨hw, htw⟩ := twaLockout_writes (twaRec ((e.wr TW_POLL_FAILED i 1).ev TW_EVT_PFAIL)) i
    have hrec : WritesOnly pollFailIds e (twaRec ((e.wr TW_POLL_FAILED i 1).ev TW_EVT_PFAIL)) :=
      (((WritesOnly.refl _ e).wr (by simp) _ _).ev (by simp) _).recAt
        (fun x hx => List.mem_append_right _ (List.mem_append_right _ hx)) _ _ _ _ _
    exact ⟨hrec.trans (hw.mono (List.subset_append_right _ _)), htw.trans (by simp [twaRec])⟩
  · exact ⟨.refl _ e, rfl⟩

/-- What a transfer that fails leaves. -/
theorem twaFail_facts (d : Dev) (i : Nat) : (twaFail d i).bs = d.bs ∧ (twaFail d i).tw.xfer = none ∧
    (twaFail d i).fl TW_STATUS_TWA_BUSY = false ∧
    (twaFail d i).rd TW_POLL_CFAIL i = incSat TW_POLL_CFAIL.w (d.rd TW_POLL_CFAIL i) ∧ (twaFail d i).fl TW_EVT_TWA_FAIL = true ∧
    (twaFail d i).rd TW_PRES_LO i = d.rd TW_PRES_LO i := by
  obtain ⟨hw, htw⟩ := twaFail_after d i
  obtain ⟨hbs, hx, hbusy, hcount, hev, hres⟩ := twaFailed_facts d i
  exact ⟨hw.2.trans hbs, (congrArg TwSt.xfer htw).trans hx, (congrArg (· != 0) (hw.1 _ 0 (by decide))).trans hbusy,
    (hw.1 _ i (by decide)).trans hcount, (congrArg (· != 0) (hw.1 _ 0 (by decide))).trans hev, (hw.1 _ i (by decide)).trans hres⟩

/-- The device after a poll's bytes have been taken, before its limits are judged. -/
def twaTaken (d : Dev) (i : Nat) (b : List Nat) : Dev :=
  ((((twaOver d).wr TW_PRES_LO i (leAt b 0 4)).wr TW_PRES_HI i (leAt b 4 4)).wr TW_POLL_CFAIL i 0).wr TW_POLL_FAILED i 0

theorem twaTaken_facts (d : Dev) (i : Nat) (b : List Nat) : (twaTaken d i b).bs = d.bs ∧ (twaTaken d i b).tw.xfer = none ∧
    (twaTaken d i b).fl TW_STATUS_TWA_BUSY = false ∧ (twaTaken d i b).rd TW_PRES_LO i = leAt b 0 4 ∧
    (twaTaken d i b).rd TW_PRES_HI i = leAt b 4 4 ∧ (twaTaken d i b).rd TW_POLL_CFAIL i = 0 ∧
    (twaTaken d i b).fl TW_POLL_FAILED i = false := by
  unfold twaTaken
  refine ⟨rfl, rfl, ?_, ?_, ?_, ?_, ?_⟩
  · rw [Dev.fl, Dev.rd_wr_ne _ _ _ _ (by decide), Dev.rd_wr_ne _ _ _ _ (by decide), Dev.rd_wr_ne _ _ _ _ (by decide),
      Dev.rd_wr_ne _ _ _ _ (by decide)]
    exact congrArg (· != 0) (Dev.rd_wr d TW_STATUS_TWA_BUSY 0 0)
  · rw [Dev.rd_wr_ne _ _ _ _ (by decide), Dev.rd_wr_ne _ _ _ _ (by decide), Dev.rd_wr_ne _ _ _ _ (by decide), Dev.rd_wr]
    exact Nat.mod_eq_of_lt (leAt_four_lt b 0)
  · rw [Dev.rd_wr_ne _ _ _ _ (by decide), Dev.rd_wr_ne _ _ _ _ (by decide), Dev.rd_wr]
    exact Nat.mod_eq_of_lt (leAt_four_lt b 4)
  · rw [Dev.rd_wr_ne _ _ _ _ (by decide), Dev.rd_wr]
    rfl
  · exact congrArg (· != 0) (Dev.rd_wr ..)

/-- The numbers of the fields that the judgement of the limits writes. -/
def pollLimitIds : List Nat := [TW_POLL_BREACH.id, TW_EVT_BREACH.id] ++ pollLockIds

theorem twaOk_after (d : Dev) (i : Nat) (bytes : List Nat) :
    WritesOnly pollLimitIds (twaTaken d i (fit 8 (fit (d.rd TW_POLL_LEN i) bytes))) (twaOk d i bytes) ∧
    (twaOk d i bytes).tw = (twaTaken d i (fit 8 (fit (d.rd TW_POLL_LEN i) bytes))).tw := by
  unfold twaOk
  extract_lets b base e num v was e'
  have hbase : twaTaken d i b = e := rfl
  have hshown : e' = (e.wr TW_POLL_BREACH i 1).ev TW_EVT_BREACH := rfl
  rw [hbase]
  clear_value e' e
  subst hshown
  split
  · exact ⟨.refl _ e, rfl⟩
  · split
    · have hbreach : WritesOnly pollLimitIds e ((e.wr TW_POLL_BREACH i 1).ev TW_EVT_BREACH) := ((WritesOnly.refl _ e).wr (by simp [pollLimitIds]) _ _).ev (by simp [pollLimitIds]) _
      have htw : ((e.wr TW_POLL_BREACH i 1).ev TW_EVT_BREACH).tw = e.tw := Dev.ev_tw ..
      split
      · exact ⟨hbreach, htw⟩
      · obtain ⟨hlock, hlocktw⟩ := twaLockout_writes ((e.wr TW_POLL_BREACH i 1).ev TW_EVT_BREACH) i
        exact ⟨hbreach.trans (hlock.mono (List.subset_append_right _ _)), hlocktw.trans htw⟩
    · exact ⟨(WritesOnly.refl _ e).wr (by simp [pollLimitIds]) _ _, rfl⟩

/-- What a poll that succeeds leaves. -/
theorem twaOk_facts (d : Dev) (i : Nat) (bytes : List Nat) : (twaOk d i bytes).bs = d.bs ∧ (twaOk d i bytes).tw.xfer = none ∧
    (twaOk d i bytes).fl TW_STATUS_TWA_BUSY = false ∧
    (twaOk d i bytes).rd TW_PRES_LO i = leAt (fit 8 (fit (d.rd TW_POLL_LEN i) bytes)) 0 4 ∧
    (twaOk d i bytes).rd TW_PRES_HI i = leAt (fit 8 (fit (d.rd TW_POLL_LEN i) bytes)) 4 4 ∧
    (twaOk d i bytes).rd TW_POLL_CFAIL i = 0 ∧ (twaOk d i bytes).fl TW_POLL_FAILED i = false := by
  obtain ⟨hw, htw⟩ := twaOk_after d i bytes
  obtain ⟨hbs, hx, hbusy, hlo, hhi, hcount, hfailed⟩ := twaTaken_facts d i (fit 8 (fit (d.rd TW_POLL_LEN i) bytes))
  exact ⟨hw.2.trans hbs, (congrArg TwSt.xfer htw).trans hx, (congrArg (· != 0) (hw.1 _ 0 (by decide))).trans hbusy,
    (hw.1 _ i (by decide)).trans hlo, (hw.1 _ i (by decide)).trans hhi, (hw.1 _ i (by decide)).trans hcount,
    (congrArg (· != 0) (hw.1 _ i (by decide))).trans hfailed⟩

/-! ### Retries (R375, R376) -/

/-- The transfer in progress goes on the bus again, as `x`. -/
def twaAgain (d : Dev) (x : TwaXfer) : Dev := twaSend { d with tw := { d.tw with xfer := some x } } x.entry

section
variable {d : Dev} {x : TwaXfer} (h : d.tw.xfer = some x)
include h

theorem twaResult_ok (bytes : List Byte) : twaResult d (.ok bytes) = twaOk d x.entry (natBytes bytes) := by
  unfold twaResult
  rw [h]

theorem twaResult_nak : twaResult d .nak = twaFail d x.entry := by
  unfold twaResult
  rw [h]

theorem twaResult_arbLost (ha : x.arb + 1 < d.rd1 TW_TWA_CFG_NARB) :
    twaResult d .arbLost = twaAgain ((d.inc TW_TWA_ARB).ev TW_EVT_ARBLOST) { x with arb := x.arb + 1 } := by
  have hnarb : ((d.inc TW_TWA_ARB).ev TW_EVT_ARBLOST).rd1 TW_TWA_CFG_NARB = d.rd1 TW_TWA_CFG_NARB :=
    congrArg act1 ((Dev.rd_ev_ne _ _ _ (by decide)).trans (Dev.rd_wr_ne _ _ _ _ (by decide)))
  unfold twaResult
  rw [h]
  dsimp only
  rw [hnarb, if_neg (by omega)]
  rfl

theorem twaProto_first (hr : x.retried = false) :
    twaProto d = twaAgain (twaRec ((d.inc TW_TWA_ERR).ev TW_EVT_TWA_PROTO)) { x with retried := true } := by
  unfold twaProto
  rw [h]
  dsimp only
  rw [hr, if_neg (by decide)]
  rfl

theorem twaProto_again (hr : x.retried = true) : twaProto d = twaFail (twaRec ((d.inc TW_TWA_ERR).ev TW_EVT_TWA_PROTO)) x.entry := by
  unfold twaProto
  rw [h]
  dsimp only
  rw [hr, if_pos rfl]

theorem twaSclTimeout_some : twaSclTimeout d = twaRec (twaFail d x.entry) := by
  unfold twaSclTimeout
  rw [h]

end

/-- A failed transfer keeps an event that stood. -/
theorem twaFail_proto (d : Dev) (i : Nat) : (twaFail d i).fl TW_EVT_TWA_PROTO = d.fl TW_EVT_TWA_PROTO := by
  have hfailed : (twaFailed d i).rd TW_EVT_TWA_PROTO = d.rd TW_EVT_TWA_PROTO :=
    (Dev.rd_wr_ne _ _ _ _ (by decide)).trans ((Dev.rd_ev_ne _ _ _ (by decide)).trans (Dev.rd_wr_ne _ _ _ _ (by decide)))
  exact congrArg (· != 0) (((twaFail_after d i).1.1 _ 0 (by decide)).trans hfailed)

/-- The device after a protocol error has been shown. -/
def twaProtoShown (d : Dev) : Dev := twaRec ((d.inc TW_TWA_ERR).ev TW_EVT_TWA_PROTO)

theorem twaProtoShown_facts (d : Dev) : (twaProtoShown d).bs = d.bs ∧ (twaProtoShown d).fl TW_EVT_TWA_PROTO = true ∧
    KeepsBut ([(TW_TWA_ERR, 0), (TW_EVT_TWA_PROTO, 0)] ++ recFields) d (twaProtoShown d) :=
  ⟨by simp [twaProtoShown, twaRec], Dev.fl_ev_recd _ rfl (by decide) 0 _ _ _ _,
    (((KeepsBut.refl _ d).inc _ _ (by simp)).ev _ _ (by simp)).recd _ _ _ _ (fun _ hx => List.mem_append_right _ hx)⟩

/-! ### Polls and alerts that go on the bus (R377 to R379) -/

theorem twaCheck_facts (d : Dev) (sda : Bool) : (twaCheck d sda).regs = d.regs ∧ (twaCheck d sda).bs = d.bs ∧
    (twaCheck d sda).tw.now = d.tw.now := by
  unfold twaCheck
  dsimp only
  split <;> exact ⟨rfl, rfl, rfl⟩

/-- The bookkeeping of a poll that starts, but for the bus. -/
def pollStarted (d : Dev) (i next : Nat) : Dev :=
  { d with tw := { d.tw with xfer := some { entry := i }
                             last := if d.tw.now.contains i then d.tw.last else Tbl.set 0 d.tw.last i next
                             now := d.tw.now.filter (fun x => x != i) } }

theorem twaPoll_due {d : Dev} {i : Nat} (h : pollDue d i = true) (sda : Bool) :
    ∃ next, twaPoll d i sda = twaSend ((pollStarted (twaCheck d sda) i next).wr TW_STATUS_TWA_BUSY 0 1) i :=
  ⟨_, if_neg (by simp [h])⟩

/-- The device after an alert read that `answer` answers. -/
def alertRead (d : Dev) (sda : Bool) : Dev :=
  let d := twaCheck d sda
  ({ d with tw := { d.tw with araAt := some d.tb.now } } : Dev).emit (.twa 0x0C 0 1)

theorem alertRead_facts (d : Dev) (sda : Bool) : (alertRead d sda).regs = d.regs ∧ (alertRead d sda).bs = d.bs ∧
    (alertRead d sda).tw.now = d.tw.now := twaCheck_facts d sda

/-- The device after an alert's target has been named. -/
def alertNamed (d : Dev) (a : Nat) : Dev := ((d.wr TW_TALERT_ADDR 0 a).wr TW_TALERT_VALID 0 1).ev TW_EVT_TALERT

theorem alertNamed_facts (d : Dev) {a : Nat} (ha : a < 128) : (alertNamed d a).bs = d.bs ∧ (alertNamed d a).rd TW_TALERT_ADDR = a ∧
    (alertNamed d a).fl TW_TALERT_VALID = true ∧ (alertNamed d a).fl TW_EVT_TALERT = true ∧
    KeepsBut [(TW_TALERT_ADDR, 0), (TW_TALERT_VALID, 0), (TW_EVT_TALERT, 0)] d (alertNamed d a) := by
  refine ⟨by simp [alertNamed], ?_, ?_, Dev.fl_ev _ _ 0 rfl, (((KeepsBut.refl _ d).wr _ _ _ (by simp)).wr _ _ _ (by simp)).ev _ _ (by simp)⟩
  · exact (Dev.rd_ev_ne _ _ _ (by decide)).trans ((Dev.rd_wr_ne _ _ _ _ (by decide)).trans ((Dev.rd_wr ..).trans (Nat.mod_eq_of_lt ha)))
  · exact (congrArg (· != 0) (Dev.rd_ev_ne _ _ _ (by decide))).trans (congrArg (· != 0) (Dev.rd_wr ..))

theorem twaAlert_named {d : Dev} (h : twaAlertDue d = true) (a : Nat) (sda : Bool) : twaAlert d (some a) sda =
    { alertNamed (alertRead d sda) a with tw := { (alertNamed (alertRead d sda) a).tw with
        now := (List.range 16).filter (fun i => (alertNamed (alertRead d sda) a).fl TW_POLL_EN i
          && (alertNamed (alertRead d sda) a).rd TW_POLL_ADDR i == a) } } := if_neg (by simp [h])

theorem twaAlert_none {d : Dev} (h : twaAlertDue d = true) (sda : Bool) : twaAlert d none sda = alertRead d sda := if_neg (by simp [h])

/-! ### The statement -/

theorem exec_twaPoll {s : State} {i : Fin 16} (hx : s.expiring) (hdue : pollDue s.atTimers.dev i.val = true) (low : Bool) :
    ∃ t : State, exec (.twaPoll i low) s = .next t ∧ t.pending = s.pending ∧ t.sys.dev.tw.xfer = some { entry := i.val } ∧
      t.sys.dev.fl TW_STATUS_TWA_BUSY = true ∧ t.sys.dev.out.getLast? = some (.twa (s.atTimers.dev.rd TW_POLL_ADDR i.val)
      (s.atTimers.dev.rd TW_POLL_PTR i.val) (s.atTimers.dev.rd TW_POLL_LEN i.val)) ∧
      KeepsBut [(TW_STATUS_TWA_BUSY, 0)] s.atTimers.dev t.sys.dev := by
  obtain ⟨next, heq⟩ := twaPoll_due hdue low
  obtain ⟨hregs, hbs, -⟩ := twaCheck_facts s.atTimers.dev low
  have hshed : ((pollStarted (twaCheck s.atTimers.dev low) i.val next).wr TW_STATUS_TWA_BUSY 0 1).bs.shedReq = 0 :=
    (congrArg ShelfSt.shedReq hbs).trans hx.2.2
  have hk : KeepsBut [(TW_STATUS_TWA_BUSY, 0)] s.atTimers.dev
      ((pollStarted (twaCheck s.atTimers.dev low) i.val next).wr TW_STATUS_TWA_BUSY 0 1) :=
    ((KeepsBut.refl _ _).of_regs hregs).wr _ _ _ (by simp)
  have hbusy := congrArg (· != 0) (Dev.rd_wr (pollStarted (twaCheck s.atTimers.dev low) i.val next) TW_STATUS_TWA_BUSY 0 1)
  have hxfer : ((pollStarted (twaCheck s.atTimers.dev low) i.val next).wr TW_STATUS_TWA_BUSY 0 1).tw.xfer = some { entry := i.val } := rfl
  generalize (pollStarted (twaCheck s.atTimers.dev low) i.val next).wr TW_STATUS_TWA_BUSY 0 1 = e at heq hshed hk hbusy hxfer
  obtain ⟨t, he, hp, hd⟩ := exec_timed (c := .twaPoll i low) (f := fun d => twaPoll d i.val low) rfl hx hdue (by rw [heq]; exact hshed)
  refine ⟨t, he, hp, ?_⟩
  rw [hd, heq, ← hk.rd_eq (by decide) i.val, ← hk.rd_eq (by decide) i.val, ← hk.rd_eq (by decide) i.val]
  exact ⟨hxfer, hbusy, Dev.emit_getLast? _ _, hk.emit _⟩

section
variable {s : State} {x : TwaXfer} (hq : s.sys.dev.quiet) (hx : s.sys.dev.tw.xfer = some x)
include hq hx

theorem exec_twaArbLost (ha : x.arb + 1 < s.sys.dev.rd1 TW_TWA_CFG_NARB) : ∃ t : State, exec (.twaPollResult .arbLost) s = .next t ∧
    t.pending = s.pending ∧ t.sys.dev.tw.xfer = some { x with arb := x.arb + 1 } ∧ t.sys.dev.fl TW_EVT_ARBLOST = true ∧
    t.sys.dev.rd TW_TWA_ARB = incSat TW_TWA_ARB.w (s.sys.dev.rd TW_TWA_ARB) ∧
    KeepsBut [(TW_TWA_ARB, 0), (TW_EVT_ARBLOST, 0)] s.sys.dev t.sys.dev := by
  have heq := twaResult_arbLost hx ha
  have hbs : ((s.sys.dev.inc TW_TWA_ARB).ev TW_EVT_ARBLOST).bs = s.sys.dev.bs := by simp
  have hev := Dev.fl_ev (s.sys.dev.inc TW_TWA_ARB) TW_EVT_ARBLOST 0 rfl
  have hcount : ((s.sys.dev.inc TW_TWA_ARB).ev TW_EVT_ARBLOST).rd TW_TWA_ARB = incSat TW_TWA_ARB.w (s.sys.dev.rd TW_TWA_ARB) :=
    (Dev.rd_ev_ne _ _ _ (by decide)).trans ((Dev.rd_wr ..).trans (incSat_mod _ _))
  have hk : KeepsBut [(TW_TWA_ARB, 0), (TW_EVT_ARBLOST, 0)] s.sys.dev ((s.sys.dev.inc TW_TWA_ARB).ev TW_EVT_ARBLOST) :=
    ((KeepsBut.refl _ _).inc _ _ (by simp)).ev _ _ (by simp)
  generalize (s.sys.dev.inc TW_TWA_ARB).ev TW_EVT_ARBLOST = e at heq hbs hev hcount hk
  obtain ⟨t, he, hp, hd⟩ := exec_latched (c := .twaPollResult .arbLost) (f := fun d => twaResult d .arbLost) rfl hq.1
    (by rw [heq]; exact (congrArg ShelfSt.shedReq hbs).trans hq.2)
  refine ⟨t, he, hp, ?_⟩
  rw [hd, heq]
  exact ⟨rfl, hev, hcount, hk⟩

theorem exec_twaProto_first (hr : x.retried = false) : ∃ t : State, exec .twaProtocolError s = .next t ∧ t.pending = s.pending ∧
    t.sys.dev.tw.xfer = some { x with retried := true } ∧ t.sys.dev.fl TW_EVT_TWA_PROTO = true ∧
    KeepsBut ([(TW_TWA_ERR, 0), (TW_EVT_TWA_PROTO, 0)] ++ recFields) s.sys.dev t.sys.dev := by
  have heq : twaProto s.sys.dev = twaAgain (twaProtoShown s.sys.dev) { x with retried := true } := twaProto_first hx hr
  obtain ⟨hbs, hev, hk⟩ := twaProtoShown_facts s.sys.dev
  generalize twaProtoShown s.sys.dev = e at heq hbs hev hk
  obtain ⟨t, he, hp, hd⟩ := exec_latched (c := .twaProtocolError) (f := twaProto) rfl hq.1
    (by rw [heq]; exact (congrArg ShelfSt.shedReq hbs).trans hq.2)
  refine ⟨t, he, hp, ?_⟩
  rw [hd, heq]
  exact ⟨rfl, hev, hk⟩

theorem exec_twaProto_again (hr : x.retried = true) : ∃ t : State, exec .twaProtocolError s = .next t ∧ t.pending = s.pending ∧
    t.sys.dev.tw.xfer = none ∧ t.sys.dev.fl TW_EVT_TWA_PROTO = true ∧ t.sys.dev.fl TW_EVT_TWA_FAIL = true := by
  have heq : twaProto s.sys.dev = twaFail (twaProtoShown s.sys.dev) x.entry := twaProto_again hx hr
  obtain ⟨hbs, hev, -⟩ := twaProtoShown_facts s.sys.dev
  obtain ⟨hfbs, hxfer, -, -, hfail, -⟩ := twaFail_facts (twaProtoShown s.sys.dev) x.entry
  obtain ⟨t, he, hp, hd⟩ := exec_latched (c := .twaProtocolError) (f := twaProto) rfl hq.1
    (by rw [heq, hfbs, hbs]; exact hq.2)
  refine ⟨t, he, hp, ?_⟩
  rw [hd, heq]
  exact ⟨hxfer, (twaFail_proto _ _).trans hev, hfail⟩

theorem exec_twaSclTimeout : ∃ t : State, exec .twaSclTimeout s = .next t ∧ t.pending = s.pending ∧ t.sys.dev.tw.xfer = none ∧
    t.sys.dev.fl TW_EVT_TWA_FAIL = true ∧
    t.sys.dev.rd TW_POLL_CFAIL x.entry = incSat TW_POLL_CFAIL.w (s.sys.dev.rd TW_POLL_CFAIL x.entry) := by
  have heq := twaSclTimeout_some hx
  obtain ⟨hbs, hxfer, -, hcount, hfail, -⟩ := twaFail_facts s.sys.dev x.entry
  generalize twaFail s.sys.dev x.entry = e at heq hbs hxfer hcount hfail
  have hrec : ∀ {r : Reg} (ix : Nat), r.id ∉ recIds → (twaRec e).rd r ix = e.rd r ix := fun ix h => Dev.rd_recd _ _ _ _ _ _ _ h
  obtain ⟨t, he, hp, hd⟩ := exec_latched (c := .twaSclTimeout) (f := twaSclTimeout) rfl hq.1
    (by rw [heq, twaRec, Dev.recd_bs, hbs]; exact hq.2)
  refine ⟨t, he, hp, ?_⟩
  rw [hd, heq]
  exact ⟨(congrArg TwSt.xfer (Dev.recd_tw ..)).trans hxfer, (congrArg (· != 0) (hrec 0 (by decide))).trans hfail,
    (hrec _ (by decide)).trans hcount⟩

end

theorem exec_twaAlert_named {s : State} (hq : s.sys.dev.quiet) (hdue : twaAlertDue s.sys.dev = true) (a : BitVec 7) :
    ∃ t : State, exec (.twaAlert ⟨some a, false⟩) s = .next t ∧ t.pending = s.pending ∧ t.sys.dev.rd TW_TALERT_ADDR = a.toNat ∧
      t.sys.dev.fl TW_TALERT_VALID = true ∧ t.sys.dev.fl TW_EVT_TALERT = true ∧
      t.sys.dev.tw.now = (List.range 16).filter (fun i => s.sys.dev.fl TW_POLL_EN i && s.sys.dev.rd TW_POLL_ADDR i == a.toNat) ∧
      KeepsBut [(TW_TALERT_ADDR, 0), (TW_TALERT_VALID, 0), (TW_EVT_TALERT, 0)] s.sys.dev t.sys.dev := by
  have heq := twaAlert_named hdue a.toNat false
  obtain ⟨hregs, hrbs, -⟩ := alertRead_facts s.sys.dev false
  obtain ⟨hnbs, haddr, hvalid, hev, hnk⟩ := alertNamed_facts (alertRead s.sys.dev false) a.isLt
  have hk := ((KeepsBut.refl [(TW_TALERT_ADDR, 0), (TW_TALERT_VALID, 0), (TW_EVT_TALERT, 0)] s.sys.dev).of_regs hregs).trans hnk
  have hbs := hnbs.trans hrbs
  generalize alertNamed (alertRead s.sys.dev false) a.toNat = e at heq haddr hvalid hev hk hbs
  obtain ⟨t, he, hp, hd⟩ := exec_latched (c := .twaAlert ⟨some a, false⟩) (f := fun d => twaAlert d (some a.toNat) false) rfl hq.1
    (by rw [heq]; exact (congrArg ShelfSt.shedReq hbs).trans hq.2)
  have hsame : (fun i => e.fl TW_POLL_EN i && e.rd TW_POLL_ADDR i == a.toNat)
      = fun i => s.sys.dev.fl TW_POLL_EN i && s.sys.dev.rd TW_POLL_ADDR i == a.toNat := by
    funext i
    rw [Dev.fl, hk.rd_eq (by decide) i, hk.rd_eq (by decide) i]
    rfl
  rw [hsame] at heq
  refine ⟨t, he, hp, ?_⟩
  rw [hd, heq]
  exact ⟨haddr, hvalid, hev, rfl, hk⟩

/-- Settles O41: each clause from what the end of a transfer leaves, or from the bookkeeping of a poll or an alert. -/
theorem twaPollsAct : Obligations.TwaPollsAct := by
  unfold Obligations.TwaPollsAct
  refine ⟨fun s i low hx hdue => exec_twaPoll hx hdue low, ?ok, ?nak, fun s x hq hx ha => exec_twaArbLost hq hx ha,
    fun s x hq hx hr => exec_twaProto_first hq hx hr, fun s x hq hx hr => exec_twaProto_again hq hx hr,
    fun s x hq hx => exec_twaSclTimeout hq hx, fun s a hq hdue => exec_twaAlert_named hq hdue a, ?unanswered⟩
  case ok =>
    intro s bs x hq hx
    have heq := twaResult_ok hx bs
    obtain ⟨hbs, hfacts⟩ := twaOk_facts s.sys.dev x.entry (natBytes bs)
    obtain ⟨t, he, hp, hd⟩ := exec_latched (c := .twaPollResult (.ok bs)) (f := fun d => twaResult d (.ok bs)) rfl hq.1
      (by rw [heq, hbs]; exact hq.2)
    refine ⟨t, he, hp, ?_⟩
    rw [hd, heq]
    exact hfacts
  case nak =>
    intro s x hq hx
    have heq := twaResult_nak hx
    obtain ⟨hbs, hfacts⟩ := twaFail_facts s.sys.dev x.entry
    obtain ⟨t, he, hp, hd⟩ := exec_latched (c := .twaPollResult .nak) (f := fun d => twaResult d .nak) rfl hq.1
      (by rw [heq, hbs]; exact hq.2)
    refine ⟨t, he, hp, ?_⟩
    rw [hd, heq]
    exact hfacts
  case unanswered =>
    intro s hq hdue
    have heq := twaAlert_none hdue false
    obtain ⟨hregs, hbs, hnow⟩ := alertRead_facts s.sys.dev false
    obtain ⟨t, he, hp, hd⟩ := exec_latched (c := .twaAlert ⟨none, false⟩) (f := fun d => twaAlert d none false) rfl hq.1
      (by rw [heq, hbs]; exact hq.2)
    refine ⟨t, he, hp, ?_⟩
    rw [hd, heq]
    exact ⟨hnow, (KeepsBut.refl _ _).of_regs hregs⟩

end Sys2Proof.Machine
end

section
/-! PROOFS about the service port: the port switch, and what ends with an attachment (R381 to R395). -/

namespace Sys2Proof.Machine
open R

theorem Dev.fl_of_rd_zero {d : Dev} {r : Reg} {ix : Nat} (h : d.rd r ix = 0) : d.fl r ix = false := by simp [Dev.fl, h]

/-! ### The port switch (R224, R407) -/

/-- The fields that a setting of the port switch writes. -/
def switchIds : List Nat := [FU_STATUS_STATE.id, SP_VBUS_VOUT.id]

/-- A device with the port's settings and state, the emissions and the time of another. -/
def SamePort (d e : Dev) : Prop := e.ps = d.ps ∧ e.sp = d.sp ∧ e.out = d.out ∧ e.tb = d.tb

theorem SamePort.trans {d e f : Dev} (h : SamePort d e) (h' : SamePort e f) : SamePort d f := by
  obtain ⟨hps, hsp, hout, htb⟩ := h
  obtain ⟨hps', hsp', hout', htb'⟩ := h'
  exact ⟨hps'.trans hps, hsp'.trans hsp, hout'.trans hout, htb'.trans htb⟩

theorem issue_samePort (d : Dev) (c opc arg : Nat) : SamePort d (issue d c opc arg) := by
  unfold issue; dsimp only
  split
  · exact ⟨rfl, rfl, rfl, rfl⟩
  · exact ⟨rfl, rfl, rfl, rfl⟩

theorem fuRun_samePort (d : Dev) (f c : Nat) : SamePort d (fuRun d f c) :=
  (((issue_samePort d c _ _).trans (issue_samePort _ c _ _)).trans ⟨rfl, rfl, rfl, rfl⟩).trans (issue_samePort _ c _ _)

/-- The port switch takes its settings, and of the registers only the state of its fuse follows. -/
theorem psSet_facts (d : Dev) (p : PortSw) :
    WritesOnly switchIds d (psSet d p) ∧ SamePort { d with ps := p } (psSet d p) := by
  have hset : WritesOnly switchIds d { d with ps := p } := (WritesOnly.refl _ d).of_regs rfl rfl
  unfold psSet
  generalize hd : ({ d with ps := p } : Dev) = x at hset ⊢
  dsimp only
  split
  · exact ⟨hset, rfl, rfl, rfl, rfl⟩
  next f _ =>
    split
    · split
      next c _ =>
        have hrun : WritesOnly switchIds x (if health x c = 5 then fuRun x f c else x) ∧
            SamePort x (if health x c = 5 then fuRun x f c else x) := by
          split
          · exact ⟨fuRun_writes _ x f c, fuRun_samePort x f c⟩
          · exact ⟨.refl _ x, rfl, rfl, rfl, rfl⟩
        obtain ⟨hw, hs⟩ := hrun
        exact ⟨hset.trans (((hw.wr (by decide) _ _).setFuse f _).setFuse f _), hs.trans ⟨rfl, rfl, rfl, rfl⟩⟩
      · exact ⟨hset, rfl, rfl, rfl, rfl⟩
    · split
      · exact ⟨hset.wr (by decide) _ _, rfl, rfl, rfl, rfl⟩
      · exact ⟨hset, rfl, rfl, rfl, rfl⟩

theorem spSet_writes (d : Dev) (p : PortSw) : WritesOnly switchIds d (spSet d p) :=
  (psSet_facts d p).1.wr (by decide) _ _

@[simp] theorem spSet_ps (d : Dev) (p : PortSw) : (spSet d p).ps = p := (psSet_facts d p).2.1

@[simp] theorem spSet_sp (d : Dev) (p : PortSw) : (spSet d p).sp = d.sp := (psSet_facts d p).2.2.1

@[simp] theorem spSet_out (d : Dev) (p : PortSw) : (spSet d p).out = d.out := (psSet_facts d p).2.2.2.1

@[simp] theorem spSet_tb (d : Dev) (p : PortSw) : (spSet d p).tb = d.tb := (psSet_facts d p).2.2.2.2

@[simp] theorem spSet_bs (d : Dev) (p : PortSw) : (spSet d p).bs = d.bs := (spSet_writes d p).2

theorem rd_spSet (d : Dev) (p : PortSw) {r : Reg} (ix : Nat) (h : r.id ∉ switchIds) : (spSet d p).rd r ix = d.rd r ix :=
  (spSet_writes d p).1 r ix h

/-! ### Fields that are cleared -/

/-- Fields outside the list read as before. -/
theorem rd_clrRegs (d : Dev) {l : List Reg} {r : Reg} (ix : Nat) (h : r.id ∉ l.map Reg.id) : (d.clrRegs l).rd r ix = d.rd r ix := by
  unfold Dev.clrRegs forL
  induction l generalizing d with
  | nil => rfl
  | cons x xs ih =>
    rw [List.map_cons, List.mem_cons, not_or] at h
    exact (ih _ h.2).trans (Dev.rd_clrReg_ne d ix h.1)

/-- A cleared field reads its reset value. -/
theorem rd_clrRegs_of_mem (d : Dev) {l : List Reg} {r : Reg} (ix : Nat) (h : r ∈ l) (hne : (l.map Reg.id).Nodup) :
    (d.clrRegs l).rd r ix = r.rstAt ix % 2 ^ r.w := by
  unfold Dev.clrRegs forL
  induction l generalizing d with
  | nil => exact absurd h List.not_mem_nil
  | cons x xs ih =>
    rw [List.map_cons, List.nodup_cons] at hne
    obtain rfl | hxs := List.mem_cons.mp h
    · exact (rd_clrRegs _ ix hne.1).trans (Dev.rd_clrReg ..)
    · exact ih _ hxs hne.2

theorem clrRegs_parts (d : Dev) (l : List Reg) : (d.clrRegs l).bs = d.bs ∧ SamePort d (d.clrRegs l) := by
  unfold Dev.clrRegs forL
  induction l generalizing d with
  | nil => exact ⟨rfl, rfl, rfl, rfl, rfl⟩
  | cons x xs ih =>
    obtain ⟨hbs, hs⟩ := ih (d.clrReg x)
    exact ⟨hbs, SamePort.trans ⟨rfl, rfl, rfl, rfl⟩ hs⟩

theorem clrRegs_writes (d : Dev) (l : List Reg) : WritesOnly (l.map Reg.id) d (d.clrRegs l) :=
  ⟨fun _ ix h => rd_clrRegs d ix h, (clrRegs_parts d l).1⟩

/-! ### What ends (R386, R395, R405) -/

/-- Neither contract nor session nor configuration, and no transition. -/
def PortEnded (d : Dev) : Prop :=
  d.fl SP_STATUS_CONTRACT = false ∧ d.rd SP_STATUS_LEVEL = 0 ∧ d.fl SP_STATUS_USBCFG = false ∧ d.sp.xs = none

/-- The fields of the contract. -/
def contractRegs : List Reg := [SP_STATUS_CONTRACT, SP_STATUS_XSITION, SP_CONTR_VOLT, SP_CONTR_CURR, SP_CONTR_POS, SP_CONTR_PPS]

/-- The fields of an attachment. -/
def attachRegs : List Reg := [SP_STATUS_PROLE, SP_STATUS_DROLE, SP_STATUS_ORIENT, SP_STATUS_PARTNER, SP_STATUS_RA]

/-- The fields that end with an attachment. -/
def clearIds : List Nat :=
  contractRegs.map Reg.id ++ [SP_STATUS_LEVEL.id, SP_SESS.id, SP_STATUS_USBCFG.id] ++ attachRegs.map Reg.id

theorem contractEnd_writes (d : Dev) : WritesOnly (contractRegs.map Reg.id) d (contractEnd d) :=
  (clrRegs_writes d contractRegs).of_regs rfl rfl

theorem contractEnd_contract (d : Dev) : (contractEnd d).rd SP_STATUS_CONTRACT = 0 :=
  rd_clrRegs_of_mem d (l := contractRegs) 0 (by simp [contractRegs]) (by decide)

theorem usbOff_cfg (d : Dev) : (usbOff d).rd SP_STATUS_USBCFG = 0 := Dev.rd_wr ..

theorem usbOff_writes (d : Dev) : WritesOnly [SP_STATUS_USBCFG.id] d (usbOff d) :=
  ((WritesOnly.refl _ d).wr (by simp) _ _).of_regs rfl rfl

theorem sessionEnd_writes (d : Dev) : WritesOnly [SP_STATUS_LEVEL.id, SP_SESS.id] d (sessionEnd d) :=
  (((WritesOnly.refl _ d).wr (by simp) _ _).wr (by simp) _ _).of_regs rfl rfl

theorem contractEnd_sp (d : Dev) : (contractEnd d).sp = { d.sp with xs := none, ask := none, drs := false } := rfl
theorem sessionEnd_sp (d : Dev) : (sessionEnd d).sp = { d.sp with sessTick := 0 } := rfl
theorem usbOff_sp (d : Dev) : (usbOff d).sp = { d.sp with resp := none, res := [] } := rfl
theorem contractEnd_ps (d : Dev) : (contractEnd d).ps = d.ps := rfl
theorem sessionEnd_ps (d : Dev) : (sessionEnd d).ps = d.ps := rfl
theorem usbOff_ps (d : Dev) : (usbOff d).ps = d.ps := rfl

/-- The device of `portClear` before the attachment's fields are cleared. -/
def portIdle (d : Dev) : Dev := usbOff (sessionEnd (contractEnd d))

theorem portIdle_writes (d : Dev) : WritesOnly clearIds d (portIdle d) :=
  (((contractEnd_writes d).mono (by decide)).trans ((sessionEnd_writes _).mono (by decide))).trans ((usbOff_writes _).mono (by decide))

theorem portIdle_xs (d : Dev) : (portIdle d).sp.xs = none := by rw [portIdle, usbOff_sp, sessionEnd_sp, contractEnd_sp]

theorem portIdle_ps (d : Dev) : (portIdle d).ps = d.ps := by rw [portIdle, usbOff_ps, sessionEnd_ps, contractEnd_ps]

theorem portIdle_ended (d : Dev) : PortEnded (portIdle d) := by
  have hsess := sessionEnd_writes (contractEnd d)
  obtain ⟨hlevel, -, -⟩ := sessionEnd_facts (contractEnd d)
  have hoff := usbOff_writes (sessionEnd (contractEnd d))
  have hcontract : (portIdle d).rd SP_STATUS_CONTRACT = 0 :=
    (hoff.1 _ 0 (by decide)).trans ((hsess.1 _ 0 (by decide)).trans (contractEnd_contract d))
  exact ⟨Dev.fl_of_rd_zero hcontract, (hoff.1 _ 0 (by decide)).trans hlevel, Dev.fl_of_rd_zero (usbOff_cfg _), portIdle_xs d⟩

/-- The fields and the state of the attachment end. -/
def attachEnd (d : Dev) : Dev :=
  { d.clrRegs attachRegs with sp := { d.sp with swap := 0, hr := false, mark := none, rp := false } }

theorem portClear_eq (d : Dev) : portClear d = attachEnd (portIdle d) := rfl

theorem attachEnd_writes (d : Dev) : WritesOnly (attachRegs.map Reg.id) d (attachEnd d) :=
  (clrRegs_writes d attachRegs).of_regs rfl rfl

theorem attachEnd_xs (d : Dev) : (attachEnd d).sp.xs = d.sp.xs := rfl
theorem attachEnd_ps (d : Dev) : (attachEnd d).ps = d.ps := rfl

/-- What a step that ends nothing again leaves ended. -/
theorem PortEnded.of_writes {ids : List Nat} {d e : Dev} (h : PortEnded d) (hw : WritesOnly ids d e)
    (hids : ∀ r ∈ [SP_STATUS_CONTRACT, SP_STATUS_LEVEL, SP_STATUS_USBCFG], r.id ∉ ids) (hxs : e.sp.xs = d.sp.xs) : PortEnded e := by
  simp only [List.forall_mem_cons, List.not_mem_nil, false_imp_iff, implies_true, and_true] at hids
  obtain ⟨hc, hl, hu⟩ := hids
  obtain ⟨hcontract, hlevel, hcfg, hxs'⟩ := h
  exact ⟨(Dev.fl_congr (hw.1 _ 0 hc)).trans hcontract, (hw.1 _ 0 hl).trans hlevel, (Dev.fl_congr (hw.1 _ 0 hu)).trans hcfg, hxs.trans hxs'⟩

theorem portClear_writes (d : Dev) : WritesOnly clearIds d (portClear d) := by
  rw [portClear_eq]
  exact (portIdle_writes d).trans ((attachEnd_writes _).mono (by decide))

/-- Clearing leaves nothing in force. -/
theorem portClear_ended (d : Dev) : PortEnded (portClear d) := by
  rw [portClear_eq]
  exact (portIdle_ended d).of_writes (attachEnd_writes _) (by simp only [List.forall_mem_cons]; decide) (attachEnd_xs _)

theorem portClear_ps (d : Dev) : (portClear d).ps = d.ps := by rw [portClear_eq, attachEnd_ps, portIdle_ps]

/-! ### The port's state (R383) -/

theorem spGo_state (d : Dev) {st : Nat} (h : st < 8) : spState (spGo d st) = st :=
  (Dev.rd_wr d SP_STATUS_ATT 0 st).trans (Nat.mod_eq_of_lt h)

theorem spGo_writes (d : Dev) (st : Nat) : WritesOnly [SP_STATUS_ATT.id] d (spGo d st) :=
  ((WritesOnly.refl _ d).wr (by simp) _ _).of_regs rfl rfl

theorem spGo_sp (d : Dev) (st : Nat) : (spGo d st).sp = { d.sp with since := d.cur } := rfl
theorem spGo_ps (d : Dev) (st : Nat) : (spGo d st).ps = d.ps := rfl
theorem spGo_xs (d : Dev) (st : Nat) : (spGo d st).sp.xs = d.sp.xs := rfl
theorem spGo_bs (d : Dev) (st : Nat) : (spGo d st).bs = d.bs := rfl

/-- The port goes to a state with nothing left in force. -/
theorem spGo_clear (d : Dev) {st : Nat} (h : st < 8) : spState (spGo (portClear d) st) = st ∧ PortEnded (spGo (portClear d) st) ∧
    (spGo (portClear d) st).ps = d.ps ∧ (spGo (portClear d) st).bs = d.bs :=
  ⟨spGo_state _ h, (portClear_ended d).of_writes (spGo_writes _ st) (by simp only [List.forall_mem_cons]; decide) (spGo_xs ..),
    (spGo_ps ..).trans (portClear_ps d), (spGo_bs ..).trans (portClear_writes d).2⟩

/-- The return to UNATTACHED. -/
theorem portLeave_facts (d : Dev) : spState (portLeave d) = spUnatt ∧ (portLeave d).fl SP_EVT_DETACH = true ∧ PortEnded (portLeave d) ∧
    (portLeave d).ps = d.ps ∧ (portLeave d).bs = d.bs ∧
    WritesOnly (clearIds ++ [SP_STATUS_ATT.id, SP_EVT_DETACH.id] ++ recIds) d (portLeave d) := by
  obtain ⟨hst, hend, hps, hbs⟩ := spGo_clear d (st := spUnatt) (by decide)
  have hgo : WritesOnly (clearIds ++ [SP_STATUS_ATT.id, SP_EVT_DETACH.id] ++ recIds) d (spGo (portClear d) spUnatt) :=
    ((portClear_writes d).mono (by decide)).trans ((spGo_writes _ _).mono (by decide))
  generalize hx : spGo (portClear d) spUnatt = x at hst hend hps hbs hgo
  have hleave : portLeave d = { (x.ev SP_EVT_DETACH).recd 0x0F02 11 0 [] with sp := { x.sp with toggleAt := x.cur } } := by
    simp [portLeave, hx, spRec, Dev.cur]
  have hw : WritesOnly ([SP_EVT_DETACH.id] ++ recIds) x (portLeave d) := by
    rw [hleave]
    exact ((((WritesOnly.refl _ x).ev (by simp) 0).recAt (by simp) _ _ _ _ _).of_regs rfl rfl)
  refine ⟨(hw.1 _ 0 (by decide)).trans hst, ?_, hend.of_writes hw (by simp only [List.forall_mem_cons]; decide) (by rw [hleave]), ?_, hw.2.trans hbs, hgo.trans (hw.mono (by decide))⟩
  · rw [hleave]
    exact x.fl_ev_recd rfl (by decide) 0 _ _ _ _
  · rw [hleave, ← hps]
    simp

end Sys2Proof.Machine
end

section
/-! PROOFS about the operations of the PD policy (R383, R388, R394 to R396). -/

namespace Sys2Proof.Machine
open R

/-! ### The entry to the source role (R383) -/

theorem srcEntry_writes (d : Dev) : WritesOnly switchIds d (srcEntry d) := (spSet_writes d _).of_regs rfl rfl

theorem srcEntry_ps (d : Dev) : (srcEntry d).ps = { vout := 250, ilim := ilimFixed d, en := true, disch := false } := spSet_ps ..

theorem srcEntry_sp (d : Dev) : (srcEntry d).sp = d.sp := spSet_sp ..

/-! ### A detach inside a transition (R396) -/

/-- The fields that the record of such a detach writes. -/
def ditIds : List Nat := [SP_EVT_DIT.id, SP_CNT_DIT.id] ++ recIds

theorem ditRec_idle {d : Dev} (h : d.fl SP_STATUS_XSITION = false) : ditRec d = fun _ => d :=
  funext fun _ => if_pos (by simp [h])

/-- A detach inside a transition shows DIT, counts and is recorded. -/
theorem ditRec_eq {d : Dev} (h : d.fl SP_STATUS_XSITION = true) (pm : Nat) :
    ∃ pay, ditRec d pm = ((d.ev SP_EVT_DIT).inc SP_CNT_DIT).recAt pm 0x0F06 11 0 pay := ⟨_, if_neg (by simp [h])⟩

theorem ditRec_facts (d : Dev) (pm : Nat) : WritesOnly ditIds d (ditRec d pm) ∧ (ditRec d pm).ps = d.ps := by
  cases h : d.fl SP_STATUS_XSITION with
  | false => rw [ditRec_idle h]; exact ⟨.refl _ d, rfl⟩
  | true =>
    obtain ⟨pay, heq⟩ := ditRec_eq h pm
    rw [heq]
    exact ⟨((((WritesOnly.refl _ d).ev (by simp) 0).wr (by simp) _ _).recAt (List.subset_append_right _ _) _ _ _ _ _), by simp⟩

theorem ditRec_shown {d : Dev} (h : d.fl SP_STATUS_XSITION = true) (pm : Nat) :
    (ditRec d pm).fl SP_EVT_DIT = true ∧ (ditRec d pm).rd SP_CNT_DIT = incSat SP_CNT_DIT.w (d.rd SP_CNT_DIT) := by
  obtain ⟨pay, heq⟩ := ditRec_eq h pm
  have hread : ∀ {r : Reg}, r.id ∉ recIds → (ditRec d pm).rd r = ((d.ev SP_EVT_DIT).inc SP_CNT_DIT).rd r := fun hr => by
    rw [heq]; exact Dev.rd_recAt _ _ _ _ _ _ _ _ hr
  have hev : ((d.ev SP_EVT_DIT).inc SP_CNT_DIT).fl SP_EVT_DIT = true :=
    (Dev.fl_wr_ne _ _ _ _ (by decide)).trans (d.fl_ev SP_EVT_DIT 0 rfl)
  have hcnt : ((d.ev SP_EVT_DIT).inc SP_CNT_DIT).rd SP_CNT_DIT = incSat SP_CNT_DIT.w (d.rd SP_CNT_DIT) := by
    rw [Dev.inc, Dev.rd_wr, incSat_mod, Dev.rd_ev_ne _ _ _ (by decide)]
  exact ⟨(Dev.fl_congr (hread (by decide))).trans hev, (hread (by decide)).trans hcnt⟩

/-! ### Hard Resets (R395) -/

/-- What a Hard Reset from `d` shows: its event and count, no contract, transition or swap, and the role of the termination. -/
def HardResetShown (d e : Dev) : Prop :=
  e.fl SP_EVT_HRST = true ∧ e.rd SP_CNT_HRST = incSat SP_CNT_HRST.w (d.rd SP_CNT_HRST) ∧ e.fl SP_STATUS_CONTRACT = false ∧
    spState e = (if d.sp.rp = true then spSrc else spSnk) ∧ e.sp.xs = none ∧ e.sp.swap = 0 ∧ e.sp.mark = none ∧ e.bs = d.bs

theorem HardResetShown.of_writes {ids : List Nat} {d e f : Dev} (h : HardResetShown d e) (hw : WritesOnly ids e f)
    (hids : ∀ r ∈ [SP_EVT_HRST, SP_CNT_HRST, SP_STATUS_CONTRACT, SP_STATUS_ATT], r.id ∉ ids)
    (hsp : f.sp.xs = e.sp.xs ∧ f.sp.swap = e.sp.swap ∧ f.sp.mark = e.sp.mark) : HardResetShown d f := by
  simp only [List.forall_mem_cons, List.not_mem_nil, false_imp_iff, implies_true, and_true] at hids
  obtain ⟨hev, hcnt, hcon, hatt⟩ := hids
  obtain ⟨hxs, hswap, hmark⟩ := hsp
  obtain ⟨gev, gcnt, gcon, gatt, gxs, gswap, gmark, gbs⟩ := h
  exact ⟨(Dev.fl_congr (hw.1 _ 0 hev)).trans gev, (hw.1 _ 0 hcnt).trans gcnt, (Dev.fl_congr (hw.1 _ 0 hcon)).trans gcon,
    (hw.1 _ 0 hatt).trans gatt, hxs.trans gxs, hswap.trans gswap, hmark.trans gmark, hw.2.trans gbs⟩

/-- The device that has counted the Hard Reset. -/
def hrstCounted (d : Dev) (swap : Nat) : Dev := spRec ((d.ev SP_EVT_HRST).inc SP_CNT_HRST) 0x0F05 [swap]

theorem hrstCounted_facts (d : Dev) (swap : Nat) : (hrstCounted d swap).fl SP_EVT_HRST = true ∧
    (hrstCounted d swap).rd SP_CNT_HRST = incSat SP_CNT_HRST.w (d.rd SP_CNT_HRST) ∧ (hrstCounted d swap).sp = d.sp ∧
    (hrstCounted d swap).bs = d.bs := by
  have hread : ∀ {r : Reg}, r.id ∉ recIds → (hrstCounted d swap).rd r = ((d.ev SP_EVT_HRST).inc SP_CNT_HRST).rd r :=
    fun hr => Dev.rd_recd _ _ _ _ _ _ _ hr
  have hev : ((d.ev SP_EVT_HRST).inc SP_CNT_HRST).fl SP_EVT_HRST = true :=
    (Dev.fl_wr_ne _ _ _ _ (by decide)).trans (d.fl_ev SP_EVT_HRST 0 rfl)
  have hcnt : ((d.ev SP_EVT_HRST).inc SP_CNT_HRST).rd SP_CNT_HRST = incSat SP_CNT_HRST.w (d.rd SP_CNT_HRST) := by
    rw [Dev.inc, Dev.rd_wr, incSat_mod, Dev.rd_ev_ne _ _ _ (by decide)]
  exact ⟨(Dev.fl_congr (hread (by decide))).trans hev, (hread (by decide)).trans hcnt, by simp [hrstCounted, spRec], by simp [hrstCounted, spRec]⟩

theorem spHardReset_shown (d : Dev) (sent : Bool) : HardResetShown d (spHardReset d sent) := by
  unfold spHardReset
  extract_lets swap a b c src e port f g
  have ha : (∀ r, a.rd r = d.rd r) ∧ a.sp = d.sp ∧ a.bs = d.bs := by
    simp only [a]
    split
    · exact ⟨fun _ => rfl, rfl, rfl⟩
    · exact ⟨fun _ => rfl, rfl, rfl⟩
  obtain ⟨hemit, hasp, habs⟩ := ha
  clear_value a
  obtain ⟨hev, hcnt, hbsp, hbbs⟩ : b.fl SP_EVT_HRST = true ∧ b.rd SP_CNT_HRST = incSat SP_CNT_HRST.w (a.rd SP_CNT_HRST) ∧
    b.sp = a.sp ∧ b.bs = a.bs := hrstCounted_facts a swap
  clear_value b
  have hc : WritesOnly (contractRegs.map Reg.id) b c := contractEnd_writes b
  have hcon : c.rd SP_STATUS_CONTRACT = 0 := contractEnd_contract b
  have hcsp : c.sp.xs = none ∧ c.sp.rp = d.sp.rp := by
    refine ⟨rfl, (?_ : b.sp.rp = _)⟩
    rw [hbsp, hasp]
  obtain ⟨hxs, hrp⟩ := hcsp
  clear_value c
  have he : WritesOnly [SP_STATUS_PROLE.id, SP_STATUS_DROLE.id, SP_STATUS_ATT.id] c e :=
    (((WritesOnly.refl _ c).wr (by simp) _ _).wr (by simp) _ _).wr (by simp) _ _
  have hst : spState e = if src then spSrc else spSnk := (Dev.rd_wr _ SP_STATUS_ATT 0 _).trans (by cases src <;> rfl)
  have hesp : e.sp = c.sp := rfl
  have hsrc : src = d.sp.rp := hrp
  clear_value e src
  have hf : WritesOnly [SP_STATUS_PROLE.id, SP_STATUS_DROLE.id, SP_STATUS_ATT.id] c f := he.of_regs rfl rfl
  have hshown : HardResetShown d f := by
    refine ⟨?_, ?_, ?_, ?_, ?_, rfl, rfl, hf.2.trans (hc.2.trans (hbbs.trans habs))⟩
    · exact (Dev.fl_congr ((hf.1 _ 0 (by decide)).trans (hc.1 _ 0 (by decide)))).trans hev
    · exact ((hf.1 _ 0 (by decide)).trans (hc.1 _ 0 (by decide))).trans (hcnt.trans (by rw [hemit]))
    · exact Dev.fl_of_rd_zero ((hf.1 _ 0 (by decide)).trans hcon)
    · rw [← hsrc]; exact hst
    · exact (congrArg SpSt.xs hesp).trans hxs
  have hg : HardResetShown d g := by
    simp only [g]
    split
    · exact hshown.of_writes (spSet_writes _ _) (by simp only [List.forall_mem_cons]; decide) (by simp [spOpen])
    · exact hshown
  split
  · exact hg
  · exact hg.of_writes (usbOff_writes g) (by simp only [List.forall_mem_cons]; decide) ⟨rfl, rfl, rfl⟩

/-! ### Error recovery (R383) -/

theorem errorRecovery_facts (d : Dev) : spState (errorRecovery d) = spErr ∧ PortEnded (errorRecovery d) ∧
    (errorRecovery d).ps.en = false ∧ (errorRecovery d).bs = d.bs := by
  obtain ⟨hst, hend, hps, hbs⟩ := spGo_clear (spOpen d false) (st := spErr) (by decide)
  exact ⟨hst, hend, (congrArg PortSw.en hps).trans (by simp [spOpen]), hbs.trans (by simp [spOpen])⟩

/-! ### A contract (R388, R396) -/

/-- The fields of a contract that comes in force, in the order in which they are written. -/
def contractSet (d : Dev) (pos volt curr : Nat) (pps : Bool) : Dev :=
  (((((d.wr SP_STATUS_CONTRACT 0 1).wr SP_STATUS_XSITION 0 0).wr SP_CONTR_VOLT 0 volt).wr SP_CONTR_CURR 0 curr).wr SP_CONTR_POS 0 pos).wrB
    SP_CONTR_PPS 0 pps

theorem contractSet_facts (d : Dev) (pos volt curr : Nat) (pps : Bool) :
    (contractSet d pos volt curr pps).rd SP_STATUS_CONTRACT = 1 ∧ (contractSet d pos volt curr pps).rd SP_STATUS_XSITION = 0 ∧
      (contractSet d pos volt curr pps).rd SP_CONTR_VOLT = volt % 2 ^ SP_CONTR_VOLT.w ∧
      (contractSet d pos volt curr pps).rd SP_CONTR_CURR = curr % 2 ^ SP_CONTR_CURR.w ∧
      (contractSet d pos volt curr pps).rd SP_CONTR_POS = pos % 2 ^ SP_CONTR_POS.w ∧
      (contractSet d pos volt curr pps).fl SP_CONTR_PPS = pps := by
  refine ⟨?_, ?_, ?_, ?_, ?_, Dev.fl_wrB _ _ _ _ rfl⟩ <;> simp (disch := decide) only [contractSet, Dev.wrB, Dev.rd_wr_ne, Dev.rd_wr] <;> rfl

/-- What shows that a contract is in force follows its fields. -/
theorem contractIn_after (d : Dev) (pos volt curr : Nat) (pps : Bool) :
    WritesOnly ([SP_EVT_CONTRACT.id] ++ recIds) (contractSet d pos volt curr pps) (contractIn d pos volt curr pps) ∧
      (contractIn d pos volt curr pps).fl SP_EVT_CONTRACT = true ∧ (contractIn d pos volt curr pps).sp.mark = d.sp.mark := by
  unfold contractIn
  extract_lets a b c sent port
  have hb : b = (contractSet d pos volt curr pps).ev SP_EVT_CONTRACT := rfl
  have hset : (contractSet d pos volt curr pps).sp = d.sp := rfl
  generalize contractSet d pos volt curr pps = x at hb hset ⊢
  have hc : WritesOnly ([SP_EVT_CONTRACT.id] ++ recIds) x c := by
    rw [show c = spRec b _ _ from rfl, hb]
    exact ((WritesOnly.refl _ x).ev (by simp) 0).recAt (by simp) _ _ _ _ _
  have hev : c.fl SP_EVT_CONTRACT = true := by
    rw [show c = spRec b _ _ from rfl, hb]
    exact x.fl_ev_recd rfl (by decide) 0 _ _ _ _
  have hsp : c.sp = d.sp := by
    rw [show c = spRec b _ _ from rfl, hb, ← hset]
    simp [spRec]
  have hmark : c.sp.mark = d.sp.mark := congrArg SpSt.mark hsp
  clear_value c
  split
  · exact ⟨hc.of_regs rfl rfl, hev, hmark⟩
  · exact ⟨hc.of_regs rfl rfl, hev, hmark⟩

/-! ### A completed swap (R394) -/

/-- A completed swap shows it, and no swap runs. -/
theorem swapDone_facts (d : Dev) : WritesOnly ([SP_EVT_SWAP.id, SP_STATUS_USBCFG.id] ++ recIds) d (swapDone d) ∧
    (swapDone d).fl SP_EVT_SWAP = true ∧ (swapDone d).sp.swap = 0 ∧ (swapDone d).out = d.out := by
  unfold swapDone
  extract_lets a port b
  have ha : WritesOnly ([SP_EVT_SWAP.id, SP_STATUS_USBCFG.id] ++ recIds) d a :=
    ((WritesOnly.refl _ d).ev (by simp) 0).recAt (by simp) _ _ _ _ _
  have hev : a.fl SP_EVT_SWAP = true := d.fl_ev_recd rfl (by decide) 0 _ _ _ _
  have hout : a.out = d.out := by simp [a, spRec]
  clear_value a
  have hb : WritesOnly ([SP_EVT_SWAP.id, SP_STATUS_USBCFG.id] ++ recIds) d b := ha.of_regs rfl rfl
  have hbev : b.fl SP_EVT_SWAP = true := hev
  have hboff := usbOff_writes b
  split
  · exact ⟨hb, hbev, rfl, hout⟩
  · exact ⟨hb.trans (hboff.mono (by simp)), (Dev.fl_congr (hboff.1 _ 0 (by decide))).trans hbev, rfl, hout⟩

end Sys2Proof.Machine
end

section
/-! PROOFS about the port: attachments, detaches and recovery (R382 to R386). -/

namespace Sys2Proof.Machine
open R

/-! ### An attachment (R383, R384) -/

/-- The codes of a partner fit their fields. -/
theorem partnerOf_range {rp : Bool} {c1 c2 : Term} {st p o : Nat} {ra : Bool} (h : partnerOf rp c1 c2 = some (st, p, o, ra)) :
    st < 8 ∧ p < 8 ∧ o < 2 := by
  unfold partnerOf at h
  split at h <;> simp only [Option.some.injEq, Prod.mk.injEq, reduceCtorEq] at h <;> obtain ⟨rfl, rfl, rfl, -⟩ := h <;> decide

/-- What an attachment shows. -/
def AttachShown (d : Dev) (st p o : Nat) : Prop :=
  spState d = st ∧ d.rd SP_STATUS_PARTNER = p ∧ d.rd SP_STATUS_ORIENT = o ∧ d.fl SP_EVT_ATTACH = true

theorem AttachShown.of_writes {ids : List Nat} {d e : Dev} {st p o : Nat} (h : AttachShown d st p o) (hw : WritesOnly ids d e)
    (hids : ∀ r ∈ [SP_STATUS_ATT, SP_STATUS_PARTNER, SP_STATUS_ORIENT, SP_EVT_ATTACH], r.id ∉ ids) : AttachShown e st p o := by
  simp only [List.forall_mem_cons, List.not_mem_nil, false_imp_iff, implies_true, and_true] at hids
  obtain ⟨hatt, hpart, horient, hev⟩ := hids
  obtain ⟨gatt, gpart, gorient, gev⟩ := h
  exact ⟨(hw.1 _ 0 hatt).trans gatt, (hw.1 _ 0 hpart).trans gpart, (hw.1 _ 0 horient).trans gorient,
    (Dev.fl_congr (hw.1 _ 0 hev)).trans gev⟩

/-- The device that has seen its partner, before its role takes effect. -/
def attachSeen (d : Dev) (st p o : Nat) (ra rp : Bool) : Dev :=
  let d := (((spGo d st).wr SP_STATUS_PARTNER 0 p).wr SP_STATUS_ORIENT 0 o).wrB SP_STATUS_RA 0 ra
  let d := { d with sp := { d.sp with rp := rp, reqAt := d.cur, kaAt := d.cur } }
  spRec (d.ev SP_EVT_ATTACH) 0x0F01 []

theorem attachSeen_facts (d : Dev) {st p o : Nat} (ra rp : Bool) (hst : st < 8) (hp : p < 8) (ho : o < 2) :
    AttachShown (attachSeen d st p o ra rp) st p o ∧ (attachSeen d st p o ra rp).sp.again = d.sp.again ∧
      (attachSeen d st p o ra rp).bs = d.bs := by
  unfold attachSeen
  extract_lets a port b
  have ha : spState a = st ∧ a.rd SP_STATUS_PARTNER = p ∧ a.rd SP_STATUS_ORIENT = o := by
    refine ⟨?_, ?_, ?_⟩
    · simp (disch := decide) only [spState, a, Dev.wrB, Dev.rd_wr_ne]
      exact spGo_state d hst
    · simp (disch := decide) only [a, Dev.wrB, Dev.rd_wr_ne, Dev.rd_wr]
      exact Nat.mod_eq_of_lt hp
    · simp (disch := decide) only [a, Dev.wrB, Dev.rd_wr_ne, Dev.rd_wr]
      exact Nat.mod_eq_of_lt ho
  obtain ⟨hatt, hpart, horient⟩ := ha
  have hagain : a.sp.again = d.sp.again := rfl
  have hbs : a.bs = d.bs := rfl
  clear_value a
  have hbagain : b.sp.again = d.sp.again := hagain
  have hw : WritesOnly ([SP_EVT_ATTACH.id] ++ recIds) a (spRec (b.ev SP_EVT_ATTACH) 0x0F01 []) :=
    ((WritesOnly.of_regs (WritesOnly.refl _ a) (f := b) rfl rfl).ev (by simp) 0).recAt (by simp) _ _ _ _ _
  exact ⟨⟨(hw.1 _ 0 (by decide)).trans hatt, (hw.1 _ 0 (by decide)).trans hpart, (hw.1 _ 0 (by decide)).trans horient,
    b.fl_ev_recd rfl (by decide) 0 _ _ _ _⟩, by simp [spRec, hbagain], hw.2.trans hbs⟩

/-- The role that follows an attachment: the source applies 5 V, and so does a debug accessory where that is enabled. -/
def attachRole (d : Dev) (st : Nat) (rp : Bool) : Dev :=
  if st = spSrc then srcEntry ((d.wr SP_STATUS_PROLE 0 1).wr SP_STATUS_DROLE 0 1)
  else if st = spDebug && rp && d.fl SP_CTRL_DBG_VBUS then
    spSet (d.wr SP_STATUS_PROLE 0 1) { vout := 250, ilim := ilimFixed d, en := true, disch := false }
  else d

theorem attachRole_writes (d : Dev) (st : Nat) (rp : Bool) :
    WritesOnly ([SP_STATUS_PROLE.id, SP_STATUS_DROLE.id] ++ switchIds) d (attachRole d st rp) ∧
      (attachRole d st rp).sp = d.sp := by
  unfold attachRole
  split
  · exact ⟨(((WritesOnly.refl _ d).wr (by simp) _ _).wr (by simp) _ _).trans ((srcEntry_writes _).mono (by simp)), srcEntry_sp _⟩
  · split
    · exact ⟨((WritesOnly.refl _ d).wr (by simp) _ _).trans ((spSet_writes _ _).mono (by simp)), spSet_sp ..⟩
    · exact ⟨.refl _ d, rfl⟩

/-- As source, the port has both roles of a source and 5 V. -/
theorem attachRole_source (d : Dev) (rp : Bool) : (attachRole d spSrc rp).fl SP_STATUS_PROLE = true ∧
    (attachRole d spSrc rp).fl SP_STATUS_DROLE = true ∧ (attachRole d spSrc rp).ps.vout = 250 ∧
    (attachRole d spSrc rp).ps.en = true := by
  have heq : attachRole d spSrc rp = srcEntry ((d.wr SP_STATUS_PROLE 0 1).wr SP_STATUS_DROLE 0 1) := if_pos rfl
  have hw := srcEntry_writes ((d.wr SP_STATUS_PROLE 0 1).wr SP_STATUS_DROLE 0 1)
  rw [heq, srcEntry_ps]
  exact ⟨(Dev.fl_congr (hw.1 _ 0 (by decide))).trans ((Dev.fl_wr_ne _ _ _ _ (by decide)).trans (d.fl_wrB SP_STATUS_PROLE 0 true rfl)),
    (Dev.fl_congr (hw.1 _ 0 (by decide))).trans (Dev.fl_wrB _ SP_STATUS_DROLE 0 true rfl), rfl, rfl⟩

/-- An unattached port attaches to a partner that R384 lists. -/
theorem portAttach_role {d : Dev} {c1 c2 : Term} {st p o : Nat} {ra : Bool} (hpart : partnerOf (spRp d) c1 c2 = some (st, p, o, ra))
    (hst : spState d = spUnatt) (hv : st = spSnk → 400 < d.rd SP_VBUS_V) (hagain : d.sp.again = false) :
    WritesOnly [] (attachRole (attachSeen d st p o ra (spRp d)) st (spRp d)) (portAttach d c1 c2) ∧
      (portAttach d c1 c2).sp.again = false ∧
      (portAttach d c1 c2).ps = (attachRole (attachSeen d st p o ra (spRp d)) st (spRp d)).ps := by
  obtain ⟨hstlt, hplt, holt⟩ := partnerOf_range hpart
  have hno : ¬((decide (spState d ≠ spUnatt) || (st == spSnk && decide (d.rd SP_VBUS_V ≤ 400))) = true) := by
    simp only [hst, ne_eq, not_true_eq_false, decide_false, Bool.false_or, Bool.and_eq_true, beq_iff_eq, decide_eq_true_eq, not_and, not_le]
    exact hv
  unfold portAttach
  extract_lets rp
  split
  next h => exact absurd (hpart.symm.trans h) (by simp)
  next st' p' o' ra' h =>
    obtain ⟨rfl, rfl, rfl, rfl⟩ : st = st' ∧ p = p' ∧ o = o' ∧ ra = ra' := by simpa using hpart.symm.trans h
    rw [if_neg hno]
    extract_lets a port b seen role
    have hseen : seen = attachSeen d st p o ra (spRp d) := rfl
    have hrole : role = attachRole seen st (spRp d) := rfl
    rw [← hseen, ← hrole]
    have hnone : role.sp.again = false := by
      rw [hrole, (attachRole_writes seen st (spRp d)).2, hseen, (attachSeen_facts d ra (spRp d) hstlt hplt holt).2.1, hagain]
    clear_value role
    rw [if_neg (by simp [hnone])]
    exact ⟨(WritesOnly.refl [] role).of_regs rfl rfl, rfl, rfl⟩

/-- What an attachment leaves. -/
theorem portAttach_facts {d : Dev} {c1 c2 : Term} {st p o : Nat} {ra : Bool} (hpart : partnerOf (spRp d) c1 c2 = some (st, p, o, ra))
    (hst : spState d = spUnatt) (hv : st = spSnk → 400 < d.rd SP_VBUS_V) (hagain : d.sp.again = false) :
    AttachShown (portAttach d c1 c2) st p o ∧ (portAttach d c1 c2).sp.again = false ∧ (portAttach d c1 c2).bs = d.bs ∧
      (st = spSrc → (portAttach d c1 c2).fl SP_STATUS_PROLE = true ∧ (portAttach d c1 c2).fl SP_STATUS_DROLE = true ∧
        (portAttach d c1 c2).ps.vout = 250 ∧ (portAttach d c1 c2).ps.en = true) := by
  obtain ⟨hstlt, hplt, holt⟩ := partnerOf_range hpart
  obtain ⟨hshown, -, hbs⟩ := attachSeen_facts d ra (spRp d) hstlt hplt holt
  obtain ⟨hw, hnone, hps⟩ := portAttach_role hpart hst hv hagain
  obtain ⟨hrole, -⟩ := attachRole_writes (attachSeen d st p o ra (spRp d)) st (spRp d)
  refine ⟨(hshown.of_writes hrole (by simp only [List.forall_mem_cons]; decide)).of_writes hw (by simp), hnone,
    hw.2.trans (hrole.2.trans hbs), fun h => ?_⟩
  subst h
  obtain ⟨hprole, hdrole, hvout, hen⟩ := attachRole_source (attachSeen d spSrc p o ra (spRp d)) (spRp d)
  rw [hps]
  exact ⟨(Dev.fl_congr (hw.1 _ 0 (by simp))).trans hprole, (Dev.fl_congr (hw.1 _ 0 (by simp))).trans hdrole, hvout, hen⟩

/-- Terminations that R384 does not list, and those on a port that is attached, change nothing. -/
theorem portAttach_none {d : Dev} {c1 c2 : Term} (h : partnerOf (spRp d) c1 c2 = none ∨ spState d ≠ spUnatt) : portAttach d c1 c2 = d := by
  unfold portAttach
  extract_lets rp
  split
  · rfl
  next st p o ra hpart =>
    rcases h with h | h
    · exact absurd (hpart.symm.trans h) (by simp)
    · exact if_pos (by simp [h])

/-! ### Detaches (R383, R386, R396) -/

/-- A source that leaves a transition behind counts it; the switch opens, and VBUS is discharged. -/
theorem sourceDetach_facts {d : Dev} (h : spState d = spSrc) (pm : Nat) : spState (sourceDetach d pm) = spDisch ∧
    PortEnded (sourceDetach d pm) ∧ (sourceDetach d pm).ps.en = false ∧ (sourceDetach d pm).ps.disch = true ∧
    (sourceDetach d pm).bs = d.bs ∧
    WritesOnly (switchIds ++ clearIds ++ [SP_STATUS_ATT.id]) (ditRec d pm) (sourceDetach d pm) := by
  have heq : sourceDetach d pm = spGo (portClear (spOpen (ditRec d pm) true)) spDisch := if_neg (by simp [h])
  obtain ⟨hdit, -⟩ := ditRec_facts d pm
  rw [heq]
  generalize ditRec d pm = x at hdit ⊢
  obtain ⟨hst, hend, hps, hbs⟩ := spGo_clear (spOpen x true) (st := spDisch) (by decide)
  have hopen : (spOpen x true).ps = { x.ps with en := false, disch := true } := spSet_ps ..
  refine ⟨hst, hend, by rw [hps, hopen], by rw [hps, hopen], hbs.trans ((spSet_bs ..).trans hdit.2), ?_⟩
  exact (((spSet_writes x _).mono (by decide)).trans ((portClear_writes _).mono (by decide))).trans ((spGo_writes _ _).mono (by decide))

theorem sinkDetach_facts {d : Dev} (h : spState d = spSnk) (hgone : sinkGone d = true) : spState (sinkDetach d) = spUnatt ∧
    (sinkDetach d).fl SP_EVT_DETACH = true ∧ PortEnded (sinkDetach d) ∧ (sinkDetach d).bs = d.bs := by
  have heq : sinkDetach d = portLeave (ditRec d d.curPm) := if_neg (by simp [h, hgone])
  obtain ⟨hdit, -⟩ := ditRec_facts d d.curPm
  obtain ⟨hst, hev, hend, -, hbs, -⟩ := portLeave_facts (ditRec d d.curPm)
  rw [heq]
  exact ⟨hst, hev, hend, hbs.trans hdit.2⟩

theorem sinkDetach_stays {d : Dev} (h : spState d ≠ spSnk ∨ sinkGone d = false) : sinkDetach d = d := if_pos (by simpa using h)

theorem accessoryDetach_facts {d : Dev} (h : spState d = spAudio ∨ spState d = spDebug) : spState (accessoryDetach d) = spDisch ∧
    (accessoryDetach d).ps.disch = true ∧ PortEnded (accessoryDetach d) ∧ (accessoryDetach d).bs = d.bs := by
  unfold accessoryDetach
  rw [if_neg (by rcases h with h | h <;> simp [h])]
  extract_lets port x
  have hx : x.ps.disch = true ∧ x.bs = d.bs := by
    simp only [x]
    split
    · exact ⟨congrArg PortSw.disch (spSet_ps ..), spSet_bs ..⟩
    · exact ⟨congrArg PortSw.disch (spSet_ps ..), spSet_bs ..⟩
  obtain ⟨hdisch, hxbs⟩ := hx
  obtain ⟨hst, hend, hps, hbs⟩ := spGo_clear x (st := spDisch) (by decide)
  exact ⟨hst, (congrArg PortSw.disch hps).trans hdisch, hend, hbs.trans hxbs⟩

theorem dischargeEnd_eq (d : Dev) : dischargeEnd d = portLeave (spSet d { d.ps with disch := false }) := by
  unfold dischargeEnd
  with_reducible rfl

/-- The end of a discharge. -/
theorem dischargeEnd_facts (d : Dev) : spState (dischargeEnd d) = spUnatt ∧ (dischargeEnd d).ps.disch = false ∧
    (dischargeEnd d).fl SP_EVT_DETACH = true ∧ (dischargeEnd d).bs = d.bs ∧
    WritesOnly (switchIds ++ (clearIds ++ [SP_STATUS_ATT.id, SP_EVT_DETACH.id] ++ recIds)) d (dischargeEnd d) := by
  have hset := spSet_writes d { d.ps with disch := false }
  have hdis : (spSet d { d.ps with disch := false }).ps.disch = false := congrArg PortSw.disch (spSet_ps ..)
  rw [dischargeEnd_eq]
  generalize spSet d { d.ps with disch := false } = x at hset hdis ⊢
  obtain ⟨hst, hev, -, hps, hbs, hw⟩ := portLeave_facts x
  refine ⟨hst, ?_, hev, hbs.trans hset.2, (hset.mono (List.subset_append_left _ _)).trans (hw.mono (List.subset_append_right _ _))⟩
  rw [hps, hdis]

/-! ### The statement -/

theorem exec_portAttach {s : State} {c1 c2 : Term} {st p o : Nat} {ra : Bool} (hq : s.sys.dev.quiet)
    (hpart : partnerOf (spRp s.sys.dev) c1 c2 = some (st, p, o, ra)) (hst : spState s.sys.dev = spUnatt)
    (hv : st = spSnk → 400 < s.sys.dev.rd SP_VBUS_V) (hagain : s.sys.dev.sp.again = false) :
    ∃ t : State, exec (.portAttach c1 c2) s = .next t ∧ t.pending = s.pending ∧ spState t.sys.dev = st ∧
      t.sys.dev.rd SP_STATUS_PARTNER = p ∧ t.sys.dev.rd SP_STATUS_ORIENT = o ∧ t.sys.dev.fl SP_EVT_ATTACH = true ∧
      t.sys.dev.sp.again = false ∧ (st = spSrc → t.sys.dev.fl SP_STATUS_PROLE = true ∧ t.sys.dev.fl SP_STATUS_DROLE = true ∧
        t.sys.dev.ps.vout = 250 ∧ t.sys.dev.ps.en = true) := by
  obtain ⟨⟨hatt, hpartner, horient, hev⟩, hnone, hbs, hsrc⟩ := portAttach_facts hpart hst hv hagain
  obtain ⟨t, he, hp, hd⟩ := exec_latched (c := .portAttach c1 c2) (f := fun d => portAttach d c1 c2) rfl hq.1 (by rw [hbs]; exact hq.2)
  rw [← hd] at hatt hpartner horient hev hnone hsrc
  exact ⟨t, he, hp, hatt, hpartner, horient, hev, hnone, hsrc⟩

/-- A source that detaches, in a transition or not. -/
theorem exec_sourceDetach {s : State} (hq : s.sys.dev.quiet) (hst : spState s.sys.dev = spSrc) (pm : Word64) :
    ∃ t : State, exec (.sourceDetach pm) s = .next t ∧ t.pending = s.pending ∧ spState t.sys.dev = spDisch ∧
      t.sys.dev.ps.en = false ∧ t.sys.dev.ps.disch = true ∧ PortEnded t.sys.dev ∧
      (s.sys.dev.fl SP_STATUS_XSITION = true → t.sys.dev.fl SP_EVT_DIT = true ∧
        t.sys.dev.rd SP_CNT_DIT = incSat SP_CNT_DIT.w (s.sys.dev.rd SP_CNT_DIT)) := by
  obtain ⟨hdisch, hend, hen, hdis, hbs, hw⟩ := sourceDetach_facts hst pm.toNat
  have hdit : s.sys.dev.fl SP_STATUS_XSITION = true → (sourceDetach s.sys.dev pm.toNat).fl SP_EVT_DIT = true ∧
      (sourceDetach s.sys.dev pm.toNat).rd SP_CNT_DIT = incSat SP_CNT_DIT.w (s.sys.dev.rd SP_CNT_DIT) := fun hx => by
    obtain ⟨hev, hcnt⟩ := ditRec_shown hx pm.toNat
    exact ⟨(Dev.fl_congr (hw.1 _ 0 (by decide))).trans hev, (hw.1 _ 0 (by decide)).trans hcnt⟩
  obtain ⟨t, he, hp, hd⟩ := exec_latched (c := .sourceDetach pm) (f := fun d => sourceDetach d pm.toNat) rfl hq.1
    (by rw [hbs]; exact hq.2)
  rw [← hd] at hdisch hend hen hdis hdit
  exact ⟨t, he, hp, hdisch, hen, hdis, hend, hdit⟩

/-- Settles O42: each clause from what its function leaves. -/
theorem portAttachesAndDetaches : Obligations.PortAttachesAndDetaches := by
  unfold Obligations.PortAttachesAndDetaches
  refine ⟨?attach, ?noAttach, ?source, ?sourceInTransition, ?sink, ?noSink, ?accessory, ?dischargeEnd, ?dischargeTimeout, ?errorEnd, ?toggle⟩
  case attach => exact fun s c1 c2 st p o ra hq hpart hst hv hagain => exec_portAttach hq hpart hst hv hagain
  case noAttach =>
    intro s c1 c2 hq h
    have heq := portAttach_none h
    obtain ⟨t, he, hp, hd⟩ := exec_latched (c := .portAttach c1 c2) (f := fun d => portAttach d c1 c2) rfl hq.1 (by rw [heq]; exact hq.2)
    refine ⟨t, he, hp, ?_⟩
    rw [hd, heq]
    exact ⟨KeepsBut.refl _ _, rfl⟩
  case source =>
    intro s pm hq hst _
    obtain ⟨t, he, hp, hdisch, hen, hdis, ⟨hcon, hlevel, hcfg, hxs⟩, -⟩ := exec_sourceDetach hq hst pm
    exact ⟨t, he, hp, hdisch, hen, hdis, hcon, hlevel, hcfg, hxs⟩
  case sourceInTransition =>
    intro s pm hq hst hx
    obtain ⟨t, he, hp, hdisch, -, -, ⟨hcon, hlevel, hcfg, hxs⟩, hdit⟩ := exec_sourceDetach hq hst pm
    obtain ⟨hev, hcnt⟩ := hdit hx
    exact ⟨t, he, hp, hdisch, hev, hcnt, hcon, hlevel, hcfg, hxs⟩
  case sink =>
    intro s hq hst hgone
    obtain ⟨hleft, hev, ⟨hcon, hlevel, hcfg, hxs⟩, hbs⟩ := sinkDetach_facts hst hgone
    obtain ⟨t, he, hp, hd⟩ := exec_latched (c := .sinkDetach) (f := sinkDetach) rfl hq.1 (by rw [hbs]; exact hq.2)
    rw [← hd] at hleft hev hcon hlevel hcfg hxs
    exact ⟨t, he, hp, hleft, hev, hcon, hlevel, hcfg, hxs⟩
  case noSink =>
    intro s hq h
    have heq := sinkDetach_stays h
    obtain ⟨t, he, hp, hd⟩ := exec_latched (c := .sinkDetach) (f := sinkDetach) rfl hq.1 (by rw [heq]; exact hq.2)
    refine ⟨t, he, hp, ?_⟩
    rw [hd, heq]
    exact ⟨KeepsBut.refl _ _, rfl⟩
  case accessory =>
    intro s hq h
    obtain ⟨hst, hdisch, ⟨hcon, hlevel, hcfg, hxs⟩, hbs⟩ := accessoryDetach_facts h
    obtain ⟨t, he, hp, hd⟩ := exec_latched (c := .accessoryDetach) (f := accessoryDetach) rfl hq.1 (by rw [hbs]; exact hq.2)
    rw [← hd] at hst hdisch hcon hlevel hcfg hxs
    exact ⟨t, he, hp, hst, hdisch, hcon, hlevel, hcfg, hxs⟩
  case dischargeEnd =>
    intro s hx hdue
    obtain ⟨hst, hdisch, hev, hbs, -⟩ := dischargeEnd_facts s.atTimers.dev
    obtain ⟨t, he, hp, hd⟩ := exec_timed (c := .dischargeEnd) (f := Sys2Proof.Machine.dischargeEnd) rfl hx hdue (by rw [hbs]; exact hx.2.2)
    rw [← hd] at hst hdisch hev
    exact ⟨t, he, hp, hst, hdisch, hev⟩
  case dischargeTimeout =>
    intro s hx hdue
    obtain ⟨hst, -, hev, hbs, hw⟩ := dischargeEnd_facts (s.atTimers.dev.ev SP_EVT_DISCHTO)
    obtain ⟨t, he, hp, hd⟩ := exec_timed (c := .dischargeTimeout) (f := Sys2Proof.Machine.dischargeTimeout) rfl hx hdue
      (by rw [Sys2Proof.Machine.dischargeTimeout, hbs, Dev.ev_bs]; exact hx.2.2)
    have hto := (Dev.fl_congr (hw.1 SP_EVT_DISCHTO 0 (by decide))).trans (Dev.fl_ev _ SP_EVT_DISCHTO 0 rfl)
    rw [← show t.sys.dev = Sys2Proof.Machine.dischargeEnd (s.atTimers.dev.ev SP_EVT_DISCHTO) from hd] at hst hev hto
    exact ⟨t, he, hp, hst, hto, hev⟩
  case errorEnd =>
    intro s hx hdue
    obtain ⟨hst, hev, ⟨hcon, hlevel, hcfg, hxs⟩, -, hbs, -⟩ := portLeave_facts s.atTimers.dev
    obtain ⟨t, he, hp, hd⟩ := exec_timed (c := .errorRecoveryEnd) (f := portLeave) rfl hx hdue (by rw [hbs]; exact hx.2.2)
    rw [← hd] at hst hev hcon hlevel hcfg hxs
    exact ⟨t, he, hp, hst, hev, hcon, hlevel, hcfg, hxs⟩
  case toggle =>
    intro s hx hdue
    obtain ⟨t, he, hp, hd⟩ := exec_timed (c := .drpToggle) (f := Sys2Proof.Machine.drpToggle) rfl hx hdue hx.2.2
    refine ⟨t, he, hp, ?_⟩
    rw [hd]
    exact ⟨rfl, rfl, KeepsBut.refl _ _⟩

end Sys2Proof.Machine
end

section
/-! PROOFS about PD as source, and Hard Resets (R388, R391, R395). -/

namespace Sys2Proof.Machine
open R

/-! ### Requests (R388) -/

/-- A Request of an offered fixed voltage is accepted, and its change starts in the next tick. -/
theorem pdRequest_fixed {d : Dev} {pos curr v : Nat} (volt : Nat) (hon : pdOn d = true) (hst : spState d = spSrc) (hpos : pos ≠ 0)
    (hoffer : (srcOffer d)[pos - 1]? = some (some v)) (hcurr : curr ≤ imax d * 5) :
    (pdRequest d pos volt curr).fl SP_STATUS_XSITION = true ∧
      (pdRequest d pos volt curr).sp.xs = some
        { pos := pos, volt := v, curr := imax d, pps := false, next := (pdRequest d pos volt curr).cur + 1 } ∧
      (pdRequest d pos volt curr).out.getLast? = some (.pd pdAccept []) ∧ (pdRequest d pos volt curr).bs = d.bs ∧
      KeepsBut [(SP_STATUS_XSITION, 0)] d (pdRequest d pos volt curr) := by
  unfold pdRequest
  rw [if_neg (by simp [hst, hon])]
  extract_lets port x hit
  have hhit : hit = some (v, imax d, false) := by
    have hx : (srcOffer x)[pos - 1]? = some (some v) := hoffer
    simp only [hit, if_neg hpos, hx]
    exact if_pos hcurr
  have hk : KeepsBut [(SP_STATUS_XSITION, 0)] d x := KeepsBut.refl _ d
  have hbs : x.bs = d.bs := rfl
  clear_value hit x
  subst hhit
  have hy : KeepsBut [(SP_STATUS_XSITION, 0)] d ((x.emit (.pd pdAccept [])).wr SP_STATUS_XSITION 0 1) :=
    (hk.emit _).wr _ _ _ (by simp)
  have hshown : ((x.emit (.pd pdAccept [])).wr SP_STATUS_XSITION 0 1).fl SP_STATUS_XSITION = true :=
    Dev.fl_wrB _ SP_STATUS_XSITION 0 true rfl
  have hout : ((x.emit (.pd pdAccept [])).wr SP_STATUS_XSITION 0 1).out.getLast? = some (.pd pdAccept []) := Dev.emit_getLast? ..
  exact ⟨hshown, rfl, hout, hbs, hy⟩

/-- A Request of no offered object is rejected. -/
theorem pdRequest_reject {d : Dev} {pos : Nat} (volt curr : Nat) (hon : pdOn d = true) (hst : spState d = spSrc)
    (hno : pos = 0 ∨ (srcOffer d)[pos - 1]? = none) :
    (pdRequest d pos volt curr).out.getLast? = some (.pd pdReject []) ∧ (pdRequest d pos volt curr).sp.xs = d.sp.xs ∧
      (pdRequest d pos volt curr).bs = d.bs ∧ KeepsBut [] d (pdRequest d pos volt curr) := by
  unfold pdRequest
  rw [if_neg (by simp [hst, hon])]
  extract_lets port x hit
  have hhit : hit = none := by
    by_cases hpos : pos = 0
    · exact if_pos hpos
    · have hx : (srcOffer x)[pos - 1]? = none := hno.resolve_left hpos
      simp only [hit, if_neg hpos, hx]
  have hk : KeepsBut [] d x := KeepsBut.refl _ d
  have hbs : x.bs = d.bs := rfl
  have hxs : x.sp.xs = d.sp.xs := rfl
  clear_value hit x
  subst hhit
  exact ⟨Dev.emit_getLast? .., hxs, hbs, hk.emit _⟩

/-- The programmed supply runs out: back to the fixed 5 V. -/
theorem ppsTimeout_facts (d : Dev) : (ppsTimeout d).fl SP_EVT_PPSTO = true ∧ (ppsTimeout d).sp.xs.isSome = true ∧
    (ppsTimeout d).bs = d.bs ∧ KeepsBut [(SP_EVT_PPSTO, 0)] d (ppsTimeout d) := by
  have hk : KeepsBut [(SP_EVT_PPSTO, 0)] d (d.ev SP_EVT_PPSTO) := (KeepsBut.refl _ d).ev _ _ (by simp)
  have hev := d.fl_ev SP_EVT_PPSTO 0 rfl
  have hbs : (d.ev SP_EVT_PPSTO).bs = d.bs := Dev.ev_bs ..
  unfold ppsTimeout
  extract_lets x e
  exact ⟨hev, rfl, hbs, hk⟩

/-! ### The statement -/

theorem exec_pdHardReset {s : State} (hq : s.sys.dev.quiet) (hon : pdOn s.sys.dev = true) :
    ∃ t : State, exec .pdHardReset s = .next t ∧ t.pending = s.pending ∧ HardResetShown s.sys.dev t.sys.dev := by
  have heq : pdHardResetIn s.sys.dev = spHardReset s.sys.dev false := if_pos hon
  have hshown := spHardReset_shown s.sys.dev false
  have hbs : (spHardReset s.sys.dev false).bs = s.sys.dev.bs := hshown.2.2.2.2.2.2.2
  obtain ⟨t, he, hp, hd⟩ := exec_latched (c := .pdHardReset) (f := pdHardResetIn) rfl hq.1 (by rw [heq, hbs]; exact hq.2)
  exact ⟨t, he, hp, by rw [hd, heq]; exact hshown⟩

/-- The command of a Hard Reset, with and without PD. -/
theorem exec_spCmdHrst {s : State} {a : Accessor} (ht : s.turn) (ha : a ≠ .sp) (hk : writeKind s.sys.dev (accIx a) 0xC01C 1 = 0) :
    ∃ t : State, exec (.spCmdHrst a) s = .next t ∧ t.pending = s.pending ∧
      (pdOn s.atCommands.dev = true → HardResetShown s.atCommands.dev t.sys.dev) ∧
      (pdOn s.atCommands.dev = false → KeepsBut [] s.atCommands.dev t.sys.dev ∧ t.sys.dev.sp = s.atCommands.dev.sp) := by
  cases hon : pdOn s.atCommands.dev with
  | true =>
    have heq : Sys2Proof.Machine.spCmdHrst (handOver s.atCommands.dev) = spHardReset (handOver s.atCommands.dev) true := if_pos hon
    have hshown := spHardReset_shown (handOver s.atCommands.dev) true
    obtain ⟨hev, hcnt, hcon, hst, hxs, hswap, hmark, hbs⟩ := hshown
    obtain ⟨t, he, hp, hd⟩ := exec_wordCmd (c := .spCmdHrst a) (f := Sys2Proof.Machine.spCmdHrst) rfl ht ha hk
      (by rw [heq, hbs, handOver_bs]; exact ht.2.1.2.2)
    rw [← heq, ← hd] at hev hcnt hcon hst hxs hswap hmark hbs
    exact ⟨t, he, hp, fun _ => ⟨hev, hcnt, hcon, hst, hxs, hswap, hmark, hbs⟩, fun h => absurd h (by simp)⟩
  | false =>
    have heq : Sys2Proof.Machine.spCmdHrst (handOver s.atCommands.dev) = handOver s.atCommands.dev := if_neg (by
      rw [show pdOn (handOver s.atCommands.dev) = pdOn s.atCommands.dev from rfl, hon]; exact Bool.false_ne_true)
    obtain ⟨t, he, hp, hd⟩ := exec_wordCmd (c := .spCmdHrst a) (f := Sys2Proof.Machine.spCmdHrst) rfl ht ha hk
      (by rw [heq, handOver_bs]; exact ht.2.1.2.2)
    rw [heq] at hd
    exact ⟨t, he, hp, fun h => absurd h (by simp), fun _ => by rw [hd]; exact ⟨fun _ _ _ => rfl, rfl⟩⟩

theorem exec_spCmdErrrec {s : State} {a : Accessor} (ht : s.turn) (ha : a ≠ .sp) (hk : writeKind s.sys.dev (accIx a) 0xC01C 2 = 0)
    (hst : spState s.atCommands.dev = spSnk ∨ spState s.atCommands.dev = spSrc) :
    ∃ t : State, exec (.spCmdErrrec a) s = .next t ∧ t.pending = s.pending ∧ spState t.sys.dev = spErr ∧
      t.sys.dev.ps.en = false ∧ PortEnded t.sys.dev := by
  have heq : Sys2Proof.Machine.spCmdErrrec (handOver s.atCommands.dev) = errorRecovery (handOver s.atCommands.dev) := if_pos hst
  obtain ⟨herr, hend, hen, hbs⟩ := errorRecovery_facts (handOver s.atCommands.dev)
  obtain ⟨t, he, hp, hd⟩ := exec_wordCmd (c := .spCmdErrrec a) (f := Sys2Proof.Machine.spCmdErrrec) rfl ht ha hk
    (by rw [heq, hbs, handOver_bs]; exact ht.2.1.2.2)
  rw [← heq, ← hd] at herr hend hen
  exact ⟨t, he, hp, herr, hen, hend⟩

/-- Settles O43: a Hard Reset by what `HardResetShown` says of it, the other clauses from the equation of their function. -/
theorem portPowerPolicySource : Obligations.PortPowerPolicySource := by
  unfold Obligations.PortPowerPolicySource
  refine ⟨?accepted, ?rejected, ?psRdy, ?pps, ?hrst, ?noPd, ?errrec, ?hardReset, ?notSupported⟩
  case accepted =>
    intro s pos volt curr v hq hon hst hpos hoffer hcurr
    obtain ⟨hx, hxs, hout, hbs, hk⟩ := pdRequest_fixed volt.toNat hon hst (fun h => hpos (BitVec.eq_of_toNat_eq h)) hoffer hcurr
    obtain ⟨t, he, hp, hd⟩ := exec_latched (c := .pdRequest pos volt curr)
      (f := fun d => pdRequest d pos.toNat volt.toNat curr.toNat) rfl hq.1 (by rw [hbs]; exact hq.2)
    rw [← hd] at hx hxs hout hk
    exact ⟨t, he, hp, hx, hxs, hout, hk⟩
  case rejected =>
    intro s pos volt curr hq hon hst hno
    obtain ⟨hout, hxs, hbs, hk⟩ := pdRequest_reject volt.toNat curr.toNat hon hst (hno.imp_left fun h => by simp [h])
    obtain ⟨t, he, hp, hd⟩ := exec_latched (c := .pdRequest pos volt curr)
      (f := fun d => pdRequest d pos.toNat volt.toNat curr.toNat) rfl hq.1 (by rw [hbs]; exact hq.2)
    rw [← hd] at hout hxs hk
    exact ⟨t, he, hp, hout, hxs, hk⟩
  case psRdy =>
    intro s hx hdue
    obtain ⟨hev, hcnt, hcon, -, hxs, -, -, hbs⟩ := spHardReset_shown s.atTimers.dev true
    obtain ⟨t, he, hp, hd⟩ := exec_timed (c := .psRdyTimeout) (f := fun d => spHardReset d true) rfl hx hdue (by rw [hbs]; exact hx.2.2)
    rw [← hd] at hev hcnt hcon hxs
    exact ⟨t, he, hp, hev, hcnt, hcon, hxs⟩
  case pps =>
    intro s hx hdue
    obtain ⟨hev, hxs, hbs, hk⟩ := ppsTimeout_facts s.atTimers.dev
    obtain ⟨t, he, hp, hd⟩ := exec_timed (c := .ppsTimeout) (f := ppsTimeout) rfl hx hdue (by rw [hbs]; exact hx.2.2)
    rw [← hd] at hev hxs hk
    exact ⟨t, he, hp, hev, hxs, hk⟩
  case hrst =>
    intro s a ht ha hk hon
    obtain ⟨t, he, hp, hshown, -⟩ := exec_spCmdHrst ht ha hk
    obtain ⟨hev, -, hcon, hst, -, hswap, -, -⟩ := hshown hon
    exact ⟨t, he, hp, hev, hcon, hst, hswap⟩
  case noPd =>
    intro s a ht ha hk hon
    obtain ⟨t, he, hp, -, hstays⟩ := exec_spCmdHrst ht ha hk
    exact ⟨t, he, hp, hstays hon⟩
  case errrec =>
    intro s a ht ha hk hst
    obtain ⟨t, he, hp, herr, hen, hcon, hlevel, hcfg, hxs⟩ := exec_spCmdErrrec ht ha hk hst
    exact ⟨t, he, hp, herr, hen, hcon, hlevel, hcfg, hxs⟩
  case hardReset =>
    intro s hq hon
    obtain ⟨t, he, hp, hev, hcnt, hcon, hst, -, -, hmark, -⟩ := exec_pdHardReset hq hon
    exact ⟨t, he, hp, hev, hcnt, hcon, hst, hmark⟩
  case notSupported =>
    intro s hq hon
    have heq : pdNotSupported s.sys.dev = s.sys.dev.emit (.pd pdNotSup []) := if_pos hon
    obtain ⟨t, he, hp, hd⟩ := exec_latched (c := .pdNotSupported) (f := pdNotSupported) rfl hq.1 (by rw [heq]; exact hq.2)
    refine ⟨t, he, hp, ?_⟩
    rw [hd, heq]
    exact ⟨rfl, KeepsBut.refl _ _⟩

end Sys2Proof.Machine
end

section
/-! PROOFS about PD as sink, and the swaps of roles (R392 to R396). -/

namespace Sys2Proof.Machine
open R

/-! ### The contract of a sink (R392, R396) -/

/-- The objects of a source are answered with the Request that R392 selects. -/
theorem pdSourceCaps_facts {d : Dev} (l : List Pdo) (hon : pdOn d = true) (hst : spState d = spSnk) (hl : spLocked d = false) :
    (pdSourceCapsIn d l).sp.ask = some ((sinkSelect d l).1, (sinkSelect d l).2.1, (sinkSelect d l).2.2.1, (sinkSelect d l).2.2.2.1) ∧
      (pdSourceCapsIn d l).out.getLast? = some (.pd pdRequestMsg [(sinkSelect d l).1, (sinkSelect d l).2.1, (sinkSelect d l).2.2.1,
        (sinkSelect d l).2.2.2.1.toNat, (sinkSelect d l).2.2.2.2.toNat]) ∧
      (pdSourceCapsIn d l).bs = d.bs ∧ KeepsBut [] d (pdSourceCapsIn d l) := by
  unfold pdSourceCapsIn
  rw [if_neg (by simp [hst, hon, hl])]
  exact ⟨rfl, Dev.emit_getLast? .., rfl, fun _ _ _ => rfl⟩

/-- The Accept of a Request marks the transition. -/
theorem pdAccept_facts {d : Dev} {p v i : Nat} {pps : Bool} (hon : pdOn d = true) (hswap : d.sp.swap ≠ 2) (hst : spState d = spSnk)
    (hask : d.sp.ask = some (p, v, i, pps)) :
    (pdAcceptIn d).fl SP_STATUS_XSITION = true ∧
      (pdAcceptIn d).sp.mark = some (if d.fl SP_STATUS_CONTRACT = true then d.rd SP_CONTR_VOLT else 250, v) ∧
      (pdAcceptIn d).bs = d.bs ∧ KeepsBut [(SP_STATUS_XSITION, 0)] d (pdAcceptIn d) := by
  have hx : (d.wr SP_STATUS_XSITION 0 1).fl SP_STATUS_XSITION = true := d.fl_wrB SP_STATUS_XSITION 0 true rfl
  have hk : KeepsBut [(SP_STATUS_XSITION, 0)] d (d.wr SP_STATUS_XSITION 0 1) := (KeepsBut.refl _ d).wr _ _ _ (by simp)
  unfold pdAcceptIn
  rw [if_neg (by simp [hon]), if_neg hswap, if_neg (by simp [hst]), hask]
  exact ⟨hx, rfl, rfl, hk⟩

/-- The PS_RDY after the Accept puts the contract in force. -/
theorem pdPsRdy_facts {d : Dev} {p v i : Nat} {pps : Bool} (hon : pdOn d = true) (hswap : d.sp.swap ≠ 1) (hst : spState d = spSnk)
    (hx : d.fl SP_STATUS_XSITION = true) (hask : d.sp.ask = some (p, v, i, pps)) :
    (pdPsRdyIn d).fl SP_STATUS_CONTRACT = true ∧ (pdPsRdyIn d).fl SP_STATUS_XSITION = false ∧
      (pdPsRdyIn d).rd SP_CONTR_VOLT = v % 2 ^ SP_CONTR_VOLT.w ∧ (pdPsRdyIn d).rd SP_CONTR_CURR = i % 2 ^ SP_CONTR_CURR.w ∧
      (pdPsRdyIn d).rd SP_CONTR_POS = p % 2 ^ SP_CONTR_POS.w ∧ (pdPsRdyIn d).fl SP_CONTR_PPS = pps ∧
      (pdPsRdyIn d).fl SP_EVT_CONTRACT = true ∧ (pdPsRdyIn d).sp.mark = none ∧ (pdPsRdyIn d).bs = d.bs := by
  have heq : pdPsRdyIn d = contractIn { d with sp := { d.sp with mark := none } } p v i pps := by
    unfold pdPsRdyIn
    rw [if_neg (by simp [hon]), if_neg hswap, if_neg (by simp [hst, hx]), hask]
  rw [heq]
  have hbs : ({ d with sp := { d.sp with mark := none } } : Dev).bs = d.bs := rfl
  have hmark : ({ d with sp := { d.sp with mark := none } } : Dev).sp.mark = none := rfl
  generalize ({ d with sp := { d.sp with mark := none } } : Dev) = x at hbs hmark ⊢
  obtain ⟨hcon, hxs, hvolt, hcurr, hpos, hpps⟩ := contractSet_facts x p v i pps
  obtain ⟨hw, hev, hm⟩ := contractIn_after x p v i pps
  have hset : (contractSet x p v i pps).bs = x.bs := rfl
  exact ⟨(Dev.fl_congr (hw.1 _ 0 (by decide))).trans (by simp [Dev.fl, hcon]), Dev.fl_of_rd_zero ((hw.1 _ 0 (by decide)).trans hxs),
    (hw.1 _ 0 (by decide)).trans hvolt, (hw.1 _ 0 (by decide)).trans hcurr, (hw.1 _ 0 (by decide)).trans hpos,
    (Dev.fl_congr (hw.1 _ 0 (by decide))).trans hpps, hev, hm.trans hmark, hw.2.trans (hset.trans hbs)⟩

/-! ### Swaps (R394) -/

/-- A source that may swap accepts: its switch opens, and VBUS is discharged. -/
theorem prSwap_source {d : Dev} (hon : pdOn d = true) (hrole : d.fl SP_STATUS_PROLE = true) (hmay : d.bit SP_CTRL_PRS 0 0 = true) :
    (prSwapIn d).sp.swap = 1 ∧ (prSwapIn d).ps.en = false ∧ (prSwapIn d).ps.disch = true ∧
      (prSwapIn d).out = d.out ++ [.pd pdAccept []] ∧ (prSwapIn d).bs = d.bs := by
  unfold prSwapIn
  rw [if_neg (by simp [hon])]
  extract_lets src sent port x
  have hout : x.out = d.out ++ [.pd pdAccept []] := rfl
  have hswap : x.sp.swap = 1 := rfl
  have hbs : x.bs = d.bs := rfl
  clear_value x
  rw [if_pos (by simp [src, hrole, hmay]), if_pos hrole]
  have hps : (spOpen x true).ps = { x.ps with en := false, disch := true } := spSet_ps ..
  refine ⟨?_, by rw [hps], by rw [hps], ?_, ?_⟩
  · rw [spOpen, spSet_sp, hswap]
  · rw [spOpen, spSet_out, hout]
  · rw [spOpen, spSet_bs, hbs]

/-- A swap that the control bits do not permit is rejected. -/
theorem prSwap_reject {d : Dev} (hon : pdOn d = true) (hsrc : d.fl SP_STATUS_PROLE = true → d.bit SP_CTRL_PRS 0 0 = false)
    (hsnk : d.fl SP_STATUS_PROLE = false → d.bit SP_CTRL_PRS 0 1 = false ∨ srcAvail d = false) :
    prSwapIn d = d.emit (.pd pdReject []) := by
  unfold prSwapIn
  rw [if_neg (by simp [hon])]
  extract_lets src sent port x
  refine if_neg ?_
  cases hrole : d.fl SP_STATUS_PROLE with
  | true => simp [src, hrole, hsrc hrole]
  | false => rcases hsnk hrole with h | h <;> simp [src, hrole, h]

/-- A DFP accepts the swap of the data role and becomes UFP. -/
theorem drSwap_facts {d : Dev} (hon : pdOn d = true) (hrole : d.fl SP_STATUS_DROLE = true) :
    (drSwapIn d).fl SP_STATUS_DROLE = false ∧ (drSwapIn d).fl SP_EVT_SWAP = true ∧ (drSwapIn d).sp.swap = 0 ∧
      (drSwapIn d).out = d.out ++ [.pd pdAccept []] ∧ (drSwapIn d).bs = d.bs := by
  have heq : drSwapIn d = swapDone ((d.emit (.pd pdAccept [])).wr SP_STATUS_DROLE 0 0) := by
    unfold drSwapIn
    rw [if_neg (by simp [hon]), if_pos hrole]
  rw [heq]
  have hufp : ((d.emit (.pd pdAccept [])).wr SP_STATUS_DROLE 0 0).rd SP_STATUS_DROLE = 0 := Dev.rd_wr ..
  have hsent : ((d.emit (.pd pdAccept [])).wr SP_STATUS_DROLE 0 0).out = d.out ++ [.pd pdAccept []] := rfl
  have hbs : ((d.emit (.pd pdAccept [])).wr SP_STATUS_DROLE 0 0).bs = d.bs := rfl
  generalize (d.emit (.pd pdAccept [])).wr SP_STATUS_DROLE 0 0 = x at hufp hsent hbs ⊢
  obtain ⟨hw, hev, hswap, hout⟩ := swapDone_facts x
  exact ⟨Dev.fl_of_rd_zero ((hw.1 _ 0 (by decide)).trans hufp), hev, hswap, hout.trans hsent, hw.2.trans hbs⟩

/-! ### The statement -/

/-- Settles O44: each clause from what its function leaves. -/
theorem portPowerPolicySink : Obligations.PortPowerPolicySink := by
  unfold Obligations.PortPowerPolicySink
  refine ⟨?sourceCaps, ?accept, ?psRdy, ?keepalive, ?prSwap, ?prReject, ?drSwap, ?drReject⟩
  case sourceCaps =>
    intro s l hq hon hst hl
    obtain ⟨hask, hout, hbs, hk⟩ := pdSourceCaps_facts l hon hst hl
    obtain ⟨t, he, hp, hd⟩ := exec_latched (c := .pdSourceCaps l) (f := fun d => pdSourceCapsIn d l) rfl hq.1 (by rw [hbs]; exact hq.2)
    rw [← hd] at hask hout hk
    exact ⟨t, he, hp, hask, hout, hk⟩
  case accept =>
    intro s p v i pps hq hon hswap hst hask
    obtain ⟨hx, hmark, hbs, hk⟩ := pdAccept_facts hon hswap hst hask
    obtain ⟨t, he, hp, hd⟩ := exec_latched (c := .pdAccept) (f := pdAcceptIn) rfl hq.1 (by rw [hbs]; exact hq.2)
    rw [← hd] at hx hmark hk
    exact ⟨t, he, hp, hx, hmark, hk⟩
  case psRdy =>
    intro s p v i pps hq hon hswap hst hx hask
    obtain ⟨hcon, hxs, hvolt, hcurr, hpos, hpps, hev, hmark, hbs⟩ := pdPsRdy_facts hon hswap hst hx hask
    obtain ⟨t, he, hp, hd⟩ := exec_latched (c := .pdPsRdy) (f := pdPsRdyIn) rfl hq.1 (by rw [hbs]; exact hq.2)
    rw [← hd] at hcon hxs hvolt hcurr hpos hpps hev hmark
    exact ⟨t, he, hp, hcon, hxs, hvolt, hcurr, hpos, hpps, hev, hmark⟩
  case keepalive =>
    intro s p v i pps hx hdue hask
    have heq : Sys2Proof.Machine.keepalive s.atTimers.dev = s.atTimers.dev.emit (.pd pdRequestMsg [p, v, i, pps.toNat, 0]) := by
      rw [Sys2Proof.Machine.keepalive, hask]
    obtain ⟨t, he, hp, hd⟩ := exec_timed (c := .ppsKeepalive) (f := Sys2Proof.Machine.keepalive) rfl hx hdue (by rw [heq]; exact hx.2.2)
    refine ⟨t, he, hp, ?_⟩
    rw [hd, heq]
    exact ⟨rfl, KeepsBut.refl _ _⟩
  case prSwap =>
    intro s hq hon hrole hmay
    obtain ⟨hswap, hen, hdisch, hout, hbs⟩ := prSwap_source hon hrole hmay
    obtain ⟨t, he, hp, hd⟩ := exec_latched (c := .prSwap) (f := prSwapIn) rfl hq.1 (by rw [hbs]; exact hq.2)
    rw [← hd] at hswap hen hdisch hout
    exact ⟨t, he, hp, hswap, hen, hdisch, by rw [hout]; simp⟩
  case prReject =>
    intro s hq hon hsrc hsnk
    have heq := prSwap_reject hon hsrc hsnk
    obtain ⟨t, he, hp, hd⟩ := exec_latched (c := .prSwap) (f := prSwapIn) rfl hq.1 (by rw [heq]; exact hq.2)
    refine ⟨t, he, hp, ?_⟩
    rw [hd, heq]
    exact ⟨rfl, rfl, KeepsBut.refl _ _⟩
  case drSwap =>
    intro s hq hon hrole
    obtain ⟨hufp, hev, hswap, hout, hbs⟩ := drSwap_facts hon hrole
    obtain ⟨t, he, hp, hd⟩ := exec_latched (c := .drSwap) (f := drSwapIn) rfl hq.1 (by rw [hbs]; exact hq.2)
    rw [← hd] at hufp hev hswap hout
    exact ⟨t, he, hp, hufp, hev, by rw [hout]; simp, hswap⟩
  case drReject =>
    intro s hq hon hrole
    have heq : drSwapIn s.sys.dev = s.sys.dev.emit (.pd pdReject []) := by
      unfold drSwapIn
      rw [if_neg (by simp [hon]), if_neg (by simp [hrole])]
    obtain ⟨t, he, hp, hd⟩ := exec_latched (c := .drSwap) (f := drSwapIn) rfl hq.1 (by rw [heq]; exact hq.2)
    refine ⟨t, he, hp, ?_⟩
    rw [hd, heq]
    exact ⟨rfl, KeepsBut.refl _ _⟩

end Sys2Proof.Machine
end

section
/-! PROOFS about the image slots and the store's refresh (R342, R343, R353 to R355). -/

namespace Sys2Proof.Machine
open R

/-! ### Image slots (R351) -/

theorem slotReg_cases (k : Nat) : slotReg k = UP_STATUS_SLOTA ∨ slotReg k = UP_STATUS_SLOTB := by
  unfold slotReg
  split
  · exact .inl rfl
  · exact .inr rfl

/-- The fields of the slots' states. -/
def slotIds : List Nat := [UP_STATUS_SLOTA.id, UP_STATUS_SLOTB.id]

theorem slotReg_mem (k : Nat) : (slotReg k).id ∈ slotIds := by
  rcases slotReg_cases k with h | h <;> rw [h] <;> decide

theorem imgState_setImg (d : Dev) (k : Nat) {st : Nat} (h : st < 8) : imgState (setImg d k st) k = st := by
  have hw : (slotReg k).w = 3 := by rcases slotReg_cases k with h | h <;> rw [h] <;> rfl
  exact (Dev.rd_wr d (slotReg k) 0 st).trans (by rw [hw]; exact Nat.mod_eq_of_lt h)

theorem imgState_setImg_other (d : Dev) {k j : Nat} (st : Nat) (h : (j = 0) ≠ (k = 0)) : imgState (setImg d j st) k = imgState d k := by
  refine Dev.rd_wr_ne d 0 0 st ?_
  unfold slotReg
  split
  · split
    · simp_all
    · decide
  · split
    · decide
    · simp_all

theorem setImg_writes (d : Dev) (k st : Nat) : WritesOnly slotIds d (setImg d k st) := (WritesOnly.refl _ d).wr (slotReg_mem k) _ _

theorem setImg_keepsBut {l : List (Reg × Nat)} {a d : Dev} (h : KeepsBut l a d) (hl : (UP_STATUS_SLOTA, 0) ∈ l ∧ (UP_STATUS_SLOTB, 0) ∈ l)
    (k st : Nat) : KeepsBut l a (setImg d k st) := by
  refine h.wr _ _ _ ?_
  rcases slotReg_cases k with hk | hk <;> rw [hk]
  · exact hl.1
  · exact hl.2

/-- A slot's state is not among the fields written. -/
theorem WritesOnly.imgState {ids : List Nat} {d e : Dev} (h : WritesOnly ids d e) (hids : ∀ i ∈ slotIds, i ∉ ids) (k : Nat) :
    imgState e k = imgState d k := h.1 _ 0 (hids _ (slotReg_mem k))

/-! ### Confirmation and failure of a trial (R355) -/

/-- The fields that a confirmation writes. -/
def confirmFields : List (Reg × Nat) :=
  [(UP_STATUS_SLOTA, 0), (UP_STATUS_SLOTB, 0), (UP_SVN_FLOOR, 0), (UP_TRIALT, 0), (UP_EVT_CONFIRM, 0)] ++ recFields

/-- The fields that a failed trial writes. -/
def fallbackFields : List (Reg × Nat) :=
  [(UP_STATUS_SLOTA, 0), (UP_STATUS_SLOTB, 0), (UP_TRIALT, 0), (UP_EVT_FALLBACK, 0)] ++ recFields

theorem updConfirm_facts {d : Dev} (hk : runSlot d < 2) : imgState (updConfirm d) (runSlot d) = 5 ∧
    (updConfirm d).rd UP_SVN_FLOOR = d.rd UP_SVN_RUN ∧ (updConfirm d).rd UP_TRIALT = 0 ∧ (updConfirm d).fl UP_EVT_CONFIRM = true ∧
    (updConfirm d).bs = d.bs ∧
    KeepsBut confirmFields d
      (updConfirm d) := by
  unfold updConfirm
  extract_lets k a b c
  have hb : imgState b k = 5 ∧ WritesOnly slotIds d b ∧
      KeepsBut confirmFields d b := by
    have hka := setImg_keepsBut (l := confirmFields)
      (.refl _ d) (by simp [confirmFields]) k 5
    simp only [b]
    split
    · refine ⟨(imgState_setImg_other a 2 ?_).trans (imgState_setImg d k (by decide)),
        (setImg_writes d k 5).trans (setImg_writes _ _ _), setImg_keepsBut hka (by simp [confirmFields]) _ _⟩
      have : k < 2 := hk
      simp only [ne_eq, eq_iff_iff]
      omega
    · exact ⟨imgState_setImg d k (by decide), setImg_writes d k 5, hka⟩
  obtain ⟨hst, hw, hkeep⟩ := hb
  have hrun : b.rd UP_SVN_RUN = d.rd UP_SVN_RUN := hw.1 _ 0 (by decide)
  clear_value b
  have hc : WritesOnly [UP_SVN_FLOOR.id, UP_TRIALT.id] b c := ((WritesOnly.refl _ b).wr (by simp) _ _).wr (by simp) _ _
  have hck : KeepsBut confirmFields d c :=
    (hkeep.wr _ _ _ (by simp [confirmFields])).wr _ _ _ (by simp [confirmFields])
  have hfloor : c.rd UP_SVN_FLOOR = b.rd UP_SVN_RUN :=
    (Dev.rd_wr_ne _ _ _ _ (by decide)).trans ((Dev.rd_wr b UP_SVN_FLOOR 0 _).trans (Nat.mod_eq_of_lt (Nat.mod_lt _ (by decide))))
  have htrial : c.rd UP_TRIALT = 0 := Dev.rd_wr ..
  clear_value c
  have he : WritesOnly ([UP_EVT_CONFIRM.id] ++ recIds) c ((c.ev UP_EVT_CONFIRM).recd 0x0E06 0 10 []) :=
    ((WritesOnly.refl _ c).ev (by simp) 0).recAt (by simp) _ _ _ _ _
  refine ⟨?_, (he.1 _ 0 (by decide)).trans (hfloor.trans hrun), (he.1 _ 0 (by decide)).trans htrial,
    c.fl_ev_recd rfl (by decide) 0 _ _ _ _, he.2.trans (hc.2.trans hw.2), (hck.ev _ _ (by simp [confirmFields])).recd _ _ _ _ fun _ => List.mem_append_right _⟩
  rw [he.imgState (by decide), hc.imgState (by decide), hst]

/-- A trial that fails. -/
theorem trialFailed_facts (d : Dev) (k : Nat) : imgState (trialFailed d k) k = 6 ∧ (trialFailed d k).rd UP_TRIALT = 0 ∧
    (trialFailed d k).fl UP_EVT_FALLBACK = true ∧ (trialFailed d k).up.failed = true ∧ (trialFailed d k).bs = d.bs ∧
    KeepsBut fallbackFields d (trialFailed d k) := by
  unfold trialFailed
  extract_lets a port b
  have hk := setImg_keepsBut (l := fallbackFields)
    (.refl _ d) (by simp [fallbackFields]) k 6
  have hst := imgState_setImg d k (st := 6) (by decide)
  have hset := setImg_writes d k 6
  have hb : WritesOnly [UP_TRIALT.id] (setImg d k 6) b := ((WritesOnly.refl _ _).wr (by simp) _ _).of_regs rfl rfl
  have hbk : KeepsBut fallbackFields d b :=
    (hk.wr UP_TRIALT 0 0 (by simp [fallbackFields])).of_regs rfl
  have htrial : b.rd UP_TRIALT = 0 := Dev.rd_wr ..
  have hfail : b.up.failed = true := rfl
  clear_value b
  have he : WritesOnly ([UP_EVT_FALLBACK.id] ++ recIds) b ((b.ev UP_EVT_FALLBACK).recd 0x0E07 0 10 []) :=
    ((WritesOnly.refl _ b).ev (by simp) 0).recAt (by simp) _ _ _ _ _
  refine ⟨?_, (he.1 _ 0 (by decide)).trans htrial, b.fl_ev_recd rfl (by decide) 0 _ _ _ _, by simpa using hfail,
    he.2.trans (hb.2.trans hset.2), (hbk.ev _ _ (by simp [fallbackFields])).recd _ _ _ _ fun _ => List.mem_append_right _⟩
  rw [he.imgState (by decide), hb.imgState (by decide), hst]

end Sys2Proof.Machine
end

section
/-! PROOFS about the refresh of the store, and the end of a verification (R342, R343, R353). -/

namespace Sys2Proof.Machine
open R

/-! ### What the store meets (R342) -/

theorem storeCase_dev (s : Sys) (k : StoreCase) : (storeCase s k).2.dev.up = s.dev.up ∧ (storeCase s k).2.dev.bs = s.dev.bs := by
  cases k with
  | fine => exact ⟨rfl, rfl⟩
  | corrected => exact ⟨Dev.ev_up .., Dev.ev_bs ..⟩
  | uncorrectable a w => exact ⟨Dev.ev_up .., Dev.ev_bs ..⟩
  | writeFail a => exact ⟨by simp [storeCase], by simp [storeCase]⟩

/-- A corrected error is counted and shown. -/
theorem storeCase_corrected (s : Sys) : (storeCase s .corrected).2.dev.rd NV_CORR = incSat NV_CORR.w (s.dev.rd NV_CORR) ∧
    (storeCase s .corrected).2.dev.fl NV_EVT_CORR = true := by
  have hcnt : (s.dev.inc NV_CORR).rd NV_CORR = incSat NV_CORR.w (s.dev.rd NV_CORR) := by
    rw [Dev.inc, Dev.rd_wr, incSat_mod]
  exact ⟨(Dev.rd_ev_ne _ _ _ (by decide)).trans hcnt, Dev.fl_ev _ NV_EVT_CORR 0 rfl⟩

/-! ### The refresh (R343) -/

theorem refreshStart_first {d : Dev} (h : d.up.refr = none) : (refreshStart d).rd NV_STATUS_REFBUSY = 1 ∧
    (refreshStart d).up.refr = some 0 ∧ (refreshStart d).bs = d.bs ∧ KeepsBut [(NV_STATUS_REFBUSY, 0)] d (refreshStart d) := by
  have hbusy : (d.wr NV_STATUS_REFBUSY 0 1).rd NV_STATUS_REFBUSY = 1 := Dev.rd_wr ..
  have hk : KeepsBut [(NV_STATUS_REFBUSY, 0)] d (d.wr NV_STATUS_REFBUSY 0 1) := (KeepsBut.refl _ d).wr _ _ _ (by simp)
  unfold refreshStart
  rw [if_neg (by simp [h])]
  exact ⟨hbusy, rfl, rfl, hk⟩

theorem refreshStart_busy {d : Dev} (h : d.up.refr ≠ none) : refreshStart d = d := if_pos (Option.isSome_iff_ne_none.mpr h)

/-- A block of the refresh is done. -/
def refreshed (d : Dev) (b : Nat) : Dev :=
  let d := d.freeNext.wr NV_IMPM_MARGIN 0 d.freeV
  let d := paceEnded d 2 0
  if b + 1 < 262144 then { d with up := { d.up with refr := some (b + 1), refrAt := d.cur } }
  else { (((d.ev NV_EVT_REFDONE).wr NV_REFR_AGE 0 0).wr NV_STATUS_REFBUSY 0 0) with up := { d.up with refr := none, ageTick := 0 } }

theorem refreshBlock_eq {s : Sys} {b : Nat} (h : s.dev.up.refr = some b) (k : StoreCase) :
    refreshBlock s k = (storeCase s k).2.on (fun d => refreshed d b) := by
  unfold refreshBlock
  rw [h]
  rfl

theorem refreshed_more (d : Dev) {b : Nat} (h : b < 262143) : (refreshed d b).up.refr = some (b + 1) ∧
    (refreshed d b).up.refrAt = (refreshed d b).cur ∧ WritesOnly [NV_IMPM_MARGIN.id] d (refreshed d b) := by
  unfold refreshed
  extract_lets x y
  have hy : WritesOnly [NV_IMPM_MARGIN.id] d y := by
    have hx : WritesOnly [NV_IMPM_MARGIN.id] d x := WritesOnly.wr (e := d.freeNext) ((WritesOnly.refl _ d).of_regs rfl rfl) (by simp) _ _
    clear_value x
    exact hx.of_regs rfl rfl
  clear_value y
  rw [if_pos (by omega)]
  exact ⟨rfl, rfl, hy.of_regs rfl rfl⟩

theorem refreshed_last (d : Dev) : (refreshed d 262143).up.refr = none ∧ (refreshed d 262143).rd NV_REFR_AGE = 0 ∧
    (refreshed d 262143).rd NV_STATUS_REFBUSY = 0 ∧ (refreshed d 262143).fl NV_EVT_REFDONE = true ∧ (refreshed d 262143).bs = d.bs := by
  unfold refreshed
  extract_lets x y up z
  have hbs : y.bs = d.bs := rfl
  clear_value y
  have hage : z.rd NV_REFR_AGE = 0 := (Dev.rd_wr_ne _ _ _ _ (by decide)).trans (Dev.rd_wr ..)
  have hbusy : z.rd NV_STATUS_REFBUSY = 0 := Dev.rd_wr ..
  have hdone : z.fl NV_EVT_REFDONE = true :=
    (Dev.fl_wr_ne _ _ _ _ (by decide)).trans ((Dev.fl_wr_ne _ _ _ _ (by decide)).trans (y.fl_ev NV_EVT_REFDONE 0 rfl))
  have hkept : z.bs = y.bs := Dev.ev_bs ..
  clear_value z
  rw [if_neg (by decide)]
  exact ⟨rfl, hage, hbusy, hdone, hkept.trans hbs⟩

/-! ### The end of a verification (R353) -/

/-- An operation that keeps the update function's state and writes no field outside the list. -/
def UpdateKept (ids : List Nat) (d e : Dev) : Prop := WritesOnly ids d e ∧ e.up = d.up

theorem completeAll_kept (d : Dev) (cs : List HCtx) (st r : Nat) : UpdateKept [] d (completeAll d cs st r) := by
  unfold completeAll forL
  induction cs generalizing d with
  | nil => exact ⟨.refl _ d, rfl⟩
  | cons c cs ih =>
    have hc : UpdateKept [] d (complete d c st r 0) := by
      unfold complete
      split
      · exact ⟨(WritesOnly.refl _ d).of_regs rfl rfl, rfl⟩
      · split
        · exact ⟨.refl _ d, rfl⟩
        · exact ⟨(WritesOnly.refl _ d).of_regs rfl rfl, rfl⟩
    obtain ⟨hw, hup⟩ := ih (complete d c st r 0)
    exact ⟨hc.1.trans hw, hup.trans hc.2⟩

/-- The fields that the end of a hole's work writes. -/
def holeEndIds : List Nat := [HQ_PH_STATE.id, HQ_PH_LEN.id, HQ_EVT_RECLAIM.id] ++ recIds

theorem phGo_kept (d : Dev) (n st : Nat) : UpdateKept holeEndIds d (phGo d n st) :=
  ⟨((WritesOnly.refl _ d).wr (by decide) _ _).of_regs rfl rfl, rfl⟩

theorem holeEnd_kept (d : Dev) (n st : Nat) : UpdateKept holeEndIds d (holeEnd d n st) := by
  unfold holeEnd
  split
  · unfold phFinish
    split
    · extract_lets port a b
      have ha : UpdateKept holeEndIds d a := ⟨(WritesOnly.refl _ d).of_regs rfl rfl, rfl⟩
      clear_value a
      obtain ⟨hw, hup⟩ := phGo_kept a n 0
      have hb : WritesOnly holeEndIds a b := hw.wr (by decide) _ _
      have hbup : b.up = a.up := hup
      clear_value b
      exact ⟨((ha.1.trans hb).ev (by decide) _).recAt (by decide) _ _ _ _ _, by simp [hbup, ha.2]⟩
    · obtain ⟨hw, hup⟩ := phGo_kept d n st
      generalize phGo d n st = x at hw hup ⊢
      exact ⟨hw.of_regs rfl rfl, hup⟩
  · exact ⟨.refl _ d, rfl⟩

/-- What the verdict of a verification leaves: the slot's state, its event, and the download closed. -/
def VerdictShown (k : Nat) (res : Option Nat) (d : Dev) : Prop :=
  imgState d k = (if res.isNone then 2 else 6) ∧ d.fl (if res.isNone then UP_EVT_VERIFIED else UP_EVT_VFAIL) = true ∧
    d.fl UP_STATUS_DLOPEN = false ∧ d.up.verify = none

theorem VerdictShown.of_kept {ids : List Nat} {k : Nat} {res : Option Nat} {d e : Dev} (h : VerdictShown k res d)
    (hk : UpdateKept ids d e)
    (hids : ∀ i ∈ slotIds ++ [UP_EVT_VERIFIED.id, UP_EVT_VFAIL.id, UP_STATUS_DLOPEN.id], i ∉ ids) : VerdictShown k res e := by
  obtain ⟨hst, hev, hdl, hv⟩ := h
  obtain ⟨hw, hup⟩ := hk
  refine ⟨(hw.imgState (fun i hi => hids i (List.mem_append_left _ hi)) k).trans hst, ?_,
    (Dev.fl_congr (hw.1 _ 0 (hids _ (by simp)))).trans hdl, (congrArg _ hup).trans hv⟩
  refine (Dev.fl_congr (hw.1 _ 0 (hids _ ?_))).trans hev
  split <;> simp

theorem clrReg_writes (d : Dev) (r : Reg) : WritesOnly [r.id] d (d.clrReg r) :=
  ⟨fun _ ix h => Dev.rd_clrReg_ne d ix (by simpa using h), rfl⟩

/-- The verdict of a verification on the device, with the check that failed. -/
def imageVerdict (d : Dev) (k : Nat) (res : Option Nat) : Dev :=
  match res with
  | none =>
    let d := { d with up := { d.up with slotDig := Tbl.set [] d.up.slotDig k d.up.dig } }
    ((setImg d k 2).ev UP_EVT_VERIFIED).recd 0x0E03 0 10 []
  | some c =>
    let d := ((setImg d k 6).clrReg UP_DLMAP).wr UP_DL_MISSING 0 (dlPieces d)
    (d.ev UP_EVT_VFAIL).recd 0x0E04 0 10 [c]

theorem imageVerdict_shown {d : Dev} (k : Nat) (res : Option Nat) (hdl : d.fl UP_STATUS_DLOPEN = false) (hv : d.up.verify = none) :
    VerdictShown k res (imageVerdict d k res) ∧ (imageVerdict d k res).bs = d.bs := by
  cases res with
  | none =>
    unfold imageVerdict
    extract_lets port x
    have hx : WritesOnly [] d x := (WritesOnly.refl _ d).of_regs rfl rfl
    have hxv : x.up.verify = none := hv
    clear_value x
    have hset := setImg_writes x k 2
    have hst := imgState_setImg x k (st := 2) (by decide)
    have hup : (setImg x k 2).up = x.up := rfl
    generalize setImg x k 2 = y at hset hst hup ⊢
    have hw : WritesOnly ([UP_EVT_VERIFIED.id] ++ recIds) y ((y.ev UP_EVT_VERIFIED).recd 0x0E03 0 10 []) :=
      ((WritesOnly.refl _ y).ev (by simp) 0).recAt (by simp) _ _ _ _ _
    refine ⟨⟨(hw.imgState (by decide) k).trans hst, y.fl_ev_recd rfl (by decide) 0 _ _ _ _, ?_, by simp [hup, hxv]⟩,
      hw.2.trans (hset.2.trans hx.2)⟩
    exact (Dev.fl_congr ((hw.1 _ 0 (by decide)).trans ((hset.1 _ 0 (by decide)).trans (hx.1 _ 0 (by simp))))).trans hdl
  | some c =>
    unfold imageVerdict
    extract_lets up other y
    have hset := setImg_writes d k 6
    have hst := imgState_setImg d k (st := 6) (by decide)
    have hy : WritesOnly [UP_DLMAP.id, UP_DL_MISSING.id] (setImg d k 6) y :=
      ((clrReg_writes _ UP_DLMAP).mono (by simp)).wr (by simp) _ _
    have hup : y.up = d.up := rfl
    clear_value y
    have hw : WritesOnly ([UP_EVT_VFAIL.id] ++ recIds) y ((y.ev UP_EVT_VFAIL).recd 0x0E04 0 10 [c]) :=
      ((WritesOnly.refl _ y).ev (by simp) 0).recAt (by simp) _ _ _ _ _
    refine ⟨⟨(hw.imgState (by decide) k).trans ((hy.imgState (by decide) k).trans hst), y.fl_ev_recd rfl (by decide) 0 _ _ _ _, ?_,
      by simp [hup, hv]⟩, hw.2.trans (hy.2.trans hset.2)⟩
    exact (Dev.fl_congr ((hw.1 _ 0 (by decide)).trans ((hy.1 _ 0 (by decide)).trans (hset.1 _ 0 (by decide))))).trans hdl

/-- A block before the last. -/
theorem exec_refreshBlock_more {s : State} {x : Nat} (hx : s.expiring) (hdue : refreshBlockDue s.atTimers.dev = true)
    (hrefr : s.atTimers.dev.up.refr = some x) (hlt : x < 262143) (k : StoreCase) :
    ∃ t : State, exec (.refreshBlock k) s = .next t ∧ t.pending = s.pending ∧ t.sys.dev.up.refr = some (x + 1) ∧
      t.sys.dev.up.refrAt = t.sys.dev.cur ∧ (k = .fine → t.sys.nv = s.atTimers.nv ∧
      t.sys.dev.rd NV_CORR = s.atTimers.dev.rd NV_CORR) ∧ (k = .corrected → t.sys.dev.rd NV_CORR = incSat NV_CORR.w
      (s.atTimers.dev.rd NV_CORR) ∧ t.sys.dev.fl NV_EVT_CORR = true) := by
  have heq := refreshBlock_eq hrefr k
  obtain ⟨-, hbs⟩ := storeCase_dev s.atTimers k
  obtain ⟨hmore, hat, hw⟩ := refreshed_more (storeCase s.atTimers k).2.dev hlt
  obtain ⟨t, he, hp, hd⟩ := completes_timedS (c := .refreshBlock k) (Q := fun x => x = refreshBlock s.atTimers k) refreshBlockDue
    (fun s => refreshBlock s k) rfl hx hdue (by rw [heq, Sys.on_dev, hw.2, hbs]; exact hx.2.2) rfl
  refine ⟨t, he, hp, ?_⟩
  rw [hd, heq, Sys.on_dev, Sys.on_nv]
  refine ⟨hmore, hat, ?_, ?_⟩
  · rintro rfl
    exact ⟨rfl, hw.1 _ 0 (by decide)⟩
  · rintro rfl
    obtain ⟨hcnt, hev⟩ := storeCase_corrected s.atTimers
    exact ⟨(hw.1 _ 0 (by decide)).trans hcnt, (Dev.fl_congr (hw.1 _ 0 (by decide))).trans hev⟩

/-- A verification ends: the verdict, the versions shown, the end of its hole, and its completions. -/
theorem updVerified_facts {s : Sys} {x : List HCtx × Nat} (h : s.dev.up.verify = some x) :
    VerdictShown (idleSlot s.dev) (verifyImage s (idleSlot s.dev)) (updVerified s).dev ∧ (updVerified s).dev.bs = s.dev.bs ∧
      (updVerified s).nv = s.nv := by
  obtain ⟨cs, hole⟩ := x
  unfold updVerified
  rw [h]
  extract_lets k res s1 s2 s3
  have hres : verifyImage s (idleSlot s.dev) = res := rfl
  have hk : idleSlot s.dev = k := rfl
  rw [hres, hk]
  have h1 : s1.dev.fl UP_STATUS_DLOPEN = false ∧ s1.dev.up.verify = none ∧ s1.dev.bs = s.dev.bs ∧ s1.nv = s.nv :=
    ⟨Dev.fl_wrB _ UP_STATUS_DLOPEN 0 false rfl, rfl, rfl, rfl⟩
  obtain ⟨hdl, hv, hbs1, hnv1⟩ := h1
  clear_value res k s1
  obtain ⟨hshown, hbs2⟩ := imageVerdict_shown k res hdl hv
  have h2 : s2.dev = imageVerdict s1.dev k res := by cases res <;> rfl
  rw [← h2] at hshown hbs2
  have hnv2 : s2.nv = s1.nv := rfl
  clear_value s2
  have h3 : UpdateKept [UP_VER_OTHER.id] s2.dev s3.dev := ⟨(WritesOnly.refl _ _).wr (by simp) _ _, rfl⟩
  have hnv3 : s3.nv = s2.nv := rfl
  clear_value s3
  have hend := holeEnd_kept s3.dev hole (if res.isNone = true then 0 else 1)
  have hall := completeAll_kept (holeEnd s3.dev hole (if res.isNone = true then 0 else 1)) cs
    (if res.isNone = true then stSuccess else stVerify) 0
  refine ⟨((hshown.of_kept h3 (by decide)).of_kept hend (by decide)).of_kept hall (by simp), ?_, hnv3.trans (hnv2.trans hnv1)⟩
  exact hall.1.2.trans (hend.1.2.trans (h3.1.2.trans (hbs2.trans hbs1)))

/-! ### The statement -/

/-- Settles O33: each clause from what its function leaves. -/
theorem storeAndImagesAreKept : Obligations.StoreAndImagesAreKept := by
  unfold Obligations.StoreAndImagesAreKept
  refine ⟨?start, ?now, ?nowBusy, ?block, ?lastBlock, ?verified, ?confirm, ?fallback, ?cmdConfirm⟩
  case start =>
    intro s hx hdue
    have hnone : s.atTimers.dev.up.refr = none := by
      simp only [refreshDue, Bool.and_eq_true, Option.isNone_iff_eq_none] at hdue
      exact hdue.1
    obtain ⟨hbusy, hrefr, hbs, hk⟩ := refreshStart_first hnone
    obtain ⟨t, he, hp, hd⟩ := exec_timed (c := .refreshStart) (f := refreshStart) rfl hx hdue (by rw [hbs]; exact hx.2.2)
    rw [← hd] at hbusy hrefr hk
    exact ⟨t, he, hp, hbusy, hrefr, hk⟩
  case now =>
    intro s a ht ha hk hnone
    obtain ⟨hbusy, hrefr, hbs, hkeep⟩ := refreshStart_first (d := handOver s.atCommands.dev) hnone
    obtain ⟨t, he, hp, hd⟩ := exec_wordCmd (c := .nvCmdRefrnow a) (f := refreshStart) rfl ht ha hk
      (by rw [hbs, handOver_bs]; exact ht.2.1.2.2)
    rw [← hd] at hbusy hrefr hkeep
    exact ⟨t, he, hp, hbusy, hrefr, fun r ix h => hkeep r ix h⟩
  case nowBusy =>
    intro s a ht ha hk hsome
    have heq := refreshStart_busy (d := handOver s.atCommands.dev) hsome
    obtain ⟨t, he, hp, hd⟩ := exec_wordCmd (c := .nvCmdRefrnow a) (f := refreshStart) rfl ht ha hk
      (by rw [heq, handOver_bs]; exact ht.2.1.2.2)
    rw [heq] at hd
    exact ⟨t, he, hp, by rw [hd]; exact ⟨rfl, fun _ _ _ => rfl⟩⟩
  case block => exact fun s k x hx hdue hrefr hlt => exec_refreshBlock_more hx hdue hrefr hlt k
  case lastBlock =>
    intro s k hx hdue hrefr
    have heq := refreshBlock_eq hrefr k
    obtain ⟨-, hbs⟩ := storeCase_dev s.atTimers k
    obtain ⟨hnone, hage, hbusy, hdone, hrbs⟩ := refreshed_last (storeCase s.atTimers k).2.dev
    obtain ⟨t, he, hp, hd⟩ := completes_timedS (c := .refreshBlock k) (Q := fun x => x = refreshBlock s.atTimers k) refreshBlockDue
      (fun s => refreshBlock s k) rfl hx hdue (by rw [heq, Sys.on_dev, hrbs, hbs]; exact hx.2.2) rfl
    refine ⟨t, he, hp, ?_⟩
    rw [hd, heq, Sys.on_dev]
    exact ⟨hnone, hage, hbusy, hdone⟩
  case verified =>
    intro s x hq hv hm
    obtain ⟨⟨hst, hev, hdl, hnone⟩, hbs, hnv⟩ := updVerified_facts hv
    have heq : (if s.sys.dev.fl GL_STATUS_MHALT then s.sys else Sys2Proof.Machine.updVerified s.sys) = Sys2Proof.Machine.updVerified s.sys :=
      if_neg (by simp [hm])
    obtain ⟨t, he, hp, hd⟩ := exec_latchedS (c := .updVerified)
      (f := fun s => if s.dev.fl GL_STATUS_MHALT then s else Sys2Proof.Machine.updVerified s) rfl hq.1 (by rw [heq, hbs]; exact hq.2)
    rw [← heq, ← hd] at hst hev hdl hnone hnv
    exact ⟨t, he, hp, hst, hev, hdl, hnone, hnv⟩
  case confirm =>
    intro s hx hdue hk
    obtain ⟨hst, hfloor, htrial, hev, hbs, hkeep⟩ := updConfirm_facts hk
    obtain ⟨t, he, hp, hd⟩ := exec_timed (c := .updConfirm) (f := updConfirm) rfl hx hdue (by rw [hbs]; exact hx.2.2)
    rw [← hd] at hst hfloor htrial hev hkeep
    exact ⟨t, he, hp, hst, hfloor, htrial, hev, hkeep⟩
  case fallback =>
    intro s hx hdue
    obtain ⟨hst, htrial, hev, hfail, hbs, hkeep⟩ := trialFailed_facts s.atTimers.dev (runSlot s.atTimers.dev)
    obtain ⟨t, he, hp, hd⟩ := exec_timed (c := .updFallback) (f := fun d => trialFailed d (runSlot d)) rfl hx hdue
      (by rw [hbs]; exact hx.2.2)
    rw [← hd] at hst htrial hev hfail hkeep
    exact ⟨t, he, hp, hst, htrial, hev, hfail, hkeep⟩
  case cmdConfirm =>
    intro s a ht ha hk
    obtain ⟨t, he, hp, hd⟩ := exec_wordCmd (c := .upCmdConfirm a) (f := upCmdConfirm) rfl ht ha hk ht.2.1.2.2
    exact ⟨t, he, hp, by rw [hd]; exact ⟨rfl, fun _ _ _ => rfl⟩⟩

end Sys2Proof.Machine
end

section
/-! PROOFS about the stage relay (R358 to R361). -/

namespace Sys2Proof.Machine
open R

/-! ### The update function beside a release (R360) -/

theorem forIx_up (n : Nat) (f : Nat → Dev → Dev) (d : Dev) (hf : ∀ i x, (f i x).up = x.up) : (forIx n f d).up = d.up :=
  foldl_keeps Dev.up (fun x i => f i x) (fun x i => hf i x) (List.range n) d

theorem forL_up {β : Type} (l : List β) (f : β → Dev → Dev) (d : Dev) (hf : ∀ b x, (f b x).up = x.up) : (forL l f d).up = d.up :=
  foldl_keeps Dev.up (fun x b => f b x) (fun x b => hf b x) l d

@[simp] theorem slotForce_up (d : Dev) (s : Nat) (f : Option Bool) : (slotForce d s f).up = d.up := by
  unfold slotForce
  dsimp only
  split <;> rfl

@[simp] theorem startInMan_up (d : Dev) (s : Nat) (man : Bool) : (startInMan d s man).up = d.up := by
  unfold startInMan
  split
  · split <;> rfl
  · rfl

@[simp] theorem slotHold_up (d : Dev) (s b : Nat) (on : Bool) : (slotHold d s b on).up = d.up := by simp [slotHold]

@[simp] theorem legHold_up (d : Dev) (k b : Nat) (on : Bool) : (legHold d k b on).up = d.up := by
  unfold legHold
  split <;> simp

@[simp] theorem legWeights_up (d : Dev) : (legWeights d).up = d.up :=
  forIx_up _ _ _ fun k x => by split <;> rfl

@[simp] theorem legOut_up (d : Dev) (k pm : Nat) : (legOut d k pm).up = d.up := by
  unfold legOut
  split
  · rfl
  · simp

@[simp] theorem joinTrims_up (d : Dev) (n old new : Nat) : (joinTrims d n old new).up = d.up :=
  forL_up _ _ _ fun h x => by split <;> rfl

@[simp] theorem setMask_up (d : Dev) (n mask : Nat) : (setMask d n mask).up = d.up := by
  unfold setMask
  dsimp only
  split
  · rfl
  · simp

/-- An operation that keeps the rounds, and asks for no shed. -/
def RoundsKept (d e : Dev) : Prop := e.up = d.up ∧ e.bs.shedReq = d.bs.shedReq

theorem RoundsKept.refl (d : Dev) : RoundsKept d d := ⟨rfl, rfl⟩

theorem RoundsKept.of_view {d e : Dev} (hup : e.up = d.up) (h : e.ringView = d.ringView) : RoundsKept d e :=
  ⟨hup, congrArg (fun v => v.2.2) h⟩

theorem railRelease_kept (d : Dev) (n c : Nat) : RoundsKept d (railRelease d n c).2 := by
  unfold railRelease
  extract_lets h st m left
  split
  · exact .refl d
  · split
    · exact .refl d
    · split
      · exact .of_view (by simp) (by simp (disch := decide) [Dev.inc])
      · exact .refl d

/-- The owner's release keeps the rounds. -/
theorem ownerRelease_kept (d : Dev) (c : Nat) : RoundsKept d (ownerRelease d c).2 := by
  unfold ownerRelease
  extract_lets u st chg
  split
  · exact .refl d
  · split
    case h_1 => exact railRelease_kept ..
    case h_2 => exact railRelease_kept ..
    case h_6 =>
      split
      · exact .of_view (legOut_up ..) (legOut_ringView ..)
      · exact .refl d
    all_goals exact .refl d

theorem setCond_up (d : Dev) (r : Reg) (c : Nat) (b : Bool) : (setCond d r c b).up = d.up := by
  unfold setCond
  split
  · rfl
  · unfold healthEval
    dsimp only
    split <;> rfl

theorem issue_parts (d : Dev) (c opc arg : Nat) : (issue d c opc arg).regs = d.regs ∧ (issue d c opc arg).up = d.up ∧
    (issue d c opc arg).bs = d.bs ∧ (issue d c opc arg).tb = d.tb := by
  unfold issue
  dsimp only
  split
  · exact ⟨rfl, rfl, rfl, rfl⟩
  · exact ⟨rfl, rfl, rfl, rfl⟩

theorem Dev.rly_congr {d e : Dev} (h : e.up = d.up) (r : Nat) : e.rly r = d.rly r := by rw [Dev.rly, h]; rfl

/-! ### The release (R359, R360) -/

/-- A verified stage whose owner lets it go gets its write window. -/
theorem relayRelease_facts {d : Dev} {c : Nat} (hrun : rlyState d (c / 32) = 1) (hready : (d.rly (c / 32)).ready.any (fun y => y.1 == c) = true)
    (hfree : ((List.range 8).any (fun q => (d.rly q).window.any (fun w => ownerOf d w.1 == ownerOf d c))) = false)
    (hlen : (d.rly (c / 32)).window.length < 4) (hgo : (ownerRelease d c).1 = true) :
    ((relayRelease d c).rly (c / 32)).window.any (fun w => w.1 == c) = true ∧
      ((relayRelease d c).rly (c / 32)).ready = (d.rly (c / 32)).ready.filter (fun y => y.1 != c) ∧
      (relayRelease d c).fl CD_ENT_COND_UPD c = true ∧ (relayRelease d c).bs.shedReq = d.bs.shedReq := by
  obtain ⟨hup, hshed⟩ := ownerRelease_kept d c
  have hcond := setCond_fl (ownerRelease d c).2 (r := CD_ENT_COND_UPD) rfl (by decide) c true
  have hcup := setCond_up (ownerRelease d c).2 CD_ENT_COND_UPD c true
  have hcbs := setCond_bs (ownerRelease d c).2 CD_ENT_COND_UPD c true
  have hno : ¬(rlyState d (c / 32) ≠ 1 ∨ (!(d.rly (c / 32)).ready.any (fun y => y.1 == c)) = true ∨
      ((List.range 8).any (fun q => (d.rly q).window.any (fun w => ownerOf d w.1 == ownerOf d c))) = true ∨
      4 ≤ (d.rly (c / 32)).window.length) := by
    rw [hready, hfree]
    simp only [hrun, ne_eq, not_true_eq_false, Bool.not_true, Bool.false_eq_true, false_or, not_le]
    exact hlen
  unfold relayRelease
  extract_lets r x busy
  rw [if_neg hno]
  generalize ownerRelease d c = o at hgo hup hshed hcond hcup hcbs ⊢
  obtain ⟨go, e⟩ := o
  obtain rfl : go = true := hgo
  dsimp only at hup hshed hcond hcup hcbs
  simp only [Bool.not_true, Bool.false_eq_true, if_false]
  generalize setCond e CD_ENT_COND_UPD c true = f at hcond hcup hcbs
  have hissue : (issueRegWr f c 0x71 1).regs = f.regs ∧ (issueRegWr f c 0x71 1).up = f.up ∧ (issueRegWr f c 0x71 1).bs = f.bs ∧
    (issueRegWr f c 0x71 1).tb = f.tb := issue_parts ..
  generalize issueRegWr f c 0x71 1 = g at hissue
  obtain ⟨hregs, hgup, hgbs, -⟩ := hissue
  have hrly : g.rly r = d.rly r := Dev.rly_congr (hgup.trans (hcup.trans hup)) r
  rw [Dev.rly_setRly, hrly]
  refine ⟨by simp, rfl, ?_, ?_⟩
  · rw [Dev.setRly_fl]
    exact (Dev.fl_congr (Dev.rd_congr g f hregs _ _)).trans hcond
  · rw [Dev.setRly_bs, hgbs, hcbs, hshed]

end Sys2Proof.Machine
end

section
/-! PROOFS about the rounds of the stage relay: results, skips, stops and resumption (R359 to R361). -/

namespace Sys2Proof.Machine
open R

/-! ### The end of every round (R361) -/

/-- What the end of a round leaves: its own state, and of the others everything. -/
theorem relayEnd_facts (d : Dev) (r : Nat) : rlyState (relayEnd d r) r = 3 ∧ (relayEnd d r).fl UP_EVT_RLYEND = true ∧
    (∀ q, q ≠ r → rlyState (relayEnd d r) q = rlyState d q) ∧ (relayEnd d r).bs = d.bs := by
  unfold relayEnd
  extract_lets a ring b
  have hbr : b.rd UP_RLY_STATE r = 3 := Dev.rd_wr d UP_RLY_STATE r 3
  have hbq : ∀ q, q ≠ r → b.rd UP_RLY_STATE q = d.rd UP_RLY_STATE q := fun q h => Dev.rd_wr_ix d UP_RLY_STATE 3 h
  have hbs : b.bs = d.bs := rfl
  clear_value b
  have hw : ∀ pay, WritesOnly ([UP_EVT_RLYEND.id] ++ recIds) b ((b.ev UP_EVT_RLYEND).recd 0x0E0A 6 r pay) := fun pay =>
    ((WritesOnly.refl _ b).ev (by simp) 0).recAt (by simp) _ _ _ _ _
  exact ⟨((hw _).1 _ r (by decide)).trans hbr, b.fl_ev_recd rfl (by decide) 0 _ _ _ _,
    fun q h => ((hw _).1 _ q (by decide)).trans (hbq q h), (hw _).2.trans hbs⟩

/-- The round of a ring is running or paused. -/
def rlyLive (d : Dev) (r : Nat) : Prop := rlyState d r = 1 ∨ rlyState d r = 2

/-- A ring's round ends where it has one. -/
def stopRound (r : Nat) (d : Dev) : Dev := if rlyState d r = 1 ∨ rlyState d r = 2 then relayEnd d r else d

theorem stopRound_live {d : Dev} {r : Nat} (h : rlyLive d r) : rlyState (stopRound r d) r = 3 ∧ (stopRound r d).fl UP_EVT_RLYEND = true := by
  have heq : stopRound r d = relayEnd d r := if_pos h
  obtain ⟨hst, hev, -⟩ := relayEnd_facts d r
  rw [heq]
  exact ⟨hst, hev⟩

theorem stopRound_idle {d : Dev} {r : Nat} (h : ¬rlyLive d r) : stopRound r d = d := if_neg h

theorem stopRound_keeps (d : Dev) (r : Nat) : (∀ q, q ≠ r → rlyState (stopRound r d) q = rlyState d q) ∧
    (d.fl UP_EVT_RLYEND = true → (stopRound r d).fl UP_EVT_RLYEND = true) ∧ (stopRound r d).bs = d.bs := by
  by_cases h : rlyLive d r
  · have heq : stopRound r d = relayEnd d r := if_pos h
    obtain ⟨-, hev, hq, hbs⟩ := relayEnd_facts d r
    rw [heq]
    exact ⟨hq, fun _ => hev, hbs⟩
  · rw [stopRound_idle h]
    exact ⟨fun _ _ => rfl, id, rfl⟩

/-- What the stops of the rings of a list leave. -/
theorem stopRounds_keeps (l : List Nat) (d : Dev) : (∀ q, q ∉ l → rlyState (forL l stopRound d) q = rlyState d q) ∧
    (d.fl UP_EVT_RLYEND = true → (forL l stopRound d).fl UP_EVT_RLYEND = true) ∧ (forL l stopRound d).bs = d.bs := by
  unfold forL
  induction l generalizing d with
  | nil => exact ⟨fun _ _ => rfl, id, rfl⟩
  | cons r l ih =>
    obtain ⟨hq, hev, hbs⟩ := stopRound_keeps d r
    obtain ⟨iq, iev, ibs⟩ := ih (stopRound r d)
    refine ⟨fun q h => ?_, fun h => iev (hev h), ibs.trans hbs⟩
    rw [List.mem_cons, not_or] at h
    exact (iq q h.2).trans (hq q h.1)

/-- A ring of the list: its round has ended, or it had none. -/
theorem stopRounds_mem {l : List Nat} (hl : l.Nodup) (d : Dev) {r : Nat} (h : r ∈ l) :
    (rlyLive d r → rlyState (forL l stopRound d) r = 3 ∧ (forL l stopRound d).fl UP_EVT_RLYEND = true) ∧
      (¬rlyLive d r → rlyState (forL l stopRound d) r = rlyState d r) := by
  induction l generalizing d with
  | nil => exact absurd h List.not_mem_nil
  | cons x l ih =>
    rw [List.nodup_cons] at hl
    obtain ⟨hx, hnd⟩ := hl
    have heq : forL (x :: l) stopRound d = forL l stopRound (stopRound x d) := rfl
    rw [heq]
    by_cases hxr : x = r
    · subst hxr
      obtain ⟨hq, hev, -⟩ := stopRounds_keeps l (stopRound x d)
      refine ⟨fun hlive => ?_, fun hidle => ?_⟩
      · obtain ⟨hst, hshown⟩ := stopRound_live hlive
        exact ⟨(hq x hx).trans hst, hev hshown⟩
      · rw [hq x hx, stopRound_idle hidle]
    · obtain ⟨hlive, hidle⟩ := ih hnd (stopRound x d) ((List.mem_cons.mp h).resolve_left (Ne.symm hxr))
      have hsame : rlyState (stopRound x d) r = rlyState d r := (stopRound_keeps d x).1 r (Ne.symm hxr)
      unfold rlyLive at hlive hidle ⊢
      rw [hsame] at hlive hidle
      exact ⟨hlive, hidle⟩

theorem relayStop_eq (d : Dev) : relayStop d = forL (List.range 8) stopRound d := rfl

/-! ### Results (R359) -/

theorem not_lost {b : Bool} (h : b = true) : ¬(!b) = true := by simp [h]

/-- A stage that is awaited and verifies becomes a source and waits for its release. -/
theorem relayVerify_good {d : Dev} {r p : Nat} {vs : List (Nat × Nat)} (hv : (d.rg r).vers = (p, 0) :: vs) (hst : rlyState d r = 1)
    (haw : (d.rly r).await.contains (r * 32 + p) = true) :
    ((relayVerify d r).rg r).vers = vs ∧
      ((relayVerify d r).rly r).ready = (d.rly r).ready ++ [(r * 32 + p, (relayVerify d r).cur)] ∧
      ((relayVerify d r).rly r).sources = (d.rly r).sources ++ [r * 32 + p] ∧ (relayVerify d r).bs = d.bs ∧
      KeepsBut [] d (relayVerify d r) := by
  unfold relayVerify
  split
  next h => exact absurd (hv.symm.trans h) (by simp)
  next p' k' vs' h =>
    obtain ⟨⟨rfl, rfl⟩, rfl⟩ : (p = p' ∧ 0 = k') ∧ vs = vs' := by simpa using hv.symm.trans h
    extract_lets ring y c x
    have hvers : (y.rg r).vers = vs := congrArg RingSt.vers (Dev.rg_setRg ..)
    have hyst : rlyState y r = 1 := hst
    have hx : x = d.rly r := rfl
    have hyaw : x.await.contains c = true := haw
    have hk : KeepsBut [] d y := (KeepsBut.refl _ d).setRg _ _
    have hcur : y.cur = d.cur := rfl
    have hbs : y.bs = d.bs := rfl
    clear_value y x
    rw [if_neg (not_or.mpr ⟨not_not.mpr hyst, not_lost hyaw⟩), if_pos rfl, Dev.rly_setRly, ← hx]
    exact ⟨hvers, rfl, rfl, hbs, hk.setRly _ _⟩

/-- A stage that is awaited and does not verify has failed. -/
theorem relayVerify_bad {d : Dev} {r p k : Nat} {vs : List (Nat × Nat)} (hv : (d.rg r).vers = (p, k) :: vs) (hk : k ≠ 0)
    (hst : rlyState d r = 1) (haw : (d.rly r).await.contains (r * 32 + p) = true) :
    relayVerify d r = relayFail (d.setRg r { d.rg r with vers := vs }) r (r * 32 + p) := by
  unfold relayVerify
  split
  next h => exact absurd (hv.symm.trans h) (by simp)
  next p' k' vs' h =>
    obtain ⟨⟨rfl, rfl⟩, rfl⟩ : (p = p' ∧ k = k') ∧ vs = vs' := by simpa using hv.symm.trans h
    extract_lets ring y c x
    have hyst : rlyState y r = 1 := hst
    have hyaw : x.await.contains c = true := haw
    rw [if_neg (not_or.mpr ⟨not_not.mpr hyst, not_lost hyaw⟩), if_neg hk]

/-- The fields that a failed stage writes. -/
def stageFailFields (r : Nat) : List (Reg × Nat) := [(UP_RLY_NFAIL, r), (UP_EVT_RLYSTAGE, 0)] ++ recFields

theorem relayRec_keepsBut {l : List (Reg × Nat)} {a d : Dev} (h : KeepsBut l a d) (hev : (UP_EVT_RLYSTAGE, 0) ∈ l)
    (hrec : ∀ x ∈ recFields, x ∈ l) (c : Nat) : KeepsBut l a (relayRec d c) := (h.ev _ _ hev).recd _ _ _ _ hrec

theorem relayRec_parts (d : Dev) (c : Nat) : (relayRec d c).fl UP_EVT_RLYSTAGE = true ∧
    WritesOnly ([UP_EVT_RLYSTAGE.id] ++ recIds) d (relayRec d c) ∧ (relayRec d c).up = d.up ∧ (relayRec d c).ring = d.ring :=
  ⟨d.fl_ev_recd rfl (by decide) 0 _ _ _ _, ((WritesOnly.refl _ d).ev (by simp) 0).recAt (by simp) _ _ _ _ _,
    by simp [relayRec], by simp [relayRec]⟩

/-- A stage that fails is counted and recorded. -/
theorem relayFail_facts (d : Dev) (r c : Nat) : (relayFail d r c).rd UP_RLY_NFAIL r = incSat UP_RLY_NFAIL.w (d.rd UP_RLY_NFAIL r) ∧
    (relayFail d r c).fl UP_EVT_RLYSTAGE = true ∧ ((relayFail d r c).rly r).ready = (d.rly r).ready ∧
    (relayFail d r c).ring = d.ring ∧ (relayFail d r c).bs = d.bs ∧ KeepsBut (stageFailFields r) d (relayFail d r c) := by
  unfold relayFail
  extract_lets x y
  have hready : y.ready = (d.rly r).ready := rfl
  clear_value y
  have hcnt : ((d.inc UP_RLY_NFAIL r).setRly r y).rd UP_RLY_NFAIL r = incSat UP_RLY_NFAIL.w (d.rd UP_RLY_NFAIL r) := by
    rw [Dev.setRly_rd, Dev.inc, Dev.rd_wr, incSat_mod]
  have hk : KeepsBut (stageFailFields r) d ((d.inc UP_RLY_NFAIL r).setRly r y) :=
    ((KeepsBut.refl _ d).wr _ _ _ (by simp [stageFailFields])).setRly _ _
  have hrly : ((d.inc UP_RLY_NFAIL r).setRly r y).rly r = y := Dev.rly_setRly ..
  have hring : ((d.inc UP_RLY_NFAIL r).setRly r y).ring = d.ring := rfl
  have hbs : ((d.inc UP_RLY_NFAIL r).setRly r y).bs = d.bs := rfl
  generalize (d.inc UP_RLY_NFAIL r).setRly r y = z at hcnt hk hrly hring hbs ⊢
  obtain ⟨hev, hw, hup, hzr⟩ := relayRec_parts z c
  refine ⟨(hw.1 _ r (by decide)).trans hcnt, hev, ?_, hzr.trans hring, hw.2.trans hbs,
    relayRec_keepsBut hk (by simp [stageFailFields]) (fun _ => List.mem_append_right _) c⟩
  rw [Dev.rly_congr hup, hrly, hready]

/-! ### Write windows and skips (R359, R360) -/

/-- The end of a window: the stage is identified again. -/
theorem writeDone_facts (d : Dev) (c : Nat) :
    ((writeDone d c).rly (c / 32)).window = (d.rly (c / 32)).window.filter (fun w => w.1 != c) ∧
      ((writeDone d c).rly (c / 32)).reids = (d.rly (c / 32)).reids ++ [c] ∧ ((writeDone d c).chn c).reiding = true ∧
      (writeDone d c).bs = d.bs := by
  unfold writeDone
  extract_lets r x y chan z
  have hrly : y.rly r = { x with window := x.window.filter (fun w => w.1 != c), reids := x.reids ++ [c] } := Dev.rly_setRly ..
  have hbs : y.bs = d.bs := rfl
  clear_value y
  have hzrly : z.rly r = y.rly r := rfl
  have hzbs : z.bs = y.bs := rfl
  have hchn : (z.chn c).reiding = true := congrArg ChanSt.reiding (Dev.chn_setCh ..)
  clear_value z
  have hissue : ((issue z c 0x04 0).chn c).reiding = true := by
    unfold issue
    dsimp only
    split
    · exact hchn
    · rw [Dev.chn_setCh]
      exact hchn
  obtain ⟨-, hup, hibs, -⟩ := issue_parts z c 0x04 0
  have hirly : (issue z c 0x04 0).rly r = { x with window := x.window.filter (fun w => w.1 != c), reids := x.reids ++ [c] } :=
    (Dev.rly_congr hup r).trans (hzrly.trans hrly)
  exact ⟨congrArg RelaySt.window hirly, congrArg RelaySt.reids hirly, hissue, hibs.trans (hzbs.trans hbs)⟩

/-- The fields that a skipped stage writes. -/
def stageSkipFields (r : Nat) : List (Reg × Nat) := [(UP_RLY_NSKIP, r), (UP_EVT_RLYSTAGE, 0)] ++ recFields

theorem relaySkip_facts (d : Dev) (c : Nat) :
    (relaySkip d c).rd UP_RLY_NSKIP (c / 32) = incSat UP_RLY_NSKIP.w (d.rd UP_RLY_NSKIP (c / 32)) ∧
      (relaySkip d c).fl UP_EVT_RLYSTAGE = true ∧
      ((relaySkip d c).rly (c / 32)).ready = (d.rly (c / 32)).ready.filter (fun y => y.1 != c) ∧ (relaySkip d c).bs = d.bs ∧
      KeepsBut (stageSkipFields (c / 32)) d (relaySkip d c) := by
  unfold relaySkip
  extract_lets r x
  have hcnt : ((d.inc UP_RLY_NSKIP r).setRly r { x with ready := x.ready.filter (fun y => y.1 != c) }).rd UP_RLY_NSKIP r =
      incSat UP_RLY_NSKIP.w (d.rd UP_RLY_NSKIP r) := by
    rw [Dev.setRly_rd, Dev.inc, Dev.rd_wr, incSat_mod]
  have hk : KeepsBut (stageSkipFields r) d ((d.inc UP_RLY_NSKIP r).setRly r { x with ready := x.ready.filter (fun y => y.1 != c) }) :=
    ((KeepsBut.refl _ d).wr _ _ _ (by simp [stageSkipFields])).setRly _ _
  have hrly : (((d.inc UP_RLY_NSKIP r).setRly r { x with ready := x.ready.filter (fun y => y.1 != c) }).rly r).ready =
      (d.rly r).ready.filter (fun y => y.1 != c) := congrArg RelaySt.ready (Dev.rly_setRly ..)
  have hbs : ((d.inc UP_RLY_NSKIP r).setRly r { x with ready := x.ready.filter (fun y => y.1 != c) }).bs = d.bs := rfl
  generalize (d.inc UP_RLY_NSKIP r).setRly r { x with ready := x.ready.filter (fun y => y.1 != c) } = z at hcnt hk hrly hbs ⊢
  obtain ⟨hev, hw, hup, -⟩ := relayRec_parts z c
  refine ⟨(hw.1 _ _ (by decide)).trans hcnt, hev, ?_, hw.2.trans hbs,
    relayRec_keepsBut hk (by simp [stageSkipFields, r]) (fun _ => List.mem_append_right _) c⟩
  exact (congrArg RelaySt.ready (Dev.rly_congr hup _)).trans hrly

/-! ### Resumption (R361) -/

/-- A paused round goes on with what is left of it. -/
theorem relayResume_facts {s : Sys} {r : Nat} (hst : rlyState s.dev r = 2) (hring : ringState s.dev r = rgRun) :
    rlyState (relayResume s r).dev r = 1 ∧ (relayResume s r).dev.rly r = relayRest s r ∧ (relayResume s r).dev.bs = s.dev.bs ∧
      KeepsBut [(UP_RLY_STATE, r)] s.dev (relayResume s r).dev ∧ (relayResume s r).nv = s.nv := by
  have heq : relayResume s r = s.on (fun d => (d.wr UP_RLY_STATE r 1).setRly r (relayRest s r)) := if_neg (by simp [hst, hring])
  rw [heq, Sys.on_dev]
  exact ⟨Dev.rd_wr s.dev UP_RLY_STATE r 1, Dev.rly_setRly .., rfl, ((KeepsBut.refl _ s.dev).wr _ _ _ (by simp)).setRly _ _, rfl⟩

/-- With the buffers kept, a round goes on with the stages still to be filled and the verified ones. -/
theorem relayRest_bufs {s : Sys} {r : Nat} (h : (s.dev.rg r).bufs = true) : relayRest s r =
    { types := (s.dev.rly r).types,
      todo := (s.dev.rly r).todo.filter (fun c => (includedOn s r (s.dev.rd UP_RLY_TYPE r)).contains c),
      sources := (s.dev.rly r).sources,
      ready := ((s.dev.rly r).ready.filter (fun y => (includedOn s r (s.dev.rd UP_RLY_TYPE r)).contains y.1)).map
        (fun y => (y.1, s.dev.cur)) } := if_pos h

/-! ### The statement -/

theorem exec_upCmdRlystop {s : State} {a : Accessor} (ht : s.turn) (ha : a ≠ .sp) (hk : writeKind s.sys.dev (accIx a) 0xB824 2 = 0) :
    ∃ t : State, exec (.upCmdRlystop a) s = .next t ∧ t.pending = s.pending ∧
      (∀ r : Fin 8, rlyLive s.atCommands.dev r.val → rlyState t.sys.dev r.val = 3 ∧ t.sys.dev.fl UP_EVT_RLYEND = true) ∧
      (∀ r : Fin 8, ¬rlyLive s.atCommands.dev r.val → rlyState t.sys.dev r.val = rlyState s.atCommands.dev r.val) := by
  obtain ⟨-, -, hbs⟩ := stopRounds_keeps (List.range 8) (handOver s.atCommands.dev)
  have hrings : ∀ r : Fin 8, _ := fun r => stopRounds_mem List.nodup_range (handOver s.atCommands.dev) (List.mem_range.mpr r.isLt)
  obtain ⟨t, he, hp, hd⟩ := exec_wordCmd (c := .upCmdRlystop a) (f := relayStop) rfl ht ha hk
    (by rw [relayStop_eq, hbs, handOver_bs]; exact ht.2.1.2.2)
  rw [relayStop_eq] at hd
  rw [← hd] at hrings
  exact ⟨t, he, hp, fun r => (hrings r).1, fun r => (hrings r).2⟩

/-- The result of a ring's verification is taken. -/
theorem exec_relayVerify {s : State} {r : Fin 8} {p k : Nat} {vs : List (Nat × Nat)} (hq : s.sys.dev.quiet)
    (hv : (s.sys.dev.rg r.val).vers = (p, k) :: vs) (hbs : (relayVerify s.sys.dev r.val).bs = s.sys.dev.bs) :
    ∃ t : State, exec (.relayVerifyResult r) s = .next t ∧ t.pending = s.pending ∧ t.sys.dev = relayVerify s.sys.dev r.val :=
  exec_takes (has := fun d => !(d.rg r.val).vers.isEmpty) (f := fun d => relayVerify d r.val) rfl hq.1 (by simp [hv])
    (by rw [hbs]; exact hq.2)

/-- A paused round on a running ring goes on. -/
theorem exec_relayResume {s : State} {r : Fin 8} (hq : s.sys.dev.quiet) (hst : rlyState s.sys.dev r.val = 2)
    (hring : ringState s.sys.dev r.val = rgRun) (hm : s.sys.dev.fl GL_STATUS_MHALT = false) :
    ∃ t : State, exec (.relayResume r) s = .next t ∧ t.pending = s.pending ∧ rlyState t.sys.dev r.val = 1 ∧
      t.sys.dev.rly r.val = relayRest s.sys r.val ∧ KeepsBut [(UP_RLY_STATE, r.val)] s.sys.dev t.sys.dev ∧ t.sys.nv = s.sys.nv := by
  obtain ⟨hrun, hrly, hbs, hk, hnv⟩ := relayResume_facts hst hring
  have heq : (if s.sys.dev.fl GL_STATUS_MHALT then s.sys else Sys2Proof.Machine.relayResume s.sys r.val) =
      Sys2Proof.Machine.relayResume s.sys r.val := if_neg (by simp [hm])
  obtain ⟨t, he, hp, hd⟩ := exec_latchedS (c := .relayResume r)
    (f := fun s => if s.dev.fl GL_STATUS_MHALT then s else Sys2Proof.Machine.relayResume s r.val) rfl hq.1 (by rw [heq, hbs]; exact hq.2)
  rw [heq] at hd
  rw [← hd] at hrun hrly hk hnv
  exact ⟨t, he, hp, hrun, hrly, hk, hnv⟩

/-- Settles O34: each clause from what its function leaves; the stop ring by ring. -/
theorem relaysFillAndRelease : Obligations.RelaysFillAndRelease := by
  unfold Obligations.RelaysFillAndRelease
  refine ⟨?stop, ?verified, ?failed, ?release, ?written, ?skipped, ?resumed, ?kept⟩
  case stop =>
    intro s a ht ha hk
    obtain ⟨t, he, hp, hlive, hidle⟩ := exec_upCmdRlystop ht ha hk
    exact ⟨t, he, hp, hlive, fun r h1 h2 => hidle r (not_or.mpr ⟨h1, h2⟩)⟩
  case verified =>
    intro s r p vs hq hv hst haw
    obtain ⟨hvers, hready, hsrc, hbs, hk⟩ := relayVerify_good hv hst haw
    obtain ⟨t, he, hp, hd⟩ := exec_relayVerify hq hv hbs
    rw [← hd] at hvers hready hsrc hk
    exact ⟨t, he, hp, hvers, hready, hsrc, hk⟩
  case failed =>
    intro s r p k vs hq hv hk hst haw
    have heq := relayVerify_bad hv hk hst haw
    obtain ⟨hcnt, hev, hready, hring, hbs, hkeep⟩ := relayFail_facts (s.sys.dev.setRg r.val { s.sys.dev.rg r.val with vers := vs }) r.val
      (r.val * 32 + p)
    rw [← heq] at hcnt hev hready hring hbs hkeep
    obtain ⟨t, he, hp, hd⟩ := exec_relayVerify hq hv hbs
    rw [← hd] at hcnt hev hready hring hkeep
    refine ⟨t, he, hp, ?_, hcnt, hev, hready, fun x ix h => hkeep x ix h⟩
    have hrg : t.sys.dev.rg r.val = { s.sys.dev.rg r.val with vers := vs } := by
      rw [Dev.rg, hring]
      exact Dev.rg_setRg ..
    rw [hrg]
  case release =>
    intro s c hq hst hready hfree hlen hgo
    obtain ⟨hwin, hrest, hupd, hshed⟩ := relayRelease_facts hst hready hfree hlen hgo
    obtain ⟨t, he, hp, hd⟩ := exec_latched (c := .relayRelease c) (f := fun d => relayRelease d c.val) rfl hq.1 (by rw [hshed]; exact hq.2)
    rw [← hd] at hwin hrest hupd
    exact ⟨t, he, hp, hwin, hrest, hupd⟩
  case written =>
    intro s c hx hdue
    obtain ⟨hwin, hreids, hreiding, hbs⟩ := writeDone_facts s.atTimers.dev c.val
    obtain ⟨t, he, hp, hd⟩ := exec_timed (c := .relayWriteDone c) (f := fun d => writeDone d c.val) rfl hx hdue (by rw [hbs]; exact hx.2.2)
    rw [← hd] at hwin hreids hreiding
    exact ⟨t, he, hp, hwin, hreids, hreiding⟩
  case skipped =>
    intro s c hx hdue
    obtain ⟨hcnt, hev, hready, hbs, hk⟩ := relaySkip_facts s.atTimers.dev c.val
    obtain ⟨t, he, hp, hd⟩ := exec_timed (c := .relaySkip c) (f := fun d => relaySkip d c.val) rfl hx hdue (by rw [hbs]; exact hx.2.2)
    rw [← hd] at hcnt hev hready hk
    exact ⟨t, he, hp, hcnt, hev, hready, hk⟩
  case resumed =>
    intro s r hq hst hring hm hbufs
    obtain ⟨t, he, hp, hrun, hrly, hk, hnv⟩ := exec_relayResume hq hst hring hm
    have hrest : relayRest s.sys r.val =
        { types := (s.sys.dev.rly r.val).types, todo := includedOn s.sys r.val (s.sys.dev.rd UP_RLY_TYPE r.val) } := if_neg (by simp [hbufs])
    rw [hrest] at hrly
    exact ⟨t, he, hp, hrun, by rw [hrly], by rw [hrly], hk, hnv⟩
  case kept =>
    intro s r hq hst hring hm hbufs
    obtain ⟨t, he, hp, hrun, hrly, hk, hnv⟩ := exec_relayResume hq hst hring hm
    have hrest := relayRest_bufs hbufs
    rw [hrest] at hrly
    refine ⟨t, he, hp, hrun, by rw [hrly], by rw [hrly], ?_, by rw [hrly], hk, hnv⟩
    intro y hy hin
    rw [hrly]
    exact List.mem_map.mpr ⟨y, List.mem_filter.mpr ⟨hy, hin⟩, rfl⟩

end Sys2Proof.Machine
end

section
/-! PROOFS about the margin planner: its periods, and the answers to its plans (R274 to R282). -/

namespace Sys2Proof.Machine
open R

/-- A new state of the planner leaves every field. -/
theorem Dev.withMp_rd (d : Dev) (x : MpSt) (r : Reg) (ix : Nat) : ({ d with mp := x } : Dev).rd r ix = d.rd r ix := rfl
theorem Dev.withMp_fl (d : Dev) (x : MpSt) (r : Reg) (ix : Nat) : ({ d with mp := x } : Dev).fl r ix = d.fl r ix := rfl

/-! ### The results of a period (R274) -/

/-- What forming results leaves: the fields, the shelf, the time, and the times of the period. -/
def planView (d : Dev) : Tbl (Tbl Nat) × ShelfSt × TimeBase × Nat × Bool := (d.regs, d.bs, d.tb, d.mp.since, d.mp.runNow)

theorem mpForm_view (d : Dev) (qty obj : Nat) (v : Option Int) : planView (mpForm d qty obj v) = planView d := by
  unfold mpForm
  split
  · rfl
  · unfold mpStale
    split <;> rfl

theorem forIx_view (n : Nat) (f : Nat → Dev → Dev) (d : Dev) (hf : ∀ i x, planView (f i x) = planView x) :
    planView (forIx n f d) = planView d := foldl_keeps planView (fun x i => f i x) (fun x i => hf i x) (List.range n) d

theorem mpResults_view (d : Dev) : planView (mpResults d) = planView d := by
  unfold mpResults
  extract_lets a b slack c e
  have ha : planView a = planView d := by
    refine forIx_view _ _ _ fun c x => ?_
    split
    case h_1 | h_2 =>
      split
      extract_lets y k z
      have hz : planView z = planView x := (mpForm_view ..).trans (mpForm_view ..)
      clear_value z
      split
      · exact hz
      · exact hz
    case h_3 =>
      split
      · exact mpForm_view ..
      · rfl
    case h_4 => exact mpForm_view ..
    case h_5 => rfl
  have hb : planView b = planView a := by
    refine forIx_view _ _ _ fun j x => ?_
    split
    · rfl
    · exact (mpForm_view ..).trans (mpForm_view ..)
  clear_value a b
  have hc : planView c = planView b := rfl
  clear_value c
  have he : planView e = planView c := mpForm_view ..
  clear_value e
  exact (show planView _ = planView e from rfl).trans (he.trans (hc.trans (hb.trans ha)))

theorem rd_of_planView {d e : Dev} (h : planView e = planView d) (r : Reg) (ix : Nat) : e.rd r ix = d.rd r ix :=
  Dev.rd_congr e d (congrArg Prod.fst h) r ix

/-! ### Periods (R279, R280) -/

theorem replanRec_writes (d : Dev) (num : Nat) (l : List PlanItem) (more : List Nat) : WritesOnly recIds d (replanRec d num l more) :=
  (WritesOnly.refl _ d).recAt (fun _ => id) _ _ _ _ _

theorem replanRec_mp (d : Dev) (num : Nat) (l : List PlanItem) (more : List Nat) : (replanRec d num l more).mp = d.mp := Dev.recd_mp ..

theorem replanRec_keepsBut {ks : List (Reg × Nat)} {a d : Dev} (h : KeepsBut ks a d) (hrec : ∀ x ∈ recFields, x ∈ ks) (num : Nat)
    (l : List PlanItem) (more : List Nat) : KeepsBut ks a (replanRec d num l more) := h.recd _ _ _ _ hrec

/-- A halted management plane makes no plan. -/
theorem periodEnd_halted {d : Dev} (h : d.fl GL_STATUS_MHALT = true) : (periodEnd d).mp.runNow = false ∧
    (periodEnd d).mp.since = d.tb.now ∧ (periodEnd d).bs = d.bs ∧ KeepsBut [] d (periodEnd d) := by
  unfold periodEnd
  extract_lets port a
  rw [if_pos (show a.fl GL_STATUS_MHALT = true from h)]
  exact ⟨rfl, rfl, rfl, KeepsBut.refl _ d⟩

/-- The end of a period takes the next plan number; advice waits for an answer, and writes for the next frame. -/
theorem periodEnd_facts {d : Dev} (h : d.fl GL_STATUS_MHALT = false) :
    (periodEnd d).rd MP_PLANNUM = (d.rd MP_PLANNUM + 1) % 2 ^ 32 ∧ (periodEnd d).fl MP_EVT_PLAN = true ∧
      (periodEnd d).mp.runNow = false ∧ (periodEnd d).mp.since = d.tb.now ∧
      (periodEnd d).mp.todoAt = d.rd TB_FRAME_NUM + 1 ∧ (periodEnd d).bs = d.bs ∧
      (d.fl MP_CTRL_MODE = false → (periodEnd d).fl MP_STATUS_ADVPEND = true ∧ (periodEnd d).mp.todo = []) := by
  unfold periodEnd
  extract_lets port a b items num c e f write advice stale g k
  have ha : ∀ r ix, a.rd r ix = d.rd r ix := Dev.withMp_rd d _
  have hasince : a.mp.since = d.tb.now := rfl
  have harun : a.mp.runNow = false := rfl
  have habs : a.bs = d.bs := rfl
  rw [if_neg (show ¬a.fl GL_STATUS_MHALT = true by rw [Dev.fl, ha]; exact ne_true_of_eq_false h)]
  clear_value a
  have hview : planView b = planView a := by
    simp only [b]
    split
    · exact mpResults_view a
    · rfl
  have hb : ∀ r ix, b.rd r ix = d.rd r ix := fun r ix => (rd_of_planView hview r ix).trans (ha r ix)
  have hbbs : b.bs = d.bs := (congrArg (fun v => v.2.1) hview).trans habs
  have hbsince : b.mp.since = d.tb.now := (congrArg (fun v => v.2.2.2.1) hview).trans hasince
  have hbrun : b.mp.runNow = false := (congrArg (fun v => v.2.2.2.2) hview).trans harun
  have hc : WritesOnly [MP_EVT_PLAN.id] b c := (WritesOnly.refl _ b).ev (by simp) 0
  have hcev : c.fl MP_EVT_PLAN = true := b.fl_ev MP_EVT_PLAN 0 rfl
  have hcmp : c.mp = b.mp := Dev.ev_mp ..
  have henum : e.rd MP_PLANNUM = (d.rd MP_PLANNUM + 1) % 2 ^ 32 :=
    (Dev.rd_wr c MP_PLANNUM 0 num).trans ((Nat.mod_mod _ _).trans (by rw [hb]))
  have he : WritesOnly [MP_PLANNUM.id] c e := (WritesOnly.refl _ c).wr (by simp) _ _
  have hemp : e.mp = c.mp := rfl
  clear_value b c e
  have hf : WritesOnly [MP_EVT_CLAMPED.id] e f ∧ f.mp = e.mp := by
    simp only [f]
    split
    · exact ⟨(WritesOnly.refl _ e).ev (by simp) 0, Dev.ev_mp ..⟩
    · exact ⟨.refl _ e, rfl⟩
  obtain ⟨hfw, hfmp⟩ := hf
  clear_value f
  have hg : WritesOnly recIds f g := replanRec_writes ..
  have hgmp : g.mp = f.mp := replanRec_mp ..
  have hmode : f.fl MP_CTRL_MODE = d.fl MP_CTRL_MODE :=
    Dev.fl_congr ((hfw.1 _ 0 (by decide)).trans ((he.1 _ 0 (by decide)).trans ((hc.1 _ 0 (by decide)).trans (hb _ _))))
  have hgmode : g.fl MP_CTRL_MODE = d.fl MP_CTRL_MODE := (Dev.fl_congr (hg.1 _ 0 (by decide))).trans hmode
  have hwrite : d.fl MP_CTRL_MODE = false → write = [] := fun hm => if_neg (by simp [hmode, hm])
  clear_value write g
  have hkw : WritesOnly [MP_STATUS_ADVPEND.id] g k := (WritesOnly.refl _ g).wr (by simp) _ _
  have hkmp : k.mp = g.mp := rfl
  have hadv : d.fl MP_CTRL_MODE = false → k.fl MP_STATUS_ADVPEND = true := fun hm =>
    (Dev.fl_wrB g MP_STATUS_ADVPEND 0 _ rfl).trans (by simp [hgmode, hm])
  clear_value k
  have hmp : k.mp = b.mp := hkmp.trans (hgmp.trans (hfmp.trans (hemp.trans hcmp)))
  have hread : ∀ {r : Reg}, r.id ∉ [MP_EVT_CLAMPED.id, MP_STATUS_ADVPEND.id] ++ recIds → k.rd r = e.rd r := fun hr => by
    simp only [List.cons_append, List.nil_append, List.mem_cons, not_or] at hr
    obtain ⟨h1, h2, h3⟩ := hr
    exact (hkw.1 _ 0 (by simpa using h2)).trans ((hg.1 _ 0 h3).trans (hfw.1 _ 0 (by simpa using h1)))
  have hframe : k.rd TB_FRAME_NUM = d.rd TB_FRAME_NUM :=
    (hread (by decide)).trans ((he.1 _ 0 (by decide)).trans ((hc.1 _ 0 (by decide)).trans (hb _ _)))
  have hplan : k.rd MP_PLANNUM = (d.rd MP_PLANNUM + 1) % 2 ^ 32 := (hread (by decide)).trans henum
  have hev : k.fl MP_EVT_PLAN = true := (Dev.fl_congr ((hread (by decide)).trans (he.1 _ 0 (by decide)))).trans hcev
  have hrun : k.mp.runNow = false := by rw [hmp, hbrun]
  have hsince : k.mp.since = d.tb.now := by rw [hmp, hbsince]
  have hbs : k.bs = d.bs := hkw.2.trans (hg.2.trans (hfw.2.trans (he.2.trans (hc.2.trans hbbs))))
  exact ⟨(Dev.withMp_rd k ..).trans hplan, (Dev.withMp_fl k ..).trans hev, hrun, hsince, congrArg (· + 1) hframe, hbs,
    fun hm => ⟨(Dev.withMp_fl k ..).trans (hadv hm), hwrite hm⟩⟩

/-! ### Answers to a plan (R280) -/

/-- The fields of an expiry. -/
def expireFields : List (Reg × Nat) := [(MP_STATUS_ADVPEND, 0), (MP_EVT_EXPIRED, 0)] ++ recFields

/-- A plan that expires is gone. -/
theorem planExpire_facts (d : Dev) : (planExpire d).fl MP_STATUS_ADVPEND = false ∧ (planExpire d).fl MP_EVT_EXPIRED = true ∧
    (planExpire d).mp.advice = [] ∧ (planExpire d).bs = d.bs ∧ KeepsBut expireFields d (planExpire d) := by
  unfold planExpire
  extract_lets a port
  have hpend : a.fl MP_STATUS_ADVPEND = false :=
    (Dev.fl_congr (Dev.rd_ev_ne _ _ _ (by decide))).trans (d.fl_wrB MP_STATUS_ADVPEND 0 false rfl)
  have hev : a.fl MP_EVT_EXPIRED = true := Dev.fl_ev _ MP_EVT_EXPIRED 0 rfl
  have hbs : a.bs = d.bs := Dev.ev_bs ..
  have hk : KeepsBut expireFields d a := ((KeepsBut.refl _ d).wr _ _ _ (by simp [expireFields])).ev _ _ (by simp [expireFields])
  clear_value a
  have hgone : KeepsBut expireFields d { a with mp := { a.mp with advice := [] } } := hk.of_regs rfl
  have hw := replanRec_writes { a with mp := { a.mp with advice := [] } } (a.rd MP_PLANNUM) [] [0xFE]
  exact ⟨(Dev.fl_congr (hw.1 _ 0 (by decide))).trans hpend, (Dev.fl_congr (hw.1 _ 0 (by decide))).trans hev,
    congrArg MpSt.advice (replanRec_mp ..), hw.2.trans hbs, replanRec_keepsBut hgone (fun _ => List.mem_append_right _) _ _ _⟩

/-- The fields of a refusal. -/
def refuseFields : List (Reg × Nat) := [(MP_EVT_REFUSED, 0)] ++ recFields

/-- A refused answer shows it, and leaves the plans. -/
theorem planRefuse_facts (d : Dev) (num : Nat) : (planRefuse d num).fl MP_EVT_REFUSED = true ∧ (planRefuse d num).mp = d.mp ∧
    (planRefuse d num).bs = d.bs ∧ KeepsBut refuseFields d (planRefuse d num) := by
  have hw := replanRec_writes (d.ev MP_EVT_REFUSED) num [] [0xFF]
  exact ⟨(Dev.fl_congr (hw.1 _ 0 (by decide))).trans (d.fl_ev MP_EVT_REFUSED 0 rfl), (replanRec_mp ..).trans (Dev.ev_mp ..),
    hw.2.trans (Dev.ev_bs ..),
    replanRec_keepsBut ((KeepsBut.refl _ d).ev _ _ (by simp)) (fun _ => List.mem_append_right _) _ _ _⟩

/-- The fields of an answer that is taken. -/
def answerFields : List (Reg × Nat) := [(MP_STATUS_ADVPEND, 0)] ++ recFields

/-- A record after the advice is answered. -/
theorem replanRec_answered {d e : Dev} (he : e.regs = (d.wr MP_STATUS_ADVPEND 0 0).regs) (hbs : e.bs = d.bs) (num : Nat)
    (l : List PlanItem) (more : List Nat) : (replanRec e num l more).fl MP_STATUS_ADVPEND = false ∧
    (replanRec e num l more).bs = d.bs ∧ KeepsBut answerFields d (replanRec e num l more) := by
  have hw := replanRec_writes e num l more
  have hpend : e.fl MP_STATUS_ADVPEND = false :=
    (Dev.fl_congr (Dev.rd_congr e _ he _ _)).trans (d.fl_wrB MP_STATUS_ADVPEND 0 false rfl)
  have hk : KeepsBut answerFields d e := ((KeepsBut.refl _ d).wr _ _ _ (by simp [answerFields])).of_regs he
  exact ⟨(Dev.fl_congr (hw.1 _ 0 (by decide))).trans hpend, hw.2.trans hbs,
    replanRec_keepsBut hk (fun _ => List.mem_append_right _) _ _ _⟩

/-- An approval of the pending plan queues its changes for the next frame. -/
theorem planApprove_facts {d : Dev} {num : Nat} (hp : d.fl MP_STATUS_ADVPEND = true) (hn : num = d.rd MP_PLANNUM) :
    (planApprove d num).2.fl MP_STATUS_ADVPEND = false ∧
      (planApprove d num).2.mp.todo.length = d.mp.todo.length + d.mp.advice.length ∧
      (planApprove d num).2.mp.todoAt = d.rd TB_FRAME_NUM + 1 ∧ (planApprove d num).2.mp.advice = [] ∧
      (planApprove d num).2.bs = d.bs ∧ KeepsBut answerFields d (planApprove d num).2 := by
  have hframe : (d.wr MP_STATUS_ADVPEND 0 0).rd TB_FRAME_NUM = d.rd TB_FRAME_NUM := Dev.rd_wr_ne _ _ _ _ (by decide)
  unfold planApprove
  rw [if_pos ⟨hp, hn⟩]
  extract_lets l a port b
  have hb : b.mp.todo.length = d.mp.todo.length + d.mp.advice.length :=
    (List.length_append ..).trans (congrArg (d.mp.todo.length + ·) (List.length_map ..))
  have hat : b.mp.todoAt = d.rd TB_FRAME_NUM + 1 := congrArg (· + 1) hframe
  have hadv : b.mp.advice = [] := rfl
  have hregs : b.regs = (d.wr MP_STATUS_ADVPEND 0 0).regs := rfl
  have hbs : b.bs = d.bs := rfl
  clear_value b
  obtain ⟨hpend, hrbs, hk⟩ := replanRec_answered hregs hbs num l []
  refine ⟨hpend, ?_, ?_, ?_, hrbs, hk⟩
  · rw [replanRec_mp, hb]
  · rw [replanRec_mp, hat]
  · rw [replanRec_mp, hadv]

/-- A rejection of the pending plan discards it. -/
theorem planReject_facts {d : Dev} {num : Nat} (hp : d.fl MP_STATUS_ADVPEND = true) (hn : num = d.rd MP_PLANNUM) :
    (planReject d num).2.fl MP_STATUS_ADVPEND = false ∧ (planReject d num).2.mp.advice = [] ∧
      (planReject d num).2.mp.todo = d.mp.todo ∧ (planReject d num).2.bs = d.bs ∧ KeepsBut answerFields d (planReject d num).2 := by
  unfold planReject
  rw [if_pos ⟨hp, hn⟩]
  extract_lets a port
  have hregs : ({ a with mp := { a.mp with advice := [] } } : Dev).regs = (d.wr MP_STATUS_ADVPEND 0 0).regs := rfl
  have hbs : ({ a with mp := { a.mp with advice := [] } } : Dev).bs = d.bs := rfl
  obtain ⟨hpend, hrbs, hk⟩ := replanRec_answered hregs hbs num [] [0xFD]
  have htodo : (replanRec { a with mp := { a.mp with advice := [] } } num [] [0xFD]).mp.todo = d.mp.todo := by rw [replanRec_mp]; rfl
  exact ⟨hpend, congrArg MpSt.advice (replanRec_mp ..), htodo, hrbs, hk⟩

theorem plan_refused {d : Dev} {num : Nat} (h : d.fl MP_STATUS_ADVPEND = false ∨ num ≠ d.rd MP_PLANNUM) :
    (planApprove d num).2 = planRefuse d num ∧ (planReject d num).2 = planRefuse d num := by
  have hno : ¬(d.fl MP_STATUS_ADVPEND = true ∧ num = d.rd MP_PLANNUM) := fun hc =>
    h.elim (fun hp => absurd (hp.symm.trans hc.1) Bool.false_ne_true) (fun hn => hn hc.2)
  unfold planApprove planReject
  rw [if_neg hno, if_neg hno]
  exact ⟨rfl, rfl⟩

end Sys2Proof.Machine
end

section
/-! PROOFS about the planner's writes, the identification and the measurements (R275 to R278, R281, R282). -/

namespace Sys2Proof.Machine
open R

/-! ### Writes (R281, R282) -/

theorem planStage_facts (d : Dev) (x : PlanItem) :
    (planStage d x).staged.any (fun y => y.reg.id == x.reg.id && y.ix == x.ix) = true ∧
      (∀ r ix, (planStage d x).rd r ix = d.rd r ix) ∧ (planStage d x).bs = d.bs :=
  ⟨by simp [planStage], fun _ _ => rfl, rfl⟩

/-- One change whose block is free is staged and applied. -/
theorem planWrite_one {d : Dev} {x : PlanItem} (htodo : d.mp.todo = [x]) (hfree : blockPend d x.reg = false) (ho : x.o ≠ 8) :
    (planWrite d).fl MP_EVT_APPLIED = true ∧ (planWrite d).mp.todo = [] ∧
      (planWrite d).staged.any (fun y => y.reg.id == x.reg.id && y.ix == x.ix) = true ∧
      (planWrite d).mp.todoAt = d.rd TB_FRAME_NUM + 1 ∧ (planWrite d).bs = d.bs := by
  unfold planWrite
  extract_lets num go stay badGuard refused good a b c e port
  have hgo : go = [x] := by simp [go, htodo, hfree]
  have hstay : stay = [] := by simp [stay, htodo, hfree]
  have hbad : badGuard x = false := by simp [badGuard, ho]
  have hgood : good = [x] := by simp [good, hgo, hbad]
  have hrefused : refused = [] := by simp [refused, hgo, hstay, hbad]
  have ha : a = planStage d x := by simp only [a, hgood]; rfl
  have hb : b = a.ev MP_EVT_APPLIED := if_neg (by simp [hgood])
  have hc : c = b := if_pos (by simp [hrefused])
  have he : e = c := if_neg (by simp [hgo, hbad])
  clear_value a b c e
  rw [he, hc, hb, ha]
  obtain ⟨hstaged, hrd, hbs⟩ := planStage_facts d x
  generalize planStage d x = y at hstaged hrd hbs ⊢
  have hframe : (y.ev MP_EVT_APPLIED).rd TB_FRAME_NUM = d.rd TB_FRAME_NUM := (Dev.rd_ev_ne _ _ _ (by decide)).trans (hrd _ _)
  have hany : (y.ev MP_EVT_APPLIED).staged.any (fun y => y.reg.id == x.reg.id && y.ix == x.ix) = true := by
    rw [Dev.ev_staged]
    exact hstaged
  exact ⟨(Dev.withMp_fl (y.ev MP_EVT_APPLIED) ..).trans (y.fl_ev MP_EVT_APPLIED 0 rfl), by rw [hstay]; rfl,
    hany, congrArg (· + 1) hframe, (Dev.ev_bs ..).trans hbs⟩

/-! ### The baseline (R278) -/

theorem mpRebase_base (d : Dev) : ((mpRebase d).mp.res.all fun e => e.2.all fun r => r.base.isNone) = true := by
  simp only [mpRebase, List.all_map, List.all_eq_true]
  intro e _
  cases h : e.2 <;> simp [h]

theorem mpRebase_keys (d : Dev) : (mpRebase d).mp.res.map (fun e => e.1) = d.mp.res.map (fun e => e.1) := by
  simp [mpRebase, Function.comp_def]

/-! ### Identification (R276, R277) -/

/-- A chip before the last begins the next one. -/
theorem idChip_next {d : Dev} (hm : d.fl GL_STATUS_MHALT = false) (hk : d.rd MP_IDSTAT_CHIP < 1022) :
    (idChip d).rd MP_IDSTAT_CHIP = d.rd MP_IDSTAT_CHIP + 1 ∧ (idChip d).mp.lfsr = lfsrNext d.mp.lfsr ∧
      (idChip d).mp.chipEnd = d.mp.chipEnd + chipLen d ∧ (idChip d).bs = d.bs ∧ KeepsBut [(MP_IDSTAT_CHIP, 0)] d (idChip d) := by
  unfold idChip
  extract_lets n k res s b port
  rw [if_neg (by simp [hm]), if_neg (show ¬1023 ≤ d.rd MP_IDSTAT_CHIP + 1 by omega)]
  have hchip : b.rd MP_IDSTAT_CHIP = d.rd MP_IDSTAT_CHIP + 1 :=
    (Dev.rd_wr d MP_IDSTAT_CHIP 0 k).trans (Nat.mod_eq_of_lt (show d.rd MP_IDSTAT_CHIP + 1 < 2 ^ 10 by omega))
  have hk : KeepsBut [(MP_IDSTAT_CHIP, 0)] d b := (KeepsBut.refl _ d).wr _ _ _ (by simp)
  have hlen : chipLen b = chipLen d := congrArg (2 ^ ·) (Dev.rd_wr_ne _ _ _ _ (by decide))
  have hmp : b.mp = d.mp := rfl
  have hbs : b.bs = d.bs := rfl
  clear_value b
  refine ⟨hchip, rfl, ?_, hbs, hk.of_regs rfl⟩
  rw [← hlen, ← hmp]
  rfl

/-- The end of a run: no run is active, and its rail has no identification term. -/
theorem idOver_facts (d : Dev) : (idOver d).fl MP_IDSTAT_ACTIVE = false ∧ ((idOver d).rail (d.rd MP_IDSTAT_RAIL)).pid = 0 ∧
    (idOver d).bs = d.bs ∧ WritesOnly [MP_IDSTAT_ACTIVE.id, MP_IDSTAT_PAUSED.id] d (idOver d) := by
  unfold idOver
  extract_lets n a port
  have hact : a.fl MP_IDSTAT_ACTIVE = false :=
    (Dev.fl_wr_ne _ _ _ _ (by decide)).trans (d.fl_wrB MP_IDSTAT_ACTIVE 0 false rfl)
  have hw : WritesOnly [MP_IDSTAT_ACTIVE.id, MP_IDSTAT_PAUSED.id] d a :=
    ((WritesOnly.refl _ d).wr (by simp) _ _).wr (by simp) _ _
  have hbs : a.bs = d.bs := rfl
  clear_value a
  exact ⟨hact, congrArg RailSt.pid (Dev.rail_setRail ..), hbs, hw.of_regs rfl rfl⟩

theorem mpPuts_kept (l : List Nat) (n : Nat) (d : Dev) :
    (forL l (fun q d => mpPut d.freeNext q n (sat32 (d.freeV : Int))) d).regs = d.regs ∧
      (forL l (fun q d => mpPut d.freeNext q n (sat32 (d.freeV : Int))) d).bs = d.bs := by
  have h := foldl_keeps (fun d : Dev => (d.regs, d.bs)) (fun d q => mpPut d.freeNext q n (sat32 (d.freeV : Int)))
    (fun _ _ => rfl) l d
  exact ⟨congrArg Prod.fst h, congrArg Prod.snd h⟩

/-- The last chip ends the run, with its results. -/
theorem idChip_last {d : Dev} (hm : d.fl GL_STATUS_MHALT = false) (hk : 1022 ≤ d.rd MP_IDSTAT_CHIP) :
    (idChip d).fl MP_EVT_IDDONE = true ∧ (idChip d).fl MP_IDSTAT_ACTIVE = false ∧
      ((idChip d).rail (d.rd MP_IDSTAT_RAIL)).pid = 0 ∧ (idChip d).bs = d.bs := by
  unfold idChip
  extract_lets n k res s b port
  rw [if_neg (by simp [hm]), if_pos (show 1023 ≤ d.rd MP_IDSTAT_CHIP + 1 by omega)]
  obtain ⟨hregs, hbs⟩ : res.regs = d.regs ∧ res.bs = d.bs := mpPuts_kept ..
  clear_value res
  have hev : (res.ev MP_EVT_IDDONE).fl MP_EVT_IDDONE = true := res.fl_ev MP_EVT_IDDONE 0 rfl
  have hrail : (res.ev MP_EVT_IDDONE).rd MP_IDSTAT_RAIL = d.rd MP_IDSTAT_RAIL :=
    (Dev.rd_ev_ne _ _ _ (by decide)).trans (Dev.rd_congr _ _ hregs _ _)
  have hebs : (res.ev MP_EVT_IDDONE).bs = d.bs := (Dev.ev_bs ..).trans hbs
  generalize res.ev MP_EVT_IDDONE = e at hev hrail hebs ⊢
  obtain ⟨hact, hpid, hobs, how⟩ := idOver_facts e
  have hoev : (idOver e).fl MP_EVT_IDDONE = true := (Dev.fl_congr (how.1 _ 0 (by decide))).trans hev
  rw [hrail] at hpid
  generalize idOver e = o at hact hpid hobs hoev ⊢
  have hw : WritesOnly recIds o (o.recd 0x0B04 2 n []) := (WritesOnly.refl _ o).recAt (fun _ => id) _ _ _ _ _
  refine ⟨(Dev.fl_congr (hw.1 _ 0 (by decide))).trans hoev, (Dev.fl_congr (hw.1 _ 0 (by decide))).trans hact, ?_,
    hw.2.trans (hobs.trans hebs)⟩
  rw [Dev.rail, Dev.recd_vr]
  exact hpid

/-- A paused run whose rail is as at its start goes on. -/
theorem idResume_facts {d : Dev} (hm : d.fl GL_STATUS_MHALT = false) (hrail : railM d (d.rd MP_IDSTAT_RAIL) = d.mp.startM) :
    (idResume d).fl MP_IDSTAT_PAUSED = false ∧ (idResume d).mp.clearAt = none ∧ (idResume d).bs = d.bs ∧
      KeepsBut [(MP_IDSTAT_PAUSED, 0)] d (idResume d) := by
  unfold idResume
  extract_lets n a port
  rw [if_neg (by simp [hm]), if_neg (not_not.mpr hrail)]
  have hpaused : (d.wr MP_IDSTAT_PAUSED 0 0).fl MP_IDSTAT_PAUSED = false := d.fl_wrB MP_IDSTAT_PAUSED 0 false rfl
  have hk : KeepsBut [(MP_IDSTAT_PAUSED, 0)] d (d.wr MP_IDSTAT_PAUSED 0 0) := (KeepsBut.refl _ d).wr _ _ _ (by simp)
  exact ⟨hpaused, rfl, rfl, hk⟩

/-! ### Measurements (R275) -/

/-- A measurement of a stage is added to its sums. -/
theorem measBlock_facts {d : Dev} {r p : Nat} {x : List Nat} {ms : List (Nat × List Nat)} (hq : (d.rg r).meas = (p, x) :: ms)
    (hen : d.fl MP_CTRL_MEAS_EN = true) (hlen : x.length = 16) (hion : leAt x 10 2 ≠ 0) :
    ((measBlock d r).rg r).meas = ms ∧
      Tbl.get (0, 0) (measBlock d r).mp.blocks (r * 32 + p) = ((Tbl.get (0, 0) d.mp.blocks (r * 32 + p)).1 + 1,
        (Tbl.get (0, 0) d.mp.blocks (r * 32 + p)).2 + rdiv ((leAt x 8 2 : Int) * 50 * 65536) (leAt x 10 2)) ∧
      (measBlock d r).bs = d.bs ∧ KeepsBut [] d (measBlock d r) := by
  unfold measBlock
  split
  next p' x' ms' h =>
    obtain ⟨⟨rfl, rfl⟩, rfl⟩ : (p = p' ∧ x = x') ∧ ms = ms' := by simpa using hq.symm.trans h
    extract_lets ring y ion c port
    have hmeas : (y.rg r).meas = ms := congrArg RingSt.meas (Dev.rg_setRg ..)
    have hyen : y.fl MP_CTRL_MEAS_EN = true := hen
    have hbl : y.mp.blocks = d.mp.blocks := rfl
    have hk : KeepsBut [] d y := (KeepsBut.refl _ d).setRg _ _
    have hbs : y.bs = d.bs := rfl
    clear_value y
    rw [if_neg (by simp [hyen, hlen, ion, hion]), ← hbl, show r * 32 + p = c from rfl]
    generalize Tbl.get (0, 0) y.mp.blocks c = q
    obtain ⟨n, sum⟩ := q
    have hsame := Tbl.get_set_same (0, 0) y.mp.blocks c (n + 1, sum + rdiv ((leAt x 8 2 : Int) * 50 * 65536) ion)
    exact ⟨hmeas, hsame, hbs, hk.of_regs rfl⟩
  next h => exact absurd (hq.symm.trans h) (by simp)

/-! ### The statement -/

section
variable {s : State} {a : Accessor}

/-- An answer to a plan that is not pending, or not the plan named. -/
theorem exec_mpCmd_refused {c : Instr} {f : Dev → Dev} {v : Nat}
    (he : exec c s = sysRow (wordCmd a 0xAC10 v f) s) (hf : ∀ d, (d.fl MP_STATUS_ADVPEND = false ∨ d.rd MP_APPRNUM ≠ d.rd MP_PLANNUM) →
      f d = planRefuse d (d.rd MP_APPRNUM)) (ht : s.turn) (ha : a ≠ .sp) (hk : writeKind s.sys.dev (accIx a) 0xAC10 v = 0)
    (h : s.atCommands.dev.fl MP_STATUS_ADVPEND = false ∨ s.atCommands.dev.rd MP_APPRNUM ≠ s.atCommands.dev.rd MP_PLANNUM) :
    ∃ t : State, exec c s = .next t ∧ t.pending = s.pending ∧ t.sys.dev.fl MP_EVT_REFUSED = true ∧
      t.sys.dev.mp = s.atCommands.dev.mp ∧ KeepsBut refuseFields s.atCommands.dev t.sys.dev := by
  have heq := hf (handOver s.atCommands.dev) h
  obtain ⟨hev, hmp, hbs, hkeep⟩ := planRefuse_facts (handOver s.atCommands.dev) ((handOver s.atCommands.dev).rd MP_APPRNUM)
  obtain ⟨t, hex, hp, hd⟩ := exec_wordCmd he ht ha hk (by rw [heq, hbs, handOver_bs]; exact ht.2.1.2.2)
  rw [heq] at hd
  rw [← hd] at hev hmp hkeep
  exact ⟨t, hex, hp, hev, hmp, fun r ix h => hkeep r ix h⟩

/-- An approval of the pending plan. -/
theorem exec_mpCmdApprove (ht : s.turn) (ha : a ≠ .sp) (hk : writeKind s.sys.dev (accIx a) 0xAC10 1 = 0)
    (hpend : s.atCommands.dev.fl MP_STATUS_ADVPEND = true) (hnum : s.atCommands.dev.rd MP_APPRNUM = s.atCommands.dev.rd MP_PLANNUM) :
    ∃ t : State, exec (.mpCmdApprove a) s = .next t ∧ t.pending = s.pending ∧ t.sys.dev.fl MP_STATUS_ADVPEND = false ∧
      t.sys.dev.mp.todo.length = s.atCommands.dev.mp.todo.length + s.atCommands.dev.mp.advice.length ∧
      t.sys.dev.mp.todoAt = s.atCommands.dev.rd TB_FRAME_NUM + 1 ∧ t.sys.dev.mp.advice = [] ∧
      KeepsBut answerFields s.atCommands.dev t.sys.dev := by
  obtain ⟨hgone, hlen, hat, hadv, hbs, hkeep⟩ := planApprove_facts (d := handOver s.atCommands.dev) hpend hnum
  obtain ⟨t, he, hp, hd⟩ := exec_wordCmd (c := .mpCmdApprove a) (f := fun d => (planApprove d (d.rd MP_APPRNUM)).2) rfl ht ha hk
    (by rw [show (handOver s.atCommands.dev).rd MP_APPRNUM = s.atCommands.dev.rd MP_APPRNUM from rfl, hbs, handOver_bs]
        exact ht.2.1.2.2)
  rw [← show t.sys.dev = (planApprove (handOver s.atCommands.dev) (s.atCommands.dev.rd MP_APPRNUM)).2 from hd] at hgone hlen hat hadv hkeep
  exact ⟨t, he, hp, hgone, hlen, hat, hadv, fun r ix h => hkeep r ix h⟩

/-- A rejection of the pending plan. -/
theorem exec_mpCmdReject (ht : s.turn) (ha : a ≠ .sp) (hk : writeKind s.sys.dev (accIx a) 0xAC10 2 = 0)
    (hpend : s.atCommands.dev.fl MP_STATUS_ADVPEND = true) (hnum : s.atCommands.dev.rd MP_APPRNUM = s.atCommands.dev.rd MP_PLANNUM) :
    ∃ t : State, exec (.mpCmdReject a) s = .next t ∧ t.pending = s.pending ∧ t.sys.dev.fl MP_STATUS_ADVPEND = false ∧
      t.sys.dev.mp.advice = [] ∧ t.sys.dev.mp.todo = s.atCommands.dev.mp.todo ∧ KeepsBut answerFields s.atCommands.dev t.sys.dev := by
  obtain ⟨hgone, hadv, htodo, hbs, hkeep⟩ := planReject_facts (d := handOver s.atCommands.dev) hpend hnum
  obtain ⟨t, he, hp, hd⟩ := exec_wordCmd (c := .mpCmdReject a) (f := fun d => (planReject d (d.rd MP_APPRNUM)).2) rfl ht ha hk
    (by rw [show (handOver s.atCommands.dev).rd MP_APPRNUM = s.atCommands.dev.rd MP_APPRNUM from rfl, hbs, handOver_bs]
        exact ht.2.1.2.2)
  rw [← show t.sys.dev = (planReject (handOver s.atCommands.dev) (s.atCommands.dev.rd MP_APPRNUM)).2 from hd] at hgone hadv htodo hkeep
  exact ⟨t, he, hp, hgone, hadv, htodo, fun r ix h => hkeep r ix h⟩

theorem exec_mpCmdRebase (ht : s.turn) (ha : a ≠ .sp) (hk : writeKind s.sys.dev (accIx a) 0xAC10 8 = 0) :
    ∃ t : State, exec (.mpCmdRebase a) s = .next t ∧ t.pending = s.pending ∧
      (t.sys.dev.mp.res.all fun e => e.2.all fun r => r.base.isNone) = true ∧
      t.sys.dev.mp.res.map (fun e => e.1) = s.atCommands.dev.mp.res.map (fun e => e.1) ∧ KeepsBut [] s.atCommands.dev t.sys.dev := by
  have hbase := mpRebase_base (handOver s.atCommands.dev)
  have hkeys := mpRebase_keys (handOver s.atCommands.dev)
  obtain ⟨t, he, hp, hd⟩ := exec_wordCmd (c := .mpCmdRebase a) (f := mpRebase) rfl ht ha hk ht.2.1.2.2
  rw [← hd] at hbase hkeys
  exact ⟨t, he, hp, hbase, hkeys, by rw [hd]; exact fun _ _ _ => rfl⟩

end

/-- Settles O31: each clause from what its function leaves. -/
theorem plansAreMadeAndApplied : Obligations.PlansAreMadeAndApplied := by
  unfold Obligations.PlansAreMadeAndApplied
  refine ⟨?period, ?periodHalted, ?write, ?expired, ?approve, ?approveRefused, ?reject, ?rejectRefused, ?runNow, ?rebase, ?chip, ?lastChip,
    ?resume, ?measurement⟩
  case period =>
    intro s hx hdue hm
    obtain ⟨hnum, hev, hrun, hsince, hat, hbs, hadv⟩ := periodEnd_facts hm
    obtain ⟨t, he, hp, hd⟩ := exec_timed (c := .planPeriodEnd) (f := periodEnd) rfl hx hdue (by rw [hbs]; exact hx.2.2)
    rw [← hd] at hnum hev hrun hsince hat hadv
    exact ⟨t, he, hp, hnum, hev, hrun, hsince, hat, hadv⟩
  case periodHalted =>
    intro s hx hdue hm
    obtain ⟨hrun, hsince, hbs, hk⟩ := periodEnd_halted hm
    obtain ⟨t, he, hp, hd⟩ := exec_timed (c := .planPeriodEnd) (f := periodEnd) rfl hx hdue (by rw [hbs]; exact hx.2.2)
    rw [← hd] at hrun hsince hk
    exact ⟨t, he, hp, hrun, hsince, hk⟩
  case write =>
    intro s x hx htodo hat hm hfree ho
    obtain ⟨hev, hdone, hstaged, hnext, hbs⟩ := planWrite_one htodo hfree ho
    have hdue : planWriteDue s.atTimers.dev = true := by simp [planWriteDue, htodo, hat, hm]
    obtain ⟨t, he, hp, hd⟩ := exec_timed (c := .plannerWrite) (f := planWrite) rfl hx hdue (by rw [hbs]; exact hx.2.2)
    rw [← hd] at hev hdone hstaged hnext
    exact ⟨t, he, hp, hev, hdone, hstaged, hnext⟩
  case expired =>
    intro s hx hpend hend
    obtain ⟨hgone, hev, hadv, hbs, hk⟩ := planExpire_facts s.atTimers.dev
    have hdue : advDue s.atTimers.dev = true := by simp [advDue, hpend, hend]
    obtain ⟨t, he, hp, hd⟩ := exec_timed (c := .planExpired) (f := planExpire) rfl hx hdue (by rw [hbs]; exact hx.2.2)
    rw [← hd] at hgone hev hadv hk
    exact ⟨t, he, hp, hgone, hev, hadv, hk⟩
  case approve => exact fun s a ht ha hk hpend hnum => exec_mpCmdApprove ht ha hk hpend hnum
  case approveRefused =>
    exact fun s a ht ha hk h => exec_mpCmd_refused (c := .mpCmdApprove a) (f := fun d => (planApprove d (d.rd MP_APPRNUM)).2) rfl
      (fun d hd => (plan_refused hd).1) ht ha hk h
  case reject => exact fun s a ht ha hk hpend hnum => exec_mpCmdReject ht ha hk hpend hnum
  case rejectRefused =>
    exact fun s a ht ha hk h => exec_mpCmd_refused (c := .mpCmdReject a) (f := fun d => (planReject d (d.rd MP_APPRNUM)).2) rfl
      (fun d hd => (plan_refused hd).2) ht ha hk h
  case runNow =>
    intro s a ht ha hk
    obtain ⟨t, he, hp, hd⟩ := exec_wordCmd (c := .mpCmdRunnow a) (f := mpRunNow) rfl ht ha hk ht.2.1.2.2
    exact ⟨t, he, hp, by rw [hd]; rfl, by rw [hd]; exact fun _ _ _ => rfl⟩
  case rebase => exact fun s a ht ha hk => exec_mpCmdRebase ht ha hk
  case chip =>
    intro s hx hdue hm hk
    obtain ⟨hchip, hlfsr, hend, hbs, hkeep⟩ := idChip_next hm hk
    obtain ⟨t, he, hp, hd⟩ := exec_timed (c := .idChip) (f := idChip) rfl hx hdue (by rw [hbs]; exact hx.2.2)
    rw [← hd] at hchip hlfsr hend hkeep
    exact ⟨t, he, hp, hchip, hlfsr, hend, hkeep⟩
  case lastChip =>
    intro s hx hdue hm hk
    obtain ⟨hev, hact, hpid, hbs⟩ := idChip_last hm hk
    obtain ⟨t, he, hp, hd⟩ := exec_timed (c := .idChip) (f := idChip) rfl hx hdue (by rw [hbs]; exact hx.2.2)
    rw [← hd] at hev hact hpid
    exact ⟨t, he, hp, hev, hact, fun _ => hpid⟩
  case resume =>
    intro s hx hdue hm hrail
    obtain ⟨hpaused, hclear, hbs, hk⟩ := idResume_facts hm hrail
    obtain ⟨t, he, hp, hd⟩ := exec_timed (c := .idResume) (f := idResume) rfl hx hdue (by rw [hbs]; exact hx.2.2)
    rw [← hd] at hpaused hclear hk
    have hact : s.atTimers.dev.fl MP_IDSTAT_ACTIVE = true := by
      simp only [resumeDue, Bool.and_eq_true] at hdue
      exact hdue.1.1
    exact ⟨t, he, hp, hpaused, (Dev.fl_congr (hk.rd_eq (by decide) 0)).trans hact, hk.rd_eq (by decide) 0, hclear, hk⟩
  case measurement =>
    intro s r p x ms hq hmeas hen hlen hion
    obtain ⟨hrest, hsum, hbs, hk⟩ := measBlock_facts hmeas hen hlen hion
    obtain ⟨t, he, hp, hd⟩ := exec_takes (c := .measurementBlock r) (has := fun d => !(d.rg r.val).meas.isEmpty)
      (f := fun d => measBlock d r.val) rfl hq.1 (by simp [hmeas]) (by rw [hbs]; exact hq.2)
    rw [← hd] at hrest hsum hk
    exact ⟨t, he, hp, hrest, hsum, hk⟩

end Sys2Proof.Machine
end

section
/-! PROOFS about sleep and wake: the statement that fails (R417, R430). -/

namespace Sys2Proof.Machine
open R

/-- A sleeping machine that WAKE_IN may wake, with 5 staged for TB_TICK. The values still staged are applied at the boundary
that tick 0 of a wake is (R430), after the time base has set TB_TICK to 0. -/
def stagedSleeper : Sys := { dev := {
  regs := [(PM_WAKEEN.id, [(0, 1)])]
  staged := [{ batch := 5, reg := TB_TICK, ix := 0, val := 5 }]
  pw := { asleep := true, held := false, por := false } } }

theorem exec_wakeEvent (src : Fin 5) (m : Bool) (k : Word) (s : State) :
    exec (.wakeEvent src m k) s = .next { s with sys := wakeEvent s.sys src.val m k.toNat } := rfl

/-- The staged value is in force after tick 0 of the wake. -/
theorem wakeEvent_stagedSleeper_tick :
    (wakeEvent stagedSleeper (0 : Fin 5).val true (0 : Word).toNat).dev.rd TB_TICK = 5 := by decide +kernel

/-- Refutes O38: a value staged for TB_TICK is applied at the boundary of tick 0 of a wake (R430), so TB_TICK need not read 0
after the wake. -/
theorem not_sleepAndModeCommandsAct : ¬ Obligations.SleepAndModeCommandsAct := by
  unfold Obligations.SleepAndModeCommandsAct
  rintro ⟨-, -, -, -, -, -, -, -, -, -, hwake, -⟩
  have hen : stagedSleeper.dev.bit PM_WAKEEN 0 (0 : Fin 5).val = true := by decide
  obtain ⟨t, ht, -, -, -, -, -, hzero⟩ := hwake { sys := stagedSleeper } 0 true 0 rfl rfl hen
  rw [exec_wakeEvent] at ht
  obtain ⟨htick, -⟩ := hzero rfl
  rw [← Host.Outcome.next.inj ht] at htick
  exact absurd (wakeEvent_stagedSleeper_tick.symm.trans htick) (by decide)

end Sys2Proof.Machine
end
